-- ==== Sys2Proof/Word.lean ====
section
/-!
DEFINITION. Words, bytes, lines and bit fields; the sparse map in one canonical form that the register file and the
sparse stores use.
-/

namespace Sys2Proof

/-- One byte. -/
abbrev Byte := BitVec 8

/-- One 8-byte word of setup space (R469). -/
abbrev Word := BitVec 64

/-- One 64-byte line; byte j of the line is bits [8j+7:8j] (R8, R9). -/
abbrev Line := BitVec 512

namespace Bits

/-- Bits [lo + w - 1 : lo] of a number (R8). -/
def field (x lo w : Nat) : Nat := x / 2 ^ lo % 2 ^ w

/-- The single bit n of a number. -/
def bit (x n : Nat) : Bool := x / 2 ^ n % 2 == 1

/-- `x` with bits [lo + w - 1 : lo] replaced by the low `w` bits of `v`. -/
def setField (x lo w v : Nat) : Nat := x - field x lo w * 2 ^ lo + v % 2 ^ w * 2 ^ lo

/-- The positions of the bits of a number that are 1, below `n`. -/
def ones (x n : Nat) : List Nat := (List.range n).filter (bit x ·)

/-- Parity of the low `n` bits of a number. -/
def parity (x n : Nat) : Nat := (ones x n).length % 2

/-- Quotient rounded up. -/
def ceilDiv (a b : Nat) : Nat := (a + b - 1) / b

/-- 1 or 0. -/
def ofBool (b : Bool) : Nat := if b then 1 else 0

/-- A little-endian byte string as a number (R9). -/
def leNat : List Byte → Nat
  | [] => 0
  | b :: bs => b.toNat + 256 * leNat bs

/-- The `n` little-endian bytes of a number (R9). -/
def leBytes : Nat → Nat → List Byte
  | 0, _ => []
  | n + 1, x => BitVec.ofNat 8 x :: leBytes n (x / 256)

/-- The `n` bytes of a number, most significant first (R9: Boesque headers). -/
def beBytes (n x : Nat) : List Byte := (leBytes n x).reverse

end Bits

/-- A sparse map from numbers to values: pairs with keys strictly rising, none equal to the default of its key. -/
abbrev SMap (α : Type) := List (Nat × α)

/-- The value listed for a key. -/
def SMap.find? {α : Type} (m : SMap α) (k : Nat) : Option α :=
  (List.find? (fun p => p.1 == k) m).map (·.2)

/-- Insert a pair before the first larger key. -/
def SMap.ins {α : Type} (k : Nat) (v : α) : SMap α → SMap α
  | [] => [(k, v)]
  | p :: m => if k < p.1 then (k, v) :: p :: m else p :: SMap.ins k v m

/-- Remove a key. -/
def SMap.erase {α : Type} (m : SMap α) (k : Nat) : SMap α := List.filter (fun p => p.1 != k) m

/-- Give a key a value, replacing what it had. -/
def SMap.put {α : Type} (m : SMap α) (k : Nat) (v : α) : SMap α := (m.erase k).ins k v

/-- Give a key a value, or remove it when the value is its default. -/
def SMap.set {α : Type} [DecidableEq α] (m : SMap α) (k : Nat) (dflt v : α) : SMap α :=
  if v = dflt then m.erase k else m.put k v

/-- The canonical form: keys strictly rising. -/
def SMap.sorted {α : Type} : SMap α → Bool
  | [] => true
  | [_] => true
  | p :: q :: m => p.1 < q.1 && SMap.sorted (q :: m)

end Sys2Proof
end

