-- ==== Sys2Proof/Syntax.lean ====
section
/-!
DEFINITION. The commands of the block: one constructor of `Instr` per row of opcode_table.json, with the row's operands,
and the operand types. Numbers in operands are plain naturals; a meaning reads each to the width its field has.
-/

namespace Sys2Proof

/-- Path of a setup access: the management function or MCTP with the sender's EID (R22). -/
inductive Path where
  | mf
  | mctp (eid : Nat)
  deriving DecidableEq, Repr

/-- MetaField and MetaValue of a host request: No-Op, or Meta0-State with value I, S or A (Table 8.7). -/
inductive MetaState where
  | noop | i | s | a
  deriving DecidableEq, Repr

/-- What a DRAM read of grains returned (R335, R59): clean data, a corrected error, an uncorrectable error, grains whose
tag does not match, or a page record whose RECORD_MAC does not match. -/
inductive Ecc where
  | ok | corrected | uncorrectable | tagMismatch | recordError
  deriving DecidableEq, Repr

/-- Why a page is lifted (Table 6.1). -/
inductive LiftCause where
  | growth | heat | pin | command
  deriving DecidableEq, Repr

/-- The atoll fields that may change while Live (Table 2.6). -/
inductive AtlField where
  | base | size | coh | comp | place | seal | offshore | contract | type | visitorWt | chanSet | quota | keyCur | keyNext
  | ikeyCur | ikeyNext
  deriving DecidableEq, Repr

/-- A secure session of an SPDM requester: the roles it holds (bit 0 key, bit 1 clear, bit 2 test, as `ID_ROLE_BITS`),
whether it is mutually authenticated, its transport (0 DOE, 1 MCTP), the head or EID, the session id and the digest of
the requester's leaf certificate (R144, R445). -/
structure Session where
  roles : Nat
  mutualAuth : Bool
  mctp : Bool
  origin : Nat
  id : Nat
  digest : List Byte
  deriving DecidableEq, Repr

/-- A message of the archipelago, Tables 8.2 and 13.2, with the fields of the message header of Table 12.4. `src` is the
sled that sent it. -/
structure Msg where
  src : Nat
  code : Nat
  poison : Bool
  push : Bool
  dirty : Bool
  txid : Nat
  home : Nat
  line : Nat
  rqs : Nat
  agent : Nat
  grant : Nat
  after : Nat
  opst : Nat
  body : List Byte
  deriving DecidableEq, Repr

/-- A PCIe AtomicOp (R195): operation, and operand size in bits. -/
inductive PcieAtomic where
  | fetchAdd (bits : Nat)
  | swap (bits : Nat)
  | cas (bits : Nat)
  deriving DecidableEq, Repr

/-- The causes of a retrain or of a rate or width change (R206). -/
inductive RetrainCause where
  | equalization | errorRate | hostRequest | l0p (lanes : Nat) | sledL0p (lanes : Nat)
  deriving DecidableEq, Repr

/-- The mailboxes of R214: of an LD, of the management function, and the FM API over MCTP. -/
inductive Mbox where
  | ld (n : Nat)
  | mgmt
  | fmapi
  deriving DecidableEq, Repr

/-- The CXL event logs (Table 9.5). -/
inductive EvLog where
  | info | warn | fail | fatal | dcd
  deriving DecidableEq, Repr

/-- The logs of Get Log (R214, R383). -/
inductive LogId where
  | cel | effects | lighthouse | other
  deriving DecidableEq, Repr

/-- A configuration package (R441): the boot selector (0 slot A, 1 slot B), the insertion delay and inrush limit, the management
head, the role table's digests and role bits by entry, whether every CRC-32 is right, and its bytes. -/
structure ConfigPkg where
  selector : Nat
  insDelay : Nat
  inrush : Nat
  mgmtHead : Nat
  roles : List (Nat × Nat)
  crcOk : Bool
  bytes : Nat
  deriving DecidableEq, Repr

/-- An image in a firmware slot as the ROM finds it (R438): whether its signature verifies under a key that is not revoked, whether
the body matches the digest, its SVN and version, and, for slot 3, the package. -/
structure FwImage where
  signed : Bool
  digestOk : Bool
  svn : Nat
  version : Nat
  pkg : Option ConfigPkg
  deriving DecidableEq, Repr

/-- A range of LD DPA or global DPA, in bytes. -/
structure Range where
  base : Nat
  len : Nat
  deriving DecidableEq, Repr

/-- What host memory returned to a DMA read: bytes, or a failed read. -/
inductive HostRead where
  | ok (bs : List Byte)
  | failed
  deriving DecidableEq, Repr

/-- Who uses a Ferry port: an LD's aperture, or an MCTP requester with its EID (R247). -/
inductive FerryPort where
  | ld (n : Nat)
  | mctp (eid : Nat)
  deriving DecidableEq, Repr

/-- The payload of a HELLO control packet (Table 12.8). -/
structure Hello where
  verMax : Nat
  mtuMax : Nat
  rateMax : Nat
  features : Nat
  suites : Nat
  sled : Nat
  port : Nat
  direct : Bool
  ident : Nat
  nonce : Nat
  echo : Nat
  oldSession : Nat
  oldExpect : Nat
  reqBudget : Nat
  deriving DecidableEq, Repr

/-- A frame as it reaches a port (R262 to R268): whether it is a pause frame, whether its FCS and its ICV verify and its
association number, its addresses and protected EtherType, the header of Table 12.4 with whether every reserved bit is 0, the
control type of a CTL packet, whether the fabric can take the packet (R273), and the messages whose last byte its payload holds
(R267). -/
structure Frame where
  pause : Bool
  fcsOk : Bool
  icvOk : Bool
  an : Nat
  dstMac : Nat
  srcMac : Nat
  ethertype : Nat
  ver : Nat
  cls : Nat
  prio : Nat
  ackv : Bool
  reserved : Bool
  seq : Nat
  ack : Nat
  src : Nat
  dst : Nat
  len : Nat
  session : Nat
  ctlType : Nat
  fits : Bool
  msgs : List Msg
  deriving DecidableEq, Repr

/-- A DIMM as its SPD reports it (R322, Table 15.1): module type 1 RDIMM, 2 MRDIMM, 0 any other; DRAM width, density in Gb and
stack height; package ranks; capacity in GiB; the highest rate in MT/s; tAA, tRCD and tRP in ps at the settled rate; whether
every CRC is valid; and its manufacturer id and serial number. -/
structure Dimm where
  kind : Nat
  width : Nat
  density : Nat
  stack : Nat
  ranks : Nat
  cap : Nat
  maxRate : Nat
  taa : Nat
  trcd : Nat
  trp : Nat
  crcOk : Bool
  serial : Nat
  deriving DecidableEq, Repr

/-- What a spare could not read of the failed islet (Table 17.5): directory sets, metadata records, Lagoon lines, and
whether a tag did not read (R370). -/
structure TakeoverLoss where
  dirSets : List Nat
  records : List Nat
  lines : List Nat
  tagLost : Bool
  deriving DecidableEq, Repr

/-- SPDM requests (R445). -/
inductive SpdmReq where
  | getVersion | getCapabilities | negotiateAlgorithms | getDigests | getCertificate | challenge | getMeasurements
  | keyExchange | finish | heartbeat | keyUpdate | endSession | vendorDefined | other
  deriving DecidableEq, Repr

/-- PLDM requests (R447). -/
inductive PldmReq where
  | base | fru | sensor (id : Nat) | other
  deriving DecidableEq, Repr

/-- TAP instructions (R449). -/
inductive TapIr where
  | bypass | idcode | sample | preload | extest | other
  deriving DecidableEq, Repr

/-- IDE_KM and CXL IDE_KM operations (R168). -/
inductive IdeOp where
  | query | keyProg (cxl : Bool) (skid : Bool) | setGo (cxl : Bool) | setStop (cxl : Bool) | other
  deriving DecidableEq, Repr

/-- MCTP control commands (R447). -/
inductive MctpOp where
  | setEndpointId (eid : Nat) | getEndpointId | getVersionSupport | getMessageTypeSupport | other
  deriving DecidableEq, Repr


/-- The commands, one per row of the opcode table. -/
inductive Instr where
  /-- A setup-space write to a field that has no row of its own is checked, then applied or refused, under the
      access code of its field. (R471) -/
  | registerWrite (p : Path) (addr size value : Nat)
  /-- A vendor-defined PCI message over MCTP reads or writes setup space as a series of word accesses and returns
      a completion code. (R448) -/
  | mctpSetupAccess (eid : Nat) (write : Bool) (off len : Nat) (data : List Byte)
  /-- A write of 1 to SETUP_LOCK locks every RWL field until the next cold start. (R472) -/
  | setupLock
  /-- A write of 1 to VW_VALID is checked against the atoll's state and the limits on views, then opens the view
      or is refused with a VW_ERR code. (R41) -/
  | viewOpen (v ld atoll ldbase : Nat)
  /-- A write of 0 to VW_VALID unmaps new requests through the view and starts back-invalidation of the LD's head
      on an S atoll. (R41) -/
  | viewClose (v : Nat)
  /-- VW_CLOSING clears once the last back-invalidate of a closing view has been answered. (R41) -/
  | viewCloseComplete (v : Nat)
  /-- A write to an atoll entry is examined in order, and admission and the checks of R43, R44 and R45 apply or
      refuse it, with the outcome in ATL_ERR. (R44) -/
  | atollEntryWrite (n off value : Nat)
  /-- A write moves a Free atoll entry to Building, which makes its attribute fields writable. (R43) -/
  | atollBuild (n : Nat)
  /-- A write moves a Building atoll entry back to Free. (R43) -/
  | atollUnbuild (n : Nat)
  /-- A write of Live to a Building atoll runs admission, which makes the atoll Live or leaves it Building with a
      reason in ATL_ERR. (R44) -/
  | atollAdmit (n : Nat)
  /-- A write to a field of a Live atoll is applied only as Table 2.6 allows, for example starting a recall or a
      write-back of visitor lines. (R45) -/
  | atollLiveChange (n : Nat) (f : AtlField) (value : Nat)
  /-- A write of Retiring to a Live atoll that no view names starts the retiring sequence of Table 2.5. (R43) -/
  | atollRetire (n : Nat)
  /-- Once the frees and key zeroisation of the retiring sequence are done, hardware sets the atoll Free and logs
      the retirement. (R43) -/
  | atollRetireComplete (n : Nat)
  /-- Once per TIER_HEAT_PERIOD the sled re-evaluates the elastic pool and issues Add Capacity event records for
      further extents. (R49) -/
  | addCapacityOffer
  /-- In each flit slot a host harbour accepts one complete flit from a head when buffer room allows, returns or
      withholds credits, and classes the slot. (R53) -/
  | flitSlot (h units reqs : Nat) (replay mapped : Bool)
  /-- A host read of a line is decoded through the views, routed to its home and served from the Lagoon, the page
      record or DRAM. (R57) -/
  | memrd (ld dpa tag : Nat) (ms : MetaState)
  /-- A host MemRdData on an S atoll is mapped by its MetaValue to RD_OWN, RD_SHD or RD_CUR at the home. (R190) -/
  | memrddata (ld dpa tag : Nat) (ms : MetaState)
  /-- Grains read by a channel harbour return to the home, which unseals, decodes and checks them and then answers
      the request. (R57) -/
  | dramDataReturn (acc : Nat) (ecc : Ecc)
  /-- When a move or re-seal releases LOCK, the requests waiting on the page are served before any new move can
      take the lock. (R60) -/
  | lockedRequestResume (pn : Nat)
  /-- A full-line host write is posted into the home Lagoon as a dirty line and completed, after any coherence
      actions it needs. (R61) -/
  | memwr (ld dpa tag : Nat) (ms : MetaState) (data : Line)
  /-- A partial host write is posted with a byte mask and completed, and the home fetches the line for the merge.
      (R62) -/
  | memwrptl (ld dpa tag : Nat) (ms : MetaState) (data : Line) (mask : Nat)
  /-- The fetched line of a partial write arrives and is merged under the byte mask, or the line stays poisoned
      and the write is counted as dropped. (R62) -/
  | partialMerge (acc : Nat) (ecc : Ecc)
  /-- A dirty line leaves the write-back buffer and is sealed, coded and stored in its page, or triggers a lift, a
      re-seal or a drop. (R64) -/
  | writeBack (line : Nat)
  /-- A host request that has waited HBR_PATIENCE on a peer, a recall or a lock is answered with poison. (R220) -/
  | patienceExpire (id : Nat)
  /-- At most once per 1 ms per short home, the home with the largest headroom gives a wholly free stripe to a
      home below its mid watermark. (R100) -/
  | stripeTransfer
  /-- Within 1 s of a change that left slack, the Dredger frees the trailing plots of a Deep extent under LOCK.
      (R106) -/
  | trim (pn : Nat)
  /-- The Dredger codes a Shallows page into a Deep extent under LOCK, commits the new record and frees the old
      plots. (R107) -/
  | sink (pn : Nat)
  /-- The Dredger allocates a block, rewrites a Deep page raw into Shallows under LOCK, merges any triggering
      write-back and commits. (R480) -/
  | lift (pn : Nat) (cause : LiftCause)
  /-- A lift waiting at step 1 for a free block or a channel in service resumes when the block becomes available.
      (R480) -/
  | liftBlockFound (pn : Nat)
  /-- The Dredger copies an extent's ciphertext to another window under LOCK, commits the new base and frees the
      old plots. (R107) -/
  | relocation (pn ch : Nat)
  /-- After a move's commit and the return of every DRAM read issued to them, the old plots are freed and the
      tally updated. (R107) -/
  | oldPlotsFree
  /-- While compaction is due, the Dredger empties the block with the fewest allocated plots by relocating its
      Deep extents. (R108) -/
  | compaction (h : Nat)
  /-- The sweep walks each home's records and maps and checks the tally equalities and the claim on every plot.
      (R112) -/
  | sweepVisit (h : Nat)
  /-- After headroom has held above a watermark plus hysteresis for 100 ms, the level falls toward Calm. (R115) -/
  | levelLeave (h : Nat)
  /-- Once per second at Surge and Flood, the sled computes the shortfall and issues Release Capacity requests for
      the coldest extents. (R118) -/
  | releaseRequestEval
  /-- At the later of an extent's release deadline and the entry to Flood, the extent is revoked and reported.
      (R119) -/
  | revocation (ld start : Nat)
  /-- At the end of each second of Reef time in which elastic write-backs were dropped at zero headroom, one
      0x0013 record is written. (R121) -/
  | exhaustionRecord
  /-- A write to GRN_ELASTIC_EN enables elastic exposure, or disables it unless an Elastic atoll is not Free.
      (R117) -/
  | grnElasticEnWrite (v : Bool)
  /-- A read of a home's GRN_FREE returns its live value and latches the rest of that home's group for the reading
      path. (R123) -/
  | grnFreeRead (p : Path) (h : Nat)
  /-- Every TIER_HEAT_PERIOD the heat period counter advances, unless R128 holds the boundary back. (R126) -/
  | heatPeriodAdvance
  /-- The cold scan visits one page record, ages it when idle for 32 periods, and makes the placement decisions of
      Table 6.1. (R127) -/
  | coldScanVisit (pn : Nat)
  /-- A heat lift queued by an access starts within 1 ms, or after the page's lock is released. (R129) -/
  | heatLift (pn : Nat)
  /-- A home recalls an Offshore page by IMG_GET when its recall mode, a write-back or a command asks for it.
      (R294) -/
  | pageRecall (pn : Nat)
  /-- A KEY_SET message in an authorised SPDM session writes key material into an empty slot and returns its check
      value. (R144) -/
  | keySet (s : Session) (kind index : Nat) (material : List Byte)
  /-- A KEY_ZERO message zeroises a key slot unless an atoll that is not Free needs it. (R144) -/
  | keyZero (s : Session) (kind index : Nat)
  /-- A KEY_STATUS message returns the status and key check value of a slot. (R147) -/
  | keyStatus (s : Session) (kind index : Nat)
  /-- A write to key slot material through the management function or plain MCTP has no effect and is counted per
      word. (R144) -/
  | keyMaterialWrite (off size : Nat)
  /-- A write-back to a line whose counter is 65,535 re-seals its page in place with EPOCH plus 1 and every
      counter at 0. (R155) -/
  | reseal (line : Nat)
  /-- When a page of a sealed atoll reaches TDL_AUTO_EPOCH, the sled starts a rotation, or logs that a next key is
      needed. (R157) -/
  | rotationAutoStart (atoll : Nat)
  /-- Every 10 minutes the sled repeats the record and event that a next key is needed for an atoll. (R157) -/
  | nextKeyReminder (atoll : Nat)
  /-- A write of TDL_SLOT_START with an atoll starts a rotation when the conditions hold, or is refused with a
      TDL_SLOT_ERR code. (R162) -/
  | tdlSlotStart (slot atoll : Nat)
  /-- A write of TDL_SLOT_PAUSE or TDL_EN pauses or resumes rotations at the next page boundary. (R171) -/
  | tdlSlotPause (which : Option Nat) (v : Bool)
  /-- The Tideline offers a local page and re-seals it under the next keys with EPOCH 0, or passes it while it is
      busy. (R163) -/
  | tidelinePageRotate (slot : Nat)
  /-- The Tideline fetches an Offshore image, re-seals it under the next keys and sends it to a holder. (R163) -/
  | imageRewrite (slot : Nat)
  /-- When the tideline reaches the atoll's page count, the next keys become current, the old slots are zeroised
      and the slot is freed. (R163) -/
  | rotationFinish (slot : Nat)
  /-- The home serves a current read of a line without granting a state, snooping an exclusive holder as needed.
      (R182) -/
  | rdCur (m : Msg)
  /-- The home grants a line shared to the requester, downgrading or forwarding from an exclusive holder as
      needed. (R182) -/
  | rdShd (m : Msg)
  /-- The home invalidates other holders or forwards, then grants ownership of a line to the requester. (R182) -/
  | rdOwn (m : Msg)
  /-- The home invalidates every holder, applies a full-line write in its Lagoon and completes it. (R182) -/
  | wrLine (m : Msg)
  /-- The home invalidates every holder, applies a partial write under its byte mask and completes it. (R182) -/
  | wrPtl (m : Msg)
  /-- The home takes the line, performs an atomic operation of Table 8.8 in its Lagoon and returns the old value.
      (R194) -/
  | atom (m : Msg)
  /-- A visitor invalidates its copy of a line, back-invalidating its own heads, and answers the home. (R187) -/
  | snpInv (m : Msg)
  /-- A visitor downgrades its copy of a line to shared and answers the home, with data when the copy is dirty.
      (R187) -/
  | snpShd (m : Msg)
  /-- An owning visitor sends shared data directly to the requester and keeps its line in S or O. (R187) -/
  | fwdShd (m : Msg)
  /-- An owning visitor sends the line to the requester with the grant and invalidates its own copy. (R187) -/
  | fwdOwn (m : Msg)
  /-- A surviving party of a forward answers with its data or ACK_I so that the home can resolve a lost peer.
      (R187) -/
  | snpResolve (m : Msg)
  /-- The home counts an invalid answer from a holder, or grants from its own copy when a forward found no owner
      copy. (R185) -/
  | ackI (m : Msg)
  /-- The home counts a shared answer from a holder, which is now S. (R185) -/
  | ackS (m : Msg)
  /-- The home takes a holder's answer that its write-back crossed the snoop, once that write-back has arrived.
      (R185) -/
  | ackWb (m : Msg)
  /-- A visitor in a transient state takes a completion and its grant, and sends GNT_ACK. (R187) -/
  | cmp (m : Msg)
  /-- A requester takes an error completion, and its waiting requests receive poison. (R187) -/
  | cmpErr (m : Msg)
  /-- The home closes a transaction when the requester acknowledges its grant, recording the owner's state after a
      forward. (R185) -/
  | gntAck (m : Msg)
  /-- The home removes a visitor that dropped a clean line, and frees the entry when no holder remains. (R184) -/
  | clnEvict (m : Msg)
  /-- A visitor in MI_A takes the home's acknowledgement of its write-back and goes to I. (R187) -/
  | wbAck (m : Msg)
  /-- The home learns that a forward was undelivered and serves the request through itself. (R185) -/
  | fwdFail (m : Msg)
  /-- A requester installs line data, an atomic result or a pushed copy in the granted state. (R187) -/
  | data (m : Msg)
  /-- The home takes a visitor's write-back into its Lagoon dirty, removes the sender and answers WB_ACK. (R184) -/
  | wb (m : Msg)
  /-- The home takes a visitor's write-through into the write-back buffer, leaves its state and answers WB_ACK.
      (R184) -/
  | wbKeep (m : Msg)
  /-- The home takes data and the state after from a snooped holder and counts one answer. (R185) -/
  | snpData (m : Msg)
  /-- A requesting visitor receives forwarded data and the grant from the owner, and sends GNT_ACK. (R193) -/
  | fwdData (m : Msg)
  /-- A visitor evicts a line, sending CLN_EVICT for a clean copy or WB for a dirty one. (R187) -/
  | visitorEviction (home line : Nat)
  /-- The home removes a head that dropped a clean line of an S atoll. (R184) -/
  | memclnevct (ld dpa tag : Nat)
  /-- A MemWr or MemWrPtl from a head recorded as holder is taken as a write-back and sets the head's new state.
      (R184) -/
  | headWriteBack (ld dpa tag : Nat) (ms : MetaState) (data : Line) (mask : Nat)
  /-- The home takes a head's BIRspI as ACK_I for its back-invalidate snoop. (R190) -/
  | birspi (h line : Nat)
  /-- The home takes a head's BIRspS as ACK_S for its back-invalidate snoop. (R190) -/
  | birsps (h line : Nat)
  /-- The home takes a head's BIRspE after BISnpCur, and the head keeps E. (R190) -/
  | birspe (h line : Nat)
  /-- The home answers a head's BIConflict with BIConflictAck in order with the head's requests to the line.
      (R191) -/
  | biconflict (h line : Nat)
  /-- A head that has not answered a BISnp within DIR_BISNP_TIMEOUT becomes Contained and is removed from every
      entry. (R192) -/
  | bisnpTimeout (h : Nat)
  /-- A PCIe AtomicOp at an LD's HDM alias window is executed as ATOM, or completed as Unsupported Request or with
      EP. (R195) -/
  | pcieAtomicop (ld off tag : Nat) (op : PcieAtomic) (a b : Nat)
  /-- A write of a port group's bifurcation is refused while the group is enabled or viewed, otherwise it acts at
      the next enable. (R202) -/
  | hbrGrpBifurWrite (g v : Nat)
  /-- A write of HBR_GRP_EN powers a port group's domain down once its requests complete, or up and into training.
      (R430) -/
  | hbrGrpEnWrite (g : Nat) (v : Bool)
  /-- A write of an LD's validity, head or LD-ID is checked against the LD rules and its views and queue pairs,
      and acts at the next link-up. (R208) -/
  | hbrLdWrite (n : Nat) (valid : Bool) (head ldid : Nat)
  /-- A write of HBR_MGMT_HEAD moves the management function to another head at that head's next link-up. (R209) -/
  | hbrMgmtHeadWrite (h : Nat)
  /-- A write of a head's ingress reserve is refused when the reserves exceed 32 units, otherwise it acts on the
      next flit admission. (R213) -/
  | hbrHeadResvWrite (h v : Nat)
  /-- A head's link enters L0, and the sled updates the head status word and reports a mode below configuration.
      (R207) -/
  | headEnterL0 (h width rate flit : Nat)
  /-- A head retrains or changes rate or width on equalization failure, an error threshold or a host request.
      (R206) -/
  | headRetrain (h : Nat) (cause : RetrainCause)
  /-- A link down, hot reset, PERST# or Secondary Bus Reset completes the head's accepted requests inside the sled
      and removes the head from the directory. (R218) -/
  | linkDown (h : Nat)
  /-- An FLR of an LD acts as a link down for that LD's requests and directory entries only. (R218) -/
  | flr (ld : Nat)
  /-- A CXL Reset of an LD acts as its FLR. (R218) -/
  | cxlReset (ld : Nat)
  /-- The management head's link goes down, and mailbox commands in progress complete with their responses
      discarded. (R218) -/
  | mgmtLinkDown
  /-- The Identify mailbox command returns the vendor ID, device ID and identity word. (R437) -/
  | identify (mb : Mbox)
  /-- The command returns the progress of the mailbox's background command. (R214) -/
  | backgroundOperationStatus (mb : Mbox)
  /-- The command returns the response message limit of 1 MiB. (R214) -/
  | getResponseMessageLimit (mb : Mbox)
  /-- The command returns records from an event log of the LD or the management function. (R215) -/
  | getEventRecords (mb : Mbox) (log : EvLog)
  /-- The command frees space in an event log so that further records are added. (R215) -/
  | clearEventRecords (mb : Mbox) (log : EvLog) (all : Bool) (handles : List Nat)
  /-- The command returns the MSI-X interrupt policy of the event logs. (R214) -/
  | getEventInterruptPolicy (mb : Mbox)
  /-- The command sets the MSI-X interrupt policy of the event logs. (R214) -/
  | setEventInterruptPolicy (mb : Mbox) (policy : List Nat)
  /-- The command reports firmware slots A, B and the configuration slot. (R440) -/
  | getFwInfo (mb : Mbox)
  /-- The command writes an image into a slot that is not active, or a configuration package into slot 3. (R440) -/
  | transferFw (mb : Mbox) (slot : Nat) (image : FwImage)
  /-- The command verifies a new image and activates it online within a management-plane pause of at most 20 ms.
      (R440) -/
  | activateFw (mb : Mbox) (slot : Nat) (online selfCheckOk : Bool)
  /-- The command returns Reef time plus the mailbox's offset. (R214) -/
  | getTimestamp (mb : Mbox)
  /-- The command sets the mailbox's timestamp offset. (R214) -/
  | setTimestamp (mb : Mbox) (t : Nat)
  /-- The command lists the logs that the mailbox offers. (R214) -/
  | getSupportedLogs (mb : Mbox)
  /-- The command returns bytes of a log, including the Lighthouse log on the management function. (R383) -/
  | getLog (mb : Mbox) (log : LogId) (off len : Nat)
  /-- The command lists the supported features. (R214) -/
  | getSupportedFeatures (mb : Mbox)
  /-- The command returns the value of a feature. (R214) -/
  | getFeature (mb : Mbox) (feature : Nat)
  /-- The command sets a feature on the management function, and is refused through an LD mailbox. (R214) -/
  | setFeature (mb : Mbox) (feature value : Nat)
  /-- The command reports the LD's static capacity and a poison list size of 4,096. (R211) -/
  | identifyMemoryDevice (mb : Mbox)
  /-- The command reports volatile-only capacity that cannot be partitioned. (R214) -/
  | getPartitionInfo (mb : Mbox)
  /-- The command returns the LD's poisoned lines in a range, in increasing address, with overflow when an index
      is full. (R216) -/
  | getPoisonList (mb : Mbox) (dpa len : Nat)
  /-- The command marks a line poisoned as a decode error does, when HBR_INJECT_EN is 1. (R214) -/
  | injectPoison (mb : Mbox) (dpa : Nat)
  /-- The command acts as a full-line write of the given data, which removes the poison. (R62) -/
  | clearPoison (mb : Mbox) (dpa : Nat) (data : Line)
  /-- The command reports the scan media capabilities of a range. (R214) -/
  | getScanMediaCapabilities (mb : Mbox) (dpa len : Nat)
  /-- The command walks the page records of a range in the background to find poisoned lines. (R214) -/
  | scanMedia (mb : Mbox) (dpa len : Nat)
  /-- The command returns the results of the last scan media. (R214) -/
  | getScanMediaResults (mb : Mbox)
  /-- The command returns the LD's DC regions, which follow its views of Elastic atolls. (R211) -/
  | getDynamicCapacityConfiguration (mb : Mbox)
  /-- The command returns the LD's accepted extents. (R214) -/
  | getDynamicCapacityExtentList (mb : Mbox)
  /-- The response accepts named parts of open offers and withdraws the rest, or returns Invalid Input and accepts
      nothing. (R217) -/
  | addDynamicCapacityResponse (mb : Mbox) (exts : List Range)
  /-- The command unmaps an accepted extent at once, and the homes drop its lines, free its extents and reset its
      pages. (R122) -/
  | releaseDynamicCapacity (mb : Mbox) (exts : List Range)
  /-- The FM API command returns the LD count and static capacity of one head. (R214) -/
  | getLdInfo (h : Nat)
  /-- The FM API command returns the static capacity of each LD. (R214) -/
  | getLdAllocations (first count : Nat)
  /-- The FM API command writes HBR_LD_CAP under the LD and view rules. (R211) -/
  | setLdAllocations (first : Nat) (caps : List Nat)
  /-- The FM API command reports the regulation settings. (R214) -/
  | getQosControl
  /-- The FM API command reports the regulation status. (R214) -/
  | getQosStatus
  /-- The FM API command returns the heads and the LD count of each. (R214) -/
  | getMultiHeadedInfo
  /-- The FM API command returns a head's settled mode from its status word. (R207) -/
  | getHeadInfo (h : Nat)
  /-- The FM API command returns the dynamic capacity device information. (R214) -/
  | getDcdInfo
  /-- The FM API command returns a host's DC region configuration. (R214) -/
  | getHostDcRegionConfiguration (ld : Nat)
  /-- The FM API command returns the extent lists of DC regions. (R214) -/
  | getDcRegionExtentLists (ld : Nat)
  /-- The FM API command issues a release request for a named extent with a deadline of GRN_DEADLINE. (R214) -/
  | initiateDynamicCapacityRelease (ld : Nat) (ext : Range)
  /-- A mailbox or FM API opcode that is not supported, including QoS settings and DC region writes, returns
      Unsupported. (R214) -/
  | mailboxUnsupported (mb : Mbox) (opcode : Nat)
  /-- A write of 1 to QP_EN of a Disabled queue pair runs the enable checks and resets its pointers into Enabled.
      (R223) -/
  | qpEnable (q : Nat)
  /-- A write of 0 to QP_EN starts Draining, in which fetched descriptors stop at their next boundary with
      ABORTED. (R223) -/
  | qpDisable (q : Nat)
  /-- A draining queue pair reaches Disabled once its fetched descriptors have completed. (R223) -/
  | qpDrained (q : Nat)
  /-- An owner's write of bit 0 in its queue-control page acts as a write of QP_EN when QP_LD_CTRL is 1. (R246) -/
  | qpControlPageWrite (ld q value : Nat)
  /-- A write to a bell line moves a queue pair's submission tail or completion head, half by half, when the move
      is valid. (R227) -/
  | bellWrite (ld dpa : Nat) (data : Line) (mask : Nat)
  /-- A read of a bell line returns the submission head, completion tail and phase of each owned, active queue
      pair. (R228) -/
  | bellRead (ld dpa tag : Nat)
  /-- A write or read of QP_MGMT_BELL acts as the bell of a management-owned queue pair. (R229) -/
  | qpMgmtBell (q : Nat) (write : Option Nat)
  /-- A queue islet fetches the next descriptor while it holds a completion slot and the depth allows, or puts the
      queue pair in Error. (R242) -/
  | descriptorFetch (q : Nat) (host : HostRead)
  /-- A queue islet serves one 4 KiB chunk or one non-data descriptor of an active queue pair in its round-robin
      turn. (R242) -/
  | descriptorTurn (islet : Nat) (host : HostRead)
  /-- After the last access of a descriptor, the queue islet writes its completion entry or counts it discarded.
      (R239) -/
  | descriptorComplete (q idx : Nat) (hostOk : Bool)
  /-- A NOP descriptor completes at once with no effect. (R231) -/
  | nop (q idx : Nat)
  /-- A FENCE starts when every earlier descriptor of its queue pair has completed, and completes at once. (R241) -/
  | fence (q idx : Nat)
  /-- A COPY descriptor copies bytes line by line between presented and host memory. (R232) -/
  | copy (q idx : Nat) (host : HostRead)
  /-- A FILL descriptor writes an 8-byte pattern over a range. (R232) -/
  | fill (q idx : Nat)
  /-- A ZERO descriptor writes zeros over a presented range. (R232) -/
  | zero (q idx : Nat)
  /-- A COMPARE descriptor compares two ranges and reports the first differing byte. (R232) -/
  | compare (q idx : Nat) (host : HostRead)
  /-- A MOVE_TIER descriptor moves each page of a range once to Shallows or Deep. (R138) -/
  | moveTier (q idx : Nat)
  /-- A PIN descriptor moves each page of a range to a tier and pins it there. (R138) -/
  | pin (q idx : Nat)
  /-- An UNPIN descriptor clears the pin of each page of a range. (R138) -/
  | unpin (q idx : Nat)
  /-- A HINT_HEAT descriptor sets the heat count and stamp of each page of a range. (R138) -/
  | hintHeat (q idx : Nat)
  /-- An OFFSHORE_PUSH descriptor pushes each page of a range Offshore, whatever its pins or heat. (R138) -/
  | offshorePush (q idx : Nat)
  /-- A RECALL descriptor recalls each Offshore page of a range. (R138) -/
  | recall (q idx : Nat)
  /-- An ATOMIC descriptor runs up to four atomic operations of its list in order, stopping at the first failure.
      (R233) -/
  | atomic (q idx : Nat) (host : HostRead)
  /-- A SEAL_ROTATE descriptor starts a key rotation of the atoll of its view when QP_PRIV allows. (R234) -/
  | sealRotate (q idx : Nat)
  /-- A MIRROR_SYNC descriptor sends each dirty page of a range to the partner and completes at the last
      acknowledgement. (R235) -/
  | mirrorSync (q idx : Nat)
  /-- A SAMPLE_DRAIN descriptor moves the owner's staged Soundings records into memory, oldest first. (R236) -/
  | sampleDrain (q idx : Nat)
  /-- A STATS descriptor in mode 0 writes a 64-byte summary of an atoll. (R236) -/
  | statsSummary (q idx : Nat)
  /-- A STATS descriptor in mode 1 writes a plaintext copy of the page record of each page of a range. (R236) -/
  | statsRecords (q idx : Nat)
  /-- A descriptor with an unknown opcode completes with INVALID_OPCODE. (R231) -/
  | invalidOpcode (q idx : Nat)
  /-- When QP_IRQ_USEC has passed since the first unsignalled completion, the queue pair sends its MSI-X message.
      (R243) -/
  | irqCoalesceTimeout (q : Nat)
  /-- A write burst to a Ferry aperture writes its span at the cursor and advances it, or is refused whole. (R250) -/
  | ferryWriteBurst (w : FerryPort) (data : List Byte) (enables : List Bool)
  /-- A read burst from a Ferry aperture reads its span at the cursor and advances it, or is refused whole. (R250) -/
  | ferryReadBurst (w : FerryPort) (len : Nat)
  /-- A write of FRY_CURSOR or FRY_M_CURSOR sets the cursor and fixes its range. (R249) -/
  | ferryCursorWrite (w : FerryPort) (value size : Nat)
  /-- A management-function access to the MCTP data aperture reads zero and is counted. (R247) -/
  | ferryMgmtAccess (write : Bool)
  /-- An AtomicOp to an LD Ferry aperture completes as Unsupported Request. (R248) -/
  | ferryAtomicop (ld tag : Nat)
  /-- A write of BQL_P_EN powers a Boesque port up in its PHY mode, or down once every link is Down. (R430) -/
  | portEnable (p : Nat) (v : Bool)
  /-- A write of BQL_L_EN enables a link slot, which starts HELLO, or disables it, subject to the peer and budget
      rules. (R260) -/
  | linkEnable (l : Nat) (v : Bool)
  /-- A write of BQL_L_AN_TX switches the MACsec association number used to transmit. (R283) -/
  | anTxWrite (l v : Nat)
  /-- A received Boesque frame is checked, and a sequenced packet is landed, discarded with a NAK, or discarded as
      a duplicate with an ACK. (R275) -/
  | frameReceive (p : Nat) (f : Frame)
  /-- A link takes a packet from the fabric, numbers it, keeps it for replay and sends it. (R271) -/
  | packetSend (l cls prio n : Nat)
  /-- A received HELLO advances the exchange, which settles the mode and resumes or starts a session, or is
      refused. (R269) -/
  | hello (l : Nat) (h : Hello)
  /-- A received ACK frees every packet before the acknowledged number. (R276) -/
  | ack (l n : Nat)
  /-- A received NAK frees earlier packets and replays from the named number. (R276) -/
  | nak (l n reason : Nat)
  /-- A received KEEPALIVE shows that the link is alive. (R278) -/
  | keepalive (l n : Nat)
  /-- A received RENEG proposal of a new rate or PHY mode is accepted, declined or settled against a crossing
      proposal. (R281) -/
  | reneg (l id rate : Nat) (phy : Bool) (ident : Nat)
  /-- A received answer to a proposal applies an accepted rate change or starts the PHY change through Held.
      (R282) -/
  | renegAns (l id result : Nat)
  /-- Every 100 µs, a link in Hello, Held, Grace or Down sends a HELLO. (R269) -/
  | helloTimer (l : Nat)
  /-- A link that is Up and has sent nothing for 100 µs sends a KEEPALIVE. (R278) -/
  | keepaliveTimer (l : Nat)
  /-- When BQL_ACK_TIME has passed since a packet landed unacknowledged, the receiver sends an ACK. (R275) -/
  | ackTimer (l : Nat)
  /-- Every 10 µs while a gap or landing-full NAK is outstanding, the receiver repeats it. (R275) -/
  | nakRepeat (l : Nat)
  /-- When the replay timer reaches BQL_REPLAY_TIMEOUT, the sender replays from the oldest unacknowledged packet.
      (R276) -/
  | replayTimeout (l : Nat)
  /-- A packet that still cannot be landed after 1 ms stops the receiver sending on the link, which enters Grace.
      (R273) -/
  | landingStallTimeout (l : Nat)
  /-- An unanswered RENEG is resent every 100 µs, and abandoned after 10 tries. (R281) -/
  | renegRetry (l : Nat)
  /-- A port that loses or regains lanes, or whose mode is written, proposes a renegotiation. (R281) -/
  | portLaneChange (p lanes : Nat)
  /-- A link silent for 1 ms while Up, or 100 ms while Held, is declared lost and enters Grace. (R278) -/
  | linkLoss (l : Nat)
  /-- When BQL_GRACE expires, the link enters Flushing, answers its originators and reclaims the lost peer's
      lines. (R279) -/
  | graceExpiry (l : Nat)
  /-- Once reclaim and solo operation are done, a flushed link enters Down and starts HELLO rounds for a new
      session. (R279) -/
  | flushComplete (l : Nat)
  /-- A JOIN exchange on an Up link makes the peer a member, frees stale images and sends pending releases and
      PAIR. (R287) -/
  | join (m : Msg)
  /-- A member receiving LEAVE recalls or moves every page it has at the leaver, then answers. (R301) -/
  | leave (m : Msg)
  /-- A holder stores a sealed image in its holding pool and answers with its grain address, or with no room.
      (R292) -/
  | imgPut (m : Msg)
  /-- A holder returns a matching held image as IMG_DATA. (R292) -/
  | imgGet (m : Msg)
  /-- A holder frees a matching held image, by address or by ISN. (R292) -/
  | imgRelease (m : Msg)
  /-- An owner receiving IMG_EVICT recalls the page or pushes it to another holder ahead of other pushes. (R295) -/
  | imgEvict (m : Msg)
  /-- A home checks and unseals a fetched image and completes a recall, a remote read or an image rewrite. (R294) -/
  | imgData (m : Msg)
  /-- The copy side applies a mirror write of a line through its own home as a posted write. (R297) -/
  | mirWr (m : Msg)
  /-- The copy side marks a line owned away with size code 7 before the primary grants it elsewhere. (R297) -/
  | mirOwn (m : Msg)
  /-- The copy side replaces a page from a sealed image and marks the masked lines owned away. (R299) -/
  | mirPage (m : Msg)
  /-- A partner answers MIR_FETCH with MIR_PAGE of its copy of a lost Offshore page. (R294) -/
  | mirFetch (m : Msg)
  /-- The copy side checks that its atoll matches the primary's attributes and keys, and pairs or answers status
      3. (R296) -/
  | pair (m : Msg)
  /-- A witness grants, holds or denies a sled's claim to serve a Dual-home atoll alone. (R298) -/
  | claim (m : Msg)
  /-- A witness that has received HEAL from both sleds of a pair accepts new claims again. (R298) -/
  | heal (m : Msg)
  /-- A target installs handed-over directory entries, becomes primary and answers. (R301) -/
  | handover (m : Msg)
  /-- A home answers a remote bind with its atoll entry words so that a visitor can admit a remote atoll. (R289) -/
  | rmtBind (m : Msg)
  /-- A requester takes the status of a service request, for example committing a push or promoting after a
      granted claim. (R288) -/
  | svcAck (m : Msg)
  /-- A write of ARC_EN enables archipelago services, or disables them only while no peer or paired state remains.
      (R286) -/
  | arcEnWrite (v : Bool)
  /-- A write of ARC_HOLD_GROUPS sets the holding pool when the stripes are free and R47 still holds. (R290) -/
  | arcHoldGroupsWrite (v : Nat)
  /-- A pairing command of mode 0 unpairs an atoll, leaving each sled's atoll standing alone. (R296) -/
  | pairUnpair (atoll peer role : Nat)
  /-- A pairing command of mode 1 makes a Mirror pair, and the primary sends PAIR. (R296) -/
  | pairMirror (atoll peer role : Nat)
  /-- A pairing command of mode 2 makes a Dual-home pair with a witness, and the primary sends PAIR. (R296) -/
  | pairDualHome (atoll peer role : Nat)
  /-- A pairing command of mode 3 at the copy side promotes it without a claim while the partner link is not Up.
      (R298) -/
  | pairPromote (atoll peer role : Nat)
  /-- A pairing command of mode 4 at a resynced primary hands the home of the atoll to the copy side. (R301) -/
  | pairHandover (atoll peer role : Nat)
  /-- A write of ARC_LEAVE recalls the sled's Offshore pages and sends LEAVE to each member. (R301) -/
  | arcLeave
  /-- A write to ARC_FORGET forgets a peer whose link is not Up, freeing its images and losing pages held there.
      (R302) -/
  | arcForget (mask : Nat)
  /-- A witness denies a secondary's claim when ARC_CLAIM_WAIT passes before its own link to the primary is lost.
      (R298) -/
  | claimWaitExpiry (a b : Nat)
  /-- A sled whose claim has no answer within twice ARC_CLAIM_WAIT fences the atoll. (R298) -/
  | claimTimeout (atoll : Nat)
  /-- A write of DRM_D_RETIRE or ARC_EVAC_START evacuates one DIMM by relocation and, where allowed, push. (R339) -/
  | dimmRetire (d : Nat)
  /-- When no plot is left on an evacuated DIMM, the DIMM is placed in self-refresh, retired and recorded. (R339) -/
  | evacuationComplete (d : Nat)
  /-- In each 32 ns window, a channel harbour issues the waiting access of highest rank under the tide table.
      (R307) -/
  | windowIssue (c w : Nat)
  /-- At each 2,048 ns frame boundary, the harbour counts deficits, applies admitted sets and starts or ends
      shrinks. (R317) -/
  | frameBoundary (c : Nat)
  /-- A write of RGL_COMMIT checks the staged regulation set and admits it for the next boundary, or refuses it.
      (R312) -/
  | rglCommit
  /-- A write of RGL_EN enables or disables regulation from the next frame boundary. (R320) -/
  | rglEnWrite (v : Bool)
  /-- A channel that leaves service has each master's share spread over its remaining channels, and the tables are
      rebuilt. (R315) -/
  | channelLeaveService (c : Nat)
  /-- Every 16 ms Pilot firmware reads the hub and DIMM temperature sensors, which can start or end double
      refresh. (R325) -/
  | dimmTempPoll (d : Nat) (t : Int) (coolFor1s : Bool)
  /-- A rank's all-bank refresh falls due and is issued, and any pending shadow delays are applied to that rank.
      (R334) -/
  | refresh (c rank : Nat)
  /-- A write of DRM_C_MP_CMD issues a maintenance-port command to a channel for training or drift readings.
      (R330) -/
  | mpCommand (c : Nat) (cmd : Nat) (byPilot : Bool)
  /-- Every DRM_DRIFT_MS Pilot firmware reads the DQS oscillators and writes new shadow delays. (R331) -/
  | driftUpdate (c k : Nat) (wr : List Nat)
  /-- A write of DRM_C_SHADOW_GO has each rank take its shadow delays at its next refresh. (R331) -/
  | shadowGo (c : Nat)
  /-- The scrubber reads a line and writes back a corrected codeword, or marks an uncorrectable line poisoned.
      (R336) -/
  | scrubRead (c ga : Nat) (ecc : Ecc)
  /-- A row that reaches the error threshold is emptied, repaired by sPPR, tested and recorded for hard repair.
      (R337) -/
  | rowRepair (c ga : Nat) (bistOk : Bool)
  /-- A write of DRM_C_PWRDN powers down a retired channel, and is refused for any other. (R340) -/
  | channelPowerDown (c : Nat)
  /-- At the end of each 1 µs window, the Reef counts every pace gauge and takes the lowest pace. (R346) -/
  | paceMeasure (gauges : List (Nat × Nat))
  /-- Every 4 µs the Reef compares the measured pace with the target and steps VCORE by 1 mV. (R347) -/
  | paceLoop (avsAck : Bool)
  /-- A change of power state or profile writes the kept VCORE for the new target and resumes the loop. (R348) -/
  | paceTargetChange
  /-- Every 100 µs a long strait lane sends a marker and checks that held, in-flight and occupied credits total
      16. (R358) -/
  | creditAudit (s held inFlight occupied returning : Nat)
  /-- A write of NOC_RECONF_GO closes a router, drains it and loads the staged route overrides. (R359) -/
  | routerReconfigure (r : Nat)
  /-- A packet held for 5 µs during a reconfiguration is injected on the alternate route. (R359) -/
  | altRouteTimeout (src dst cls : Nat)
  /-- When a destination echoes a route marker, the source returns its flow to the table route. (R359) -/
  | routeMarkerEcho (src dst cls : Nat)
  /-- When a route marker is absorbed, the source returns its flow to the table route 10 µs after the open. (R361) -/
  | routeMarkerTimeout (src dst cls : Nat)
  /-- A packet addressed to a Contained attachment is absorbed, and a REQ is answered with an error RSP. (R360) -/
  | packetAbsorb (router port cls tag : Nat)
  /-- A detection sets the source's status bit, counts it, logs it and takes the action of its severity. (R366) -/
  | sourceDetect (id key data : Nat)
  /-- A Contained event not acknowledged within BKW_REACT_TIME is escalated to Fatal by hardware. (R368) -/
  | reactionTimeout (k : Nat)
  /-- A write of BKW_ACK_GO acknowledges a pending Contained source with an action, or is refused as late or
      invalid. (R368) -/
  | bkwAck (id action : Nat) (late : Bool)
  /-- A spare islet copies the failed home's slices, takes its stripes and tally, and is entered in the home
      table. (R369) -/
  | spareTakeover (inst : Nat) (lost : TakeoverLoss)
  /-- At the end of the 20–25 µs FAULT_N pulse, the pin follows BKW_FAULT_PIN. (R372) -/
  | faultPulseEnd
  /-- A write to BKW_FORCE injects a source at its detector when the service state allows it. (R373) -/
  | forceSource (id : Nat)
  /-- The Reef takes one event at its record port and writes a new record, counts a repeat, or counts an overflow.
      (R377) -/
  | logRecord (source code key data : Nat) (forced : Bool)
  /-- A LOG_CLEAR message from the clear role empties the Lighthouse log and writes a 0x0061 record, or is
      refused. (R382) -/
  | logClear (s : Session) (kind index : Nat)
  /-- When every slot has been emptied, the clear is marked done and the waiting events are recorded. (R382) -/
  | logClearComplete
  /-- A write of SND_SNAP_GO floods a marker that copies every counter and sum in one consistent cut. (R392) -/
  | snapshot
  /-- A write of SND_CLEAR zeroes every counter, sum and snapshot word and clears their flags. (R399) -/
  | counterClear
  /-- At least every 500 µs, the summing tree checks its sums and chains against the increments of their children.
      (R390) -/
  | sumAudit
  /-- A counter or sum word with an uncorrectable SRAM error restarts from zero marked damaged. (R391) -/
  | counterDamage (sum : Bool) (n : Nat)
  /-- Both presence pins held low for 10 ms make the sled present and start the insertion sequence. (R405) -/
  | presenceDetect
  /-- Loss of either presence pin for more than 2 µs turns the FET off and releases PG_OUT. (R405) -/
  | presenceLoss
  /-- After V_IN has stayed in range for CSW_INS_DELAY_MS, the Causeway moves on toward soft start. (R406) -/
  | insertionDelayEnd
  /-- When V_OUT reaches 95% of V_IN, the Causeway turns the FET fully on. (R406) -/
  | softStartDone
  /-- PG_OUT asserts once the FET is on, V_OUT is good and the fault timer has been idle for 1 ms. (R407) -/
  | pgOutAssert (faultTimer : Bool)
  /-- A rail reports power good, and the next rail of the sequence is enabled. (R416) -/
  | railPowerGood (rail : Nat)
  /-- Every 100 µs the Causeway measures V_IN and input current and re-evaluates the input budget and profile.
      (R402) -/
  | inputMeasure (vinMv iinDa : Nat) (heldFor1s : Bool)
  /-- Every 1 µs the Causeway updates the modelled FET temperature from its dissipation. (R409) -/
  | fetModelUpdate (direct : Int) (dissipationMw : Nat)
  /-- A trip condition turns the FET off, releases PG_OUT and records a failed start. (R408) -/
  | trip (kind onMs : Nat)
  /-- At the end of the off time after a trip, the Causeway clears the retry flag and returns to the insertion
      delay. (R411) -/
  | offTimeEnd
  /-- After 10 minutes of PG_OUT without a break, the trip ledger is cleared. (R410) -/
  | healthyMark
  /-- A write of CSW_LEDGER_CLEAR sets the failure count to 0 and clears the latch. (R412) -/
  | cswLedgerClear
  /-- A write of CSW_POWER_CYCLE in Fatal or Test turns the FET off and brings the rails down. (R414) -/
  | cswPowerCycle
  /-- At least 100 ms after an ordered power cycle, the Reef resets itself and a cold start runs. (R414) -/
  | powerCycleRestart
  /-- A write of CSW_GRANT_W sets the power grant, which is applied under the profile rules. (R403) -/
  | grantWrite (w : Nat)
  /-- A falling edge of PWR_BRAKE_N cuts input power to the brake profile within 20 µs. (R404) -/
  | brakeAssert
  /-- A rising edge of PWR_BRAKE_N lets the profile return under the rise rule. (R404) -/
  | brakeRelease
  /-- Every second, and at brown-out warning, FET turn-off or loss of presence, the Reef writes an energy
      checkpoint. (R415) -/
  | energyCheckpoint (controllerMj reefMj : Nat)
  /-- A write of REEF_GO with target Active moves the sled to Active, or starts the exit from Ebb. (R419) -/
  | reefGoActive
  /-- A write of REEF_GO with target Slack lowers the pace target to 0.80, or starts the exit from Ebb. (R420) -/
  | reefGoSlack
  /-- A write of REEF_GO with target Ebb starts the entry to Ebb, or is refused with a REEF_EBB_ERR code. (R422) -/
  | reefGoEbb
  /-- Once the save image is written and the channels are in self-refresh, the core rails go down and the sled is
      in Ebb. (R422) -/
  | ebbEntryComplete (us : Nat)
  /-- A host L1 exit or a receiver detected on an enabled group starts the exit from Ebb. (R425) -/
  | hostWake (g : Nat) (l1Exit : Bool)
  /-- Once the image is restored, the channels are out of self-refresh and pace is reached, the harbours open.
      (R425) -/
  | ebbExitComplete (us : Nat)
  /-- A Reef brown-out loses keys and Reef state, and starts a warm-memory start in Ebb or a cold start otherwise.
      (R428) -/
  | reefBrownOut (copyOk recallOk : Bool)
  /-- The Reef resets on the standby path, reads the ledger, the checkpoint and the configuration, and begins a
      cold start. (R434) -/
  | reefPowerOnReset
  /-- The Pilot ROM verifies a firmware slot, falling back to the other or to its loader, and starts Pilot
      firmware. (R439) -/
  | firmwareBoot
  /-- Once grain space is initialised and audited, the sled reports Memory Active and enters Normal or Recovery.
      (R435) -/
  | memoryActive (dimms : List (Option Dimm)) (spdOk : Bool) (trained recalled : Nat) (bootMs : Nat) (nonce : Nat)
  /-- A service-state request for Normal is applied from Recovery or Test, or refused with a reason in ID_SVC_ERR.
      (R444) -/
  | serviceNormal
  /-- A service-state request for Recovery moves a Normal sled to Recovery. (R444) -/
  | serviceRecovery
  /-- A service-state request for Test is applied when test entry is allowed and nothing is Live or linked. (R444) -/
  | serviceTest
  /-- An expiry of the 1 s Pilot watchdog reloads Pilot firmware, and a third expiry in an hour enters Recovery.
      (R442) -/
  | pilotWatchdog (thirdInHour : Bool)
  /-- A write of ID_SVN_COMMIT raises the fused security version to that of the active image. (R440) -/
  | svnCommit
  /-- After the active image has run in Normal for 24 h without a watchdog expiry, the fused security version is
      raised. (R440) -/
  | svnAutoRaise
  /-- A write of ID_BIST_GO in Test runs the memory BIST over the chosen channels. (R450) -/
  | bistRun (failing : List Nat)
  /-- A TEST_EN message with KIND 1 from the test role sets ID_TEST_EN. (R446) -/
  | testEnSet (s : Session) (index : Nat)
  /-- A TEST_EN message with KIND 0 from the test role clears ID_TEST_EN. (R446) -/
  | testEnClear (s : Session) (index : Nat)
  /-- The SPDM responder answers a request for certificates, measurements, challenge or session set-up. (R445) -/
  | spdmRequest (r : SpdmReq)
  /-- The sled answers a PLDM request for sensors, FRU data or firmware update over MCTP. (R447) -/
  | pldmRequest (r : PldmReq)
  /-- The TAP executes an instruction, limited to IDCODE and BYPASS outside Test. (R449) -/
  | tapInstruction (ir : TapIr)
  /-- Once a second Pilot firmware samples SLED_ID and logs a changed value. (R455) -/
  | sledIdSample (v : Nat)
  /-- A change of LOCATE_N lights or darkens the locate LED. (R455) -/
  | locateChange (low : Bool)
  /-- A block reset under action Reset finishes its self-test within 10 ms and returns to service, or stays
      isolated and the failure is recorded. (R368) -/
  | resetSelfTestDone (id : Nat) (pass : Bool)
  /-- The owner function's Bus Master Enable becoming 0 puts its queue pairs in Error and signals their vectors at
      once. (R240) -/
  | busMasterEnableClear (owner : Nat)
  /-- A host write that unmasks an MSI-X vector with its pending bit set sends the held message under PCIe MSI-X
      rules. (R243) -/
  | msixVectorUnmask (owner vec : Nat)
  /-- An IDE_KM or CXL IDE_KM message over DOE programs or switches a head's IDE keys and sets its IDE state and
      mode. (R168) -/
  | ideKm (h : Nat) (op : IdeOp)
  /-- A reading of the hottest Ixmund junction sensor crosses 105 °C or returns to 100 °C, moving the sled into or
      out of Hold. (R463) -/
  | junctionTempSample (t : Nat)
  /-- An MCTP control message from the BMC assigns the sled's endpoint ID and manages the MCTP endpoint. (R447) -/
  | mctpControl (op : MctpOp)
  /-- The BMC's ENTDAA command switches SB_SCL and SB_SDA from SMBus to I3C until the next Reef power-on reset.
      (R454) -/
  | entdaa
  deriving DecidableEq, Repr

end Sys2Proof
end

