-- ==== Sys2Proof/Decode.lean ====
section
/-!
DEFINITION. The command that a word spells by the bits of opcode_table.json. The table gives its rows no bits: the block
takes commands, and no row has an encoding.
-/

namespace Sys2Proof

/-- The command of a word of `nbits` bits; no row of the table gives bits, so no word spells one. -/
def decodeTableWord (nbits w : Nat) : Option Instr :=
  match nbits, w with
  | _, _ => none

end Sys2Proof
end

