-- ==== Sys2Proof/Machine/Crypto.lean ====
section
/-!
DEFINITION. The ciphers that the sealing chapter names, from the standards it cites (R146, R147, R149, R151, R158):
AES-256 (FIPS 197), XTS (IEEE 1619), CMAC (SP 800-38B), GMAC (SP 800-38D), the SP 800-108 counter-mode KDF, and the
two CRC-32 forms. PRESUMED: the manual cites the standards and does not restate them (log entry 8).
-/

namespace Sys2Proof.Machine.Crypto

/-- The AES substitution box, byte x at bits [8x+7:8x]. -/
def sboxTable : Nat := 0x16bb54b00f2d99416842e6bf0d89a18cdf2855cee9871e9b948ed9691198f8e19e1dc186b95735610ef6034866b53e708a8bbd4b1f74dde8c6b4a61c2e2578ba08ae7a65eaf4566ca94ed58d6d37c8e779e4959162acd3c25c2406490a3a32e0db0b5ede14b8ee4688902a22dc4f816073195d643d7ea7c41744975fec130ccdd2f3ff1021dab6bcf5389d928f40a351a89f3c507f02f94585334d43fbaaefd0cf584c4a39becb6a5bb1fc20ed00d153842fe329b3d63b52a05a6e1b1a2c830975b227ebe28012079a059618c323c7041531d871f1e5a534ccf73f362693fdb7c072a49cafa2d4adf04759fa7dc982ca76abd7fe2b670130c56f6bf27b777c63

/-- The substitution of one byte. -/
def sub (x : Nat) : Nat := Bits.field sboxTable (8 * (x % 256)) 8

/-- Multiplication by x in the AES field. -/
def xtime (x : Nat) : Nat := if x < 128 then 2 * x else (2 * x) ^^^ 0x11B

/-- Exclusive or of two byte lists. -/
def xorL (a b : List Nat) : List Nat := List.zipWith (· ^^^ ·) a b

/-- Byte lists of numbers and back. -/
def nats (bs : List Byte) : List Nat := bs.map (·.toNat)

/-- The bytes of a list of numbers. -/
def bytes (ns : List Nat) : List Byte := ns.map (BitVec.ofNat 8 ·)

/-- Round constant of the key schedule. -/
def rcon : Nat → Nat
  | 0 => 1
  | n + 1 => xtime (rcon n)

/-- The words of the AES-256 key schedule, newest first: `n` more words after those held. -/
def expand : Nat → Nat → List (List Nat) → List (List Nat)
  | 0, _, ws => ws
  | n + 1, i, ws =>
    let prev := ws.headD []
    let t :=
      if i % 8 = 0 then
        match (prev.drop 1 ++ prev.take 1).map sub with
        | a :: r => (a ^^^ rcon (i / 8 - 1)) :: r
        | [] => []
      else if i % 8 = 4 then prev.map sub
      else prev
    expand n (i + 1) (xorL t (ws.getD 7 []) :: ws)

/-- Cut a list in pieces of four. -/
def fours : Nat → List Nat → List (List Nat)
  | 0, _ => []
  | n + 1, l => l.take 4 :: fours n (l.drop 4)

/-- The fifteen round keys of a 32-byte key. -/
def roundKeys (key : List Nat) : List (List Nat) :=
  let ws := (expand 52 8 (fours 8 key).reverse).reverse
  (List.range 15).map fun r => ((ws.drop (4 * r)).take 4).flatten

/-- The row shift: byte at row r, column c from column c + r. -/
def shiftRows (s : List Nat) : List Nat :=
  (List.range 16).map fun i => s.getD ((i + 4 * (i % 4)) % 16) 0

/-- The mix of one column. -/
def mixCol : List Nat → List Nat
  | [a, b, c, d] =>
    let t := a ^^^ b ^^^ c ^^^ d
    [a ^^^ t ^^^ xtime (a ^^^ b), b ^^^ t ^^^ xtime (b ^^^ c), c ^^^ t ^^^ xtime (c ^^^ d), d ^^^ t ^^^ xtime (d ^^^ a)]
  | l => l

/-- The rounds after the first key addition. -/
def rounds : List (List Nat) → List Nat → List Nat
  | [], s => s
  | [k], s => xorL (shiftRows (s.map sub)) k
  | k :: ks, s => rounds ks (xorL ((fours 4 (shiftRows (s.map sub))).flatMap mixCol) k)

/-- AES-256 encryption of one 16-byte block (FIPS 197). -/
def aes (key block : List Nat) : List Nat :=
  match roundKeys key with
  | [] => block
  | k0 :: ks => rounds ks (xorL block k0)

/-- The inverse substitution of one byte. -/
def invSub (y : Nat) : Nat := ((List.range 256).find? fun x => sub x == y).getD 0

/-- The inverse row shift. -/
def invShiftRows (s : List Nat) : List Nat :=
  (List.range 16).map fun i => s.getD ((i + 12 * (i % 4)) % 16) 0

/-- The inverse mix of one column: the mix applied three times. -/
def invMixCol (c : List Nat) : List Nat := mixCol (mixCol (mixCol c))

/-- The inverse rounds. -/
def invRounds : List (List Nat) → List Nat → List Nat
  | [], s => s
  | [k], s => xorL ((invShiftRows s).map invSub) k
  | k :: ks, s => invRounds ks ((fours 4 (xorL ((invShiftRows s).map invSub) k)).flatMap invMixCol)

/-- AES-256 decryption of one 16-byte block. -/
def aesInv (key block : List Nat) : List Nat :=
  match (roundKeys key).reverse with
  | [] => block
  | k0 :: ks => invRounds ks (xorL block k0)

/-- A big-endian byte list as a number. -/
def beNat (l : List Nat) : Nat := l.foldl (fun a b => 256 * a + b) 0

/-- The `n` big-endian bytes of a number. -/
def beList : Nat → Nat → List Nat
  | 0, _ => []
  | n + 1, x => x / 256 ^ n % 256 :: beList n x

/-- A little-endian byte list as a number. -/
def leNatL : List Nat → Nat
  | [] => 0
  | b :: bs => b + 256 * leNatL bs

/-- The `n` little-endian bytes of a number. -/
def leList : Nat → Nat → List Nat
  | 0, _ => []
  | n + 1, x => x % 256 :: leList n (x / 256)

/-- The XTS tweak of the next block: multiplication by alpha (IEEE 1619). -/
def xtsNext (t : Nat) : Nat :=
  if t < 2 ^ 127 then 2 * t else (2 * t - 2 ^ 128) ^^^ 0x87

/-- XTS over whole blocks with a block function; `n` blocks. -/
def xtsBlocks (f : List Nat → List Nat) : Nat → Nat → List Nat → List Nat
  | 0, _, _ => []
  | n + 1, t, d =>
    xorL (f (xorL (d.take 16) (leList 16 t))) (leList 16 t) ++ xtsBlocks f n (xtsNext t) (d.drop 16)

/-- XTS-AES-256 encryption of a whole number of blocks under key 1 then key 2 (R149). -/
def xtsEnc (key : List Byte) (tweak : Nat) (d : List Byte) : List Byte :=
  let k := nats key
  let t := leNatL (aes (k.drop 32) (leList 16 tweak))
  bytes (xtsBlocks (aes (k.take 32)) (d.length / 16) t (nats d))

/-- XTS-AES-256 decryption of a whole number of blocks (R149). -/
def xtsDec (key : List Byte) (tweak : Nat) (d : List Byte) : List Byte :=
  let k := nats key
  let t := leNatL (aes (k.drop 32) (leList 16 tweak))
  bytes (xtsBlocks (aesInv (k.take 32)) (d.length / 16) t (nats d))

/-- Doubling of a CMAC subkey. -/
def cmacDbl (x : Nat) : Nat := if x < 2 ^ 127 then 2 * x else (2 * x - 2 ^ 128) ^^^ 0x87

/-- The chained blocks of CMAC before the last. -/
def cmacChain (k : List Nat) : Nat → List Nat → List Nat → List Nat
  | 0, acc, _ => acc
  | n + 1, acc, m => cmacChain k n (aes k (xorL acc (m.take 16))) (m.drop 16)

/-- AES-256-CMAC (SP 800-38B). -/
def cmac (k m : List Nat) : List Nat :=
  let l := beNat (aes k (List.replicate 16 0))
  let n := max 1 ((m.length + 15) / 16)
  let whole := m.length != 0 && m.length % 16 == 0
  let last := m.drop (16 * (n - 1))
  let fin :=
    if whole then xorL last (beList 16 (cmacDbl l))
    else xorL (last ++ [0x80] ++ List.replicate (15 - last.length) 0) (beList 16 (cmacDbl (cmacDbl l)))
  aes k (xorL (cmacChain k (n - 1) (List.replicate 16 0) m) fin)

/-- The SP 800-108 counter-mode KDF with CMAC, `n` blocks from counter `i` (R146). -/
def kdfBlocks (k label ctx : List Nat) (bits : Nat) : Nat → Nat → List Nat
  | 0, _ => []
  | n + 1, i => cmac k (beList 4 i ++ label ++ [0] ++ ctx ++ beList 4 bits) ++ kdfBlocks k label ctx bits n (i + 1)

/-- The derivation of R146: `bits` bits from a key, a label and a context. -/
def kdf (k label ctx : List Nat) (bits : Nat) : List Nat :=
  (kdfBlocks k label ctx bits ((bits + 127) / 128) 1).take (bits / 8)

/-- ASCII bytes of a label. -/
def ascii (s : String) : List Nat := s.toList.map (·.toNat)

/-- One step of the product in the field of GCM, on big-endian numbers. -/
def ghashMul (x : Nat) : Nat → Nat → Nat → Nat
  | 0, _, z => z
  | n + 1, v, z =>
    ghashMul x n (if v % 2 = 0 then v / 2 else (v / 2) ^^^ (0xE1 * 2 ^ 120)) (if Bits.bit x n then z ^^^ v else z)

/-- GHASH over whole blocks. -/
def ghash (h : Nat) : Nat → Nat → List Nat → Nat
  | 0, y, _ => y
  | n + 1, y, d => ghash h n (ghashMul (y ^^^ beNat (d.take 16)) 128 h 0) (d.drop 16)

/-- GMAC with a 96-bit IV: the GCM tag over additional data alone (R151). -/
def gmac (k iv aad : List Nat) : List Nat :=
  let h := beNat (aes k (List.replicate 16 0))
  let pad := List.replicate ((16 - aad.length % 16) % 16) 0
  let d := aad ++ pad ++ beList 8 (8 * aad.length) ++ beList 8 0
  xorL (beList 16 (ghash h (d.length / 16) 0 d)) (aes k (iv ++ [0, 0, 0, 1]))

/-- One bit of a reflected CRC with the given polynomial. -/
def crcStep (poly c : Nat) : Nat := if c % 2 = 1 then (c / 2) ^^^ poly else c / 2

/-- A reflected 32-bit CRC of a byte list, initial and final all ones. -/
def crcR (poly : Nat) (d : List Nat) : Nat :=
  (d.foldl (fun c b => Nat.repeat (crcStep poly) 8 (c ^^^ b)) 0xFFFFFFFF) ^^^ 0xFFFFFFFF

/-- The CRC-32 of IEEE 802.3. -/
def crc32 (d : List Nat) : Nat := crcR 0xEDB88320 d

/-- The Castagnoli CRC-32C. -/
def crc32c (d : List Nat) : Nat := crcR 0x82F63B78 d

end Sys2Proof.Machine.Crypto
end

