-- ==== Sys2Proof/Machine/Facet.lean ====
section
/-!
DEFINITION. Facet coding (chapter "Facet coding and the page record"): the three geometries, planes and plane modes,
the canonical encoder of R79, the decoder of R90, and the size codes of Table 4.5. Nibbles are numbers below 16.
-/

namespace Sys2Proof.Machine

/-- The three facet geometries (Table 4.1). -/
inductive Geometry where
  | g8x64 | g16x32 | g32x16
  deriving DecidableEq, Repr

namespace Facet

/-- Code of a geometry (Table 4.1). -/
def code : Geometry → Nat
  | .g8x64 => 0
  | .g16x32 => 1
  | .g32x16 => 2

/-- Geometry of a code; 0b11 is reserved (Table 4.1). -/
def ofCode : Nat → Option Geometry
  | 0 => some .g8x64
  | 1 => some .g16x32
  | 2 => some .g32x16
  | _ => none

/-- Nibbles of a word, which is the number of planes (Table 4.1). -/
def planes : Geometry → Nat
  | .g8x64 => 16
  | .g16x32 => 8
  | .g32x16 => 4

/-- Words of a line, which is the number of positions of a plane (Table 4.1). -/
def positions : Geometry → Nat
  | .g8x64 => 8
  | .g16x32 => 16
  | .g32x16 => 32

/-- Header nibbles (Table 4.1). -/
def headerNibbles (g : Geometry) : Nat := 1 + planes g / 2

/-- The words of a line, word j from line bytes j·w/8 upward, little-endian (R74). -/
def words (g : Geometry) (l : Line) : List Nat :=
  (List.range (positions g)).map fun j => Bits.field l.toNat (4 * planes g * j) (4 * planes g)

/-- The delta step: word 0 kept, every later word less word 0 modulo 2^w (R75). -/
def delta (g : Geometry) : List Nat → List Nat
  | [] => []
  | w0 :: ws => w0 :: ws.map fun w => (w + 2 ^ (4 * planes g) - w0) % 2 ^ (4 * planes g)

/-- The delta step reversed (R75). -/
def undelta (g : Geometry) : List Nat → List Nat
  | [] => []
  | w0 :: ws => w0 :: ws.map fun w => (w + w0) % 2 ^ (4 * planes g)

/-- Plane k: nibble k of every word (R76). -/
def plane (ws : List Nat) (k : Nat) : List Nat := ws.map fun w => Bits.field w (4 * k) 4

/-- The modes of Table 4.2. -/
inductive Mode where
  | z | u | s | d
  deriving DecidableEq, Repr

/-- Code of a mode (Table 4.2). -/
def Mode.code : Mode → Nat
  | .z => 0
  | .u => 1
  | .s => 2
  | .d => 3

/-- Positions whose nibble is not zero. -/
def nonzero (p : List Nat) : List Nat := p.filter (· != 0)

/-- The first mode that applies to a plane (R79 step 2). -/
def modeOf (p : List Nat) : Mode :=
  if nonzero p = [] then .z
  else if p.all (· == p.headD 0) then .u
  else if p.length / 4 + (nonzero p).length < p.length then .s
  else .d

/-- The bitmap nibbles of an S plane: bit i of nibble q stands for position 4q + i (R77). -/
def bitmap (p : List Nat) : List Nat :=
  (List.range (p.length / 4)).map fun q =>
    ((List.range 4).map fun i => if p.getD (4 * q + i) 0 = 0 then 0 else 2 ^ i).sum

/-- The payload of a plane in its mode (Table 4.2). -/
def payload (p : List Nat) : Mode → List Nat
  | .z => []
  | .u => [p.headD 0]
  | .s => bitmap p ++ nonzero p
  | .d => p

/-- One candidate: the geometry, the delta flag and the coded stream (R78). -/
def candidate (g : Geometry) (dl : Bool) (l : Line) : List Nat :=
  let ws := if dl then delta g (words g l) else words g l
  let ps := (List.range (planes g)).map (plane ws)
  let ms := ps.map modeOf
  let hdr := (List.range (planes g / 2)).map fun q =>
    ((ms.getD (2 * q) .z).code) + 4 * ((ms.getD (2 * q + 1) .z).code)
  (code g + (if dl then 4 else 0)) :: hdr ++ (ps.zip ms).flatMap fun pm => payload pm.1 pm.2

/-- The six candidates in tie order (R79 steps 1 and 4). -/
def candidates (l : Line) : List (List Nat) :=
  [candidate .g8x64 false l, candidate .g8x64 true l, candidate .g16x32 false l,
   candidate .g16x32 true l, candidate .g32x16 false l, candidate .g32x16 true l]

/-- The first shortest of a list of streams. -/
def shortest : List (List Nat) → List Nat
  | [] => []
  | [c] => c
  | c :: cs => if (shortest cs).length < c.length then shortest cs else c

/-- The canonical coded stream of a line (R79). -/
def encode (l : Line) : List Nat := shortest (candidates l)

/-- What is left of a stream, and the positions read from it, for one plane in one mode; none when the stream ends
first, and none for an S plane that lists a zero nibble (R90). -/
def readPlane (n : Nat) (st : List Nat) : Nat → Option (List Nat × List Nat)
  | 0 => some (List.replicate n 0, st)
  | 1 => match st with
    | [] => none
    | x :: st => some (List.replicate n x, st)
  | 2 =>
    let bm := st.take (n / 4)
    let c := ((List.range n).filter fun j => Bits.bit (bm.getD (j / 4) 0) (j % 4)).length
    let rest := st.drop (n / 4)
    let vs := rest.take c
    if bm.length < n / 4 || vs.length < c || vs.any (· == 0) then none
    else
      let p := (List.range n).map fun j =>
        if Bits.bit (bm.getD (j / 4) 0) (j % 4) then
          vs.getD (((List.range j).filter fun i => Bits.bit (bm.getD (i / 4) 0) (i % 4)).length) 0
        else 0
      some (p, rest.drop c)
  | _ => if st.length < n then none else some (st.take n, st.drop n)

/-- The planes of a stream, in order. -/
def readPlanes (n : Nat) : List Nat → List Nat → Option (List (List Nat) × List Nat)
  | [], st => some ([], st)
  | m :: ms, st =>
    match readPlane n st m with
    | none => none
    | some (p, st') =>
      match readPlanes n ms st' with
      | none => none
      | some (ps, st'') => some (p :: ps, st'')

/-- The decoder of a slot's nibbles; none is a decode error (R90). -/
def decode (st : List Nat) : Option Line :=
  match st with
  | [] => none
  | h :: st' =>
    match ofCode (h % 4) with
    | none => none
    | some g =>
      if h / 8 % 2 = 1 then none
      else
        let hdr := st'.take (planes g / 2)
        if hdr.length < planes g / 2 then none
        else
          let ms := hdr.flatMap fun x => [x % 4, x / 4 % 4]
          match readPlanes (positions g) ms (st'.drop (planes g / 2)) with
          | none => none
          | some (ps, rest) =>
            if rest.any (· != 0) then none
            else
              let ws := (List.range (positions g)).map fun j =>
                ((List.range (planes g)).map fun k => ((ps.getD k []).getD j 0) * 16 ^ k).sum
              let ws := if h / 4 % 2 = 1 then undelta g ws else ws
              some (BitVec.ofNat 512 (((List.range (positions g)).map fun j =>
                (ws.getD j 0) * 2 ^ (4 * planes g * j)).sum))

/-- Nibbles as slot bytes: even nibbles in bits [3:0] (R76). -/
def toBytes : List Nat → List Byte
  | [] => []
  | [a] => [BitVec.ofNat 8 a]
  | a :: b :: r => BitVec.ofNat 8 (a + 16 * b) :: toBytes r

/-- Slot bytes as nibbles (R76). -/
def ofBytes (bs : List Byte) : List Nat := bs.flatMap fun b => [b.toNat % 16, b.toNat / 16]

end Facet

/-- The 64 bytes of a line (R9). -/
def lineBytes (l : Line) : List Byte := Bits.leBytes 64 l.toNat

/-- The line of 64 bytes. -/
def lineOf (bs : List Byte) : Line := BitVec.ofNat 512 (Bits.leNat bs)

/-- Grain count of a size code (Table 4.5). -/
def grainsOf : Nat → Nat
  | 1 => 1
  | 2 => 2
  | 3 => 3
  | 4 => 4
  | _ => 0

/-- The grain offset of line i under a page's codes (R83). -/
def grainOffset (size : List Nat) (i : Nat) : Nat := ((size.take i).map grainsOf).sum

/-- The grain total G of a page (R83). -/
def grainTotal (size : List Nat) : Nat := (size.map grainsOf).sum

/-- A Deep line straddles a 64-byte burst boundary (R85). -/
def straddles (size : List Nat) (i : Nat) : Bool :=
  let o := grainOffset size i
  o / 4 != (o + grainsOf (size.getD i 0) - 1) / 4 && grainsOf (size.getD i 0) != 0

/-- The line whose grains serve line i: the nearest at or before i whose code is not 5 (R58). -/
def chainEnd (size : List Nat) : Nat → Nat
  | 0 => 0
  | i + 1 => if size.getD (i + 1) 0 = 5 then chainEnd size i else i + 1

/-- The later lines whose code-5 chain ends at line j (R87, R88). -/
def chainOf (size : List Nat) (j : Nat) : List Nat :=
  (List.range 64).filter fun i => decide (j < i) && size.getD i 0 == 5 && chainEnd size i == j

/-- The code of line i set from plaintext (R82); `none` is a poisoned line. -/
def codeFor (comp : Bool) (prev : Option (Option Line)) (v : Option Line) : Nat :=
  match v with
  | none => 7
  | some l =>
    if l = 0 then 0
    else if comp && prev == some (some l) then 5
    else if comp && (Facet.encode l).length ≤ 96 then ((Facet.encode l).length + 31) / 32
    else 4

/-- The codes of the lines of a page (R82). -/
def codesFor (comp : Bool) (lines : List (Option Line)) : List Nat :=
  (List.range lines.length).map fun i =>
    codeFor comp (if i = 0 then none else some (lines.getD (i - 1) none)) (lines.getD i none)

/-- The bytes of a line in a slot of a code: raw for code 4, the canonical coding padded with zeros for 1 to 3, nothing
otherwise (R76, R86). -/
def slotBytes (code : Nat) (l : Line) : List Byte :=
  if code = 4 then lineBytes l
  else
    let n := 16 * grainsOf code
    ((Facet.toBytes (Facet.encode l)) ++ List.replicate n 0).take n

/-- The line that a slot's plaintext bytes hold under a code (R90); none is a decode error. -/
def slotLine (code : Nat) (bs : List Byte) : Option Line :=
  if code = 4 then some (lineOf bs) else Facet.decode (Facet.ofBytes bs)

/-- A line's new value fits the slot of its code (R64, R86). -/
def fitsSlot (comp : Bool) (code : Nat) (l : Line) : Bool :=
  code == 4 || (comp && decide (1 ≤ code ∧ code ≤ 3) && decide ((Facet.encode l).length ≤ 32 * code))

end Sys2Proof.Machine
end

