-- ==== Sys2Proof/Config.lean ====
section
/-!
DEFINITION. What one sled is built with and the manual leaves open, and the free values. Every constant here is opaque:
no proof can see its value.
-/

namespace Sys2Proof.Config

/-- The values the manual leaves open: the n-th draw (log entry 4). -/
opaque freeValue : Nat → BitVec 64

/-- Many values from one draw: the values that the n-th draw leaves open, by place (log entry 4). -/
opaque freeWords : Nat → Nat → BitVec 64

/-- The fused identity word of the Ixmund (R436, `ID_IDENT`). -/
opaque identity : BitVec 64

/-- The fused root secret of the metadata keys, its 32 bytes (R145). -/
opaque rootSecret : BitVec 256

/-- The serial number in the write-protected flash page, word by word (R437). -/
opaque serial : Nat → BitVec 64

/-- The fused security version (R440). -/
opaque svnFused : BitVec 64

/-- The role table of the configuration region of MRAM as shipped (R441, R445): digest halves and role bits by entry. -/
opaque roleDigest : Nat → BitVec 64

/-- The role bits of the configuration region as shipped, by entry (R441, R445). -/
opaque roleBits : Nat → BitVec 64

/-- The set of a Lagoon slice in which a line lives: the manual gives 6,144 sets of 16 ways and no index function (R25,
R63). -/
opaque lagoonSet : Nat → Nat

/-- The mailbox features that the sled supports: the manual lists none (Table 9.3). -/
opaque features : List Nat

/-- The value of a mailbox feature before it is set: the manual gives none (Table 9.3). -/
opaque featureReset : Nat → BitVec 64

end Sys2Proof.Config
end

