-- ==== Sys2Proof/Machine/Fields.lean ====
section
/-!
DEFINITION. Every register field the manual gives: its block, offset, bits, access code, reset value and array
shape, row by row from the register tables of the chapters (Tables 2.1, 2.2, 5.8, 6.6, 7.16, 7.17, 8.11, 9.7, 10.10,
11.2, 11.3, 12.11, 13.6, 14.5, 15.8, 16.6, 17.7, 18.3, 19.7, 20.7, 21.9, 22.7), and the block map of Table 24.1 (R465).
A field wider than 64 bits is held as an array of 64-bit words (R470).
-/

namespace Sys2Proof.Machine

/-- The two sleds the manual covers (Table 0.1, R1). -/
inductive Sled where
  | dx32 | dx16
  deriving DecidableEq, Repr

/-- Access codes (Table 0.3, R10). -/
inductive Acc where
  | rw | ro | wo | w1c | w1s | rws | rwl
  deriving DecidableEq, Repr

/-- Setup space blocks (Table 24.1, R465); `ldf` is the Ferry control page of an LD (Table 11.2, R256), which lies in
the LD's BAR2 and not in setup space. -/
inductive Blk where
  | ident | reef | csw | hbr | drm | noc | rgl | bkw | lhl | snd | atl | qp | key | tdl | grn | tier | dir | bql | arc | fry | pilot | ldf
  deriving DecidableEq, Repr

/-- First byte of a block (Table 24.1). -/
def Blk.base : Blk → Nat
  | .ident => 0x0
  | .reef => 0x1000
  | .csw => 0x2000
  | .hbr => 0x10000
  | .drm => 0x20000
  | .noc => 0x40000
  | .rgl => 0x50000
  | .bkw => 0x60000
  | .lhl => 0x70000
  | .snd => 0x80000
  | .atl => 0x100000
  | .qp => 0x200000
  | .key => 0x300000
  | .tdl => 0x400000
  | .grn => 0x410000
  | .tier => 0x420000
  | .dir => 0x430000
  | .bql => 0x440000
  | .arc => 0x450000
  | .fry => 0x460000
  | .pilot => 0x480000
  | .ldf => 0x4000000

/-- Last byte of a block (Table 24.1). -/
def Blk.last : Blk → Nat
  | .ident => 0xFFF
  | .reef => 0x1FFF
  | .csw => 0xFFFF
  | .hbr => 0x1FFFF
  | .drm => 0x3FFFF
  | .noc => 0x4FFFF
  | .rgl => 0x5FFFF
  | .bkw => 0x6FFFF
  | .lhl => 0x7FFFF
  | .snd => 0xFFFFF
  | .atl => 0x1FFFFF
  | .qp => 0x2FFFFF
  | .key => 0x3FFFFF
  | .tdl => 0x40FFFF
  | .grn => 0x41FFFF
  | .tier => 0x42FFFF
  | .dir => 0x43FFFF
  | .bql => 0x44FFFF
  | .arc => 0x45FFFF
  | .fry => 0x47FFFF
  | .pilot => 0x5FFFFF
  | .ldf => 0x4000000

/-- The blocks of setup space, in address order. -/
def Blk.all : List Blk :=
  [.ident, .reef, .csw, .hbr, .drm, .noc, .rgl, .bkw, .lhl, .snd, .atl, .qp, .key, .tdl, .grn, .tier, .dir, .bql, .arc, .fry, .pilot]

/-- One array dimension of a field: byte stride, and entries on the DX32 and on the DX16. -/
structure Dim where
  stride : Nat
  n32 : Nat
  n16 : Nat
  deriving DecidableEq, Repr

/-- One row of a register table. `off` is relative to the block base and includes the array base. -/
structure FieldSpec where
  blk : Blk
  off : Nat
  lo : Nat
  width : Nat
  acc : Acc
  rst : Nat
  dims : List Dim
  deriving DecidableEq, Repr

/-- The register fields, under the manual's names. -/
inductive Fld where
  -- Table 2.1, R39
  | ATL_BASE
  | ATL_SIZE
  | ATL_STATE
  | ATL_COH
  | ATL_COMP
  | ATL_PLACE
  | ATL_SEAL
  | ATL_OFFSHORE
  | ATL_MIRROR
  | ATL_CONTRACT
  | ATL_TYPE
  | ATL_VISITOR_WT
  | ATL_CHAN_SET
  | ATL_LAGOON_QUOTA
  | ATL_KEY_CUR
  | ATL_KEY_NEXT
  | ATL_IKEY_CUR
  | ATL_IKEY_NEXT
  | ATL_TDL_STATE
  | ATL_TDL_PAGE
  | ATL_PARTNER
  | ATL_PARTNER_UP
  | ATL_ERR
  | ATL_KEYS_ABSENT
  | ATL_QUOTA_OVER
  | ATL_BACKING
  -- Table 2.2, R40
  | VW_VALID
  | VW_CLOSING
  | VW_LD
  | VW_ATOLL
  | VW_ERR
  | VW_LDBASE
  -- Table 5.8, R123
  | GRN_ELASTIC_EN
  | GRN_COMPACT_EN
  | GRN_SWEEP_EN
  | GRN_WR_REFUSED
  | GRN_FLOOR_BP
  | GRN_WM_MID_BP
  | GRN_WM_HIGH_BP
  | GRN_WM_HYST_BP
  | GRN_DEADLINE
  | GRN_LEVEL
  | GRN_LEVEL_CHANGES
  | GRN_HEADROOM
  | GRN_RELEASE_OUT
  | GRN_REVOKED
  | GRN_DROPPED
  | GRN_SWEEP_HOURS
  | GRN_SWEEP_PASSES
  | GRN_FREE
  | GRN_ALLOCATED
  | GRN_META
  | GRN_QUAR
  | GRN_TOTAL
  | GRN_OWED
  | GRN_HOME_LEVEL
  | GRN_STRIPES
  | GRN_MOVES
  | GRN_MOVE_ABORTS
  -- Table 6.6, R142
  | TIER_HEAT_EN
  | TIER_WR_REFUSED
  | TIER_HEAT_PERIOD
  | TIER_PERIOD_NOW
  | TIER_STRETCH
  | TIER_SINKS
  | TIER_LIFTS_GROWTH
  | TIER_LIFTS_HEAT
  | TIER_PUSHES
  | TIER_RECALLS
  | TIER_HINT_DOWN
  | TIER_REMOTE_READS
  | TIER_CLS_SINK_HEAT
  | TIER_CLS_SINK_DWELL
  | TIER_CLS_SWELL_SINK_HEAT
  | TIER_CLS_SWELL_DWELL
  | TIER_CLS_LIFT_HEAT
  | TIER_CLS_PUSH_DWELL
  | TIER_CLS_PUSH_EN
  | TIER_CLS_RECALL_MODE
  | TIER_CLS_RECALL_HEAT
  | TIER_ATL_CLASS
  -- Table 7.16, R170
  | KEY_META_READY
  | KEY_TRANSPORT_SET
  | KEY_ENTROPY_OK
  | KEY_SPDM_REFUSED
  | KEY_PLAIN_WRITES
  | KEY_ZEROISED
  | KEY_DATA_SET
  | KEY_INT_SET
  | KEY_SAK_SET
  -- Table 7.17, R171
  | TDL_EN
  | TDL_WR_REFUSED
  | TDL_RATE_DEV
  | TDL_RATE_ATL
  | TDL_AUTO_EPOCH
  | TDL_PAGES
  | TDL_RESEALS
  | TDL_EPOCH_STOPS
  | TDL_SLOT_ATOLL
  | TDL_SLOT_START
  | TDL_SLOT_PAUSE
  | TDL_SLOT_STATE
  | TDL_SLOT_AUTO
  | TDL_SLOT_ERR
  | TDL_SLOT_LINE
  | TDL_SLOT_WINDOW
  | TDL_SLOT_PASSES
  | TDL_SLOT_PAGES
  -- Table 8.11, R200
  | DIR_BISNP_TIMEOUT
  | DIR_WR_REFUSED
  | DIR_EVICTIONS
  | DIR_SETFULL_WAITS
  | DIR_FWD3
  | DIR_BICONFLICT
  | DIR_ATOMICS
  | DIR_PROTO_ERR
  | DIR_LOST_POISONED
  | DIR_SUSPECT_SETS
  | DIR_VALID
  | DIR_COARSE
  | DIR_OPEN
  | DIR_SETQ
  | DIR_LINEQ
  | DIR_FWD_FAILS
  -- Table 9.7, R221
  | HBR_MGMT_HEAD
  | HBR_INJECT_EN
  | HBR_WR_REFUSED
  | HBR_PATIENCE
  | HBR_GRP_BIFUR
  | HBR_GRP_EN
  | HBR_GRP_MAXRATE
  | HBR_GRP_POWERED
  | HBR_GRP_COMMON
  | HBR_HEAD_RESV
  | HBR_HEAD_L0P_AUTO
  | HBR_HEAD_WIDTH
  | HBR_HEAD_RATE
  | HBR_HEAD_FLIT
  | HBR_HEAD_IDE
  | HBR_HEAD_L0P
  | HBR_HEAD_LTSSM
  | HBR_HEAD_LDS
  | HBR_HEAD_RETRAINS
  | HBR_HEAD_DISCARDS
  | HBR_HEAD_OCCUPANCY
  | HBR_LD_VALID
  | HBR_LD_HEAD
  | HBR_LD_ID
  | HBR_LD_CAP
  | HBR_LD_ALIAS_BASE
  | HBR_LD_ALIAS_LOG2
  | HBR_LD_UNMAPPED
  | HBR_LD_EVT_OVERFLOW
  -- Table 10.10, R246
  | QP_OWNER
  | QP_LD_CTRL
  | QP_PRIO
  | QP_SQ_HOST
  | QP_CQ_HOST
  | QP_PRIV
  | QP_SQ_LOG2
  | QP_CQ_LOG2
  | QP_EN
  | QP_BUSY
  | QP_STATE
  | QP_WR_REFUSED
  | QP_ERR
  | QP_SQ_BASE
  | QP_CQ_BASE
  | QP_VECTOR
  | QP_IRQ_EN
  | QP_IRQ_COUNT
  | QP_IRQ_USEC
  | QP_DEPTH
  | QP_SQ_TAIL
  | QP_SQ_HEAD
  | QP_CQ_TAIL
  | QP_CQ_HEAD
  | QP_CQ_PHASE
  | QP_INFLIGHT
  | QP_FETCHED
  | QP_COMPLETED
  | QP_COMPL_DISCARDED
  | QP_BELL_IGNORED
  | QP_MGMT_BELL
  -- Table 11.2, R256
  | FRY_CURSOR
  | FRY_PLACE
  | FRY_PEER
  | FRY_ERR
  | FRY_WR_BYTES
  | FRY_RD_BYTES
  | FRY_REJECTS
  -- Table 11.3, R257
  | FRY_MGMT_IGNORED
  | FRY_M_EID
  | FRY_M_VALID
  | FRY_M_TARGET
  | FRY_M_CURSOR
  | FRY_M_PLACE
  | FRY_M_PEER
  | FRY_M_ERR
  | FRY_M_WR_BYTES
  | FRY_M_RD_BYTES
  | FRY_M_REJECTS
  -- Table 12.11, R285
  | BQL_ETHERTYPE
  | BQL_WR_REFUSED
  | BQL_VLAN_ID
  | BQL_ACK_COUNT
  | BQL_ACK_TIME
  | BQL_REPLAY_TIMEOUT
  | BQL_GRACE
  | BQL_CLASS_PCP
  | BQL_P_EN
  | BQL_P_MODE
  | BQL_P_DIRECT
  | BQL_P_POWERED
  | BQL_P_SETTLED
  | BQL_P_LANES
  | BQL_P_MAC
  | BQL_P_FCS_DROPS
  | BQL_P_ICV_DROPS
  | BQL_P_LAND_USED
  | BQL_P_REPLAY_USED
  | BQL_P_LAND_NAKS
  | BQL_L_EN
  | BQL_L_AN_TX
  | BQL_L_STATE
  | BQL_L_REQ_BUDGET
  | BQL_L_PEER_MAC
  | BQL_L_PEER_IDENT
  | BQL_L_SESSION
  | BQL_L_VERSION
  | BQL_L_MTU
  | BQL_L_RATE
  | BQL_L_FEATURES
  | BQL_L_TX_SEQ
  | BQL_L_TX_ACKED
  | BQL_L_RX_EXPECT
  | BQL_L_BAD_HDR
  | BQL_L_REPLAYS
  | BQL_L_NAKS_SENT
  | BQL_L_NAKS_RECV
  | BQL_L_TIMEOUTS
  | BQL_L_DUPLICATES
  | BQL_L_LOSSES
  | BQL_L_FLUSHES
  | BQL_L_LOST_FIRST
  | BQL_L_LOST_END
  | BQL_L_PEER_DLV
  | BQL_L_PEER_DLV_VALID
  | BQL_L_HELLO_REFUSED
  | BQL_L_RENEG_LOST
  -- Table 13.6, R304
  | ARC_SLED_ID
  | ARC_EN
  | ARC_LEAVE
  | ARC_WR_REFUSED
  | ARC_MEMBERS
  | ARC_OFF_PEERS
  | ARC_FORGET
  | ARC_HOLD_GROUPS
  | ARC_HOLD_USED
  | ARC_HELD_IMAGES
  | ARC_REL_PENDING
  | ARC_WITNESS
  | ARC_WITNESS_EN
  | ARC_CLAIM_WAIT
  | ARC_EVAC_DIMM
  | ARC_EVAC_START
  | ARC_EVAC_STATE
  | ARC_EVAC_LEFT
  | ARC_PAIR_ATOLL
  | ARC_PAIR_PEER
  | ARC_PAIR_MODE
  | ARC_PAIR_ROLE
  | ARC_PAIR_GO
  | ARC_PAIR_STATUS
  | ARC_WIT_HOLDER
  | ARC_WIT_VALID
  | ARC_PEER_IDENT
  | ARC_PEER_GSN
  | ARC_ATL_HOME
  | ARC_ATL_REMOTE
  | ARC_ATL_COPY
  | ARC_ATL_FENCED
  | ARC_ATL_RESYNC
  | ARC_ATL_DIRTY
  -- Table 14.5, R321
  | RGL_EN
  | RGL_COMMIT
  | RGL_STATUS
  | RGL_WR_REFUSED
  | RGL_ERR_CHAN
  | RGL_ERR
  | RGL_FRAMES
  | RGL_MISSED_TOTAL
  | RGL_M_GUAR
  | RGL_M_CHANSET
  | RGL_M_TAGS
  | RGL_M_SENIOR
  | RGL_M_PRIO
  | RGL_M_DRAM
  | RGL_M_WINDOWS
  | RGL_M_LINES
  | RGL_M_MISSED
  | RGL_C_GC
  | RGL_C_GC_LIVE
  | RGL_C_SCALE
  | RGL_C_SHRUNK
  | RGL_C_CAUSE
  | RGL_C_PTR
  | RGL_C_TABLE
  | RGL_MC_DEFICIT
  | RGL_MC_MISSED
  | RGL_MC_ENT
  | RGL_MC_LAST
  | RGL_MC_DEMAND
  -- Table 15.8, R343
  | DRM_POP_SHAPE
  | DRM_POP_ERR
  | DRM_WR_REFUSED
  | DRM_SCRUB_HOURS
  | DRM_PPR_THRESH
  | DRM_DRIFT_MS
  | DRM_MAP
  | DRM_C_RATE
  | DRM_C_MAXRATE
  | DRM_C_INSERVICE
  | DRM_C_POWERED
  | DRM_C_PWRDN
  | DRM_C_DOUBLE_REF
  | DRM_C_RECALLED
  | DRM_C_SHADOW_GO
  | DRM_C_SHADOW_BUSY
  | DRM_C_RANKS
  | DRM_C_CE
  | DRM_C_UE
  | DRM_C_SCRUB_PASSES
  | DRM_C_PPR_LEFT
  | DRM_C_PPR_DONE
  | DRM_C_TAA
  | DRM_C_TRCD
  | DRM_C_TRP
  | DRM_C_MP_CMD
  | DRM_C_MP_DATA
  | DRM_D_STATE
  | DRM_D_REASON
  | DRM_D_RETIRE
  | DRM_D_TYPE
  | DRM_D_CAP
  | DRM_D_SERIAL
  | DRM_D_TEMP
  | DRM_D_CE
  | DRM_D_UE
  | DRM_D_LEFT
  | DRM_L_RD
  | DRM_L_WR
  | DRM_L_VREF
  -- Table 16.6, R362
  | NOC_PACE
  | NOC_PACE_TARGET
  | NOC_PACE_LOW
  | NOC_WR_REFUSED
  | NOC_VCORE_MV
  | NOC_VCORE_MIN_MV
  | NOC_VCORE_MAX_MV
  | NOC_PACE_MIN_SEEN
  | NOC_PACE_CLR
  | NOC_AVS_ERRORS
  | NOC_REROUTED
  | NOC_ABSORBED
  | NOC_RECONF_ROUTER
  | NOC_RECONF_GO
  | NOC_RECONF_STATE
  | NOC_HOME_X
  | NOC_HOME_Y
  | NOC_HOME_PORT
  | NOC_HOME_HOLD
  | NOC_R_STATE
  | NOC_R_XREV
  | NOC_R_YREV
  | NOC_R_STRAIT_DOWN
  | NOC_R_GAUGE0
  | NOC_R_GAUGE1
  | NOC_L_AUDITS
  | NOC_L_VIOL
  -- Table 17.7, R375
  | BKW_REACT_TIME
  | BKW_FAULT_PIN
  | BKW_FAULT_ARM
  | BKW_FAULT_STATE
  | BKW_ALERT_SEV
  | BKW_FORCE_EN
  | BKW_FATAL
  | BKW_WR_REFUSED
  | BKW_ACK_ID
  | BKW_ACK_ACTION
  | BKW_ACK_GO
  | BKW_ACK_RESULT
  | BKW_SPARES_FREE
  | BKW_TAKEOVER_BUSY
  | BKW_TAKEOVER_HOME
  | BKW_EVENTS
  | BKW_ESCALATIONS
  | BKW_P_ID
  | BKW_P_VALID
  | BKW_P_LEFT
  | BKW_C_MASK
  | BKW_C_SEV
  | BKW_C_AUTO
  | BKW_C_ACTION
  | BKW_C_FWD
  | BKW_C_COUNT
  | BKW_STATUS
  | BKW_FORCE
  -- Table 18.3, R384
  | LHL_COUNT
  | LHL_FULL
  | LHL_CLEARING
  | LHL_OVF_LOST
  | LHL_OVERFLOW
  | LHL_WIN_BASE_MF
  | LHL_WIN_BASE_BMC
  -- Table 19.7, R399
  | SND_USER_ENABLE
  | SND_WR_REFUSED
  | SND_SNAP_GO
  | SND_SNAP_STATUS
  | SND_SNAP_SEQ
  | SND_SNAP_TIME
  | SND_CLEAR
  | SND_ZERO_TIME
  | SND_RESTARTS
  | SND_T_EN
  | SND_T_LOG2
  | SND_T_LOST
  | SND_K_EVENT
  | SND_K_ARG
  | SND_K_CHAIN
  | SND_K_EN
  | SND_K_VALUE
  | SND_K_SNAP
  | SND_SUM
  | SND_SUM_SNAP
  | SND_S_EN
  | SND_S_HEAD
  | SND_S_ALL_LDS
  | SND_S_LD
  | SND_S_OPMASK
  | SND_S_LOG2
  | SND_S_OWNER
  | SND_S_MINLAT
  | SND_S_HELD
  | SND_S_LOST
  | SND_UMAP_ITEM
  | SND_UMAP_KIND
  -- Table 20.7, R418
  | CSW_STATE
  | CSW_PG_OUT
  | CSW_BRAKE
  | CSW_GRANT_LOW
  | CSW_WR_REFUSED
  | CSW_VIN_MV
  | CSW_IIN_DA
  | CSW_FET_DIRECT
  | CSW_FET_MODEL
  | CSW_INS_DELAY_MS
  | CSW_INRUSH_A
  | CSW_FAILS
  | CSW_LATCHED
  | CSW_RETRY_PENDING
  | CSW_LAST_TRIP
  | CSW_LEDGER_CLEAR
  | CSW_POWER_CYCLE
  | CSW_OFF_LEFT_MS
  | CSW_LAST_ON_MS
  | CSW_PG_WITHDRAWN
  | CSW_REQ_W
  | CSW_GRANT_W
  | CSW_PROFILE
  | CSW_BRAKE_PROFILE
  | CSW_ENERGY_MJ
  | CSW_CHECKPOINTS
  | CSW_ENERGY_RESET
  | CSW_HEALTHY_S
  -- Table 21.9, R433
  | REEF_PSTATE
  | REEF_TARGET
  | REEF_GO
  | REEF_EBB_ERR
  | REEF_WR_REFUSED
  | REEF_WAKE_HOST
  | REEF_LAST_START
  | REEF_EXIT_CAUSE
  | REEF_TIME
  | REEF_REG_MODE
  | REEF_SUPPLY_MV
  | REEF_LOAD_MA
  | REEF_IMAGE_VALID
  | REEF_EBB_ENTRIES
  | REEF_EBB_EXITS
  | REEF_ENTRY_US
  | REEF_EXIT_US
  -- Table 22.7, R452
  | ID_IDENT
  | ID_SLED_SERIAL
  | ID_PCI_VENDOR
  | ID_PCI_DEVICE
  | SETUP_LOCK
  | ID_WR_REFUSED
  | ID_SVC_STATE
  | ID_SVC_REQ
  | ID_SVC_GO
  | ID_SVC_ERR
  | ID_TEST_EN
  | ID_BOOT_STEP
  | ID_BOOT_ERR
  | ID_BOOT_SLOT
  | ID_BOOT_FALLBACK
  | ID_MEM_ACTIVE
  | ID_BOOT_MS
  | ID_SVN_FUSED
  | ID_SVN_AUTO
  | ID_SVN_COMMIT
  | ID_BIST_CHANS
  | ID_BIST_GO
  | ID_BIST_RESULT
  | ID_ROLE_DIGEST
  | ID_ROLE_BITS
  deriving DecidableEq, Repr

/-- The row of each field. A reset value that the manual gives by a table or note stands as 0 here and is given by
`Fld.reset`. -/
def Fld.spec : Fld → FieldSpec
  | .ATL_BASE => ⟨.atl, 0x0, 0, 24, .rw, 0, [⟨0x100, 4096, 2048⟩]⟩
  | .ATL_SIZE => ⟨.atl, 0x0, 24, 24, .rw, 0, [⟨0x100, 4096, 2048⟩]⟩
  | .ATL_STATE => ⟨.atl, 0x0, 48, 2, .rw, 0, [⟨0x100, 4096, 2048⟩]⟩
  | .ATL_COH => ⟨.atl, 0x8, 0, 1, .rw, 0, [⟨0x100, 4096, 2048⟩]⟩
  | .ATL_COMP => ⟨.atl, 0x8, 1, 1, .rw, 0, [⟨0x100, 4096, 2048⟩]⟩
  | .ATL_PLACE => ⟨.atl, 0x8, 2, 2, .rw, 0, [⟨0x100, 4096, 2048⟩]⟩
  | .ATL_SEAL => ⟨.atl, 0x8, 4, 2, .rw, 0, [⟨0x100, 4096, 2048⟩]⟩
  | .ATL_OFFSHORE => ⟨.atl, 0x8, 6, 1, .rw, 0, [⟨0x100, 4096, 2048⟩]⟩
  | .ATL_MIRROR => ⟨.atl, 0x8, 7, 2, .ro, 0, [⟨0x100, 4096, 2048⟩]⟩
  | .ATL_CONTRACT => ⟨.atl, 0x8, 9, 1, .rw, 0, [⟨0x100, 4096, 2048⟩]⟩
  | .ATL_TYPE => ⟨.atl, 0x8, 10, 1, .rw, 0, [⟨0x100, 4096, 2048⟩]⟩
  | .ATL_VISITOR_WT => ⟨.atl, 0x8, 11, 1, .rw, 0, [⟨0x100, 4096, 2048⟩]⟩
  | .ATL_CHAN_SET => ⟨.atl, 0x8, 16, 16, .rw, 0, [⟨0x100, 4096, 2048⟩]⟩
  | .ATL_LAGOON_QUOTA => ⟨.atl, 0x8, 32, 24, .rw, 0, [⟨0x100, 4096, 2048⟩]⟩
  | .ATL_KEY_CUR => ⟨.atl, 0x10, 0, 13, .rw, 0, [⟨0x100, 4096, 2048⟩]⟩
  | .ATL_KEY_NEXT => ⟨.atl, 0x10, 16, 13, .rw, 0, [⟨0x100, 4096, 2048⟩]⟩
  | .ATL_IKEY_CUR => ⟨.atl, 0x10, 32, 12, .rw, 0, [⟨0x100, 4096, 2048⟩]⟩
  | .ATL_IKEY_NEXT => ⟨.atl, 0x10, 48, 12, .rw, 0, [⟨0x100, 4096, 2048⟩]⟩
  | .ATL_TDL_STATE => ⟨.atl, 0x10, 60, 2, .ro, 0, [⟨0x100, 4096, 2048⟩]⟩
  | .ATL_TDL_PAGE => ⟨.atl, 0x18, 0, 34, .ro, 0, [⟨0x100, 4096, 2048⟩]⟩
  | .ATL_PARTNER => ⟨.atl, 0x20, 0, 3, .ro, 0, [⟨0x100, 4096, 2048⟩]⟩
  | .ATL_PARTNER_UP => ⟨.atl, 0x20, 8, 1, .ro, 0, [⟨0x100, 4096, 2048⟩]⟩
  | .ATL_ERR => ⟨.atl, 0x28, 0, 8, .ro, 0, [⟨0x100, 4096, 2048⟩]⟩
  | .ATL_KEYS_ABSENT => ⟨.atl, 0x28, 8, 1, .ro, 0, [⟨0x100, 4096, 2048⟩]⟩
  | .ATL_QUOTA_OVER => ⟨.atl, 0x30, 0, 48, .ro, 0, [⟨0x100, 4096, 2048⟩]⟩
  | .ATL_BACKING => ⟨.atl, 0x38, 0, 40, .ro, 0, [⟨0x100, 4096, 2048⟩]⟩
  | .VW_VALID => ⟨.atl, 0xC0, 0, 1, .rw, 0, [⟨0x100, 4096, 2048⟩, ⟨0x10, 4, 4⟩]⟩
  | .VW_CLOSING => ⟨.atl, 0xC0, 1, 1, .ro, 0, [⟨0x100, 4096, 2048⟩, ⟨0x10, 4, 4⟩]⟩
  | .VW_LD => ⟨.atl, 0xC0, 8, 8, .rw, 0, [⟨0x100, 4096, 2048⟩, ⟨0x10, 4, 4⟩]⟩
  | .VW_ATOLL => ⟨.atl, 0xC0, 16, 12, .rw, 0, [⟨0x100, 4096, 2048⟩, ⟨0x10, 4, 4⟩]⟩
  | .VW_ERR => ⟨.atl, 0xC0, 32, 8, .ro, 0, [⟨0x100, 4096, 2048⟩, ⟨0x10, 4, 4⟩]⟩
  | .VW_LDBASE => ⟨.atl, 0xC8, 0, 24, .rw, 0, [⟨0x100, 4096, 2048⟩, ⟨0x10, 4, 4⟩]⟩
  | .GRN_ELASTIC_EN => ⟨.grn, 0x0, 0, 1, .rw, 0, []⟩
  | .GRN_COMPACT_EN => ⟨.grn, 0x0, 1, 1, .rw, 1, []⟩
  | .GRN_SWEEP_EN => ⟨.grn, 0x0, 2, 1, .rw, 1, []⟩
  | .GRN_WR_REFUSED => ⟨.grn, 0x0, 8, 1, .ro, 0, []⟩
  | .GRN_FLOOR_BP => ⟨.grn, 0x8, 0, 16, .rw, 100, []⟩
  | .GRN_WM_MID_BP => ⟨.grn, 0x8, 16, 16, .rw, 300, []⟩
  | .GRN_WM_HIGH_BP => ⟨.grn, 0x8, 32, 16, .rw, 500, []⟩
  | .GRN_WM_HYST_BP => ⟨.grn, 0x8, 48, 16, .rw, 25, []⟩
  | .GRN_DEADLINE => ⟨.grn, 0x10, 0, 32, .rw, 0x7530, []⟩
  | .GRN_LEVEL => ⟨.grn, 0x18, 0, 2, .ro, 0, []⟩
  | .GRN_LEVEL_CHANGES => ⟨.grn, 0x18, 32, 32, .ro, 0, []⟩
  | .GRN_HEADROOM => ⟨.grn, 0x20, 0, 40, .ro, 0, []⟩
  | .GRN_RELEASE_OUT => ⟨.grn, 0x28, 0, 32, .ro, 0, []⟩
  | .GRN_REVOKED => ⟨.grn, 0x28, 32, 32, .ro, 0, []⟩
  | .GRN_DROPPED => ⟨.grn, 0x30, 0, 48, .ro, 0, []⟩
  | .GRN_SWEEP_HOURS => ⟨.grn, 0x38, 0, 16, .rw, 1, []⟩
  | .GRN_SWEEP_PASSES => ⟨.grn, 0x38, 32, 32, .ro, 0, []⟩
  | .GRN_FREE => ⟨.grn, 0x100, 0, 40, .ro, 0, [⟨0x40, 32, 16⟩]⟩
  | .GRN_ALLOCATED => ⟨.grn, 0x108, 0, 40, .ro, 0, [⟨0x40, 32, 16⟩]⟩
  | .GRN_META => ⟨.grn, 0x110, 0, 40, .ro, 0, [⟨0x40, 32, 16⟩]⟩
  | .GRN_QUAR => ⟨.grn, 0x118, 0, 40, .ro, 0, [⟨0x40, 32, 16⟩]⟩
  | .GRN_TOTAL => ⟨.grn, 0x120, 0, 40, .ro, 0, [⟨0x40, 32, 16⟩]⟩
  | .GRN_OWED => ⟨.grn, 0x128, 0, 40, .ro, 0, [⟨0x40, 32, 16⟩]⟩
  | .GRN_HOME_LEVEL => ⟨.grn, 0x130, 0, 2, .ro, 0, [⟨0x40, 32, 16⟩]⟩
  | .GRN_STRIPES => ⟨.grn, 0x130, 16, 32, .ro, 0, [⟨0x40, 32, 16⟩]⟩
  | .GRN_MOVES => ⟨.grn, 0x138, 0, 32, .ro, 0, [⟨0x40, 32, 16⟩]⟩
  | .GRN_MOVE_ABORTS => ⟨.grn, 0x138, 32, 32, .ro, 0, [⟨0x40, 32, 16⟩]⟩
  | .TIER_HEAT_EN => ⟨.tier, 0x0, 0, 1, .rw, 1, []⟩
  | .TIER_WR_REFUSED => ⟨.tier, 0x0, 8, 1, .ro, 0, []⟩
  | .TIER_HEAT_PERIOD => ⟨.tier, 0x8, 0, 32, .rw, 1000, []⟩
  | .TIER_PERIOD_NOW => ⟨.tier, 0x10, 0, 32, .ro, 0, []⟩
  | .TIER_STRETCH => ⟨.tier, 0x10, 32, 32, .ro, 0, []⟩
  | .TIER_SINKS => ⟨.tier, 0x20, 0, 48, .ro, 0, []⟩
  | .TIER_LIFTS_GROWTH => ⟨.tier, 0x28, 0, 48, .ro, 0, []⟩
  | .TIER_LIFTS_HEAT => ⟨.tier, 0x30, 0, 48, .ro, 0, []⟩
  | .TIER_PUSHES => ⟨.tier, 0x38, 0, 48, .ro, 0, []⟩
  | .TIER_RECALLS => ⟨.tier, 0x40, 0, 48, .ro, 0, []⟩
  | .TIER_HINT_DOWN => ⟨.tier, 0x48, 0, 48, .ro, 0, []⟩
  | .TIER_REMOTE_READS => ⟨.tier, 0x50, 0, 48, .ro, 0, []⟩
  | .TIER_CLS_SINK_HEAT => ⟨.tier, 0x100, 0, 10, .rw, 2, [⟨0x10, 8, 8⟩]⟩
  | .TIER_CLS_SINK_DWELL => ⟨.tier, 0x100, 16, 6, .rw, 8, [⟨0x10, 8, 8⟩]⟩
  | .TIER_CLS_SWELL_SINK_HEAT => ⟨.tier, 0x100, 32, 10, .rw, 8, [⟨0x10, 8, 8⟩]⟩
  | .TIER_CLS_SWELL_DWELL => ⟨.tier, 0x100, 48, 6, .rw, 2, [⟨0x10, 8, 8⟩]⟩
  | .TIER_CLS_LIFT_HEAT => ⟨.tier, 0x108, 0, 10, .rw, 64, [⟨0x10, 8, 8⟩]⟩
  | .TIER_CLS_PUSH_DWELL => ⟨.tier, 0x108, 16, 6, .rw, 32, [⟨0x10, 8, 8⟩]⟩
  | .TIER_CLS_PUSH_EN => ⟨.tier, 0x108, 24, 1, .rw, 0, [⟨0x10, 8, 8⟩]⟩
  | .TIER_CLS_RECALL_MODE => ⟨.tier, 0x108, 32, 2, .rw, 0, [⟨0x10, 8, 8⟩]⟩
  | .TIER_CLS_RECALL_HEAT => ⟨.tier, 0x108, 48, 10, .rw, 16, [⟨0x10, 8, 8⟩]⟩
  | .TIER_ATL_CLASS => ⟨.tier, 0x8000, 0, 3, .rw, 0, [⟨0x8, 4096, 2048⟩]⟩
  | .KEY_META_READY => ⟨.key, 0x0, 0, 1, .ro, 0, []⟩
  | .KEY_TRANSPORT_SET => ⟨.key, 0x0, 1, 1, .ro, 0, []⟩
  | .KEY_ENTROPY_OK => ⟨.key, 0x0, 2, 1, .ro, 0, []⟩
  | .KEY_SPDM_REFUSED => ⟨.key, 0x8, 0, 32, .ro, 0, []⟩
  | .KEY_PLAIN_WRITES => ⟨.key, 0x10, 0, 32, .ro, 0, []⟩
  | .KEY_ZEROISED => ⟨.key, 0x18, 0, 32, .ro, 0, []⟩
  | .KEY_DATA_SET => ⟨.key, 0x1000, 0, 64, .ro, 0, [⟨0x8, 128, 128⟩]⟩
  | .KEY_INT_SET => ⟨.key, 0x1400, 0, 64, .ro, 0, [⟨0x8, 64, 64⟩]⟩
  | .KEY_SAK_SET => ⟨.key, 0x1600, 0, 32, .ro, 0, []⟩
  | .TDL_EN => ⟨.tdl, 0x0, 0, 1, .rw, 1, []⟩
  | .TDL_WR_REFUSED => ⟨.tdl, 0x0, 8, 1, .ro, 0, []⟩
  | .TDL_RATE_DEV => ⟨.tdl, 0x8, 0, 8, .rw, 80, []⟩
  | .TDL_RATE_ATL => ⟨.tdl, 0x8, 8, 8, .rw, 20, []⟩
  | .TDL_AUTO_EPOCH => ⟨.tdl, 0x10, 0, 32, .rw, 0x80000000, []⟩
  | .TDL_PAGES => ⟨.tdl, 0x18, 0, 48, .ro, 0, []⟩
  | .TDL_RESEALS => ⟨.tdl, 0x20, 0, 48, .ro, 0, []⟩
  | .TDL_EPOCH_STOPS => ⟨.tdl, 0x28, 0, 32, .ro, 0, []⟩
  | .TDL_SLOT_ATOLL => ⟨.tdl, 0x100, 0, 12, .rw, 0, [⟨0x40, 8, 8⟩]⟩
  | .TDL_SLOT_START => ⟨.tdl, 0x100, 16, 1, .w1s, 0, [⟨0x40, 8, 8⟩]⟩
  | .TDL_SLOT_PAUSE => ⟨.tdl, 0x100, 17, 1, .rw, 0, [⟨0x40, 8, 8⟩]⟩
  | .TDL_SLOT_STATE => ⟨.tdl, 0x100, 18, 2, .ro, 0, [⟨0x40, 8, 8⟩]⟩
  | .TDL_SLOT_AUTO => ⟨.tdl, 0x100, 20, 1, .ro, 0, [⟨0x40, 8, 8⟩]⟩
  | .TDL_SLOT_ERR => ⟨.tdl, 0x100, 24, 8, .ro, 0, [⟨0x40, 8, 8⟩]⟩
  | .TDL_SLOT_LINE => ⟨.tdl, 0x108, 0, 34, .ro, 0, [⟨0x40, 8, 8⟩]⟩
  | .TDL_SLOT_WINDOW => ⟨.tdl, 0x110, 0, 64, .ro, 0, [⟨0x40, 8, 8⟩]⟩
  | .TDL_SLOT_PASSES => ⟨.tdl, 0x118, 0, 48, .ro, 0, [⟨0x40, 8, 8⟩]⟩
  | .TDL_SLOT_PAGES => ⟨.tdl, 0x120, 0, 34, .ro, 0, [⟨0x40, 8, 8⟩]⟩
  | .DIR_BISNP_TIMEOUT => ⟨.dir, 0x0, 0, 32, .rw, 1000, []⟩
  | .DIR_WR_REFUSED => ⟨.dir, 0x0, 32, 1, .ro, 0, []⟩
  | .DIR_EVICTIONS => ⟨.dir, 0x8, 0, 48, .ro, 0, []⟩
  | .DIR_SETFULL_WAITS => ⟨.dir, 0x10, 0, 48, .ro, 0, []⟩
  | .DIR_FWD3 => ⟨.dir, 0x18, 0, 48, .ro, 0, []⟩
  | .DIR_BICONFLICT => ⟨.dir, 0x20, 0, 48, .ro, 0, []⟩
  | .DIR_ATOMICS => ⟨.dir, 0x28, 0, 48, .ro, 0, []⟩
  | .DIR_PROTO_ERR => ⟨.dir, 0x30, 0, 32, .ro, 0, []⟩
  | .DIR_LOST_POISONED => ⟨.dir, 0x38, 0, 32, .ro, 0, []⟩
  | .DIR_SUSPECT_SETS => ⟨.dir, 0x40, 0, 32, .ro, 0, []⟩
  | .DIR_VALID => ⟨.dir, 0x100, 0, 18, .ro, 0, [⟨0x20, 32, 16⟩]⟩
  | .DIR_COARSE => ⟨.dir, 0x100, 24, 18, .ro, 0, [⟨0x20, 32, 16⟩]⟩
  | .DIR_OPEN => ⟨.dir, 0x108, 0, 10, .ro, 0, [⟨0x20, 32, 16⟩]⟩
  | .DIR_SETQ => ⟨.dir, 0x108, 16, 5, .ro, 0, [⟨0x20, 32, 16⟩]⟩
  | .DIR_LINEQ => ⟨.dir, 0x108, 32, 7, .ro, 0, [⟨0x20, 32, 16⟩]⟩
  | .DIR_FWD_FAILS => ⟨.dir, 0x110, 0, 48, .ro, 0, [⟨0x20, 32, 16⟩]⟩
  | .HBR_MGMT_HEAD => ⟨.hbr, 0x0, 0, 6, .rwl, 0, []⟩
  | .HBR_INJECT_EN => ⟨.hbr, 0x0, 8, 1, .rw, 0, []⟩
  | .HBR_WR_REFUSED => ⟨.hbr, 0x0, 16, 1, .ro, 0, []⟩
  | .HBR_PATIENCE => ⟨.hbr, 0x8, 0, 32, .rw, 2000, []⟩
  | .HBR_GRP_BIFUR => ⟨.hbr, 0x100, 0, 2, .rw, 0, [⟨0x40, 16, 8⟩]⟩
  | .HBR_GRP_EN => ⟨.hbr, 0x100, 2, 1, .rw, 1, [⟨0x40, 16, 8⟩]⟩
  | .HBR_GRP_MAXRATE => ⟨.hbr, 0x100, 4, 3, .rw, 5, [⟨0x40, 16, 8⟩]⟩
  | .HBR_GRP_POWERED => ⟨.hbr, 0x100, 8, 1, .ro, 0, [⟨0x40, 16, 8⟩]⟩
  | .HBR_GRP_COMMON => ⟨.hbr, 0x108, 0, 6, .ro, 0, [⟨0x40, 16, 8⟩]⟩
  | .HBR_HEAD_RESV => ⟨.hbr, 0x1000, 0, 6, .rw, 8, [⟨0x40, 64, 32⟩]⟩
  | .HBR_HEAD_L0P_AUTO => ⟨.hbr, 0x1000, 8, 1, .rw, 0, [⟨0x40, 64, 32⟩]⟩
  | .HBR_HEAD_WIDTH => ⟨.hbr, 0x1008, 0, 5, .ro, 0, [⟨0x40, 64, 32⟩]⟩
  | .HBR_HEAD_RATE => ⟨.hbr, 0x1008, 8, 3, .ro, 0, [⟨0x40, 64, 32⟩]⟩
  | .HBR_HEAD_FLIT => ⟨.hbr, 0x1008, 12, 2, .ro, 0, [⟨0x40, 64, 32⟩]⟩
  | .HBR_HEAD_IDE => ⟨.hbr, 0x1008, 14, 1, .ro, 0, [⟨0x40, 64, 32⟩]⟩
  | .HBR_HEAD_L0P => ⟨.hbr, 0x1008, 16, 5, .ro, 0, [⟨0x40, 64, 32⟩]⟩
  | .HBR_HEAD_LTSSM => ⟨.hbr, 0x1008, 24, 6, .ro, 0, [⟨0x40, 64, 32⟩]⟩
  | .HBR_HEAD_LDS => ⟨.hbr, 0x1008, 32, 5, .ro, 0, [⟨0x40, 64, 32⟩]⟩
  | .HBR_HEAD_RETRAINS => ⟨.hbr, 0x1010, 0, 32, .ro, 0, [⟨0x40, 64, 32⟩]⟩
  | .HBR_HEAD_DISCARDS => ⟨.hbr, 0x1018, 0, 48, .ro, 0, [⟨0x40, 64, 32⟩]⟩
  | .HBR_HEAD_OCCUPANCY => ⟨.hbr, 0x1020, 0, 21, .ro, 0, [⟨0x40, 64, 32⟩]⟩
  | .HBR_LD_VALID => ⟨.hbr, 0x4000, 0, 1, .rw, 0, [⟨0x40, 256, 128⟩]⟩
  | .HBR_LD_HEAD => ⟨.hbr, 0x4000, 8, 6, .rw, 0, [⟨0x40, 256, 128⟩]⟩
  | .HBR_LD_ID => ⟨.hbr, 0x4000, 16, 4, .rw, 0, [⟨0x40, 256, 128⟩]⟩
  | .HBR_LD_CAP => ⟨.hbr, 0x4008, 0, 18, .rw, 0, [⟨0x40, 256, 128⟩]⟩
  | .HBR_LD_ALIAS_BASE => ⟨.hbr, 0x4010, 0, 24, .rw, 0, [⟨0x40, 256, 128⟩]⟩
  | .HBR_LD_ALIAS_LOG2 => ⟨.hbr, 0x4010, 24, 6, .rw, 0, [⟨0x40, 256, 128⟩]⟩
  | .HBR_LD_UNMAPPED => ⟨.hbr, 0x4018, 0, 48, .ro, 0, [⟨0x40, 256, 128⟩]⟩
  | .HBR_LD_EVT_OVERFLOW => ⟨.hbr, 0x4020, 0, 48, .ro, 0, [⟨0x40, 256, 128⟩]⟩
  | .QP_OWNER => ⟨.qp, 0x0, 0, 9, .rw, 511, [⟨0x80, 8192, 4096⟩]⟩
  | .QP_LD_CTRL => ⟨.qp, 0x0, 9, 1, .rw, 0, [⟨0x80, 8192, 4096⟩]⟩
  | .QP_PRIO => ⟨.qp, 0x0, 10, 2, .rw, 0, [⟨0x80, 8192, 4096⟩]⟩
  | .QP_SQ_HOST => ⟨.qp, 0x0, 12, 1, .rw, 0, [⟨0x80, 8192, 4096⟩]⟩
  | .QP_CQ_HOST => ⟨.qp, 0x0, 13, 1, .rw, 0, [⟨0x80, 8192, 4096⟩]⟩
  | .QP_PRIV => ⟨.qp, 0x0, 14, 1, .rwl, 0, [⟨0x80, 8192, 4096⟩]⟩
  | .QP_SQ_LOG2 => ⟨.qp, 0x0, 16, 5, .rw, 6, [⟨0x80, 8192, 4096⟩]⟩
  | .QP_CQ_LOG2 => ⟨.qp, 0x0, 24, 5, .rw, 6, [⟨0x80, 8192, 4096⟩]⟩
  | .QP_EN => ⟨.qp, 0x0, 32, 1, .rw, 0, [⟨0x80, 8192, 4096⟩]⟩
  | .QP_BUSY => ⟨.qp, 0x0, 33, 1, .ro, 0, [⟨0x80, 8192, 4096⟩]⟩
  | .QP_STATE => ⟨.qp, 0x0, 34, 2, .ro, 0, [⟨0x80, 8192, 4096⟩]⟩
  | .QP_WR_REFUSED => ⟨.qp, 0x0, 36, 1, .ro, 0, [⟨0x80, 8192, 4096⟩]⟩
  | .QP_ERR => ⟨.qp, 0x0, 40, 8, .ro, 0, [⟨0x80, 8192, 4096⟩]⟩
  | .QP_SQ_BASE => ⟨.qp, 0x8, 0, 64, .rw, 0, [⟨0x80, 8192, 4096⟩]⟩
  | .QP_CQ_BASE => ⟨.qp, 0x10, 0, 64, .rw, 0, [⟨0x80, 8192, 4096⟩]⟩
  | .QP_VECTOR => ⟨.qp, 0x18, 0, 11, .rw, 0, [⟨0x80, 8192, 4096⟩]⟩
  | .QP_IRQ_EN => ⟨.qp, 0x18, 16, 1, .rw, 0, [⟨0x80, 8192, 4096⟩]⟩
  | .QP_IRQ_COUNT => ⟨.qp, 0x18, 24, 8, .rw, 1, [⟨0x80, 8192, 4096⟩]⟩
  | .QP_IRQ_USEC => ⟨.qp, 0x18, 32, 16, .rw, 0, [⟨0x80, 8192, 4096⟩]⟩
  | .QP_DEPTH => ⟨.qp, 0x18, 48, 9, .rw, 32, [⟨0x80, 8192, 4096⟩]⟩
  | .QP_SQ_TAIL => ⟨.qp, 0x20, 0, 16, .ro, 0, [⟨0x80, 8192, 4096⟩]⟩
  | .QP_SQ_HEAD => ⟨.qp, 0x20, 16, 16, .ro, 0, [⟨0x80, 8192, 4096⟩]⟩
  | .QP_CQ_TAIL => ⟨.qp, 0x20, 32, 16, .ro, 0, [⟨0x80, 8192, 4096⟩]⟩
  | .QP_CQ_HEAD => ⟨.qp, 0x20, 48, 16, .ro, 0, [⟨0x80, 8192, 4096⟩]⟩
  | .QP_CQ_PHASE => ⟨.qp, 0x28, 0, 1, .ro, 1, [⟨0x80, 8192, 4096⟩]⟩
  | .QP_INFLIGHT => ⟨.qp, 0x28, 16, 9, .ro, 0, [⟨0x80, 8192, 4096⟩]⟩
  | .QP_FETCHED => ⟨.qp, 0x30, 0, 48, .ro, 0, [⟨0x80, 8192, 4096⟩]⟩
  | .QP_COMPLETED => ⟨.qp, 0x38, 0, 48, .ro, 0, [⟨0x80, 8192, 4096⟩]⟩
  | .QP_COMPL_DISCARDED => ⟨.qp, 0x40, 0, 48, .ro, 0, [⟨0x80, 8192, 4096⟩]⟩
  | .QP_BELL_IGNORED => ⟨.qp, 0x48, 0, 32, .ro, 0, [⟨0x80, 8192, 4096⟩]⟩
  | .QP_MGMT_BELL => ⟨.qp, 0x50, 0, 64, .rw, 0, [⟨0x80, 8192, 4096⟩]⟩
  | .FRY_CURSOR => ⟨.ldf, 0x0, 0, 64, .rw, 0, [⟨0x1000, 256, 128⟩]⟩
  | .FRY_PLACE => ⟨.ldf, 0x8, 0, 2, .rw, 0, [⟨0x1000, 256, 128⟩]⟩
  | .FRY_PEER => ⟨.ldf, 0x8, 4, 3, .rw, 0, [⟨0x1000, 256, 128⟩]⟩
  | .FRY_ERR => ⟨.ldf, 0x10, 0, 5, .w1c, 0, [⟨0x1000, 256, 128⟩]⟩
  | .FRY_WR_BYTES => ⟨.ldf, 0x18, 0, 48, .ro, 0, [⟨0x1000, 256, 128⟩]⟩
  | .FRY_RD_BYTES => ⟨.ldf, 0x20, 0, 48, .ro, 0, [⟨0x1000, 256, 128⟩]⟩
  | .FRY_REJECTS => ⟨.ldf, 0x28, 0, 32, .ro, 0, [⟨0x1000, 256, 128⟩]⟩
  | .FRY_MGMT_IGNORED => ⟨.fry, 0x0, 0, 32, .ro, 0, []⟩
  | .FRY_M_EID => ⟨.fry, 0x100, 0, 8, .rw, 0, [⟨0x40, 8, 8⟩]⟩
  | .FRY_M_VALID => ⟨.fry, 0x100, 8, 1, .rw, 0, [⟨0x40, 8, 8⟩]⟩
  | .FRY_M_TARGET => ⟨.fry, 0x100, 16, 9, .rw, 0, [⟨0x40, 8, 8⟩]⟩
  | .FRY_M_CURSOR => ⟨.fry, 0x108, 0, 64, .rw, 0, [⟨0x40, 8, 8⟩]⟩
  | .FRY_M_PLACE => ⟨.fry, 0x110, 0, 2, .rw, 0, [⟨0x40, 8, 8⟩]⟩
  | .FRY_M_PEER => ⟨.fry, 0x110, 4, 3, .rw, 0, [⟨0x40, 8, 8⟩]⟩
  | .FRY_M_ERR => ⟨.fry, 0x118, 0, 5, .w1c, 0, [⟨0x40, 8, 8⟩]⟩
  | .FRY_M_WR_BYTES => ⟨.fry, 0x120, 0, 48, .ro, 0, [⟨0x40, 8, 8⟩]⟩
  | .FRY_M_RD_BYTES => ⟨.fry, 0x128, 0, 48, .ro, 0, [⟨0x40, 8, 8⟩]⟩
  | .FRY_M_REJECTS => ⟨.fry, 0x130, 0, 32, .ro, 0, [⟨0x40, 8, 8⟩]⟩
  | .BQL_ETHERTYPE => ⟨.bql, 0x0, 0, 16, .rwl, 0x88B5, [⟨0x1000, 1, 0⟩]⟩
  | .BQL_WR_REFUSED => ⟨.bql, 0x0, 16, 1, .ro, 0, [⟨0x1000, 1, 0⟩]⟩
  | .BQL_VLAN_ID => ⟨.bql, 0x0, 32, 12, .rwl, 0, [⟨0x1000, 1, 0⟩]⟩
  | .BQL_ACK_COUNT => ⟨.bql, 0x8, 0, 6, .rw, 32, [⟨0x1000, 1, 0⟩]⟩
  | .BQL_ACK_TIME => ⟨.bql, 0x8, 16, 32, .rw, 2000, [⟨0x1000, 1, 0⟩]⟩
  | .BQL_REPLAY_TIMEOUT => ⟨.bql, 0x10, 0, 16, .rw, 20, [⟨0x1000, 1, 0⟩]⟩
  | .BQL_GRACE => ⟨.bql, 0x10, 32, 16, .rw, 100, [⟨0x1000, 1, 0⟩]⟩
  | .BQL_CLASS_PCP => ⟨.bql, 0x18, 0, 19, .rw, 0x75543, [⟨0x1000, 1, 0⟩]⟩
  | .BQL_P_EN => ⟨.bql, 0x100, 0, 1, .rw, 0, [⟨0x100, 2, 0⟩]⟩
  | .BQL_P_MODE => ⟨.bql, 0x100, 1, 1, .rw, 0, [⟨0x100, 2, 0⟩]⟩
  | .BQL_P_DIRECT => ⟨.bql, 0x100, 2, 1, .rw, 0, [⟨0x100, 2, 0⟩]⟩
  | .BQL_P_POWERED => ⟨.bql, 0x100, 3, 1, .ro, 0, [⟨0x100, 2, 0⟩]⟩
  | .BQL_P_SETTLED => ⟨.bql, 0x108, 0, 2, .ro, 0, [⟨0x100, 2, 0⟩]⟩
  | .BQL_P_LANES => ⟨.bql, 0x108, 8, 8, .ro, 0, [⟨0x100, 2, 0⟩]⟩
  | .BQL_P_MAC => ⟨.bql, 0x110, 0, 48, .rwl, 0, [⟨0x100, 2, 0⟩]⟩
  | .BQL_P_FCS_DROPS => ⟨.bql, 0x118, 0, 48, .ro, 0, [⟨0x100, 2, 0⟩]⟩
  | .BQL_P_ICV_DROPS => ⟨.bql, 0x120, 0, 48, .ro, 0, [⟨0x100, 2, 0⟩]⟩
  | .BQL_P_LAND_USED => ⟨.bql, 0x128, 0, 18, .ro, 0, [⟨0x100, 2, 0⟩]⟩
  | .BQL_P_REPLAY_USED => ⟨.bql, 0x128, 32, 17, .ro, 0, [⟨0x100, 2, 0⟩]⟩
  | .BQL_P_LAND_NAKS => ⟨.bql, 0x130, 0, 32, .ro, 0, [⟨0x100, 2, 0⟩]⟩
  | .BQL_L_EN => ⟨.bql, 0x1000, 0, 1, .rw, 0, [⟨0x100, 16, 0⟩]⟩
  | .BQL_L_AN_TX => ⟨.bql, 0x1000, 2, 1, .rw, 0, [⟨0x100, 16, 0⟩]⟩
  | .BQL_L_STATE => ⟨.bql, 0x1000, 8, 3, .ro, 0, [⟨0x100, 16, 0⟩]⟩
  | .BQL_L_REQ_BUDGET => ⟨.bql, 0x1000, 16, 12, .rw, 128, [⟨0x100, 16, 0⟩]⟩
  | .BQL_L_PEER_MAC => ⟨.bql, 0x1008, 0, 48, .rw, 0, [⟨0x100, 16, 0⟩]⟩
  | .BQL_L_PEER_IDENT => ⟨.bql, 0x1010, 0, 64, .ro, 0, [⟨0x100, 16, 0⟩]⟩
  | .BQL_L_SESSION => ⟨.bql, 0x1018, 0, 32, .ro, 0, [⟨0x100, 16, 0⟩]⟩
  | .BQL_L_VERSION => ⟨.bql, 0x1018, 32, 8, .ro, 0, [⟨0x100, 16, 0⟩]⟩
  | .BQL_L_MTU => ⟨.bql, 0x1018, 40, 2, .ro, 0, [⟨0x100, 16, 0⟩]⟩
  | .BQL_L_RATE => ⟨.bql, 0x1018, 42, 2, .ro, 0, [⟨0x100, 16, 0⟩]⟩
  | .BQL_L_FEATURES => ⟨.bql, 0x1018, 48, 16, .ro, 0, [⟨0x100, 16, 0⟩]⟩
  | .BQL_L_TX_SEQ => ⟨.bql, 0x1020, 0, 32, .ro, 0, [⟨0x100, 16, 0⟩]⟩
  | .BQL_L_TX_ACKED => ⟨.bql, 0x1020, 32, 32, .ro, 0, [⟨0x100, 16, 0⟩]⟩
  | .BQL_L_RX_EXPECT => ⟨.bql, 0x1028, 0, 32, .ro, 0, [⟨0x100, 16, 0⟩]⟩
  | .BQL_L_BAD_HDR => ⟨.bql, 0x1028, 32, 32, .ro, 0, [⟨0x100, 16, 0⟩]⟩
  | .BQL_L_REPLAYS => ⟨.bql, 0x1030, 0, 48, .ro, 0, [⟨0x100, 16, 0⟩]⟩
  | .BQL_L_NAKS_SENT => ⟨.bql, 0x1038, 0, 32, .ro, 0, [⟨0x100, 16, 0⟩]⟩
  | .BQL_L_NAKS_RECV => ⟨.bql, 0x1038, 32, 32, .ro, 0, [⟨0x100, 16, 0⟩]⟩
  | .BQL_L_TIMEOUTS => ⟨.bql, 0x1040, 0, 32, .ro, 0, [⟨0x100, 16, 0⟩]⟩
  | .BQL_L_DUPLICATES => ⟨.bql, 0x1040, 32, 32, .ro, 0, [⟨0x100, 16, 0⟩]⟩
  | .BQL_L_LOSSES => ⟨.bql, 0x1048, 0, 32, .ro, 0, [⟨0x100, 16, 0⟩]⟩
  | .BQL_L_FLUSHES => ⟨.bql, 0x1048, 32, 32, .ro, 0, [⟨0x100, 16, 0⟩]⟩
  | .BQL_L_LOST_FIRST => ⟨.bql, 0x1050, 0, 32, .ro, 0, [⟨0x100, 16, 0⟩]⟩
  | .BQL_L_LOST_END => ⟨.bql, 0x1050, 32, 32, .ro, 0, [⟨0x100, 16, 0⟩]⟩
  | .BQL_L_PEER_DLV => ⟨.bql, 0x1058, 0, 32, .ro, 0, [⟨0x100, 16, 0⟩]⟩
  | .BQL_L_PEER_DLV_VALID => ⟨.bql, 0x1058, 32, 1, .ro, 0, [⟨0x100, 16, 0⟩]⟩
  | .BQL_L_HELLO_REFUSED => ⟨.bql, 0x1060, 0, 16, .ro, 0, [⟨0x100, 16, 0⟩]⟩
  | .BQL_L_RENEG_LOST => ⟨.bql, 0x1060, 16, 16, .ro, 0, [⟨0x100, 16, 0⟩]⟩
  | .ARC_SLED_ID => ⟨.arc, 0x0, 0, 3, .rw, 0, [⟨0x8000, 1, 0⟩]⟩
  | .ARC_EN => ⟨.arc, 0x0, 8, 1, .rw, 0, [⟨0x8000, 1, 0⟩]⟩
  | .ARC_LEAVE => ⟨.arc, 0x0, 9, 1, .w1s, 0, [⟨0x8000, 1, 0⟩]⟩
  | .ARC_WR_REFUSED => ⟨.arc, 0x0, 16, 1, .ro, 0, [⟨0x8000, 1, 0⟩]⟩
  | .ARC_MEMBERS => ⟨.arc, 0x8, 0, 8, .ro, 0, [⟨0x8000, 1, 0⟩]⟩
  | .ARC_OFF_PEERS => ⟨.arc, 0x8, 8, 8, .rw, 255, [⟨0x8000, 1, 0⟩]⟩
  | .ARC_FORGET => ⟨.arc, 0x8, 16, 8, .w1s, 0, [⟨0x8000, 1, 0⟩]⟩
  | .ARC_HOLD_GROUPS => ⟨.arc, 0x10, 0, 8, .rw, 0, [⟨0x8000, 1, 0⟩]⟩
  | .ARC_HOLD_USED => ⟨.arc, 0x18, 0, 40, .ro, 0, [⟨0x8000, 1, 0⟩]⟩
  | .ARC_HELD_IMAGES => ⟨.arc, 0x20, 0, 48, .ro, 0, [⟨0x8000, 1, 0⟩]⟩
  | .ARC_REL_PENDING => ⟨.arc, 0x28, 0, 32, .ro, 0, [⟨0x8000, 1, 0⟩]⟩
  | .ARC_WITNESS => ⟨.arc, 0x30, 0, 3, .rw, 0, [⟨0x8000, 1, 0⟩]⟩
  | .ARC_WITNESS_EN => ⟨.arc, 0x30, 8, 1, .rw, 0, [⟨0x8000, 1, 0⟩]⟩
  | .ARC_CLAIM_WAIT => ⟨.arc, 0x30, 16, 16, .rw, 1000, [⟨0x8000, 1, 0⟩]⟩
  | .ARC_EVAC_DIMM => ⟨.arc, 0x38, 0, 5, .rw, 0, [⟨0x8000, 1, 0⟩]⟩
  | .ARC_EVAC_START => ⟨.arc, 0x38, 8, 1, .w1s, 0, [⟨0x8000, 1, 0⟩]⟩
  | .ARC_EVAC_STATE => ⟨.arc, 0x38, 16, 2, .ro, 0, [⟨0x8000, 1, 0⟩]⟩
  | .ARC_EVAC_LEFT => ⟨.arc, 0x40, 0, 40, .ro, 0, [⟨0x8000, 1, 0⟩]⟩
  | .ARC_PAIR_ATOLL => ⟨.arc, 0x80, 0, 12, .rw, 0, [⟨0x8000, 1, 0⟩]⟩
  | .ARC_PAIR_PEER => ⟨.arc, 0x80, 12, 3, .rw, 0, [⟨0x8000, 1, 0⟩]⟩
  | .ARC_PAIR_MODE => ⟨.arc, 0x80, 16, 3, .rw, 0, [⟨0x8000, 1, 0⟩]⟩
  | .ARC_PAIR_ROLE => ⟨.arc, 0x80, 19, 1, .rw, 0, [⟨0x8000, 1, 0⟩]⟩
  | .ARC_PAIR_GO => ⟨.arc, 0x80, 24, 1, .w1s, 0, [⟨0x8000, 1, 0⟩]⟩
  | .ARC_PAIR_STATUS => ⟨.arc, 0x80, 32, 4, .ro, 0, [⟨0x8000, 1, 0⟩]⟩
  | .ARC_WIT_HOLDER => ⟨.arc, 0x100, 0, 3, .ro, 0, [⟨0x8, 56, 0⟩]⟩
  | .ARC_WIT_VALID => ⟨.arc, 0x100, 8, 1, .ro, 0, [⟨0x8, 56, 0⟩]⟩
  | .ARC_PEER_IDENT => ⟨.arc, 0x400, 0, 64, .ro, 0, [⟨0x10, 8, 0⟩]⟩
  | .ARC_PEER_GSN => ⟨.arc, 0x408, 0, 64, .ro, 0, [⟨0x10, 8, 0⟩]⟩
  | .ARC_ATL_HOME => ⟨.arc, 0x8000, 0, 3, .rw, 0, [⟨0x8, 4096, 0⟩]⟩
  | .ARC_ATL_REMOTE => ⟨.arc, 0x8000, 8, 1, .rw, 0, [⟨0x8, 4096, 0⟩]⟩
  | .ARC_ATL_COPY => ⟨.arc, 0x8000, 9, 1, .ro, 0, [⟨0x8, 4096, 0⟩]⟩
  | .ARC_ATL_FENCED => ⟨.arc, 0x8000, 10, 1, .ro, 0, [⟨0x8, 4096, 0⟩]⟩
  | .ARC_ATL_RESYNC => ⟨.arc, 0x8000, 11, 1, .ro, 0, [⟨0x8, 4096, 0⟩]⟩
  | .ARC_ATL_DIRTY => ⟨.arc, 0x8000, 32, 32, .ro, 0, [⟨0x8, 4096, 0⟩]⟩
  | .RGL_EN => ⟨.rgl, 0x0, 0, 1, .rw, 1, []⟩
  | .RGL_COMMIT => ⟨.rgl, 0x0, 1, 1, .w1s, 0, []⟩
  | .RGL_STATUS => ⟨.rgl, 0x0, 8, 2, .ro, 0, []⟩
  | .RGL_WR_REFUSED => ⟨.rgl, 0x0, 16, 1, .ro, 0, []⟩
  | .RGL_ERR_CHAN => ⟨.rgl, 0x0, 20, 4, .ro, 0, []⟩
  | .RGL_ERR => ⟨.rgl, 0x0, 24, 8, .ro, 0, []⟩
  | .RGL_FRAMES => ⟨.rgl, 0x8, 0, 48, .ro, 0, []⟩
  | .RGL_MISSED_TOTAL => ⟨.rgl, 0x10, 0, 32, .ro, 0, []⟩
  | .RGL_M_GUAR => ⟨.rgl, 0x100, 0, 16, .rw, 0, [⟨0x20, 74, 74⟩]⟩
  | .RGL_M_CHANSET => ⟨.rgl, 0x100, 16, 16, .rw, 0xFFFF, [⟨0x20, 74, 74⟩]⟩
  | .RGL_M_TAGS => ⟨.rgl, 0x100, 32, 1, .rw, 0, [⟨0x20, 74, 74⟩]⟩
  | .RGL_M_SENIOR => ⟨.rgl, 0x100, 33, 1, .rw, 0, [⟨0x20, 74, 74⟩]⟩
  | .RGL_M_PRIO => ⟨.rgl, 0x100, 36, 2, .rw, 1, [⟨0x20, 74, 74⟩]⟩
  | .RGL_M_DRAM => ⟨.rgl, 0x108, 0, 32, .ro, 0, [⟨0x20, 74, 74⟩]⟩
  | .RGL_M_WINDOWS => ⟨.rgl, 0x108, 32, 7, .ro, 0, [⟨0x20, 74, 74⟩]⟩
  | .RGL_M_LINES => ⟨.rgl, 0x110, 0, 48, .ro, 0, [⟨0x20, 74, 74⟩]⟩
  | .RGL_M_MISSED => ⟨.rgl, 0x118, 0, 32, .ro, 0, [⟨0x20, 74, 74⟩]⟩
  | .RGL_C_GC => ⟨.rgl, 0x1000, 0, 32, .ro, 0, [⟨0x100, 16, 8⟩]⟩
  | .RGL_C_GC_LIVE => ⟨.rgl, 0x1000, 32, 32, .ro, 0, [⟨0x100, 16, 8⟩]⟩
  | .RGL_C_SCALE => ⟨.rgl, 0x1008, 0, 11, .ro, 1024, [⟨0x100, 16, 8⟩]⟩
  | .RGL_C_SHRUNK => ⟨.rgl, 0x1008, 16, 1, .ro, 0, [⟨0x100, 16, 8⟩]⟩
  | .RGL_C_CAUSE => ⟨.rgl, 0x1008, 17, 3, .ro, 0, [⟨0x100, 16, 8⟩]⟩
  | .RGL_C_PTR => ⟨.rgl, 0x1008, 32, 7, .ro, 0, [⟨0x100, 16, 8⟩]⟩
  | .RGL_C_TABLE => ⟨.rgl, 0x1040, 0, 64, .ro, 0, [⟨0x100, 16, 8⟩, ⟨0x8, 8, 8⟩]⟩
  | .RGL_MC_DEFICIT => ⟨.rgl, 0x4000, 0, 32, .ro, 0, [⟨0x400, 16, 8⟩, ⟨0x8, 74, 74⟩]⟩
  | .RGL_MC_MISSED => ⟨.rgl, 0x4000, 32, 32, .ro, 0, [⟨0x400, 16, 8⟩, ⟨0x8, 74, 74⟩]⟩
  | .RGL_MC_ENT => ⟨.rgl, 0x8000, 0, 16, .ro, 0, [⟨0x400, 16, 8⟩, ⟨0x8, 74, 74⟩]⟩
  | .RGL_MC_LAST => ⟨.rgl, 0x8000, 16, 16, .ro, 0, [⟨0x400, 16, 8⟩, ⟨0x8, 74, 74⟩]⟩
  | .RGL_MC_DEMAND => ⟨.rgl, 0x8000, 32, 16, .ro, 0, [⟨0x400, 16, 8⟩, ⟨0x8, 74, 74⟩]⟩
  | .DRM_POP_SHAPE => ⟨.drm, 0x0, 0, 2, .ro, 0, []⟩
  | .DRM_POP_ERR => ⟨.drm, 0x0, 8, 8, .ro, 0, []⟩
  | .DRM_WR_REFUSED => ⟨.drm, 0x0, 16, 1, .ro, 0, []⟩
  | .DRM_SCRUB_HOURS => ⟨.drm, 0x8, 0, 16, .rw, 24, []⟩
  | .DRM_PPR_THRESH => ⟨.drm, 0x8, 16, 8, .rw, 4, []⟩
  | .DRM_DRIFT_MS => ⟨.drm, 0x10, 0, 16, .rw, 32, []⟩
  | .DRM_MAP => ⟨.drm, 0x20, 0, 64, .rwl, 0, [⟨0x8, 9, 9⟩]⟩
  | .DRM_C_RATE => ⟨.drm, 0x1000, 0, 4, .ro, 0, [⟨0x800, 16, 8⟩]⟩
  | .DRM_C_MAXRATE => ⟨.drm, 0x1000, 4, 3, .rw, 6, [⟨0x800, 16, 8⟩]⟩
  | .DRM_C_INSERVICE => ⟨.drm, 0x1000, 8, 1, .ro, 0, [⟨0x800, 16, 8⟩]⟩
  | .DRM_C_POWERED => ⟨.drm, 0x1000, 9, 1, .ro, 0, [⟨0x800, 16, 8⟩]⟩
  | .DRM_C_PWRDN => ⟨.drm, 0x1000, 10, 1, .rw, 0, [⟨0x800, 16, 8⟩]⟩
  | .DRM_C_DOUBLE_REF => ⟨.drm, 0x1000, 11, 1, .ro, 0, [⟨0x800, 16, 8⟩]⟩
  | .DRM_C_RECALLED => ⟨.drm, 0x1000, 12, 1, .ro, 0, [⟨0x800, 16, 8⟩]⟩
  | .DRM_C_SHADOW_GO => ⟨.drm, 0x1000, 13, 1, .w1s, 0, [⟨0x800, 16, 8⟩]⟩
  | .DRM_C_SHADOW_BUSY => ⟨.drm, 0x1000, 14, 1, .ro, 0, [⟨0x800, 16, 8⟩]⟩
  | .DRM_C_RANKS => ⟨.drm, 0x1000, 16, 5, .ro, 0, [⟨0x800, 16, 8⟩]⟩
  | .DRM_C_CE => ⟨.drm, 0x1008, 0, 48, .ro, 0, [⟨0x800, 16, 8⟩]⟩
  | .DRM_C_UE => ⟨.drm, 0x1010, 0, 32, .ro, 0, [⟨0x800, 16, 8⟩]⟩
  | .DRM_C_SCRUB_PASSES => ⟨.drm, 0x1010, 32, 32, .ro, 0, [⟨0x800, 16, 8⟩]⟩
  | .DRM_C_PPR_LEFT => ⟨.drm, 0x1018, 0, 8, .ro, 0, [⟨0x800, 16, 8⟩]⟩
  | .DRM_C_PPR_DONE => ⟨.drm, 0x1018, 16, 16, .ro, 0, [⟨0x800, 16, 8⟩]⟩
  | .DRM_C_TAA => ⟨.drm, 0x1020, 0, 16, .ro, 0, [⟨0x800, 16, 8⟩]⟩
  | .DRM_C_TRCD => ⟨.drm, 0x1020, 16, 16, .ro, 0, [⟨0x800, 16, 8⟩]⟩
  | .DRM_C_TRP => ⟨.drm, 0x1020, 32, 16, .ro, 0, [⟨0x800, 16, 8⟩]⟩
  | .DRM_C_MP_CMD => ⟨.drm, 0x1028, 0, 64, .rw, 0, [⟨0x800, 16, 8⟩]⟩
  | .DRM_C_MP_DATA => ⟨.drm, 0x1030, 0, 64, .rw, 0, [⟨0x800, 16, 8⟩]⟩
  | .DRM_D_STATE => ⟨.drm, 0xA000, 0, 3, .ro, 0, [⟨0x80, 32, 16⟩]⟩
  | .DRM_D_REASON => ⟨.drm, 0xA000, 8, 8, .ro, 0, [⟨0x80, 32, 16⟩]⟩
  | .DRM_D_RETIRE => ⟨.drm, 0xA000, 16, 1, .w1s, 0, [⟨0x80, 32, 16⟩]⟩
  | .DRM_D_TYPE => ⟨.drm, 0xA000, 17, 2, .ro, 0, [⟨0x80, 32, 16⟩]⟩
  | .DRM_D_CAP => ⟨.drm, 0xA000, 24, 8, .ro, 0, [⟨0x80, 32, 16⟩]⟩
  | .DRM_D_SERIAL => ⟨.drm, 0xA008, 0, 64, .ro, 0, [⟨0x80, 32, 16⟩]⟩
  | .DRM_D_TEMP => ⟨.drm, 0xA010, 0, 12, .ro, 0, [⟨0x80, 32, 16⟩]⟩
  | .DRM_D_CE => ⟨.drm, 0xA018, 0, 32, .ro, 0, [⟨0x80, 32, 16⟩]⟩
  | .DRM_D_UE => ⟨.drm, 0xA018, 32, 32, .ro, 0, [⟨0x80, 32, 16⟩]⟩
  | .DRM_D_LEFT => ⟨.drm, 0xA020, 0, 40, .ro, 0, [⟨0x80, 32, 16⟩]⟩
  | .DRM_L_RD => ⟨.drm, 0x10000, 0, 10, .rw, 0, [⟨0x1000, 16, 8⟩, ⟨0x200, 4, 4⟩, ⟨0x4, 80, 80⟩]⟩
  | .DRM_L_WR => ⟨.drm, 0x10000, 16, 10, .rw, 0, [⟨0x1000, 16, 8⟩, ⟨0x200, 4, 4⟩, ⟨0x4, 80, 80⟩]⟩
  | .DRM_L_VREF => ⟨.drm, 0x10000, 26, 6, .rw, 0, [⟨0x1000, 16, 8⟩, ⟨0x200, 4, 4⟩, ⟨0x4, 80, 80⟩]⟩
  | .NOC_PACE => ⟨.noc, 0x0, 0, 11, .ro, 0, []⟩
  | .NOC_PACE_TARGET => ⟨.noc, 0x0, 16, 11, .ro, 1024, []⟩
  | .NOC_PACE_LOW => ⟨.noc, 0x0, 32, 1, .ro, 0, []⟩
  | .NOC_WR_REFUSED => ⟨.noc, 0x0, 40, 1, .ro, 0, []⟩
  | .NOC_VCORE_MV => ⟨.noc, 0x8, 0, 10, .ro, 720, []⟩
  | .NOC_VCORE_MIN_MV => ⟨.noc, 0x8, 16, 10, .rwl, 600, []⟩
  | .NOC_VCORE_MAX_MV => ⟨.noc, 0x8, 32, 10, .rwl, 850, []⟩
  | .NOC_PACE_MIN_SEEN => ⟨.noc, 0x10, 0, 11, .ro, 2047, []⟩
  | .NOC_PACE_CLR => ⟨.noc, 0x10, 16, 1, .w1s, 0, []⟩
  | .NOC_AVS_ERRORS => ⟨.noc, 0x18, 0, 32, .ro, 0, []⟩
  | .NOC_REROUTED => ⟨.noc, 0x20, 0, 48, .ro, 0, []⟩
  | .NOC_ABSORBED => ⟨.noc, 0x28, 0, 48, .ro, 0, []⟩
  | .NOC_RECONF_ROUTER => ⟨.noc, 0x30, 0, 6, .rw, 0, []⟩
  | .NOC_RECONF_GO => ⟨.noc, 0x30, 8, 1, .w1s, 0, []⟩
  | .NOC_RECONF_STATE => ⟨.noc, 0x30, 10, 2, .ro, 0, []⟩
  | .NOC_HOME_X => ⟨.noc, 0x100, 0, 3, .ro, 0, [⟨0x8, 32, 16⟩]⟩
  | .NOC_HOME_Y => ⟨.noc, 0x100, 3, 3, .ro, 0, [⟨0x8, 32, 16⟩]⟩
  | .NOC_HOME_PORT => ⟨.noc, 0x100, 6, 1, .ro, 0, [⟨0x8, 32, 16⟩]⟩
  | .NOC_HOME_HOLD => ⟨.noc, 0x100, 8, 1, .ro, 0, [⟨0x8, 32, 16⟩]⟩
  | .NOC_R_STATE => ⟨.noc, 0x1000, 0, 2, .ro, 0, [⟨0x40, 64, 32⟩]⟩
  | .NOC_R_XREV => ⟨.noc, 0x1000, 8, 8, .rw, 0, [⟨0x40, 64, 32⟩]⟩
  | .NOC_R_YREV => ⟨.noc, 0x1000, 16, 8, .rw, 0, [⟨0x40, 64, 32⟩]⟩
  | .NOC_R_STRAIT_DOWN => ⟨.noc, 0x1000, 32, 4, .ro, 0, [⟨0x40, 64, 32⟩]⟩
  | .NOC_R_GAUGE0 => ⟨.noc, 0x1008, 0, 11, .ro, 0, [⟨0x40, 64, 32⟩]⟩
  | .NOC_R_GAUGE1 => ⟨.noc, 0x1008, 16, 11, .ro, 0, [⟨0x40, 64, 32⟩]⟩
  | .NOC_L_AUDITS => ⟨.noc, 0x2000, 0, 32, .ro, 0, [⟨0x20, 32, 32⟩]⟩
  | .NOC_L_VIOL => ⟨.noc, 0x2000, 32, 32, .ro, 0, [⟨0x20, 32, 32⟩]⟩
  | .BKW_REACT_TIME => ⟨.bkw, 0x0, 0, 24, .rw, 0x2710, []⟩
  | .BKW_FAULT_PIN => ⟨.bkw, 0x8, 0, 1, .rw, 0, []⟩
  | .BKW_FAULT_ARM => ⟨.bkw, 0x8, 1, 1, .rw, 1, []⟩
  | .BKW_FAULT_STATE => ⟨.bkw, 0x8, 2, 1, .ro, 0, []⟩
  | .BKW_ALERT_SEV => ⟨.bkw, 0x8, 4, 2, .rw, 1, []⟩
  | .BKW_FORCE_EN => ⟨.bkw, 0x8, 8, 1, .rwl, 0, []⟩
  | .BKW_FATAL => ⟨.bkw, 0x8, 16, 1, .ro, 0, []⟩
  | .BKW_WR_REFUSED => ⟨.bkw, 0x8, 24, 1, .ro, 0, []⟩
  | .BKW_ACK_ID => ⟨.bkw, 0x10, 0, 16, .rw, 0, []⟩
  | .BKW_ACK_ACTION => ⟨.bkw, 0x10, 16, 2, .rw, 0, []⟩
  | .BKW_ACK_GO => ⟨.bkw, 0x10, 24, 1, .w1s, 0, []⟩
  | .BKW_ACK_RESULT => ⟨.bkw, 0x10, 25, 3, .ro, 0, []⟩
  | .BKW_SPARES_FREE => ⟨.bkw, 0x18, 0, 2, .ro, 2, []⟩
  | .BKW_TAKEOVER_BUSY => ⟨.bkw, 0x18, 8, 1, .ro, 0, []⟩
  | .BKW_TAKEOVER_HOME => ⟨.bkw, 0x18, 16, 5, .ro, 0, []⟩
  | .BKW_EVENTS => ⟨.bkw, 0x20, 0, 48, .ro, 0, []⟩
  | .BKW_ESCALATIONS => ⟨.bkw, 0x28, 0, 32, .ro, 0, []⟩
  | .BKW_P_ID => ⟨.bkw, 0x100, 0, 16, .ro, 0, [⟨0x8, 32, 32⟩]⟩
  | .BKW_P_VALID => ⟨.bkw, 0x100, 16, 1, .ro, 0, [⟨0x8, 32, 32⟩]⟩
  | .BKW_P_LEFT => ⟨.bkw, 0x100, 32, 32, .ro, 0, [⟨0x8, 32, 32⟩]⟩
  | .BKW_C_MASK => ⟨.bkw, 0x2000, 0, 1, .rw, 0, [⟨0x8, 224, 224⟩]⟩
  | .BKW_C_SEV => ⟨.bkw, 0x2000, 1, 2, .rw, 0, [⟨0x8, 224, 224⟩]⟩
  | .BKW_C_AUTO => ⟨.bkw, 0x2000, 3, 1, .rw, 0, [⟨0x8, 224, 224⟩]⟩
  | .BKW_C_ACTION => ⟨.bkw, 0x2000, 4, 2, .rw, 0, [⟨0x8, 224, 224⟩]⟩
  | .BKW_C_FWD => ⟨.bkw, 0x2000, 6, 2, .rw, 1, [⟨0x8, 224, 224⟩]⟩
  | .BKW_C_COUNT => ⟨.bkw, 0x2000, 32, 32, .ro, 0, [⟨0x8, 224, 224⟩]⟩
  | .BKW_STATUS => ⟨.bkw, 0x4000, 0, 64, .w1c, 0, [⟨0x8, 1024, 1024⟩]⟩
  | .BKW_FORCE => ⟨.bkw, 0x6000, 0, 64, .w1s, 0, [⟨0x8, 1024, 1024⟩]⟩
  | .LHL_COUNT => ⟨.lhl, 0x0, 0, 17, .ro, 0, []⟩
  | .LHL_FULL => ⟨.lhl, 0x0, 24, 1, .ro, 0, []⟩
  | .LHL_CLEARING => ⟨.lhl, 0x0, 25, 1, .ro, 0, []⟩
  | .LHL_OVF_LOST => ⟨.lhl, 0x0, 26, 1, .ro, 0, []⟩
  | .LHL_OVERFLOW => ⟨.lhl, 0x8, 0, 32, .ro, 0, []⟩
  | .LHL_WIN_BASE_MF => ⟨.lhl, 0x10, 0, 10, .rw, 0, []⟩
  | .LHL_WIN_BASE_BMC => ⟨.lhl, 0x18, 0, 10, .rw, 0, []⟩
  | .SND_USER_ENABLE => ⟨.snd, 0x0, 0, 1, .rw, 0, []⟩
  | .SND_WR_REFUSED => ⟨.snd, 0x0, 8, 1, .ro, 0, []⟩
  | .SND_SNAP_GO => ⟨.snd, 0x8, 0, 1, .w1s, 0, []⟩
  | .SND_SNAP_STATUS => ⟨.snd, 0x8, 8, 2, .ro, 0, []⟩
  | .SND_SNAP_SEQ => ⟨.snd, 0x8, 32, 32, .ro, 0, []⟩
  | .SND_SNAP_TIME => ⟨.snd, 0x10, 0, 64, .ro, 0, []⟩
  | .SND_CLEAR => ⟨.snd, 0x18, 0, 1, .w1s, 0, []⟩
  | .SND_ZERO_TIME => ⟨.snd, 0x20, 0, 64, .ro, 0, []⟩
  | .SND_RESTARTS => ⟨.snd, 0x28, 0, 32, .ro, 0, []⟩
  | .SND_T_EN => ⟨.snd, 0x30, 0, 10, .rw, 0, []⟩
  | .SND_T_LOG2 => ⟨.snd, 0x30, 16, 5, .rw, 16, []⟩
  | .SND_T_LOST => ⟨.snd, 0x38, 0, 32, .ro, 0, []⟩
  | .SND_K_EVENT => ⟨.snd, 0x1000, 0, 8, .rw, 0, [⟨0x8, 896, 896⟩]⟩
  | .SND_K_ARG => ⟨.snd, 0x1000, 8, 8, .rw, 0, [⟨0x8, 896, 896⟩]⟩
  | .SND_K_CHAIN => ⟨.snd, 0x1000, 16, 1, .rw, 0, [⟨0x8, 896, 896⟩]⟩
  | .SND_K_EN => ⟨.snd, 0x1000, 17, 1, .rw, 0, [⟨0x8, 896, 896⟩]⟩
  | .SND_K_VALUE => ⟨.snd, 0x3000, 0, 64, .ro, 0, [⟨0x8, 896, 896⟩]⟩
  | .SND_K_SNAP => ⟨.snd, 0x5000, 0, 64, .ro, 0, [⟨0x8, 896, 896⟩]⟩
  | .SND_SUM => ⟨.snd, 0x8000, 0, 64, .ro, 0, [⟨0x30, 96, 96⟩, ⟨0x8, 5, 5⟩]⟩
  | .SND_SUM_SNAP => ⟨.snd, 0xA000, 0, 64, .ro, 0, [⟨0x30, 96, 96⟩, ⟨0x8, 5, 5⟩]⟩
  | .SND_S_EN => ⟨.snd, 0xC000, 0, 1, .rw, 0, [⟨0x20, 16, 16⟩]⟩
  | .SND_S_HEAD => ⟨.snd, 0xC000, 8, 6, .rw, 0, [⟨0x20, 16, 16⟩]⟩
  | .SND_S_ALL_LDS => ⟨.snd, 0xC000, 14, 1, .rw, 0, [⟨0x20, 16, 16⟩]⟩
  | .SND_S_LD => ⟨.snd, 0xC000, 16, 8, .rw, 0, [⟨0x20, 16, 16⟩]⟩
  | .SND_S_OPMASK => ⟨.snd, 0xC000, 24, 6, .rw, 63, [⟨0x20, 16, 16⟩]⟩
  | .SND_S_LOG2 => ⟨.snd, 0xC000, 32, 5, .rw, 10, [⟨0x20, 16, 16⟩]⟩
  | .SND_S_OWNER => ⟨.snd, 0xC000, 48, 9, .rw, 256, [⟨0x20, 16, 16⟩]⟩
  | .SND_S_MINLAT => ⟨.snd, 0xC008, 0, 32, .rw, 0, [⟨0x20, 16, 16⟩]⟩
  | .SND_S_HELD => ⟨.snd, 0xC010, 0, 12, .ro, 0, [⟨0x20, 16, 16⟩]⟩
  | .SND_S_LOST => ⟨.snd, 0xC018, 0, 32, .ro, 0, [⟨0x20, 16, 16⟩]⟩
  | .SND_UMAP_ITEM => ⟨.snd, 0xD000, 0, 10, .rw, 0, [⟨0x8, 512, 512⟩]⟩
  | .SND_UMAP_KIND => ⟨.snd, 0xD000, 14, 2, .rw, 0, [⟨0x8, 512, 512⟩]⟩
  | .CSW_STATE => ⟨.csw, 0x0, 0, 3, .ro, 0, []⟩
  | .CSW_PG_OUT => ⟨.csw, 0x0, 8, 1, .ro, 0, []⟩
  | .CSW_BRAKE => ⟨.csw, 0x0, 9, 1, .ro, 0, []⟩
  | .CSW_GRANT_LOW => ⟨.csw, 0x0, 10, 1, .ro, 0, []⟩
  | .CSW_WR_REFUSED => ⟨.csw, 0x0, 16, 1, .ro, 0, []⟩
  | .CSW_VIN_MV => ⟨.csw, 0x8, 0, 16, .ro, 0, []⟩
  | .CSW_IIN_DA => ⟨.csw, 0x8, 16, 16, .ro, 0, []⟩
  | .CSW_FET_DIRECT => ⟨.csw, 0x8, 32, 16, .ro, 0, []⟩
  | .CSW_FET_MODEL => ⟨.csw, 0x8, 48, 16, .ro, 0, []⟩
  | .CSW_INS_DELAY_MS => ⟨.csw, 0x10, 0, 11, .rw, 250, []⟩
  | .CSW_INRUSH_A => ⟨.csw, 0x10, 16, 5, .rw, 5, []⟩
  | .CSW_FAILS => ⟨.csw, 0x18, 0, 3, .ro, 0, []⟩
  | .CSW_LATCHED => ⟨.csw, 0x18, 8, 1, .ro, 0, []⟩
  | .CSW_RETRY_PENDING => ⟨.csw, 0x18, 9, 1, .ro, 0, []⟩
  | .CSW_LAST_TRIP => ⟨.csw, 0x18, 12, 3, .ro, 0, []⟩
  | .CSW_LEDGER_CLEAR => ⟨.csw, 0x18, 16, 1, .w1s, 0, []⟩
  | .CSW_POWER_CYCLE => ⟨.csw, 0x18, 17, 1, .w1s, 0, []⟩
  | .CSW_OFF_LEFT_MS => ⟨.csw, 0x18, 32, 32, .ro, 0, []⟩
  | .CSW_LAST_ON_MS => ⟨.csw, 0x20, 0, 32, .ro, 0, []⟩
  | .CSW_PG_WITHDRAWN => ⟨.csw, 0x20, 32, 32, .ro, 0, []⟩
  | .CSW_REQ_W => ⟨.csw, 0x28, 0, 16, .ro, 0, []⟩
  | .CSW_GRANT_W => ⟨.csw, 0x28, 16, 16, .rw, 0, []⟩
  | .CSW_PROFILE => ⟨.csw, 0x28, 32, 3, .ro, 4, []⟩
  | .CSW_BRAKE_PROFILE => ⟨.csw, 0x28, 36, 3, .rw, 4, []⟩
  | .CSW_ENERGY_MJ => ⟨.csw, 0x30, 0, 64, .ro, 0, []⟩
  | .CSW_CHECKPOINTS => ⟨.csw, 0x38, 0, 32, .ro, 0, []⟩
  | .CSW_ENERGY_RESET => ⟨.csw, 0x38, 32, 1, .ro, 0, []⟩
  | .CSW_HEALTHY_S => ⟨.csw, 0x40, 0, 10, .ro, 0, []⟩
  | .REEF_PSTATE => ⟨.reef, 0x0, 0, 2, .ro, 0, []⟩
  | .REEF_TARGET => ⟨.reef, 0x0, 8, 2, .rw, 0, []⟩
  | .REEF_GO => ⟨.reef, 0x0, 16, 1, .w1s, 0, []⟩
  | .REEF_EBB_ERR => ⟨.reef, 0x0, 20, 4, .ro, 0, []⟩
  | .REEF_WR_REFUSED => ⟨.reef, 0x0, 24, 1, .ro, 0, []⟩
  | .REEF_WAKE_HOST => ⟨.reef, 0x8, 0, 1, .rw, 0, []⟩
  | .REEF_LAST_START => ⟨.reef, 0x8, 8, 2, .ro, 0, []⟩
  | .REEF_EXIT_CAUSE => ⟨.reef, 0x8, 16, 1, .ro, 0, []⟩
  | .REEF_TIME => ⟨.reef, 0x10, 0, 64, .ro, 0, []⟩
  | .REEF_REG_MODE => ⟨.reef, 0x18, 0, 1, .ro, 0, []⟩
  | .REEF_SUPPLY_MV => ⟨.reef, 0x18, 16, 12, .ro, 0, []⟩
  | .REEF_LOAD_MA => ⟨.reef, 0x18, 32, 16, .ro, 0, []⟩
  | .REEF_IMAGE_VALID => ⟨.reef, 0x20, 0, 1, .ro, 0, []⟩
  | .REEF_EBB_ENTRIES => ⟨.reef, 0x28, 0, 32, .ro, 0, []⟩
  | .REEF_EBB_EXITS => ⟨.reef, 0x28, 32, 32, .ro, 0, []⟩
  | .REEF_ENTRY_US => ⟨.reef, 0x30, 0, 32, .ro, 0, []⟩
  | .REEF_EXIT_US => ⟨.reef, 0x30, 32, 32, .ro, 0, []⟩
  | .ID_IDENT => ⟨.ident, 0x0, 0, 64, .ro, 0, []⟩
  | .ID_SLED_SERIAL => ⟨.ident, 0x8, 0, 64, .ro, 0, [⟨0x8, 2, 2⟩]⟩
  | .ID_PCI_VENDOR => ⟨.ident, 0x18, 0, 16, .ro, 0x1F6B, []⟩
  | .ID_PCI_DEVICE => ⟨.ident, 0x18, 16, 16, .ro, 0, []⟩
  | .SETUP_LOCK => ⟨.ident, 0x20, 0, 1, .w1s, 0, []⟩
  | .ID_WR_REFUSED => ⟨.ident, 0x20, 8, 1, .ro, 0, []⟩
  | .ID_SVC_STATE => ⟨.ident, 0x28, 0, 2, .ro, 0, []⟩
  | .ID_SVC_REQ => ⟨.ident, 0x28, 8, 2, .rw, 1, []⟩
  | .ID_SVC_GO => ⟨.ident, 0x28, 16, 1, .w1s, 0, []⟩
  | .ID_SVC_ERR => ⟨.ident, 0x28, 20, 4, .ro, 0, []⟩
  | .ID_TEST_EN => ⟨.ident, 0x28, 24, 1, .ro, 0, []⟩
  | .ID_BOOT_STEP => ⟨.ident, 0x30, 0, 3, .ro, 1, []⟩
  | .ID_BOOT_ERR => ⟨.ident, 0x30, 4, 4, .ro, 0, []⟩
  | .ID_BOOT_SLOT => ⟨.ident, 0x30, 8, 1, .ro, 0, []⟩
  | .ID_BOOT_FALLBACK => ⟨.ident, 0x30, 9, 1, .ro, 0, []⟩
  | .ID_MEM_ACTIVE => ⟨.ident, 0x30, 10, 1, .ro, 0, []⟩
  | .ID_BOOT_MS => ⟨.ident, 0x30, 32, 32, .ro, 0, []⟩
  | .ID_SVN_FUSED => ⟨.ident, 0x38, 0, 6, .ro, 0, []⟩
  | .ID_SVN_AUTO => ⟨.ident, 0x38, 8, 1, .rwl, 1, []⟩
  | .ID_SVN_COMMIT => ⟨.ident, 0x38, 9, 1, .w1s, 0, []⟩
  | .ID_BIST_CHANS => ⟨.ident, 0x40, 0, 16, .rw, 0, []⟩
  | .ID_BIST_GO => ⟨.ident, 0x40, 16, 1, .w1s, 0, []⟩
  | .ID_BIST_RESULT => ⟨.ident, 0x40, 24, 2, .ro, 0, []⟩
  | .ID_ROLE_DIGEST => ⟨.ident, 0x100, 0, 64, .rwl, 0, [⟨0x20, 8, 8⟩, ⟨0x8, 2, 2⟩]⟩
  | .ID_ROLE_BITS => ⟨.ident, 0x110, 0, 3, .rwl, 0, [⟨0x20, 8, 8⟩]⟩

/-- The fields of the ATL block. -/
def Fld.ofAtl : List Fld :=
  List.flatten [
    [.ATL_BASE, .ATL_SIZE, .ATL_STATE, .ATL_COH, .ATL_COMP, .ATL_PLACE, .ATL_SEAL, .ATL_OFFSHORE],
    [.ATL_MIRROR, .ATL_CONTRACT, .ATL_TYPE, .ATL_VISITOR_WT, .ATL_CHAN_SET, .ATL_LAGOON_QUOTA, .ATL_KEY_CUR, .ATL_KEY_NEXT],
    [.ATL_IKEY_CUR, .ATL_IKEY_NEXT, .ATL_TDL_STATE, .ATL_TDL_PAGE, .ATL_PARTNER, .ATL_PARTNER_UP, .ATL_ERR, .ATL_KEYS_ABSENT],
    [.ATL_QUOTA_OVER, .ATL_BACKING, .VW_VALID, .VW_CLOSING, .VW_LD, .VW_ATOLL, .VW_ERR, .VW_LDBASE]]

/-- The fields of the GRN block. -/
def Fld.ofGrn : List Fld :=
  List.flatten [
    [.GRN_ELASTIC_EN, .GRN_COMPACT_EN, .GRN_SWEEP_EN, .GRN_WR_REFUSED, .GRN_FLOOR_BP, .GRN_WM_MID_BP, .GRN_WM_HIGH_BP, .GRN_WM_HYST_BP],
    [.GRN_DEADLINE, .GRN_LEVEL, .GRN_LEVEL_CHANGES, .GRN_HEADROOM, .GRN_RELEASE_OUT, .GRN_REVOKED, .GRN_DROPPED, .GRN_SWEEP_HOURS],
    [.GRN_SWEEP_PASSES, .GRN_FREE, .GRN_ALLOCATED, .GRN_META, .GRN_QUAR, .GRN_TOTAL, .GRN_OWED, .GRN_HOME_LEVEL],
    [.GRN_STRIPES, .GRN_MOVES, .GRN_MOVE_ABORTS]]

/-- The fields of the TIER block. -/
def Fld.ofTier : List Fld :=
  List.flatten [
    [.TIER_HEAT_EN, .TIER_WR_REFUSED, .TIER_HEAT_PERIOD, .TIER_PERIOD_NOW, .TIER_STRETCH, .TIER_SINKS, .TIER_LIFTS_GROWTH, .TIER_LIFTS_HEAT],
    [.TIER_PUSHES, .TIER_RECALLS, .TIER_HINT_DOWN, .TIER_REMOTE_READS, .TIER_CLS_SINK_HEAT, .TIER_CLS_SINK_DWELL, .TIER_CLS_SWELL_SINK_HEAT, .TIER_CLS_SWELL_DWELL],
    [.TIER_CLS_LIFT_HEAT, .TIER_CLS_PUSH_DWELL, .TIER_CLS_PUSH_EN, .TIER_CLS_RECALL_MODE, .TIER_CLS_RECALL_HEAT, .TIER_ATL_CLASS]]

/-- The fields of the KEY block. -/
def Fld.ofKey : List Fld :=
  List.flatten [
    [.KEY_META_READY, .KEY_TRANSPORT_SET, .KEY_ENTROPY_OK, .KEY_SPDM_REFUSED, .KEY_PLAIN_WRITES, .KEY_ZEROISED, .KEY_DATA_SET, .KEY_INT_SET],
    [.KEY_SAK_SET]]

/-- The fields of the TDL block. -/
def Fld.ofTdl : List Fld :=
  List.flatten [
    [.TDL_EN, .TDL_WR_REFUSED, .TDL_RATE_DEV, .TDL_RATE_ATL, .TDL_AUTO_EPOCH, .TDL_PAGES, .TDL_RESEALS, .TDL_EPOCH_STOPS],
    [.TDL_SLOT_ATOLL, .TDL_SLOT_START, .TDL_SLOT_PAUSE, .TDL_SLOT_STATE, .TDL_SLOT_AUTO, .TDL_SLOT_ERR, .TDL_SLOT_LINE, .TDL_SLOT_WINDOW],
    [.TDL_SLOT_PASSES, .TDL_SLOT_PAGES]]

/-- The fields of the DIR block. -/
def Fld.ofDir : List Fld :=
  List.flatten [
    [.DIR_BISNP_TIMEOUT, .DIR_WR_REFUSED, .DIR_EVICTIONS, .DIR_SETFULL_WAITS, .DIR_FWD3, .DIR_BICONFLICT, .DIR_ATOMICS, .DIR_PROTO_ERR],
    [.DIR_LOST_POISONED, .DIR_SUSPECT_SETS, .DIR_VALID, .DIR_COARSE, .DIR_OPEN, .DIR_SETQ, .DIR_LINEQ, .DIR_FWD_FAILS]]

/-- The fields of the HBR block. -/
def Fld.ofHbr : List Fld :=
  List.flatten [
    [.HBR_MGMT_HEAD, .HBR_INJECT_EN, .HBR_WR_REFUSED, .HBR_PATIENCE, .HBR_GRP_BIFUR, .HBR_GRP_EN, .HBR_GRP_MAXRATE, .HBR_GRP_POWERED],
    [.HBR_GRP_COMMON, .HBR_HEAD_RESV, .HBR_HEAD_L0P_AUTO, .HBR_HEAD_WIDTH, .HBR_HEAD_RATE, .HBR_HEAD_FLIT, .HBR_HEAD_IDE, .HBR_HEAD_L0P],
    [.HBR_HEAD_LTSSM, .HBR_HEAD_LDS, .HBR_HEAD_RETRAINS, .HBR_HEAD_DISCARDS, .HBR_HEAD_OCCUPANCY, .HBR_LD_VALID, .HBR_LD_HEAD, .HBR_LD_ID],
    [.HBR_LD_CAP, .HBR_LD_ALIAS_BASE, .HBR_LD_ALIAS_LOG2, .HBR_LD_UNMAPPED, .HBR_LD_EVT_OVERFLOW]]

/-- The fields of the QP block. -/
def Fld.ofQp : List Fld :=
  List.flatten [
    [.QP_OWNER, .QP_LD_CTRL, .QP_PRIO, .QP_SQ_HOST, .QP_CQ_HOST, .QP_PRIV, .QP_SQ_LOG2, .QP_CQ_LOG2],
    [.QP_EN, .QP_BUSY, .QP_STATE, .QP_WR_REFUSED, .QP_ERR, .QP_SQ_BASE, .QP_CQ_BASE, .QP_VECTOR],
    [.QP_IRQ_EN, .QP_IRQ_COUNT, .QP_IRQ_USEC, .QP_DEPTH, .QP_SQ_TAIL, .QP_SQ_HEAD, .QP_CQ_TAIL, .QP_CQ_HEAD],
    [.QP_CQ_PHASE, .QP_INFLIGHT, .QP_FETCHED, .QP_COMPLETED, .QP_COMPL_DISCARDED, .QP_BELL_IGNORED, .QP_MGMT_BELL]]

/-- The fields of the LDF block. -/
def Fld.ofLdf : List Fld :=
  List.flatten [
    [.FRY_CURSOR, .FRY_PLACE, .FRY_PEER, .FRY_ERR, .FRY_WR_BYTES, .FRY_RD_BYTES, .FRY_REJECTS]]

/-- The fields of the FRY block. -/
def Fld.ofFry : List Fld :=
  List.flatten [
    [.FRY_MGMT_IGNORED, .FRY_M_EID, .FRY_M_VALID, .FRY_M_TARGET, .FRY_M_CURSOR, .FRY_M_PLACE, .FRY_M_PEER, .FRY_M_ERR],
    [.FRY_M_WR_BYTES, .FRY_M_RD_BYTES, .FRY_M_REJECTS]]

/-- The fields of the BQL block. -/
def Fld.ofBql : List Fld :=
  List.flatten [
    [.BQL_ETHERTYPE, .BQL_WR_REFUSED, .BQL_VLAN_ID, .BQL_ACK_COUNT, .BQL_ACK_TIME, .BQL_REPLAY_TIMEOUT, .BQL_GRACE, .BQL_CLASS_PCP],
    [.BQL_P_EN, .BQL_P_MODE, .BQL_P_DIRECT, .BQL_P_POWERED, .BQL_P_SETTLED, .BQL_P_LANES, .BQL_P_MAC, .BQL_P_FCS_DROPS],
    [.BQL_P_ICV_DROPS, .BQL_P_LAND_USED, .BQL_P_REPLAY_USED, .BQL_P_LAND_NAKS, .BQL_L_EN, .BQL_L_AN_TX, .BQL_L_STATE, .BQL_L_REQ_BUDGET],
    [.BQL_L_PEER_MAC, .BQL_L_PEER_IDENT, .BQL_L_SESSION, .BQL_L_VERSION, .BQL_L_MTU, .BQL_L_RATE, .BQL_L_FEATURES, .BQL_L_TX_SEQ],
    [.BQL_L_TX_ACKED, .BQL_L_RX_EXPECT, .BQL_L_BAD_HDR, .BQL_L_REPLAYS, .BQL_L_NAKS_SENT, .BQL_L_NAKS_RECV, .BQL_L_TIMEOUTS, .BQL_L_DUPLICATES],
    [.BQL_L_LOSSES, .BQL_L_FLUSHES, .BQL_L_LOST_FIRST, .BQL_L_LOST_END, .BQL_L_PEER_DLV, .BQL_L_PEER_DLV_VALID, .BQL_L_HELLO_REFUSED, .BQL_L_RENEG_LOST]]

/-- The fields of the ARC block. -/
def Fld.ofArc : List Fld :=
  List.flatten [
    [.ARC_SLED_ID, .ARC_EN, .ARC_LEAVE, .ARC_WR_REFUSED, .ARC_MEMBERS, .ARC_OFF_PEERS, .ARC_FORGET, .ARC_HOLD_GROUPS],
    [.ARC_HOLD_USED, .ARC_HELD_IMAGES, .ARC_REL_PENDING, .ARC_WITNESS, .ARC_WITNESS_EN, .ARC_CLAIM_WAIT, .ARC_EVAC_DIMM, .ARC_EVAC_START],
    [.ARC_EVAC_STATE, .ARC_EVAC_LEFT, .ARC_PAIR_ATOLL, .ARC_PAIR_PEER, .ARC_PAIR_MODE, .ARC_PAIR_ROLE, .ARC_PAIR_GO, .ARC_PAIR_STATUS],
    [.ARC_WIT_HOLDER, .ARC_WIT_VALID, .ARC_PEER_IDENT, .ARC_PEER_GSN, .ARC_ATL_HOME, .ARC_ATL_REMOTE, .ARC_ATL_COPY, .ARC_ATL_FENCED],
    [.ARC_ATL_RESYNC, .ARC_ATL_DIRTY]]

/-- The fields of the RGL block. -/
def Fld.ofRgl : List Fld :=
  List.flatten [
    [.RGL_EN, .RGL_COMMIT, .RGL_STATUS, .RGL_WR_REFUSED, .RGL_ERR_CHAN, .RGL_ERR, .RGL_FRAMES, .RGL_MISSED_TOTAL],
    [.RGL_M_GUAR, .RGL_M_CHANSET, .RGL_M_TAGS, .RGL_M_SENIOR, .RGL_M_PRIO, .RGL_M_DRAM, .RGL_M_WINDOWS, .RGL_M_LINES],
    [.RGL_M_MISSED, .RGL_C_GC, .RGL_C_GC_LIVE, .RGL_C_SCALE, .RGL_C_SHRUNK, .RGL_C_CAUSE, .RGL_C_PTR, .RGL_C_TABLE],
    [.RGL_MC_DEFICIT, .RGL_MC_MISSED, .RGL_MC_ENT, .RGL_MC_LAST, .RGL_MC_DEMAND]]

/-- The fields of the DRM block. -/
def Fld.ofDrm : List Fld :=
  List.flatten [
    [.DRM_POP_SHAPE, .DRM_POP_ERR, .DRM_WR_REFUSED, .DRM_SCRUB_HOURS, .DRM_PPR_THRESH, .DRM_DRIFT_MS, .DRM_MAP, .DRM_C_RATE],
    [.DRM_C_MAXRATE, .DRM_C_INSERVICE, .DRM_C_POWERED, .DRM_C_PWRDN, .DRM_C_DOUBLE_REF, .DRM_C_RECALLED, .DRM_C_SHADOW_GO, .DRM_C_SHADOW_BUSY],
    [.DRM_C_RANKS, .DRM_C_CE, .DRM_C_UE, .DRM_C_SCRUB_PASSES, .DRM_C_PPR_LEFT, .DRM_C_PPR_DONE, .DRM_C_TAA, .DRM_C_TRCD],
    [.DRM_C_TRP, .DRM_C_MP_CMD, .DRM_C_MP_DATA, .DRM_D_STATE, .DRM_D_REASON, .DRM_D_RETIRE, .DRM_D_TYPE, .DRM_D_CAP],
    [.DRM_D_SERIAL, .DRM_D_TEMP, .DRM_D_CE, .DRM_D_UE, .DRM_D_LEFT, .DRM_L_RD, .DRM_L_WR, .DRM_L_VREF]]

/-- The fields of the NOC block. -/
def Fld.ofNoc : List Fld :=
  List.flatten [
    [.NOC_PACE, .NOC_PACE_TARGET, .NOC_PACE_LOW, .NOC_WR_REFUSED, .NOC_VCORE_MV, .NOC_VCORE_MIN_MV, .NOC_VCORE_MAX_MV, .NOC_PACE_MIN_SEEN],
    [.NOC_PACE_CLR, .NOC_AVS_ERRORS, .NOC_REROUTED, .NOC_ABSORBED, .NOC_RECONF_ROUTER, .NOC_RECONF_GO, .NOC_RECONF_STATE, .NOC_HOME_X],
    [.NOC_HOME_Y, .NOC_HOME_PORT, .NOC_HOME_HOLD, .NOC_R_STATE, .NOC_R_XREV, .NOC_R_YREV, .NOC_R_STRAIT_DOWN, .NOC_R_GAUGE0],
    [.NOC_R_GAUGE1, .NOC_L_AUDITS, .NOC_L_VIOL]]

/-- The fields of the BKW block. -/
def Fld.ofBkw : List Fld :=
  List.flatten [
    [.BKW_REACT_TIME, .BKW_FAULT_PIN, .BKW_FAULT_ARM, .BKW_FAULT_STATE, .BKW_ALERT_SEV, .BKW_FORCE_EN, .BKW_FATAL, .BKW_WR_REFUSED],
    [.BKW_ACK_ID, .BKW_ACK_ACTION, .BKW_ACK_GO, .BKW_ACK_RESULT, .BKW_SPARES_FREE, .BKW_TAKEOVER_BUSY, .BKW_TAKEOVER_HOME, .BKW_EVENTS],
    [.BKW_ESCALATIONS, .BKW_P_ID, .BKW_P_VALID, .BKW_P_LEFT, .BKW_C_MASK, .BKW_C_SEV, .BKW_C_AUTO, .BKW_C_ACTION],
    [.BKW_C_FWD, .BKW_C_COUNT, .BKW_STATUS, .BKW_FORCE]]

/-- The fields of the LHL block. -/
def Fld.ofLhl : List Fld :=
  List.flatten [
    [.LHL_COUNT, .LHL_FULL, .LHL_CLEARING, .LHL_OVF_LOST, .LHL_OVERFLOW, .LHL_WIN_BASE_MF, .LHL_WIN_BASE_BMC]]

/-- The fields of the SND block. -/
def Fld.ofSnd : List Fld :=
  List.flatten [
    [.SND_USER_ENABLE, .SND_WR_REFUSED, .SND_SNAP_GO, .SND_SNAP_STATUS, .SND_SNAP_SEQ, .SND_SNAP_TIME, .SND_CLEAR, .SND_ZERO_TIME],
    [.SND_RESTARTS, .SND_T_EN, .SND_T_LOG2, .SND_T_LOST, .SND_K_EVENT, .SND_K_ARG, .SND_K_CHAIN, .SND_K_EN],
    [.SND_K_VALUE, .SND_K_SNAP, .SND_SUM, .SND_SUM_SNAP, .SND_S_EN, .SND_S_HEAD, .SND_S_ALL_LDS, .SND_S_LD],
    [.SND_S_OPMASK, .SND_S_LOG2, .SND_S_OWNER, .SND_S_MINLAT, .SND_S_HELD, .SND_S_LOST, .SND_UMAP_ITEM, .SND_UMAP_KIND]]

/-- The fields of the CSW block. -/
def Fld.ofCsw : List Fld :=
  List.flatten [
    [.CSW_STATE, .CSW_PG_OUT, .CSW_BRAKE, .CSW_GRANT_LOW, .CSW_WR_REFUSED, .CSW_VIN_MV, .CSW_IIN_DA, .CSW_FET_DIRECT],
    [.CSW_FET_MODEL, .CSW_INS_DELAY_MS, .CSW_INRUSH_A, .CSW_FAILS, .CSW_LATCHED, .CSW_RETRY_PENDING, .CSW_LAST_TRIP, .CSW_LEDGER_CLEAR],
    [.CSW_POWER_CYCLE, .CSW_OFF_LEFT_MS, .CSW_LAST_ON_MS, .CSW_PG_WITHDRAWN, .CSW_REQ_W, .CSW_GRANT_W, .CSW_PROFILE, .CSW_BRAKE_PROFILE],
    [.CSW_ENERGY_MJ, .CSW_CHECKPOINTS, .CSW_ENERGY_RESET, .CSW_HEALTHY_S]]

/-- The fields of the REEF block. -/
def Fld.ofReef : List Fld :=
  List.flatten [
    [.REEF_PSTATE, .REEF_TARGET, .REEF_GO, .REEF_EBB_ERR, .REEF_WR_REFUSED, .REEF_WAKE_HOST, .REEF_LAST_START, .REEF_EXIT_CAUSE],
    [.REEF_TIME, .REEF_REG_MODE, .REEF_SUPPLY_MV, .REEF_LOAD_MA, .REEF_IMAGE_VALID, .REEF_EBB_ENTRIES, .REEF_EBB_EXITS, .REEF_ENTRY_US],
    [.REEF_EXIT_US]]

/-- The fields of the ID block. -/
def Fld.ofId : List Fld :=
  List.flatten [
    [.ID_IDENT, .ID_SLED_SERIAL, .ID_PCI_VENDOR, .ID_PCI_DEVICE, .SETUP_LOCK, .ID_WR_REFUSED, .ID_SVC_STATE, .ID_SVC_REQ],
    [.ID_SVC_GO, .ID_SVC_ERR, .ID_TEST_EN, .ID_BOOT_STEP, .ID_BOOT_ERR, .ID_BOOT_SLOT, .ID_BOOT_FALLBACK, .ID_MEM_ACTIVE],
    [.ID_BOOT_MS, .ID_SVN_FUSED, .ID_SVN_AUTO, .ID_SVN_COMMIT, .ID_BIST_CHANS, .ID_BIST_GO, .ID_BIST_RESULT, .ID_ROLE_DIGEST],
    [.ID_ROLE_BITS]]

/-- The fields of a block. -/
def Fld.ofBlk : Blk → List Fld
  | .ident => Fld.ofId
  | .reef => Fld.ofReef
  | .csw => Fld.ofCsw
  | .hbr => Fld.ofHbr
  | .drm => Fld.ofDrm
  | .noc => Fld.ofNoc
  | .rgl => Fld.ofRgl
  | .bkw => Fld.ofBkw
  | .lhl => Fld.ofLhl
  | .snd => Fld.ofSnd
  | .atl => Fld.ofAtl
  | .qp => Fld.ofQp
  | .key => Fld.ofKey
  | .tdl => Fld.ofTdl
  | .grn => Fld.ofGrn
  | .tier => Fld.ofTier
  | .dir => Fld.ofDir
  | .bql => Fld.ofBql
  | .arc => Fld.ofArc
  | .fry => Fld.ofFry
  | .pilot => []
  | .ldf => Fld.ofLdf

end Sys2Proof.Machine
end

