-- ==== Sys2Proof/Machine/Resets.lean ====
section
/-!
DEFINITION. Reset values: the constants of the register tables, and those the manual gives by a table or note
(Table 24.5).
-/

namespace Sys2Proof.Machine

/-- The causes of Table 17.2, one list per block class from class 0x01 on: default severity 0 Corrected, 1 Deferred,
2 Contained, 3 Fatal, by cause number. -/
def bkwSevTable : List (List Nat) :=
  [[], [0, 1, 1, 1, 1, 1, 1, 1, 2], [0, 0, 0, 0, 2, 2, 2], [0, 1, 0, 0, 0, 2, 0], [0, 2, 0, 2, 2], [1, 2], [2], [2],
   [0, 0, 1], [3, 0, 0], [0, 1, 0], [0, 2], [2], [1]]

/-- Default severity of a class and cause, index 16 × class + cause; none for a reserved cause (Table 17.2). -/
def bkwDefault (cu : Nat) : Option Nat := (bkwSevTable.getD (cu / 16) [])[cu % 16]?

/-- Reset values of `BKW_C_AUTO` and `BKW_C_ACTION` (Table 17.4): the causes acknowledged automatically, with Keep 0,
Reset 1 or Takeover 2. -/
def bkwAuto : List (Nat × Nat) :=
  [(0x018, 2), (0x024, 0), (0x025, 0), (0x041, 0), (0x043, 0), (0x035, 0), (0x070, 0), (0x0C0, 0),
   (0x026, 1), (0x044, 1), (0x051, 1), (0x060, 1), (0x0B1, 1)]

/-- The action that Table 17.4 gives a class and cause, if it is automatic. -/
def bkwAutoOf (cu : Nat) : Option Nat := (bkwAuto.find? fun p => p.1 == cu).map (·.2)

/-- The default address masks (Table 15.4). -/
def drmMapDefault : List Nat :=
  [0x40100400, 0x80200800, 0x100401000, 0x200802000, 0x01004000, 0x02008000, 0x04010000, 0x08020000, 0x10040000]

/-- The router of active memory islet i (Table 16.2). -/
def isletX (i : Nat) : Nat := i % 8

/-- The row of active memory islet i (Table 16.2). -/
def isletY (i : Nat) : Nat := 2 * (i / 8) + i % 2

/-- The reset value of a field's entry. Constants come from the register tables; the entries that are not constants are
those of Table 24.5 and the note under Table 14.5. MRAM contents are those of a sled that has never run: an empty log and
a clear ledger (log entry 5). -/
def Fld.reset (sl : Sled) (i : Nat) (f : Fld) : Nat :=
  match f with
  | .RGL_M_GUAR =>
    if i = 64 ∨ i = 65 then (if sl = .dx32 then 250 else 0) else if i = 70 then 40 else if i = 72 then 16 else 0
  | .RGL_M_TAGS => if (i = 64 ∨ i = 65) ∧ sl = .dx32 then 1 else 0
  | .RGL_M_SENIOR => if ((i = 64 ∨ i = 65) ∧ sl = .dx32) ∨ i = 70 ∨ i = 72 then 1 else 0
  | .RGL_M_CHANSET => if sl = .dx32 then 0xFFFF else 0xFF
  | .RGL_C_TABLE => 0x7F7F7F7F7F7F7F7F
  | .DRM_MAP => drmMapDefault.getD i 0
  | .NOC_HOME_X => isletX i
  | .NOC_HOME_Y => isletY i % 8
  | .NOC_HOME_PORT => 0
  | .BKW_C_SEV => (bkwDefault i).getD 0
  | .BKW_C_AUTO => Bits.ofBool (bkwAutoOf i).isSome
  | .BKW_C_ACTION => (bkwAutoOf i).getD 0
  | .BKW_SPARES_FREE => if sl = .dx32 then 2 else 1
  | .CSW_REQ_W => if sl = .dx32 then 1100 else 600
  | .ID_IDENT => Config.identity.toNat
  | .ID_SLED_SERIAL => (Config.serial i).toNat
  | .ID_PCI_DEVICE => if sl = .dx32 then 0xD032 else 0xD016
  | .ID_SVN_FUSED => Config.svnFused.toNat % 2 ^ 6
  | .ID_ROLE_DIGEST => (Config.roleDigest i).toNat
  | .ID_ROLE_BITS => (Config.roleBits i).toNat % 8
  | f => f.spec.rst

end Sys2Proof.Machine
end

