-- ==== Sys2Proof/Machine/State.lean ====
section
/-!
DEFINITION. The state of the sled: the register file, DRAM, page records and every other piece of state the manual names,
with the queue of commands that wait. State is plain data.
-/

namespace Sys2Proof.Machine

/-- Kinds of event records (R215, Table 9.5): pressure level change, DC region change, settled mode, rotation key needed,
forwarded Breakwater source, a fenced atoll (R298), general media event, and the three Dynamic Capacity events. -/
inductive EvKind where
  | level | regions | settled | keyNeeded | forwarded | fenced | media | addCapacity | releaseCapacity | forcedRelease
  deriving DecidableEq, Repr

/-- What the sled emits: the model's own record of everything that leaves it, in order. -/
inductive Out where
  /-- Read data to a head: LD, tag, value (`none` is poison) and MetaValue (0 none, 1 S, 2 A). -/
  | readData (ld tag : Nat) (v : Option Line) (ms : Nat)
  /-- Completion of a write to a head. -/
  | writeCmp (ld tag : Nat)
  /-- BISnp to an LD of a head: 0 BISnpInv, 1 BISnpData, 2 BISnpCur (R190). -/
  | bisnp (head ld line kind : Nat)
  /-- BIConflictAck (R191). -/
  | biConflictAck (head line : Nat)
  /-- Completion of a non-posted CXL.io request: 0 success with data, 1 Unsupported Request, 2 with EP set. -/
  | completion (ld tag status : Nat) (data : List Nat)
  /-- A setup-space access over MCTP answered: completion code and data bytes (Table 22.5). -/
  | mctp (eid code : Nat) (data : List Byte)
  /-- The word read at a setup-space byte address (R469). -/
  | setupRead (addr value : Nat)
  /-- The answer to a mailbox command: the mailbox, its opcode, the return code and the payload (R214). -/
  | mailbox (mb : Mbox) (opcode code : Nat) (payload : List Nat)
  /-- A key message response (Table 7.2): session, OP, status and key check value. -/
  | keyRsp (session op status : Nat) (kcv : List Nat)
  /-- An SPDM, PLDM or MCTP control response: protocol (0 SPDM, 1 PLDM, 2 MCTP control, 3 IDE_KM), code and fields. -/
  | mgmtRsp (proto code : Nat) (fields : List Nat)
  /-- An Archipelago message to a peer sled. -/
  | msg (dest : Nat) (m : Msg)
  /-- A control packet of the Boesque link on a link slot: kind code of Table 12.5 and its fields. -/
  | ctl (link kind : Nat) (fields : List Nat)
  /-- A data packet sent on a link slot (R271, R274): sequence, class, `PRIO`, acknowledgement, whether it is a replay, and the messages
  that begin in it. -/
  | packet (link seq cls prio ack : Nat) (retx : Bool) (msgs : List Msg)
  /-- MSI-X message of an owner's vector (R243). -/
  | msix (owner vec : Nat)
  /-- A DMA write to host memory through an owner's head: address, bytes, and the poison indication. -/
  | dmaWrite (owner addr : Nat) (bs : List Byte) (poison : Bool)
  /-- The completion of a Ferry read at an LD aperture (R250, R253): 0 with data, 1 Completer Abort, 2 with EP set, 3 Unsupported
  Request. -/
  | ferryData (ld status : Nat) (bs : List Byte)
  /-- A level on a sideband or chassis pin (chapter 23): pin number and level. -/
  | pin (p : Nat) (high : Bool)
  /-- A command of a channel harbour to its DIMMs: channel, kind and argument (R330, R334). -/
  | dimm (chan kind arg : Nat)
  /-- A setting of the power front end: kind and value (chapter 20). -/
  | power (kind value : Nat)
  /-- A marker or control packet of the Strait fabric (R359). -/
  | noc (kind a b c : Nat)
  /-- The TAP's selected register (R449). -/
  | tap (ir : TapIr) (value : Nat)
  deriving DecidableEq, Repr

/-! ### Lines, pages and grain space -/

/-- The value of a line; `none` is a poisoned line (scope chapter, "Poison"). -/
abbrev LineVal := Option Line

/-- Storage tier, the `TIER` field of Table 4.7. -/
inductive Tier where
  | shallows | deep | offshore | lifting
  deriving DecidableEq, Repr

/-- The page record, Table 4.7 and Table 4.8, held field by field; `count` and `stamp` are the two parts of `HEAT`
(R124). `RECORD_MAC` is a function of the other fields (R158) and is not held. -/
structure PageRec where
  base : Nat := 0
  alloc : Nat := 0
  tier : Tier := .shallows
  lock : Bool := false
  size : List Nat := List.replicate 64 0
  epoch : Nat := 0
  count : Nat := 0
  stamp : Nat := 0
  pin : Bool := false
  pushPending : Bool := false
  recallPending : Bool := false
  reseal : Bool := false
  mirrorDirty : Bool := false
  pinTier : Nat := 0
  offPeer : Nat := 0
  offExtent : Nat := 0
  offTag : Nat := 0
  deriving DecidableEq, Repr

/-- What a home holds about a page: its record, its 64 write counters and tags (Table 7.5, R151: counter times 2^48 plus
tag, line 0 first; empty while no tag has been written), whether the record is changed in the metadata cache (R96), and
whether a heat lift is queued (Table 6.1), the heat period of the cold scan's last visit, or of its first record (R127), and the `ISN` of the
image held for the page (R292; the record has no place for it, log entry 21). -/
structure PageSt where
  rcd : PageRec := {}
  tags : List Nat := []
  changed : Bool := false
  heatLift : Bool := false
  visited : Nat := 0
  offIsn : Nat := 0
  deriving DecidableEq, Repr

/-- One Lagoon line (R61 to R63, R125): value, dirty, pinned, the 4-bit hit count, the use stamp of its LRU position,
the bytes that are valid
(all 64 but for a partial write waiting for its merge, R62), and the master that last wrote it (R305). -/
structure LagLine where
  val : LineVal
  dirty : Bool
  pinned : Bool
  hits : Nat
  lru : Nat
  mask : Nat
  master : Nat
  deriving DecidableEq, Repr

/-- One entry of a write-back buffer (R63, R64); the cause is that of the write, for Table 9.8. -/
structure WbEnt where
  line : Nat
  val : LineVal
  mask : Nat
  master : Nat
  deriving DecidableEq, Repr

/-- Who made a line request (R125, R172): a head on behalf of an LD, a queue islet, a Ferry port, a visitor sled, or the
home itself (a directory eviction, R196). -/
inductive Agent where
  | head (ld tag : Nat)
  | queue (q : Nat)
  | ferry (w : FerryPort)
  | peer (sled txid : Nat)
  | self
  deriving DecidableEq, Repr

/-- Line request kinds, the REQ messages of Table 8.2, and the home's own invalidation for an eviction (R196). -/
inductive ReqOp where
  | rdCur | rdShd | rdOwn | wrLine | wrPtl | atom | evict
  deriving DecidableEq, Repr

/-- A line request at a home. `line` is the global DPA divided by 64. `op`/`off`/`a`/`b` are the operands of an atomic
(Table 8.8), `ag` the agent that a peer's message named (Table 12.5). `start` is the Reef time of its acceptance
(R220); `sop`, `tier` and `flags` are what a sample record would say of it (Table 19.4); `hint` and `hintPeer` are the place
hint of a write (R136). -/
structure Req where
  id : Nat
  src : Agent
  kind : ReqOp
  line : Nat
  data : LineVal := some 0
  mask : Nat := 2 ^ 64 - 1
  op : Nat := 0
  off : Nat := 0
  a : Nat := 0
  b : Nat := 0
  ag : Nat := 0
  start : Nat := 0
  sop : Nat := 0
  tier : Nat := 0
  flags : Nat := 0
  hint : Nat := 0
  hintPeer : Nat := 0
  deriving DecidableEq, Repr

/-- A holder of a line (R172). -/
inductive Holder where
  | head (h : Nat)
  | peer (p : Nat)
  deriving DecidableEq, Repr

/-- A home directory entry (Table 8.1, R176): `state` 0 I, 1 S, 2 E, 3 M, 4 O; the head pointers, or the coarse vector;
the visitor bits; the owner in O; `use` orders entries for the victim choice of R196. -/
structure DirEnt where
  state : Nat
  opeer : Nat := 0
  heads : List Nat := []
  coarse : Option Nat := none
  peers : Nat := 0
  use : Nat := 0
  deriving DecidableEq, Repr

/-- Where an open home transaction stands (R181, Table 8.4): collecting answers, after a forward, after a grant to a
visitor, reading its line from storage or from a peer, merging a partial write, or waiting for a mirror partner (R297). -/
inductive Phase where
  | col | fwd | gnt | mem | merge | mir
  deriving DecidableEq, Repr

/-- An open home transaction (R180, R181): its request, its phase, the holders whose answers are awaited, the visitors
whose `WB` has been taken (R184), the owner forwarded to, the grant given, whether it is a pushed copy (R189), and the strongest
answer so far of a head that several LDs answer for (R177), and the visitors whose `ACK_WB` has come before their `WB`
(Table 8.4); and what a `SNP_RESOLVE` is out for (Table 8.10): 1 the owner of a forward is lost, 2 its requester. -/
structure Txn where
  req : Req
  phase : Phase
  await : List Holder := []
  wbTaken : List Nat := []
  owner : Nat := 0
  grant : Nat := 0
  push : Bool := false
  strong : List (Nat × Nat) := []
  ackEarly : List Nat := []
  lost : Nat := 0
  deriving DecidableEq, Repr

/-- Transient states of a visitor's line (Table 8.6). -/
inductive VTrans where
  | isD | imD | smD | omD | miA | fA
  deriving DecidableEq, Repr

/-- A visitor entry (R174, Table 8.5, Table 8.6): the stable state, the transient state, the value held, the head holders
on this sled, the state to take when a forward is acknowledged and the one to go back to, unacknowledged `WB_KEEP`s
(R188), the local requests that wait, the open request's transaction id, the heads of this sled whose BISnp is not answered
with the snoop or the local request that waits for them (R186), and the writes that complete at a `WB_ACK` (R188). -/
structure VisEnt where
  state : Nat := 0
  trans : Option VTrans := none
  val : LineVal := some 0
  heads : List (Nat × Bool) := []
  after : Nat := 0
  before : Nat := 0
  fwdTo : Nat := 0
  keeps : Nat := 0
  waits : List Req := []
  txid : Nat := 0
  await : List Nat := []
  snp : Option Msg := none
  loc : Option Req := none
  keepReqs : List Req := []
  deriving DecidableEq, Repr

/-- Why a request waits at a home: its line is busy (R181), its page is under LOCK (R60), its page is being recalled
(R133), every way of its directory set is busy (R197), or its home's entry is held for a takeover (R352, R369). -/
inductive WaitWhy where
  | chain | lock | recall | dirSet | held
  deriving DecidableEq, Repr

/-- A waiting request. -/
structure Waiting where
  req : Req
  why : WaitWhy
  deriving DecidableEq, Repr

/-- What a DRAM access is for: the line of an open transaction, or the merge of a partial write (R57, R62). -/
inductive AccKind where
  | fill | merge
  deriving DecidableEq, Repr

/-- A DRAM read in a channel harbour's queue (R57 step 7, R305): the line, the grains, the channel, the master port, and
whether a window has issued it. -/
structure Access where
  id : Nat
  kind : AccKind
  line : Nat
  ga : Nat
  grains : Nat
  chan : Nat
  master : Nat
  prio : Option Nat := none
  issued : Bool := false
  deriving DecidableEq, Repr

/-- Plots to be freed after a move (R107): the home, the extent, and the DRAM reads that were issued to it before the
commit. -/
structure OldExt where
  home : Nat
  base : Nat
  plots : Nat
  waitFor : List Nat
  deriving DecidableEq, Repr

/-- The homes' lines: Lagoon slices, write-back buffers, waiting requests, DRAM accesses, and the counters from which
ids and use stamps are drawn (the model's own). -/
structure LineSt where
  lagoon : SMap LagLine := []
  wb : List WbEnt := []
  txns : List Txn := []
  waits : List Waiting := []
  accs : List Access := []
  nextId : Nat := 0
  useCtr : Nat := 0
  deriving DecidableEq, Repr

/-- A line request of this sled's queue islets or Ferry port (R187, R225, R252): its transaction id, home sled, line and
agent, the agent's own number for it, whether it has been answered, the value that came (none is poison, or a dropped
write), and whether it failed (`CMP_ERR`). -/
structure RemReq where
  txid : Nat
  home : Nat
  line : Nat
  agent : Agent
  tag : Nat := 0
  done : Bool := false
  val : LineVal := none
  failed : Bool := false
  deriving DecidableEq, Repr

/-- The directory: home entries by line, visitor entries by home sled and line, suspect sets by home index and set
(R199), outstanding BISnps by head, LD and line with their kind (0 invalidate, 1 data, 2 current; R190), and this sled's own
agents' requests to other homes (R187). -/
structure DirSt where
  ents : SMap DirEnt := []
  vis : SMap VisEnt := []
  suspect : List (Nat × Nat) := []
  bisnps : List (Nat × Nat × Nat × Nat) := []
  remote : List RemReq := []
  deriving DecidableEq, Repr

/-- Grain space beside the records: whether it is initialised, the plots of structural metadata of each home, the stripes
and the raw bytes at initialisation (R478); the allocation map by block, two bits a plot where it differs from the map at
initialisation (Table 5.5, R101); the stripe table where it differs (R99); the record maps and tag maps, entry words by
atoll, home and entry (R101 to R103); extents waiting to be freed (R107); lifts waiting at step 1 (R480); page numbers
of unclaimed plots' first pass (R113); per home the Reef time since which H has allowed a lower level (R115); the plots
seen unclaimed by the last sweep (R113); R121's counts by second; the position and widening of the cold scan by home (R131); and the
cut of a home's group that each path has latched, by path and home (R123). -/
structure GrainSt where
  ready : Bool := false
  structPlots : List Nat := []
  stripeCount : Nat := 0
  rawAtInit : Nat := 0
  plots : SMap Nat := []
  stripes : SMap Nat := []
  recMap : SMap Nat := []
  tagMap : SMap Nat := []
  olds : List OldExt := []
  liftWaits : List (Nat × Nat) := []
  unclaimed : List Nat := []
  levelSince : SMap Nat := []
  exhausted : List (Nat × Nat) := []
  lastStripe : SMap Nat := []
  scanPos : SMap Nat := []
  pushStage : SMap Nat := []
  pushFound : List Nat := []
  latch : SMap (List Nat) := []
  quarBlocks : List Nat := []
  lastHeatPeriod : Nat := 0
  deriving DecidableEq, Repr

/-- Key material and what is recorded of it (R143 to R148, R160): slots, key check values by atoll (current data, next
data, current integrity, next integrity), the grain-space nonce, the image key nonce and the image sequence number, and
the rotation windows are registers. `absentSince` is not held. -/
structure KeySt where
  data : SMap (List Byte) := []
  integ : SMap (List Byte) := []
  transport : Option (List Byte) := none
  sak : SMap (List Byte) := []
  kcv : SMap (List Nat) := []
  nonce : Nat := 0
  imgNonce : Nat := 0
  isn : Nat := 0
  passed : List (Nat × Nat) := []
  reminder : SMap Nat := []
  autoWait : List Nat := []
  deriving DecidableEq, Repr

/-! ### Hosts -/

/-- A Dynamic Capacity extent of an LD (Table 5.7): LD, LD DPA base and length, 0 offered or 1 accepted, whether a release
has been requested and its deadline in Reef ns, and whether it is revoked. -/
structure Extent where
  ld : Nat
  base : Nat
  len : Nat
  accepted : Bool
  requested : Bool := false
  deadline : Nat := 0
  revoked : Bool := false
  deriving DecidableEq, Repr

/-- A record of a CXL event log (R215): its kind, its handle, its timestamp and its contents as numbers in the order its
kind gives. -/
structure EvRec where
  handle : Nat
  time : Nat
  kind : EvKind
  fields : List Nat
  deriving DecidableEq, Repr

/-- One event log (R215, Table 9.5). -/
structure EvLogSt where
  recs : List EvRec := []
  overflow : Bool := false
  lost : Nat := 0
  firstLost : Nat := 0
  lastLost : Nat := 0
  deriving DecidableEq, Repr

/-- What a mailbox keeps (R214): the background command, its percent done and its result, the timestamp offset, the
event interrupt policy, and the results of the last media scan. -/
structure MboxSt where
  bgOp : Nat := 0
  bgDone : Bool := false
  bgCode : Nat := 0
  tsSet : Nat := 0
  tsAt : Nat := 0
  policy : List Nat := []
  scan : List Nat := []
  deriving DecidableEq, Repr

/-- Host-side state: extents; event logs and mailboxes by owner (LD number, 256 for the management function, 257 for the
FM API); pages with poisoned lines and the time at which each home's index filled (R216); bus master enables and MSI-X
masks, pending bits by owner; the bifurcation in effect by port group (R202); the head
plus 1 that shows each LD (R208); the management head in effect (R209); and by head the IDE state: bit 0 a CXL.cachemem key
programmed, bit 1 skid mode, bit 2 a link stream key programmed, bit 3 the link stream active (R168); and the values set of mailbox features
(Table 9.3). -/
structure HostSt where
  extents : List Extent := []
  logs : SMap EvLogSt := []
  mboxes : SMap MboxSt := []
  nextHandle : Nat := 1
  poisoned : List Nat := []
  poisonFull : SMap Nat := []
  bmeOff : List Nat := []
  msixMasked : List (Nat × Nat) := []
  msixPending : List (Nat × Nat) := []
  bifur : SMap Nat := []
  ldShown : SMap Nat := []
  mgmtHeadNow : Nat := 0
  ide : SMap Nat := []
  features : SMap Nat := []
  deriving DecidableEq, Repr

/-! ### Faults, log -/

/-- Breakwater beside its registers: isolated blocks (class and instance), Reef time of each pending slot's expiry, a
FAULT_N pulse running, a takeover that runs and those that wait (R369), the audits suspended (R28), and the sources whose block is
isolated and has not stopped yet (R365). -/
structure BkwSt where
  isolated : List (Nat × Nat) := []
  stopping : List Nat := []
  expiry : SMap Nat := []
  pulse : Bool := false
  takeovers : List Nat := []
  suspended : List Nat := []
  faultLow : Bool := false
  alertLow : Bool := false
  resetting : List Nat := []
  deriving DecidableEq, Repr

/-- A Lighthouse record (Table 18.1); `key` and `data` are the fields read little-endian. -/
structure LhRec where
  time : Nat
  source : Nat
  code : Nat
  repeats : Nat
  last : Nat
  key : Nat
  data : Nat
  forced : Bool
  clearDone : Bool := false
  deriving DecidableEq, Repr

/-- An event at the Reef's record port (R377). -/
structure LhEvent where
  time : Nat
  source : Nat
  code : Nat
  key : Nat
  data : Nat
  forced : Bool
  deriving DecidableEq, Repr

/-- The Lighthouse log in MRAM (R376): the valid records, slot 0 first; the slots beyond `LHL_COUNT` that a running clear
has not reached (R382); and the Reef's queue of events that wait for the clear. -/
structure LhlSt where
  recs : List LhRec := []
  queue : List LhEvent := []
  clearFor : Option Nat := none
  dropped : Nat := 0
  overflowBefore : Nat := 0
  deriving DecidableEq, Repr

/-! ### Peers -/

/-- An Offshore image in transit: the fields of Table 7.10 and the sealed bytes. -/
structure Image where
  ident : Nat
  nonce : Nat
  isn : Nat
  sled : Nat
  tkey : Bool
  atoll : Nat
  rpage : Nat
  epoch : Nat
  size : List Nat
  bytes : List Byte
  deriving DecidableEq, Repr

/-- What an exchange of a page image with a peer is for: a push, a recall, a read without a recall, the two halves of an
image rewrite, and a fetch of a partner's copy (R132, R293, R294, Table 7.13). -/
inductive JobKind where
  | push | recall | remoteRead | rewriteGet | rewritePut | fetch
  deriving DecidableEq, Repr

/-- An image exchange in progress: page, purpose, peer asked, transaction id, peers already tried, what will be committed
(codes, EPOCH, tag and `ISN` of the image), whether the page stays to be recalled to Deep, and the queue pair and
descriptor that wait for it (queue pair plus 1, or 0). -/
structure ImgJob where
  pn : Nat
  kind : JobKind
  peer : Nat
  txid : Nat
  tried : List Nat := []
  codes : List Nat := []
  epoch : Nat := 0
  tag : Nat := 0
  isn : Nat := 0
  slot : Nat := 0
  deriving DecidableEq, Repr

/-- An image held for a peer (R291): its grain address and the image. -/
structure Held where
  ga : Nat
  img : Image
  home : Nat
  deriving DecidableEq, Repr

/-- An entry of the pending-release list (R295): the holder, the grain address or 0xFF_FFFF_FFFF, the `ISN`, whether it has
been sent, and its transaction id. -/
structure Release where
  peer : Nat
  ga : Nat
  isn : Nat
  sent : Bool := false
  txid : Nat := 0
  deriving DecidableEq, Repr

/-- A service request awaiting its `SVC_ACK` (R288): peer, code, transaction id, and the atoll or page it concerns. -/
structure SvcReq where
  peer : Nat
  code : Nat
  txid : Nat
  arg : Nat := 0
  deriving DecidableEq, Repr

/-- A pair of which this sled is one side (R296 to R301): the peer, mode 1 Mirror or 2 Dual-home, role 0 primary or 1 copy
side, whether it serves alone, whether a claim is open, whether it is being handed over and HANDOVER has been sent, and whether
PAIR has been answered. -/
structure Pair where
  atoll : Nat
  peer : Nat
  mode : Nat
  role : Nat
  solo : Bool := false
  claiming : Bool := false
  handing : Bool := false
  handed : Bool := false
  formed : Bool := false
  deriving DecidableEq, Repr

/-- A claim held at the witness (R298): the claimant, its partner, its role, its transaction id and the peers that have sent
HEAL for the pair. -/
structure ClaimSt where
  claimant : Nat
  partner : Nat
  txid : Nat
  deriving DecidableEq, Repr

/-- Archipelago state beside the ARC registers. `binds` are the atolls that a peer has bound as remote (R289),
`poolStripes` the holding pool's groups by home (four image stripes, then the record stripe, R290), `left` that the sled has left
(R301), `owned` the copy side's owned-away lines (R297). -/
structure ArcSt where
  jobs : List ImgJob := []
  held : List Held := []
  releases : List Release := []
  svc : List SvcReq := []
  pairs : List Pair := []
  claims : List ClaimSt := []
  heals : List (Nat × Nat) := []
  lastHolder : SMap Nat := []
  lostPeers : List Nat := []
  leaving : List Nat := []
  leaveAsked : List (Nat × Nat) := []
  poolStripes : List (Nat × List Nat) := []
  left : Bool := false
  leaveSent : Bool := false
  owned : List Nat := []
  binds : List (Nat × Nat) := []
  evictions : List Nat := []
  deriving DecidableEq, Repr

/-- A sequenced packet of a Boesque link that is not acknowledged (R271, R274): number, class, `PRIO`, payload bytes, and the messages
that begin in it. -/
structure Pkt where
  seq : Nat
  cls : Nat
  prio : Nat
  len : Nat
  msgs : List Msg
  deriving DecidableEq, Repr

/-- A proposal outstanding on a link (R281): its id, rate (1 or 2), whether it includes a PHY change, and the times it has been
sent again. -/
structure Proposal where
  id : Nat
  rate : Nat
  phy : Bool
  again : Nat := 0
  deriving DecidableEq, Repr

/-- A link's session and repair state beside its registers. The HELLO exchange (R269): the nonce of the round, the peer's last
HELLO, whether a HELLO of this round has been echoed and the peer's echoed, whether a refusal of the round is recorded. Sending
(R267, R272, R274): the replay buffer, the bytes of a message that go on in the next packet by class, the peer's REQ budget once
learned, and the REQs in flight with their bytes. Landing (R273, R275): packets landed since the last acknowledgement, the time
and number of that acknowledgement, whether a gap NAK is out, whether a later packet has come since, whether landing is full,
and the `PRIO` of the last packet landed. The proposal outstanding and the last id used (R281); the session last flushed
(R280). -/
structure BqlLink where
  nonce : Nat := 0
  peer : Option Hello := none
  gotEcho : Bool := false
  sentEcho : Bool := false
  refused : Bool := false
  replay : List Pkt := []
  cont : SMap Nat := []
  budget : Option Nat := none
  reqs : List (Nat × Nat) := []
  landed : Nat := 0
  ackAt : Nat := 0
  ackNo : Option Nat := none
  nakOpen : Bool := false
  later : Bool := false
  landFull : Bool := false
  prio : Nat := 0
  reneg : Option Proposal := none
  renegId : Nat := 0
  flushed : Nat := 0
  deriving DecidableEq, Repr

/-- Boesque state beside the BQL registers: messages that the harbour holds for each peer, oldest first; the links by slot
8p + r; and the PHY mode in effect by port (R258). -/
structure BqlSt where
  txq : List (Nat × Msg) := []
  links : SMap BqlLink := []
  modes : SMap Nat := []
  deriving DecidableEq, Repr

/-- A precise sample record staged in a queue islet (Table 19.4). -/
structure SndRec where
  time : Nat
  head : Nat
  ld : Nat
  op : Nat
  tier : Nat
  lat : Nat
  line : Nat
  atoll : Nat
  flags : Nat
  sampler : Nat
  seq : Nat
  deriving DecidableEq, Repr

/-- A tag record staged for the management function (Table 19.5); each stage is its code and its offset. -/
structure TagRec where
  master : Nat
  kind : Nat
  seq : Nat
  start : Nat
  stages : List (Nat × Nat)
  addr : Nat
  atoll : Nat
  flags : Nat
  deriving DecidableEq, Repr

/-- Soundings beside its registers: staged sample records, requests selected and records made by sampler, samplers whose next
record carries `LOSS`; operations seen and tags made by master, staged tag records, and whether the next carries `LOSS`
(R394, R395). -/
structure SndSt where
  samples : List SndRec := []
  selected : SMap Nat := []
  made : SMap Nat := []
  lossy : List Nat := []
  ops : SMap Nat := []
  tagged : SMap Nat := []
  tags : List TagRec := []
  tagLossy : Bool := false
  deriving DecidableEq, Repr

/-! ### Queue islets and the Ferry port -/

/-- A descriptor in flight (R226, R230): its queue pair, submission index, order of fetch and 64 bytes; whether it has started
(R241); the bytes, pages or operations done; the first failure found with its detail, and the result so far (R238); whether its
last access is made; the page whose push, recall or move it waits for, with what ended it; the step of its chunk, page or
operation that it is at; and the bytes of its chunk that go through, with the failure that ends it there. -/
structure Desc where
  q : Nat
  idx : Nat
  seq : Nat
  raw : List Byte
  pos : Nat := 0
  result : Nat := 0
  status : Nat := 0
  detail : Nat := 0
  done : Bool := false
  waitPn : Option Nat := none
  waitRes : Nat := 0
  started : Bool := false
  phase : Nat := 0
  stop : Option (Nat × Nat × Nat) := none
  deriving DecidableEq, Repr

/-- The queue islets beside the QP registers: descriptors in flight, oldest first; completions written since the last message
of a queue pair and the Reef time of the first (R243); and the queue pair served last, by queue islet and priority (R242). -/
structure QueSt where
  descs : List Desc := []
  nextSeq : Nat := 0
  since : SMap Nat := []
  firstAt : SMap Nat := []
  served : SMap Nat := []
  deriving DecidableEq, Repr

/-- A Ferry burst taken whose lines are not all answered (R250, R252): its port, number, direction, span length, offset of
its first byte in its first line, and its lines. -/
structure Burst where
  port : FerryPort
  id : Nat
  write : Bool
  len : Nat
  skip : Nat
  lines : Nat
  deriving DecidableEq, Repr

/-- The Ferry engine beside its registers: the range of each cursor that has one, first address, end, and the view, or 2^20
plus the atoll in global mode, by LD or by 256 plus the slot (R249); and the bursts taken. -/
structure FrySt where
  ranges : SMap (Nat × Nat × Nat) := []
  bursts : List Burst := []
  nextId : Nat := 0
  deriving DecidableEq, Repr


/-! ### Firmware, services and the sideband -/

/-- Firmware and services beside the ID registers. The images transferred to slots 1 and 2, where a slot not listed holds the
image shipped in it, and to slot 3 (R438, R440); the active slot, 0 while none runs; the boot selector and the package in the
configuration region of MRAM, once written (R441); whether the ROM's loader serves (R439); the secure sessions open and the point of the SPDM exchange, 0 none, 1 version, 2
capabilities, 3 algorithms, and the session in set-up (R445); the endpoint id (R447); the sideband in I3C (R454); the last sample
of SLED_ID and the locate LED (R455); the TAP instruction in force (R449); the junction's last
reading in °C, and whether it holds the sled in Hold (R463). -/
structure FwSt where
  slots : SMap FwImage := []
  staged : Option FwImage := none
  active : Nat := 0
  selector : Nat := 0
  cfg : Option ConfigPkg := none
  loader : Bool := false
  spdm : Nat := 0
  sessions : Nat := 0
  setup : Bool := false
  eid : Nat := 0
  i3c : Bool := false
  sledId : Option Nat := none
  ledLit : Bool := false
  tapIr : Nat := 0
  junction : Option Nat := none
  hot : Bool := false
  deriving DecidableEq, Repr



/-! ### Channels, regulation, fabric and power -/

/-- A share of the regulation set (R310, R312): its master, guarantee in 100 MB/s, channels, tags and seniority. -/
structure Share where
  master : Nat
  guar : Nat
  chans : Nat
  tags : Bool
  senior : Bool
  deriving DecidableEq, Repr

/-- Regulation beside its registers: the applied set by channel (R312), the pending set and the channels that have not taken it, lines
received in the frame by 128 × channel + master (R306), and the channels with regulation off (R320). -/
structure RglSt where
  sets : SMap (List Share) := []
  pending : List Share := []
  pendFor : List Nat := []
  recv : SMap Nat := []
  off : List Nat := []
  deriving DecidableEq, Repr

/-- Channels beside the DRM registers: DIMMs per channel and package ranks per DIMM of the population (R323); the recall store's
records by channel, which are the rate, the serials of its two slots and the lane words of its ranks (R332), its rows for hard repair (R337, R338), by block,
and its retired serials by slot (R339); Reef times of corrected errors by row (R337), rows closed for repair, and sPPR resources
used (channel, rank, bank group); the lane words that have been set, by lane, and the draw of
the delays that full training found, by channel (R330); shadow lane words, the package ranks that have not taken them (R331), and the channels fully
trained whose record is not written yet, with the ms of drift tracking since (R332); plots taken out with retired DIMMs by home
(R333, R339); DIMMs above 95 °C (Table 23.9); and the DIMM that `ARC_EVAC_LEFT` counts. -/
structure ChanSt where
  perChan : Nat := 1
  pkgRanks : Nat := 1
  store : SMap (List Nat) := []
  hardRows : List Nat := []
  retired : SMap Nat := []
  errs : SMap (List Nat) := []
  closed : List Nat := []
  used : List (Nat × Nat × Nat) := []
  lanes : SMap Nat := []
  trained : SMap Nat := []
  shadow : SMap Nat := []
  waiting : SMap (List Nat) := []
  trainedAt : SMap Nat := []
  gone : SMap Nat := []
  hot : List Nat := []
  evac : Option Nat := none
  deriving DecidableEq, Repr

/-- The fabric beside the NOC registers: comparisons in a row below the target at the highest VCORE, at or above the target, and
above the lowering threshold (R347); the VCORE kept for each target (R348); loaded overrides by router, X reversal plus 256 times Y
reversal (R359); the router last opened; and flows on their alternate route, as source, destination and class (R359). -/
structure NocSt where
  low : Nat := 0
  good : Nat := 0
  high : Nat := 0
  kept : SMap Nat := []
  loaded : SMap Nat := []
  router : Option Nat := none
  alt : List (Nat × Nat × Nat) := []
  deriving DecidableEq, Repr

/-- The Causeway beside the CSW registers: presence; the FET conducting; rails that are up (Table 20.5); the Reef times at which
PG_OUT asserted and at which an off time ends; the two stages of the FET model in 10^-12 °C, and whether they start from 125 °C
(R409, R413); a trip that no start has recorded yet (R411); a power cycle that has removed power (R414); whether the brake withholds
credits, and the flit slots of each head since (R404); sequence numbers of the ledger and of the energy checkpoints, the checkpoint,
and the controller's accumulator (R415, Table 20.4). -/
structure CswSt where
  present : Bool := false
  fet : Bool := false
  rails : Nat := 0
  pgAt : Nat := 0
  offUntil : Nat := 0
  rise1 : Int := 0
  rise2 : Int := 0
  hotStart : Bool := false
  tripDue : Bool := false
  cycling : Bool := false
  withheld : Bool := false
  slots : SMap Nat := []
  ledgerSeq : Nat := 0
  energySeq : Nat := 0
  checkpoint : Option Nat := none
  controller : Nat := 0
  deriving DecidableEq, Repr

/-- Power states beside the REEF registers: the state that a change between Active and Slack leads to (R13, R419); the state held at
entry to Ebb, an entry or an exit that runs, a wake that arrived
during an entry, a request given during an exit (R425, Table 21.8), the Reef memory copy and the DRAM copy of the save image, each
the register entries saved (R424). -/
structure PowSt where
  goal : Option Nat := none
  held : Nat := 0
  entering : Bool := false
  exiting : Bool := false
  wake : Bool := false
  after : Option Nat := none
  image : Option (SMap Nat) := none
  copy : Option (SMap Nat) := none
  deriving DecidableEq, Repr

/-! ### The whole -/

/-- The sled without its queue. `regs` lists the register fields that differ from their reset values, keyed by field and
index (`Fld.key`). `dram` lists the bytes of grain space that are not zero, by byte address; `pages` what the homes hold
of each page that is not as never written, by page number. `freeCtr` is the model's own: the count of free values drawn
so far. `out` is the model's own record of what has left the sled. -/
structure Mach where
  sled : Sled := .dx32
  regs : SMap Nat := []
  dram : List Host.Cell := []
  pages : SMap PageSt := []
  lines : LineSt := {}
  dir : DirSt := {}
  grain : GrainSt := {}
  keys : KeySt := {}
  host : HostSt := {}
  bkw : BkwSt := {}
  lhl : LhlSt := {}
  arc : ArcSt := {}
  bql : BqlSt := {}
  snd : SndSt := {}
  que : QueSt := {}
  fry : FrySt := {}
  fw : FwSt := {}
  chan : ChanSt := {}
  rgl : RglSt := {}
  noc : NocSt := {}
  csw : CswSt := {}
  pow : PowSt := {}
  out : List Out := []
  freeCtr : Nat := 0
  deriving DecidableEq, Repr

/-- The sled and the commands that wait, first in first out. -/
structure State where
  mach : Mach := {}
  pending : List Instr := []
  deriving DecidableEq, Repr

/-- The DX32 right after the power-on reset of its Reef: every register at its reset value, nothing stored, no command
waiting. -/
def State.reset : State := {}

/-- Why the machine could stop with a fault. No rule of the manual stops the sled: every error is reported and service goes
on, so no step raises one. -/
inductive Fault where
  /-- Raised by nobody; kept so that the type is inhabited. Safe. -/
  | none
  deriving DecidableEq, Repr

/-- Why a command is turned away by the model. -/
inductive Refusal where
  /-- A command whose meaning is not modelled yet. Raised by its arm of `exec`. Safe: nothing is claimed of it. -/
  | notModelled (mnemonic : String)
  deriving DecidableEq, Repr

end Sys2Proof.Machine
end

