-- ==== Sys2Proof/Machine/Ops.lean ====
section
/-!
DEFINITION. What one step may do to the sled, said once: the primitive updates, and the programs over them from which
every meaning is built. Any property that each primitive keeps is kept by every program, so by every step.
-/

namespace Sys2Proof.Machine

/-- The primitive updates of the sled. -/
inductive Prim where
  /-- Give a register field a value, cut to the field's width (R470). -/
  | reg (f : Fld) (i v : Nat)
  /-- Write bytes of grain space from a byte address upward. -/
  | poke (a : Nat) (bs : List Byte)
  /-- Replace what a home holds of a page. -/
  | page (pn : Nat) (p : PageSt)
  /-- Emit. -/
  | emit (o : Out)
  /-- Count one free value drawn. -/
  | draw
  /-- Return every register field to its reset value but those kept, by the number the file lists them under. -/
  | resetRegs (keep : Nat → Bool)
  /-- Lose grain space: DRAM and page records. -/
  | wipe
  /-- Change the homes' lines and requests. -/
  | lines (f : LineSt → LineSt)
  /-- Change the directory. -/
  | dir (f : DirSt → DirSt)
  /-- Change grain space. -/
  | grain (f : GrainSt → GrainSt)
  /-- Change keys. -/
  | keys (f : KeySt → KeySt)
  /-- Change hosts, mailboxes and event logs. -/
  | host (f : HostSt → HostSt)
  /-- Change Breakwater. -/
  | bkw (f : BkwSt → BkwSt)
  /-- Change the Lighthouse log. -/
  | lhl (f : LhlSt → LhlSt)
  /-- Change archipelago exchanges, held images and pairs. -/
  | arc (f : ArcSt → ArcSt)
  /-- Change the Boesque links. -/
  | bql (f : BqlSt → BqlSt)
  /-- Change Soundings. -/
  | snd (f : SndSt → SndSt)
  /-- Change the queue islets. -/
  | que (f : QueSt → QueSt)
  /-- Change the Ferry engine. -/
  | fry (f : FrySt → FrySt)
  /-- Change firmware, services and the sideband. -/
  | fw (f : FwSt → FwSt)
  /-- Change the channels and DIMMs. -/
  | chan (f : ChanSt → ChanSt)
  /-- Change regulation. -/
  | rgl (f : RglSt → RglSt)
  /-- Change the fabric and pace. -/
  | noc (f : NocSt → NocSt)
  /-- Change the Causeway. -/
  | csw (f : CswSt → CswSt)
  /-- Change the power states. -/
  | pow (f : PowSt → PowSt)

/-- Bytes of grain space: the list holds only bytes that are not zero, addresses rising. -/
def Dram.set (d : List Host.Cell) (a : Nat) (b : Byte) : List Host.Cell := SMap.set d a 0 b

/-- Write bytes upward from an address. -/
def Dram.write (d : List Host.Cell) (a : Nat) : List Byte → List Host.Cell
  | [] => d
  | b :: bs => Dram.write (Dram.set d a b) (a + 1) bs

/-- The byte at an address; one that nothing has written reads 0 (log entry 3). -/
def Dram.byte (d : List Host.Cell) (a : Nat) : Byte := ((SMap.find? d a).getD 0)

/-- Read `n` bytes upward from an address. -/
def Dram.read (d : List Host.Cell) (a n : Nat) : List Byte := (List.range n).map fun j => Dram.byte d (a + j)

/-- The number under which the register file lists a field's entry: no two entries share one. -/
def Fld.key (f : Fld) (i : Nat) : Nat := 1024 * i + f.ctorIdx

/-- The value of a register field: what the file lists, or its reset value. -/
def Mach.get (m : Mach) (f : Fld) (i : Nat := 0) : Nat := (m.regs.find? (f.key i)).getD (Fld.reset m.sled i f)

/-- The register file with one field changed. A value is cut to the field's width, and one equal to the reset value is not
listed. -/
def Mach.setReg (m : Mach) (f : Fld) (i v : Nat) : SMap Nat :=
  m.regs.set (f.key i) (Fld.reset m.sled i f) (v % 2 ^ f.spec.width)

/-- What the homes hold of a page; a page not listed is as never written (R93). -/
def Mach.page (m : Mach) (pn : Nat) : PageSt := (m.pages.find? pn).getD {}

/-- One primitive update. -/
def Prim.apply : Prim → Mach → Mach
  | .reg f i v, m => { m with regs := m.setReg f i v }
  | .poke a bs, m => { m with dram := Dram.write m.dram a bs }
  | .page pn p, m => { m with pages := m.pages.set pn {} p }
  | .emit o, m => { m with out := m.out ++ [o] }
  | .draw, m => { m with freeCtr := m.freeCtr + 1 }
  | .resetRegs keep, m => { m with regs := List.filter (fun p => keep p.1) m.regs }
  | .wipe, m => { m with dram := [], pages := [] }
  | .lines f, m => { m with lines := f m.lines }
  | .dir f, m => { m with dir := f m.dir }
  | .grain f, m => { m with grain := f m.grain }
  | .keys f, m => { m with keys := f m.keys }
  | .host f, m => { m with host := f m.host }
  | .bkw f, m => { m with bkw := f m.bkw }
  | .lhl f, m => { m with lhl := f m.lhl }
  | .arc f, m => { m with arc := f m.arc }
  | .bql f, m => { m with bql := f m.bql }
  | .snd f, m => { m with snd := f m.snd }
  | .que f, m => { m with que := f m.que }
  | .fry f, m => { m with fry := f m.fry }
  | .fw f, m => { m with fw := f m.fw }
  | .chan f, m => { m with chan := f m.chan }
  | .rgl f, m => { m with rgl := f m.rgl }
  | .noc f, m => { m with noc := f m.noc }
  | .csw f, m => { m with csw := f m.csw }
  | .pow f, m => { m with pow := f m.pow }

/-- Programs over the primitives: nothing, one primitive, one after another, and a program chosen by the state it finds. -/
inductive Act where
  | skip
  | prim (p : Prim)
  | seq (a b : Act)
  | read (f : Mach → Act)

/-- Run a program. -/
def Act.run : Act → Mach → Mach
  | .skip, m => m
  | .prim p, m => p.apply m
  | .seq a b, m => b.run (a.run m)
  | .read f, m => (f m).run m

/-- Programs in order. -/
def Act.all : List Act → Act
  | [] => .skip
  | [a] => a
  | a :: as => .seq a (Act.all as)

/-- A program for each element, in order. -/
def Act.each {α : Type} (l : List α) (f : α → Act) : Act := Act.all (l.map f)

/-- A program when a condition holds. -/
def Act.when (c : Bool) (a : Act) : Act := if c then a else .skip

/-- A program when something is there. -/
def Act.some? {α : Type} (o : Option α) (f : α → Act) : Act :=
  match o with
  | none => .skip
  | some x => f x

/-- Set a register field. -/
def Act.set (f : Fld) (i v : Nat) : Act := .prim (.reg f i v)

/-- Add to a register field; the field's width makes it wrap. -/
def Act.inc (f : Fld) (i n : Nat) : Act := .read fun m => .set f i (m.get f i + n)

/-- Add to a register field that saturates at `top`. -/
def Act.sat (f : Fld) (i n top : Nat) : Act := .read fun m => .set f i (min top (m.get f i + n))

/-- Emit. -/
def Act.emit (o : Out) : Act := .prim (.emit o)

/-- Draw a free value: a program that is given an open value of the manual, different each time (log entry 4). -/
def Act.free (f : BitVec 64 → Act) : Act := .read fun m => .seq (.prim .draw) (f (Config.freeValue m.freeCtr))

/-- What a home holds of a page after its record is replaced. A record that was as never written enters the cold scan's walk in
this heat period (R127). -/
def Mach.withRcd (m : Mach) (pn : Nat) (r : PageRec) : PageSt :=
  let p := m.page pn
  { p with rcd := r, changed := true, visited := if p.rcd = {} then m.get .TIER_PERIOD_NOW else p.visited }

/-- Replace a page's record and keep the rest. -/
def Act.rcd (pn : Nat) (f : PageRec → PageRec) : Act :=
  .read fun m => .prim (.page pn (m.withRcd pn (f (m.page pn).rcd)))

/-- The meaning of a command: run its program; the queue is untouched and the outcome is always a next state. -/
def State.act (s : State) (a : Act) : Host.Outcome State Fault Refusal := .next { s with mach := a.run s.mach }

end Sys2Proof.Machine
end

