-- ==== Sys2Proof/Machine/Operands.lean ====
section
/-!
DEFINITION. How commands name things: limits of the two sleds, atolls and views, the decode of an LD DPA, homes, page
records' places, media addresses, wide bitmaps, and the commands' shared readings of the state.
-/

namespace Sys2Proof.Machine

/-! ### Limits (Table 0.2, Table 1.4) -/

/-- One number on the DX32, another on the DX16. -/
def Sled.pick (s : Sled) (a b : Nat) : Nat := match s with | .dx32 => a | .dx16 => b

/-- Homes, which are active memory islets (Table 1.4). -/
def Sled.homes (s : Sled) : Nat := s.pick 32 16

/-- Bits of a home index (R56). -/
def Sled.homeBits (s : Sled) : Nat := s.pick 5 4

/-- Heads (Table 0.2). -/
def Sled.heads (s : Sled) : Nat := s.pick 64 32

/-- Logical devices (Table 0.2). -/
def Sled.lds (s : Sled) : Nat := s.pick 256 128

/-- Atolls (Table 0.2). -/
def Sled.atolls (s : Sled) : Nat := s.pick 4096 2048

/-- Views (Table 0.2). -/
def Sled.views (s : Sled) : Nat := s.pick 16384 8192

/-- Channels (Table 0.2). -/
def Sled.chans (s : Sled) : Nat := s.pick 16 8

/-- DIMM slots (Table 0.2). -/
def Sled.dimms (s : Sled) : Nat := s.pick 32 16

/-- Queue pairs (Table 0.2). -/
def Sled.qps (s : Sled) : Nat := s.pick 8192 4096

/-- Port groups (Table 0.2). -/
def Sled.groups (s : Sled) : Nat := s.pick 16 8

/-- Presented capacity in 2 MiB units (Table 0.2). -/
def Sled.presented (s : Sled) : Nat := s.pick (2 ^ 24) (2 ^ 23)

/-! ### Reading the register file -/

/-- The entries of a field that are listed, in rising order. An entry that is not listed holds its reset value. -/
def Mach.idxs (m : Mach) (f : Fld) : List Nat :=
  (m.regs.filter fun p => p.1 % 1024 == f.ctorIdx).map fun p => p.1 / 1024

/-- A one-bit field as a truth value. -/
def Mach.flag (m : Mach) (f : Fld) (i : Nat := 0) : Bool := m.get f i == 1

/-- Bit n of a field wider than 64 bits, held in words (R470). -/
def Mach.wideBit (m : Mach) (f : Fld) (n : Nat) : Bool := Bits.bit (m.get f (n / 64)) (n % 64)

/-- The number with bit n set or clear. -/
def withBit (x n : Nat) (b : Bool) : Nat := Bits.setField x n 1 (Bits.ofBool b)

/-- Set or clear bit n of a field wider than 64 bits. -/
def Act.wideBit (f : Fld) (n : Nat) (b : Bool) : Act :=
  .read fun m => .set f (n / 64) (withBit (m.get f (n / 64)) (n % 64) b)

/-- Reef time in ns. -/
def Mach.now (m : Mach) : Nat := m.get .REEF_TIME

/-! ### Atolls -/

/-- Atoll states (Table 2.1). -/
def atlFree : Nat := 0
/-- Building (Table 2.1). -/
def atlBuilding : Nat := 1
/-- Live (Table 2.1). -/
def atlLive : Nat := 2
/-- Retiring (Table 2.1). -/
def atlRetiring : Nat := 3

/-- Atolls that are not Free, in increasing id. -/
def Mach.atolls (m : Mach) : List Nat := (m.idxs .ATL_STATE).filter fun n => m.get .ATL_STATE n != atlFree

/-- First page number of an atoll (R34: 2 MiB units of 512 pages). -/
def Mach.atollPage (m : Mach) (n : Nat) : Nat := m.get .ATL_BASE n * 512

/-- Pages of an atoll. -/
def Mach.atollPages (m : Mach) (n : Nat) : Nat := m.get .ATL_SIZE n * 512

/-- A page number lies in an atoll. -/
def Mach.inAtoll (m : Mach) (n pn : Nat) : Bool :=
  m.atollPage n ≤ pn && pn < m.atollPage n + m.atollPages n

/-- The atoll that holds a page: the one Live or Retiring whose range names it (R34). -/
def Mach.atollOf (m : Mach) (pn : Nat) : Option Nat :=
  m.atolls.find? fun n => (m.get .ATL_STATE n == atlLive || m.get .ATL_STATE n == atlRetiring) && m.inAtoll n pn

/-- The atoll is of Type Bell (R51). -/
def Mach.isBell (m : Mach) (n : Nat) : Bool := m.flag .ATL_TYPE n

/-- The atoll has Coherence S (Table 2.1). -/
def Mach.isShared (m : Mach) (n : Nat) : Bool := m.flag .ATL_COH n

/-- The entry is a remote atoll, whose other attribute fields are ignored (R289). -/
def Mach.isRemote (m : Mach) (n : Nat) : Bool := m.flag .ARC_ATL_REMOTE n

/-- The atoll's contract is Elastic (Table 2.1). -/
def Mach.isElastic (m : Mach) (n : Nat) : Bool := m.flag .ATL_CONTRACT n && !m.isRemote n

/-- The atoll is sealed: Line or Line+Integrity (Table 2.1). -/
def Mach.isSealed (m : Mach) (n : Nat) : Bool := m.get .ATL_SEAL n != 0 && !m.isRemote n

/-- The atoll has Line+Integrity (Table 2.1). -/
def Mach.hasTags (m : Mach) (n : Nat) : Bool := m.get .ATL_SEAL n == 2 && !m.isRemote n

/-! ### Views (R35 to R37, R40) -/

/-- Valid views of an LD. -/
def Mach.ldViews (m : Mach) (ld : Nat) : List Nat :=
  (m.idxs .VW_VALID).filter fun v => m.flag .VW_VALID v && m.get .VW_LD v == ld

/-- Valid views of an atoll. -/
def Mach.atollViews (m : Mach) (n : Nat) : List Nat :=
  (m.idxs .VW_VALID).filter fun v => m.flag .VW_VALID v && m.get .VW_ATOLL v == n

/-- Closing views of an atoll. -/
def Mach.closingViews (m : Mach) (n : Nat) : List Nat :=
  (m.idxs .VW_CLOSING).filter fun v => m.flag .VW_CLOSING v && m.get .VW_ATOLL v == n

/-- Bytes of LD DPA that a view of an atoll maps: the atoll's size, or 64 KiB of a Bell atoll (R35). -/
def Mach.viewBytes (m : Mach) (n : Nat) : Nat := if m.isBell n then 0x10000 else m.get .ATL_SIZE n * 2 ^ 21

/-- First LD DPA of a view. -/
def Mach.viewBase (m : Mach) (v : Nat) : Nat := m.get .VW_LDBASE v * 2 ^ 21

/-- An LD DPA falls in a view. -/
def Mach.inView (m : Mach) (v dpa : Nat) : Bool :=
  m.viewBase v ≤ dpa && dpa < m.viewBase v + m.viewBytes (m.get .VW_ATOLL v)

/-- The head of an LD. -/
def Mach.headOf (m : Mach) (ld : Nat) : Nat := m.get .HBR_LD_HEAD ld

/-- LDs that exist on a head. -/
def Mach.headLds (m : Mach) (h : Nat) : List Nat :=
  (m.idxs .HBR_LD_VALID).filter fun n => m.flag .HBR_LD_VALID n && m.headOf n == h

/-- LDs that view an atoll, without repeats. -/
def Mach.viewers (m : Mach) (n : Nat) : List Nat := ((m.atollViews n).map fun v => m.get .VW_LD v).dedup

/-- What an LD DPA decodes to: the view, its atoll and the global DPA (R35). -/
structure Mapped where
  view : Nat
  atoll : Nat
  gdpa : Nat
  deriving DecidableEq, Repr

/-- A range of an LD's DPA lies within one accepted extent (R37). -/
def Mach.accepted (m : Mach) (ld dpa len : Nat) : Bool :=
  m.host.extents.any fun e => e.ld == ld && e.accepted && e.base ≤ dpa && dpa + len ≤ e.base + e.len

/-- The decode of an LD DPA through the LD's views; none is unmapped (R35, R37, R204). -/
def Mach.decode (m : Mach) (ld dpa : Nat) : Option Mapped :=
  match (m.ldViews ld).find? fun v => m.inView v dpa with
  | none => none
  | some v =>
    let n := m.get .VW_ATOLL v
    if m.isElastic n && !m.accepted ld dpa 1 then none
    else if m.isShared n && m.get .HBR_HEAD_FLIT (m.headOf ld) == 1 then none
    else some ⟨v, n, m.get .ATL_BASE n * 2 ^ 21 + (dpa - m.viewBase v)⟩

/-- The LD DPAs at which an LD sees a global DPA. -/
def Mach.ldDpas (m : Mach) (ld gdpa : Nat) : List Nat :=
  (m.ldViews ld).filterMap fun v =>
    let n := m.get .VW_ATOLL v
    let b := m.get .ATL_BASE n * 2 ^ 21
    if b ≤ gdpa && gdpa < b + m.viewBytes n then some (m.viewBase v + (gdpa - b)) else none

/-! ### Pages, lines and homes -/

/-- The page of a line number; a line number is the global DPA divided by 64 (R12). -/
def pageOfLine (line : Nat) : Nat := line / 64

/-- The index of a line in its page. -/
def idxOfLine (line : Nat) : Nat := line % 64

/-- The home index of a page: the exclusive or of its groups of 5 bits on the DX32, 4 on the DX16 (R56). -/
def homeIndex (s : Sled) (pn : Nat) : Nat :=
  (List.range (s.pick 7 9)).foldl (fun h k => h ^^^ Bits.field pn (s.homeBits * k) s.homeBits) 0

/-- The home index of a line. -/
def Mach.homeOfLine (m : Mach) (line : Nat) : Nat := homeIndex m.sled (pageOfLine line)

/-- The home index of a page within its home, k of R102. -/
def Mach.pageK (m : Mach) (n pn : Nat) : Nat := (pn - m.atollPage n) / m.sled.homes

/-- The local line number λ, its set and its tag (R175). -/
def localLine (s : Sled) (line : Nat) : Nat := (pageOfLine line / s.homes) * 64 + idxOfLine line

/-- The directory set of a line (R175). -/
def dirSet (s : Sled) (line : Nat) : Nat := localLine s line % 2 ^ 14

/-! ### Grain addresses (R98, R102, R328) -/

/-- Block of a grain address. -/
def blockOf (ga : Nat) : Nat := ga / 256

/-- Stripe of a grain address. -/
def stripeOf (ga : Nat) : Nat := ga / 2 ^ 17

/-- Channels populated: those with a DIMM in service, retiring, retired or held retired. -/
def Mach.populated (m : Mach) : Nat :=
  ((List.range m.sled.chans).filter fun c =>
    m.get .DRM_D_STATE (2 * c) != 0 || m.get .DRM_D_STATE (2 * c + 1) != 0).length

/-- Channel bits in use (R328). -/
def Mach.chanBits (m : Mach) : Nat :=
  if m.populated * 2 ≤ m.sled.chans then m.sled.pick 3 2 else m.sled.pick 4 3

/-- The channel of a grain address (R328). -/
def Mach.chanOf (m : Mach) (ga : Nat) : Nat :=
  let c := ((List.range m.chanBits).map fun i => Bits.parity (ga &&& m.get .DRM_MAP i) 40 * 2 ^ i).sum
  if m.chanBits = m.sled.pick 4 3 then c
  else
    let b := m.sled.pick 2 1
    c % 2 ^ b + c / 2 ^ b * 2 ^ (b + 1)

/-- Channels of an atoll's set, in increasing number. -/
def Mach.chanSet (m : Mach) (n : Nat) : List Nat := Bits.ones (m.get .ATL_CHAN_SET n) m.sled.chans

/-- The master port of a head's requests, a queue islet, or a Ferry port (Table 14.1). -/
def Mach.masterOf (m : Mach) : Agent → Nat
  | .head ld _ => m.headOf ld
  | .queue q => 66 + q / 2048
  | .ferry (.ld n) => m.headOf n
  | .ferry (.mctp _) => 73
  | .peer p _ => if m.flag .BQL_L_EN p then 64 else 65
  | .self => 70

/-! ### Services that several blocks read -/

/-- The roles that a session holds: none without mutual authentication (R446). -/
def Session.held (s : Session) : Nat := if s.mutualAuth then s.roles else 0


/-- Power states of `REEF_PSTATE` (Table 21.9). -/
def psActive : Nat := 0

/-- The sled is Fatal (R365). -/
def Mach.fatal (m : Mach) : Bool := m.flag .BKW_FATAL

/-- The keys an atoll needs are absent (Table 2.10). -/
def Mach.keysAbsent (m : Mach) (n : Nat) : Bool := m.isSealed n && m.flag .ATL_KEYS_ABSENT n

end Sys2Proof.Machine
end

