-- ==== Sys2Proof/Machine/Lighthouse.lean ====
section
/-!
DEFINITION. The Lighthouse log (chapter "The Lighthouse log"): records, repeats, overflow and clearing.
-/

namespace Sys2Proof.Machine

/-- Slots of the log (R376). -/
def lhSlots : Nat := 65536

/-- An event repeats a record: equal source, code, key and forced mark; the clear record is never repeated (R379). -/
def LhRec.repeats? (r : LhRec) (e : LhEvent) : Bool :=
  r.source == e.source && r.code == e.code && r.key == e.key && r.forced == e.forced && r.code != 0x0061

/-- The record that an event writes (R376). -/
def LhEvent.toRec (e : LhEvent) : LhRec :=
  { time := e.time, source := e.source, code := e.code, repeats := 1, last := e.time, key := e.key, data := e.data,
    forced := e.forced }

/-- Replace the last element of a list. -/
def mapLast {α : Type} (f : α → α) : List α → List α
  | [] => []
  | [a] => [f a]
  | a :: b :: l => a :: mapLast f (b :: l)

/-- The latest record counts one more occurrence (R379). -/
def LhRec.again (r : LhRec) (e : LhEvent) : LhRec :=
  { r with last := e.time, repeats := min 0xFFFFFFFF (r.repeats + 1) }

/-- Append a record and set `LHL_COUNT` and `LHL_FULL` (R377, R381). -/
def lhAppend (r : LhRec) : Act := .read fun m =>
  .all [.prim (.lhl fun l => { l with recs := l.recs ++ [r] }),
    .set .LHL_COUNT 0 (m.lhl.recs.length + 1),
    .when (decide (m.lhl.recs.length + 1 = lhSlots)) (.set .LHL_FULL 0 1)]

/-- An event at the record port: a repeat, a new record, or an overflow (R377, R379, R381); during a clear it waits in the
Reef's queue of 256 (R382). -/
def lhTake (e : LhEvent) : Act := .read fun m =>
  match m.lhl.recs.getLast? with
  | some r =>
    if r.repeats? e then .prim (.lhl fun l => { l with recs := mapLast (·.again e) l.recs })
    else if m.lhl.recs.length < lhSlots then lhAppend e.toRec
    else .sat .LHL_OVERFLOW 0 1 0xFFFFFFFF
  | none => lhAppend e.toRec

/-- An event reaches the record port (R377), or waits while the log is being cleared (R382). -/
def lhEvent (e : LhEvent) : Act := .read fun m =>
  if m.flag .LHL_CLEARING then
    if m.lhl.queue.length < 256 then .prim (.lhl fun l => { l with queue := l.queue ++ [e] })
    else .prim (.lhl fun l => { l with dropped := l.dropped + 1 })
  else lhTake e

/-- Record an event now: source, code, key and data (Table 18.2). -/
def lhLog (source code key data : Nat) (forced : Bool := false) : Act := .read fun m =>
  lhEvent { time := m.now, source := source, code := code, key := key % 2 ^ 64, data := data % 2 ^ 224, forced := forced }

/-- The 64 bytes of a record as MRAM holds it (Table 18.1). -/
def LhRec.bytes (r : LhRec) : List Byte :=
  List.flatten [Bits.leBytes 8 r.time, Bits.leBytes 2 r.source, Bits.leBytes 2 r.code, Bits.leBytes 4 r.repeats,
    Bits.leBytes 8 r.last, Bits.leBytes 8 r.key, Bits.leBytes 28 r.data,
    [BitVec.ofNat 8 (Bits.ofBool r.forced + 2 * Bits.ofBool r.clearDone), 0, 0, 0xA5]]

/-- The 64 bytes of slot n on every read path; zeros at or beyond `LHL_COUNT` (R382, R383). -/
def Mach.lhSlot (m : Mach) (n : Nat) : List Byte :=
  match m.lhl.recs[n]? with
  | none => List.replicate 64 0
  | some r => if n < m.get .LHL_COUNT then r.bytes else List.replicate 64 0

/-- LOG_RECORD: one event at the Reef's record port (R376, R377). -/
def logRecord (source code key data : Nat) (forced : Bool) : Act := lhLog source code key data forced

/-- The 0x0061 and 0x0062 data: transport, head or EID, and 16 bytes of the leaf certificate's digest (R476). -/
def sessionData (s : Session) : Nat :=
  Bits.ofBool s.mctp + 256 * (s.origin % 256) + 2 ^ 16 * (Bits.leNat (s.digest.take 16))

/-- The status of a clear request (R382, in the order of R477). -/
def logClearStatus (m : Mach) (s : Session) (kind index : Nat) : Nat :=
  if !Bits.bit (Session.held s) 1 then 4
  else if kind ≠ 0 ∨ index ≠ 0 then 3
  else if m.flag .LHL_CLEARING then 1
  else 0

/-- LOG_CLEAR: refused with a 0x0062 record, or steps 1 and 2 of R382. The response to a granted clear follows the last
step. -/
def logClear (s : Session) (kind index : Nat) : Act := .read fun m =>
  let st := logClearStatus m s kind index
  if st ≠ 0 then
    .all [lhLog 0 0x0062 s.id (sessionData s + 2 ^ 144 * st), .inc .KEY_SPDM_REFUSED 0 1,
      .emit (.keyRsp s.id 0x90 st [])]
  else
    .all [.prim (.lhl fun l => { l with recs := [], clearFor := some s.id }),
      .set .LHL_COUNT 0 0,
      lhAppend { time := m.now, source := 0, code := 0x0061, repeats := 1, last := m.now, key := s.id % 2 ^ 64,
                 data := sessionData s, forced := false },
      .set .LHL_CLEARING 0 1]

/-- LOG_CLEAR_COMPLETE: steps 3 and 4 of R382, then the events that waited. -/
def logClearComplete : Act := .read fun m =>
  if m.flag .LHL_CLEARING then
    .all [.prim (.lhl fun l => { l with recs := match l.recs with | [] => [] | r :: rs => { r with clearDone := true } :: rs }),
      .set .LHL_FULL 0 0, .set .LHL_OVERFLOW 0 0, .set .LHL_OVF_LOST 0 0, .set .LHL_CLEARING 0 0,
      .some? m.lhl.clearFor fun id => .emit (.keyRsp id 0x90 0 []),
      .each m.lhl.queue lhTake,
      .sat .LHL_OVERFLOW 0 m.lhl.dropped 0xFFFFFFFF,
      .prim (.lhl fun l => { l with queue := [], dropped := 0, clearFor := none })]
  else .skip

/-! ### Meanings -/

/-- LOG_RECORD (R376). -/
def execLogRecord (source code key data : Nat) (forced : Bool) (s : State) : Host.Outcome State Fault Refusal :=
  s.act (logRecord source code key data forced)

/-- LOG_CLEAR (R382). -/
def execLogClear (ss : Session) (kind index : Nat) (s : State) : Host.Outcome State Fault Refusal :=
  s.act (logClear ss kind index)

/-- LOG_CLEAR_COMPLETE (R382). -/
def execLogClearComplete (s : State) : Host.Outcome State Fault Refusal := s.act logClearComplete

end Sys2Proof.Machine
end

