-- ==== Sys2Proof/Machine/EventLogs.lean ====
section
/-!
DEFINITION. The CXL event logs of R215 and the MSI-X messages of R243.
-/

namespace Sys2Proof.Machine

/-- The owner number of the management function's mailbox, logs and MSI-X table. An LD's is its own number. -/
def ownMgmt : Nat := 256

/-- The owner number of the FM API's mailbox. -/
def ownFm : Nat := 257

/-- The place of a log among an owner's five (Table 9.5). -/
def evCode : EvLog → Nat
  | .info => 0
  | .warn => 1
  | .fail => 2
  | .fatal => 3
  | .dcd => 4

/-- Records a log holds (Table 9.5). -/
def evCapacity : EvLog → Nat
  | .fatal => 16
  | .dcd => 256
  | _ => 64

/-- The number under which an owner's log is listed. -/
def logKey (owner : Nat) (l : EvLog) : Nat := owner * 8 + (evCode l)

/-- An owner's log. -/
def Mach.evLog (m : Mach) (owner : Nat) (l : EvLog) : EvLogSt := (m.host.logs.find? (logKey owner l)).getD {}

/-- An owner's mailbox. -/
def Mach.mbox (m : Mach) (owner : Nat) : MboxSt := (m.host.mboxes.find? owner).getD {}

/-- The timestamp of an owner's mailbox: Reef time plus its offset (Table 9.3, opcodes 0x0300 and 0x0301). -/
def Mach.stamp (m : Mach) (owner : Nat) : Nat := (m.mbox owner).tsSet + (m.now - (m.mbox owner).tsAt)

/-- Change an owner's mailbox. -/
def Act.mbox (owner : Nat) (f : MboxSt → MboxSt) : Act := .read fun m =>
  .prim (.host fun h => { h with mboxes := h.mboxes.set owner {} (f (m.mbox owner)) })

/-- Change an owner's log. -/
def Act.evLog (owner : Nat) (l : EvLog) (f : EvLogSt → EvLogSt) : Act := .read fun m =>
  .prim (.host fun h => { h with logs := h.logs.set (logKey owner l) {} (f (m.evLog owner l)) })

/-- Send an MSI-X message of an owner's vector: nothing while Bus Master Enable is 0, the pending bit while the vector is
masked (R243, as PCI Express defines MSI-X). -/
def msixSend (owner vec : Nat) : Act := .read fun m =>
  if m.host.bmeOff.contains owner then .skip
  else if m.host.msixMasked.contains (owner, vec) then
    .prim (.host fun h => { h with msixPending := (owner, vec) :: h.msixPending.filter (· != (owner, vec)) })
  else .emit (.msix owner vec)

/-- Add a record to one log; a full log takes none, and keeps its overflow flag, count and times (R215). -/
def evAdd (owner : Nat) (l : EvLog) (k : EvKind) (fields : List Nat) : Act := .read fun m =>
  if (m.evLog owner l).recs.length < evCapacity l then
    .all [.evLog owner l fun e =>
        { e with recs := e.recs ++ [⟨m.host.nextHandle, m.stamp owner, k, fields⟩] },
      .prim (.host fun h => { h with nextHandle := h.nextHandle + 1 }),
      let pol := (m.mbox owner).policy.getD (evCode l) 0
      .when (decide (pol % 4 = 1)) (msixSend owner (pol / 16 % 16))]
  else
    .all [.evLog owner l fun e =>
        { e with overflow := true, lost := e.lost + 1,
                 firstLost := if e.overflow then e.firstLost else m.stamp owner, lastLost := m.stamp owner },
      .when (decide (owner < 256)) (.inc .HBR_LD_EVT_OVERFLOW owner 1)]

/-- Add a record to the logs of every LD that holds a valid view of an atoll (R215). -/
def evViewers (n : Nat) (l : EvLog) (k : EvKind) (fields : List Nat) : Act := .read fun m =>
  .each (m.viewers n) fun ld => evAdd ld l k fields

/-- Every LD that exists. -/
def Mach.allLds (m : Mach) : List Nat := (m.idxs .HBR_LD_VALID).filter fun n => m.flag .HBR_LD_VALID n

/-- LDs with a valid view of any atoll. -/
def Mach.viewingLds (m : Mach) : List Nat :=
  (((m.idxs .VW_VALID).filter fun v => m.flag .VW_VALID v).map fun v => m.get .VW_LD v).dedup

/-- Causes of the poisoning of a line, in the CXL 3.1 Transaction Type encoding (R479, Table 9.8; the encoding is that of
the General Media Event record, log entry 9). -/
inductive PoisonCause where
  | hostRead | hostWrite | scanMedia | inject | scrub | mediaManagement | unknown
  deriving DecidableEq, Repr

/-- Transaction Type codes of CXL 3.1. -/
def PoisonCause.code : PoisonCause → Nat
  | .unknown => 0
  | .hostRead => 1
  | .hostWrite => 2
  | .scanMedia => 3
  | .inject => 4
  | .scrub => 5
  | .mediaManagement => 6

/-- A General Media Event for a poisoned line in the Failure log of each LD that sees it: LD DPA and Transaction Type
(Table 9.5, R479). -/
def mediaEvent (n line : Nat) (c : PoisonCause) : Act := .read fun m =>
  .each (m.viewers n) fun ld =>
    .each (m.ldDpas ld (line * 64)) fun dpa => evAdd ld .fail .media [dpa, c.code]

/-! ### PLDM sensors (R447, R463) -/

/-- Sensor numbers: 0 V_IN, 1 input current, 2 input power, 3 FET temperature, 4 junction, 5 pace, and 6 + slot for a DIMM (log
entry 40). -/
def sensorFet : Nat := 3
/-- The junction's sensor. -/
def sensorJunction : Nat := 4
/-- A DIMM's sensor. -/
def sensorDimm (d : Nat) : Nat := 6 + d

/-- The level of a reading against the thresholds of Table 23.9: 0 normal, 1 warning, 2 critical, 3 fatal. -/
def sensorLevel (t warn crit fatal : Int) : Nat := if fatal < t then 3 else if crit < t then 2 else if warn < t then 1 else 0

/-- A PLDM event reports a sensor that enters another level (R463). -/
def sensorEvent (s old new : Nat) : Act := .when (old != new) (.emit (.mgmtRsp 1 0x0A [s, old, new]))

end Sys2Proof.Machine
end

