-- ==== Sys2Proof/Machine/Breakwater.lean ====
section
/-!
DEFINITION. Breakwater's collection of sources (chapter "Breakwater: fault collection and reaction"): what one detection
does. The isolation, reset and takeover of each kind of block stand in Reaction.lean.
-/

namespace Sys2Proof.Machine

/-! ### Source ids (R363) -/

/-- A source id from its class, instance and cause. -/
def srcId (cls inst cause : Nat) : Nat := cls * 1024 + inst * 16 + cause

/-- Class of a source id. -/
def srcClass (id : Nat) : Nat := id / 1024 % 64

/-- Instance of a source id. -/
def srcInst (id : Nat) : Nat := id / 16 % 64

/-- Cause of a source id. -/
def srcCause (id : Nat) : Nat := id % 16

/-- The entry of a source's class and cause: 16 × class + cause (R375). -/
def srcEntry (id : Nat) : Nat := 16 * srcClass id + srcCause id

/-- The instance exists on the sled (Table 17.1). -/
def instPresent (s : Sled) (cls inst : Nat) : Bool :=
  match cls with
  | 0x01 => inst < s.homes || inst == 32 || (inst == 33 && s == .dx32)
  | 0x02 => inst < s.heads
  | 0x03 => inst < s.chans
  | 0x04 => s == .dx32 && inst < 18
  | 0x05 => inst < s.pick 4 2
  | 0x06 => match s with
    | .dx32 => inst < 32
    | .dx16 => inst < 8 || (17 ≤ inst && inst < 32 && inst % 2 == 1)
  | 0x07 => inst < s.pick 64 32
  | 0x0A => inst < s.pick 64 32
  | 0x0D => s == .dx32 && inst < 8
  | _ => inst == 0

/-- The source is one of Table 17.2 on an instance that the sled has (R363). -/
def srcKnown (s : Sled) (id : Nat) : Bool :=
  (bkwDefault (srcEntry id)).isSome && instPresent s (srcClass id) (srcInst id)

/-! ### Pins -/

/-- Sideband pins (chapter "Connectors, signals and mechanics"). -/
def pinAlert : Nat := 0
/-- FAULT_N. -/
def pinFault : Nat := 1
/-- PG_OUT. -/
def pinPgOut : Nat := 2
/-- The locate LED. -/
def pinLed : Nat := 3

/-- The unmasked sources whose status bit is set and whose severity is at or above `BKW_ALERT_SEV` (R372). -/
def Mach.alerting (m : Mach) : Bool :=
  (m.idxs .BKW_STATUS).any fun w => (Bits.ones (m.get .BKW_STATUS w) 64).any fun b =>
    let cu := srcEntry (64 * w + b)
    !m.flag .BKW_C_MASK cu && m.get .BKW_ALERT_SEV ≤ m.get .BKW_C_SEV cu

/-- ALERT_N follows the status bits (R372). -/
def alertUpdate : Act := .read fun m =>
  .when (m.alerting != m.bkw.alertLow)
    (.all [.prim (.bkw fun b => { b with alertLow := m.alerting }), .emit (.pin pinAlert (!m.alerting))])

/-- FAULT_N is low: in Fatal, during a pulse, or while `BKW_FAULT_PIN` is 1 (R372). -/
def Mach.faultLevel (m : Mach) : Bool := m.fatal || m.bkw.pulse || m.flag .BKW_FAULT_PIN

/-- FAULT_N and `BKW_FAULT_STATE` follow the level (R372). -/
def faultUpdate : Act := .read fun m =>
  .all [.set .BKW_FAULT_STATE 0 (Bits.ofBool m.faultLevel),
    .when (m.faultLevel != m.bkw.faultLow)
      (.all [.prim (.bkw fun b => { b with faultLow := m.faultLevel }), .emit (.pin pinFault (!m.faultLevel))])]

/-! ### Forwarding (R371) -/

/-- LDs that the block of a source serves (R371). -/
def Mach.servedLds (m : Mach) (id : Nat) : List Nat :=
  match srcClass id with
  | 0x02 => m.headLds (srcInst id)
  | 0x05 => (((m.idxs .QP_EN).filter fun q => m.flag .QP_EN q && q / 2048 == srcInst id).map fun q => m.get .QP_OWNER q).dedup
  | 0x04 => if srcInst id < 16 then (((m.idxs .QP_EN).filter fun q => m.flag .QP_EN q).map fun q => m.get .QP_OWNER q).dedup else []
  | 0x01 | 0x03 | 0x06 | 0x07 | 0x0D => m.viewingLds
  | _ => []

/-- The log a severity goes to (R371). -/
def sevLog : Nat → EvLog
  | 0 => .warn
  | 3 => .fatal
  | _ => .fail

/-- Forward a detection as the vendor event record of R215, to the receivers that `BKW_C_FWD` selects; a Fatal source goes
to all (R371). The record's fields are the source id, the Lighthouse code, the repeat count, and the key and data. -/
def forward (id sev : Nat) (key data : Nat) (code : Nat := 1) : Act := .read fun m =>
  let fwd := if sev = 3 then 2 else m.get .BKW_C_FWD (srcEntry id)
  let lds := match fwd with
    | 1 => (m.servedLds id).filter (· < 256)
    | 2 => m.allLds
    | _ => []
  let rep := match m.lhl.recs.getLast? with | some r => r.repeats | none => 1
  .when (fwd != 3)
    (.each (ownMgmt :: lds) fun o => evAdd o (sevLog sev) .forwarded [id, code, rep, key, data])

/-! ### Fatal (R365) -/

/-- Every accepted host request completes with poison, and no request stays (R365). -/
def answerAll : Act := .read fun m =>
  .all [.each ((m.lines.txns.map (·.req)) ++ (m.lines.waits.map (·.req))) fun r =>
      match r.src, r.kind with
      | .head ld tag, .rdCur => .emit (.readData ld tag none 0)
      | .head ld tag, .rdShd => .emit (.readData ld tag none 1)
      | .head ld tag, .rdOwn => .emit (.readData ld tag none 2)
      | .head ld tag, .atom => .emit (.completion ld tag 2 [])
      | .head ld tag, _ => .emit (.writeCmp ld tag)
      | _, _ => .skip,
    .prim (.lines fun l => { l with txns := l.txns.filter (fun t => match t.req.src with | .head _ _ => false | _ => true),
                                    waits := l.waits.filter (fun w => match w.req.src with | .head _ _ => false | _ => true) })]

/-- Enter Fatal: FAULT_N low, accepted requests answered, Fatal event records everywhere, running actions stopped
(R365, Table 17.6). -/
def goFatal (id key data : Nat) : Act := .read fun m =>
  .when (!m.fatal)
    (.all [.set .BKW_FATAL 0 1, .set .BKW_TAKEOVER_BUSY 0 0,
      .prim (.bkw fun b => { b with takeovers := [], resetting := [] }),
      faultUpdate, answerAll, forward id 3 key data])

/-! ### Reaction (R368) -/

/-- The pending slot that a source holds. -/
def Mach.slotOf (m : Mach) (id : Nat) : Option Nat :=
  (List.range 32).find? fun k => m.flag .BKW_P_VALID k && m.get .BKW_P_ID k == id

/-- The first free pending slot. -/
def Mach.freeSlot (m : Mach) : Option Nat := (List.range 32).find? fun k => !m.flag .BKW_P_VALID k

/-- Isolation key of a source: its block (R365). -/
def blockKey (id : Nat) : Nat × Nat := (srcClass id, srcInst id)

/-- A memory islet's instance serves a home now: an islet of the start whose home-table entry still names it, or a spare
that has taken a home (R368, R369). Instances 32 and 33 are the spares at (4,3) and (3,4) port 1 (Table 16.2). -/
def Mach.homeServedBy (m : Mach) (inst : Nat) : Option Nat :=
  (List.range m.sled.homes).find? fun h =>
    let x := m.get .NOC_HOME_X h
    let y := m.get .NOC_HOME_Y h
    let p := m.get .NOC_HOME_PORT h
    if inst < 32 then h == inst && x == isletX inst && y == isletY inst && p == 0
    else if inst = 32 then x == 4 && y == 3 && p == 1
    else x == 3 && y == 4 && p == 1

/-- An action applies to a source (Table 17.3). -/
def Mach.actionApplies (m : Mach) (id action : Nat) : Bool :=
  match action with
  | 0 => true
  | 1 => !(srcClass id == 1 && (m.homeServedBy (srcInst id)).isNone && srcInst id < 32)
  | 2 => srcClass id == 1 && srcCause id == 8
  | _ => action == 3

/-- Take an action of Table 17.3. Reset starts the block's self-test, whose end is RESET_SELF_TEST_DONE; Takeover holds
the home's entry (Table 17.5 step 1) and waits for SPARE_TAKEOVER, or for a takeover that runs; it is Keep without a free spare. -/
def takeAction (id action key data : Nat) : Act := .read fun m =>
  match action with
  | 1 => .prim (.bkw fun b => { b with resetting := b.resetting ++ [id] })
  | 2 => .when (m.get .BKW_SPARES_FREE != 0)
      (.all [.when m.bkw.takeovers.isEmpty (.some? (m.homeServedBy (srcInst id)) fun h => .set .NOC_HOME_HOLD h 1),
        .prim (.bkw fun b => { b with takeovers := b.takeovers ++ [srcInst id] }), .set .BKW_TAKEOVER_BUSY 0 1])
  | 3 => goFatal id key data
  | _ => .skip

/-- The action used by `BKW_C_AUTO` or a mask: Keep where it does not apply to the instance (R368). -/
def Mach.autoAction (m : Mach) (id : Nat) : Nat :=
  let a := m.get .BKW_C_ACTION (srcEntry id)
  if m.actionApplies id a && !(a == 2 && m.get .BKW_SPARES_FREE == 0) then a else 0

/-- A Contained event: acknowledged by its mask or `BKW_C_AUTO`, or a pending slot and a reaction timer, or Keep with a
0x0051 record when no slot is free; nothing more on a block already isolated (R366, R367, R368, Table 17.6). -/
def react (id key data : Nat) (isolatedBefore : Bool) : Act := .read fun m =>
  let cu := srcEntry id
  if isolatedBefore || (m.slotOf id).isSome then .skip
  else if m.flag .BKW_C_MASK cu || m.flag .BKW_C_AUTO cu then takeAction id (m.autoAction id) key data
  else
    match m.freeSlot with
    | none => lhLog id 0x0051 0 0
    | some k =>
      .all [.set .BKW_P_ID k id, .set .BKW_P_VALID k 1, .set .BKW_P_LEFT k (m.get .BKW_REACT_TIME),
        .prim (.bkw fun b => { b with expiry := b.expiry.put k (m.now + 1000 * m.get .BKW_REACT_TIME) })]

/-- Audits of conserved quantities suspended with a block: islets, queue islets, Boesque harbours, straits, the Causeway
and Soundings keep one (Table 1.9, R28). -/
def keepsQuantity (cls : Nat) : Bool := [0x01, 0x04, 0x05, 0x06, 0x09, 0x0A].contains cls

/-- A block becomes isolated, and is to stop within 1 µs; the audit of a quantity it keeps is suspended and the suspension recorded (R28, R365). -/
def isolate (id : Nat) : Act := .read fun m =>
  .when (!m.bkw.isolated.contains (blockKey id))
    (.all [.prim (.bkw fun b => { b with isolated := b.isolated ++ [blockKey id], stopping := b.stopping ++ [id] }),
      .when (keepsQuantity (srcClass id))
        (.all [.prim (.bkw fun b => { b with suspended := b.suspended ++ [id] }), lhLog id 0x0002 (srcInst id) 0])])

/-- An isolated block returns to service: the audits suspended with it resume, and each resumption is recorded with its
result (R28). -/
def returned (key : Nat × Nat) : Act := .read fun m =>
  .all [.each (m.bkw.suspended.filter fun id => blockKey id == key) fun id => lhLog id 0x0003 (srcInst id) 0,
    .prim (.bkw fun b => { b with isolated := b.isolated.filter (· != key),
                                  stopping := b.stopping.filter fun id => blockKey id != key,
                                  suspended := b.suspended.filter fun id => blockKey id != key })]

/-- One detection of a source (R365 to R368, R371, R372): status, counts, record, signals, forwarding and the action of its
severity. A force bit that is set is taken, and marks the record (R373, Table 17.6). -/
def raise (id key data : Nat) : Act := .read fun m =>
  let cu := srcEntry id
  let sev := m.get .BKW_C_SEV cu
  let masked := m.flag .BKW_C_MASK cu
  let repeated := m.wideBit .BKW_STATUS id || (m.slotOf id).isSome
  let before := m.bkw.isolated.contains (blockKey id)
  let forced := m.wideBit .BKW_FORCE id
  .when (srcKnown m.sled id)
    (.all [.when forced (.wideBit .BKW_FORCE id false),
      .wideBit .BKW_STATUS id true, .inc .BKW_C_COUNT cu 1, .inc .BKW_EVENTS 0 1,
      lhLog id 0x0001 key data forced,
      .when (!masked && decide (1 ≤ sev) && m.flag .BKW_FAULT_ARM && !repeated)
        (.all [.prim (.bkw fun b => { b with pulse := true }), .set .BKW_FAULT_ARM 0 0]),
      faultUpdate, alertUpdate,
      .when (!masked && sev != 3) (forward id sev key data),
      .when (sev == 2) (.all [isolate id, react id key data before]),
      .when (sev == 3) (goFatal id key data)])

/-- The line-poison sources of memory islets: class 0x01 at the islet that starts as the line's home index. -/
def raiseIslet (home cause key : Nat) : Act := raise (srcId 0x01 home cause) key 0

end Sys2Proof.Machine
end

