-- ==== Sys2Proof/Machine/Counting.lean ====
section
/-!
DEFINITION. Counting (chapter "Soundings"): what one event adds to the counters and sums that select it, precise sampling of
host requests, and random tagging of engine operations.
-/

namespace Sys2Proof.Machine

/-! ### Attachments (Table 19.1, Table 16.2) -/

/-- Where counters sit. -/
inductive Att where
  | islet (m : Nat)
  | host (g : Nat)
  | chan (c : Nat)
  | boesque (p : Nat)
  | queue (k : Nat)
  | pilot
  deriving DecidableEq, Repr

/-- Type number of an attachment (Table 19.3). -/
def Att.type : Att → Nat
  | .islet _ => 0
  | .host _ => 1
  | .chan _ => 2
  | .boesque _ => 3
  | .queue _ => 4
  | .pilot => 5

/-- First counter of an attachment (Table 19.1). -/
def Att.base : Att → Nat
  | .islet m => 8 * m
  | .host g => 272 + 16 * g
  | .chan c => 528 + 16 * c
  | .boesque p => 784 + 16 * p
  | .queue k => 816 + 16 * k
  | .pilot => 880

/-- Counters of an attachment. -/
def Att.count : Att → Nat
  | .islet _ => 8
  | _ => 16

/-- The attachment of a counter number. -/
def attOf (k : Nat) : Att :=
  if k < 272 then .islet (k / 8)
  else if k < 528 then .host ((k - 272) / 16)
  else if k < 784 then .chan ((k - 528) / 16)
  else if k < 816 then .boesque ((k - 784) / 16)
  else if k < 880 then .queue ((k - 816) / 16)
  else .pilot

/-- The attachment is fitted (R351, R385). -/
def Att.fitted (s : Sled) : Att → Bool
  | .islet m => m < s.homes || m == 32 || (m == 33 && s == .dx32)
  | .host g => g < s.groups
  | .chan c => c < s.chans
  | .boesque p => s == .dx32 && p < 2
  | .queue k => k < s.pick 4 2
  | .pilot => true

/-- The router of an attachment, 8y + x (R350, Table 16.2). -/
def Att.router : Att → Nat
  | .islet m => if m < 32 then 8 * isletY m + isletX m else if m = 32 then 8 * 3 + 4 else 8 * 4 + 3
  | .host g =>
    let y := [0, 1, 6, 7].getD (g / 4) 0
    8 * y + (2 * (g % 4) + (1 - y % 2))
  | .chan c =>
    let y := [2, 3, 4, 5].getD (c / 4) 0
    8 * y + (2 * (c % 4) + (1 - y % 2))
  | .boesque p => if p = 0 then 8 * 4 else 8 * 5 + 7
  | .queue k => [8 + 1, 8 + 6, 48 + 1, 48 + 6].getD k 0
  | .pilot => 8 * 3 + 3

/-- The quadrant of a router: its core die (R350). -/
def quadrant (r : Nat) : Nat := r % 8 / 4 + 2 * (r / 8 / 4)

/-- The memory islet instance that serves a home: its own, or a spare that took it over. -/
def Mach.servingInst (m : Mach) (h : Nat) : Nat :=
  if m.homeServedBy h = some h then h else if m.homeServedBy 32 = some h then 32 else if m.homeServedBy 33 = some h then 33 else h

/-- The home's islet as an attachment. -/
def Mach.isletOf (m : Mach) (h : Nat) : Att := .islet (m.servingInst h)

/-! ### Counters and sums (R386 to R389) -/

/-- Place of a sum word: type t, index j, quadrant q; q = 4 is the sled. -/
def sumIdx (t j q : Nat) : Nat := (16 * t + j) * 5 + q

/-- Add to the sums of a counter: its quadrant's and the sled's (R389). -/
def bumpSums (k n : Nat) : Act :=
  let a := attOf k
  let j := k - a.base
  .each [quadrant a.router, 4] fun q => .read fun m =>
    let i := sumIdx a.type j q
    let v := m.get .SND_SUM i
    .set .SND_SUM i (v / 2 ^ 62 * 2 ^ 62 + (v + n) % 2 ^ 62)

/-- Add to one counter word and its sums; the value wraps at 2^48 (R386). -/
def bumpWord (k n : Nat) : Act := .read fun m =>
  let v := m.get .SND_K_VALUE k
  .all [.set .SND_K_VALUE k (v / 2 ^ 62 * 2 ^ 62 + (v % 2 ^ 48 + n) % 2 ^ 48), bumpSums k n]

/-- Add to a counter; a chained even counter carries into the odd one (R388). -/
def bump (k n : Nat) : Act := .read fun m =>
  let carry := (m.get .SND_K_VALUE k % 2 ^ 48 + n) / 2 ^ 48
  .all [bumpWord k n, .when (m.flag .SND_K_CHAIN k && k % 2 == 0 && decide (carry ≠ 0)) (bumpWord (k + 1) carry)]

/-- A counter counts its own selection: it is enabled and is not the odd word of a chain (R387, R388). -/
def Mach.counts (m : Mach) (k code arg : Nat) : Bool :=
  m.flag .SND_K_EN k && m.get .SND_K_EVENT k == code && m.get .SND_K_ARG k == arg
    && !(k % 2 == 1 && m.flag .SND_K_CHAIN (k - 1))

/-- An event at an attachment, counted `n` (R387). -/
def event (a : Att) (code arg n : Nat) : Act := .read fun m =>
  .when (a.fitted m.sled)
    (.each ((m.idxs .SND_K_EN).filter fun k => a.base ≤ k && k < a.base + a.count && m.counts k code arg) fun k => bump k n)

/-- An access that reaches a channel is charged to one master: it is received in the frame, in 64-byte lines (R305, R306). -/
def charge (c master lines : Nat) (write : Bool) : Act :=
  let k := 128 * c + master
  .when (decide (lines ≠ 0))
    (.all [.prim (.rgl fun r => { r with recv := r.recv.put k ((r.recv.find? k).getD 0 + lines) }),
      .inc .RGL_M_LINES master lines, event (.chan c) (if write then 0x41 else 0x40) 0 1, event (.chan c) 0x44 master lines])

/-- Charge the plots of an extent: 4 lines a plot. -/
def chargeExtent (ga plots master : Nat) (write : Bool) : Act := .read fun m =>
  charge (m.chanOf ga) master (4 * plots) write


/-- An event at the islet that serves a home. -/
def eventAt (h code arg n : Nat) : Act := .read fun m => event (m.isletOf h) code arg n

/-! ### Precise sampling (R394) -/

/-- A sampler selects a host request. -/
def Mach.selects (m : Mach) (s ld op : Nat) : Bool :=
  m.flag .SND_S_EN s && m.get .SND_S_HEAD s == m.headOf ld && (m.flag .SND_S_ALL_LDS s || m.get .SND_S_LD s == ld)
    && Bits.bit (m.get .SND_S_OPMASK s) op

/-- Stage a record of sampler s, or count it lost (R394). -/
def stage (s : Nat) (r : SndRec) : Act := .read fun m =>
  let seq := (m.snd.made.find? s).getD 0
  let loss := m.snd.lossy.contains s
  .all [.prim (.snd fun x => { x with made := x.made.put s (seq + 1) }),
    if m.get .SND_S_HELD s < 2048 then
      .all [.prim (.snd fun x => { x with
          samples := x.samples ++ [{ r with sampler := s, seq := seq % 2 ^ 24, flags := r.flags + (if loss then 256 else 0) }]
          lossy := x.lossy.filter (· != s) }),
        .inc .SND_S_HELD s 1]
    else .all [.inc .SND_S_LOST s 1, .prim (.snd fun x => { x with lossy := s :: x.lossy.filter (· != s) })]]

/-- A response that no sampler can name, of a bell line: its count and its latency (R387). -/
def responded (ld : Nat) : Act := .free fun lat => .read fun m =>
  let h := m.headOf ld
  .all [event (.host (h / 4)) 0x2B (h % 4) 1, event (.host (h / 4)) 0x2C (h % 4) (lat.toNat % 2 ^ 32)]

/-- The latency of a response is measured, not computed: a free value (log entry 4). It goes to the counters of code 0x2C and
to the samplers: of the requests a sampler selects every 2^n-th is taken, and kept when its latency is at least the floor
(R387, R394). -/
def sample (ld op tier line atoll flags start : Nat) : Act := .free fun lat => .read fun m =>
  let l := lat.toNat % 2 ^ 32
  let h := m.headOf ld
  .all [event (.host (h / 4)) 0x2B (h % 4) 1, event (.host (h / 4)) 0x2C (h % 4) l,
    .each ((m.idxs .SND_S_EN).filter fun s => m.selects s ld op) fun s => .read fun m' =>
      let c := (m'.snd.selected.find? s).getD 0 + 1
      .all [.prim (.snd fun x => { x with selected := x.selected.put s c }),
        .when (decide (c % 2 ^ m'.get .SND_S_LOG2 s = 0 ∧ m'.get .SND_S_MINLAT s ≤ l))
          (stage s { time := start, head := h, ld := ld, op := op, tier := tier, lat := l, line := line, atoll := atoll,
                     flags := flags, sampler := s, seq := 0 })]]

/-! ### Random tagging (R395) -/

/-- Draw an offset for each stage of a tagged operation: the times are measured (log entry 4). -/
def tagStages (l : List Nat) (f : List (Nat × Nat) → Act) : Act :=
  match l with
  | [] => f []
  | c :: cs => .free fun t => tagStages cs fun rest => f ((c, t.toNat % 2 ^ 32) :: rest)

/-- One operation of an engine master: one in 2^n is tagged, and its record staged or lost (R395). Every 2^n-th one is taken
(log entry 17). -/
def tagOp (master kind addr atoll flags : Nat) (stages : List Nat) : Act := .read fun m =>
  let c := (m.snd.ops.find? master).getD 0 + 1
  let q := (m.snd.tagged.find? master).getD 0
  .when (decide (64 ≤ master ∧ master ≤ 73) && Bits.bit (m.get .SND_T_EN) (master - 64))
    (.all [.prim (.snd fun x => { x with ops := x.ops.put master c }),
      .when (decide (c % 2 ^ m.get .SND_T_LOG2 = 0))
        (.all [.prim (.snd fun x => { x with tagged := x.tagged.put master (q + 1) }),
          if m.snd.tags.length < 4096 then
            tagStages stages fun st =>
              .prim (.snd fun x => { x with
                tags := x.tags ++ [⟨master, kind, q % 2 ^ 32, m.now, st, addr, atoll, flags + (if x.tagLossy then 2 else 0)⟩]
                tagLossy := false })
          else .all [.inc .SND_T_LOST 0 1, .prim (.snd fun x => { x with tagLossy := true })]])])

end Sys2Proof.Machine
end

