-- ==== Sys2Proof/Machine/GrainSpace.lean ====
section
/-!
DEFINITION. Grain space and the tally (chapter "Grain space, the Dredger and the tally"): plots, stripes, allocation, the
counters of Table 5.5, headroom and the pressure levels.
-/

namespace Sys2Proof.Machine

/-! ### Capacity (R47, R98, R99) -/

/-- Plots of a DIMM: `DRM_D_CAP` × 64 GiB of 256 bytes. -/
def Mach.dimmPlots (m : Mach) (d : Nat) : Nat := m.get .DRM_D_CAP d * 2 ^ 28

/-- DIMMs in service or being retired. -/
def Mach.dimmIn (m : Mach) (d : Nat) : Bool := m.get .DRM_D_STATE d == 1 || m.get .DRM_D_STATE d == 2

/-- Plots of the DIMMs in service. -/
def Mach.installedPlots (m : Mach) : Nat :=
  (((List.range m.sled.dimms).filter m.dimmIn).map m.dimmPlots).sum

/-- Quarantined plots of every home. -/
def Mach.quarPlots (m : Mach) : Nat := ((List.range m.sled.homes).map fun h => m.get .GRN_QUAR h).sum

/-- Raw capacity in plots: DIMMs in service, less plots in quarantine, where those that left with a retired DIMM count once
(R47). -/
def Mach.rawPlots (m : Mach) : Nat := m.installedPlots - (m.quarPlots - (m.chan.gone.map (·.2)).sum)

/-- Plots of one channel's DIMMs in service. -/
def Mach.chanPlots (m : Mach) (c : Nat) : Nat :=
  (((List.range 2).filter fun j => m.dimmIn (2 * c + j)).map fun j => m.dimmPlots (2 * c + j)).sum

/-- A channel is present and not retired: some DIMM of it is in service (R44). -/
def Mach.chanAlive (m : Mach) (c : Nat) : Bool := c < m.sled.chans && decide (m.chanPlots c ≠ 0)

/-- A stripe of the holding pool, whose blocks hold no extent of this sled's own pages (R290). -/
def Mach.inPool (m : Mach) (s : Nat) : Bool := m.arc.poolStripes.any fun g => g.2.contains s

/-- The home that owns a stripe: stripe s starts at home s mod 32 or s mod 16, and a transfer changes it (R99, R100). -/
def Mach.stripeHome (m : Mach) (s : Nat) : Nat := (m.grain.stripes.find? s).getD (s % m.sled.homes)

/-- The home that places its pages in a stripe: its owner, and none for a stripe of the holding pool. -/
def Mach.stripeOwner (m : Mach) (s : Nat) : Nat := if m.inPool s then 64 else m.stripeHome s

/-- Whether a block exists. -/
def Mach.blockExists (m : Mach) (b : Nat) : Bool := b / 512 < m.grain.stripeCount

/-- Owner of a block. -/
def Mach.blockOwner (m : Mach) (b : Nat) : Nat := m.stripeOwner (b / 512)

/-! ### Media addresses (R328) -/

/-- The lowest set bit of a mask: its base bit. -/
def baseBit (x : Nat) : Nat := ((List.range 64).find? (Bits.bit x ·)).getD 64

/-- Masks in use: the channel masks, three bank-group masks and two bank masks. -/
def Mach.masks (m : Mach) : List Nat :=
  ((List.range m.chanBits) ++ [4, 5, 6, 7, 8]).map fun i => m.get .DRM_MAP i

/-- GA bits 8 to 39 that are not base bits, in increasing order. -/
def Mach.freeBits (m : Mach) : List Nat :=
  let bs := m.masks.map baseBit
  ((List.range 40).drop 8).filter fun b => !bs.contains b

/-- The number whose bits are some bits of another, lowest first. -/
def gather (a : Nat) (bs : List Nat) : Nat :=
  bs.foldr (fun b acc => Bits.field a b 1 + 2 * acc) 0

/-- Bits that number the logical ranks of a channel. -/
def Mach.rankBits (m : Mach) (c : Nat) : Nat := Nat.log2 (max 1 (m.get .DRM_C_RANKS c))

/-- A media address (R328). -/
structure Media where
  chan : Nat
  group : Nat
  bank : Nat
  rank : Nat
  row : Nat
  col : Nat
  deriving DecidableEq, Repr

/-- The media address of a grain address. -/
def Mach.media (m : Mach) (ga : Nat) : Media :=
  let c := m.chanOf ga
  let f := m.freeBits
  let par := fun (l : List Nat) => (l.foldr (fun i acc => Bits.parity (ga &&& m.get .DRM_MAP i) 40 + 2 * acc) 0)
  { chan := c, group := par [4, 5, 6], bank := par [7, 8], rank := gather ga ((f.drop 2).take (m.rankBits c)),
    row := gather ga (f.drop (2 + m.rankBits c)), col := ga % 256 + 256 * gather ga (f.take 2) }

/-- The DIMM slot that holds a grain: the upper half of a channel's ranks lies in its second slot when both are fitted. -/
def Mach.dimmOf (m : Mach) (ga : Nat) : Nat :=
  let c := m.chanOf ga
  let both := m.get .DRM_D_STATE (2 * c) != 0 && m.get .DRM_D_STATE (2 * c + 1) != 0
  let hi := decide (m.get .DRM_C_RANKS c ≤ 2 * (m.media ga).rank)
  if both then 2 * c + Bits.ofBool hi
  else if m.get .DRM_D_STATE (2 * c) != 0 then 2 * c else 2 * c + 1

/-! ### Blocks that take nothing new (R300, R333, R337) -/

/-- A grain address with one bit turned over and, for each mask that this bit belongs to, its base bit too: channel, bank group and
bank stay as they are. -/
def Mach.turned (m : Mach) (ga bit : Nat) : Nat :=
  m.masks.foldl (fun g x => if Bits.bit x bit then g ^^^ 2 ^ baseBit x else g) (ga ^^^ 2 ^ bit)

/-- The four blocks of a block's row: they differ in the two free bits of the column (R328, R337). -/
def Mach.rowBlocks (m : Mach) (b : Nat) : List Nat :=
  let f0 := m.freeBits.getD 0 8
  let f1 := m.freeBits.getD 1 9
  let g := 256 * b
  [g, m.turned g f0, m.turned g f1, m.turned (m.turned g f0) f1].map (· / 256)

/-- The name of a row: its lowest block. -/
def Mach.rowKey (m : Mach) (b : Nat) : Nat := (m.rowBlocks b).foldl min b

/-- A block lies on a DIMM that is being retired, is retired or is held retired. -/
def Mach.leaving (m : Mach) (b : Nat) : Bool :=
  ((List.range m.sled.dimms).any fun d => [2, 3, 5].contains (m.get .DRM_D_STATE d))
    && [2, 3, 5].contains (m.get .DRM_D_STATE (m.dimmOf (256 * b)))

/-- A block takes no new extent: its DIMM is leaving, or its row is closed for repair. -/
def Mach.blockClosed (m : Mach) (b : Nat) : Bool := m.leaving b || m.chan.closed.any (· == m.rowKey b)

/-! ### Structural metadata and working blocks (R101, R478) -/

/-- Stripes a home owns at initialisation. -/
def startStripes (homes count h : Nat) : Nat := count / homes + (if h < count % homes then 1 else 0)

/-- Plots of structural metadata of a home, given the stripes and the largest presented total in bytes (R478). Each part is
rounded up to whole plots. -/
def structOf (sl : Sled) (count raw h : Nat) : Nat :=
  let plots := startStripes sl.homes count h * 8192
  let share := min (2 * raw) (sl.presented * 2 ^ 21) / sl.homes
  Bits.ceilDiv plots 1024 + 16 + Bits.ceilDiv (share / 262144 * 8 + share / 32768 * 8) 256
    + (if h = 0 then Bits.ceilDiv count 256 + 8192 + 16 else 0)

/-- Blocks of a home's share at initialisation that structural metadata does not reach: it fills the last plots of the
share (log entry 11). -/
def Mach.plotLimit (m : Mach) (h : Nat) : Nat :=
  startStripes m.sled.homes m.grain.stripeCount h * 8192 - m.grain.structPlots.getD h 0

/-- The allocation map word of a block at initialisation: its plots beyond the home's limit hold structural metadata. -/
def Mach.plotDefault (m : Mach) (b : Nat) : Nat :=
  let h := b / 512 % m.sled.homes
  let o := (b / 512 / m.sled.homes * 512 + b % 512) * 16
  ((List.range 16).map fun j => if m.plotLimit h ≤ o + j then 2 * 4 ^ j else 0).sum

/-- The allocation map word of a block: two bits a plot (R101, Table 5.5). -/
def Mach.plotWord (m : Mach) (b : Nat) : Nat := (m.grain.plots.find? b).getD (m.plotDefault b)

/-- The state of a plot: 0 free, 1 data, 2 metadata, 3 quarantined (Table 5.5). An unused plot of a DIMM that is leaving counts
as quarantined (R333, R339). -/
def Mach.plotState (m : Mach) (p : Nat) : Nat :=
  let st := Bits.field (m.plotWord (p / 16)) (2 * (p % 16)) 2
  if st = 0 ∧ m.leaving (p / 16) then 3 else st

/-- Free plots in a block. -/
def freeIn (w : Nat) : Nat := ((List.range 16).filter fun j => Bits.field w (2 * j) 2 == 0).length

/-- Plots of the Dredger reserve: 0.5% of raw capacity (R47). -/
def Mach.reservePlots (m : Mach) : Nat := m.rawPlots * 5 / 1000

/-- Plots of working blocks that a home keeps: what structural metadata leaves of the reserve, in proportion to the home's
total, in whole blocks (R101). -/
def Mach.workPlots (m : Mach) (h : Nat) : Nat :=
  let all := ((List.range m.sled.homes).map fun i => m.get .GRN_TOTAL i).sum
  let w := m.reservePlots - m.grain.structPlots.sum
  if all = 0 then 0 else w * m.get .GRN_TOTAL h / all / 16 * 16

/-- Blocks of a home that hold a plot which is not free, other than by structural metadata. -/
def Mach.usedBlocks (m : Mach) (h : Nat) : Nat :=
  (m.grain.plots.filter fun p => m.blockOwner p.1 == h && p.2 != 0 && m.plotDefault p.1 == 0).length

/-- Wholly free blocks of a home that were lost with DIMMs: its quarantined plots outside the blocks that the map lists. -/
def Mach.lostBlocks (m : Mach) (h : Nat) : Nat :=
  let listed := ((m.grain.plots.filter fun p => m.blockOwner p.1 == h).map fun p =>
    ((List.range 16).filter fun j => m.plotState (16 * p.1 + j) == 3).length).sum
  (m.get .GRN_QUAR h - listed) / 16

/-- Wholly free blocks of a home. -/
def Mach.freeBlocks (m : Mach) (h : Nat) : Nat :=
  (m.get .GRN_TOTAL h - m.grain.structPlots.getD h 0) / 16 - 2560 * (m.arc.poolStripes.filter fun g => g.1 == h).length
    - m.usedBlocks h - m.lostBlocks h

/-! ### Allocation (R104, R105) -/

/-- The smallest power of two at or above n, for n up to 16 (R104). -/
def windowOf (n : Nat) : Nat := if n ≤ 1 then 1 else if n ≤ 2 then 2 else if n ≤ 4 then 4 else if n ≤ 8 then 8 else 16

/-- The first aligned window of a block whose first n plots are free (R104). -/
def windowIn (w n : Nat) : Option Nat :=
  ((List.range (16 / windowOf n)).map (· * windowOf n)).find? fun o =>
    (List.range n).all fun j => Bits.field w (2 * (o + j)) 2 == 0

/-- The first number from k upward, within a count, that meets a test. -/
def findFrom (p : Nat → Bool) : Nat → Nat → Option Nat
  | 0, _ => none
  | fuel + 1, k => if p k then some k else findFrom p fuel (k + 1)

/-- Blocks of a home on a channel that are partly used: listed in the map, or where structural metadata ends. -/
def Mach.partBlocks (m : Mach) (h c : Nat) : List Nat :=
  let listed := (m.grain.plots.filter fun p => p.2 != 0).map (·.1)
  let edge := m.plotLimit h / 16
  let eb := (edge / 512 * m.sled.homes + h) * 512 + edge % 512
  ((eb :: listed).dedup).filter fun b =>
    m.blockExists b && m.blockOwner b == h && m.chanOf (b * 256) == c && m.plotWord b != 0
      && !m.blockClosed b

/-- The best of the partly used blocks for n plots: fewest free plots, then lowest GA. -/
def Mach.bestPart (m : Mach) (h c n : Nat) : Option Nat :=
  let cs := (m.partBlocks h c).filterMap fun b =>
    (windowIn (m.plotWord b) n).map fun o => (freeIn (m.plotWord b), b * 16 + o)
  (cs.foldl (fun (best : Option (Nat × Nat)) x =>
    match best with
    | none => some x
    | some y => if x.1 < y.1 ∨ (x.1 = y.1 ∧ x.2 < y.2) then some x else best) none).map (·.2)

/-- The lowest wholly free block of a home on a channel. -/
def Mach.lowestFree (m : Mach) (h c : Nat) : Option Nat :=
  let owned := fun b => m.blockOwner b == h && m.plotWord b == 0 && m.chanOf (b * 256) == c && !m.blockClosed b
  findFrom owned (m.grain.stripeCount * 512) 0

/-- Where an extent of n plots goes, as a plot number: the channels of the set from the (k mod c)-th, and then a working
block (R105). Channels that are not in service are passed over. -/
def Mach.placeExtent (m : Mach) (h n k : Nat) (set : List Nat) : Option Nat :=
  let live := set.filter fun c => m.chanAlive c && m.flag .DRM_C_INSERVICE c
  let start := if live.length = 0 then 0 else k % live.length
  let order := live.drop start ++ live.take start
  let spare := decide (m.workPlots h / 16 < m.freeBlocks h)
  let normal := order.findSome? fun c =>
    match m.bestPart h c n with
    | some p => some p
    | none => if spare then (m.lowestFree h c).map (· * 16) else none
  match normal with
  | some p => some p
  | none =>
    ((order.filterMap (m.lowestFree h)).foldl (fun (b : Option Nat) x =>
      match b with | none => some x | some y => some (min x y)) none).map (· * 16)

/-! ### The tally (R110, R111, R114) -/

/-- The counter of a plot state. -/
def plotField : Nat → Fld
  | 0 => .GRN_FREE
  | 1 => .GRN_ALLOCATED
  | 2 => .GRN_META
  | _ => .GRN_QUAR

/-- Put n plots from p onward, all in one block, in a state. -/
def setPlotWord (w o n st : Nat) : Nat := (List.range n).foldl (fun w j => Bits.setField w (2 * (o + j)) 2 st) w

/-- Blocks of a home whose plots hold structural metadata at initialisation. -/
def Mach.structBlocks (m : Mach) (h : Nat) : List Nat :=
  let top := startStripes m.sled.homes m.grain.stripeCount h * 512
  let o := m.plotLimit h / 16
  (List.range (top - o)).map fun j => ((o + j) / 512 * m.sled.homes + h) * 512 + (o + j) % 512

/-- Plots of structural metadata in a block, where it lay at initialisation. -/
def Mach.structIn (m : Mach) (b : Nat) : List Nat :=
  (List.range 16).filter fun j => Bits.field (m.plotWord b) (2 * j) 2 == 2 && Bits.field (m.plotDefault b) (2 * j) 2 == 2

/-- Plots left on a DIMM to evacuate: data plots, record and tag blocks, and structural metadata (R300, R339). -/
def Mach.dimmLeft (m : Mach) (d : Nat) : Nat :=
  let here := fun (b : Nat) => m.dimmOf (256 * b) == d
  let struct := (((List.range m.sled.homes).flatMap m.structBlocks).filter here).map fun b => (m.structIn b).length
  let data := (m.grain.plots.filter fun p => here p.1).map fun p =>
    ((List.range 16).filter fun j => Bits.field p.2 (2 * j) 2 == 1).length
  let maps := (m.grain.recMap ++ m.grain.tagMap).filter fun p => here (p.2 % 2 ^ 32)
  data.sum + 16 * maps.length + struct.sum

/-- `DRM_D_LEFT` and `ARC_EVAC_LEFT` follow the plots left on the DIMMs being retired (R339). -/
def leftUpdate : Act := .read fun m =>
  .each ((List.range m.sled.dimms).filter fun d => m.get .DRM_D_STATE d == 2) fun d =>
    .all [.set .DRM_D_LEFT d (m.dimmLeft d), .when (m.chan.evac == some d) (.set .ARC_EVAC_LEFT 0 (m.dimmLeft d))]

/-- A block that has reported an uncorrectable error to the scrubber is quarantined once it holds no extent, with its record
(R113). -/
def quarEmpty (h b : Nat) : Act := .read fun m =>
  let w := m.plotWord b
  let free := (List.range 16).filter fun j => m.plotState (16 * b + j) == 0
  let used := (List.range 16).any fun j => Bits.field w (2 * j) 2 == 1 || Bits.field w (2 * j) 2 == 2
  .when (m.grain.quarBlocks.contains b && !used && !free.isEmpty)
    (.all [.prim (.grain fun g => { g with plots := g.plots.set b (m.plotDefault b) (free.foldl (fun w j => Bits.setField w (2 * j) 2 3) w) }),
      .set .GRN_FREE h (m.get .GRN_FREE h - free.length), .inc .GRN_QUAR h free.length,
      lhLog 0 0x0011 (256 * b) (free.length + 2 ^ 65)])

/-- Change the state of n plots of one home from `src` to `dst`. A change that finds a plot in another state is not applied,
and the tally-violation source is raised (R111). A plot given up on a DIMM that is leaving is quarantined (R339). -/
def movePlots (h p n src dst : Nat) : Act := .read fun m =>
  let dst' := if dst = 0 ∧ m.leaving (p / 16) then 3 else dst
  if (List.range n).all (fun j => m.plotState (p + j) == src) then
    .all [.prim (.grain fun g =>
        { g with plots := g.plots.set (p / 16) (m.plotDefault (p / 16)) (setPlotWord (m.plotWord (p / 16)) (p % 16) n dst) }),
      .set (plotField src) h (m.get (plotField src) h - n), .inc (plotField dst') h n, quarEmpty h (p / 16),
      leftUpdate]
  else raiseIslet h 3 0

/-- Structural metadata of a block moves by block copy to the lowest free place of its home (R300). -/
def structMove (h b : Nat) : Act := .read fun m =>
  let l := m.structIn b
  .when (!l.isEmpty)
    (.some? (m.placeExtent h l.length 0 (List.range m.sled.chans)) fun p =>
      .all [movePlots h p l.length 0 2, .each l fun j => movePlots h (16 * b + j) 1 2 0])

/-- Structural metadata leaves the blocks that take nothing new: of a DIMM being retired, or of a row under repair. -/
def structLeave : Act := .read fun m =>
  .when (!m.chan.closed.isEmpty || (List.range m.sled.dimms).any fun d => m.get .DRM_D_STATE d == 2)
    (.each (List.range m.sled.homes) fun h => .each ((m.structBlocks h).filter m.blockClosed) fun b => structMove h b)

/-- The reservation of an atoll in plots: R46. -/
def Mach.reservation (m : Mach) (n : Nat) : Nat :=
  let size := m.get .ATL_SIZE n * 8192
  if m.isBell n || m.isRemote n then 0
  else (if m.isElastic n then size / 64 else size + size / 64) + (if m.hasTags n then size / 8 else 0)

/-- The map keys of an atoll's record and tag blocks in a home: atoll, home and entry number. -/
def mapKey (n h e : Nat) : Nat := (n * 64 + h) * 2 ^ 32 + e

/-- The record or tag blocks that an atoll holds in a home. -/
def mapCount (mp : SMap Nat) (n h : Nat) : Nat := (mp.filter fun p => p.1 / 2 ^ 32 == n * 64 + h).length

/-- Metadata plots that an atoll holds in a home (R114). -/
def Mach.metaHeld (m : Mach) (n h : Nat) : Nat :=
  16 * (mapCount m.grain.recMap n h + mapCount m.grain.tagMap n h)

/-- Pages of an atoll that a home has listed. -/
def Mach.homePages (m : Mach) (n h : Nat) : List (Nat × PageSt) :=
  m.pages.filter fun p => m.inAtoll n p.1 && homeIndex m.sled p.1 == h

/-- Data plots that an atoll holds in a home. -/
def Mach.dataHeld (m : Mach) (n h : Nat) : Nat := ((m.homePages n h).map fun p => p.2.rcd.alloc).sum

/-- What a home owes: R114. -/
def Mach.owedOf (m : Mach) (h : Nat) : Nat :=
  ((m.atolls.filter fun n => m.get .ATL_STATE n != atlBuilding && !m.isBell n).map fun n =>
    let r := m.reservation n / m.sled.homes
    if m.isElastic n then r - m.metaHeld n h else r - (m.metaHeld n h + m.dataHeld n h)).sum

/-- The headroom of a home, never below 0 (R114). -/
def Mach.headroom (m : Mach) (h : Nat) : Nat := m.get .GRN_FREE h - m.owedOf h - m.workPlots h

/-- The sled's headroom. -/
def Mach.headroomAll (m : Mach) : Nat := ((List.range m.sled.homes).map m.headroom).sum

/-- A watermark in 0.01% of raw capacity, scaled to a home by its share, in plots (R115). -/
def Mach.watermark (m : Mach) (bp h : Nat) : Nat := bp * m.get .GRN_TOTAL h / 10000

/-- The level that a home's headroom calls for (R115): 0 Calm, 1 Swell, 2 Surge, 3 Flood. -/
def Mach.levelFor (m : Mach) (h : Nat) : Nat :=
  let x := m.headroom h
  if x < m.watermark (m.get .GRN_FLOOR_BP) h then 3
  else if x < m.watermark (m.get .GRN_WM_MID_BP) h then 2
  else if x < m.watermark (m.get .GRN_WM_HIGH_BP) h then 1
  else 0

/-- The level to which a home may fall after hysteresis: the lowest whose exit watermark, plus the hysteresis, H meets
(R115). -/
def Mach.levelAfter (m : Mach) (h : Nat) : Nat :=
  let x := m.headroom h
  let hy := m.watermark (m.get .GRN_WM_HYST_BP) h
  if x < m.watermark (m.get .GRN_FLOOR_BP) h + hy then 3
  else if x < m.watermark (m.get .GRN_WM_MID_BP) h + hy then 2
  else if x < m.watermark (m.get .GRN_WM_HIGH_BP) h + hy then 1
  else 0

/-- The highest level of any home (R115). -/
def Mach.maxLevel (m : Mach) : Nat := ((List.range m.sled.homes).map fun h => m.get .GRN_HOME_LEVEL h).foldl max 0

/-- The sled's level follows its homes; each change is recorded and counted, and a return to Calm cancels the release
deadlines (R115, R116, Table 5.6). -/
def levelUpdate : Act := .read fun m =>
  let old := m.get .GRN_LEVEL
  let new := m.maxLevel
  .when (old != new)
    (.all [.set .GRN_LEVEL 0 new, .inc .GRN_LEVEL_CHANGES 0 1,
      lhLog 0 0x0010 (old + 256 * new) m.headroomAll,
      evAdd ownMgmt .info .level [old, new, m.headroomAll],
      .when (new == 0)
        (.all [.prim (.host fun h => { h with extents := h.extents.map fun e =>
            if e.revoked then e else { e with requested := false, deadline := 0 } }),
          .set .GRN_RELEASE_OUT 0 0,
          .prim (.grain fun g => { g with pushStage := [] })])])

/-- The tally of a home after a change: what it owes, the sled's headroom, and a level that is entered (R114, R115). -/
def tallyUpdate (h : Nat) : Act := .read fun m =>
  .all [.set .GRN_OWED h (m.owedOf h), .set .GRN_HEADROOM 0 m.headroomAll,
    .when (decide (m.get .GRN_HOME_LEVEL h < m.levelFor h)) (.set .GRN_HOME_LEVEL h (m.levelFor h)),
    levelUpdate]

/-- Every home's tally. -/
def tallyAll : Act := .read fun m => .each (List.range m.sled.homes) tallyUpdate

/-! ### Extents -/

/-- Free the extent at a grain address, at once. -/
def freeExtent (h ga n : Nat) : Act := .when (decide (n ≠ 0)) (.all [movePlots h (ga / 16) n 1 0, tallyUpdate h])

/-- The old extent of a move waits until the reads issued to it have returned, and is then freed (R107). -/
def retireExtent (h ga n : Nat) : Act := .read fun m =>
  let rs := (m.lines.accs.filter fun a => a.issued && ga ≤ a.ga && a.ga < ga + 16 * n).map (·.id)
  .when (decide (n ≠ 0))
    (.prim (.grain fun g => { g with olds := g.olds ++ [⟨h, ga, n, rs⟩] }))

/-- OLD_PLOTS_FREE: the extents whose reads have returned are freed and the tally updated (R107). -/
def oldPlotsFree : Act := .read fun m =>
  let pend := fun (e : OldExt) => e.waitFor.any fun i => m.lines.accs.any fun a => a.id == i
  .all [.prim (.grain fun g => { g with olds := m.grain.olds.filter pend }),
    .each (m.grain.olds.filter fun e => !pend e) fun e => freeExtent e.home e.base e.plots]

/-- LEVEL_LEAVE: a home whose headroom has held above its watermark plus the hysteresis for 100 ms falls toward Calm
(R115). -/
def levelLeave (h : Nat) : Act := .read fun m =>
  .when (decide (h < m.sled.homes ∧ m.levelAfter h < m.get .GRN_HOME_LEVEL h))
    (.all [.set .GRN_HOME_LEVEL h (m.levelAfter h), levelUpdate])

/-- STRIPE_TRANSFER: the home with the largest headroom share gives a wholly free stripe to the first home below its mid
watermark, when the giver stands above its high watermark (R100). -/
def stripeTransfer : Act := .read fun m =>
  let hs := List.range m.sled.homes
  let short := hs.find? fun h => m.headroom h < m.watermark (m.get .GRN_WM_MID_BP) h
  let giver := hs.foldl (fun g h => if m.headroom g < m.headroom h then h else g) 0
  match short with
  | none => .skip
  | some r =>
    let free := findFrom (fun s => m.stripeOwner s == giver && (List.range 512).all fun j => m.plotWord (s * 512 + j) == 0)
      m.grain.stripeCount 0
    match free with
    | none => .skip
    | some s =>
      .when (giver != r && decide (m.watermark (m.get .GRN_WM_HIGH_BP) giver < m.headroom giver))
        (.all [.prim (.grain fun g => { g with stripes := g.stripes.set s (s % m.sled.homes) r }),
          .set .GRN_FREE giver (m.get .GRN_FREE giver - 8192), .set .GRN_TOTAL giver (m.get .GRN_TOTAL giver - 8192),
          .set .GRN_STRIPES giver (m.get .GRN_STRIPES giver - 1),
          .inc .GRN_FREE r 8192, .inc .GRN_TOTAL r 8192, .inc .GRN_STRIPES r 1,
          tallyUpdate giver, tallyUpdate r])

/-! ### Meanings -/

/-- OLD_PLOTS_FREE (R107). -/
def execOldPlotsFree (s : State) : Host.Outcome State Fault Refusal := s.act oldPlotsFree

/-- LEVEL_LEAVE (R115). -/
def execLevelLeave (h : Nat) (s : State) : Host.Outcome State Fault Refusal := s.act (levelLeave h)

/-- STRIPE_TRANSFER (R100). -/
def execStripeTransfer (s : State) : Host.Outcome State Fault Refusal := s.act stripeTransfer

end Sys2Proof.Machine
end

