-- ==== Sys2Proof/Machine/Sealing.lean ====
section
/-!
DEFINITION. Sealing (chapter "Sealing, integrity and the Tideline"): the key choice rule, line mode, tags, sector mode and
image tags; how lines are read from and written to their page's storage; poisoned lines.
-/

namespace Sys2Proof.Machine

/-! ### Keys and the key choice rule (R44, R150, R163) -/

/-- The rotation slot of an atoll. -/
def Mach.rotSlot (m : Mach) (n : Nat) : Option Nat :=
  (List.range 8).find? fun s => m.get .TDL_SLOT_STATE s != 0 && m.get .TDL_SLOT_ATOLL s == n

/-- A page is sealed under the next keys: its relative number r is below the tideline b, or bit r − b of the window is 1
(R163). -/
def Mach.useNext (m : Mach) (n pn : Nat) : Bool :=
  match m.rotSlot n with
  | none => false
  | some s =>
    let r := pn - m.atollPage n
    let b := m.get .TDL_SLOT_LINE s
    (m.get .ATL_TDL_STATE n == 1 || m.get .ATL_TDL_STATE n == 2)
      && (r < b || (r - b < 64 && Bits.bit (m.get .TDL_SLOT_WINDOW s) (r - b)))

/-- Data-key material of an atoll: current or next. -/
def Mach.dataKey (m : Mach) (n : Nat) (nx : Bool) : List Byte :=
  (m.keys.data.find? (m.get (if nx then .ATL_KEY_NEXT else .ATL_KEY_CUR) n)).getD (List.replicate 64 0)

/-- Integrity-key material of an atoll: current or next. -/
def Mach.intKey (m : Mach) (n : Nat) (nx : Bool) : List Byte :=
  (m.keys.integ.find? (m.get (if nx then .ATL_IKEY_NEXT else .ATL_IKEY_CUR) n)).getD (List.replicate 32 0)

/-- The key check value of material: the first 8 bytes of AES-256 of the zero block under its first 256 bits (R147). -/
def kcvOf (key : List Byte) : List Nat := (Crypto.aes (Crypto.nats (key.take 32)) (List.replicate 16 0)).take 8

/-! ### Line mode (R149, Table 7.4) -/

/-- The line-mode tweak (Table 7.4). -/
def lineTweak (n pn i epoch ctr : Nat) : Nat :=
  n % 2 ^ 12 + pn % 2 ^ 33 * 2 ^ 12 + i % 64 * 2 ^ 45 + epoch % 2 ^ 32 * 2 ^ 51 + ctr % 2 ^ 16 * 2 ^ 83

/-- Seal the stored grains of a line; a line of an atoll with Sealing None, or with no grains, is stored as it is
(R149). -/
def Mach.sealLine (m : Mach) (n pn i epoch ctr : Nat) (nx : Bool) (bs : List Byte) : List Byte :=
  if m.isSealed n && !bs.isEmpty then
    Crypto.xtsEnc (m.dataKey n nx) (lineTweak n pn i epoch (if m.hasTags n then ctr else 0)) bs
  else bs

/-- Unseal the stored grains of a line (R149). -/
def Mach.unsealLine (m : Mach) (n pn i epoch ctr : Nat) (nx : Bool) (bs : List Byte) : List Byte :=
  if m.isSealed n && !bs.isEmpty then
    Crypto.xtsDec (m.dataKey n nx) (lineTweak n pn i epoch (if m.hasTags n then ctr else 0)) bs
  else bs

/-! ### Integrity tags (R151, Table 7.5) -/

/-- The line-tag IV (Table 7.5). -/
def tagIv (pn i epoch ctr : Nat) (p : Bool) : Nat :=
  pn % 2 ^ 33 + i % 64 * 2 ^ 33 + epoch % 2 ^ 32 * 2 ^ 39 + ctr % 2 ^ 16 * 2 ^ 71 + Bits.ofBool p * 2 ^ 87

/-- The tag entry of a line: 48 bits of tag, then the write counter (R151). -/
def Mach.tagEntry (m : Mach) (n pn i epoch ctr : Nat) (nx : Bool) (code : Nat) (cipher : List Byte) : Nat :=
  let key := Crypto.kdf (Crypto.nats (m.intKey n nx)) (Crypto.ascii "DFD-LTAG") (Crypto.leList 8 (m.get .ID_IDENT)) 256
  let aad := List.flatten [Crypto.leList 16 (lineTweak n pn i epoch ctr), [code % 8], List.replicate 15 0, Crypto.nats cipher]
  let t := Crypto.gmac key (Crypto.leList 12 (tagIv pn i epoch ctr (code == 7))) aad
  Crypto.leNatL (t.take 6) + ctr % 2 ^ 16 * 2 ^ 48

/-- The write counter of line i of a page (R151). -/
def PageSt.ctr (p : PageSt) (i : Nat) : Nat := p.tags.getD i 0 / 2 ^ 48 % 2 ^ 16

/-! ### Where a line is stored (R83, R84, R102) -/

/-- First grain and grain count of line i of a page with an extent. -/
def lineGrains (r : PageRec) (i : Nat) : Nat × Nat :=
  match r.tier with
  | .shallows => (r.base + 4 * i, 4)
  | _ => (r.base + grainOffset r.size i, grainsOf (r.size.getD i 0))

/-- The bytes of line i as they lie in DRAM. -/
def Mach.cipherOf (m : Mach) (r : PageRec) (i : Nat) : List Byte :=
  if r.alloc = 0 then [] else Dram.read m.dram (16 * (lineGrains r i).1) (16 * (lineGrains r i).2)

/-- What reading a stored line gives: a value, poison, or an error of R59. -/
inductive LineRead where
  | val (l : Line)
  | poison
  | decodeErr
  | tagErr
  deriving DecidableEq, Repr

/-- The tag of line i matches what is stored (R153). -/
def Mach.tagOk (m : Mach) (n pn i : Nat) : Bool :=
  let p := m.page pn
  !m.hasTags n || p.tags.isEmpty ||
    p.tags.getD i 0 == m.tagEntry n pn i p.rcd.epoch (p.ctr i) (m.useNext n pn) (p.rcd.size.getD i 0) (m.cipherOf p.rcd i)

/-- Read line j's own grains: unseal, check the tag, decode (R57 step 9). -/
def Mach.ownLine (m : Mach) (n pn j : Nat) : LineRead :=
  let p := m.page pn
  let code := match p.rcd.tier with | .shallows => 4 | _ => p.rcd.size.getD j 0
  let bs := m.unsealLine n pn j p.rcd.epoch (p.ctr j) (m.useNext n pn) (m.cipherOf p.rcd j)
  if !m.tagOk n pn j then .tagErr
  else match slotLine code bs with
    | some l => .val l
    | none => .decodeErr

/-- Read line i of a local page from its storage (R57, R58, R84, R90). -/
def Mach.storedLine (m : Mach) (n pn i : Nat) : LineRead :=
  let r := (m.page pn).rcd
  let code := r.size.getD i 0
  if code = 7 then .poison
  else if r.alloc = 0 then .val 0
  else match r.tier with
    | .shallows => m.ownLine n pn i
    | _ =>
      if code = 0 then .val 0
      else
        let j := chainEnd r.size i
        match r.size.getD j 0 with
        | 5 => .decodeErr
        | 7 => .decodeErr
        | 0 => .val 0
        | _ => m.ownLine n pn j

/-- A stored line as a value; every error reads as poison (R59). -/
def LineRead.value : LineRead → LineVal
  | .val l => some l
  | _ => none

/-- The 64 lines of a local page as stored. -/
def Mach.storedPage (m : Mach) (n pn : Nat) : List LineVal :=
  (List.range 64).map fun i => (m.storedLine n pn i).value

/-- A page has ended its EPOCHs on a sealed atoll (R156). -/
def Mach.epochEnd (m : Mach) (n pn : Nat) : Bool := m.isSealed n && decide (0xFFFFFFFF ≤ (m.page pn).rcd.epoch)

/-- The next EPOCH; it wraps on an atoll with Sealing None (R154, R156). -/
def nextEpoch (e : Nat) : Nat := (e + 1) % 2 ^ 32

/-! ### Writing storage -/

/-- The sealed bytes of line i under its code: nothing for codes without grains, raw in Shallows (R64, R84). -/
def Mach.packLine (m : Mach) (n pn i : Nat) (shallows : Bool) (code epoch ctr : Nat) (nx : Bool) (v : LineVal) : List Byte :=
  let plain := if shallows then lineBytes (v.getD 0) else slotBytes code (v.getD 0)
  m.sealLine n pn i epoch ctr nx (if !shallows && grainsOf code == 0 then [] else plain)

/-- The sealed bytes of all 64 lines, in line order. -/
def Mach.packPage (m : Mach) (n pn : Nat) (shallows : Bool) (codes : List Nat) (epoch : Nat) (nx : Bool)
    (ls : List LineVal) : List (List Byte) :=
  (List.range 64).map fun i => m.packLine n pn i shallows (codes.getD i 0) epoch 0 nx (ls.getD i none)

/-- The 64 tag entries of a page, counters 0; none unless the atoll has Line+Integrity (R153). -/
def Mach.packTags (m : Mach) (n pn : Nat) (codes : List Nat) (epoch : Nat) (nx : Bool) (cs : List (List Byte)) : List Nat :=
  if m.hasTags n then
    (List.range 64).map fun i => m.tagEntry n pn i epoch 0 nx (codes.getD i 0) (cs.getD i [])
  else []

/-- Allocate the record or tag block of an entry when it has none: a whole block of the atoll's channel set in the home;
its map entry has `FRESH` set until its first write, which is this one (R102, R103). `tag` chooses the tag map. -/
def needBlock (n pn : Nat) (tag : Bool) : Act := .read fun m =>
  let h := homeIndex m.sled pn
  let k := m.pageK n pn
  let key := mapKey n h (if tag then k / 8 else k / 64)
  let mp := if tag then m.grain.tagMap else m.grain.recMap
  match mp.find? key with
  | some _ => .skip
  | none =>
    match m.placeExtent h 16 k (m.chanSet n) with
    | none => .skip
    | some p =>
      .all [movePlots h p 16 0 2,
        .prim (.grain fun g =>
          if tag then { g with tagMap := g.tagMap.put key (p / 16) } else { g with recMap := g.recMap.put key (p / 16) }),
        tallyUpdate h]

/-- Replace what the home holds of a page's record and tags. -/
def putPage (pn : Nat) (r : PageRec) (tags : List Nat) : Act := .read fun m =>
  .prim (.page pn { m.withRcd pn r with tags := tags })

/-- Write a whole extent: grains at `ga` in the form of the tier, all 64 tags, and commit the record given (R107, R153,
R154). -/
def writeExtent (n pn ga : Nat) (r : PageRec) (nx : Bool) (ls : List LineVal) : Act := .read fun m =>
  let sh := r.tier == .shallows
  let cs := m.packPage n pn sh r.size r.epoch nx ls
  .all [.when (m.hasTags n) (needBlock n pn true),
    .prim (.poke (16 * ga) cs.flatten), .when (m.isSealed n) (eventAt (homeIndex m.sled pn) 0x05 0 64),
    putPage pn { r with base := if r.alloc = 0 then 0 else ga } (m.packTags n pn r.size r.epoch nx cs)]

/-- Write one line in its slot, its counter raised by 1 on Line+Integrity, and its tag (R64, R154). -/
def writeLine (n pn i code : Nat) (v : Line) : Act := .read fun m =>
  let p := m.page pn
  let r := { p.rcd with size := p.rcd.size.set i code }
  let c := p.ctr i + 1
  let nx := m.useNext n pn
  let bs := m.packLine n pn i (r.tier == .shallows) code r.epoch c nx (some v)
  .all [.when (m.hasTags n) (needBlock n pn true),
    .prim (.poke (16 * (lineGrains r i).1) bs), .when (m.isSealed n) (eventAt (homeIndex m.sled pn) 0x05 0 1),
    putPage pn r (if m.hasTags n then (if p.tags.isEmpty then List.replicate 64 0 else p.tags).set i
        (m.tagEntry n pn i r.epoch c nx code bs) else p.tags)]

/-! ### Poisoned lines (R59, R88, R152, R216) -/

/-- The record, the grains and the tags of a page after some of its lines are marked poisoned. In a Deep page the grains of
later lines move down as ciphertext, and the lines whose code-5 chain ends at a marked line are marked too; `ALLOC` is
unchanged (R88). The tag of each marked line takes P, its counter unchanged (R152). -/
def Mach.poisonPage (m : Mach) (n pn : Nat) (is : List Nat) : PageRec × List Byte × List Nat :=
  let p := m.page pn
  let deep := p.rcd.tier == .deep || p.rcd.tier == .lifting
  let all := if deep then (is ++ is.flatMap (chainOf p.rcd.size)).dedup else is
  let size := (List.range 64).map fun i => if all.contains i then 7 else p.rcd.size.getD i 0
  let bytes := if deep && p.rcd.alloc != 0 then
      ((List.range 64).filter fun i => size.getD i 0 != 7).flatMap fun i => m.cipherOf p.rcd i else []
  let r := { p.rcd with size := size }
  let tags := if m.hasTags n && !p.tags.isEmpty then
      (List.range 64).map fun i =>
        if all.contains i then m.tagEntry n pn i r.epoch (p.ctr i) (m.useNext n pn) 7 [] else p.tags.getD i 0
    else p.tags
  (r, bytes, tags)

/-- A page enters its home's index of poisoned pages, which holds 4,096; a full index keeps the time at which it filled
(R216). -/
def poisonIndex (pn : Nat) : Act := .read fun m =>
  let h := homeIndex m.sled pn
  let n := (m.host.poisoned.filter fun q => homeIndex m.sled q == h).length
  if m.host.poisoned.contains pn then .skip
  else if n < 4096 then
    .all [.prim (.host fun x => { x with poisoned := x.poisoned ++ [pn] }),
      .when (decide (n + 1 = 4096)) (.prim (.host fun x => { x with poisonFull := x.poisonFull.put h m.now }))]
  else .skip

/-- Mark lines of a page poisoned in its storage (R88), list them, and enter a media event for each (R59, R215). -/
def markLines (n pn : Nat) (is : List Nat) (c : PoisonCause) : Act := .read fun m =>
  let fresh := is.filter fun i => (m.page pn).rcd.size.getD i 0 != 7
  let x := m.poisonPage n pn fresh
  .when (!fresh.isEmpty)
    (.all [.when (decide ((m.page pn).rcd.tier ≠ .shallows ∧ (m.page pn).rcd.alloc ≠ 0))
        (.prim (.poke (16 * (m.page pn).rcd.base) x.2.1)),
      putPage pn x.1 x.2.2, poisonIndex pn, eventAt (homeIndex m.sled pn) 0x0B 0 fresh.length,
      .each fresh fun i => mediaEvent n (pn * 64 + i) c])

/-- Mark lines poisoned and raise the Deferred source of class 0x01 for each, with the line's global DPA (R59). -/
def poisonLines (n pn : Nat) (is : List Nat) (c : PoisonCause) (cause : Nat) : Act := .read fun m =>
  .all [markLines n pn is c, .each is fun i => raiseIslet (homeIndex m.sled pn) cause ((pn * 64 + i) * 64)]

/-- A record error: every code 7, Shallows, no extent, `EPOCH` kept; the sweep finds the lost plots (R94). -/
def recordError (n pn : Nat) (c : PoisonCause) : Act := .read fun m =>
  let r := (m.page pn).rcd
  .all [putPage pn { r with size := List.replicate 64 7, tier := .shallows, alloc := 0, base := 0, lock := false,
                            reseal := false } (m.page pn).tags,
    poisonIndex pn,
    .each (List.range 64) fun i => mediaEvent n (pn * 64 + i) c,
    raiseIslet (homeIndex m.sled pn) 2 (pn * 4096)]

/-- An operation that would raise `EPOCH` past its end is not made: counted, with a Deferred source (R156). -/
def epochStop (pn : Nat) : Act := .read fun m =>
  .all [.inc .TDL_EPOCH_STOPS 0 1, raiseIslet (homeIndex m.sled pn) 5 (pn * 4096)]

/-! ### Page records (R92, R96, R158) -/

/-- The plaintext bytes of a record before its MAC: 0 to 55 (Table 4.7). -/
def recordHead (r : PageRec) : List Nat :=
  let tier := match r.tier with | .shallows => 0 | .deep => 1 | .offshore => 2 | .lifting => 3
  let size := ((List.range 64).map fun i => r.size.getD i 0 % 8 * 8 ^ i).sum
  let flags := Bits.ofBool r.pin + 2 * Bits.ofBool r.pushPending + 4 * Bits.ofBool r.recallPending + 8 * Bits.ofBool r.reseal
    + 16 * Bits.ofBool r.mirrorDirty + 32 * (r.pinTier % 2)
  List.flatten [Crypto.leList 5 r.base, [r.alloc % 32 + 32 * tier + 128 * Bits.ofBool r.lock], Crypto.leList 24 size,
    Crypto.leList 4 r.epoch, Crypto.leList 2 (r.count + 1024 * r.stamp), Crypto.leList 2 flags, [r.offPeer % 8],
    Crypto.leList 5 r.offExtent, Crypto.leList 12 r.offTag]

/-- The metadata keys: key 1, key 2 and the CMAC key, derived from the root secret and the grain-space nonce (R145). -/
def Mach.metaKeys (m : Mach) : List Nat :=
  Crypto.kdf (Crypto.leList 32 Config.rootSecret.toNat) (Crypto.ascii "DFD-META") (Crypto.leList 8 m.keys.nonce) 768

/-- `RECORD_MAC`: the first 4 bytes of the CMAC over the record's grain address, bytes 0–55 and bytes 60–63 (R158). -/
def Mach.recordMac (m : Mach) (ga : Nat) (r : PageRec) : List Nat :=
  (Crypto.cmac (m.metaKeys.drop 64) (List.flatten [Crypto.leList 8 ga, recordHead r, List.replicate 4 0])).take 4

/-- A record as it lies in DRAM: 64 bytes sealed under the metadata pair with its grain address as tweak; `LOCK` is 0 there
(R95, R96, R158). -/
def Mach.recordSealed (m : Mach) (ga : Nat) (r : PageRec) : List Byte :=
  let r := { r with lock := false }
  Crypto.xtsEnc (Crypto.bytes (m.metaKeys.take 64)) (ga % 2 ^ 40)
    (Crypto.bytes (List.flatten [recordHead r, m.recordMac ga r, List.replicate 4 0]))

/-- The grain address of a page's record, when its record block is allocated (R102). -/
def Mach.recordGa (m : Mach) (n pn : Nat) : Option Nat :=
  let k := m.pageK n pn
  (m.grain.recMap.find? (mapKey n (homeIndex m.sled pn) (k / 64))).map fun b => b % 2 ^ 32 * 256 + k % 64 * 4

/-- A changed record leaves the metadata cache: its block is allocated if need be, and the sealed record is written (R96,
R103). -/
def writeRecord (n pn : Nat) : Act :=
  .all [needBlock n pn false, .read fun m =>
    match m.recordGa n pn with
    | none => .skip
    | some ga => .all [.prim (.poke (16 * ga) (m.recordSealed ga (m.page pn).rcd)),
        .prim (.page pn { m.page pn with changed := false })]]

/-! ### Sector mode and image tags (R159, R160) -/

/-- The sector-mode tweak (Table 7.9). -/
def sectorTweak (sled n rpage epoch : Nat) : Nat :=
  sled % 8 + n % 2 ^ 12 * 2 ^ 8 + rpage % 2 ^ 33 * 2 ^ 20 + epoch % 2 ^ 32 * 2 ^ 53

/-- The 64-byte image header (Table 7.10). -/
def Image.header (x : Image) : List Nat :=
  List.flatten [Crypto.leList 8 x.ident, Crypto.leList 8 x.nonce, Crypto.leList 8 x.isn,
    [x.sled % 8 + 128 * Bits.ofBool x.tkey], Crypto.leList 2 (x.atoll % 2 ^ 12), [0], Crypto.leList 5 (x.rpage % 2 ^ 33),
    Crypto.leList 4 x.epoch, Crypto.leList 24 (((List.range 64).map fun i => x.size.getD i 0 % 8 * 8 ^ i).sum),
    [x.bytes.length / 512 % 16], [0, 0]]

/-- The image of a header and its sealed bytes (Table 7.10). -/
def Image.parse (h : List Byte) (bytes : List Byte) : Image :=
  let f := fun lo n => Bits.leNat ((h.drop lo).take n)
  { ident := f 0 8, nonce := f 8 8, isn := f 16 8, sled := f 24 1 % 8, tkey := f 24 1 / 128 == 1, atoll := f 25 2 % 2 ^ 12,
    rpage := f 28 5 % 2 ^ 33, epoch := f 33 4, size := (List.range 64).map fun i => Bits.field (f 37 24) (3 * i) 3,
    bytes := bytes }

/-- Material of the transport key: the XTS pair, then the authentication key (R143). -/
def Mach.transportKey (m : Mach) : List Byte := m.keys.transport.getD (List.replicate 96 0)

/-- The 96-bit image tag (R160). -/
def Mach.imageTag (m : Mach) (x : Image) : Nat :=
  let key := Crypto.kdf (Crypto.nats (m.transportKey.drop 64)) (Crypto.ascii "DFD-IMG")
    (Crypto.leList 8 x.ident ++ Crypto.leList 8 x.nonce) 256
  Crypto.leNatL ((Crypto.gmac key (Crypto.leList 8 x.isn ++ [0, 0, 0, 0]) (x.header ++ Crypto.nats x.bytes)).take 12)

/-- The sector-mode key of a page's image: the page's data key, or the transport pair under Sealing None (R159). -/
def Mach.sectorKey (m : Mach) (n : Nat) (nx : Bool) : List Byte :=
  if m.isSealed n then m.dataKey n nx else m.transportKey.take 64

/-- Pad a byte string to a multiple of 512, at least 512 (R97). -/
def pad512 (bs : List Byte) : List Byte := bs ++ List.replicate (max 512 ((bs.length + 511) / 512 * 512) - bs.length) 0

/-- The image of a page: its Deep packing under its codes, padded and sealed in sector mode (R97, R159, R160). -/
def Mach.makeImage (m : Mach) (n pn epoch : Nat) (nx : Bool) (codes : List Nat) (ls : List LineVal) : Image :=
  let plain := (List.range 64).flatMap fun i => slotBytes' (codes.getD i 0) (ls.getD i none)
  let rp := pn - m.atollPage n
  { ident := m.get .ID_IDENT, nonce := m.keys.imgNonce, isn := m.keys.isn, sled := m.get .ARC_SLED_ID, tkey := !m.isSealed n,
    atoll := n, rpage := rp, epoch := epoch, size := codes,
    bytes := Crypto.xtsEnc (m.sectorKey n nx) (sectorTweak (m.get .ARC_SLED_ID) n rp epoch) (pad512 plain) }
where
  /-- The bytes of a line under a code, nothing for a code without grains. -/
  slotBytes' (code : Nat) (v : LineVal) : List Byte := if grainsOf code = 0 then [] else slotBytes code (v.getD 0)

/-- The lines of an image under its codes (R83, R90); code 6 makes every line a decode error. -/
def Mach.openImage (m : Mach) (n : Nat) (nx : Bool) (x : Image) : List LineVal :=
  let plain := Crypto.xtsDec (m.sectorKey n nx) (sectorTweak x.sled x.atoll x.rpage x.epoch) x.bytes
  if x.size.any (· == 6) then List.replicate 64 none
  else (List.range 64).map fun i =>
    let j := chainEnd x.size i
    match x.size.getD j 0 with
    | 0 => some 0
    | 5 => none
    | 7 => none
    | c => slotLine c ((plain.drop (16 * grainOffset x.size j)).take (16 * grainsOf c))

end Sys2Proof.Machine
end

