-- ==== Sys2Proof/Machine/Dredger.lean ====
section
/-!
DEFINITION. The Dredger's moves (chapter "Grain space, the Dredger and the tally"): sink, lift, relocation, trim, re-seal,
compaction, the sweep and quarantine; and heat (chapter "Tiers, heat and placement").
-/

namespace Sys2Proof.Machine

/-! ### Heat (R124, R125) -/

/-- Idle time of a page in heat periods (R124). -/
def Mach.idle (m : Mach) (r : PageRec) : Nat := (m.get .TIER_PERIOD_NOW % 64 + 64 - r.stamp) % 64

/-- Effective heat of a page (R124). -/
def Mach.heat (m : Mach) (r : PageRec) : Nat := r.count / 2 ^ min 10 (m.idle r)

/-- The class of an atoll's pages (R129). -/
def Mach.cls (m : Mach) (n : Nat) : Nat := m.get .TIER_ATL_CLASS n

/-- A page is pinned (R129). -/
def Mach.pinned (m : Mach) (n : Nat) (r : PageRec) : Bool := r.pin || m.get .ATL_PLACE n != 0

/-- The tier a page is pinned to, if any: `ATL_PLACE` governs, then the PIN (R139). -/
def Mach.pinTier (m : Mach) (n : Nat) (r : PageRec) : Option Tier :=
  match m.get .ATL_PLACE n with
  | 0 => if r.pin then some (if r.pinTier = 1 then .deep else .shallows) else none
  | 3 => some .deep
  | _ => some .shallows

/-- The tier of a page: a never-written page is Deep when it is pinned to Deep, and Shallows otherwise (R140). -/
def Mach.tierOf (m : Mach) (n pn : Nat) : Tier :=
  let r := (m.page pn).rcd
  if r.alloc = 0 ∧ r.tier = .shallows ∧ r.size = List.replicate 64 0 ∧ m.pinTier n r = some .deep then .deep else r.tier

/-- A page has a flag set that keeps moves away (Table 5.1, R129). -/
def PageRec.busy (r : PageRec) : Bool := r.lock || r.reseal || r.pushPending || r.recallPending

/-- A heat lift comes due at an access (Table 6.1). -/
def Mach.heatLiftDue (m : Mach) (n : Nat) (r : PageRec) : Bool :=
  let t := m.get .TIER_CLS_LIFT_HEAT (m.cls n)
  r.tier == .deep && r.alloc != 0 && t != 0 && decide (t ≤ m.heat r) && !m.pinned n r && m.flag .TIER_HEAT_EN
    && !(m.isElastic n && decide (1 ≤ m.get .GRN_LEVEL))

/-- One access to a page: decay, count and stamp, and a heat lift queued when due (R125, R129). -/
def touch (n pn : Nat) : Act := .read fun m =>
  let p := m.page pn
  let r := { p.rcd with count := min 1023 (m.heat p.rcd + 1), stamp := m.get .TIER_PERIOD_NOW % 64 }
  .prim (.page pn { m.withRcd pn r with heatLift := p.heatLift || m.heatLiftDue n r })

/-! ### What holds a page (Table 5.1, Table 6.1) -/

/-- The write-back buffer holds a line of the page. -/
def Mach.wbHolds (m : Mach) (pn : Nat) : Bool := m.lines.wb.any fun e => pageOfLine e.line == pn

/-- A line of the page is dirty in the Lagoon. -/
def Mach.lagoonDirty (m : Mach) (pn : Nat) : Bool := m.lines.lagoon.any fun p => pageOfLine p.1 == pn && p.2.dirty

/-- An elastic page lies in a revoked extent of some LD (R120). -/
def Mach.revoked (m : Mach) (n pn : Nat) : Bool :=
  m.isElastic n && m.host.extents.any fun e => e.revoked &&
    (m.ldDpas e.ld (pn * 4096)).any fun d => e.base ≤ d && d < e.base + e.len

/-- A write-back that needs new plots is dropped: a revoked extent, or an elastic page whose home has no headroom (R120,
R121). -/
def Mach.noNewPlots (m : Mach) (n pn : Nat) : Bool :=
  m.revoked n pn || (m.isElastic n && m.headroom (homeIndex m.sled pn) == 0)

/-- Count one abandoned move of a page's home. -/
def abandon (pn : Nat) : Act := .read fun m => .inc .GRN_MOVE_ABORTS (homeIndex m.sled pn) 1

/-- The extent of a page lies on an isolated channel: no move of it commits (Table 5.4). -/
def Mach.pageDead (m : Mach) (pn : Nat) : Bool := (m.page pn).rcd.alloc != 0 && m.bkw.isolated.contains (0x03, m.chanOf (m.page pn).rcd.base)

/-- Count one committed move of a page's home and bring its tally up to date: kind 0 sink, 1 lift, 2 relocation, 3 trim
(Table 19.2, code 0x09). -/
def moved (h pn kind : Nat) : Act :=
  .all [.inc .GRN_MOVES h 1, tallyUpdate h, eventAt h 0x09 kind 1, eventAt h 0x09 4 1, tagOp 70 kind (pn * 64) 0 0 [2, 3, 4, 5, 6]]

/-- Lines whose stored form does not read, and that were not marked before (R59). -/
def Mach.badLines (m : Mach) (n pn : Nat) : List Nat :=
  (List.range 64).filter fun i => match m.storedLine n pn i with | .decodeErr => true | .tagErr => true | _ => false

/-! ### Sink (Table 5.1) -/

/-- The sink of a Shallows page: codes by R82, an extent of ⌈G ÷ 16⌉ plots, the sealed grains and tags, the commit, the old
plots to be freed. It is abandoned when the write-back buffer holds a line of the page or no plots are found, and not made
at the end of `EPOCH` (R107, R156). -/
def sink (n pn : Nat) : Act := .read fun m =>
  let h := homeIndex m.sled pn
  let r := (m.page pn).rcd
  let ls := m.storedPage n pn
  let codes := codesFor (m.flag .ATL_COMP n) ls
  let need := Bits.ceilDiv (grainTotal codes) 16
  if m.wbHolds pn || m.pageDead pn then abandon pn
  else if m.epochEnd n pn then epochStop pn
  else if need = 0 then
    .all [poisonLines n pn (m.badLines n pn) .mediaManagement 1,
      writeExtent n pn 0 { r with base := 0, alloc := 0, tier := .deep, size := codes, epoch := nextEpoch r.epoch }
        (m.useNext n pn) ls,
      retireExtent h r.base r.alloc, .inc .TIER_SINKS 0 1, moved h pn 0]
  else match m.placeExtent h need (m.pageK n pn) (m.chanSet n) with
    | none => abandon pn
    | some p =>
      .all [poisonLines n pn (m.badLines n pn) .mediaManagement 1, movePlots h p need 0 1,
        chargeExtent r.base r.alloc 70 false, chargeExtent (16 * p) need 70 true,
        writeExtent n pn (16 * p)
          { r with base := 16 * p, alloc := need, tier := .deep, size := codes, epoch := nextEpoch r.epoch }
          (m.useNext n pn) ls,
        retireExtent h r.base r.alloc, .inc .TIER_SINKS 0 1, moved h pn 0]

/-- A heat sink is due (Table 6.1). -/
def Mach.heatSinkDue (m : Mach) (n pn : Nat) : Bool :=
  let r := (m.page pn).rcd
  let c := m.cls n
  let sw := decide (1 ≤ m.get .GRN_LEVEL)
  r.tier == .shallows && m.flag .ATL_COMP n
    && decide (m.heat r ≤ m.get (if sw then .TIER_CLS_SWELL_SINK_HEAT else .TIER_CLS_SINK_HEAT) c)
    && decide (m.get (if sw then .TIER_CLS_SWELL_DWELL else .TIER_CLS_SINK_DWELL) c ≤ m.idle r)
    && !m.pinned n r && m.flag .TIER_HEAT_EN && !m.lagoonDirty pn && !m.wbHolds pn

/-- The Pin-Deep return is due (Table 6.1). -/
def Mach.pinDeepDue (m : Mach) (n pn : Nat) : Bool :=
  let r := (m.page pn).rcd
  r.tier == .shallows && m.pinTier n r == some .deep && decide (1 ≤ m.idle r) && !m.lagoonDirty pn && !m.wbHolds pn

/-- The Dredger may select the page for a sink: by heat, by its pin, or because its extent is revoked (Table 6.1, R120). -/
def Mach.sinkDue (m : Mach) (n pn : Nat) : Bool :=
  m.heatSinkDue n pn || m.pinDeepDue n pn
    || (m.revoked n pn && (m.page pn).rcd.tier == .shallows && m.flag .ATL_COMP n)

/-- The atoll of a page is served by the Dredger: Live, not Bell, its keys present (Table 2.10, Table 5.4). -/
def Mach.dredgeable (m : Mach) (n : Nat) : Bool :=
  m.get .ATL_STATE n == atlLive && !m.isBell n && !m.keysAbsent n

/-! ### First extent, lift (Table 5.2, R64, R480) -/

/-- Merge a held write-back into the lines of a page. -/
def mergeLine (ls : List LineVal) : Option (Nat × LineVal) → List LineVal
  | none => ls
  | some (i, v) => ls.set i v

/-- The codes after a lift: 1, 2, 3 and 5 become 4, 0 and 7 stay, the merged line is 4 (R89); a line that does not read is
7. -/
def liftCodes (size : List Nat) (bad : List Nat) (mg : Option (Nat × LineVal)) : List Nat :=
  (List.range 64).map fun i =>
    if (mg.map (·.1)) = some i then 4
    else if bad.contains i then 7
    else match size.getD i 0 with
      | 0 => 0
      | 7 => 7
      | _ => 4

/-- A lift of a Deep page into the block at plot p, with a write-back merged (Table 5.2). -/
def liftInto (n pn p : Nat) (mg : Option (Nat × LineVal)) : Act := .read fun m =>
  let h := homeIndex m.sled pn
  let r := (m.page pn).rcd
  let bad := m.badLines n pn
  let ls := mergeLine (m.storedPage n pn) mg
  .all [poisonLines n pn bad .mediaManagement 1, movePlots h p 16 0 1,
    chargeExtent r.base r.alloc 70 false, chargeExtent (16 * p) 16 70 true,
    writeExtent n pn (16 * p)
      { r with base := 16 * p, alloc := 16, tier := .shallows, size := liftCodes r.size bad mg, epoch := nextEpoch r.epoch }
      (m.useNext n pn) ls,
    retireExtent h r.base r.alloc]

/-- A lift that found no block waits at step 1 (R480). -/
def liftWait (pn why : Nat) : Act :=
  .prim (.grain fun g => { g with liftWaits := if g.liftWaits.any (fun x => x.1 == pn) then g.liftWaits else g.liftWaits ++ [(pn, why)] })

/-- Lift a page for a cause other than growth: it waits when no block is free (Table 5.2). `heat` says which counter. -/
def lift (n pn : Nat) (cause : LiftCause) : Act := .read fun m =>
  let h := homeIndex m.sled pn
  if m.pageDead pn then abandon pn
  else if m.epochEnd n pn then epochStop pn
  else match m.placeExtent h 16 (m.pageK n pn) (m.chanSet n) with
    | none => liftWait pn (match cause with | .growth => 0 | .heat => 1 | .pin => 2 | .command => 3)
    | some p =>
      .all [liftInto n pn p none,
        .prim (.grain fun g => { g with liftWaits := g.liftWaits.filter fun x => x.1 != pn }),
        .when (cause == .heat) (.inc .TIER_LIFTS_HEAT 0 1), .when (cause == .growth) (.inc .TIER_LIFTS_GROWTH 0 1), moved h pn 1]

/-! ### Trim, relocation (R106, Table 5.3) -/

/-- Plots that a page's grains need. -/
def needPlots (r : PageRec) : Nat := match r.tier with | .shallows => r.alloc | _ => Bits.ceilDiv (grainTotal r.size) 16

/-- TRIM: free the trailing plots of a Deep extent with slack; with no grains left the whole extent (R106). -/
def trim (pn : Nat) : Act := .read fun m =>
  let h := homeIndex m.sled pn
  let r := (m.page pn).rcd
  let need := needPlots r
  .when (r.tier == .deep && !r.lock && decide (need < r.alloc))
    (.all [.rcd pn fun r => { r with alloc := need, base := if need = 0 then 0 else r.base },
      movePlots h (r.base / 16 + need) (r.alloc - need) 1 0, moved h pn 3])

/-- Move a page's grains unchanged to plot p (Table 5.3). -/
def relocateTo (pn p : Nat) : Act := .read fun m =>
  let h := homeIndex m.sled pn
  let r := (m.page pn).rcd
  let need := needPlots r
  if m.pageDead pn then abandon pn
  else .all [movePlots h p need 0 1, chargeExtent r.base r.alloc 70 false, chargeExtent (16 * p) need 70 true,
    .prim (.poke (256 * p) (Dram.read m.dram (16 * r.base) (if r.tier = .shallows then 4096 else 16 * grainTotal r.size))),
    .rcd pn fun r => { r with base := 16 * p, alloc := need },
    retireExtent h r.base r.alloc, moved h pn 2]

/-- A record or tag block moves to a channel by block copy, its map entry being the commit (R300). -/
def moveMapAt (tag : Bool) (key h ch b : Nat) : Act := .read fun m =>
  .some? (m.placeExtent h 16 0 [ch]) fun p =>
    .all [movePlots h p 16 0 2, .prim (.poke (256 * p) (Dram.read m.dram (b * 4096) 4096)),
      .prim (.grain fun g =>
        if tag then { g with tagMap := g.tagMap.put key (p / 16) } else { g with recMap := g.recMap.put key (p / 16) }),
      movePlots h (b * 16) 16 2 0, tallyUpdate h]

/-- A record or tag block of an atoll that lies off its channel set, or on a block that takes nothing new, moves (Table 2.6,
R300). -/
def moveMapBlock (n pn ch : Nat) (tag : Bool) : Act := .read fun m =>
  let h := homeIndex m.sled pn
  let k := m.pageK n pn
  let key := mapKey n h (if tag then k / 8 else k / 64)
  .some? ((if tag then m.grain.tagMap else m.grain.recMap).find? key) fun b =>
    .when (!(m.chanSet n).contains (m.chanOf (b % 2 ^ 32 * 256)) || m.blockClosed (b % 2 ^ 32))
      (moveMapAt tag key h ch (b % 2 ^ 32))

/-- RELOCATION: to a window on a channel of the set, for compaction, a change of the channel set or an evacuation
(Table 5.3); the page's record and tag blocks leave channels outside the set with it (Table 2.6). -/
def relocation (pn ch : Nat) : Act := .read fun m =>
  match m.atollOf pn with
  | none => .skip
  | some n =>
    let r := (m.page pn).rcd
    .when (m.dredgeable n && !r.busy && (m.chanSet n).contains ch)
      (.seq (if r.alloc = 0 then .skip
         else if needPlots r = 0 then trim pn
         else match m.placeExtent (homeIndex m.sled pn) (needPlots r) 0 [ch] with
          | none => abandon pn
          | some p => relocateTo pn p)
        (.seq (moveMapBlock n pn ch false) (moveMapBlock n pn ch true)))

/-! ### Re-seal (Table 7.8) -/

/-- Re-seal a page in place with `EPOCH` + 1 and every counter 0, a write-back merged (Table 7.8). -/
def resealPage (n pn : Nat) (mg : Option (Nat × LineVal)) : Act := .read fun m =>
  let r := (m.page pn).rcd
  let bad := m.badLines n pn
  .all [poisonLines n pn bad .mediaManagement 1,
    chargeExtent r.base r.alloc 70 false, chargeExtent r.base r.alloc 70 true,
    .read fun m' =>
      let r' := (m'.page pn).rcd
      let size := match mg with
        | some (i, _) => if r'.tier == .shallows then r'.size.set i 4 else r'.size
        | none => r'.size
      writeExtent n pn r.base { r' with size := size, epoch := nextEpoch r.epoch } (m.useNext n pn)
        (mergeLine (m'.storedPage n pn) mg),
    .inc .TDL_RESEALS 0 1]

/-! ### Compaction (R108) -/

/-- Compaction is due in a home (R108). A home's working blocks count as spread evenly over its channels. -/
def Mach.compactDue (m : Mach) (h : Nat) : Bool :=
  let fb := m.freeBlocks h
  m.flag .GRN_COMPACT_EN && m.grain.liftWaits.isEmpty
    && (decide (fb < 4 * m.sled.chans) || decide (1 ≤ m.get .GRN_LEVEL) || decide (fb * 32 < m.get .GRN_FREE h)
        || (decide (m.watermark (m.get .GRN_WM_HIGH_BP) h < m.headroom h) &&
            (List.range m.sled.homes).any fun r => m.headroom r < m.watermark (m.get .GRN_WM_MID_BP) r))

/-- Deep pages of a home whose extents lie in a block. -/
def Mach.blockPages (m : Mach) (b : Nat) : List Nat :=
  (m.pages.filter fun p => p.2.rcd.tier == .deep && p.2.rcd.alloc != 0 && blockOf p.2.rcd.base == b).map (·.1)

/-- Partly used blocks of a home that hold data plots, with the number of them. -/
def Mach.compactable (m : Mach) (h : Nat) : List (Nat × Nat) :=
  (m.grain.plots.filter fun p => m.blockOwner p.1 == h && !(m.blockPages p.1).isEmpty && freeIn p.2 != 0).map fun p =>
    (p.1, ((List.range 16).filter fun j => Bits.field p.2 (2 * j) 2 == 1).length)

/-- The block with the fewest allocated plots. -/
def fewest (l : List (Nat × Nat)) : Option Nat :=
  (l.foldl (fun (b : Option (Nat × Nat)) x =>
    match b with | none => some x | some y => if x.2 < y.2 then some x else b) none).map (·.1)

/-- COMPACTION: the Deep extents of the block with the fewest allocated plots move to other partly used blocks (R108). -/
def compaction (h : Nat) : Act := .read fun m =>
  match if m.compactDue h then fewest (m.compactable h) else none with
  | none => .skip
  | some b =>
    .each (m.blockPages b) fun pn => .read fun m' =>
      match m'.atollOf pn with
      | none => .skip
      | some n =>
        let r := (m'.page pn).rcd
        let spots := (m'.chanSet n).filterMap fun c =>
          (m'.partBlocks h c).findSome? fun b' =>
            if b' = b then none else (windowIn (m'.plotWord b') (needPlots r)).map (b' * 16 + ·)
        .when (m'.dredgeable n && !r.busy && decide (needPlots r ≠ 0))
          (.some? spots.head? fun p => relocateTo pn p)

/-! ### Sweep and quarantine (R112, R113) -/

/-- Claims on a plot: the pages whose extents hold it, and the old extents still to be freed. -/
def Mach.claims (m : Mach) (p : Nat) : List Nat :=
  (m.pages.filter fun x => x.2.rcd.alloc != 0 && x.2.rcd.base / 16 ≤ p && p < x.2.rcd.base / 16 + x.2.rcd.alloc).map (·.1)

/-- A plot waits to be freed after a move. -/
def Mach.awaitsFree (m : Mach) (p : Nat) : Bool :=
  m.grain.olds.any fun e => e.base / 16 ≤ p && p < e.base / 16 + e.plots

/-- Record and tag blocks that some map entry claims. -/
def Mach.mapClaims (m : Mach) (b : Nat) : Bool :=
  m.grain.recMap.any (fun p => p.2 % 2 ^ 32 == b) || m.grain.tagMap.any (fun p => p.2 % 2 ^ 32 == b)

/-- A quarantine entry: the state change and its record; reason 0 unclaimed, 1 doubly claimed, 2 scrubber (R113). -/
def quarantine (h p n src reason : Nat) : Act :=
  .all [movePlots h p n src 3, lhLog 0 0x0011 (16 * p) (n + 2 ^ 64 * reason), tallyUpdate h]

/-- A quarantine exit (R113). -/
def unquarantine (h p n : Nat) : Act := .all [movePlots h p n 3 0, lhLog 0 0x0012 (16 * p) n, tallyUpdate h]

/-- Lines of a page that lie in a plot. -/
def linesIn (r : PageRec) (p : Nat) : List Nat :=
  (List.range 64).filter fun i =>
    let g := lineGrains r i
    g.2 != 0 && g.1 / 16 ≤ p && p ≤ (g.1 + g.2 - 1) / 16

/-- One plot seen by the sweep (R112, R113). -/
def sweepPlot (h p : Nat) : Act := .read fun m =>
  let cl := m.claims p
  match m.plotState p with
  | 1 =>
    if cl.isEmpty && !m.awaitsFree p then
      .all [quarantine h p 1 1 0, .prim (.grain fun g => { g with unclaimed := g.unclaimed ++ [p] })]
    else if 2 ≤ cl.length then
      .all [.each cl fun pn => .some? (m.atollOf pn) fun n => poisonLines n pn (linesIn (m.page pn).rcd p) .mediaManagement 1,
        quarantine h p 1 1 1]
    else .skip
  | 3 => .when (cl.isEmpty && !m.awaitsFree p && !m.leaving (p / 16) && !m.grain.quarBlocks.contains (p / 16))
      (.all [unquarantine h p 1, .prim (.grain fun g => { g with unclaimed := g.unclaimed.filter (· != p) })])
  | _ => .skip

/-- SWEEP_VISIT: one pass over a home's records and maps: the tally equalities, and the claim on every plot (R112, R113). -/
def sweepVisit (h : Nat) : Act := .read fun m =>
  let held := ((m.pages.filter fun p => homeIndex m.sled p.1 == h).map fun p => p.2.rcd.alloc).sum
    + ((m.grain.olds.filter fun e => e.home == h).map (·.plots)).sum
    + ((m.arc.held.filter fun x => m.stripeHome (stripeOf x.ga) == h).map fun x => x.img.bytes.length / 256).sum
  let ok := m.get .GRN_FREE h + m.get .GRN_ALLOCATED h + m.get .GRN_META h + m.get .GRN_QUAR h == m.get .GRN_TOTAL h
    && m.get .GRN_ALLOCATED h == held
  .when (m.flag .GRN_SWEEP_EN && decide (h < m.sled.homes))
    (.all [.when (!ok && !m.bkw.suspended.any (fun i => srcClass i == 1 && srcInst i == h)) (raiseIslet h 3 0),
      .each ((m.grain.plots.filter fun p => m.blockOwner p.1 == h).map (·.1)) fun b =>
        .each (List.range 16) fun j => sweepPlot h (16 * b + j),
      .inc .GRN_SWEEP_PASSES 0 1])

/-! ### Commands -/

/-- SINK: the Dredger sinks a Shallows page that Table 6.1 selects (Table 5.1). -/
def sinkCmd (pn : Nat) : Act := .read fun m =>
  .some? (m.atollOf pn) fun n =>
    .when (m.dredgeable n && !(m.page pn).rcd.busy && m.sinkDue n pn) (sink n pn)

/-- A lift for a cause may start: a Deep page with an extent, no flag set, and the cause's condition of Table 6.1. -/
def Mach.liftDue (m : Mach) (n pn : Nat) (cause : LiftCause) : Bool :=
  let r := (m.page pn).rcd
  r.tier == .deep && !r.busy && m.dredgeable n &&
    (match cause with
      | .heat => (m.page pn).heatLift && m.heatLiftDue n r
      | .pin => m.pinTier n r == some .shallows
      | .growth => m.wbHolds pn
      | .command => r.alloc != 0)

/-- LIFT: of a Deep page, for a cause (Table 5.2). The write-back that triggers a growth lift is merged by WRITE_BACK. -/
def liftCmd (pn : Nat) (cause : LiftCause) : Act := .read fun m =>
  .some? (m.atollOf pn) fun n => .when (m.liftDue n pn cause) (lift n pn cause)

/-- HEAT_LIFT: a queued heat lift starts, or is not taken (R129, Table 6.1). Either way it is queued no longer, unless the
page is locked. -/
def heatLift (pn : Nat) : Act := .read fun m =>
  let p := m.page pn
  .some? (m.atollOf pn) fun n =>
    .when (p.heatLift && !p.rcd.lock)
      (.all [.prim (.page pn { p with heatLift := false }),
        .when (m.liftDue n pn .heat) (lift n pn .heat)])

/-- SINK (R107). -/
def execSink (pn : Nat) (s : State) : Host.Outcome State Fault Refusal := s.act (sinkCmd pn)

/-- LIFT (R480). -/
def execLift (pn : Nat) (cause : LiftCause) (s : State) : Host.Outcome State Fault Refusal := s.act (liftCmd pn cause)

/-- HEAT_LIFT (R129). -/
def execHeatLift (pn : Nat) (s : State) : Host.Outcome State Fault Refusal := s.act (heatLift pn)

/-- RELOCATION (R107). -/
def execRelocation (pn ch : Nat) (s : State) : Host.Outcome State Fault Refusal := s.act (relocation pn ch)

/-- TRIM (R106). -/
def execTrim (pn : Nat) (s : State) : Host.Outcome State Fault Refusal := s.act (trim pn)

/-- COMPACTION (R108). -/
def execCompaction (h : Nat) (s : State) : Host.Outcome State Fault Refusal := s.act (compaction h)

/-- SWEEP_VISIT (R112). -/
def execSweepVisit (h : Nat) (s : State) : Host.Outcome State Fault Refusal := s.act (sweepVisit h)

end Sys2Proof.Machine
end

