-- ==== Sys2Proof/Machine/Offshore.lean ====
section
/-!
DEFINITION. What a home starts with its peers for an Offshore page (R131 to R133, R293 to R295): messages, pushes, recalls
and releases. What ends them stands in Archipelago.lean.
-/

namespace Sys2Proof.Machine

/-! ### Messages (R178, R288) -/

/-- Codes of the messages of Table 8.2 and Table 13.2. -/
def mRdCur : Nat := 0x01
/-- `RD_SHD`. -/
def mRdShd : Nat := 0x02
/-- `RD_OWN`. -/
def mRdOwn : Nat := 0x03
/-- `WR_LINE`. -/
def mWrLine : Nat := 0x04
/-- `WR_PTL`. -/
def mWrPtl : Nat := 0x05
/-- `ATOM`. -/
def mAtom : Nat := 0x06
/-- `SNP_INV`. -/
def mSnpInv : Nat := 0x21
/-- `SNP_SHD`. -/
def mSnpShd : Nat := 0x22
/-- `FWD_SHD`. -/
def mFwdShd : Nat := 0x23
/-- `FWD_OWN`. -/
def mFwdOwn : Nat := 0x24
/-- `SNP_RESOLVE`. -/
def mSnpResolve : Nat := 0x25
/-- `ACK_I`. -/
def mAckI : Nat := 0x41
/-- `ACK_S`. -/
def mAckS : Nat := 0x42
/-- `ACK_WB`. -/
def mAckWb : Nat := 0x43
/-- `CMP`. -/
def mCmp : Nat := 0x44
/-- `CMP_ERR`. -/
def mCmpErr : Nat := 0x45
/-- `GNT_ACK`. -/
def mGntAck : Nat := 0x46
/-- `CLN_EVICT`. -/
def mClnEvict : Nat := 0x47
/-- `WB_ACK`. -/
def mWbAck : Nat := 0x48
/-- `FWD_FAIL`. -/
def mFwdFail : Nat := 0x49
/-- `DATA`. -/
def mData : Nat := 0x61
/-- `WB`. -/
def mWb : Nat := 0x62
/-- `WB_KEEP`. -/
def mWbKeep : Nat := 0x63
/-- `SNP_DATA`. -/
def mSnpData : Nat := 0x64
/-- `FWD_DATA`. -/
def mFwdData : Nat := 0x65
/-- JOIN. -/
def mJoin : Nat := 0x80
/-- LEAVE. -/
def mLeave : Nat := 0x81
/-- IMG_PUT. -/
def mImgPut : Nat := 0x82
/-- IMG_GET. -/
def mImgGet : Nat := 0x83
/-- IMG_RELEASE. -/
def mImgRelease : Nat := 0x84
/-- IMG_EVICT. -/
def mImgEvict : Nat := 0x85
/-- MIR_WR. -/
def mMirWr : Nat := 0x86
/-- MIR_OWN. -/
def mMirOwn : Nat := 0x87
/-- MIR_PAGE. -/
def mMirPage : Nat := 0x88
/-- MIR_FETCH. -/
def mMirFetch : Nat := 0x89
/-- PAIR. -/
def mPair : Nat := 0x8A
/-- CLAIM. -/
def mClaim : Nat := 0x8B
/-- HEAL. -/
def mHeal : Nat := 0x8C
/-- HANDOVER. -/
def mHandover : Nat := 0x8D
/-- RMT_BIND. -/
def mRmtBind : Nat := 0x8E
/-- IMG_DATA. -/
def mImgData : Nat := 0xBE
/-- `SVC_ACK`. -/
def mSvcAck : Nat := 0xBF

/-- The sled's archipelago id. -/
def Mach.self (m : Mach) : Nat := m.get .ARC_SLED_ID

/-- A message of this sled with every optional field clear. -/
def Mach.mkMsg (m : Mach) (code txid home line : Nat) : Msg :=
  { src := m.self, code := code, poison := false, push := false, dirty := false, txid := txid % 2 ^ 16, home := home,
    line := line, rqs := m.self, agent := 0, grant := 0, after := 0, opst := 0, body := [] }

/-- The body of a DAT message with a line: its bytes, and zeros under `POISON`. -/
def lineBody (v : LineVal) : List Byte := lineBytes (v.getD 0)

/-- The value that a DAT message carries (R178). -/
def msgVal (x : Msg) : LineVal := if x.poison then none else some (lineOf (x.body.take 64))

/-- The next id of the model's counter. -/
def Mach.newId (m : Mach) : Nat := m.lines.nextId

/-- Draw an id. -/
def Act.newId (f : Nat → Act) : Act := .read fun m =>
  .seq (.prim (.lines fun l => { l with nextId := l.nextId + 1 })) (f m.newId)

/-- The link slot of a peer that is Up: 8p + r, over the two ports (R258). -/
def Mach.upLink (m : Mach) (r : Nat) : Option Nat :=
  [r, 8 + r].find? fun l => m.get .BQL_L_STATE l == 2

/-- A peer is a member with an Up link (R287). -/
def Mach.peerUp (m : Mach) (r : Nat) : Bool := Bits.bit (m.get .ARC_MEMBERS) r && (m.upLink r).isSome

/-- The link that names a peer: 8p + r of the port whose slot is enabled (R260). -/
def Mach.linkTo (m : Mach) (r : Nat) : Option Nat := [r, 8 + r].find? fun l => m.flag .BQL_L_EN l

/-- The link to a peer is Up, Held or in Grace, so the harbour holds messages for it (R260, R279). -/
def Mach.linkHolds (m : Mach) (r : Nat) : Bool :=
  match m.linkTo r with
  | some l => m.get .BQL_L_STATE l == 2 || m.get .BQL_L_STATE l == 3 || m.get .BQL_L_STATE l == 4
  | none => false

/-- Hand a message for a peer to the Boesque harbour. -/
def send (r : Nat) (x : Msg) : Act := .read fun m =>
  .all [.emit (.msg r x), .when (m.linkHolds r) (.prim (.bql fun b => { b with txq := b.txq ++ [(r, x)] }))]

/-! ### Pushes (R131, R293) -/

/-- Candidate holders of a page's image, in the order of trial (R293): members allowed, Up, with the feature, not the
partner, from the one after the last that accepted from this home. -/
def Mach.holders (m : Mach) (n pn : Nat) (tried : List Nat) : List Nat :=
  let last := (m.arc.lastHolder.find? (homeIndex m.sled pn)).getD 7
  let order := (List.range 8).map fun j => (last + 1 + j) % 8
  order.filter fun r => m.peerUp r && Bits.bit (m.get .ARC_OFF_PEERS) r && r != m.self && !tried.contains r
    && ((m.upLink r).any fun l => Bits.bit (m.get .BQL_L_FEATURES l) 1)
    && !(m.get .ATL_MIRROR n != 0 && m.get .ATL_PARTNER n == r)

/-- Drop the Lagoon lines of a page, writing back the dirty ones; pinned lines too (R131). A line waiting for a merge
stays. -/
def flushPage (pn : Nat) : Act := .read fun m =>
  let mine := m.lines.lagoon.filter fun p => pageOfLine p.1 == pn && p.2.mask == 2 ^ 64 - 1
  .prim (.lines fun l =>
    { l with lagoon := l.lagoon.filter fun p => !(pageOfLine p.1 == pn && p.2.mask == 2 ^ 64 - 1),
             wb := l.wb ++ (mine.filter fun p => p.2.dirty).map fun p => ⟨p.1, p.2.val, p.2.mask, p.2.master⟩ })

/-- Send IMG_PUT of a page to a holder: a new `ISN`, the image under `EPOCH` + 1, and the job that its answer ends
(Table 13.3 steps 2 and 3). -/
def putImage (n pn r : Nat) (tried : List Nat) (kind : JobKind) (epoch : Nat) (nx : Bool) (codes : List Nat)
    (ls : List LineVal) (slot : Nat) : Act := .newId fun t => .read fun m =>
  let img := m.makeImage n pn epoch nx codes ls
  .all [.prim (.keys fun k => { k with isn := (k.isn + 1) % 2 ^ 64 }),
    send r { m.mkMsg mImgPut t m.self (pn * 64) with body := Crypto.bytes img.header ++ img.bytes },
    .prim (.arc fun a => { a with jobs := a.jobs ++
      [{ pn := pn, kind := kind, peer := r, txid := t % 2 ^ 16, tried := tried ++ [r], codes := codes, epoch := epoch,
         tag := m.imageTag img, isn := img.isn, slot := slot }] })]

/-- A page may be pushed: a local page, no flag set, with the sled able to hold images elsewhere (Table 6.1, R4). -/
def Mach.pushable (m : Mach) (n pn : Nat) : Bool :=
  let r := (m.page pn).rcd
  m.sled == .dx32 && m.flag .ATL_OFFSHORE n && m.dredgeable n && !r.busy && r.tier != .offshore && !m.pageDead pn

/-- Start the push of a page: flush its lines; a page whose grain total is 0 is not sent and the push ends with it unchanged
(R293). Answered with the peers' silence when no candidate is left. -/
def startPush (n pn : Nat) : Act :=
  .seq (flushPage pn) (.read fun m =>
    let ls := m.storedPage n pn
    let codes := codesFor (m.flag .ATL_COMP n) ls
    if m.wbHolds pn then .skip
    else if m.epochEnd n pn then epochStop pn
    else if grainTotal codes = 0 then .skip
    else match m.holders n pn [] with
      | [] => .skip
      | r :: _ =>
        .all [.rcd pn fun x => { x with pushPending := true },
          putImage n pn r [] .push (nextEpoch (m.page pn).rcd.epoch) (m.useNext n pn) codes ls 0])

/-! ### Releases (R295) -/

/-- A grain address that means "find by `ISN`" (Table 13.2). -/
def gaByIsn : Nat := 0xFFFFFFFFFF

/-- The body of IMG_GET, IMG_RELEASE and IMG_EVICT (Table 13.2). -/
def imgBody (ga isn : Nat) : List Byte := Bits.leBytes 8 ga ++ Bits.leBytes 8 isn

/-- Place a release on the pending list, and send it at once when a link to the holder is Up (R295). -/
def release (peer ga isn : Nat) : Act := .newId fun t => .read fun m =>
  .all [.prim (.arc fun a => { a with releases := a.releases ++ [⟨peer, ga, isn, (m.upLink peer).isSome, t % 2 ^ 16⟩] }),
    .set .ARC_REL_PENDING 0 (m.arc.releases.length + 1),
    .when (m.upLink peer).isSome
      (send peer { m.mkMsg mImgRelease t m.self 0 with body := imgBody ga isn })]

/-- The jobs of a page. -/
def Mach.jobsOf (m : Mach) (pn : Nat) : List ImgJob := m.arc.jobs.filter fun j => j.pn == pn

/-- What a page's exchange came to, for a descriptor that waits for it (R238): 0 done, 1 no peer, 2 no plots, 3 given up,
4 lost, 5 its link flushed. -/
def pageDone (pn res : Nat) : Act :=
  let note := fun (d : Desc) => if d.waitPn = some pn then { d with waitPn := none, waitRes := res } else d
  .prim (.que fun q => { q with descs := q.descs.map note })

/-- A write-back abandons the push of its page: the flag falls and the image, if one arrives, is released by `ISN`
(R133, R295). -/
def abandonPush (pn : Nat) : Act := .read fun m =>
  .all [.each ((m.jobsOf pn).filter fun j => j.kind == .push || j.kind == .rewritePut) fun j => release j.peer gaByIsn j.isn,
    .prim (.arc fun a => { a with jobs := a.jobs.filter fun j => !(j.pn == pn) }),
    .rcd pn fun r => { r with pushPending := false }, pageDone pn 0]

/-! ### Recalls (R132, R294) -/

/-- Send IMG_GET for a page to the peer that holds its image. -/
def getImage (pn : Nat) (kind : JobKind) (slot : Nat) : Act := .newId fun t => .read fun m =>
  let r := (m.page pn).rcd
  .all [send r.offPeer { m.mkMsg mImgGet t m.self (pn * 64) with body := imgBody r.offExtent (m.page pn).offIsn },
    .prim (.arc fun a => { a with jobs := a.jobs ++ [{ pn := pn, kind := kind, peer := r.offPeer, txid := t % 2 ^ 16, slot := slot }] })]

/-- Start the recall of an Offshore page (R294 step 1); one already under way goes on, and one that would end its `EPOCH`s is
not made (R156). -/
def startRecall (pn : Nat) : Act := .read fun m =>
  let r := (m.page pn).rcd
  let last := (m.atollOf pn).any fun n => m.epochEnd n pn
  .when (r.tier == .offshore && !r.recallPending)
    (if last then epochStop pn else .all [.rcd pn fun x => { x with recallPending := true }, getImage pn .recall 0])

/-- The recall mode that an access meets: 0 first touch, 1 heat, 2 command; at Surge and Flood an elastic page is read as in
mode 1 (R132). -/
def Mach.recallNow (m : Mach) (n pn : Nat) : Bool :=
  let c := m.cls n
  let mode := m.get .TIER_CLS_RECALL_MODE c
  let pressed := m.isElastic n && decide (2 ≤ m.get .GRN_LEVEL)
  !pressed && !m.epochEnd n pn && (mode == 0 || (mode == 1 && m.flag .TIER_HEAT_EN
    && decide (m.get .TIER_CLS_RECALL_HEAT c ≤ m.heat (m.page pn).rcd)))

/-- The part of a recalled page's record that its image gives (R294). -/
def stillOffshore (r : PageRec) : Bool := r.tier == .offshore

end Sys2Proof.Machine
end

