-- ==== Sys2Proof/Machine/Agents.lean ====
section
/-!
DEFINITION. The line requests of the sled's own agents, queue islets and the Ferry port (R225, R252): the note of an
answer, and the end of a Ferry burst once every line of it is answered.
-/

namespace Sys2Proof.Machine

open Facet in
/-- The 64 bytes of a value; a poisoned line reads as zeros (R253). -/
def valBytes (v : LineVal) : List Byte := lineBytes (v.getD 0)

/-! ### Ferry ports (R247) -/

/-- The slot of an MCTP requester: the valid one with its EID (R247). -/
def Mach.ferrySlot (m : Mach) (eid : Nat) : Option Nat :=
  (List.range 8).find? fun s => m.flag .FRY_M_VALID s && m.get .FRY_M_EID s == eid

/-- The number under which a port's range is kept: the LD, or 256 plus the slot. -/
def Mach.portKey (m : Mach) : FerryPort → Option Nat
  | .ld n => some n
  | .mctp e => (m.ferrySlot e).map (256 + ·)

/-- A field of a port: of the LD's control page, or of the slot. -/
def portFld (k : Nat) (ld slot : Fld) : Fld × Nat := if k < 256 then (ld, k) else (slot, k - 256)

/-- Set a bit of `FRY_ERR` or `FRY_M_ERR` (R250, R253). -/
def portErr (k bit : Nat) : Act := .read fun m =>
  let f := portFld k .FRY_ERR .FRY_M_ERR
  .set f.1 f.2 (withBit (m.get f.1 f.2) bit true)

/-- The answer to a read burst: data, or poison (R253). Status 0 is success, 1 a refusal, 2 poison. -/
def portReply (w : FerryPort) (status : Nat) (bs : List Byte) : Act :=
  match w with
  | .ld n => .emit (.ferryData n status bs)
  | .mctp e => .emit (.mctp e (match status with | 0 => 0 | 2 => 0x82 | _ => 0x80) bs)

/-! ### Answers -/

/-- The requests of an agent with a number in a range, oldest first. -/
def Mach.asked (m : Mach) (a : Agent) (lo n : Nat) : List RemReq :=
  m.dir.remote.filter fun r => r.agent == a && lo ≤ r.tag && r.tag < lo + n

/-- The number of a request whose agent waits for it no longer. -/
def orphanTag : Nat := 2 ^ 60

/-- Forget the requests of an agent with a number in a range; those still open are kept until their answer comes. -/
def forget (a : Agent) (lo n : Nat) : Act :=
  let mine := fun (r : RemReq) => r.agent == a && lo ≤ r.tag && r.tag < lo + n
  let leave := fun (r : RemReq) => if mine r then { r with tag := orphanTag } else r
  .prim (.dir fun d => { d with remote := (d.remote.filter fun r => !(mine r && r.done)).map leave })

/-- Lines that one number of an agent's work may span. -/
def askSpan : Nat := 2 ^ 20

/-- End a burst all of whose lines are answered: dropped lines set the dropped bit; a read is answered (R252, R253). -/
def settleBurst (b : Burst) : Act := .read fun m =>
  let rs := m.asked (.ferry b.port) (b.id * askSpan) b.lines
  let bad := rs.any fun r => r.val.isNone
  .when (decide (rs.length = b.lines) && rs.all (·.done))
    (.all [.prim (.fry fun f => { f with bursts := f.bursts.filter (·.id != b.id) }),
      forget (.ferry b.port) (b.id * askSpan) askSpan,
      .some? (m.portKey b.port) fun k => .when bad (portErr k (if b.write then 2 else 3)),
      .when (!b.write)
        (portReply b.port (if bad then 2 else 0) (((rs.flatMap fun r => valBytes r.val).drop b.skip).take b.len))])

/-- End every burst of a port that can end, oldest first. -/
def settle (w : FerryPort) : Act := .read fun m => .each (m.fry.bursts.filter (·.port == w)) settleBurst

/-- A PCIe AtomicOp of a head at another sled is answered: its completion carries the old value, `w` bytes of it, with EP set
when the result is poison (R195). -/
def settleAtomic (ld tag : Nat) : Act := .read fun m =>
  .each (m.dir.remote.filter fun r => r.agent == .head ld tag && r.done) fun r =>
    .all [.emit (.completion ld tag (if r.val.isSome then 0 else 2) (((valBytes r.val).take r.tag).map (·.toNat))),
      .prim (.dir fun d => { d with remote := d.remote.filter (· != r) })]

/-- Note the answer of some request of the sled's own agents. -/
def noteAnswer (a : Agent) (p : RemReq → Bool) (v : LineVal) (failed : Bool) : Act :=
  let note := fun (q : RemReq) => if q.agent == a && p q then { q with done := true, val := v, failed := failed } else q
  .seq (.prim (.dir fun d => { d with remote := (d.remote.map note).filter fun q => !(q.done && q.tag == orphanTag) }))
    (match a with | .ferry w => settle w | .head ld tag => settleAtomic ld tag | _ => .skip)

end Sys2Proof.Machine
end

