-- ==== Sys2Proof/Machine/Lines.lean ====
section
/-!
DEFINITION. The home's service of line requests (chapters "Life of a line request" and "The Archipelago coherence
protocol"): the Lagoon, the directory, transactions, and what a request does from its start to its close.
-/

namespace Sys2Proof.Machine

/-- Every byte of a line valid. -/
def fullMask : Nat := 2 ^ 64 - 1

/-! ### The Lagoon (R63, R134, R135) -/

/-- The Lagoon's line, when all of it is valid. -/
def Mach.lagHit (m : Mach) (line : Nat) : Option LagLine := (m.lines.lagoon.find? line).filter fun l => l.mask == fullMask

/-- The newest entry of a line in the write-back buffer. -/
def Mach.wbHit (m : Mach) (line : Nat) : Option WbEnt := m.lines.wb.reverse.find? fun e => e.line == line

/-- A transaction holds the line (R181). -/
def Mach.txnOf (m : Mach) (line : Nat) : Option Txn := m.lines.txns.find? fun t => t.req.line == line

/-- Two lines share a set of one Lagoon slice. -/
def Mach.sameSet (m : Mach) (a b : Nat) : Bool :=
  m.homeOfLine a == m.homeOfLine b && Config.lagoonSet (localLine m.sled a) == Config.lagoonSet (localLine m.sled b)

/-- Lines of a line's set; a Lagoon of fewer than 8 lines neither fills a set nor its pinned ways, and is not looked at. -/
def Mach.setLines (m : Mach) (line : Nat) : List (Nat × LagLine) :=
  if m.lines.lagoon.length < 8 then [] else m.lines.lagoon.filter fun p => m.sameSet p.1 line

/-- Lines that a home may hold pinned for an atoll (R135). -/
def Mach.quotaShare (m : Mach) (n : Nat) : Nat := m.get .ATL_LAGOON_QUOTA n * m.sled.pick 2 4

/-- Pinned lines of an atoll in a home. -/
def Mach.pinnedLines (m : Mach) (n h : Nat) : Nat :=
  (m.lines.lagoon.filter fun p => p.2.pinned && m.inAtoll n (pageOfLine p.1) && m.homeOfLine p.1 == h).length

/-- A pinned placement is allowed: the home's quota share, and 8 of the 16 ways (R63, R134). -/
def Mach.pinAllowed (m : Mach) (n line : Nat) : Bool :=
  decide (m.pinnedLines n (m.homeOfLine line) < m.quotaShare n)
    && decide (((m.setLines line).filter fun p => p.2.pinned).length < 8)

/-- The earlier used of two lines. -/
def older (b : Option (Nat × LagLine)) (x : Nat × LagLine) : Option (Nat × LagLine) :=
  match b with
  | none => some x
  | some y => if x.2.lru < y.2.lru then some x else b

/-- The least recently used line of a set that is neither pinned nor busy (R63). -/
def Mach.victim (m : Mach) (line : Nat) : Option (Nat × LagLine) :=
  ((m.setLines line).filter fun p => !p.2.pinned && (m.txnOf p.1).isNone && p.2.mask == fullMask).foldl older none

/-- Free a way of a full set: the victim leaves, a dirty one into the write-back buffer (R63). -/
def evictFor (line : Nat) : Act := .read fun m =>
  .when (decide (16 ≤ (m.setLines line).length))
    (.some? (m.victim line) fun v =>
      .all [.prim (.lines fun l => { l with lagoon := l.lagoon.erase v.1 }),
        .when v.2.dirty (.prim (.lines fun l => { l with wb := l.wb ++ [⟨v.1, v.2.val, v.2.mask, v.2.master⟩] }))])

/-- Place a line in the Lagoon. A line already there keeps its pinned state; a new one of a Pin-Lagoon atoll is pinned while
the quota share and R63 allow, and otherwise counted (R134). -/
def place (n line : Nat) (v : LineVal) (dirty : Bool) (mask master : Nat) : Act := .read fun m =>
  match m.lines.lagoon.find? line with
  | some o =>
    let o' := { o with val := v, dirty := dirty || o.dirty, mask := mask, lru := m.lines.useCtr, master := master }
    .prim (.lines fun l => { l with useCtr := l.useCtr + 1, lagoon := l.lagoon.put line o' })
  | none =>
    let want := m.get .ATL_PLACE n == 1
    let pin := want && m.pinAllowed n line
    .all [evictFor line, .when (want && !pin) (.inc .ATL_QUOTA_OVER n 1),
      .prim (.lines fun l => { l with
        useCtr := l.useCtr + 1
        lagoon := l.lagoon.put line ⟨v, dirty, pin, 0, l.useCtr, mask, master⟩ })]

/-- Place a line that an agent writes, under its hint (Table 6.3): None and the reserved code update a line already there in
place, keeping its LRU position, and otherwise enter the write-back buffer. -/
def placeWrite (n line hint : Nat) (v : LineVal) (mask master : Nat) : Act := .read fun m =>
  if hint < 2 then place n line v true mask master
  else match m.lines.lagoon.find? line with
    | some o =>
      let o' := { o with val := v, dirty := true, mask := mask, master := master }
      .prim (.lines fun l => { l with lagoon := l.lagoon.put line o' })
    | none => .prim (.lines fun l => { l with wb := l.wb ++ [⟨line, v, mask, master⟩] })

/-- A use of a Lagoon line moves it to the front of its set (R63). -/
def useLine (line : Nat) : Act := .read fun m =>
  .some? (m.lines.lagoon.find? line) fun o =>
    .prim (.lines fun l => { l with useCtr := l.useCtr + 1, lagoon := l.lagoon.put line { o with lru := l.useCtr } })

/-- The home drops its Lagoon copy at a grant of E or M; a pinned line keeps its way, with no valid byte (R173). -/
def dropLine (line : Nat) : Act := .read fun m =>
  .some? (m.lines.lagoon.find? line) fun o =>
    let o' := { o with mask := 0, dirty := false, val := some 0 }
    .prim (.lines fun l => { l with lagoon := (if o.pinned then l.lagoon.put line o' else l.lagoon.erase line) })

/-- A line enters the write-back buffer. -/
def toWb (line : Nat) (v : LineVal) (master : Nat) : Act :=
  .prim (.lines fun l => { l with wb := l.wb ++ [⟨line, v, fullMask, master⟩] })

/-! ### What the home can answer without DRAM (R57, R58, R63) -/

/-- The value in the Lagoon or the write-back buffer. -/
def Mach.cached (m : Mach) (line : Nat) : Option LineVal :=
  match m.lagHit line with
  | some l => some l.val
  | none => (m.wbHit line).map (·.val)

/-- The value that the page record alone answers (R58). -/
def Mach.fromRecord (m : Mach) (line : Nat) : Option LineVal :=
  let r := (m.page (pageOfLine line)).rcd
  let i := idxOfLine line
  if r.tier = .offshore then none
  else if r.size.getD i 0 = 7 then some none
  else if r.alloc = 0 then some (some 0)
  else if r.tier ≠ .shallows ∧ r.size.getD (chainEnd r.size i) 0 = 0 then some (some 0)
  else none

/-- The value of a line without a DRAM access. -/
def Mach.atHome (m : Mach) (line : Nat) : Option LineVal :=
  match m.cached line with
  | some v => some v
  | none => m.fromRecord line

/-! ### The directory (R175, R176) -/

/-- A home entry. -/
def Mach.dirEnt (m : Mach) (line : Nat) : Option DirEnt := m.dir.ents.find? line

/-- Write or free a home entry. An entry without a holder is free (R176). -/
def setDir (line : Nat) (e : Option DirEnt) : Act := .read fun m =>
  .prim (.dir fun d => { d with ents :=
    match e with
    | none => d.ents.erase line
    | some e =>
      if e.state = 0 ∨ (e.heads = [] ∧ e.peers = 0 ∧ (e.coarse = none ∨ e.coarse = some 0)) then d.ents.erase line
      else d.ents.put line { e with use := m.lines.useCtr } })

/-- Heads that an entry covers and that view the atoll (R177). -/
def Mach.entHeads (m : Mach) (n : Nat) (e : DirEnt) : List Nat :=
  match e.coarse with
  | none => e.heads
  | some v => ((m.viewers n).map m.headOf).dedup.filter fun h => Bits.bit v (h / 3)

/-- Every holder of an entry. -/
def Mach.holdersOf (m : Mach) (n : Nat) (e : DirEnt) : List Holder :=
  (m.entHeads n e).map .head ++ (Bits.ones e.peers 8).map .peer

/-- Add a sharing head; a fifth turns the entry to coarse format (R176). -/
def DirEnt.addHead (e : DirEnt) (h : Nat) : DirEnt :=
  match e.coarse with
  | some v => { e with coarse := some (withBit v (h / 3) true) }
  | none =>
    if e.heads.contains h then e
    else if e.heads.length < 4 then { e with heads := e.heads ++ [h] }
    else { e with heads := [], coarse := some ((e.heads ++ [h]).foldl (fun v x => withBit v (x / 3) true) 0) }

/-- Remove a holder; under coarse format an entry loses no head (R176). -/
def DirEnt.remove (e : DirEnt) : Holder → DirEnt
  | .head h => { e with heads := e.heads.filter (· != h) }
  | .peer p => { e with peers := withBit e.peers p false,
                        state := if e.state = 4 ∧ e.opeer = p then 1 else e.state }

/-- The directory counters of a home (Table 8.11). -/
def dirStats (line : Nat) : Act := .read fun m =>
  let h := m.homeOfLine line
  let mine := m.dir.ents.filter fun p => m.homeOfLine p.1 == h
  let vis := m.dir.vis.filter fun p => homeIndex m.sled (pageOfLine (p.1 % 2 ^ 39)) == h
  .all [.set .DIR_VALID h (mine.length + vis.length),
    .set .DIR_COARSE h (mine.filter fun p => p.2.coarse.isSome).length,
    .set .DIR_OPEN h (m.lines.txns.filter fun t => m.homeOfLine t.req.line == h).length,
    .set .DIR_SETQ h (m.lines.waits.filter fun w => w.why == .dirSet && m.homeOfLine w.req.line == h).length,
    .set .DIR_LINEQ h (m.lines.waits.filter fun w => w.why == .chain && m.homeOfLine w.req.line == h).length]

/-! ### Snoops (R177, R190) -/

/-- LDs of a head that hold a valid view of an atoll. -/
def Mach.snoopLds (m : Mach) (n h : Nat) : List Nat := (m.headLds h).filter fun ld => (m.viewers n).contains ld

/-- Snoop kinds: 0 invalidate, 1 downgrade, 2 current read. -/
def sendSnoop (n line txid : Nat) (hd : Holder) (kind : Nat) : Act := .read fun m =>
  match hd with
  | .head h =>
    .each (m.snoopLds n h) fun ld =>
      .all [.emit (.bisnp h ld line kind), .prim (.dir fun d => { d with bisnps := d.bisnps ++ [(h, ld, line, kind)] })]
  | .peer p => send p (m.mkMsg (if kind = 0 then mSnpInv else mSnpShd) txid m.self line)

/-- The next action of Table 8.3 for a request on an entry. -/
inductive Plan where
  | serve
  | snoop (hs : List (Holder × Nat))
  | forward (owner : Nat)
  deriving DecidableEq, Repr

/-- The requester as a holder. -/
def Mach.asHolder (m : Mach) : Agent → Option Holder
  | .head ld _ => some (.head (m.headOf ld))
  | .peer p _ => some (.peer p)
  | _ => none

/-- A request that takes a line whole, or writes it. -/
def ReqOp.isWrite : ReqOp → Bool
  | .wrLine | .wrPtl | .atom => true
  | _ => false

/-- The requester is a visitor. -/
def Agent.isPeer : Agent → Bool
  | .peer _ _ => true
  | _ => false

/-- Table 8.3: what the home does next for a request. -/
def Mach.plan (m : Mach) (n : Nat) (r : Req) : Plan :=
  match m.dirEnt r.line with
  | none => if m.dir.suspect.contains (m.homeOfLine r.line, dirSet m.sled r.line) && r.kind != .rdCur then
      let hs := (((m.viewers n).map m.headOf).dedup.map .head ++ ((List.range 8).filter fun p => m.peerUp p).map .peer)
      let hs := hs.filter fun h => m.isShared n && some h != m.asHolder r.src
      if hs.isEmpty then .serve else .snoop (hs.map fun h => (h, 0))
    else .serve
  | some e =>
    let me := m.asHolder r.src
    let hs := m.holdersOf n e
    let sole := (e.state == 2 || e.state == 3) && (hs.map some == [me])
    let inv := fun (l : List Holder) => if l.isEmpty then Plan.serve else .snoop (l.map fun h => (h, 0))
    match r.kind with
    | .evict => inv hs
    | .wrLine | .wrPtl | .atom => inv hs
    | .rdCur =>
      match e.state with
      | 2 | 3 => if sole then .serve else .snoop (hs.map fun h => (h, match h with | .head _ => 2 | .peer _ => 1))
      | 4 => .snoop [(.peer e.opeer, 1)]
      | _ => .serve
    | .rdShd =>
      match e.state with
      | 2 | 3 =>
        if sole then .serve
        else match hs with
          | [.peer p] => if r.src.isPeer then .forward p else .snoop [(.peer p, 1)]
          | l => .snoop (l.map fun h => (h, 1))
      | 4 => if r.src.isPeer then .forward e.opeer else .snoop [(.peer e.opeer, 1)]
      | _ => .serve
    | .rdOwn =>
      match e.state with
      | 2 | 3 =>
        if sole then .serve
        else match hs with
          | [.peer p] => if r.src.isPeer then .forward p else .snoop [(.peer p, 0)]
          | l => inv l
      | 4 =>
        let rest := hs.filter fun h => h != .peer e.opeer && some h != me
        if !rest.isEmpty then inv rest
        else if me = some (.peer e.opeer) then .serve
        else if r.src.isPeer then .forward e.opeer
        else .snoop [(.peer e.opeer, 0)]
      | _ => inv (hs.filter fun h => some h != me)

/-! ### Answers -/

/-- Answer a requester with a value and a grant: 0 none, 1 S, 2 E, 3 M. -/
def answer (r : Req) (v : LineVal) (grant : Nat) : Act := .read fun m =>
  match r.src with
  | .head ld tag =>
    .all [sample ld r.sop r.tier r.line ((m.atollOf (pageOfLine r.line)).getD 0)
        (r.flags + (if v.isNone && !(r.kind == .wrLine || r.kind == .wrPtl) then 8 else 0)) r.start,
     if r.kind.isWrite then
      (if r.kind == .atom then
        .emit (.completion ld tag (if v.isSome then 0 else 2)
          (((lineBytes (v.getD 0)).drop r.off).take (if r.op = 4 then 16 else 8) |>.map (·.toNat)))
       else .emit (.writeCmp ld tag))
    else .emit (.readData ld tag v (if grant = 1 then 1 else if grant = 2 then 2 else 0))]
  | .peer p t =>
    let x := m.mkMsg mData t m.self r.line
    let x := { x with rqs := p, agent := r.ag }
    if r.kind == .atom then
      send p { x with poison := v.isNone,
                      body := (((lineBytes (v.getD 0)).drop r.off).take (if r.op = 4 then 16 else 8) ++ List.replicate 16 0).take 16 }
    else if r.kind.isWrite then send p { x with code := mCmp, body := [] }
    else send p { x with poison := v.isNone, grant := grant, body := lineBody v }
  | .self => .skip
  | a => noteAnswer a (fun q => q.home == m.self && q.txid == r.id) v false

/-- Open or replace the transaction of a line (R181). -/
def openTxn (t : Txn) : Act :=
  .prim (.lines fun l => { l with txns := l.txns.filter (fun x => x.req.line != t.req.line) ++ [t] })

/-- The 64 bits of a home entry (Table 8.1). -/
def DirEnt.word (s : Sled) (line : Nat) (busy : Bool) (e : DirEnt) : Nat :=
  localLine s line / 2 ^ 14 % 2 ^ 21 + e.state * 2 ^ 21 + Bits.ofBool busy * 2 ^ 24 + e.opeer % 8 * 2 ^ 26
    + (match e.coarse with
      | none => e.heads.length * 2 ^ 29 + ((List.range e.heads.length).map fun j => e.heads.getD j 0 % 64 * 2 ^ (32 + 6 * j)).sum
      | some v => 7 * 2 ^ 29 + v % 2 ^ 24 * 2 ^ 32)
    + e.peers % 256 * 2 ^ 56

/-- What the target of a handover installs for an entry: this sled is one visitor, in the strongest state of its heads
(Table 13.4 step 3). -/
def Mach.handEntry (m : Mach) (e : DirEnt) : DirEnt :=
  let mine := !e.heads.isEmpty || e.coarse.isSome
  { state := e.state, opeer := e.opeer, peers := if mine then withBit e.peers m.self true else e.peers }

/-- Send HANDOVER for each pair that is being handed over and whose atoll has no transaction open (Table 13.4 steps 2 and
3). -/
def handoverTry : Act := .read fun m =>
  .each (m.arc.pairs.filter fun p => p.handing && !p.handed && !(m.lines.txns.any fun t => m.inAtoll p.atoll (pageOfLine t.req.line))) fun p =>
    .newId fun t => .read fun m =>
      let ents := m.dir.ents.filter fun x => m.inAtoll p.atoll (pageOfLine x.1)
      .all [.prim (.arc fun a => { a with
          pairs := a.pairs.map fun q => if q = p then { q with handed := true } else q
          svc := a.svc ++ [⟨p.peer, mHandover, t % 2 ^ 16, p.atoll⟩] }),
        send p.peer { m.mkMsg mHandover t m.self (m.atollPage p.atoll * 64) with
          body := ents.flatMap fun x => Bits.leBytes 8 (x.1 * 64) ++ Bits.leBytes 8 ((m.handEntry x.2).word m.sled x.1 false) }]

/-- Close the transaction of a line (R181). -/
def closeTxn (line : Nat) : Act :=
  .all [.prim (.lines fun l => { l with txns := l.txns.filter fun x => x.req.line != line }), dirStats line, handoverTry]

/-- A request waits (R60, R133, R181, R197). -/
def wait (r : Req) (why : WaitWhy) : Act := .read fun m =>
  let f := match why with | .lock => 16 | .recall => 512 | _ => 0
  .all [.prim (.lines fun l => { l with waits := l.waits ++ [⟨{ r with flags := r.flags ||| f }, why⟩] }), dirStats r.line,
    .when (why == .lock) (eventAt (m.homeOfLine r.line) 0x08 0 1)]

/-! ### Mirror writes (R297) -/

/-- The pair of which this sled is primary for an atoll. -/
def Mach.primaryPair (m : Mach) (n : Nat) : Option Pair := m.arc.pairs.find? fun p => p.atoll == n && p.role == 0

/-- The partner that must acknowledge changes: the pair's peer while it does not serve alone (R297, R298). -/
def Mach.mirrorPeer (m : Mach) (n : Nat) : Option Nat :=
  match m.primaryPair n with
  | some p => if !p.solo && (m.upLink p.peer).isSome then some p.peer else none
  | none => none

/-- The page of a primary that serves alone is marked `MIRROR_DIRTY` when it changes (R298). -/
def mirrorDirty (n pn : Nat) : Act := .read fun m =>
  .when ((m.primaryPair n).isSome && (m.mirrorPeer n).isNone && !(m.page pn).rcd.mirrorDirty)
    (.all [.rcd pn fun r => { r with mirrorDirty := true }, .inc .ARC_ATL_DIRTY n 1])

/-- Send MIR_WR of a line's value under a byte mask (Table 13.2). -/
def sendMirWr (n peer txid line : Nat) (v : LineVal) (mask : Nat) : Act := .read fun m =>
  .all [send peer { m.mkMsg mMirWr txid m.self line with poison := v.isNone, body := lineBody v ++ Bits.leBytes 8 mask },
    .prim (.arc fun a => { a with svc := a.svc ++ [⟨peer, mMirWr, txid % 2 ^ 16, n⟩] })]

/-! ### Serving and applying -/

/-- The value of a line with some bytes replaced under a mask. -/
def mergeBytes (old new : Line) (mask : Nat) : Line :=
  lineOf ((List.range 64).map fun j =>
    if Bits.bit mask j then BitVec.ofNat 8 (Bits.field new.toNat (8 * j) 8) else BitVec.ofNat 8 (Bits.field old.toNat (8 * j) 8))

/-- An atomic on a line: the new line (Table 8.8). Operands are little-endian, 8 or 16 bytes. -/
def atomLine (op off a b : Nat) (l : Line) : Line :=
  let w := if op = 4 then 128 else 64
  let old := Bits.field l.toNat (8 * off) w
  let new := match op with
    | 1 => (old + a) % 2 ^ 64
    | 2 => a
    | 3 => if old = a % 2 ^ 64 then b else old
    | 4 => if old = a % 2 ^ 128 then b else old
    | 5 => old &&& a
    | _ => old ||| a
  BitVec.ofNat 512 (Bits.setField l.toNat (8 * off) w new)

/-- The operand of an atomic is aligned and in the line, and its code is one of Table 8.8 (R194). -/
def atomOk (op off : Nat) : Bool := decide (1 ≤ op ∧ op ≤ 6 ∧ off % (if op = 4 then 16 else 8) = 0 ∧ off < 64)

/-- Fill the Lagoon on a read miss from a head or a visitor (Table 6.2). -/
def fill (n : Nat) (r : Req) (v : LineVal) : Act := .read fun m =>
  match r.src with
  | .head _ _ | .peer _ _ =>
    if (m.lagHit r.line).isSome then useLine r.line
    else .when ((m.wbHit r.line).isNone) (place n r.line v false fullMask (m.masterOf r.src))
  | _ => .skip

/-- The grant of a read (Table 8.3, R183): heads S or E, visitors S, E or M; 0 when the requester is not tracked. -/
def Mach.grantOf (m : Mach) (n : Nat) (r : Req) : Nat :=
  let dirty := (m.lagHit r.line).any (·.dirty)
  match r.kind, r.src with
  | .rdShd, .head _ _ => if m.isShared n then 1 else 0
  | .rdOwn, .head _ _ => if m.isShared n then 2 else 0
  | .rdShd, .peer _ _ => if (m.dirEnt r.line).isNone && (m.lagHit r.line).isNone then 2 else 1
  | .rdOwn, .peer _ _ => if dirty && !m.flag .ATL_VISITOR_WT n then 3 else 2
  | _, _ => 0

/-- Record the grant in the directory (R176). -/
def recordGrant (r : Req) (grant : Nat) : Act := .read fun m =>
  match m.asHolder r.src, grant with
  | some _, 0 => .skip
  | some (.head h), 1 => setDir r.line (some (((m.dirEnt r.line).getD { state := 1 }).addHead h))
  | some (.peer p), 1 =>
    let e := (m.dirEnt r.line).getD { state := 1 }
    setDir r.line (some { e with peers := withBit e.peers p true })
  | some (.head h), g => setDir r.line (some { state := g, heads := [h] })
  | some (.peer p), g => setDir r.line (some { state := g, peers := 2 ^ p })
  | none, _ => .skip

/-- Give a read its data with a grant (Table 8.3, R173, R183): fill, grant, answer, and close, or wait for a visitor's
`GNT_ACK`. -/
def deliver (n : Nat) (r : Req) (v : LineVal) (g : Nat) : Act := .read fun m =>
  .all [.when (decide (g < 2)) (fill n r v),
    .when (decide (2 ≤ g))
      (.all [.some? (m.lagHit r.line) fun l => .when (l.dirty && g == 2) (toWb r.line l.val l.master), dropLine r.line,
        mirrorDirty n (pageOfLine r.line)]),
    recordGrant r g, answer r v g,
    if r.src.isPeer && g != 0 then openTxn { req := r, phase := .gnt, grant := g } else closeTxn r.line]

/-- The partner that must be told before a grant of E or M to a holder that is not on it (R297). -/
def Mach.ownPeer (m : Mach) (n g : Nat) (r : Req) : Option Nat :=
  if g < 2 then none
  else match m.mirrorPeer n, r.src with
    | some p, .peer q _ => if p = q then none else some p
    | x, _ => x

/-- Serve a read: the partner is told of a grant of E or M first, and its acknowledgement waited for (R297). -/
def serve (n : Nat) (r : Req) (v : LineVal) : Act := .newId fun t => .read fun m =>
  let g := m.grantOf n r
  match m.ownPeer n g r with
  | none => deliver n r v g
  | some p =>
    .all [send p (m.mkMsg mMirOwn t m.self r.line),
      .prim (.arc fun a => { a with svc := a.svc ++ [⟨p, mMirOwn, t % 2 ^ 16, n⟩] }),
      openTxn { req := { r with data := v, a := t % 2 ^ 16 }, phase := .mir, grant := g }]

/-- A peer may be sent a pushed copy (R137): the atoll is S, the peer holds a view of it, and its link is in service. -/
def Mach.pushTo (m : Mach) (n p : Nat) : Bool :=
  m.sled == .dx32 && m.isShared n && p != m.self && m.peerUp p
    && (m.arc.binds.contains (n, p) || m.arc.pairs.any fun x => x.atoll == n && x.peer == p && x.mode == 2)

/-- A write closes; with a Peer hint the home first sends a copy in S to the peer, and the line stays busy (R136, R189). -/
def closeWrite (n : Nat) (r : Req) : Act := .newId fun t => .read fun m =>
  if r.hint = 1 ∧ m.pushTo n r.hintPeer then
    let v := (m.cached r.line).getD (some 0)
    .all [setDir r.line (some { state := 1, peers := 2 ^ r.hintPeer }),
      send r.hintPeer { m.mkMsg mData t m.self r.line with rqs := r.hintPeer, push := true, grant := 1,
                                                           poison := v.isNone, body := lineBody v },
      openTxn { req := r, phase := .gnt, grant := 1, push := true }, dirStats r.line]
  else closeTxn r.line

/-- Apply a write whose other copies are gone: the line is dirty in the Lagoon, its entry is free (Table 8.3), a mirror
partner is told and waited for (R297), and the completion is sent with the value `ans`. -/
def applyWrite (n : Nat) (r : Req) (v : LineVal) (ans : LineVal) (mask : Nat) : Act := .newId fun t => .read fun m =>
  let pn := pageOfLine r.line
  .all [placeWrite n r.line r.hint v fullMask (m.masterOf r.src), setDir r.line none, mirrorDirty n pn,
    match m.mirrorPeer n with
    | some p => .all [sendMirWr n p t r.line v mask, openTxn { req := { r with data := ans, a := t % 2 ^ 16 }, phase := .mir }]
    | none => .all [answer r ans 0, closeWrite n r]]

/-- The partner has acknowledged the change of an open transaction: its grant, or its completion (R297). -/
def mirrorAcked (n : Nat) (t : Txn) : Act :=
  if t.req.kind.isWrite then .all [answer t.req t.req.data 0, closeWrite n t.req]
  else deliver n t.req t.req.data t.grant

/-- A line of a primary becomes poison: the partner is told (R297). -/
def mirrorPoison (n line : Nat) : Act := .newId fun t => .read fun m =>
  .all [mirrorDirty n (pageOfLine line), .some? (m.mirrorPeer n) fun p => sendMirWr n p t line none fullMask]

/-- A write-back taken by a primary is sent to the partner (R297). -/
def mirrorLine (n line : Nat) (v : LineVal) (mask : Nat) : Act := .newId fun t => .read fun m =>
  .all [mirrorDirty n (pageOfLine line), .some? (m.mirrorPeer n) fun p => sendMirWr n p t line v mask]

/-- The header priority of a request that does not come from its master's register: of its queue pair, or of the packet that
brought it (R308). -/
def Mach.headerPrio (m : Mach) : Agent → Option Nat
  | .queue q => some (m.get .QP_PRIO q)
  | .peer p _ => (m.linkTo p).map fun l => ((m.bql.links.find? l).getD {}).prio
  | _ => none

/-- Read the line's grains from DRAM for a transaction (R57 steps 5 to 7). -/
def readDram (r : Req) (k : AccKind) : Act := .newId fun id => .read fun m =>
  let rec' := (m.page (pageOfLine r.line)).rcd
  let j := match rec'.tier with | .shallows => idxOfLine r.line | _ => chainEnd rec'.size (idxOfLine r.line)
  let g := lineGrains rec' j
  .prim (.lines fun l => { l with accs := l.accs ++
    [{ id := id, kind := k, line := r.line, ga := g.1, grains := g.2, chan := m.chanOf g.1, master := m.masterOf r.src,
       prio := m.headerPrio r.src }] })

/-- Answer a request that the home cannot serve: poison for a read, a drop for a write (R54). -/
def answerDead (r : Req) : Act := answer r none (if r.kind = .rdShd then 1 else if r.kind = .rdOwn then 2 else 0)

/-- The error RSP of an isolated block answers a request: poison for a read; a write is dropped and counted (R360, R365). -/
def answerError (r : Req) : Act := .read fun m =>
  .all [.when r.kind.isWrite (match r.src with
      | .head ld _ => .inc .HBR_HEAD_DISCARDS (m.headOf ld) 1
      | _ => .skip), answerDead r]

/-- The channel of an extent is isolated: nothing is read from it or written to it (R360, R365). -/
def Mach.chanDead (m : Mach) (ga : Nat) : Bool := m.bkw.isolated.contains (0x03, m.chanOf ga)

/-- The line must come from storage: it waits for a lock or a recall, starts a recall or a remote read of an Offshore page,
or reads DRAM (R60, R132, R133). -/
def fetch (n : Nat) (r : Req) (ph : Phase) : Act := .read fun m =>
  let pn := pageOfLine r.line
  let x := (m.page pn).rcd
  let k := if ph = .merge then AccKind.merge else .fill
  if x.alloc ≠ 0 ∧ x.tier ≠ .offshore ∧ m.chanDead x.base then
    (if ph = .merge then .all [.inc .GRN_DROPPED 0 1, dropLine r.line, closeTxn r.line]
     else .all [answerError r, closeTxn r.line])
  else if x.lock then .all [closeTxn r.line, wait r .lock]
  else if x.recallPending then .all [closeTxn r.line, wait r .recall]
  else if x.tier = .offshore then
    if m.recallNow n pn then .all [closeTxn r.line, startRecall pn, wait r .recall]
    else .all [openTxn { req := r, phase := ph }, .inc .TIER_REMOTE_READS 0 1, getImage pn .remoteRead r.id]
  else .all [openTxn { req := r, phase := ph }, readDram r k, dirStats r.line]

/-- Perform an atomic on the line's value: the operation, or poison that writes nothing (R194). -/
def doAtom (n : Nat) (r : Req) (v : LineVal) : Act :=
  .all [.inc .DIR_ATOMICS 0 1,
    match v with
    | some l => applyWrite n r (some (atomLine r.op r.off r.a r.b l)) (some l) fullMask
    | none => .all [answer r none 0, closeTxn r.line]]

/-- A partial write that hits: merged in the Lagoon; over a poisoned line it is dropped and counted (R62). -/
def partialHit (n : Nat) (r : Req) (v : LineVal) : Act :=
  match v with
  | some l => applyWrite n r (some (mergeBytes l (r.data.getD 0) r.mask)) (some 0) r.mask
  | none => .all [.inc .GRN_DROPPED 0 1, answer r (some 0) 0, closeTxn r.line]

/-- All other copies are as the request needs them: grant, apply, or free an evicted entry (Table 8.3). -/
def finish (n : Nat) (r : Req) : Act := .read fun m =>
  match r.kind with
  | .evict => .all [setDir r.line none, closeTxn r.line]
  | .wrLine => applyWrite n r r.data (some 0) fullMask
  | .wrPtl =>
    match m.atHome r.line with
    | some v => partialHit n r v
    | none =>
      if 2 ≤ r.hint then fetch n r .mem
      else .all [place n r.line r.data true r.mask (m.masterOf r.src), setDir r.line none, answer r (some 0) 0,
        fetch n r .merge]
  | .atom =>
    match m.atHome r.line with
    | some v => doAtom n r v
    | none => fetch n r .mem
  | _ =>
    match (m.dirEnt r.line) with
    | some e =>
      if r.kind = .rdOwn ∧ e.state = 4 ∧ m.asHolder r.src = some (.peer e.opeer) then
        -- The owner keeps the line and becomes M by CMP alone.
        match r.src with
        | .peer p t => .all [setDir r.line (some { state := 3, peers := 2 ^ p }),
            send p { m.mkMsg mCmp t m.self r.line with rqs := p, agent := r.ag, grant := 3 },
            openTxn { req := r, phase := .gnt, grant := 3 }]
        | _ => .skip
      else match m.atHome r.line with
        | some v => serve n r v
        | none => fetch n r .mem
    | none => match m.atHome r.line with
      | some v => serve n r v
      | none => fetch n r .mem

/-- Take the next action of Table 8.3 for a request whose line is not held by another transaction. -/
def advance (n : Nat) (r : Req) : Act := .newId fun t => .read fun m =>
  match m.plan n r with
  | .serve => finish n r
  | .forward o =>
    let rqs := match r.src with | .peer p _ => p | _ => m.self
    let tx := match r.src with | .peer _ t => t | _ => t
    .all [.inc .DIR_FWD3 0 1, openTxn { req := r, phase := .fwd, owner := o },
      send o { m.mkMsg (if r.kind = .rdOwn then mFwdOwn else mFwdShd) tx m.self r.line with
        rqs := rqs, agent := r.ag, grant := if r.kind = .rdOwn then m.grantOf n r else 1 },
      dirStats r.line]
  | .snoop hs =>
    let live := hs.filter fun x => match x.1 with | .head h => !(m.snoopLds n h).isEmpty | .peer _ => true
    let gone := hs.filter fun x => match x.1 with | .head h => (m.snoopLds n h).isEmpty | .peer _ => false
    .all [.some? (m.dirEnt r.line) fun e => setDir r.line (some (gone.foldl (fun e x => e.remove x.1) e)),
      if live.isEmpty then finish n r
      else .all [openTxn { req := { r with flags := r.flags ||| 32 }, phase := .col, await := live.map (·.1) },
        .each live fun x => sendSnoop n r.line t x.1 x.2, dirStats r.line,
        eventAt (m.homeOfLine r.line) 0x07 0 live.length]]

/-! ### Starting a request -/

/-- The home's islet is isolated (R360, R365). -/
def Mach.homeDead (m : Mach) (h : Nat) : Bool := m.bkw.isolated.contains (1, m.servingInst h)

/-- The requests of a home wait at their injection point: its home-table entry is held (R352, R369). -/
def Mach.homeHeld (m : Mach) (h : Nat) : Bool := m.flag .NOC_HOME_HOLD h

/-- A tracked read that will need a new directory entry. -/
def Mach.needsEntry (m : Mach) (n : Nat) (r : Req) : Bool :=
  (m.dirEnt r.line).isNone && (r.kind == .rdShd || r.kind == .rdOwn) &&
    (match r.src with | .head _ _ => m.isShared n | .peer _ _ => true | _ => false)

/-- Entries of the directory set of a line, other than the line itself. -/
def Mach.setEnts (m : Mach) (line : Nat) : List (Nat × DirEnt) :=
  if m.dir.ents.length < 12 then []
  else m.dir.ents.filter fun p => p.1 != line && m.homeOfLine p.1 == m.homeOfLine line && dirSet m.sled p.1 == dirSet m.sled line

/-- Rank of an entry as a victim: S first, then E, then M or O (R196). -/
def victimRank (e : DirEnt) : Nat := match e.state with | 1 => 0 | 2 => 1 | _ => 2

/-- The victim way of a full set (R196). The pseudo-LRU is taken as true LRU (log entry 12). -/
def Mach.dirVictim (m : Mach) (line : Nat) : Option Nat :=
  (((m.setEnts line).filter fun p => (m.txnOf p.1).isNone).foldl
    (fun (b : Option (Nat × DirEnt)) x => match b with
      | none => some x
      | some y => if victimRank x.2 < victimRank y.2 ∨ (victimRank x.2 = victimRank y.2 ∧ x.2.use < y.2.use) then some x else b)
    none).map (·.1)

/-- Where a request is served from, as a sample record names it (Table 19.4). -/
def Mach.tierTag (m : Mach) (r : Req) : Nat :=
  if r.kind == .wrLine || r.kind == .wrPtl then 6
  else if (m.cached r.line).isSome then 0
  else if (m.fromRecord r.line).isSome then 5
  else match (m.page (pageOfLine r.line)).rcd.tier with
    | .shallows => 1
    | .offshore => 3
    | _ => 2

/-- Begin a request at its home: the refusals of the atoll's condition, the wait for a busy line, the access count, the room
in the directory, and Table 8.3. -/
def begin (r : Req) : Act := .read fun m =>
  let pn := pageOfLine r.line
  match m.atollOf pn with
  | none => answerDead r
  | some n =>
    if m.homeHeld (m.homeOfLine r.line) then wait r .held
    else if m.homeDead (m.homeOfLine r.line) then
      answerError r
    else if m.flag .ARC_ATL_FENCED n then answerDead r
    else if m.keysAbsent n then .all [.when r.kind.isWrite (.inc .GRN_DROPPED 0 1), answerDead r]
    else if (m.txnOf r.line).isSome || (m.arc.pairs.any fun p => p.atoll == n && p.handing) then wait r .chain
    else if m.needsEntry n r && decide (12 ≤ (m.setEnts r.line).length) then
      match m.dirVictim r.line with
      | none => .all [.inc .DIR_SETFULL_WAITS 0 1, wait r .dirSet]
      | some v =>
        .all [.inc .DIR_EVICTIONS 0 1, wait r .dirSet,
          .some? (m.atollOf (pageOfLine v)) fun n' =>
            .newId fun id => advance n' { id := id, src := .self, kind := .evict, line := v }]
    else .all [.when (r.kind != .evict) (touch n pn),
      eventAt (m.homeOfLine r.line) 0x01 0 1, .when (m.lagHit r.line).isSome (eventAt (m.homeOfLine r.line) 0x02 0 1),
      advance n { r with tier := m.tierTag r }]

/-- Take a waiting request off its list. -/
def unwait (r : Req) : Act :=
  .prim (.lines fun l => { l with waits := l.waits.filter fun w => w.req.id != r.id })

/-- Requests that can go on now: the head of the chain of a line that is free, or one that waited for a way of its set. -/
def Mach.nextWait (m : Mach) (line : Nat) : Option Req :=
  if (m.txnOf line).isSome then none
  else (m.lines.waits.find? fun w =>
    (w.why == .chain && w.req.line == line) ||
      (w.why == .dirSet && m.homeOfLine w.req.line == m.homeOfLine line && dirSet m.sled w.req.line == dirSet m.sled line
        && decide ((m.setEnts w.req.line).length < 12))).map (·.req)

/-- Each close starts the request at the head of the chain (R181); as many as wait can close in turn. -/
def wakeN (line : Nat) : Nat → Act
  | 0 => .skip
  | k + 1 => .read fun m =>
    match m.nextWait line with
    | none => .skip
    | some r => .all [unwait r, begin r, wakeN line k]

/-- Start what a close of the line lets go on. -/
def wake (line : Nat) : Act := .read fun m => wakeN line (m.lines.waits.length + 1)

/-- A new request: drawn an id and a time, begun, and what its close lets go on. -/
def request (src : Agent) (kind : ReqOp) (line : Nat) (f : Req → Req) : Act := .newId fun id => .read fun m =>
  .all [begin (f { id := id, src := src, kind := kind, line := line, start := m.now }), wake line]

end Sys2Proof.Machine
end

