-- ==== Sys2Proof/Machine/Coherence.lean ====
section
/-!
DEFINITION. The messages of the coherence protocol (chapter "The Archipelago coherence protocol"): the home's part
(Tables 8.3 and 8.4), heads' answers (Table 8.7), lost holders (R192, R198), and the visitor (Tables 8.5 and 8.6).
-/

namespace Sys2Proof.Machine

/-! ### Errors and what a message must be (R185, R266) -/

/-- A message discarded as a protocol error of its port: a head, or the link of a peer (R185). -/
def protoErr (hd : Holder) : Act := .read fun m =>
  .all [.inc .DIR_PROTO_ERR 0 1,
    match hd with
    | .head h => raise (srcId 0x02 h 3) 0 0
    | .peer p => .some? (m.linkTo p) fun l => raise (srcId 0x04 l 2) l 0]

/-- The body length that Table 12.6 gives a coherence message. -/
def bodyOk (x : Msg) : Bool :=
  let n := x.body.length
  if x.code = mWrLine ∨ x.code = mWb ∨ x.code = mWbKeep ∨ x.code = mSnpData ∨ x.code = mFwdData then n == 64
  else if x.code = mData then n == 64 || n == 16
  else if x.code = mWrPtl then n == 72
  else if x.code = mAtom then n == 48
  else n == 0

/-- A coherence message reaches this sled over an Up link of a peer; one whose body has another length is a protocol error
(R266). -/
def fromPeer (x : Msg) (a : Act) : Act := .read fun m =>
  .when (m.sled == .dx32 && (m.upLink x.src).isSome && x.src != m.self)
    (if bodyOk x then a else protoErr (.peer x.src))

/-! ### Poisoning a line outside a read (R192, R198) -/

/-- The copies of a line in the Lagoon and the write-back buffer are dropped. -/
def dropCopies (line : Nat) : Act :=
  .all [dropLine line, .prim (.lines fun l => { l with wb := l.wb.filter fun e => e.line != line })]

/-- A line becomes poison: in its page's storage, or in the Lagoon when its page is Offshore; a partner is told (R297). -/
def poisonNow (n line : Nat) (c : PoisonCause) : Act := .read fun m =>
  .all [dropCopies line,
    if (m.page (pageOfLine line)).rcd.tier = .offshore then place n line none true fullMask 70
    else markLines n (pageOfLine line) [idxOfLine line] c,
    mirrorPoison n line]

/-- A holder of one line is lost. A line that it held in E, M or O is poisoned and every other copy invalidated; an E copy of
a write-through atoll at a peer is clean (R192, R198). `peer` is the lost peer's id for its record. -/
def loseLine (line : Nat) (hd : Holder) (peer : Option Nat) : Act := .read fun m =>
  match m.dirEnt line, m.atollOf (pageOfLine line) with
  | some e, some n =>
    let owns := ((e.state == 2 || e.state == 3) && (m.holdersOf n e).contains hd)
      || (e.state == 4 && hd == .peer e.opeer)
    let clean := peer.isSome && m.flag .ATL_VISITOR_WT n && e.state == 2
    let h := m.homeOfLine line
    if owns && !clean then
      let rest := e.remove hd
      .all [poisonNow n line .mediaManagement, .inc .DIR_LOST_POISONED 0 1,
        raiseIslet h 7 (line * 64), .some? peer fun p => lhLog (srcId 0x01 h 7) 0x0043 (line * 64) p,
        setDir line (some { rest with state := 1 }),
        .read fun m' => .when ((m'.dirEnt line).isSome && (m'.txnOf line).isNone)
          (.newId fun id => advance n { id := id, src := .self, kind := .evict, line := line })]
    else setDir line (some (e.remove hd))
  | _, _ => .skip

/-! ### The home's part (Table 8.4) -/

/-- HB_COL has collected every answer: the next action of Table 8.3. A coarse vector whose heads have all answered an
invalidation ends; a current read needs nothing more. After a lost owner the requester receives poison (Table 8.10). -/
def resumeCol (n : Nat) (t : Txn) : Act := .read fun m =>
  if t.lost = 3 then deliver n t.req none (if t.req.kind = .rdOwn then 2 else 1) else
  match t.req.kind with
  | .rdCur => finish n t.req
  | .rdShd => advance n t.req
  | _ => .all [.some? (m.dirEnt t.req.line) fun e => setDir t.req.line (some { e with coarse := e.coarse.map fun _ => 0 }),
      advance n t.req]

/-- One holder has answered: the entry changes, and the last answer lets the transaction go on. -/
def collect (line : Nat) (hd : Holder) (upd : DirEnt → DirEnt) (t : Txn) : Act := .read fun m =>
  let t' := { t with await := t.await.filter (· != hd), ackEarly := t.ackEarly.filter fun p => .peer p != hd }
  .all [.some? (m.dirEnt line) fun e => setDir line (some (upd e)), openTxn t',
    .when t'.await.isEmpty (.some? (m.atollOf (pageOfLine line)) fun n => resumeCol n t'), wake line]

/-- The owner of a forward had no copy, or has written it back: the home grants from its Lagoon or storage (Table 8.4). -/
def ownerGone (line : Nat) (t : Txn) : Act := .read fun m =>
  .all [.some? (m.dirEnt line) fun e => setDir line (some (e.remove (.peer t.owner))),
    .some? (m.atollOf (pageOfLine line)) fun n => finish n t.req, wake line]

/-- The data of a holder reaches the home: into the Lagoon dirty, or into the write-back buffer when the holder keeps E
(R182, R184). -/
def takeData (n line : Nat) (v : LineVal) (keeps : Bool) (master : Nat) : Act :=
  .all [if keeps then toWb line v master else place n line v true fullMask master, mirrorLine n line v fullMask]

/-- `ACK_I` to a `SNP_RESOLVE` (Table 8.10): the lost party held the only copy, and the line is poisoned (R198). After a lost
owner every other copy is invalidated and the requester receives poison with the grant it asked for; after a lost requester the
transaction closes. -/
def resolveLost (line : Nat) (t : Txn) : Act := .newId fun id => .read fun m =>
  .some? (m.atollOf (pageOfLine line)) fun n =>
    if t.lost = 1 then
      .seq (loseLine line (.peer t.owner) (some t.owner)) (.read fun m' =>
        let hs := ((m'.dirEnt line).map (m'.holdersOf n)).getD []
        let t' := { t with phase := .col, await := hs, lost := 3 }
        if hs.isEmpty then resumeCol n t'
        else .seq (openTxn t') (.each hs fun hd => sendSnoop n line id hd 0))
    else
      match t.req.src with
      | .peer p _ =>
        .all [setDir line (some { state := 3, peers := 2 ^ p }), loseLine line (.peer p) (some p), closeTxn line, wake line]
      | _ => .all [closeTxn line, wake line]

/-- `SNP_DATA` to a `SNP_RESOLVE` (Table 8.10): the line is current at home and the entry S; the transaction closes, since the
requester has its data or is lost. -/
def resolveData (n : Nat) (x : Msg) (t : Txn) : Act := .read fun m =>
  let e := (m.dirEnt x.line).getD { state := 1 }
  let gone := match t.req.src with | .peer p _ => if t.lost = 1 then t.owner else p | _ => t.owner
  .all [takeData n x.line (msgVal x) false (64 + ((m.linkTo x.src).getD 0) / 8),
    setDir x.line (some { e with state := 1, opeer := 0, peers := withBit (withBit e.peers gone false) x.src true }),
    closeTxn x.line, wake x.line]

/-- A visitor's answer to an invalidation or a downgrade: `after` is the state it keeps (Table 8.4). `ACK_WB` counts once the
sender's `WB` has been taken. -/
def visitorAnswer (p line after : Nat) (isWb : Bool) : Act := .read fun m =>
  match m.txnOf line with
  | none => protoErr (.peer p)
  | some t =>
    match t.phase with
    | .col =>
      if !t.await.contains (.peer p) then protoErr (.peer p)
      else if t.lost = 1 ∨ t.lost = 2 then resolveLost line t
      else if isWb && !t.wbTaken.contains p then openTxn { t with ackEarly := p :: t.ackEarly.filter (· != p) }
      else collect line (.peer p)
        (fun e => if after = 0 then e.remove (.peer p) else { e with state := 1 }) t
    | .fwd =>
      if t.owner != p || after != 0 then protoErr (.peer p)
      else if isWb && !t.wbTaken.contains p then openTxn { t with ackEarly := p :: t.ackEarly.filter (· != p) }
      else ownerGone line t
    | _ => protoErr (.peer p)

/-- `WB`: the data enters the Lagoon dirty, the sender is removed, and an `ACK_WB` that came first now counts (R184). -/
def takeWb (x : Msg) : Act := .read fun m =>
  .some? (m.atollOf (pageOfLine x.line)) fun n =>
    .all [takeData n x.line (msgVal x) false (64 + ((m.linkTo x.src).getD 0) / 8),
      .some? (m.dirEnt x.line) fun e => setDir x.line (some (e.remove (.peer x.src))),
      send x.src { m.mkMsg mWbAck x.txid m.self x.line with rqs := x.rqs, agent := x.agent },
      .some? (m.txnOf x.line) fun t =>
        .seq (openTxn { t with wbTaken := x.src :: t.wbTaken })
          (.when (t.ackEarly.contains x.src) (visitorAnswer x.src x.line 0 true)),
      dirStats x.line]

/-- `WB_KEEP`: the data enters the write-back buffer and the sender keeps its state (R184, R188). -/
def takeWbKeep (x : Msg) : Act := .read fun m =>
  .some? (m.atollOf (pageOfLine x.line)) fun n =>
    .all [takeData n x.line (msgVal x) true (64 + ((m.linkTo x.src).getD 0) / 8),
      send x.src { m.mkMsg mWbAck x.txid m.self x.line with rqs := x.rqs, agent := x.agent },
      .some? (m.txnOf x.line) fun t =>
        .seq (openTxn { t with wbTaken := x.src :: t.wbTaken })
          (.when (t.ackEarly.contains x.src) (visitorAnswer x.src x.line 0 true))]

/-- `SNP_DATA`: the data is taken under R182, the holder takes the state carried, and one answer is counted. -/
def takeSnpData (x : Msg) : Act := .read fun m =>
  match m.txnOf x.line, m.atollOf (pageOfLine x.line) with
  | some t, some n =>
    if t.phase = .col ∧ t.await.contains (.peer x.src) ∧ (t.lost = 1 ∨ t.lost = 2) then resolveData n x t
    else if t.phase = .col ∧ t.await.contains (.peer x.src) then
      .all [takeData n x.line (msgVal x) (decide (x.after = 2)) (64 + ((m.linkTo x.src).getD 0) / 8),
        collect x.line (.peer x.src)
          (fun e => if x.after = 0 then e.remove (.peer x.src) else if x.after = 2 then e else { e with state := 1 }) t]
    else protoErr (.peer x.src)
  | _, _ => protoErr (.peer x.src)

/-- `GNT_ACK`: the transaction closes; after a forward the owner takes the state carried (Table 8.4). -/
def takeGntAck (x : Msg) : Act := .read fun m =>
  match m.txnOf x.line with
  | none => protoErr (.peer x.src)
  | some t =>
    match t.phase with
    | .gnt => .all [closeTxn x.line, wake x.line]
    | .fwd =>
      let rq := match t.req.src with | .peer p _ => p | _ => x.src
      let e := (m.dirEnt x.line).getD { state := 1 }
      let both := withBit (withBit e.peers t.owner true) rq true
      let e' : DirEnt :=
        if t.req.kind = .rdOwn then { state := max 2 x.grant, peers := 2 ^ rq }
        else if x.after = 4 then { e with state := 4, opeer := t.owner, peers := both }
        else if x.after = 0 then { e with state := 1, peers := withBit (withBit e.peers t.owner false) rq true }
        else { e with state := 1, peers := both }
      .all [setDir x.line (some e'), closeTxn x.line, wake x.line]
    | _ => protoErr (.peer x.src)

/-- `FWD_FAIL`: the owner kept its state; the home snoops it instead (Table 8.4). -/
def takeFwdFail (x : Msg) : Act := .newId fun id => .read fun m =>
  match m.txnOf x.line with
  | some t =>
    if t.phase = .fwd ∧ t.owner = x.src then
      .all [.inc .DIR_FWD_FAILS (m.homeOfLine x.line) 1, openTxn { t with phase := .col, await := [.peer x.src] },
        send x.src (m.mkMsg (if t.req.kind = .rdOwn then mSnpInv else mSnpShd) id m.self x.line)]
    else protoErr (.peer x.src)
  | none => protoErr (.peer x.src)

/-- `CLN_EVICT`: the sender is removed; after a pushed copy it closes the transaction (R184, R189). -/
def takeClnEvict (hd : Holder) (line : Nat) : Act := .read fun m =>
  .all [.some? (m.dirEnt line) fun e => setDir line (some (e.remove hd)),
    .some? (m.txnOf line) fun t => .when (t.push && t.phase == .gnt) (closeTxn line),
    dirStats line, wake line]

/-! ### Heads (Table 8.7, R177, R190 to R192) -/

/-- Take one BISnp of a head and line off the outstanding list. -/
def clearBisnp (h line : Nat) : Act := .read fun m =>
  match m.dir.bisnps.find? fun b => b.1 == h && b.2.2.1 == line with
  | none => .skip
  | some b => .prim (.dir fun d => { d with bisnps := d.bisnps.erase b })

/-- What the answers of a head's LDs come to at its home line: 0 BIRspI, 1 BIRspS, 2 BIRspE (R177, Table 8.4). -/
def headAnswered (h line s : Nat) : Act := .read fun m =>
  let upd := fun (e : DirEnt) => if s = 0 then e.remove (.head h) else if s = 1 then { e with state := 1 } else e
  match m.txnOf line with
  | some t =>
    if t.await.contains (.head h) then collect line (.head h) upd t
    else .some? (m.dirEnt line) fun e => setDir line (some (upd e))
  | none => .seq (.some? (m.dirEnt line) fun e => setDir line (some (upd e))) (dirStats line)

/-- The strongest answer so far of a head at a line. -/
def Mach.strongest (m : Mach) (h line : Nat) : Nat :=
  match m.txnOf line with
  | some t => ((t.strong.find? fun p => p.1 == h).map (·.2)).getD 0
  | none => 0

/-! ### The visitor -/

/-- The key of a visitor's line: home sled and line (R174). -/
def visKey (home line : Nat) : Nat := (home + 1) * 2 ^ 39 + line

/-- The line of a visitor key. -/
def visLine (k : Nat) : Nat := k % 2 ^ 39

/-- The home sled of a visitor key. -/
def visHomeOf (k : Nat) : Nat := k / 2 ^ 39 - 1

/-- The visitor entry of a key. -/
def Mach.vis (m : Mach) (k : Nat) : VisEnt := (m.dir.vis.find? k).getD {}

/-- Write a visitor entry; one that holds nothing is free (R175). -/
def setVis (k : Nat) (e : VisEnt) : Act :=
  let idle := e.state = 0 ∧ e.trans = none ∧ e.waits = [] ∧ e.await = [] ∧ e.keepReqs = [] ∧ e.snp = none ∧ e.loc = none
  .prim (.dir fun d => { d with vis := if idle then d.vis.erase k else d.vis.put k e })

/-- The home sled that serves an atoll's requests from this sled: of a remote atoll, or the primary of a Dual-home pair whose
secondary this sled is (R289, R298). -/
def Mach.visitHome (m : Mach) (n : Nat) : Option Nat :=
  if m.flag .ARC_ATL_REMOTE n then some (m.get .ARC_ATL_HOME n)
  else (m.arc.pairs.find? fun p => p.atoll == n && p.role == 1 && p.mode == 2 && !p.solo).map (·.peer)

/-- A message of the visitor to a home about a line. -/
def Mach.visMsg (m : Mach) (k code txid : Nat) (body : LineVal) (withBody : Bool) : Msg :=
  let x := m.mkMsg code txid (visHomeOf k) (visLine k)
  if withBody then { x with poison := body.isNone, body := lineBody body } else x

/-- Ask the home for a line, with the local request waiting (Table 8.5). -/
def visAsk (k code : Nat) (tr : VTrans) (r : Req) : Act := .newId fun t => .read fun m =>
  let e := m.vis k
  let hd := match m.asHolder r.src with | some (.head h) => h | _ => 0
  .all [setVis k { e with trans := some tr, waits := r :: e.waits, txid := t % 2 ^ 16 },
    send (visHomeOf k) { m.visMsg k code t none false with agent := hd }]

/-- Back-invalidate local heads of a visitor's line: kind 0 BISnpInv, 1 BISnpData, 2 BISnpCur (R186). -/
def visSnoopHeads (n k : Nat) (hs : List Nat) (kind : Nat) : Act :=
  .each hs fun h => sendSnoop n k 0 (.head h) kind

/-- Serve a local read from a visitor's line (R186, R187). -/
def visServe (n k : Nat) (r : Req) : Act := .read fun m =>
  let e := m.vis k
  let h := match m.asHolder r.src with | some (.head h) => h | _ => 0
  let rest := e.heads.filter fun p => p.1 != h
  let g := if !m.isShared n then 0 else match r.kind with | .rdShd => 1 | .rdOwn => 2 | _ => 0
  .all [setVis k { e with heads := match g with | 1 => rest ++ [(h, false)] | 2 => [(h, true)] | _ => e.heads },
    answer { r with tier := 4 } e.val g]

/-- Apply a local write to a visitor's line held in E or M; a partial write over poison is dropped. Under write-through it is
sent to the home and completes at `WB_ACK` (R187, R188). -/
def visWrite (n k : Nat) (r : Req) : Act := .newId fun t => .read fun m =>
  let e := m.vis k
  let v : LineVal := if r.kind = .wrLine then r.data else e.val.map fun old => mergeBytes old (r.data.getD 0) r.mask
  if r.kind ≠ .wrLine ∧ e.val = none then .all [.inc .GRN_DROPPED 0 1, answer { r with tier := 6 } (some 0) 0]
  else if m.flag .ATL_VISITOR_WT n ∧ e.state = 2 then
    .all [setVis k { e with val := v, heads := [], keepReqs := e.keepReqs ++ [r], keeps := e.keeps + 1 },
      send (visHomeOf k) (m.visMsg k mWbKeep t v true)]
  else .all [setVis k { e with val := v, state := 3, heads := [] }, answer { r with tier := 6 } (some 0) 0]

/-- Evict a visitor's line (Table 8.5). -/
def visEvict (k : Nat) : Act := .newId fun t => .read fun m =>
  let e := m.vis k
  match e.state with
  | 0 => .skip
  | 1 | 2 => .all [setVis k { e with state := 0, heads := [] }, send (visHomeOf k) (m.visMsg k mClnEvict t none false)]
  | _ => .all [setVis k { e with state := 0, heads := [], trans := some .miA, txid := t % 2 ^ 16 },
      send (visHomeOf k) (m.visMsg k mWb t e.val true)]

/-- Local heads that must answer before a local request is served (R186; toward its heads the visitor acts as the home,
R174). -/
def Mach.visNeed (m : Mach) (n k : Nat) (r : Req) : List Nat :=
  let h := match m.asHolder r.src with | some (.head h) => some h | _ => none
  let others := (m.vis k).heads.filter fun p => some p.1 != h
  if !m.isShared n then []
  else match r.kind with
    | .rdShd | .rdCur => (others.filter (·.2)).map (·.1)
    | .rdOwn => others.map (·.1)
    | _ => (m.vis k).heads.map (·.1)

/-- One local request at a visitor's line (Table 8.5). -/
def visStep (n k : Nat) (r : Req) : Act := .read fun m =>
  let e := m.vis k
  let own := e.state == 2 || e.state == 3
  let need := m.visNeed n k r
  let live := need.filter fun h => !(m.snoopLds n h).isEmpty
  let e' := { e with heads := e.heads.filter fun p => !(need.contains p.1 && !live.contains p.1) }
  let ask := match e.state with | 0 => VTrans.imD | 1 => .smD | _ => .omD
  if e.trans.isSome || !e.await.isEmpty then setVis k { e with waits := e.waits ++ [r] }
  else
    match r.kind with
    | .rdCur | .rdShd =>
      if e.state = 0 then visAsk k mRdShd .isD r
      else if live.isEmpty then .seq (setVis k e') (visServe n k r)
      else .seq (setVis k { e' with await := live, loc := some r })
        (visSnoopHeads n k live (if r.kind = .rdCur then 2 else 1))
    | .evict =>
      if live.isEmpty then visEvict k
      else .seq (setVis k { e' with await := live, loc := some r }) (visSnoopHeads n k live 0)
    | _ =>
      if !own then visAsk k mRdOwn ask r
      else if live.isEmpty then
        .seq (setVis k e') (if r.kind = .rdOwn then visServe n k r else visWrite n k r)
      else .seq (setVis k { e' with await := live, loc := some r }) (visSnoopHeads n k live 0)

/-- Local requests of a visitor's line that can go on, in order. -/
def visWakeN (n k : Nat) : Nat → Act
  | 0 => .skip
  | f + 1 => .read fun m =>
    let e := m.vis k
    match e.waits with
    | [] => .skip
    | r :: rest =>
      if e.trans.isSome || !e.await.isEmpty || e.snp.isSome then .skip
      else .all [setVis k { e with waits := rest }, visStep n k r, visWakeN n k f]

/-- Start the local requests that wait at a visitor's line. -/
def visWake (k : Nat) : Act := .read fun m =>
  match m.atollOf (visLine k / 64) with
  | none => .skip
  | some n => visWakeN n k ((m.vis k).waits.length + 1)

/-- Answer every local request that waits at a visitor's line with poison (Table 8.6). -/
def visFail (k : Nat) : Act := .read fun m =>
  let e := m.vis k
  .all [setVis k { e with waits := [] }, .each e.waits answerDead]

/-- The visitor's answer to a snoop in a stable state (Table 8.5). -/
def visStable (k : Nat) (x : Msg) : Act := .read fun m =>
  let e := m.vis k
  let say := fun (code : Nat) (after : Nat) =>
    send x.src { m.visMsg k code x.txid e.val (code == mSnpData) with
      rqs := x.rqs, agent := x.agent, after := after, dirty := code == mSnpData && decide (3 ≤ e.state) }
  let fwd := fun (g after : Nat) =>
    .all [setVis k { e with trans := some .fA, after := after, before := e.state, fwdTo := x.rqs, txid := x.txid,
                            heads := if g = 1 then e.heads else [] },
      send x.rqs { m.visMsg k mFwdData x.txid e.val true with rqs := x.rqs, agent := x.agent, grant := g, after := after }]
  if e.state = 0 then say mAckI 0
  else if x.code = mSnpInv then
    .all [setVis k { e with state := 0, heads := [] }, say (if e.state ≤ 2 then mAckI else mSnpData) 0]
  else if x.code = mSnpShd then
    .all [setVis k { e with state := 1 }, say (if e.state ≤ 2 then mAckS else mSnpData) 1]
  else if x.code = mSnpResolve then .all [setVis k { e with state := 1 }, say mSnpData 1]
  else if e.state = 1 then protoErr (.peer x.src)
  else if x.code = mFwdShd then fwd 1 (if e.state = 2 then 1 else 4)
  else fwd x.grant 0

/-- The visitor's answer to a snoop in a transient state (Table 8.6). -/
def visTransient (k : Nat) (x : Msg) (tr : VTrans) : Act := .read fun m =>
  let e := m.vis k
  let say := fun (code : Nat) (after : Nat) =>
    send x.src { m.visMsg k code x.txid e.val (code == mSnpData) with
      rqs := x.rqs, agent := x.agent, after := after, dirty := code == mSnpData && tr == .omD }
  let fwd := fun (g after : Nat) (st : Nat) =>
    .all [setVis k { e with trans := some .fA, after := after, before := 8, fwdTo := x.rqs },
      send x.rqs { m.visMsg k mFwdData x.txid e.val true with rqs := x.rqs, agent := x.agent, grant := g, after := st }]
  match tr with
  | .isD | .imD => say mAckI 0
  | .miA => say mAckWb 0
  | .fA => protoErr (.peer x.src)
  | .smD =>
    if x.code = mSnpInv then .all [setVis k { e with state := 0, trans := some .imD, heads := [] }, say mAckI 0]
    else if x.code = mSnpShd then say mAckS 1
    else if x.code = mSnpResolve then say mSnpData 1
    else protoErr (.peer x.src)
  | .omD =>
    if x.code = mSnpInv then .all [setVis k { e with state := 0, trans := some .imD, heads := [] }, say mSnpData 0]
    else if x.code = mFwdShd then fwd 1 8 4
    else if x.code = mFwdOwn then fwd x.grant 9 0
    else .all [setVis k { e with state := 1, trans := some .smD }, say mSnpData 1]

/-- A snoop reaches the visitor: its own head holders of an S atoll answer first (R186); while a `WB_KEEP` of the line is
unacknowledged every snoop is answered `ACK_WB` (R188). `asked` says that the heads have answered for this snoop. -/
def visSnoop (k : Nat) (x : Msg) (asked : Bool) : Act := .read fun m =>
  let e := m.vis k
  let n := (m.atollOf (visLine k / 64)).getD 0
  let hs := if m.isShared n then (e.heads.map (·.1)).filter fun h => !(m.snoopLds n h).isEmpty else []
  if !e.keepReqs.isEmpty then
    .all [setVis k { e with state := 0, heads := [] },
      send x.src { m.visMsg k mAckWb x.txid none false with rqs := x.rqs, agent := x.agent }]
  else if !e.await.isEmpty then setVis k { e with snp := some x }
  else match e.trans with
    | some tr => visTransient k x tr
    | none =>
      if hs.isEmpty || asked || e.state = 0 then visStable k x
      else .all [setVis k { e with await := hs, snp := some x, loc := none },
        visSnoopHeads n k hs (if x.code = mSnpShd ∨ x.code = mFwdShd then 1 else 0)]

/-- Every local head has answered: the local request, then the snoop that waits (R186). -/
def visResume (k : Nat) : Act := .read fun m =>
  let e := m.vis k
  let n := (m.atollOf (visLine k / 64)).getD 0
  .all [setVis k { e with loc := none, snp := none },
    .some? e.loc fun r => visStep n k r, .some? e.snp fun x => visSnoop k x e.loc.isNone, visWake k]

/-- A local head's answer at a visitor's line: 0 BIRspI, 1 BIRspS, 2 BIRspE. -/
def visHeadAnswered (h k s : Nat) : Act := .read fun m =>
  let e := m.vis k
  let rest := e.heads.filter fun p => p.1 != h
  let e' := { e with await := e.await.filter (· != h),
                     heads := match s with | 0 => rest | 1 => rest ++ [(h, false)] | _ => e.heads }
  .all [setVis k e', .when (!e.await.isEmpty && e'.await.isEmpty) (visResume k)]

/-- A BIRsp of one LD of a head (R177, R190): it answers the oldest BISnp outstanding to the head for the line. BIRspE
answers BISnpCur only; any other answer is a protocol error of the head. When no BISnp of the head for the line is left,
the strongest answer counts. -/
def birsp (h line s : Nat) : Act := .read fun m =>
  match m.dir.bisnps.find? fun b => b.1 == h && b.2.2.1 == line with
  | none => protoErr (.head h)
  | some b =>
    if s = 2 ∧ b.2.2.2 ≠ 2 then protoErr (.head h)
    else
      let best := max s (m.strongest h line)
      .all [clearBisnp h line,
        .some? (m.txnOf line) fun t =>
          openTxn { t with strong := (h, best) :: t.strong.filter fun p => p.1 != h },
        .read fun m' =>
          if m'.dir.bisnps.any fun b => b.1 == h && b.2.2.1 == line then .skip
          else .all [.some? (m'.txnOf line) fun t => openTxn { t with strong := t.strong.filter fun p => p.1 != h },
            if line < 2 ^ 39 then headAnswered h line best else visHeadAnswered h line s]]

/-- BIConflict: acknowledged and counted (R191). -/
def biConflict (h line : Nat) : Act := .all [.inc .DIR_BICONFLICT 0 1, .emit (.biConflictAck h line)]

/-! ### Holders that are lost (R192, R198, Table 9.6) -/

/-- Every line on which an entry records a head. -/
def Mach.headLines (m : Mach) (h : Nat) : List Nat :=
  (m.dir.ents.filter fun p => p.2.heads.contains h || p.2.coarse.any fun v => Bits.bit v (h / 3)).map (·.1)

/-- BISnps outstanding to some LDs of a head are answered as BIRspI (R219). -/
def answerBisnps (h : Nat) (ld : Nat → Bool) : Act := .read fun m =>
  .each (m.dir.bisnps.filter fun b => b.1 == h && ld b.2.1) fun b => birsp h b.2.2.1 0

/-- A head leaves every directory entry; lines it held in E or M are poisoned; visitor lines forget it (R192, Table 9.6). -/
def loseHead (h : Nat) : Act := .read fun m =>
  .all [answerBisnps h fun _ => true, .each (m.headLines h) fun line => loseLine line (.head h) none,
    .prim (.dir fun d => { d with vis := d.vis.map fun p => (p.1, { p.2 with heads := p.2.heads.filter fun q => q.1 != h }) })]

/-! ### What a home sends a visitor -/

/-- The request of this sled's own agents that a message answers (R187). -/
def Mach.remoteOf (m : Mach) (x : Msg) : Option RemReq :=
  m.dir.remote.find? fun r => r.txid == x.txid && r.home == x.src && !r.done

/-- Note the answer of a home to a request of this sled's own agents. -/
def remoteDone (r : RemReq) (v : LineVal) (failed : Bool) : Act := noteAnswer r.agent (· == r) v failed

/-- `DATA`, `FWD_DATA` and `CMP` at a visitor (Table 8.6, R189). -/
def visData (x : Msg) : Act := .read fun m =>
  let k := visKey x.home x.line
  let e := m.vis k
  let ack := fun (g : Nat) => send x.home { m.visMsg k mGntAck x.txid none false with
    rqs := m.self, agent := x.agent, grant := g, after := if x.code = mFwdData then x.after else 0 }
  match m.remoteOf x with
  | some r => remoteDone r (if x.poison then none else some (lineOf ((x.body ++ List.replicate 64 0).take 64))) false
  | none =>
    if x.push then
      if e.trans.isNone && e.await.isEmpty && decide (e.state ≤ 1) then
        .all [setVis k { e with state := 1, val := msgVal x }, ack 1]
      else send x.home { m.visMsg k mClnEvict x.txid none false with rqs := m.self, agent := x.agent }
    else match e.trans with
      | some tr =>
        if (tr == .isD || tr == .imD || tr == .smD || tr == .omD) && e.txid == x.txid then
          .all [setVis k { e with state := x.grant, trans := none, val := if x.code = mCmp then e.val else msgVal x },
            ack x.grant, visWake k]
        else protoErr (.peer x.src)
      | none => protoErr (.peer x.src)

/-- `CMP_ERR` at a visitor (Table 8.6). -/
def visCmpErr (x : Msg) : Act := .read fun m =>
  let k := visKey x.home x.line
  let e := m.vis k
  match m.remoteOf x with
  | some r => remoteDone r none true
  | none =>
    match e.trans with
    | some .isD | some .imD => .all [setVis k { e with state := 0, trans := none }, visFail k]
    | some .smD => .all [setVis k { e with state := 1, trans := none }, visFail k]
    | some .omD => .all [setVis k { e with state := 4, trans := none }, visFail k]
    | _ => protoErr (.peer x.src)

/-- `WB_ACK` at a visitor: a write-through store completes, or the eviction ends (R188, Table 8.6). -/
def visWbAck (x : Msg) : Act := .read fun m =>
  let k := visKey x.home x.line
  let e := m.vis k
  match e.keepReqs with
  | r :: rest => .all [setVis k { e with keepReqs := rest, keeps := rest.length }, answer { r with tier := 6 } (some 0) 0, visWake k]
  | [] =>
    if e.trans = some .miA then .all [setVis k { e with state := 0, trans := none }, visWake k]
    else protoErr (.peer x.src)

/-- The link has acknowledged a `FWD_DATA`: the owner takes its state after the forward (Table 8.6). -/
def fwdAcked (k : Nat) : Act := .read fun m =>
  let e := m.vis k
  .when (e.trans == some .fA)
    (.all [setVis k (match e.after with
        | 8 => { e with trans := some .omD }
        | 9 => { e with trans := some .imD, state := 0, heads := [] }
        | a => { e with trans := none, state := a }), visWake k])

/-- A `FWD_DATA` is undelivered: the owner returns to its state before the forward and sends `FWD_FAIL` (R187). -/
def fwdUndelivered (k txid : Nat) : Act := .read fun m =>
  let e := m.vis k
  .when (e.trans == some .fA)
    (.all [setVis k (match e.before with
        | 8 => { e with trans := some .omD }
        | b => { e with trans := none, state := b }),
      send (visHomeOf k) (m.visMsg k mFwdFail txid none false), visWake k])

/-! ### Commands: requests at the home (Table 8.2) -/

/-- A REQ of a visitor for a line homed here. -/
def homeReq (x : Msg) (k : ReqOp) (f : Req → Req) : Act := .read fun m =>
  .when (x.home == m.self) (request (.peer x.src x.txid) k x.line fun r => { f r with ag := x.agent })

/-- `ATOM` at the home: a misaligned operand, or an operation outside Table 8.8, is answered with `CMP_ERR`, whose status the
manual does not give (R194; log entry 4). -/
def homeAtom (x : Msg) : Act := .read fun m =>
  let off := ((x.body.getD 32 0).toNat) % 64
  if atomOk x.opst off then
    homeReq x .atom fun r => { r with op := x.opst, off := off, a := Bits.leNat (x.body.take 16),
                                      b := Bits.leNat ((x.body.drop 16).take 16) }
  else .when (x.home == m.self) (.free fun v =>
    send x.src { m.mkMsg mCmpErr x.txid m.self x.line with rqs := x.rqs, agent := x.agent, opst := v.toNat % 256 })

/-- RD_CUR (R182). -/
def execRdCur (x : Msg) (s : State) : Host.Outcome State Fault Refusal :=
  s.act (fromPeer { x with code := mRdCur } (homeReq x .rdCur id))

/-- RD_SHD (R182). -/
def execRdShd (x : Msg) (s : State) : Host.Outcome State Fault Refusal :=
  s.act (fromPeer { x with code := mRdShd } (homeReq x .rdShd id))

/-- RD_OWN (R182). -/
def execRdOwn (x : Msg) (s : State) : Host.Outcome State Fault Refusal :=
  s.act (fromPeer { x with code := mRdOwn } (homeReq x .rdOwn id))

/-- WR_LINE (R182). -/
def execWrLine (x : Msg) (s : State) : Host.Outcome State Fault Refusal :=
  s.act (fromPeer { x with code := mWrLine } (homeReq x .wrLine fun r => { r with data := msgVal x }))

/-- WR_PTL (R182). -/
def execWrPtl (x : Msg) (s : State) : Host.Outcome State Fault Refusal :=
  s.act (fromPeer { x with code := mWrPtl } (homeReq x .wrPtl fun r =>
    { r with data := some (lineOf (x.body.take 64)), mask := Bits.leNat ((x.body.drop 64).take 8) }))

/-- ATOM (R194). -/
def execAtom (x : Msg) (s : State) : Host.Outcome State Fault Refusal := s.act (fromPeer { x with code := mAtom } (homeAtom x))

/-- A snoop of a home to this sled as visitor. -/
def snooped (x : Msg) : Act := visSnoop (visKey x.src x.line) x false

/-- SNP_INV (R187). -/
def execSnpInv (x : Msg) (s : State) : Host.Outcome State Fault Refusal :=
  s.act (fromPeer { x with code := mSnpInv } (snooped { x with code := mSnpInv }))

/-- SNP_SHD (R187). -/
def execSnpShd (x : Msg) (s : State) : Host.Outcome State Fault Refusal :=
  s.act (fromPeer { x with code := mSnpShd } (snooped { x with code := mSnpShd }))

/-- FWD_SHD (R187). -/
def execFwdShd (x : Msg) (s : State) : Host.Outcome State Fault Refusal :=
  s.act (fromPeer { x with code := mFwdShd } (snooped { x with code := mFwdShd }))

/-- FWD_OWN (R187). -/
def execFwdOwn (x : Msg) (s : State) : Host.Outcome State Fault Refusal :=
  s.act (fromPeer { x with code := mFwdOwn } (snooped { x with code := mFwdOwn }))

/-- SNP_RESOLVE (R187). -/
def execSnpResolve (x : Msg) (s : State) : Host.Outcome State Fault Refusal :=
  s.act (fromPeer { x with code := mSnpResolve } (snooped { x with code := mSnpResolve }))

/-- ACK_I (R185). -/
def execAckI (x : Msg) (s : State) : Host.Outcome State Fault Refusal :=
  s.act (fromPeer { x with code := mAckI } (visitorAnswer x.src x.line 0 false))

/-- ACK_S (R185). -/
def execAckS (x : Msg) (s : State) : Host.Outcome State Fault Refusal :=
  s.act (fromPeer { x with code := mAckS } (visitorAnswer x.src x.line 1 false))

/-- ACK_WB (R185). -/
def execAckWb (x : Msg) (s : State) : Host.Outcome State Fault Refusal :=
  s.act (fromPeer { x with code := mAckWb } (visitorAnswer x.src x.line 0 true))

/-- CMP at the requester: the grant without data (Table 8.6). -/
def execCmp (x : Msg) (s : State) : Host.Outcome State Fault Refusal :=
  s.act (fromPeer { x with code := mCmp } (visData { x with code := mCmp }))

/-- CMP_ERR (Table 8.6). -/
def execCmpErr (x : Msg) (s : State) : Host.Outcome State Fault Refusal := s.act (fromPeer { x with code := mCmpErr } (visCmpErr x))

/-- GNT_ACK (R185). -/
def execGntAck (x : Msg) (s : State) : Host.Outcome State Fault Refusal :=
  s.act (fromPeer { x with code := mGntAck } (takeGntAck x))

/-- CLN_EVICT (R184). -/
def execClnEvict (x : Msg) (s : State) : Host.Outcome State Fault Refusal :=
  s.act (fromPeer { x with code := mClnEvict } (takeClnEvict (.peer x.src) x.line))

/-- WB_ACK (Table 8.6). -/
def execWbAck (x : Msg) (s : State) : Host.Outcome State Fault Refusal := s.act (fromPeer { x with code := mWbAck } (visWbAck x))

/-- FWD_FAIL (R185). -/
def execFwdFail (x : Msg) (s : State) : Host.Outcome State Fault Refusal :=
  s.act (fromPeer { x with code := mFwdFail } (takeFwdFail x))

/-- DATA (Table 8.6). -/
def execData (x : Msg) (s : State) : Host.Outcome State Fault Refusal :=
  s.act (fromPeer { x with code := mData } (visData { x with code := mData }))

/-- WB (R184). -/
def execWb (x : Msg) (s : State) : Host.Outcome State Fault Refusal := s.act (fromPeer { x with code := mWb } (takeWb x))

/-- WB_KEEP (R184). -/
def execWbKeep (x : Msg) (s : State) : Host.Outcome State Fault Refusal :=
  s.act (fromPeer { x with code := mWbKeep } (takeWbKeep x))

/-- SNP_DATA (R185). -/
def execSnpData (x : Msg) (s : State) : Host.Outcome State Fault Refusal :=
  s.act (fromPeer { x with code := mSnpData } (takeSnpData x))

/-- FWD_DATA (R193). -/
def execFwdData (x : Msg) (s : State) : Host.Outcome State Fault Refusal :=
  s.act (fromPeer { x with code := mFwdData } (visData { x with code := mFwdData }))

/-- VISITOR_EVICTION: the visitor evicts a line of a home (Table 8.5); a line in a transient state is not evicted. -/
def visitorEviction (home line : Nat) : Act := .newId fun id => .read fun m =>
  let k := visKey home line
  let e := m.vis k
  .when (e.state != 0 && e.trans.isNone && e.await.isEmpty)
    (visStep ((m.atollOf (line / 64)).getD 0) k { id := id, src := .self, kind := .evict, line := line })

/-- VISITOR_EVICTION (R187). -/
def execVisitorEviction (home line : Nat) (s : State) : Host.Outcome State Fault Refusal := s.act (visitorEviction home line)

/-- BIRSPI (R190). -/
def execBirspi (h line : Nat) (s : State) : Host.Outcome State Fault Refusal := s.act (birsp h line 0)

/-- BIRSPS (R190). -/
def execBirsps (h line : Nat) (s : State) : Host.Outcome State Fault Refusal := s.act (birsp h line 1)

/-- BIRSPE (R190). -/
def execBirspe (h line : Nat) (s : State) : Host.Outcome State Fault Refusal := s.act (birsp h line 2)

/-- BICONFLICT (R191). -/
def execBiconflict (h line : Nat) (s : State) : Host.Outcome State Fault Refusal := s.act (biConflict h line)

end Sys2Proof.Machine
end

