-- ==== Sys2Proof/Machine/Storage.lean ====
section
/-!
DEFINITION. Lines against storage: what a DRAM read of a line brings back (R57 to R59, R62), and what a write-back does
(R64, R86, R87, R120, R121, R155, R156); requests that waited on a page, and the bound on a host's wait (R60, R220).
-/

namespace Sys2Proof.Machine

/-! ### Checks (R335) -/

/-- A row's corrected errors of the last 24 hours are kept by their Reef times; an uncorrectable error counts as 256, which reaches
every threshold (R337). -/
def noteRow (ga n : Nat) : Act := .read fun m =>
  let k := m.rowKey (blockOf ga)
  let old := ((m.chan.errs.find? k).getD []).filter fun t => m.now < t + 86400 * 10 ^ 9
  .prim (.chan fun c => { c with errs := c.errs.put k ((old ++ List.replicate n m.now).take 256) })

/-- What a channel counts and raises for the check of one read (R335). -/
def eccCount (ga : Nat) (e : Ecc) : Act := .read fun m =>
  let c := m.chanOf ga
  match e with
  | .corrected => .all [.inc .DRM_C_CE c 1, .inc .DRM_D_CE (m.dimmOf ga) 1, noteRow ga 1, raise (srcId 0x03 c 0) ga 0]
  | .uncorrectable =>
    .all [.inc .DRM_C_UE c 1, .inc .DRM_D_UE (m.dimmOf ga) 1, noteRow ga 256, raise (srcId 0x03 c 1) ga 0]
  | _ => .skip

/-! ### A read of a line returns (R57 step 9, R59, R91) -/

/-- The cause of a poisoning at a read of an agent (Table 9.8). -/
def Agent.readCause : Agent → PoisonCause
  | .head _ _ | .queue _ | .ferry _ => .hostRead
  | _ => .unknown

/-- Lines of a page become poisoned at a read, and a partner is told (R59, R297). -/
def poisonRead (n pn : Nat) (is : List Nat) (c : PoisonCause) : Act :=
  .all [poisonLines n pn is c 1, .each is fun i => mirrorPoison n (pn * 64 + i)]

/-- The grains of a line have come back: the check is counted; the stored form is unsealed, checked and decoded; an error
poisons the line with the lines whose code-5 chain ends at it, or the page when its record fails (R59, R91, R335). -/
def lineReturned (n : Nat) (line ga : Nat) (e : Ecc) (c : PoisonCause) (k : LineVal → Act) : Act := .read fun m =>
  let pn := pageOfLine line
  let r := (m.page pn).rcd
  let i := idxOfLine line
  let j := match r.tier with | .shallows => i | _ => chainEnd r.size i
  let h := homeIndex m.sled pn
  .all [eccCount ga e, .when (r.tier == .deep) (eventAt h 0x04 0 1), .when (m.isSealed n) (eventAt h 0x05 0 1),
    .when (m.hasTags n) (eventAt h 0x06 0 1),
    match e with
    | .recordError => .all [recordError n pn c, mirrorPoison n line, k none]
    | .uncorrectable => .all [poisonRead n pn [j] c, k none]
    | .tagMismatch => .all [poisonRead n pn [j] c, k none]
    | _ =>
      match m.storedLine n pn i with
      | .val l => k (some l)
      | .poison => k none
      | _ => .all [poisonRead n pn [j] c, k none]]

/-- The value of a fill reaches its transaction: the read is served, or the atomic performed. -/
def filled (n : Nat) (t : Txn) (v : LineVal) : Act :=
  match t.req.kind with
  | .atom => doAtom n t.req v
  | .wrPtl => partialHit n t.req v
  | _ => serve n t.req v

/-- DRAM_DATA_RETURN: the grains of an issued access return to the home. A page that has gone Offshore meanwhile is fetched
there. -/
def dramDataReturn (acc : Nat) (e : Ecc) : Act := .read fun m =>
  match m.lines.accs.find? fun a => a.id == acc && a.issued && a.kind == .fill with
  | none => .skip
  | some a =>
    .all [.prim (.lines fun l => { l with accs := l.accs.filter fun x => x.id != acc }),
      match (m.txnOf a.line).filter fun t => t.phase == .mem, m.atollOf (pageOfLine a.line) with
      | some t, some n =>
        match m.cached a.line with
        | some v => .all [eccCount a.ga e, filled n t v]
        | none =>
          if (m.page (pageOfLine a.line)).rcd.tier = .offshore then fetch n t.req .mem
          else lineReturned n a.line a.ga e t.req.src.readCause (filled n t)
      | _, _ => eccCount a.ga e,
      wake a.line]

/-- The fetched bytes of a partial write are merged under its mask. A fetch that fails leaves the line poisoned and the write
dropped (R62, R91). -/
def merged (line : Nat) (v : LineVal) : Act := .read fun m =>
  .some? (m.lines.lagoon.find? line) fun o =>
    .when (o.mask != fullMask)
      (match v with
       | some l =>
         let o' := { o with val := some (mergeBytes l (o.val.getD 0) o.mask), mask := fullMask }
         .prim (.lines fun x => { x with lagoon := x.lagoon.put line o' })
       | none => .all [.inc .GRN_DROPPED 0 1, dropLine line])

/-- PARTIAL_MERGE: the line of a partial write that missed returns and is merged (R62). -/
def partialMerge (acc : Nat) (e : Ecc) : Act := .read fun m =>
  match m.lines.accs.find? fun a => a.id == acc && a.issued && a.kind == .merge with
  | none => .skip
  | some a =>
    .all [.prim (.lines fun l => { l with accs := l.accs.filter fun x => x.id != acc }),
      .some? (m.atollOf (pageOfLine a.line)) fun n => lineReturned n a.line a.ga e .hostWrite (merged a.line),
      .some? ((m.txnOf a.line).filter fun t => t.phase == .merge) fun _ => closeTxn a.line,
      wake a.line]

/-! ### Write-back (R64) -/

/-- Remove the oldest write-back entry of a line; a page with no line left poisoned leaves the index (R62, R216). -/
def dropWb (e : WbEnt) : Act := .prim (.lines fun l => { l with wb := l.wb.erase e })

/-- A page with no poisoned line leaves its home's index of poisoned pages (R62). -/
def unlist (pn : Nat) : Act := .read fun m =>
  .when (!(m.page pn).rcd.size.contains 7)
    (.prim (.host fun h => { h with poisoned := h.poisoned.filter (· != pn) }))

/-- A write-back that is not stored: dropped and counted, its line poisoned (R120, R121, R156). -/
def dropWriteBack (n pn i : Nat) (e : WbEnt) : Act :=
  .all [dropWb e, .inc .GRN_DROPPED 0 1, poisonLines n pn [i] .hostWrite 1, mirrorPoison n e.line]

/-- One dropped write-back in the present second of Reef time (R121). -/
def exhaustion : Act := .read fun m =>
  let k := m.now / 10 ^ 9
  let c := ((m.grain.exhausted.find? fun p => p.1 == k).map (·.2)).getD 0
  .prim (.grain fun g => { g with exhausted := (g.exhausted.filter fun p => p.1 != k) ++ [(k, c + 1)] })

/-- A write-back that needs new plots and may not have them (R120, R121). -/
def denied (n pn i : Nat) (e : WbEnt) : Act := .read fun m =>
  .all [.when (!m.revoked n pn) exhaustion, dropWriteBack n pn i e]

/-- The first extent of a page: a block in Shallows, `EPOCH` + 1, every counter 0, the line merged; it is not a move (R64). -/
def firstExtent (n pn i : Nat) (e : WbEnt) (v : Line) : Act := .read fun m =>
  let h := homeIndex m.sled pn
  let r := (m.page pn).rcd
  if m.epochEnd n pn then .all [epochStop pn, dropWriteBack n pn i e]
  else if m.noNewPlots n pn then denied n pn i e
  else match m.placeExtent h 16 (m.pageK n pn) (m.chanSet n) with
    | none => if m.isElastic n then denied n pn i e else .skip
    | some p =>
      .all [movePlots h p 16 0 1,
        writeExtent n pn (16 * p)
          { r with base := 16 * p, alloc := 16, tier := .shallows, size := r.size.set i 4, epoch := nextEpoch r.epoch }
          (m.useNext n pn) (mergeLine (m.storedPage n pn) (some (i, some v))),
        chargeExtent (16 * p) 16 e.master true, tallyUpdate h, dropWb e, unlist pn]

/-- A growth lift with the write-back merged; it waits at step 1 when no block is free (R64, R87, R480). -/
def growthLift (n pn i : Nat) (e : WbEnt) (v : Line) : Act := .read fun m =>
  let h := homeIndex m.sled pn
  if m.epochEnd n pn then .all [epochStop pn, dropWriteBack n pn i e]
  else if m.noNewPlots n pn then denied n pn i e
  else match m.placeExtent h 16 (m.pageK n pn) (m.chanSet n) with
    | none => if m.isElastic n then denied n pn i e else liftWait pn 0
    | some p =>
      .all [liftInto n pn p (some (i, some v)), dropWb e, .inc .TIER_LIFTS_GROWTH 0 1,
        .prim (.grain fun g => { g with liftWaits := g.liftWaits.filter fun x => x.1 != pn }), moved h pn 1, unlist pn]

/-- The line's counter stands at its end on an atoll with tags: its write-back re-seals the page (R155). -/
def Mach.counterEnd (m : Mach) (n pn i : Nat) : Bool := m.hasTags n && (m.page pn).ctr i == 65535

/-- Store a line in its slot, or re-seal the page with it (R64, R155, R156). -/
def inSlot (n pn i code : Nat) (e : WbEnt) (v : Line) : Act := .read fun m =>
  if m.counterEnd n pn i then
    if m.epochEnd n pn then .all [epochStop pn, dropWriteBack n pn i e]
    else .all [resealPage n pn (some (i, some v)), dropWb e, tagOp 70 4 (pn * 64) n 0 [2, 3, 4, 5, 6], unlist pn]
  else .all [writeLine n pn i code v, charge (m.chanOf (m.page pn).rcd.base) e.master 1 true, dropWb e, unlist pn]

/-- The write-back keeps the line's code under R82: code 0 with zeros, or code 5 with the value of the line before (R64). -/
def Mach.keepsCode (m : Mach) (n pn i : Nat) (v : Line) : Bool :=
  match (m.page pn).rcd.size.getD i 0 with
  | 0 => v == 0
  | 5 => (m.storedLine n pn (i - 1)).value == some v
  | _ => false

/-- Store a write-back of a value in a local page (R64, R86, R87). -/
def storeValue (n pn i : Nat) (e : WbEnt) (v : Line) : Act := .read fun m =>
  let r := (m.page pn).rcd
  let code := r.size.getD i 0
  if m.tierOf n pn = .deep ∧ m.keepsCode n pn i v then
    if r.alloc = 0 then dropWb e else inSlot n pn i code e v
  else if r.alloc = 0 then firstExtent n pn i e v
  else if r.tier = .shallows then inSlot n pn i 4 e v
  else if (chainOf r.size i).isEmpty && fitsSlot (m.flag .ATL_COMP n) code v && grainsOf code != 0 then inSlot n pn i code e v
  else growthLift n pn i e v

/-- The oldest write-back of a line is written to its page (R64): a dead atoll's or a key-less atoll's is dropped; a lock or a
recall holds it; a pending push is abandoned; an Offshore page is recalled first (R132, R133). -/
def writeBack (line : Nat) : Act := .read fun m =>
  match m.lines.wb.find? fun e => e.line == line with
  | none => .skip
  | some e =>
    let pn := pageOfLine line
    let i := idxOfLine line
    match m.atollOf pn with
    | none => dropWb e
    | some n =>
      let r := (m.page pn).rcd
      if m.keysAbsent n then .all [dropWb e, .inc .GRN_DROPPED 0 1]
      else if r.alloc ≠ 0 ∧ m.chanDead r.base then dropWriteBack n pn i e
      else if r.lock || r.reseal || r.recallPending then .skip
      else if r.tier = .offshore then (if m.epochEnd n pn then .all [epochStop pn, denied n pn i e]
        else .seq (.when r.pushPending (abandonPush pn)) (startRecall pn))
      else
        .all [.when r.pushPending (abandonPush pn), eventAt (homeIndex m.sled pn) 0x0A 0 1,
          match e.val with
          | none => .all [markLines n pn [i] .hostWrite, dropWb e]
          | some v => storeValue n pn i e v]

/-- RESEAL: a write-back waits on a line whose counter stands at 65,535, and its page is re-sealed with it (R155). -/
def reseal (line : Nat) : Act := .read fun m =>
  .some? (m.atollOf (pageOfLine line)) fun n =>
    .when (m.counterEnd n (pageOfLine line) (idxOfLine line) && m.wbHolds (pageOfLine line)) (writeBack line)

/-- LIFT_BLOCK_FOUND: a lift waiting at step 1 resumes: with its write-back when growth asked for it (R480). -/
def liftBlockFound (pn : Nat) : Act := .read fun m =>
  match m.grain.liftWaits.find? fun x => x.1 == pn, m.atollOf pn with
  | some (_, 0), some _ =>
    .some? (m.lines.wb.find? fun e => pageOfLine e.line == pn) fun e => writeBack e.line
  | some (_, w), some n =>
    if (m.page pn).rcd.tier = .deep ∧ !(m.page pn).rcd.busy then
      lift n pn (match w with | 1 => .heat | 2 => .pin | _ => .command)
    else .prim (.grain fun g => { g with liftWaits := g.liftWaits.filter fun x => x.1 != pn })
  | _, _ => .skip

/-! ### Waits (R60, R133, R220) -/

/-- Start the requests that wait on a page for one reason, in arrival order. -/
def resumePage (pn : Nat) (why : WaitWhy) : Act := .read fun m =>
  .each (m.lines.waits.filter fun w => w.why == why && pageOfLine w.req.line == pn) fun w =>
    .all [unwait w.req, begin w.req, wake w.req.line]

/-- LOCKED_REQUEST_RESUME: LOCK has been released, and the requests waiting on the page are served (R60). -/
def lockedRequestResume (pn : Nat) : Act := .read fun m =>
  .when (!(m.page pn).rcd.lock) (resumePage pn .lock)

/-- A waiting host request once it has been answered: a write is still applied, with nobody to answer; a read is gone. -/
def orphan (r : Req) : Req := { r with src := .self }

/-- The request of a transaction waits on a peer: an answer of a visitor, a forward, a partner, or an Offshore image. -/
def Mach.waitsOnPeer (m : Mach) (t : Txn) : Bool :=
  match t.phase with
  | .col => t.await.any fun h => match h with | .peer _ => true | .head _ => false
  | .fwd => true
  | .mir => true
  | .mem => !(m.lines.accs.any fun a => a.line == t.req.line)
  | _ => false

/-- PATIENCE_EXPIRE: a host request that waits on a peer, a recall or a lock is answered: poison for a read, the completion
for a write, which is applied when it can be (R73, R220). -/
def patienceExpire (id : Nat) : Act := .read fun m =>
  let host := fun (r : Req) => r.id == id && (match r.src with | .head _ _ => true | _ => false)
  match m.lines.waits.find? fun w => host w.req && (w.why == .lock || w.why == .recall || w.why == .held) with
  | some w =>
    .all [answerDead w.req, .prim (.lines fun l => { l with waits :=
      (if w.req.kind.isWrite then l.waits.map (fun x => if x = w then { x with req := orphan x.req } else x)
       else l.waits.filter (· != w)) })]
  | none =>
    match m.lines.txns.find? fun t => host t.req && m.waitsOnPeer t with
    | some t => .all [answerDead t.req, openTxn { t with req := orphan t.req }]
    | none =>
      .each (m.dir.vis.filter fun p => p.2.waits.any host || p.2.keepReqs.any host) fun p =>
        .all [.each ((p.2.waits ++ p.2.keepReqs).filter host) answerDead,
          setVis p.1 { p.2 with
            waits := (p.2.waits.filter fun r => !(host r && !r.kind.isWrite)).map fun r => if host r then orphan r else r
            keepReqs := p.2.keepReqs.map fun r => if host r then orphan r else r }]

/-! ### Meanings -/

/-- DRAM_DATA_RETURN (R57). -/
def execDramDataReturn (acc : Nat) (e : Ecc) (s : State) : Host.Outcome State Fault Refusal := s.act (dramDataReturn acc e)

/-- PARTIAL_MERGE (R62). -/
def execPartialMerge (acc : Nat) (e : Ecc) (s : State) : Host.Outcome State Fault Refusal := s.act (partialMerge acc e)

/-- WRITE_BACK (R64). -/
def execWriteBack (line : Nat) (s : State) : Host.Outcome State Fault Refusal := s.act (writeBack line)

/-- RESEAL (R155). -/
def execReseal (line : Nat) (s : State) : Host.Outcome State Fault Refusal := s.act (reseal line)

/-- LIFT_BLOCK_FOUND (R480). -/
def execLiftBlockFound (pn : Nat) (s : State) : Host.Outcome State Fault Refusal := s.act (liftBlockFound pn)

/-- LOCKED_REQUEST_RESUME (R60). -/
def execLockedRequestResume (pn : Nat) (s : State) : Host.Outcome State Fault Refusal := s.act (lockedRequestResume pn)

/-- PATIENCE_EXPIRE (R220). -/
def execPatienceExpire (id : Nat) (s : State) : Host.Outcome State Fault Refusal := s.act (patienceExpire id)

end Sys2Proof.Machine
end

