-- ==== Sys2Proof/Machine/Bells.lean ====
section
/-!
DEFINITION. Bells (chapter "Queues, descriptors and bell lines", R227 to R229): the word of a queue pair's bell, and what a
write of its halves does.
-/

namespace Sys2Proof.Machine

/-- States of a queue pair (R223). -/
def qpDisabled : Nat := 0
/-- Enabled (R223). -/
def qpEnabled : Nat := 1
/-- Error (R223). -/
def qpError : Nat := 2
/-- Draining (R223). -/
def qpDraining : Nat := 3

/-- The queue islet of a queue pair (R222). -/
def islandOf (q : Nat) : Nat := q / 2048

/-- Entries of the submission ring. -/
def Mach.sqSize (m : Mach) (q : Nat) : Nat := 2 ^ m.get .QP_SQ_LOG2 q

/-- Entries of the completion ring. -/
def Mach.cqSize (m : Mach) (q : Nat) : Nat := 2 ^ m.get .QP_CQ_LOG2 q

/-- Distance from `a` forward to `b` on a ring. -/
def ringDist (a b size : Nat) : Nat := (b % size + size - a % size) % size

/-- A new submission tail moves its pointer forward (R227). -/
def Mach.tailOk (m : Mach) (q t : Nat) : Bool :=
  let tail := m.get .QP_SQ_TAIL q
  let size := m.sqSize q
  ringDist tail t size ≤ ringDist tail (m.get .QP_SQ_HEAD q + size - 1) size

/-- A new completion head moves its pointer forward (R227). -/
def Mach.cqHeadOk (m : Mach) (q t : Nat) : Bool :=
  let hd := m.get .QP_CQ_HEAD q
  ringDist hd t (m.cqSize q) ≤ ringDist hd (m.get .QP_CQ_TAIL q) (m.cqSize q)

/-- One half that is not applied counts in `QP_BELL_IGNORED` (R227). -/
def bellIgnored (q : Nat) : Act := .inc .QP_BELL_IGNORED q 1

/-- One whole half of a bell, low or high, written by an owner (R227, Table 10.2). -/
def bellHalf (owner q : Nat) (high : Bool) (v : Nat) : Act := .read fun m =>
  let t := v % 2 ^ 16
  if m.get .QP_STATE q != qpEnabled || m.get .QP_OWNER q != owner || v / 2 ^ 16 != 0 then bellIgnored q
  else if high then
    (if m.cqHeadOk q t then
      .all [.set .QP_CQ_HEAD q (t % m.cqSize q), event (.queue (islandOf q)) 0x83 0 1]
     else bellIgnored q)
  else if m.tailOk q t then
    .all [.set .QP_SQ_TAIL q (t % m.sqSize q), event (.queue (islandOf q)) 0x83 0 1]
  else bellIgnored q

/-- A write to one bell with byte enables: a half with every byte enabled acts, one with some is ignored, one with none is
untouched (R227). -/
def bellWriteOne (owner q v enables : Nat) : Act :=
  .all ([false, true].map fun high =>
    let e := Bits.field enables (if high then 4 else 0) 4
    if e = 15 then bellHalf owner q high (Bits.field v (if high then 32 else 0) 32)
    else .when (e != 0) (bellIgnored q))

/-- The word that a bell reads (Table 10.2, R228). -/
def Mach.bellWord (m : Mach) (owner q : Nat) : Nat :=
  if m.get .QP_OWNER q != owner || m.get .QP_STATE q == qpDisabled then 0
  else m.get .QP_SQ_HEAD q + m.get .QP_CQ_TAIL q * 2 ^ 32 + m.get .QP_CQ_PHASE q * 2 ^ 48

/-- The queue pairs whose bells share a line of a bell atoll, by byte offset (chapter text before Table 10.2). -/
def Mach.bellsOf (m : Mach) (off : Nat) : List Nat :=
  ((List.range 8).map fun j => off / 64 * 8 + j).filter (· < m.sled.qps)

/-- A write to a bell line: bell by bell and half by half (R227). -/
def bellLineWrite (ld off : Nat) (data : Line) (mask : Nat) : Act := .read fun m =>
  .each (m.bellsOf off) fun q =>
    bellWriteOne ld q (Bits.field data.toNat (64 * (q % 8)) 64) (Bits.field mask (8 * (q % 8)) 8)

/-- What a read of a bell line returns (R228). -/
def Mach.bellLine (m : Mach) (ld off : Nat) : Line :=
  BitVec.ofNat 512 (((m.bellsOf off).map fun q => m.bellWord ld q * 2 ^ (64 * (q % 8))).sum)

/-- `QP_MGMT_BELL`: a write acts as a bell write of the management function, a read returns the bell word; any other queue
pair ignores writes and reads zero (R229, Table 10.10). -/
def qpMgmtBell (q : Nat) (write : Option Nat) : Act := .read fun m =>
  match write with
  | some v => .when (decide (q < m.sled.qps) && m.get .QP_OWNER q == ownMgmt) (bellWriteOne ownMgmt q v 255)
  | none => .emit (.setupRead (0x200000 + 0x80 * q + 0x50)
      (if q < m.sled.qps ∧ m.get .QP_OWNER q = ownMgmt then m.bellWord ownMgmt q else 0))

/-- QP_MGMT_BELL (R229). -/
def execQpMgmtBell (q : Nat) (write : Option Nat) (s : State) : Host.Outcome State Fault Refusal :=
  s.act (qpMgmtBell q write)

end Sys2Proof.Machine
end

