-- ==== Sys2Proof/Machine/LineOps.lean ====
section
/-!
DEFINITION. Line requests that start on this sled and may be homed on another: those of queue islets and the Ferry port
(R187, R225, R252), and the addresses they use (R222, R249).
-/

namespace Sys2Proof.Machine

/-- The message of a request to another sled: its code and body (Table 12.6). -/
def reqBody (r : Req) : Nat × List Byte :=
  match r.kind with
  | .wrLine => (mWrLine, lineBody r.data)
  | .wrPtl => (mWrPtl, lineBody r.data ++ Bits.leBytes 8 r.mask)
  | .atom => (mAtom, Bits.leBytes 16 r.a ++ Bits.leBytes 16 r.b ++ Bits.leBytes 16 r.off)
  | _ => (mRdCur, [])

/-- Note a request of an agent as asked. -/
def noteAsk (r : RemReq) : Act := .prim (.dir fun d => { d with remote := d.remote ++ [r] })

/-- One line request of an agent under its own number: at its home here, or by message to the sled that homes it; one that no
link carries, or on a line of no atoll, is answered as failed (R187, R225). -/
def ask (a : Agent) (tag line : Nat) (kind : ReqOp) (f : Req → Req) : Act := .newId fun id => .read fun m =>
  let r := f { id := id, src := a, kind := kind, line := line, start := m.now }
  let q : RemReq := { txid := id, home := m.self, line := line, agent := a, tag := tag }
  match m.atollOf (pageOfLine line) with
  | none => noteAsk { q with done := true, failed := true }
  | some n =>
    match m.visitHome n with
    | none => .all [noteAsk q, begin r, wake line]
    | some h =>
      if !m.linkHolds h then noteAsk { q with home := h, done := true, failed := true }
      else
        let x := m.mkMsg (reqBody r).1 id h line
        .all [noteAsk { q with home := h, txid := id % 2 ^ 16 },
          send h { x with poison := r.data.isNone && kind.isWrite, rqs := m.self, body := (reqBody r).2,
                          opst := if kind = .atom then r.op else 0 }]

/-- The line of an address of an owner: LD DPA through the LD's views, or global DPA of the management function; none outside
every view and inside a Bell atoll (R222, Table 10.7). -/
def Mach.ownerLine (m : Mach) (owner addr : Nat) : Option Nat :=
  if owner < 256 then
    match m.decode owner addr with
    | none => none
    | some x => if m.isBell x.atoll then none else some (x.gdpa / 64)
  else match m.atollOf (addr / 4096) with
    | none => none
    | some n => if m.isBell n then none else some (addr / 64)

/-- The atoll of an address of an owner. -/
def Mach.ownerAtoll (m : Mach) (owner addr : Nat) : Option Nat :=
  (m.ownerLine owner addr).bind fun l => m.atollOf (pageOfLine l)

/-- The lines that a range of bytes touches: for each, the line's offset from the first, the first byte of the range in it,
and the number of bytes (R232). -/
structure Piece where
  at_ : Nat
  off : Nat
  len : Nat
  deriving DecidableEq, Repr

/-- Cut a range of bytes at line boundaries. `pos` counts bytes from the start of the range; `fuel` bounds the pieces. -/
def pieces (addr : Nat) : Nat → Nat → Nat → List Piece
  | 0, _, _ => []
  | fuel + 1, pos, len =>
    if len = 0 then []
    else
      let off := (addr + pos) % 64
      let n := min len (64 - off)
      ⟨pos, off, n⟩ :: pieces addr fuel (pos + n) (len - n)

/-- The pieces of `len` bytes from an address. -/
def piecesOf (addr len : Nat) : List Piece := pieces addr (len / 64 + 2) 0 len

/-- A line with some bytes at an offset, zeros elsewhere. -/
def lineWith (off : Nat) (bs : List Byte) : Line :=
  lineOf ((List.replicate off (0 : Byte) ++ bs ++ List.replicate 64 (0 : Byte)).take 64)

/-- The byte mask of `n` bytes at an offset. -/
def maskOf (off n : Nat) : Nat := (2 ^ n - 1) * 2 ^ off

/-- A place hint as it is served (Table 6.3, R137): the hint, and whether it is counted as not served as given. -/
def Mach.effHint (m : Mach) (line hint peer : Nat) : Nat × Bool :=
  if hint = 3 then (2, true)
  else if hint = 1 then
    match m.atollOf (pageOfLine line) with
    | some n => if m.pushTo n peer then (1, false) else (0, true)
    | none => (0, true)
  else (hint, false)

/-- Write bytes of one line as an agent with a place hint: a full line under R61, part of one under R62; poison takes the whole line
(R232, R252). -/
def askWrite (a : Agent) (tag line : Nat) (data : LineVal) (mask hint peer : Nat) : Act := .read fun m =>
  let e := m.effHint line hint peer
  .all [.when e.2 (.inc .TIER_HINT_DOWN 0 1),
    ask a tag line (if mask = fullMask ∨ data = none then .wrLine else .wrPtl) fun r =>
      { r with data := data, mask := mask, hint := e.1, hintPeer := peer }]

end Sys2Proof.Machine
end

