-- ==== Sys2Proof/Machine/HostRequests.lean ====
section
/-!
DEFINITION. CXL.mem requests and PCIe AtomicOps of heads (chapters "Life of a line request", "The Archipelago coherence
protocol" and "Host ports and CXL"): acceptance, decode, and the mapping of Table 8.7.
-/

namespace Sys2Proof.Machine

/-! ### Acceptance (R54, R205, R208, R365) -/

/-- The head presents the LD, its link is up, and, for CXL.mem, trained with CXL (R205, R208). -/
def Mach.ldUp (m : Mach) (ld : Nat) (cxl : Bool) : Bool :=
  let h := m.headOf ld
  m.flag .HBR_LD_VALID ld && ((m.host.ldShown.find? ld).getD 0) == h + 1 && m.get .HBR_HEAD_WIDTH h != 0
    && (!cxl || m.get .HBR_HEAD_FLIT h != 0)

/-- A request that the harbour accepts: in Fatal no harbour accepts one, and a head that is down sends none (R365). The
accepted request is counted (Table 19.2, code 0x2A). -/
def accept (ld : Nat) (cxl : Bool) (a : Act) : Act := .read fun m =>
  let h := m.headOf ld
  .when (m.ldUp ld cxl && !m.fatal) (.seq (event (.host (h / 4)) 0x2A (h % 4) 1) a)

/-- An access that falls in no valid view: counted, and the source of R37 raised. -/
def unmapped (ld : Nat) : Act := .read fun m =>
  .seq (.inc .HBR_LD_UNMAPPED ld 1) (raise (srcId 0x02 (m.headOf ld) 2) 0 0)

/-- Sample flags of a head: IDE (Table 19.4). -/
def Mach.ideFlag (m : Mach) (ld : Nat) : Nat := if m.flag .HBR_HEAD_IDE (m.headOf ld) then 4 else 0

/-- The MetaValue of a poison answer to a read of a kind. -/
def metaOf : ReqOp → Nat
  | .rdShd => 1
  | .rdOwn => 2
  | _ => 0

/-! ### Reads -/

/-- The request that a host read means (Table 8.7); on an H atoll copies of heads are not tracked. -/
def Mach.readKind (m : Mach) (n : Nat) : MetaState → ReqOp
  | .a => if m.isShared n then .rdOwn else .rdCur
  | .s => if m.isShared n then .rdShd else .rdCur
  | _ => .rdCur

/-- A request of a head through a remote view: served by the visitor; answered at once while no link carries the request
(R73, R187, R289). -/
def remoteReq (n home : Nat) (line : Nat) (src : Agent) (kind : ReqOp) (f : Req → Req) : Act := .newId fun id => .read fun m =>
  let r := f { id := id, src := src, kind := kind, line := line, start := m.now }
  if m.linkHolds home then .seq (visStep n (visKey home line) r) (visWake (visKey home line))
  else answerDead { r with tier := 4 }

/-- One host read (R57): unmapped at the harbour, a bell line, a remote view, or the home. -/
def hostRead (ld dpa tag sop : Nat) (ms : MetaState) : Act := accept ld true (.read fun m =>
  match m.decode ld dpa with
  | none => .all [unmapped ld, sample ld sop 7 0 0 (m.ideFlag ld + 8) m.now, .emit (.readData ld tag none 0)]
  | some x =>
    let line := x.gdpa / 64
    if m.isBell x.atoll then
      .all [responded ld, .emit (.readData ld tag (some (m.bellLine ld ((dpa - m.viewBase x.view) % 2 ^ 16))) 0)]
    else
      let kind := m.readKind x.atoll ms
      let f := fun (r : Req) => { r with sop := sop, flags := m.ideFlag ld }
      match m.visitHome x.atoll with
      | some h => remoteReq x.atoll h line (.head ld tag) kind f
      | none => request (.head ld tag) kind line f)

/-! ### Write-backs of holders (Table 8.7) -/

/-- The entry of a line records the head of an LD. -/
def Mach.holds (m : Mach) (n line h : Nat) : Bool :=
  match m.dirEnt line with
  | some e => m.isShared n && (m.entHeads n e).contains h
  | none => false

/-- The directory after a write-back of a head: I removes it, S leaves it S, A leaves it E (Table 8.7). -/
def wbDir (line h : Nat) (ms : MetaState) : Act := .read fun m =>
  .some? (m.dirEnt line) fun e =>
    setDir line (some (match ms with
      | .s => { e with state := 1 }
      | .a => { e with state := 2 }
      | _ => e.remove (.head h)))

/-- The data of a holder's write-back of part of a line that the home does not have: placed under its mask, the rest fetched
and merged (R62). A line whose transaction is open is fetched beside it. -/
def wbPartial (n line : Nat) (data : Line) (mask master : Nat) : Act := .newId fun id => .read fun m =>
  let r : Req := { id := id, src := .self, kind := .wrPtl, line := line, data := some data, mask := mask }
  .all [place n line (some data) true mask master,
    if (m.txnOf line).isNone then fetch n r .merge
    else if (m.page (pageOfLine line)).rcd.tier = .offshore then getImage (pageOfLine line) .remoteRead 0
    else readDram r .merge]

/-- A write from a head that the entry records as holder is its write-back: the data is taken, into the Lagoon, or into the
write-back buffer when the head keeps E; a partner is told; the completion is sent (R182, R184, Table 8.7). -/
def holderWrite (n ld tag line sop : Nat) (ms : MetaState) (data : Line) (mask : Nat) : Act := .read fun m =>
  let h := m.headOf ld
  let keeps := match ms with | .a => true | _ => false
  .all [
    if mask = fullMask then takeData n line (some data) keeps h
    else match m.atHome line with
      | some (some old) => takeData n line (some (mergeBytes old data mask)) keeps h
      | some none => .inc .GRN_DROPPED 0 1
      | none => .all [wbPartial n line data mask h, mirrorLine n line (some data) mask],
    wbDir line h ms, dirStats line,
    sample ld sop 6 line n (m.ideFlag ld) m.now, .emit (.writeCmp ld tag), wake line]

/-- A head of this sled is recorded at a visitor's line. -/
def Mach.visHolds (m : Mach) (n k h : Nat) : Bool := m.isShared n && (m.vis k).heads.any fun p => p.1 == h

/-- A write-back of a head to a visitor's line: merged there, and a line held in E is M from then on (R186). -/
def visHolderWrite (n ld tag k sop : Nat) (ms : MetaState) (data : Line) (mask : Nat) : Act := .read fun m =>
  let e := m.vis k
  let h := m.headOf ld
  let rest := e.heads.filter fun p => p.1 != h
  let heads := match ms with | .s => rest ++ [(h, false)] | .a => rest ++ [(h, true)] | _ => rest
  .all [setVis k { e with
      val := if mask = fullMask then some data else e.val.map fun old => mergeBytes old data mask
      state := if e.state = 2 then 3 else e.state
      heads := heads },
    sample ld sop 6 (visLine k) n (m.ideFlag ld) m.now, .emit (.writeCmp ld tag)]

/-! ### Writes -/

/-- One host write, full or partial (R61, R62, Table 8.7). -/
def hostWrite (ld dpa tag sop : Nat) (ms : MetaState) (data : Line) (mask : Nat) : Act := accept ld true (.read fun m =>
  match m.decode ld dpa with
  | none => .all [unmapped ld, sample ld sop 7 0 0 (m.ideFlag ld) m.now, .emit (.writeCmp ld tag)]
  | some x =>
    let line := x.gdpa / 64
    let h := m.headOf ld
    if m.isBell x.atoll then
      .all [bellLineWrite ld ((dpa - m.viewBase x.view) % 2 ^ 16) data mask, responded ld, .emit (.writeCmp ld tag)]
    else
      let kind := if mask = fullMask then ReqOp.wrLine else .wrPtl
      let f := fun (r : Req) => { r with data := some data, mask := mask, sop := sop, flags := m.ideFlag ld }
      match m.visitHome x.atoll with
      | some hm =>
        if m.visHolds x.atoll (visKey hm line) h then visHolderWrite x.atoll ld tag (visKey hm line) sop ms data mask
        else remoteReq x.atoll hm line (.head ld tag) kind f
      | none =>
        if m.holds x.atoll line h then holderWrite x.atoll ld tag line sop ms data mask
        else request (.head ld tag) kind line f)

/-- MemWr or MemWrPtl of a recorded holder, as a command of its own: nothing when the head is not recorded. -/
def headWriteBack (ld dpa tag : Nat) (ms : MetaState) (data : Line) (mask : Nat) : Act := .read fun m =>
  .some? (m.decode ld dpa) fun x =>
    let line := x.gdpa / 64
    let held := match m.visitHome x.atoll with
      | some hm => m.visHolds x.atoll (visKey hm line) (m.headOf ld)
      | none => m.holds x.atoll line (m.headOf ld)
    .when held (hostWrite ld dpa tag (if mask = fullMask then 2 else 3) ms data mask)

/-- MemClnEvct: `CLN_EVICT` of the head, and its completion (Table 8.7). -/
def memClnEvct (ld dpa tag : Nat) : Act := accept ld true (.read fun m =>
  match m.decode ld dpa with
  | none => .all [unmapped ld, sample ld 4 7 0 0 (m.ideFlag ld) m.now, .emit (.writeCmp ld tag)]
  | some x =>
    let line := x.gdpa / 64
    let h := m.headOf ld
    .all [
      match m.visitHome x.atoll with
      | some hm =>
        let k := visKey hm line
        .when (m.visHolds x.atoll k h)
          (setVis k { m.vis k with heads := (m.vis k).heads.filter fun p => p.1 != h })
      | none => .when (m.holds x.atoll line h) (takeClnEvict (.head h) line),
      sample ld 4 0 line x.atoll (m.ideFlag ld) m.now, .emit (.writeCmp ld tag)])

/-! ### PCIe AtomicOps (R195, R212) -/

/-- The operation of Table 8.8 and the operand bytes of a PCIe AtomicOp; a 32-bit one has none (R195). -/
def pcieOp : PcieAtomic → Option (Nat × Nat)
  | .fetchAdd 64 => some (1, 8)
  | .swap 64 => some (2, 8)
  | .cas 64 => some (3, 8)
  | .cas 128 => some (4, 16)
  | _ => none

/-- An AtomicOp at BAR4 (R195, R212): Unsupported Request without a window or an operation; EP set outside every view, and for
an operand that the home would answer with `CMP_ERR`. -/
def pcieAtomicop (ld off tag : Nat) (op : PcieAtomic) (a b : Nat) : Act := accept ld false (.read fun m =>
  let lg := m.get .HBR_LD_ALIAS_LOG2 ld
  match pcieOp op with
  | none => .all [responded ld, .emit (.completion ld tag 1 [])]
  | some (c, w) =>
    if lg = 0 ∨ 2 ^ lg ≤ off then .all [responded ld, .emit (.completion ld tag 1 [])]
    else
      let dpa := m.get .HBR_LD_ALIAS_BASE ld * 2 ^ 21 + off
      match (m.decode ld dpa).filter fun x => !m.isBell x.atoll with
      | none => .all [unmapped ld, sample ld 5 7 0 0 (m.ideFlag ld + 8) m.now, .emit (.completion ld tag 2 [])]
      | some x =>
        let line := x.gdpa / 64
        if !atomOk c (off % 64) then
          .all [sample ld 5 0 line x.atoll (m.ideFlag ld + 8) m.now, .emit (.completion ld tag 2 [])]
        else
          let f := fun (r : Req) => { r with op := c, off := off % 64, a := a % 2 ^ (8 * w), b := b % 2 ^ (8 * w),
                                             sop := 5, flags := m.ideFlag ld }
          match m.visitHome x.atoll with
          | some _ => ask (.head ld tag) w line .atom f
          | none => request (.head ld tag) .atom line f)

/-! ### Flit slots (R53, R213, R396) -/

/-- Heads of a port group under its settled bifurcation (Table 9.1). -/
def Mach.groupHeads (m : Mach) (g : Nat) : List Nat :=
  match (m.host.bifur.find? g).getD 0 with
  | 0 => [4 * g]
  | 1 => [4 * g, 4 * g + 2]
  | _ => [4 * g, 4 * g + 1, 4 * g + 2, 4 * g + 3]

/-- Requests of a head that are not answered, with the numbers that order them. -/
def Mach.openReqs (m : Mach) (h : Nat) : List Req :=
  let mine := fun (r : Req) => match r.src with | .head ld _ => m.headOf ld == h | _ => false
  ((m.lines.txns.map (·.req)) ++ (m.lines.waits.map (·.req)) ++ (m.dir.vis.flatMap fun p => p.2.waits ++ p.2.keepReqs)).filter
    mine

/-- 64-byte units that a head holds beyond its reserved share. -/
def Mach.overShare (m : Mach) (h : Nat) : Nat := (m.openReqs h).length - m.get .HBR_HEAD_RESV h * 1024

/-- The common remainder of a group in 64 KiB units (R213). -/
def Mach.commonUnits (m : Mach) (g : Nat) : Nat := 32 - ((m.groupHeads g).map fun h => m.get .HBR_HEAD_RESV h).sum

/-- Units of ingress buffer that a head may still take: its share, and what the others leave of the common remainder (R53,
R213). -/
def Mach.ingressRoom (m : Mach) (h : Nat) : Nat :=
  let g := h / 4
  m.get .HBR_HEAD_RESV h * 1024 + (m.commonUnits g * 1024 - (((m.groupHeads g).filter (· != h)).map fun x => m.overShare x).sum)

/-- The oldest of some requests. -/
def oldest : List Req → Option Req
  | [] => none
  | r :: rs => match oldest rs with
    | none => some r
    | some x => some (if x.id < r.id then x else r)

/-- Cause code of a back-stalled slot: where the head's oldest accepted request waits (R396). -/
def Mach.stallCause (m : Mach) (h : Nat) : Nat :=
  match oldest (m.openReqs h) with
  | none => 0x25
  | some r => if m.lines.accs.any fun a => a.line == r.line then 0x24 else 0x28

/-- FLIT_SLOT: one flit slot of a head in L0: credits are withheld while there is no room; otherwise the flit is taken, and the
slot is classed (R53, R396). While the brake withholds credits, only the last of every four slots returns them (R404). The occupancy counts one 64-byte unit for each request not answered, with those of the flit. -/
def flitSlot (h units reqs : Nat) (replay mapped : Bool) : Act := .read fun m =>
  let a : Att := .host (h / 4)
  let q := h % 4
  let held := (m.openReqs h).length
  let n := (m.csw.slots.find? h).getD 0
  .when (m.get .HBR_HEAD_WIDTH h != 0)
    (.seq (.when m.csw.withheld (.prim (.csw fun x => { x with slots := x.slots.put h (n + 1) })))
    (if m.ingressRoom h < held + units ∨ (m.csw.withheld = true ∧ n % 4 ≠ 3) then
      .all [.set .HBR_HEAD_OCCUPANCY h held, event a 0x23 q 1, event a (m.stallCause h) q 1]
    else .all [.set .HBR_HEAD_OCCUPANCY h (held + units),
      if replay || (reqs != 0 && !mapped) then event a 0x21 q 1
      else if reqs != 0 then event a 0x20 q 1
      else event a 0x22 q 1]))

/-! ### Meanings -/

/-- MEMRD (R57). -/
def execMemrd (ld dpa tag : Nat) (ms : MetaState) (s : State) : Host.Outcome State Fault Refusal :=
  s.act (hostRead ld dpa tag 0 ms)

/-- MEMRDDATA (R190). -/
def execMemrddata (ld dpa tag : Nat) (ms : MetaState) (s : State) : Host.Outcome State Fault Refusal :=
  s.act (hostRead ld dpa tag 1 ms)

/-- MEMWR (R61). -/
def execMemwr (ld dpa tag : Nat) (ms : MetaState) (data : Line) (s : State) : Host.Outcome State Fault Refusal :=
  s.act (hostWrite ld dpa tag 2 ms data fullMask)

/-- MEMWRPTL (R62). -/
def execMemwrptl (ld dpa tag : Nat) (ms : MetaState) (data : Line) (mask : Nat) (s : State) :
    Host.Outcome State Fault Refusal := s.act (hostWrite ld dpa tag 3 ms data (mask % 2 ^ 64))

/-- HEAD_WRITE_BACK (R190). -/
def execHeadWriteBack (ld dpa tag : Nat) (ms : MetaState) (data : Line) (mask : Nat) (s : State) :
    Host.Outcome State Fault Refusal := s.act (headWriteBack ld dpa tag ms data (mask % 2 ^ 64))

/-- MEMCLNEVCT (R184). -/
def execMemclnevct (ld dpa tag : Nat) (s : State) : Host.Outcome State Fault Refusal := s.act (memClnEvct ld dpa tag)

/-- PCIE_ATOMICOP (R195). -/
def execPcieAtomicop (ld off tag : Nat) (op : PcieAtomic) (a b : Nat) (s : State) : Host.Outcome State Fault Refusal :=
  s.act (pcieAtomicop ld off tag op a b)

/-- FLIT_SLOT (R396). -/
def execFlitSlot (h units reqs : Nat) (replay mapped : Bool) (s : State) : Host.Outcome State Fault Refusal :=
  s.act (flitSlot h units reqs replay mapped)

/-- BELL_WRITE (R227): a write that reaches a bell atoll; any other address is no bell. -/
def execBellWrite (ld dpa : Nat) (data : Line) (mask : Nat) (s : State) : Host.Outcome State Fault Refusal :=
  s.act (.read fun m => .some? ((m.decode ld dpa).filter fun x => m.isBell x.atoll) fun x =>
    accept ld true (bellLineWrite ld ((dpa - m.viewBase x.view) % 2 ^ 16) data (mask % 2 ^ 64)))

/-- BELL_READ (R228). -/
def execBellRead (ld dpa tag : Nat) (s : State) : Host.Outcome State Fault Refusal :=
  s.act (.read fun m => .some? ((m.decode ld dpa).filter fun x => m.isBell x.atoll) fun _ => hostRead ld dpa tag 0 .noop)

end Sys2Proof.Machine
end

