-- ==== Sys2Proof/Machine/Keys.lean ====
section
/-!
DEFINITION. Keys and the Tideline (chapter "Sealing, integrity and the Tideline"): the key messages, the slots an atoll needs,
zeroisation, and the rotation of an atoll's keys.
-/

namespace Sys2Proof.Machine

/-! ### Slots (Table 7.1, R44, R147) -/

/-- Kinds of key slots, `KIND` of Table 7.2: 0 data, 1 integrity, 2 transport, 3 SAK. -/
def keySlots (s : Sled) (kind : Nat) : Nat :=
  match kind with
  | 0 => s.pick 8192 4096
  | 1 => s.pick 4096 2048
  | 2 => s.pick 1 0
  | 3 => s.pick 32 0
  | _ => 0

/-- Bytes of material of a kind (Table 7.2). -/
def keyBytes (kind : Nat) : Nat :=
  match kind with
  | 0 => 64
  | 1 => 32
  | 2 => 96
  | _ => 44

/-- The material in a slot. -/
def Mach.slotKey (m : Mach) (kind i : Nat) : Option (List Byte) :=
  match kind with
  | 0 => m.keys.data.find? i
  | 1 => m.keys.integ.find? i
  | 2 => m.keys.transport
  | _ => m.keys.sak.find? i

/-- The slots that an atoll needs: kind, slot, and the place of its recorded check value (R44). -/
def Mach.needs (m : Mach) (n : Nat) : List (Nat × Nat × Nat) :=
  let kc := m.get .ATL_KEY_CUR n
  let kn := m.get .ATL_KEY_NEXT n
  let ic := m.get .ATL_IKEY_CUR n
  let ik := m.get .ATL_IKEY_NEXT n
  (if m.isSealed n then (0, kc, 0) :: (if kn = kc then [] else [(0, kn, 1)]) else [])
    ++ (if m.hasTags n then (1, ic, 2) :: (if ik = ic then [] else [(1, ik, 3)]) else [])

/-- An atoll that is not Free needs a slot. -/
def Mach.needers (m : Mach) (kind i : Nat) : List Nat :=
  m.atolls.filter fun n => (m.needs n).any fun x => x.1 == kind && x.2.1 == i

/-- A check value recorded in an atoll's root table entry (R147). -/
def Mach.recorded (m : Mach) (n j : Nat) : Option (List Nat) := m.keys.kcv.find? (4 * n + j)

/-- Record the check values of the slots that an atoll needs (R147). -/
def recordKcv (n : Nat) : Act := .read fun m =>
  .each (m.needs n) fun x =>
    .some? (m.slotKey x.1 x.2.1) fun k => .prim (.keys fun s => { s with kcv := s.kcv.put (4 * n + x.2.2) (kcvOf k) })

/-- Every slot that an atoll needs holds a key with the recorded check value (R148). -/
def Mach.keysHeld (m : Mach) (n : Nat) : Bool :=
  (m.needs n).all fun x =>
    match m.slotKey x.1 x.2.1, m.recorded n x.2.2 with
    | some k, some v => kcvOf k == v
    | some _, none => true
    | none, _ => false

/-! ### The rotation's running state (Table 7.14) -/

/-- The sled is in Ebb, or on its way into it or out of it. -/
def Mach.ebbing (m : Mach) : Bool := m.get .REEF_PSTATE == 2 || m.pow.entering || m.pow.exiting

/-- A rotation is held back: by its own bit, by `TDL_EN`, in Ebb, or by absent keys (Table 7.14). -/
def Mach.tdlHeld (m : Mach) (s : Nat) : Bool :=
  m.flag .TDL_SLOT_PAUSE s || !m.flag .TDL_EN || m.ebbing || m.keysAbsent (m.get .TDL_SLOT_ATOLL s)

/-- Each running rotation is Rotating or Paused as what holds it back says (Table 7.14). -/
def tdlUpdate : Act := .each (List.range 8) fun s => .read fun m =>
  let st := m.get .TDL_SLOT_STATE s
  let v := if m.tdlHeld s then 2 else 1
  .when (decide (st = 1 ∨ st = 2))
    (.all [.set .TDL_SLOT_STATE s v, .set .ATL_TDL_STATE (m.get .TDL_SLOT_ATOLL s) v])

/-- `ATL_KEYS_ABSENT` follows the slots, and the rotations follow it (R148, Table 2.10, Table 7.14). -/
def keysUpdate : Act := .read fun m =>
  .seq (.each m.atolls fun n => .set .ATL_KEYS_ABSENT n (Bits.ofBool (m.isSealed n && !m.keysHeld n))) tdlUpdate

/-! ### Setting and zeroising (R144, R148) -/

/-- The status bit of a slot (Table 7.16). -/
def slotBit (kind i : Nat) (v : Bool) : Act :=
  match kind with
  | 0 => .wideBit .KEY_DATA_SET i v
  | 1 => .wideBit .KEY_INT_SET i v
  | 2 => .set .KEY_TRANSPORT_SET 0 (Bits.ofBool v)
  | _ => .read fun m => .set .KEY_SAK_SET 0 (withBit (m.get .KEY_SAK_SET) i v)

/-- Put material in a slot. -/
def putKey (kind i : Nat) (k : List Byte) : Act :=
  .seq (.prim (.keys fun s => match kind with
    | 0 => { s with data := s.data.put i k }
    | 1 => { s with integ := s.integ.put i k }
    | 2 => { s with transport := some k }
    | _ => { s with sak := s.sak.put i k })) (slotBit kind i true)

/-- Zeroise a slot; one that held a key is counted (`KEY_ZEROISED`). -/
def zeroSlot (kind i : Nat) : Act := .read fun m =>
  .when (m.slotKey kind i).isSome
    (.all [.prim (.keys fun s => match kind with
        | 0 => { s with data := s.data.erase i }
        | 1 => { s with integ := s.integ.erase i }
        | 2 => { s with transport := none }
        | _ => { s with sak := s.sak.erase i }),
      slotBit kind i false, .inc .KEY_ZEROISED 0 1])

/-- The two halves of the XTS pair of a data or transport key are equal (status 0x05). -/
def halvesEqual (kind : Nat) (k : List Byte) : Bool := (kind == 0 || kind == 2) && k.take 32 == (k.drop 32).take 32

/-- A page of this sled is Offshore (status 0x02). -/
def Mach.anyOffshore (m : Mach) : Bool := m.pages.any fun p => p.2.rcd.tier == .offshore

/-- The material as the slot takes it: as long as its kind. -/
def keyMaterial (kind : Nat) (k : List Byte) : List Byte := (k ++ List.replicate (keyBytes kind - k.length) 0).take (keyBytes kind)

/-- The checks that every key message shares: the key role, then `KIND` and `INDEX` (R477). Material whose length is not that of
its kind is out of range too (log entry 6). -/
def keyRangeStatus (m : Mach) (s : Session) (kind index : Nat) : Nat :=
  if !Bits.bit (Session.held s) 0 then 4 else if keySlots m.sled kind ≤ index then 3 else 0

/-- The status of a `KEY_SET` (R477, Table 7.3). -/
def keySetStatus (m : Mach) (s : Session) (kind index : Nat) (k : List Byte) : Nat :=
  if keyRangeStatus m s kind index ≠ 0 then keyRangeStatus m s kind index
  else if k.length ≠ keyBytes kind then 3
  else if (m.slotKey kind index).isSome then 1
  else if halvesEqual kind k then 5
  else if (m.needers kind index).any fun n => (m.needs n).any fun x =>
      x.1 == kind && x.2.1 == index && ((m.recorded n x.2.2).any fun v => v != kcvOf k) then 6
  else 0

/-- The status of a `KEY_ZERO` (R477, Table 7.3). -/
def keyZeroStatus (m : Mach) (s : Session) (kind index : Nat) : Nat :=
  if keyRangeStatus m s kind index ≠ 0 then keyRangeStatus m s kind index
  else if !(m.needers kind index).isEmpty || (kind == 2 && m.anyOffshore) then 2
  else 0

/-- Answer a key message; one not answered with 0x00 is counted (`KEY_SPDM_REFUSED`). -/
def keyAnswer (s : Session) (op st : Nat) (kcv : List Nat) : Act :=
  .all [.when (st != 0) (.inc .KEY_SPDM_REFUSED 0 1), .emit (.keyRsp s.id (op + 0x80) st kcv)]

/-- KEY_SET: into an empty slot, with its check value in the answer (R144, R147). -/
def keySet (s : Session) (kind index : Nat) (k : List Byte) : Act := .read fun m =>
  let st := keySetStatus m s kind index k
  .all [.when (st == 0) (.all [putKey kind index k, keysUpdate]),
    keyAnswer s 1 st (if st = 0 then kcvOf k else List.replicate 8 0)]

/-- KEY_ZERO: unless an atoll needs the slot, or the transport key is in use (Table 7.3). -/
def keyZero (s : Session) (kind index : Nat) : Act := .read fun m =>
  let st := keyZeroStatus m s kind index
  .all [.when (st == 0) (.all [zeroSlot kind index, keysUpdate]), keyAnswer s 2 st (List.replicate 8 0)]

/-- KEY_STATUS: the slot's check value, zeros while it is empty (R147). -/
def keyStatus (s : Session) (kind index : Nat) : Act := .read fun m =>
  let st := keyRangeStatus m s kind index
  keyAnswer s 3 st (match if st = 0 then m.slotKey kind index else none with
    | some k => kcvOf k
    | none => List.replicate 8 0)

/-- KEY_MATERIAL_WRITE: no effect but a count for each 8-byte word written (R144). -/
def keyMaterialWrite (off size : Nat) : Act :=
  .when (decide (size ≠ 0)) (.inc .KEY_PLAIN_WRITES 0 ((off + size - 1) / 8 - off / 8 + 1))

/-! ### Starting a rotation (R157, R162) -/

/-- The next keys that a rotation needs are named and provisioned (R162). -/
def Mach.nextReady (m : Mach) (n : Nat) : Bool :=
  let ok := fun kind cur nx => nx != cur && (m.slotKey kind nx).isSome
  ok 0 (m.get .ATL_KEY_CUR n) (m.get .ATL_KEY_NEXT n)
    && (!m.hasTags n || ok 1 (m.get .ATL_IKEY_CUR n) (m.get .ATL_IKEY_NEXT n))

/-- The first free rotation slot. -/
def Mach.freeRot (m : Mach) : Option Nat := (List.range 8).find? fun s => m.get .TDL_SLOT_STATE s == 0

/-- Why a rotation of an atoll in a slot is refused: `TDL_SLOT_ERR` (Table 7.17); 0 when it may start. -/
def Mach.rotErr (m : Mach) (slot : Option Nat) (n : Nat) : Nat :=
  if m.get .ATL_STATE n ≠ atlLive then 1
  else if !m.isSealed n then 2
  else if m.get .ATL_TDL_STATE n ≠ 0 then 3
  else if !m.nextReady n then 4
  else if !(slot.any fun s => m.get .TDL_SLOT_STATE s == 0) then 5
  else if m.ebbing || m.get .ID_SVC_STATE == 2 then 6
  else 0

/-- Take a rotation slot (Table 7.11 step 3). -/
def rotStart (s n : Nat) (auto : Bool) : Act := .read fun m =>
  .all [.set .TDL_SLOT_ATOLL s n, .set .TDL_SLOT_STATE s 1, .set .TDL_SLOT_AUTO s (Bits.ofBool auto), .set .TDL_SLOT_ERR s 0,
    .set .TDL_SLOT_LINE s 0, .set .TDL_SLOT_WINDOW s 0, .set .TDL_SLOT_PAGES s (m.atollPages n),
    .set .ATL_TDL_STATE n 1, .set .ATL_TDL_PAGE n 0,
    .prim (.keys fun k => { k with passed := k.passed.filter fun p => p.1 != s, autoWait := k.autoWait.filter (· != n),
                                   reminder := k.reminder.erase n }),
    tdlUpdate]

/-- TDL_SLOT_START: starts a rotation in the slot that is written, or leaves the reason (R162). -/
def tdlSlotStart (s n : Nat) : Act := .read fun m =>
  let e := m.rotErr (some s) n
  .when (decide (s < 8)) (if e = 0 then rotStart s n false else .set .TDL_SLOT_ERR s e)

/-- A page of a sealed atoll has reached the threshold (R157). -/
def Mach.epochDue (m : Mach) (n : Nat) : Bool :=
  m.pages.any fun p => m.inAtoll n p.1 && m.get .TDL_AUTO_EPOCH ≤ p.2.rcd.epoch

/-- Highest `EPOCH` of an atoll's pages. -/
def Mach.maxEpoch (m : Mach) (n : Nat) : Nat :=
  ((m.pages.filter fun p => m.inAtoll n p.1).map fun p => p.2.rcd.epoch).foldl max 0

/-- The record and the event that a next key is needed, to be repeated in 10 minutes (R157). -/
def needNextKey (n : Nat) : Act := .read fun m =>
  .all [lhLog 0 0x0032 n (m.maxEpoch n), evViewers n .info .keyNeeded [n, m.maxEpoch n],
    .prim (.keys fun k => { k with reminder := k.reminder.put n (m.now + 600000000000) })]

/-- An automatic start is due: the atoll is Live and sealed, a page has reached the threshold, and no rotation runs (R157). -/
def Mach.autoDue (m : Mach) (n : Nat) : Bool :=
  m.get .ATL_STATE n == atlLive && m.isSealed n && m.get .ATL_TDL_STATE n == 0 && m.epochDue n

/-- ROTATION_AUTO_START: a start, a wait for a rotation slot, or the record that a next key is needed (R157, R162). -/
def rotationAutoStart (n : Nat) : Act := .read fun m =>
  .when (m.autoDue n)
    (if !m.nextReady n then .when (m.keys.reminder.find? n).isNone (needNextKey n)
     else match m.freeRot with
      | some s => .when (m.rotErr (some s) n == 0) (rotStart s n true)
      | none => .prim (.keys fun k => { k with autoWait := k.autoWait.filter (· != n) ++ [n] }))

/-- NEXT_KEY_REMINDER: the record and the event again, while the need stands (R157). -/
def nextKeyReminder (n : Nat) : Act := .read fun m =>
  .when (m.autoDue n && !m.nextReady n && (m.keys.reminder.find? n).isSome) (needNextKey n)

/-- TDL_SLOT_PAUSE of one slot, or `TDL_EN` (Table 7.14). -/
def tdlSlotPause (which : Option Nat) (v : Bool) : Act :=
  .seq (match which with
    | some s => .when (decide (s < 8)) (.set .TDL_SLOT_PAUSE s (Bits.ofBool v))
    | none => .set .TDL_EN 0 (Bits.ofBool v)) tdlUpdate

/-! ### The walk (R163, R164) -/

/-- Relative numbers of the pages whose records lie in the record block of a page: 64 pages of its home (R102). -/
def Mach.blockMates (m : Mach) (n pn : Nat) : List Nat :=
  let h := homeIndex m.sled pn
  let k0 := m.pageK n pn / 64 * 64
  (List.range 64).map fun j =>
    let base := m.atollPage n + (k0 + j) * m.sled.homes
    (k0 + j) * m.sled.homes + (homeIndex m.sled base ^^^ h)

/-- Relative pages whose records do not lie in `FRESH` blocks: the mates of every page whose record is not as never written. -/
def Mach.notFresh (m : Mach) (n : Nat) : List Nat :=
  ((m.pages.filter fun p => m.inAtoll n p.1).flatMap fun p => m.blockMates n p.1).dedup

/-- Relative page r of a slot's atoll is rotated: below the tideline, or in the window (R163). -/
def Mach.rotated (m : Mach) (s r : Nat) : Bool :=
  let b := m.get .TDL_SLOT_LINE s
  r < b || (r - b < 64 && Bits.bit (m.get .TDL_SLOT_WINDOW s) (r - b))

/-- Pages still to rotate. -/
def Mach.unrotated (m : Mach) (s : Nat) : List Nat :=
  (m.notFresh (m.get .TDL_SLOT_ATOLL s)).filter fun r => !m.rotated s r

/-- The smallest number of a list, or a bound. -/
def lowest (top : Nat) (l : List Nat) : Nat := l.foldl min top

/-- The tideline advances to the next page not yet rotated, over pages that need no visit, and the window shifts with it
(R163). -/
def tdlAdvance (s : Nat) : Act := .read fun m =>
  let n := m.get .TDL_SLOT_ATOLL s
  let b := m.get .TDL_SLOT_LINE s
  let b' := lowest (m.get .TDL_SLOT_PAGES s) (m.unrotated s)
  .when (decide (b < b'))
    (.all [.set .TDL_SLOT_LINE s b', .set .TDL_SLOT_WINDOW s (m.get .TDL_SLOT_WINDOW s / 2 ^ (b' - b)), .set .ATL_TDL_PAGE n b'])

/-- Mark a page rotated, and advance when it is the tideline's (R163). -/
def tdlMark (s r : Nat) : Act := .read fun m =>
  let b := m.get .TDL_SLOT_LINE s
  let w := m.get .TDL_SLOT_WINDOW s
  .all [.inc .TDL_PAGES 0 1,
    .prim (.keys fun k => { k with passed := k.passed.filter (· != (s, r)) }),
    if r = b then .all [.set .TDL_SLOT_LINE s (b + 1), .set .TDL_SLOT_WINDOW s (w / 2), .set .ATL_TDL_PAGE (m.get .TDL_SLOT_ATOLL s) (b + 1),
        tdlAdvance s]
    else .when (decide (b < r ∧ r < b + 64)) (.set .TDL_SLOT_WINDOW s (withBit w (r - b) true))]

/-- The page that the Tideline offers: the lowest of the window that is neither rotated nor passed; when every one has been
passed, the lowest again (R164, Table 7.12 step 1). -/
def Mach.offered (m : Mach) (s : Nat) : Option Nat :=
  let b := m.get .TDL_SLOT_LINE s
  let c := (m.unrotated s).filter fun r => r < b + 64
  let top := b + 64
  let live := c.filter fun r => !m.keys.passed.contains (s, r)
  let p := lowest top (if live.isEmpty then c else live)
  if p < top then some p else none

/-- Pass a page: it is counted, and offered again later (R164). -/
def tdlPass (s r : Nat) : Act := .read fun m =>
  let b := m.get .TDL_SLOT_LINE s
  let c := (m.unrotated s).filter fun x => x < b + 64 && x != r
  let again := c.all fun x => m.keys.passed.contains (s, x)
  .all [.inc .TDL_SLOT_PASSES s 1,
    .prim (.keys fun k => { k with passed := if again then k.passed.filter fun p => p.1 != s
                                             else k.passed.filter (· != (s, r)) ++ [(s, r)] })]

/-- The Tideline is running in a slot. -/
def Mach.tdlRuns (m : Mach) (s : Nat) : Bool := s < 8 && m.get .TDL_SLOT_STATE s == 1 && m.get .ATL_STATE (m.get .TDL_SLOT_ATOLL s) == atlLive

/-- Steps 3 to 6 of Table 7.12 for a local page: poison what does not read, seal every line under the next keys with `EPOCH` 0
and counters 0, in place. -/
def rotatePage (s n pn : Nat) : Act := .read fun m =>
  if (m.page pn).rcd.alloc = 0 then
    .all [.rcd pn fun r => { r with epoch := 0 }, .read fun m' => .prim (.page pn { m'.page pn with tags := [] }),
      tdlMark s (pn - m.atollPage n)]
  else
    .all [poisonLines n pn (m.badLines n pn) .mediaManagement 1,
      chargeExtent (m.page pn).rcd.base (m.page pn).rcd.alloc 71 false, chargeExtent (m.page pn).rcd.base (m.page pn).rcd.alloc 71 true,
      .read fun m' => writeExtent n pn (m'.page pn).rcd.base { (m'.page pn).rcd with epoch := 0 } true (m'.storedPage n pn),
      tdlMark s (pn - m.atollPage n), tagOp 71 0 (pn * 64) n 0 [2, 3, 4, 5, 6]]

/-- TIDELINE_PAGE_ROTATE: the page offered, when it is local, is rotated, or passed while a flag holds it (Table 7.12). -/
def tidelinePageRotate (s : Nat) : Act := .read fun m0 =>
  .when (m0.tdlRuns s)
    (.seq (tdlAdvance s) (.read fun m =>
      .some? (m.offered s) fun r =>
        let n := m.get .TDL_SLOT_ATOLL s
        let pn := m.atollPage n + r
        let rc := (m.page pn).rcd
        .when (rc.tier != .offshore) (if rc.busy || m.pageDead pn then tdlPass s r else rotatePage s n pn)))

/-- IMAGE_REWRITE: the page offered, when it is Offshore, has its image fetched, or is passed (Table 7.13). -/
def imageRewrite (s : Nat) : Act := .read fun m0 =>
  .when (m0.tdlRuns s)
    (.seq (tdlAdvance s) (.read fun m =>
      .some? (m.offered s) fun r =>
        let pn := m.atollPage (m.get .TDL_SLOT_ATOLL s) + r
        let rc := (m.page pn).rcd
        .when (rc.tier == .offshore)
          (if rc.busy then tdlPass s r
           else .all [.rcd pn fun x => { x with pushPending := true }, getImage pn .rewriteGet 0])))

/-! ### The end (Table 7.11 steps 5 to 7) -/

/-- Move the check values recorded for the next slots to the current ones. -/
def kcvAdvance (n : Nat) (tags : Bool) : Act :=
  .prim (.keys fun k =>
    let mv := fun (c : SMap (List Nat)) j => match c.find? (4 * n + j + 1) with
      | some v => (c.put (4 * n + j) v).erase (4 * n + j + 1)
      | none => c
    { k with kcv := if tags then mv (mv k.kcv 0) 2 else mv k.kcv 0 })

/-- ROTATION_FINISH: the next keys become current, the former slots are zeroised, the record is made and the rotation slot is
freed. -/
def rotationFinish (s : Nat) : Act := .read fun m0 =>
  .when (m0.tdlRuns s)
    (.seq (tdlAdvance s) (.read fun m =>
      let n := m.get .TDL_SLOT_ATOLL s
      let t := m.hasTags n
      let kc := m.get .ATL_KEY_CUR n
      let kn := m.get .ATL_KEY_NEXT n
      let ic := m.get .ATL_IKEY_CUR n
      let ik := m.get .ATL_IKEY_NEXT n
      .when (m.get .TDL_SLOT_LINE s == m.get .TDL_SLOT_PAGES s)
        (.all [.set .TDL_SLOT_STATE s 3, .set .ATL_KEY_CUR n kn, .when t (.set .ATL_IKEY_CUR n ik), .set .ATL_TDL_STATE n 0,
          kcvAdvance n t, zeroSlot 0 kc, .when t (zeroSlot 1 ic),
          lhLog 0 0x0031 n (kc + 2 ^ 16 * kn + 2 ^ 32 * (if t then ic else 0xFFFF) + 2 ^ 48 * (if t then ik else 0xFFFF)
            + 2 ^ 64 * m.get .TDL_SLOT_AUTO s),
          .prim (.keys fun k => { k with passed := k.passed.filter fun p => p.1 != s }),
          .set .TDL_SLOT_STATE s 0, keysUpdate])))

/-- A rotation of a retiring atoll stops: its slot is freed (Table 2.5 step 3, Table 7.14). -/
def rotationStop (n : Nat) : Act := .read fun m =>
  .some? (m.rotSlot n) fun s =>
    .all [.set .TDL_SLOT_STATE s 0, .set .ATL_TDL_STATE n 0,
      .prim (.keys fun k => { k with passed := k.passed.filter fun p => p.1 != s })]

/-! ### Meanings -/

/-- KEY_SET (R144). -/
def execKeySet (ss : Session) (kind index : Nat) (material : List Byte) (s : State) : Host.Outcome State Fault Refusal :=
  s.act (keySet ss kind index material)

/-- KEY_ZERO (R144). -/
def execKeyZero (ss : Session) (kind index : Nat) (s : State) : Host.Outcome State Fault Refusal := s.act (keyZero ss kind index)

/-- KEY_STATUS (R147). -/
def execKeyStatus (ss : Session) (kind index : Nat) (s : State) : Host.Outcome State Fault Refusal := s.act (keyStatus ss kind index)

/-- KEY_MATERIAL_WRITE (R144). -/
def execKeyMaterialWrite (off size : Nat) (s : State) : Host.Outcome State Fault Refusal := s.act (keyMaterialWrite off size)

/-- ROTATION_AUTO_START (R157). -/
def execRotationAutoStart (atoll : Nat) (s : State) : Host.Outcome State Fault Refusal := s.act (rotationAutoStart atoll)

/-- NEXT_KEY_REMINDER (R157). -/
def execNextKeyReminder (atoll : Nat) (s : State) : Host.Outcome State Fault Refusal := s.act (nextKeyReminder atoll)

/-- TDL_SLOT_START (R162). -/
def execTdlSlotStart (slot atoll : Nat) (s : State) : Host.Outcome State Fault Refusal := s.act (tdlSlotStart slot atoll)

/-- TDL_SLOT_PAUSE (R171). -/
def execTdlSlotPause (which : Option Nat) (v : Bool) (s : State) : Host.Outcome State Fault Refusal := s.act (tdlSlotPause which v)

/-- TIDELINE_PAGE_ROTATE (R163). -/
def execTidelinePageRotate (slot : Nat) (s : State) : Host.Outcome State Fault Refusal := s.act (tidelinePageRotate slot)

/-- IMAGE_REWRITE (R163). -/
def execImageRewrite (slot : Nat) (s : State) : Host.Outcome State Fault Refusal := s.act (imageRewrite slot)

/-- ROTATION_FINISH (R163). -/
def execRotationFinish (slot : Nat) (s : State) : Host.Outcome State Fault Refusal := s.act (rotationFinish slot)

end Sys2Proof.Machine
end

