-- ==== Sys2Proof/Machine/Tiers.lean ====
section
/-!
DEFINITION. Heat periods, the cold scan and recalls (chapter "Tiers, heat and placement"), and the elastic contract
(chapter "Grain space, the Dredger and the tally", R115 to R123, and R49).
-/

namespace Sys2Proof.Machine

/-! ### Heat periods (R126, R128) -/

/-- Records that the cold scan walks: those that differ from a never-written one (R127). -/
def Mach.walked (m : Mach) : List (Nat × PageSt) := m.pages.filter fun p => p.2.rcd != {}

/-- HEAT_PERIOD_ADVANCE: the counter advances, or the boundary is held back while some record has not been visited in the last
23 periods; it stops during Ebb (R126, R128). -/
def heatPeriodAdvance : Act := .read fun m =>
  .when (m.flag .ID_MEM_ACTIVE && m.get .REEF_PSTATE != 2)
    (if m.walked.any fun p => decide (23 ≤ m.get .TIER_PERIOD_NOW - p.2.visited) then .inc .TIER_STRETCH 0 1
     else .inc .TIER_PERIOD_NOW 0 1)

/-! ### The cold scan (R127, R129 to R131) -/

/-- The pressure-push condition of a page under its home's stage (Table 6.1, R131). -/
def Mach.pressureDue (m : Mach) (n pn : Nat) : Bool :=
  let r := (m.page pn).rcd
  let c := m.cls n
  let stage := (m.grain.pushStage.find? (homeIndex m.sled pn)).getD 0
  decide (2 ≤ m.get .GRN_LEVEL) && m.isElastic n && !m.pinned n r && m.pushable n pn && !(m.holders n pn []).isEmpty
    && (match stage with
      | 0 => m.heat r == 0 && decide (m.get .TIER_CLS_PUSH_DWELL c ≤ m.idle r)
      | 1 => decide (m.heat r ≤ m.get .TIER_CLS_SINK_HEAT c)
      | _ => true)

/-- The policy-push condition of a page (Table 6.1). -/
def Mach.policyDue (m : Mach) (n pn : Nat) : Bool :=
  let r := (m.page pn).rcd
  let c := m.cls n
  !m.pinned n r && m.flag .TIER_CLS_PUSH_EN c && m.heat r == 0 && decide (m.get .TIER_CLS_PUSH_DWELL c ≤ m.idle r)
    && m.flag .TIER_HEAT_EN && m.pushable n pn && !(m.holders n pn []).isEmpty

/-- The Pin-Shallows return is due (Table 6.1). -/
def Mach.pinShallowsDue (m : Mach) (n pn : Nat) : Bool :=
  let r := (m.page pn).rcd
  r.tier == .deep && m.pinTier n r == some .shallows && !r.busy

/-- The home's scan position, and at the start of a pass the widening of its pushes: one stage more when the last pass at Surge
or Flood found no page to push (R131). -/
def scanStep (pn : Nat) : Act := .read fun m =>
  let h := homeIndex m.sled pn
  let wrap := match m.grain.scanPos.find? h with | some x => decide (pn ≤ x) | none => false
  let stage := (m.grain.pushStage.find? h).getD 0
  let found := m.grain.pushFound.contains h
  let widen := wrap && !found && decide (2 ≤ m.get .GRN_LEVEL)
  .prim (.grain fun g => { g with
    scanPos := g.scanPos.put h pn
    pushFound := if wrap then g.pushFound.filter (· != h) else g.pushFound
    pushStage := if widen then g.pushStage.set h 0 (min 2 (stage + 1)) else g.pushStage })

/-- Ageing: an idle time of 32 or more sets `COUNT` to 0 and `STAMP` 32 periods back; it is no access (R127). -/
def ageing (pn : Nat) : Act := .read fun m =>
  .when (decide (32 ≤ m.idle (m.page pn).rcd))
    (.rcd pn fun r => { r with count := 0, stamp := (m.get .TIER_PERIOD_NOW + 32) % 64 })

/-- The placement decision of a visit, in the order of R52: a revoked extent and the pins, pressure, heat (Table 6.1). -/
def placeDecision (n pn : Nat) : Act := .read fun m =>
  let r := (m.page pn).rcd
  let h := homeIndex m.sled pn
  .when (m.dredgeable n && !r.busy)
    (if m.sinkDue n pn then sink n pn
     else if m.pinShallowsDue n pn then lift n pn .pin
     else if m.pressureDue n pn then
       .all [.prim (.grain fun g => { g with pushFound := h :: g.pushFound.filter (· != h) }), startPush n pn]
     else .when (m.policyDue n pn) (startPush n pn))

/-- COLD_SCAN_VISIT: one record is visited, aged, and decided on; a record as never written is skipped (R127). -/
def coldScanVisit (pn : Nat) : Act := .read fun m =>
  .when ((m.page pn).rcd != {})
    (.some? (m.atollOf pn) fun n =>
      .all [scanStep pn, ageing pn,
        .read fun m' => .prim (.page pn { m'.page pn with visited := m'.get .TIER_PERIOD_NOW }),
        placeDecision n pn])

/-- PAGE_RECALL: the home of an Offshore page asks for its image (R132, R294). -/
def pageRecall (pn : Nat) : Act := .read fun m => .when (m.atollOf pn).isSome (startRecall pn)

/-! ### The elastic pool (R49) -/

/-- Pages that hold data: written pages, local or away. -/
def PageRec.written (r : PageRec) : Bool := r.alloc != 0 || r.tier == .offshore || r.size.any (· != 0)

/-- Elastic atolls that serve. -/
def Mach.elasticAtolls (m : Mach) : List Nat :=
  m.atolls.filter fun n => m.isElastic n && !m.isBell n && m.get .ATL_STATE n == atlLive

/-- Written pages of the elastic atolls. -/
def Mach.elasticPages (m : Mach) : List (Nat × PageSt) :=
  let es := m.elasticAtolls
  m.pages.filter fun p => p.2.rcd.written && es.any fun n => m.inAtoll n p.1

/-- Bytes of plots allocated to elastic data pages: A of R49. -/
def Mach.poolA (m : Mach) : Nat := (m.elasticPages.map fun p => p.2.rcd.alloc * 256).sum

/-- The elastic pool in bytes: P of R49, raw capacity less the reservations, the Dredger reserve and the floor. -/
def Mach.poolP (m : Mach) : Nat :=
  let held := ((m.atolls.filter fun n => m.get .ATL_STATE n != atlBuilding && !m.isBell n).map m.reservation).sum
  (m.rawPlots - held - m.reservePlots - m.get .GRN_FLOOR_BP * m.rawPlots / 10000) * 256

/-- A page of an atoll lies in an extent of some LD. -/
def Mach.pageInExtent (m : Mach) (e : Extent) (pn : Nat) : Bool :=
  (m.ldDpas e.ld (pn * 4096)).any fun d => e.base ≤ d && d < e.base + e.len

/-- Elastic bytes accepted and never written, with the bytes of every open offer: U of R49. -/
def Mach.poolU (m : Mach) : Nat :=
  (m.host.extents.map fun e =>
    if e.accepted then e.len - 4096 * (m.elasticPages.filter fun p => m.pageInExtent e p.1).length else e.len).sum

/-- The ratio ρ of R49 as numerator and denominator: presented to allocated bytes over elastic pages holding data, at most 2,
and 1 while fewer than 65,536 such pages exist. -/
def Mach.poolRho (m : Mach) : Nat × Nat :=
  let held := m.elasticPages.filter fun p => p.2.rcd.alloc != 0
  if held.length < 65536 then (1, 1)
  else
    let pres := held.length * 4096
    let alloc := (held.map fun p => p.2.rcd.alloc * 256).sum
    if 2 * alloc ≤ pres then (2, 1) else (pres, alloc)

/-- The bytes that may still be offered: X with A + (U + X) ÷ ρ ≤ P, in 2 MiB multiples (R49). -/
def Mach.offerRoom (m : Mach) : Nat :=
  let r := m.poolRho
  ((m.poolP - m.poolA) * r.1 / r.2 - m.poolU) / 2 ^ 21 * 2 ^ 21

/-- The first 2 MiB unit from a place on that no extent of the LD covers, and how many such units follow, up to a count. -/
def Mach.uncovered (m : Mach) (ld : Nat) : Nat → Nat → Option (Nat × Nat)
  | 0, _ => none
  | fuel + 1, at_ =>
    match m.host.extents.find? fun e => e.ld == ld && e.base ≤ at_ && at_ < e.base + e.len with
    | some _ => m.uncovered ld fuel (at_ + 2 ^ 21)
    | none =>
      let next := (m.host.extents.filter fun e => e.ld == ld && at_ < e.base).foldl (fun b e => min b e.base)
        (at_ + (fuel + 1) * 2 ^ 21)
      some (at_, next - at_)

/-- Offer one extent of a view: its lowest range that is neither offered nor accepted, as far as the pool allows. -/
def offerView (v : Nat) : Act := .read fun m =>
  let ld := m.get .VW_LD v
  let n := m.get .VW_ATOLL v
  .some? (m.uncovered ld (m.get .ATL_SIZE n) (m.viewBase v)) fun x =>
    let len := min x.2 m.offerRoom
    .when (decide (len ≠ 0))
      (.all [.prim (.host fun h => { h with extents := h.extents ++ [{ ld := ld, base := x.1, len := len, accepted := false }] }),
        evAdd ld .dcd .addCapacity [x.1, len]])

/-- ADD_CAPACITY_OFFER: at Calm, at most once in each heat period, one further extent of each view of an elastic atoll is
offered while the pool allows (R49, Table 5.6). The manual does not say which extents: views are taken in increasing number
(log entry 18). -/
def addCapacityOffer : Act := .read fun m =>
  .when (m.flag .GRN_ELASTIC_EN && m.get .GRN_LEVEL == 0 && m.grain.lastHeatPeriod != m.get .TIER_PERIOD_NOW + 1)
    (.all [.prim (.grain fun g => { g with lastHeatPeriod := m.get .TIER_PERIOD_NOW + 1 }),
      .each ((m.idxs .VW_VALID).filter fun v => m.flag .VW_VALID v && m.elasticAtolls.contains (m.get .VW_ATOLL v))
        offerView])

/-! ### Releases and revocation (R118, R119) -/

/-- The extent's first global DPA. -/
def Mach.extentGdpa (m : Mach) (e : Extent) : Nat :=
  match (m.ldViews e.ld).find? fun v => m.inView v e.base with
  | some v => m.get .ATL_BASE (m.get .VW_ATOLL v) * 2 ^ 21 + (e.base - m.viewBase v)
  | none => 0

/-- The listed pages of an extent. -/
def Mach.extentPages (m : Mach) (e : Extent) : List (Nat × PageSt) :=
  let p0 := m.extentGdpa e / 4096
  m.pages.filter fun p => p0 ≤ p.1 && p.1 < p0 + e.len / 4096

/-- The sum of the effective heat of an extent's pages (R118, R124). -/
def Mach.extentHeat (m : Mach) (e : Extent) : Nat := ((m.extentPages e).map fun p => m.heat p.2.rcd).sum

/-- The plots that an extent holds. -/
def Mach.extentPlots (m : Mach) (e : Extent) : Nat := ((m.extentPages e).map fun p => p.2.rcd.alloc).sum

/-- The shortfall in plots (R118). -/
def Mach.shortfall (m : Mach) : Nat :=
  ((List.range m.sled.homes).map fun h => m.watermark (m.get .GRN_WM_HIGH_BP) h - m.headroom h).sum

/-- The extent to be requested next: coldest, then lowest global DPA (R118). -/
def Mach.coldest (m : Mach) : Option Extent :=
  (m.host.extents.filter fun e => e.accepted && !e.requested).foldl
    (fun b e => match b with
      | none => some e
      | some x =>
        if m.extentHeat e < m.extentHeat x ∨ (m.extentHeat e = m.extentHeat x ∧ m.extentGdpa e < m.extentGdpa x) then some e else b)
    none

/-- `GRN_RELEASE_OUT`: extents requested, and neither revoked nor released; `GRN_REVOKED`: extents revoked and not
released (Table 5.8). -/
def releaseOut : Act := .read fun m =>
  .seq (.set .GRN_RELEASE_OUT 0 (m.host.extents.filter fun e => e.accepted && e.requested && !e.revoked).length)
    (.set .GRN_REVOKED 0 (m.host.extents.filter (·.revoked)).length)

/-- Request the release of one extent with a deadline (R118 steps 3 and 4). -/
def requestRelease (e : Extent) : Act := .read fun m =>
  let ask := fun (x : Extent) =>
    if x = e then { x with requested := true, deadline := m.now + m.get .GRN_DEADLINE * 10 ^ 6 } else x
  .all [.prim (.host fun h => { h with extents := h.extents.map ask }), evAdd e.ld .dcd .releaseCapacity [e.base, e.len],
    releaseOut]

/-- Request extents until the plots held by requested, unreleased extents reach the shortfall (R118 step 2). -/
def releaseLoop : Nat → Act
  | 0 => .skip
  | fuel + 1 => .read fun m =>
    let held := ((m.host.extents.filter fun e => e.accepted && e.requested).map m.extentPlots).sum
    .when (decide (held < m.shortfall))
      (.some? m.coldest fun e => .seq (requestRelease e) (releaseLoop fuel))

/-- RELEASE_REQUEST_EVAL: once per second at Surge and at Flood (R118). -/
def releaseRequestEval : Act := .read fun m =>
  .when (decide (2 ≤ m.get .GRN_LEVEL)) (releaseLoop m.host.extents.length)

/-- REVOCATION: an extent whose deadline has passed, at Flood (R119). -/
def revocation (ld start : Nat) : Act := .read fun m =>
  .some? (m.host.extents.find? fun e => e.ld == ld && e.base == start && e.accepted && e.requested && !e.revoked
      && m.get .GRN_LEVEL == 3) fun e =>
    let g := m.extentGdpa e
    .all [.prim (.host fun h => { h with extents := h.extents.map fun x => if x = e then { x with revoked := true } else x }),
      releaseOut,
      evAdd ld .dcd .forcedRelease [e.base, e.len],
      raise (srcId 0x01 (homeIndex m.sled (g / 4096)) 6) g 0]

/-- EXHAUSTION_RECORD: one 0x0013 record for each second in which a home dropped a write-back at zero headroom (R121). -/
def exhaustionRecord : Act := .read fun m =>
  .all [.each m.grain.exhausted fun p => lhLog 0 0x0013 p.1 p.2, .prim (.grain fun g => { g with exhausted := [] })]

/-! ### GRN registers (R117, R123) -/

/-- GRN_ELASTIC_EN_WRITE: a write of 0 is refused while an elastic atoll is not Free (R117). -/
def grnElasticEnWrite (v : Bool) : Act := .read fun m =>
  if !v && m.atolls.any fun n => m.isElastic n then .set .GRN_WR_REFUSED 0 1
  else .all [.set .GRN_ELASTIC_EN 0 (Bits.ofBool v), .set .GRN_WR_REFUSED 0 0]

/-- The fields of a home's group, in the order of Table 5.8. -/
def grnGroup : List Fld :=
  [.GRN_FREE, .GRN_ALLOCATED, .GRN_META, .GRN_QUAR, .GRN_TOTAL, .GRN_OWED, .GRN_HOME_LEVEL, .GRN_STRIPES, .GRN_MOVES,
   .GRN_MOVE_ABORTS]

/-- The latch of a path for a home: the two paths of R22 keep one each (R123). -/
def latchKey (p : Path) (h : Nat) : Nat := (match p with | .mf => 0 | .mctp _ => 64) + h

/-- A read of `GRN_FREE` latches the group for the path (R123). -/
def grnLatch (p : Path) (h : Nat) : Act := .read fun m =>
  .prim (.grain fun g => { g with latch := g.latch.put (latchKey p h) (grnGroup.map fun f => m.get f h) })

/-- GRN_FREE_READ: the live value, with the latch of its group (R123). -/
def grnFreeRead (p : Path) (h : Nat) : Act := .read fun m =>
  .when (decide (h < m.sled.homes))
    (.all [grnLatch p h,
      match p with
      | .mf => .emit (.setupRead (0x410000 + 0x100 + 0x40 * h) (m.get .GRN_FREE h))
      | .mctp e => .emit (.mctp e 0 (Bits.leBytes 8 (m.get .GRN_FREE h)))])

/-! ### Meanings -/

/-- HEAT_PERIOD_ADVANCE (R126). -/
def execHeatPeriodAdvance (s : State) : Host.Outcome State Fault Refusal := s.act heatPeriodAdvance

/-- COLD_SCAN_VISIT (R127). -/
def execColdScanVisit (pn : Nat) (s : State) : Host.Outcome State Fault Refusal := s.act (coldScanVisit pn)

/-- PAGE_RECALL (R294). -/
def execPageRecall (pn : Nat) (s : State) : Host.Outcome State Fault Refusal := s.act (pageRecall pn)

/-- ADD_CAPACITY_OFFER (R49). -/
def execAddCapacityOffer (s : State) : Host.Outcome State Fault Refusal := s.act addCapacityOffer

/-- RELEASE_REQUEST_EVAL (R118). -/
def execReleaseRequestEval (s : State) : Host.Outcome State Fault Refusal := s.act releaseRequestEval

/-- REVOCATION (R119). -/
def execRevocation (ld start : Nat) (s : State) : Host.Outcome State Fault Refusal := s.act (revocation ld start)

/-- EXHAUSTION_RECORD (R121). -/
def execExhaustionRecord (s : State) : Host.Outcome State Fault Refusal := s.act exhaustionRecord

/-- GRN_ELASTIC_EN_WRITE (R117). -/
def execGrnElasticEnWrite (v : Bool) (s : State) : Host.Outcome State Fault Refusal := s.act (grnElasticEnWrite v)

/-- GRN_FREE_READ (R123). -/
def execGrnFreeRead (p : Path) (h : Nat) (s : State) : Host.Outcome State Fault Refusal := s.act (grnFreeRead p h)

end Sys2Proof.Machine
end

