-- ==== Sys2Proof/Machine/Atolls.lean ====
section
/-!
DEFINITION. The atoll and view tables (chapter "Presented memory, atolls and views"): writes to entries and slots, admission,
changes while Live, retiring, and the opening and closing of views.
-/

namespace Sys2Proof.Machine

/-! ### Words and fields (Tables 2.1 and 2.2) -/

/-- The writable fields of a word of an atoll entry: field, lowest bit, width. -/
def atlFields (off : Nat) : List (Fld × Nat × Nat) :=
  match off with
  | 0x00 => [(.ATL_BASE, 0, 24), (.ATL_SIZE, 24, 24), (.ATL_STATE, 48, 2)]
  | 0x08 => [(.ATL_COH, 0, 1), (.ATL_COMP, 1, 1), (.ATL_PLACE, 2, 2), (.ATL_SEAL, 4, 2), (.ATL_OFFSHORE, 6, 1),
      (.ATL_CONTRACT, 9, 1), (.ATL_TYPE, 10, 1), (.ATL_VISITOR_WT, 11, 1), (.ATL_CHAN_SET, 16, 16), (.ATL_LAGOON_QUOTA, 32, 24)]
  | 0x10 => [(.ATL_KEY_CUR, 0, 13), (.ATL_KEY_NEXT, 16, 13), (.ATL_IKEY_CUR, 32, 12), (.ATL_IKEY_NEXT, 48, 12)]
  | _ => []

/-- What a field of an entry keeps of a written value. On the DX16 `CHAN_SET`[15:8] is reserved, and is written as zero. -/
def atlKept (s : Sled) (f : Fld) (v : Nat) : Nat := if f = .ATL_CHAN_SET then v % s.pick 65536 256 else v

/-- The entries of an atoll's fields that a written word gives. -/
def atlValues (s : Sled) (off value : Nat) : List (Fld × Nat) :=
  (atlFields off).map fun x => (x.1, atlKept s x.1 (Bits.field value x.2.1 x.2.2))

/-- The machine with some fields of an entry changed. -/
def Mach.withFields (m : Mach) (n : Nat) (l : List (Fld × Nat)) : Mach :=
  l.foldl (fun m x => { m with regs := m.setReg x.1 n x.2 }) m

/-! ### Admission (R34, R44, R46, R47, R49, R51, R135, R290) -/

/-- Atolls whose reservations count: Live, Retiring, and the one that asks (R47). -/
def Mach.counted (m : Mach) (n : Nat) : List Nat :=
  m.atolls.filter fun a => a == n || m.get .ATL_STATE a == atlLive || m.get .ATL_STATE a == atlRetiring

/-- Plots of the holding pool: 10 MiB a group in each home (R290). -/
def Mach.poolPlots (m : Mach) : Nat := m.get .ARC_HOLD_GROUPS * m.sled.homes * 40960

/-- The first inequality of R47 over the sled, for given plots of reservations and pool. -/
def Mach.sledFits (m : Mach) (res pool : Nat) : Bool :=
  decide (10000 * (res + pool) + (50 + m.get .GRN_FLOOR_BP) * m.rawPlots ≤ 10000 * m.rawPlots)

/-- Reservations of the counted atolls. -/
def Mach.reserved (m : Mach) (n : Nat) : Nat := ((m.counted n).map m.reservation).sum

/-- The third inequality of R47 on a channel. 720,720 is divisible by every size of a channel set. -/
def Mach.chanFits (m : Mach) (n c : Nat) : Bool :=
  let res := (((m.counted n).filter fun a => (m.chanSet a).contains c).map fun a =>
    720720 / (m.chanSet a).length * m.reservation a).sum
  decide (10000 * res ≤ 720720 * ((10000 - 50 - m.get .GRN_FLOOR_BP) * m.chanPlots c))

/-- Sizes of all Normal atolls of this sled, in 2 MiB units. -/
def Mach.presentedSum (m : Mach) (n : Nat) : Nat :=
  (((m.counted n).filter fun a => !m.isBell a && !m.isRemote a).map fun a => m.get .ATL_SIZE a).sum

/-- Two atolls overlap in global DPA. -/
def Mach.overlaps (m : Mach) (a b : Nat) : Bool :=
  decide (m.get .ATL_BASE a < m.get .ATL_BASE b + m.get .ATL_SIZE b ∧ m.get .ATL_BASE b < m.get .ATL_BASE a + m.get .ATL_SIZE a)

/-- The fields of a Bell atoll are those that R51 asks. -/
def Mach.bellOk (m : Mach) (n : Nat) : Bool :=
  m.get .ATL_SIZE n == 1 && [Fld.ATL_COH, .ATL_COMP, .ATL_PLACE, .ATL_SEAL, .ATL_OFFSHORE, .ATL_MIRROR, .ATL_CONTRACT,
    .ATL_VISITOR_WT, .ATL_CHAN_SET, .ATL_LAGOON_QUOTA].all fun f => m.get f n == 0

/-- A needed key slot is empty, or needed by another atoll that is not Free. -/
def Mach.keyConflict (m : Mach) (n : Nat) : Bool :=
  !m.isRemote n && (m.needs n).any fun x => (m.slotKey x.1 x.2.1).isNone || (m.needers x.1 x.2.1).any (· != n)

/-- The codes of Table 2.4 that the admission checks give for an entry as it would be. Only the checks that a remote atoll has
apply to one (R289). Code 0x03 speaks of channels that are present and not retired; code 0x04 of the others (log entry 62). -/
def Mach.admission (m : Mach) (n : Nat) : List Nat :=
  let rem := m.isRemote n
  let bell := m.isBell n
  (if m.atolls.any fun a => a != n && m.overlaps a n then [1] else [])
    ++ (if m.get .ATL_SIZE n = 0 ∨ m.sled.presented < m.get .ATL_BASE n + m.get .ATL_SIZE n ∨ m.sled.atolls ≤ n
          ∨ min (2 * m.rawPlots / 8192) m.sled.presented < m.presentedSum n then [2] else [])
    ++ (if !m.sledFits (m.reserved n) m.poolPlots || (!rem && !bell && !(m.chanSet n).all fun c => !m.chanAlive c || m.chanFits n c) then [3] else [])
    ++ (if !rem && !bell && ((m.chanSet n).isEmpty || !(m.chanSet n).all m.chanAlive) then [4] else [])
    ++ (if m.keyConflict n then [5] else [])
    ++ (if !rem && m.flag .ATL_OFFSHORE n && m.sled == .dx16 then [6] else [])
    ++ (if bell && !m.bellOk n then [8] else [])
    ++ (if m.isElastic n && !m.flag .GRN_ELASTIC_EN then [0x0A] else [])
    ++ (if 49152 < (((m.counted n).filter fun a => !m.isRemote a).map m.quotaShare).sum then [0x0B] else [])

/-- Admission, and every Live change, is refused in the current state: before Memory Active, in Test, in Ebb, and in Recovery
(Table 2.9). -/
def Mach.noAdmission (m : Mach) : Bool := m.get .ID_SVC_STATE != 1 || !m.flag .ID_MEM_ACTIVE || m.ebbing

/-- The transition is one of Table 2.3. -/
def transitionOk (a b : Nat) : Bool :=
  a == b || (a == atlFree && b == atlBuilding) || (a == atlBuilding && b == atlFree) || (a == atlBuilding && b == atlLive)
    || (a == atlLive && b == atlRetiring)

/-- Fields that a Live entry may change (Table 2.6). -/
def Mach.liveOk (m : Mach) (n : Nat) (f : Fld) : Bool :=
  match f with
  | .ATL_STATE | .ATL_PLACE | .ATL_LAGOON_QUOTA | .ATL_VISITOR_WT | .ATL_OFFSHORE | .ATL_CHAN_SET => true
  | .ATL_KEY_NEXT | .ATL_IKEY_NEXT => m.get .ATL_TDL_STATE n == 0
  | _ => false

/-- Every code of Table 2.4 that applies to a write of some fields of an entry (R43 to R45). -/
def Mach.entryCodes (m : Mach) (n : Nat) (l : List (Fld × Nat)) : List Nat :=
  let m' := m.withFields n l
  let old := m.get .ATL_STATE n
  let new := m'.get .ATL_STATE n
  let changed := (l.filter fun x => m.get x.1 n != m'.get x.1 n).map (·.1)
  let other := changed.any (· != .ATL_STATE)
  let checked := new == atlLive && (old == atlBuilding || old == atlLive) && !changed.isEmpty
  (if checked then m'.admission n else [])
    ++ (if old == atlLive && changed.any fun f => !m.liveOk n f then [7] else [])
    ++ (if l.any fun x => x.1 == .ATL_SEAL && x.2 == 3 then [9] else [])
    ++ (if checked && m.noAdmission then [0x0C] else [])
    ++ (if (old == atlFree || old == atlRetiring) && other then [0x0D] else [])
    ++ (if !transitionOk old new then [0x0E] else [])
    ++ (if old == atlLive && new == atlRetiring && (!(m.atollViews n).isEmpty || !(m.closingViews n).isEmpty) then [0x0F] else [])

/-! ### What an applied write does -/

/-- An admitted atoll: its reservation, its check values, and the tally (R38, R46, R147). -/
def becomeLive (n : Nat) : Act := .read fun m =>
  .all [.set .ATL_STATE n atlLive, .set .ATL_ERR n 0, .set .ATL_BACKING n (m.reservation n), recordKcv n, tallyAll, keysUpdate]

/-- The pinned line of a home's atoll that is unpinned next: by set, and in a set by use; the manual says ways from way 0
upward, and which way a line took is not given (log entry 19). -/
def Mach.nextUnpin (m : Mach) (n h : Nat) : Option Nat :=
  ((m.lines.lagoon.filter fun p => p.2.pinned && m.inAtoll n (pageOfLine p.1) && m.homeOfLine p.1 == h).foldl
    (fun (b : Option (Nat × LagLine)) x => match b with
      | none => some x
      | some y =>
        let sx := Config.lagoonSet (localLine m.sled x.1)
        let sy := Config.lagoonSet (localLine m.sled y.1)
        if sx < sy ∨ (sx = sy ∧ x.2.lru < y.2.lru) then some x else b) none).map (·.1)

/-- Unpin lines of an atoll in a home until it holds no more than a share (R135). -/
def unpinTo (n h share : Nat) : Nat → Act
  | 0 => .skip
  | fuel + 1 => .read fun m =>
    .when (decide (share < m.pinnedLines n h))
      (.some? (m.nextUnpin n h) fun line => .some? (m.lines.lagoon.find? line) fun o =>
        .seq (.prim (.lines fun l => { l with lagoon := l.lagoon.put line { o with pinned := false } })) (unpinTo n h share fuel))

/-- Every home's pinned lines of an atoll follow its quota and its placement (R135). -/
def unpin (n : Nat) : Act := .read fun m =>
  let share := if m.get .ATL_PLACE n = 1 then m.quotaShare n else 0
  .each (List.range m.sled.homes) fun h => unpinTo n h share m.lines.lagoon.length

/-- Visitors give back the lines of an atoll that they hold in E, M or O (Table 2.6): the home asks each owner for its data as a
read would (log entry 20); a visitor of this sled writes its own dirty lines back. -/
def visitorsWriteBack (n : Nat) : Act := .read fun m =>
  .all [.each (m.dir.ents.filter fun p => m.inAtoll n (pageOfLine p.1) && p.2.peers != 0 && p.2.state != 1 && (m.txnOf p.1).isNone)
      fun p => .newId fun id => advance n { id := id, src := .self, kind := .rdShd, line := p.1 },
    .each (m.dir.vis.filter fun p => m.inAtoll n (pageOfLine (visLine p.1)) && 3 ≤ p.2.state && p.2.trans.isNone) fun p =>
      visEvict p.1]

/-- Offshore pages of an atoll. -/
def Mach.offshorePages (m : Mach) (n : Nat) : List Nat :=
  (m.pages.filter fun p => m.inAtoll n p.1 && p.2.rcd.tier == .offshore).map (·.1)

/-- What a change of a Live atoll's fields starts (Table 2.6). `b` is the machine before the write. -/
def liveEffects (n : Nat) (b : Mach) : Act := .read fun m =>
  .all [unpin n,
    .when (!b.flag .ATL_VISITOR_WT n && m.flag .ATL_VISITOR_WT n) (visitorsWriteBack n),
    .when (b.flag .ATL_OFFSHORE n && !m.flag .ATL_OFFSHORE n) (.each (m.offshorePages n) startRecall),
    .when (m.get .ATL_KEY_NEXT n == m.get .ATL_KEY_CUR n) (.prim (.keys fun k => { k with kcv := k.kcv.erase (4 * n + 1) })),
    .when (m.get .ATL_IKEY_NEXT n == m.get .ATL_IKEY_CUR n) (.prim (.keys fun k => { k with kcv := k.kcv.erase (4 * n + 3) })),
    recordKcv n, keysUpdate, tallyAll]

/-! ### Giving pages up (R122, Table 2.5) -/

/-- Drop the Lagoon and write-back lines that meet a test, without writing them back. -/
def dropLines (p : Nat → Bool) : Act :=
  .prim (.lines fun l => { l with lagoon := l.lagoon.filter fun x => !p x.1, wb := l.wb.filter fun e => !p e.line })

/-- A page returns to a never-written record: its lines are dropped, its image released, its extent freed (R122). -/
def forgetPage (pn : Nat) : Act := .read fun m =>
  let r := (m.page pn).rcd
  .all [dropLines fun line => pageOfLine line == pn,
    .when (!(m.jobsOf pn).isEmpty) (abandonPush pn),
    .when (r.tier == .offshore) (release r.offPeer r.offExtent (m.page pn).offIsn),
    freeExtent (homeIndex m.sled pn) r.base r.alloc,
    .prim (.page pn {}),
    .prim (.host fun h => { h with poisoned := h.poisoned.filter (· != pn) }),
    .prim (.grain fun g => { g with liftWaits := g.liftWaits.filter fun x => x.1 != pn, pushStage := g.pushStage.erase pn,
                                    pushFound := g.pushFound.filter (· != pn) })]

/-- The record and tag blocks of an atoll are freed (Table 2.5 step 5). -/
def freeMaps (n : Nat) : Act := .read fun m =>
  let mine := fun (mp : SMap Nat) => mp.filter fun p => p.1 / 2 ^ 38 == n
  .all [.each (mine m.grain.recMap ++ mine m.grain.tagMap) fun p =>
      movePlots (p.1 / 2 ^ 32 % 64) (p.2 % 2 ^ 32 * 16) 16 2 0,
    .prim (.grain fun g => { g with recMap := g.recMap.filter fun p => p.1 / 2 ^ 38 != n,
                                    tagMap := g.tagMap.filter fun p => p.1 / 2 ^ 38 != n })]

/-- Requests on an atoll's lines end: each is answered as its home could not serve it, and the atoll's transactions, waiting
requests and directory entries go. -/
def dropAtoll (n : Nat) : Act := .read fun m =>
  let mine := fun (line : Nat) => m.inAtoll n (pageOfLine line)
  .all [.each ((m.lines.txns.map (·.req) ++ m.lines.waits.map (·.req)).filter fun r => mine r.line) answerDead,
    dropLines mine,
    .prim (.lines fun l => { l with txns := l.txns.filter fun t => !mine t.req.line, waits := l.waits.filter fun w => !mine w.req.line }),
    .prim (.dir fun d => { d with ents := d.ents.filter fun p => !mine p.1 }),
    .each (m.dir.vis.filter fun p => mine (visLine p.1) && p.2.trans.isNone) fun p => visEvict p.1]

/-- Ferry cursors whose range is a view that closes, or an atoll that retires, have none from then on (Table 11.1). -/
def dropRanges (x : Nat) : Act :=
  .prim (.fry fun f => { f with ranges := List.filter (fun p => p.2.2.2 != x) f.ranges })

/-- The retiring sequence, steps 2 to 4 of Table 2.5. -/
def retireStart (n : Nat) : Act := .read fun m =>
  .all [dropAtoll n, rotationStop n, dropRanges (2 ^ 20 + n),
    .each (m.offshorePages n) fun pn => release (m.page pn).rcd.offPeer (m.page pn).rcd.offExtent (m.page pn).offIsn,
    .each (m.offshorePages n) fun pn => .prim (.page pn {})]

/-- The retiring sequence, steps 5 to 7 of Table 2.5. -/
def retireEnd (n : Nat) : Act := .read fun m =>
  .all [.each ((m.pages.filter fun p => m.inAtoll n p.1).map (·.1)) forgetPage, freeMaps n,
    .each (m.needs n) fun x => zeroSlot x.1 x.2.1,
    .prim (.keys fun k => { k with kcv := k.kcv.filter fun p => p.1 / 4 != n, reminder := k.reminder.erase n,
                                   autoWait := k.autoWait.filter (· != n) }),
    .prim (.arc fun a => { a with pairs := a.pairs.filter fun p => p.atoll != n }),
    .set .ATL_MIRROR n 0, .set .ATL_BACKING n 0, .set .ATL_KEYS_ABSENT n 0, .set .ATL_STATE n atlFree,
    tallyAll, keysUpdate, lhLog 0 0x0030 n 0]

/-! ### Writes to an entry -/

/-- Refuse a write to an entry with the lowest code that applies (R44). -/
def entryRefuse (n : Nat) (codes : List Nat) : Act := .set .ATL_ERR n (codes.foldl min 0xFF)

/-- Ask the home sled of a remote atoll for its entry; the answer ends the admission (R289). -/
def bindRemote (n : Nat) : Act := .newId fun t => .read fun m =>
  let h := m.get .ARC_ATL_HOME n
  if (m.upLink h).isSome && m.flag .ARC_EN then
    .all [.prim (.arc fun a => { a with svc := a.svc ++ [⟨h, mRmtBind, t % 2 ^ 16, n⟩] }),
      send h (m.mkMsg mRmtBind t h (m.atollPage n * 64))]
  else entryRefuse n [1]

/-- A write of some fields of an entry: applied, or refused with a code (R43 to R45, R471). Admission of a remote atoll waits for
its home's answer; the entry stays Building until then. -/
def entryWrite (n : Nat) (l : List (Fld × Nat)) : Act := .read fun m =>
  let codes := m.entryCodes n l
  let old := m.get .ATL_STATE n
  let new := (m.withFields n l).get .ATL_STATE n
  let put := Act.each (l.filter fun x => x.1 != .ATL_STATE) fun x => .set x.1 n x.2
  if m.sled.atolls ≤ n then .skip
  else if !codes.isEmpty then entryRefuse n codes
  else if old = atlBuilding ∧ new = atlLive then
    .seq put (if m.isRemote n then bindRemote n else becomeLive n)
  else if old = atlLive ∧ new = atlRetiring then
    .all [put, .set .ATL_STATE n new, .set .ATL_ERR n 0, retireStart n]
  else if old = atlLive then .all [put, .set .ATL_ERR n 0, liveEffects n m]
  else .all [put, .set .ATL_STATE n new, .set .ATL_ERR n 0]

/-- ATOLL_ENTRY_WRITE: an 8-byte word of an entry (R44). Words with no writable field change nothing. -/
def atollEntryWrite (n off value : Nat) : Act := .read fun m =>
  .when (!(atlFields off).isEmpty) (entryWrite n (atlValues m.sled off value))

/-- ATOLL_BUILD (Table 2.3). -/
def atollBuild (n : Nat) : Act := entryWrite n [(.ATL_STATE, atlBuilding)]

/-- ATOLL_UNBUILD (Table 2.3). -/
def atollUnbuild (n : Nat) : Act := entryWrite n [(.ATL_STATE, atlFree)]

/-- ATOLL_ADMIT (R44). -/
def atollAdmit (n : Nat) : Act := entryWrite n [(.ATL_STATE, atlLive)]

/-- ATOLL_RETIRE (Table 2.5). -/
def atollRetire (n : Nat) : Act := entryWrite n [(.ATL_STATE, atlRetiring)]

/-- The field that a change names. -/
def atlField : AtlField → Fld
  | .base => .ATL_BASE
  | .size => .ATL_SIZE
  | .coh => .ATL_COH
  | .comp => .ATL_COMP
  | .place => .ATL_PLACE
  | .seal => .ATL_SEAL
  | .offshore => .ATL_OFFSHORE
  | .contract => .ATL_CONTRACT
  | .type => .ATL_TYPE
  | .visitorWt => .ATL_VISITOR_WT
  | .chanSet => .ATL_CHAN_SET
  | .quota => .ATL_LAGOON_QUOTA
  | .keyCur => .ATL_KEY_CUR
  | .keyNext => .ATL_KEY_NEXT
  | .ikeyCur => .ATL_IKEY_CUR
  | .ikeyNext => .ATL_IKEY_NEXT

/-- ATOLL_LIVE_CHANGE: one field of a Live entry (R45). -/
def atollLiveChange (n : Nat) (f : AtlField) (value : Nat) : Act := .read fun m =>
  .when (m.get .ATL_STATE n == atlLive) (entryWrite n [(atlField f, atlKept m.sled (atlField f) (value % 2 ^ (atlField f).spec.width))])

/-- ATOLL_RETIRE_COMPLETE (Table 2.5). -/
def atollRetireComplete (n : Nat) : Act := .read fun m => .when (m.get .ATL_STATE n == atlRetiring) (retireEnd n)

/-! ### Views (R35, R36, R40 to R42, R211) -/

/-- First byte past a view. -/
def Mach.viewEnd (m : Mach) (v : Nat) : Nat := m.viewBase v + m.viewBytes (m.get .VW_ATOLL v)

/-- The view of a slot would break R36. -/
def Mach.viewConflict (m : Mach) (v : Nat) : Bool :=
  let ld := m.get .VW_LD v
  let n := m.get .VW_ATOLL v
  let others := (m.ldViews ld).filter (· != v)
  others.any (fun u => decide (m.viewBase u < m.viewEnd v ∧ m.viewBase v < m.viewEnd u) || m.get .VW_ATOLL u == n)
    || (!m.isShared n && (m.atollViews n).any fun u => u != v && m.get .VW_LD u != ld)
    || decide (64 ≤ others.length ∨ m.sled.views ≤ v)

/-- Views of Elastic atolls of an LD, by rising base (R211). -/
def Mach.elasticViews (m : Mach) (ld : Nat) : List Nat := (m.ldViews ld).filter fun v => m.isElastic (m.get .VW_ATOLL v)

/-- The static capacity of an LD in bytes (R211). -/
def Mach.staticCap (m : Mach) (ld : Nat) : Nat := m.get .HBR_LD_CAP ld * 2 ^ 28

/-- The view breaks a limit of R211. -/
def Mach.capConflict (m : Mach) (v : Nat) : Bool :=
  let ld := m.get .VW_LD v
  if m.isElastic (m.get .VW_ATOLL v) then
    decide (m.viewBase v < m.staticCap ld) || decide (8 ≤ ((m.elasticViews ld).filter (· != v)).length)
  else decide (m.staticCap ld < m.viewEnd v)

/-- The codes of Table 2.11 that apply to opening a slot as it would be. -/
def Mach.openCodes (m : Mach) (v : Nat) : List Nat :=
  let ld := m.get .VW_LD v
  let n := m.get .VW_ATOLL v
  (if m.viewConflict v then [1] else [])
    ++ (if m.get .ATL_STATE n != atlLive then [2] else [])
    ++ (if !m.flag .HBR_LD_VALID ld then [3] else [])
    ++ (if 2 ^ 45 < m.viewEnd v then [4] else [])
    ++ (if m.isShared n && m.get .HBR_HEAD_FLIT (m.headOf ld) == 1 then [5] else [])
    ++ (if m.capConflict v then [6] else [])

/-- The codes of Table 2.11 that apply to a write of some fields of a slot. -/
def Mach.slotCodes (m : Mach) (v : Nat) (l : List (Fld × Nat)) : List Nat :=
  let m' := m.withFields v l
  let changed := l.any fun x => x.1 != .VW_VALID && m.get x.1 v != m'.get x.1 v
  (if !m.flag .VW_VALID v && m'.flag .VW_VALID v then m'.openCodes v else [])
    ++ (if m.sled.lds ≤ m'.get .VW_LD v ∨ m.sled.atolls ≤ m'.get .VW_ATOLL v then [3] else [])
    ++ (if m.flag .VW_CLOSING v then [7] else [])
    ++ (if m.flag .VW_VALID v && changed then [8] else [])

/-- The DC regions of an LD have changed (R211). -/
def regionsChanged (ld n : Nat) : Act := .read fun m => .when (m.isElastic n) (evAdd ld .info .regions [])

/-- Lines of an atoll that a head holds here, and those that it holds as a visitor. -/
def Mach.heldLines (m : Mach) (n h : Nat) : List Nat :=
  ((m.headLines h).filter fun line => m.inAtoll n (pageOfLine line))
    ++ ((m.dir.vis.filter fun p => m.inAtoll n (pageOfLine (visLine p.1)) && p.2.heads.any fun q => q.1 == h).map (·.1))

/-- A close: requests through the view are unmapped from now on; on an S atoll every line of the atoll that the head holds is
back-invalidated (R41). -/
def viewClose (v : Nat) : Act := .read fun m =>
  let ld := m.get .VW_LD v
  let n := m.get .VW_ATOLL v
  let h := m.headOf ld
  .all [.set .VW_VALID v 0, .set .VW_CLOSING v 1, .set .VW_ERR v 0, dropRanges v,
    .when (m.isShared n)
      (.each (m.heldLines n h) fun line =>
        .all [.emit (.bisnp h ld line 0), .prim (.dir fun d => { d with bisnps := d.bisnps ++ [(h, ld, line, 0)] })])]

/-- A write of some fields of a view slot: applied, or refused with the lowest code that applies (R42). -/
def slotWrite (v : Nat) (l : List (Fld × Nat)) : Act := .read fun m =>
  let codes := m.slotCodes v l
  let m' := m.withFields v l
  let put := Act.each l fun x => .set x.1 v x.2
  if 4 * m.sled.atolls ≤ v then .skip
  else if !codes.isEmpty then .set .VW_ERR v (codes.foldl min 0xFF)
  else if m.flag .VW_VALID v && !m'.flag .VW_VALID v then viewClose v
  else .all [put, .set .VW_ERR v 0,
    .when (!m.flag .VW_VALID v && m'.flag .VW_VALID v) (regionsChanged (m'.get .VW_LD v) (m'.get .VW_ATOLL v))]

/-- VIEW_OPEN: a write of the slot with `VW_VALID` 1 and the LD, atoll and base that it names (R41). -/
def viewOpen (v ld n base : Nat) : Act :=
  slotWrite v [(.VW_LDBASE, base % 2 ^ 24), (.VW_LD, ld % 2 ^ 8), (.VW_ATOLL, n % 2 ^ 12), (.VW_VALID, 1)]

/-- VIEW_CLOSE: a write of 0 to `VW_VALID` (R41). -/
def viewCloseCmd (v : Nat) : Act := slotWrite v [(.VW_VALID, 0)]

/-- An extent released by the host, or by the close of its view (R122). -/
def releaseRange (ld base len : Nat) : Act := .read fun m =>
  let e : Extent := { ld := ld, base := base, len := len, accepted := true }
  .each ((m.extentPages e).map (·.1)) forgetPage

/-- The part of an LD's extents inside a range of its DPA goes: the rest of each stays, with what it had (R122). -/
def cutExtents (ld base len : Nat) : Act :=
  let keep := fun (e : Extent) =>
    if e.ld ≠ ld ∨ base + len ≤ e.base ∨ e.base + e.len ≤ base then [e]
    else (if e.base < base then [{ e with len := base - e.base }] else [])
      ++ (if base + len < e.base + e.len then [{ e with base := base + len, len := e.base + e.len - (base + len) }] else [])
  .seq (.prim (.host fun h => { h with extents := h.extents.flatMap keep })) releaseOut

/-- VIEW_CLOSE_COMPLETE: no back-invalidate of the close is outstanding; the accepted extents of an elastic view are released,
its offers withdrawn (R41, R211). -/
def viewCloseComplete (v : Nat) : Act := .read fun m =>
  let ld := m.get .VW_LD v
  let n := m.get .VW_ATOLL v
  let open_ := m.dir.bisnps.any fun b => b.1 == m.headOf ld && b.2.1 == ld && m.inAtoll n (pageOfLine (visLine b.2.2.1))
  let lo := m.viewBase v
  let len := m.viewBytes n
  let acc := m.host.extents.filter fun e => e.ld == ld && e.accepted && lo ≤ e.base && e.base < lo + len
  let pages := acc.flatMap fun e =>
    let p0 := (m.get .ATL_BASE n * 2 ^ 21 + (e.base - lo)) / 4096
    (m.pages.filter fun p => p0 ≤ p.1 && p.1 < p0 + e.len / 4096).map (·.1)
  .when (m.flag .VW_CLOSING v && !open_)
    (.all [.set .VW_CLOSING v 0,
      .when (m.isElastic n) (.all [.each pages forgetPage, cutExtents ld lo len, regionsChanged ld n])])

/-! ### Meanings -/

/-- VIEW_OPEN (R41). -/
def execViewOpen (v ld atoll ldbase : Nat) (s : State) : Host.Outcome State Fault Refusal := s.act (viewOpen v ld atoll ldbase)

/-- VIEW_CLOSE (R41). -/
def execViewClose (v : Nat) (s : State) : Host.Outcome State Fault Refusal := s.act (viewCloseCmd v)

/-- VIEW_CLOSE_COMPLETE (R41). -/
def execViewCloseComplete (v : Nat) (s : State) : Host.Outcome State Fault Refusal := s.act (viewCloseComplete v)

/-- ATOLL_ENTRY_WRITE (R44). -/
def execAtollEntryWrite (n off value : Nat) (s : State) : Host.Outcome State Fault Refusal := s.act (atollEntryWrite n off value)

/-- ATOLL_BUILD (R43). -/
def execAtollBuild (n : Nat) (s : State) : Host.Outcome State Fault Refusal := s.act (atollBuild n)

/-- ATOLL_UNBUILD (R43). -/
def execAtollUnbuild (n : Nat) (s : State) : Host.Outcome State Fault Refusal := s.act (atollUnbuild n)

/-- ATOLL_ADMIT (R44). -/
def execAtollAdmit (n : Nat) (s : State) : Host.Outcome State Fault Refusal := s.act (atollAdmit n)

/-- ATOLL_LIVE_CHANGE (R45). -/
def execAtollLiveChange (n : Nat) (f : AtlField) (value : Nat) (s : State) : Host.Outcome State Fault Refusal :=
  s.act (atollLiveChange n f value)

/-- ATOLL_RETIRE (R43). -/
def execAtollRetire (n : Nat) (s : State) : Host.Outcome State Fault Refusal := s.act (atollRetire n)

/-- ATOLL_RETIRE_COMPLETE (R43). -/
def execAtollRetireComplete (n : Nat) (s : State) : Host.Outcome State Fault Refusal := s.act (atollRetireComplete n)

end Sys2Proof.Machine
end

