-- ==== Sys2Proof/Machine/Archipelago.lean ====
section
/-!
DEFINITION. Archipelagos (chapter "Archipelagos"): members, the service messages, remote binds, the holding pool, pushes and
recalls of images, Mirror and Dual-home pairs, and leaving.
-/

namespace Sys2Proof.Machine

/-! ### Answering a service request (R287, R288, Table 13.2) -/

/-- The body length of a service message (Table 13.2). -/
def svcBodyOk (x : Msg) : Bool :=
  let n := x.body.length
  let img := fun (lo : Nat) => decide (lo + 64 ≤ n) && n == lo + 64 + 512 * ((x.body.getD (lo + 61) 0).toNat % 16)
  if x.code = mJoin then n == 24
  else if x.code = mImgPut then img 0
  else if x.code = mImgGet ∨ x.code = mImgRelease ∨ x.code = mImgEvict then n == 16
  else if x.code = mMirWr then n == 72
  else if x.code = mMirPage then img 8
  else if x.code = mPair then n == 32
  else if x.code = mClaim ∨ x.code = mHeal then n == 8
  else if x.code = mHandover then n % 16 == 0
  else if x.code = mImgData then n == 0 || img 0
  else if x.code = mSvcAck then n == 0 || n == 8 || n == 24 || n == 16
  else n == 0

/-- The feature bit of Table 12.8 that a service needs. -/
def svcFeature (code : Nat) : Option Nat :=
  if code = mImgPut ∨ code = mImgGet ∨ code = mImgRelease ∨ code = mImgEvict then some 1
  else if code = mMirWr ∨ code = mMirOwn ∨ code = mMirPage ∨ code = mMirFetch ∨ code = mPair ∨ code = mClaim ∨ code = mHeal then some 2
  else if code = mHandover ∨ code = mLeave then some 3
  else if code = mRmtBind then some 0
  else none

/-- Answer a service request with a status and a body (R288). -/
def svcReply (x : Msg) (st : Nat) (body : List Byte) : Act := .read fun m =>
  send x.src { m.mkMsg mSvcAck x.txid x.home x.line with rqs := x.rqs, agent := x.agent, opst := st, body := body }

/-- A service message arrives over an Up link; a body of another length is a protocol error (R266). -/
def svcFrom (x : Msg) (a : Act) : Act := .read fun m =>
  .when (m.sled == .dx32 && (m.upLink x.src).isSome && x.src != m.self)
    (if svcBodyOk x then a else protoErr (.peer x.src))

/-- A service request: answered with status 5 while services are off, after a leave, and from a sled that is no member, and with
status 4 without the feature (R286, R287, R301). -/
def svcIn (x : Msg) (a : Act) : Act := svcFrom x (.read fun m =>
  let feat := (m.upLink x.src).any fun l => (svcFeature x.code).all fun b => Bits.bit (m.get .BQL_L_FEATURES l) b
  if !m.flag .ARC_EN || m.arc.left then svcReply x 5 []
  else if !feat then svcReply x 4 []
  else if x.code != mJoin && !Bits.bit (m.get .ARC_MEMBERS) x.src then svcReply x 5 []
  else a)

/-- Send a service request to a peer and note it until its answer. -/
def svcSend (peer code line arg : Nat) (body : List Byte) : Act := .newId fun t => .read fun m =>
  .all [.prim (.arc fun a => { a with svc := a.svc ++ [⟨peer, code, t % 2 ^ 16, arg⟩] }),
    send peer { m.mkMsg code t m.self line with body := body }]

/-- The atoll that begins at a line, whatever its state but Free. -/
def Mach.atollAt (m : Mach) (line : Nat) : Option Nat := m.atolls.find? fun n => m.atollPage n * 64 == line

/-! ### Pages and those that wait for them -/

/-- Forget a job. -/
def endJob (j : ImgJob) : Act := .prim (.arc fun a => { a with jobs := a.jobs.filter (· != j) })

/-- Requests that waited for a page start again (R60, R133). -/
def resumeAll (pn : Nat) : Act := .seq (resumePage pn .recall) (resumePage pn .lock)

/-- The pair of an atoll. -/
def Mach.pairOf (m : Mach) (n : Nat) : Option Pair := m.arc.pairs.find? fun p => p.atoll == n

/-- Change the pair of an atoll. -/
def setPair (n : Nat) (f : Pair → Pair) : Act :=
  let g := fun (p : Pair) => if p.atoll = n then f p else p
  .prim (.arc fun a => { a with pairs := a.pairs.map g })

/-- A page whose image is gone: fetched from a partner that is Up, or every line poisoned in the form of R94 and listed
(R294). `mismatch` raises each line's tag mismatch (R59, R160). -/
def losePage (n pn : Nat) (mismatch : Bool) : Act := .newId fun t => .read fun m =>
  let r := (m.page pn).rcd
  let partner := (m.pairOf n).filter fun p => p.formed && (m.upLink p.peer).isSome && p.peer != r.offPeer
  match partner with
  | some p =>
    .all [.rcd pn fun x => { x with recallPending := true },
      send p.peer (m.mkMsg mMirFetch t m.self (pn * 64)),
      .prim (.arc fun a => { a with svc := a.svc ++ [⟨p.peer, mMirFetch, t % 2 ^ 16, pn⟩],
                                    jobs := a.jobs ++ [{ pn := pn, kind := .fetch, peer := p.peer, txid := t % 2 ^ 16 }] })]
  | none =>
    .all [putPage pn { r with size := List.replicate 64 7, tier := .shallows, alloc := 0, base := 0, recallPending := false,
                              pushPending := false, offPeer := 0, offExtent := 0, offTag := 0 } [],
      poisonIndex pn,
      .each (List.range 64) fun i => .all [mediaEvent n (pn * 64 + i) .mediaManagement,
        .when mismatch (raiseIslet (homeIndex m.sled pn) 1 ((pn * 64 + i) * 64))],
      resumeAll pn, pageDone pn 4]

/-! ### Leaving (R301) -/

/-- Pages Offshore at a peer. -/
def Mach.pagesAt (m : Mach) (r : Nat) : List Nat :=
  (m.pages.filter fun p => p.2.rcd.tier == .offshore && p.2.rcd.offPeer == r).map (·.1)

/-- Remove a peer from the members. -/
def dropMember (r : Nat) : Act := .read fun m => .set .ARC_MEMBERS 0 (withBit (m.get .ARC_MEMBERS) r false)

/-- A leave goes on: a LEAVE received is answered once no page is left at the leaver; this sled's own leave sends LEAVE once no
page is Offshore, and ends once every member has answered and the pool holds no image (R301). -/
def leaveCheck : Act := .read fun m =>
  .all [.each (m.arc.leaveAsked.filter fun p => (m.pagesAt p.1).isEmpty) fun p =>
      .all [send p.1 (m.mkMsg mSvcAck p.2 p.1 0), dropMember p.1,
        .prim (.arc fun a => { a with leaveAsked := a.leaveAsked.filter (· != p) })],
    .when (m.flag .ARC_LEAVE && !m.anyOffshore)
      (if !m.arc.leaveSent then
        .all [.prim (.arc fun a => { a with leaveSent := true, leaving := Bits.ones (m.get .ARC_MEMBERS) 8 }),
          .each (Bits.ones (m.get .ARC_MEMBERS) 8) fun r => svcSend r mLeave 0 0 []]
       else .skip),
    .read fun m => .when (m.flag .ARC_LEAVE && m.arc.leaveSent && m.arc.leaving.isEmpty && m.arc.held.isEmpty)
      (.all [.set .ARC_LEAVE 0 0, .set .ARC_MEMBERS 0 0, .prim (.arc fun a => { a with left := true, leaveSent := false })])]

/-- ARC_LEAVE: recalls every Offshore page, then leaves (R301). -/
def arcLeave : Act := .read fun m =>
  .when (m.sled == .dx32 && m.flag .ARC_EN && !m.flag .ARC_LEAVE)
    (.all [.set .ARC_LEAVE 0 1, .prim (.arc fun a => { a with leaveSent := false }),
      .each ((m.pages.filter fun p => p.2.rcd.tier == .offshore).map (·.1)) startRecall, leaveCheck])

/-- LEAVE: every page at the leaver is recalled, and then the answer goes (R301). -/
def takeLeave (x : Msg) : Act := .read fun m =>
  .all [.prim (.arc fun a => { a with leaveAsked := a.leaveAsked ++ [(x.src, x.txid)] }),
    .each (m.pagesAt x.src) startRecall, leaveCheck]

/-! ### The holding pool (R290 to R292) -/

/-- The groups of a home. -/
def Mach.poolOf (m : Mach) (h : Nat) : List (List Nat) := (m.arc.poolStripes.filter fun g => g.1 == h).map (·.2)

/-- Wholly free stripes of a home, lowest first, up to a count. -/
def Mach.freeStripes (m : Mach) (h : Nat) : Nat → Nat → List Nat
  | 0, _ => []
  | k + 1, s =>
    match findFrom (fun s => m.stripeOwner s == h && (List.range 512).all fun j => m.plotWord (s * 512 + j) == 0)
        (m.grain.stripeCount - s) s with
    | none => []
    | some t => t :: m.freeStripes h k (t + 1)

/-- Add groups to a home: the record stripe's plots hold metadata (R290, Table 5.5). -/
def addGroups (h k : Nat) : Act := .read fun m =>
  let ss := m.freeStripes h (5 * k) 0
  .each (List.range k) fun g =>
    let five := (ss.drop (5 * g)).take 5
    .seq (.each (List.range 512) fun j => movePlots h ((five.getD 4 0 * 512 + j) * 16) 16 0 2)
      (.prim (.arc fun a => { a with poolStripes := a.poolStripes ++ [(h, five)] }))

/-- Take the last groups of a home away. -/
def dropGroups (h keep : Nat) : Act := .read fun m =>
  let gone := (m.poolOf h).drop keep
  .seq (.prim (.arc fun a => { a with poolStripes := a.poolStripes.filter fun g => !(g.1 == h && gone.contains g.2) }))
    (.each gone fun five => .each (List.range 512) fun j => movePlots h ((five.getD 4 0 * 512 + j) * 16) 16 2 0)

/-- A number of holding groups can be had: each home has the stripes wholly free, R47 holds, and no group that would go holds an
image (R290). -/
def Mach.holdOk (m : Mach) (v : Nat) : Bool :=
  let old := m.get .ARC_HOLD_GROUPS
  let hs := List.range m.sled.homes
  let m' := { m with regs := m.setReg .ARC_HOLD_GROUPS 0 v }
  let room := old ≤ v → hs.all fun h => (m.freeStripes h (5 * (v - old)) 0).length == 5 * (v - old)
  let idle := hs.all fun h => ((m.poolOf h).drop v).all fun five => !(m.arc.held.any fun x => five.contains (stripeOf x.ga))
  room && idle && m'.sledFits (((m.counted m.sled.atolls).map m.reservation).sum) m'.poolPlots

/-- ARC_HOLD_GROUPS_WRITE (R290). -/
def arcHoldGroupsWrite (v : Nat) : Act := .read fun m =>
  let v := v % 256
  let old := m.get .ARC_HOLD_GROUPS
  let hs := List.range m.sled.homes
  .when (m.sled == .dx32)
    (if m.holdOk v then
      .all [.set .ARC_HOLD_GROUPS 0 v, .set .ARC_WR_REFUSED 0 0,
        .each hs fun h => .seq (if old ≤ v then addGroups h (v - old) else dropGroups h v) (tallyUpdate h)]
     else .set .ARC_WR_REFUSED 0 1)

/-- A window of n plots in a group's image stripes: partly used blocks first (R104, R105, R291). -/
def Mach.poolWindow (m : Mach) (five : List Nat) (n : Nat) : Option Nat :=
  let imgs := five.take 4
  let ok := fun (b : Nat) => m.flag .DRM_C_INSERVICE (m.chanOf (b * 256))
  let part := (m.grain.plots.filter fun p => imgs.contains (p.1 / 512) && p.2 != 0 && ok p.1).filterMap fun p =>
    (windowIn p.2 n).map fun o => (freeIn p.2, p.1 * 16 + o)
  match part.foldl (fun (b : Option (Nat × Nat)) x => match b with
      | none => some x
      | some y => if x.1 < y.1 ∨ (x.1 = y.1 ∧ x.2 < y.2) then some x else b) none with
  | some x => some x.2
  | none => imgs.findSome? fun s => (findFrom (fun b => m.plotWord b == 0 && ok b) 512 (s * 512)).map (· * 16)

/-- Where an image goes: the pool of the home of its `RPAGE`, or the next home with room (R291). -/
def Mach.poolPlace (m : Mach) (x : Image) : Option (Nat × Nat) :=
  let n := x.bytes.length / 256
  (List.range m.sled.homes).findSome? fun j =>
    let h := (x.rpage + j) % m.sled.homes
    ((m.poolOf h).findSome? fun five => m.poolWindow five n).map fun p => (h, p)

/-- The byte address of a holding record pair (R291). -/
def Mach.pairAddr (m : Mach) (p : Nat) : Nat :=
  let b := p / 16
  match m.arc.poolStripes.find? fun g => g.2.contains (b / 512) with
  | none => 0
  | some g =>
    let i := (g.2.findIdx? (· == b / 512)).getD 0
    g.2.getD 4 0 * 2 ^ 21 + ((512 * i + b % 512) * 8 + p % 16 / 2) * 128

/-- The counts of the pool follow what it holds. -/
def holdCounts : Act := .read fun m =>
  .all [.set .ARC_HELD_IMAGES 0 m.arc.held.length,
    .set .ARC_HOLD_USED 0 ((m.arc.held.map fun x => x.img.bytes.length / 256).sum)]

/-- IMG_PUT at the holder: the image and its record pair are written, and the extent's grain address is the answer (R291,
R292). -/
def takeImgPut (x : Msg) : Act := .read fun m =>
  let img := Image.parse (x.body.take 64) (x.body.drop 64)
  let n := img.bytes.length / 256
  match if m.get .GRN_LEVEL = 0 ∧ n ≠ 0 then m.poolPlace img else none with
  | none => svcReply x 1 []
  | some (h, p) =>
    let pa := m.pairAddr p
    let r : PageRec := { base := 16 * p, alloc := n, tier := .deep, size := img.size, epoch := img.epoch }
    .all [movePlots h p n 0 1, .prim (.poke (256 * p) img.bytes), chargeExtent (16 * p) n (m.masterOf (.peer x.src 0)) true,
      .prim (.poke pa (m.recordSealed (pa / 16) r ++ x.body.take 64)),
      .prim (.arc fun a => { a with held := a.held ++ [{ ga := 16 * p, img := img, home := x.src }] }),
      holdCounts, tallyUpdate h, tagOp (64 + ((m.upLink x.src).getD 0) / 8) mImgPut (16 * p) 0 0 [1, 3, 5, 6], svcReply x 0 (Bits.leBytes 8 (16 * p))]

/-- The held image that a request of a peer names, by grain address or by `ISN` (R292). -/
def Mach.heldOf (m : Mach) (x : Msg) : Option Held :=
  let ga := Bits.leNat (x.body.take 8)
  let isn := Bits.leNat ((x.body.drop 8).take 8)
  m.arc.held.find? fun h => h.img.isn == isn && h.img.ident == m.get .ARC_PEER_IDENT x.src && (ga == gaByIsn || h.ga == ga)

/-- Free a held image (R292). -/
def freeHeld (h : Held) : Act := .read fun m =>
  let home := m.stripeHome (stripeOf h.ga)
  .all [movePlots home (h.ga / 16) (h.img.bytes.length / 256) 1 0,
    .prim (.arc fun a => { a with held := a.held.filter (· != h) }), holdCounts, tallyUpdate home, leaveCheck]

/-- IMG_GET at the holder (R292). -/
def takeImgGet (x : Msg) : Act := .read fun m =>
  let y := { m.mkMsg mImgData x.txid x.home x.line with rqs := x.rqs, agent := x.agent }
  match m.heldOf x with
  | none => send x.src { y with opst := 2 }
  | some h => send x.src { y with body := Crypto.bytes h.img.header ++ Dram.read m.dram (16 * h.ga) h.img.bytes.length }

/-- IMG_RELEASE at the holder (R292). -/
def takeImgRelease (x : Msg) : Act := .read fun m =>
  match m.heldOf x with
  | none => svcReply x 2 []
  | some h => .seq (freeHeld h) (svcReply x 0 [])

/-- IMG_EVICT at the owner: the page is recalled (R295). -/
def takeImgEvict (x : Msg) : Act := .read fun m =>
  let ga := Bits.leNat (x.body.take 8)
  let isn := Bits.leNat ((x.body.drop 8).take 8)
  let hit : Option (Nat × PageSt) := List.find? (fun p => p.2.rcd.tier == .offshore && p.2.rcd.offPeer == x.src
      && p.2.offIsn == isn && (ga == gaByIsn || p.2.rcd.offExtent == ga)) m.pages
  match hit with
  | none => svcReply x 2 []
  | some p => .seq (startRecall p.1) (svcReply x 0 [])

/-- Evict the images held on some grain addresses (R295, R300). -/
def evictHeld (p : Held → Bool) : Act := .read fun m =>
  .each (m.arc.held.filter p) fun h => svcSend h.home mImgEvict (h.img.rpage * 64) 0 (imgBody h.ga h.img.isn)

/-! ### The home's side of pushes and recalls (R293, R294, Table 13.3) -/

/-- The commit of a push (Table 13.3 steps 5 and 6), or of an image rewrite (Table 7.13 step 4). -/
def commitPush (n : Nat) (j : ImgJob) (ga : Nat) : Act := .read fun m =>
  let pn := j.pn
  let p := m.page pn
  let h := homeIndex m.sled pn
  let r := { p.rcd with tier := .offshore, alloc := 0, base := 0, size := j.codes, epoch := j.epoch, offPeer := j.peer,
                        offExtent := ga, offTag := j.tag, pushPending := false }
  .all [.prim (.page pn { m.withRcd pn r with tags := [], offIsn := j.isn }),
    .prim (.arc fun a => { a with lastHolder := a.lastHolder.put h j.peer }), endJob j,
    if j.kind = .rewritePut then
      .all [release p.rcd.offPeer p.rcd.offExtent p.offIsn,
        .some? (m.rotSlot n) fun s => tdlMark s (pn - m.atollPage n), tagOp 71 1 (pn * 64) n 0 [1, 7, 8, 5, 6]]
    else .all [retireExtent h p.rcd.base p.rcd.alloc, .inc .TIER_PUSHES 0 1, tallyUpdate h,
      tagOp 70 5 (pn * 64) n 0 [3, 4, 7, 8, 2, 5]],
    resumeAll pn, pageDone pn 0]

/-- A holder has no room, or refuses: the next candidate is tried; with none left the push fails (Table 13.3 step 3). -/
def nextHolder (n : Nat) (j : ImgJob) : Act := .read fun m =>
  let pn := j.pn
  .seq (endJob j)
    (match m.holders n pn j.tried with
      | [] => .all [.rcd pn fun x => { x with pushPending := false }, resumeAll pn, pageDone pn 1]
      | r :: _ =>
        if j.kind = .rewritePut then
          -- The image is made again from the old one, which the new holder's rewrite fetches (Table 7.13).
          getImage pn .rewriteGet 0
        else putImage n pn r j.tried .push (nextEpoch (m.page pn).rcd.epoch) (m.useNext n pn)
          (codesFor (m.flag .ATL_COMP n) (m.storedPage n pn)) (m.storedPage n pn) 0)

/-- The lines of a recalled page written locally: in Shallows, or in Deep when it is pinned there (R132, R294 step 3). -/
def recallInto (n pn : Nat) (j : ImgJob) (ls : List LineVal) (size : List Nat) : Act := .read fun m =>
  let p := m.page pn
  let h := homeIndex m.sled pn
  let deep := m.pinTier n p.rcd == some .deep
  let codes := if deep then size else size.map fun c => if c = 0 then 0 else if c = 7 then 7 else 4
  let need := if deep then Bits.ceilDiv (grainTotal codes) 16 else 16
  let bad := (List.range 64).filter fun i => (ls.getD i none).isNone && size.getD i 0 != 7
  let codes := (List.range 64).map fun i => if bad.contains i then 7 else codes.getD i 0
  let r := { p.rcd with tier := if deep then Tier.deep else .shallows, alloc := need, size := codes,
                        epoch := nextEpoch p.rcd.epoch, recallPending := false, offPeer := 0, offExtent := 0, offTag := 0 }
  let done := fun (ga : Nat) => Act.all [writeExtent n pn ga r (m.useNext n pn) ls, chargeExtent ga need 70 true,
    .each bad fun i => .all [poisonIndex pn, mediaEvent n (pn * 64 + i) .mediaManagement, raiseIslet h 1 ((pn * 64 + i) * 64)],
    endJob j, release p.rcd.offPeer p.rcd.offExtent p.offIsn, .inc .TIER_RECALLS 0 1, tallyUpdate h,
    tagOp 70 6 (pn * 64) n 0 [1, 7, 8, 5, 6], resumeAll pn, pageDone pn 0, leaveCheck]
  if need = 0 then done 0
  else match if m.noNewPlots n pn then none else m.placeExtent h need (m.pageK n pn) (m.chanSet n) with
    | some q => .seq (movePlots h q need 0 1) (done (16 * q))
    | none =>
      .all [.rcd pn fun x => { x with recallPending := false }, endJob j,
        .each (m.lines.wb.filter fun e => pageOfLine e.line == pn) fun e => denied n pn (idxOfLine e.line) e,
        resumeAll pn, pageDone pn 2]

/-- A read of an Offshore page without a recall: the image's line answers the request that waits for it, and a partial write is
merged (R62, R132). -/
def remoteRead (n : Nat) (j : ImgJob) (ls : List LineVal) : Act := .read fun m =>
  .seq (endJob j)
    (.some? (m.lines.txns.find? fun t => t.req.id == j.slot) fun t =>
      let v := ls.getD (idxOfLine t.req.line) none
      .seq (match t.phase with
        | .mem => filled n t v
        | .merge => merged t.req.line v
        | _ => .skip) (wake t.req.line))

/-- IMG_DATA at the home: the tag is checked, and the exchange goes on (R160, R294, Table 7.13 steps 2 and 3). -/
def takeImgData (x : Msg) : Act := .read fun m =>
  .some? (m.arc.jobs.find? fun j => j.peer == x.src && j.txid == x.txid) fun j =>
    .some? (m.atollOf j.pn) fun n =>
      let img := Image.parse (x.body.take 64) (x.body.drop 64)
      let r := (m.page j.pn).rcd
      let missing := x.opst == 2 || x.body.isEmpty
      let nx := m.useNext n j.pn
      if missing || m.imageTag img != r.offTag then
        .all [endJob j, losePage n j.pn (!missing),
          .when (j.kind == .remoteRead) (.some? (m.lines.txns.find? fun t => t.req.id == j.slot) fun t =>
            .all [filled n t none, wake t.req.line])]
      else
        let ls := m.openImage n nx img
        match j.kind with
        | .recall => recallInto n j.pn j ls img.size
        | .remoteRead => remoteRead n j ls
        | .rewriteGet =>
          .seq (endJob j) (.read fun m =>
            match m.holders n j.pn [] with
            | [] => .all [.rcd j.pn fun y => { y with pushPending := false }, resumeAll j.pn]
            | p :: _ => putImage n j.pn p [] .rewritePut 0 true img.size ls 0)
        | _ => .skip

/-! ### Pairs (R296 to R299) -/

/-- Word +0x00 and word +0x08 of an atoll's entry (Table 2.1). -/
def Mach.entryWords (m : Mach) (n : Nat) : Nat × Nat :=
  let word := fun (off : Nat) => ((atlFields off).map fun x => m.get x.1 n * 2 ^ x.2.1).sum
  (word 0, word 8 + m.get .ATL_MIRROR n * 2 ^ 7)

/-- The exclusive or of the check values of the slots that an atoll names, and of the transport key (Table 13.2). -/
def Mach.kcvXor (m : Mach) (n : Nat) : List Nat :=
  let ks := ((m.needs n).filterMap fun x => m.slotKey x.1 x.2.1) ++ m.keys.transport.toList
  ks.foldl (fun acc k => Crypto.xorL acc (kcvOf k)) (List.replicate 8 0)

/-- Send PAIR as primary (R296, R299). -/
def sendPair (p : Pair) : Act := .read fun m =>
  let w := m.entryWords p.atoll
  svcSend p.peer mPair (m.atollPage p.atoll * 64) p.atoll
    (List.flatten [Bits.leBytes 8 w.1, Bits.leBytes 8 w.2, [BitVec.ofNat 8 p.mode, 0, BitVec.ofNat 8 (m.get .ARC_WITNESS)],
      List.replicate 5 0, Crypto.bytes (m.kcvXor p.atoll)])

/-- The pairs with a peer in which this sled is primary and not fenced send PAIR (Table 13.1 step 5, R299). -/
def pairUp (r : Nat) : Act := .read fun m =>
  .each (m.arc.pairs.filter fun p => p.peer == r && p.role == 0 && !m.flag .ARC_ATL_FENCED p.atoll) sendPair

/-- Written pages of an atoll. -/
def Mach.writtenPages (m : Mach) (n : Nat) : List Nat :=
  (m.pages.filter fun p => m.inAtoll n p.1 && p.2.rcd.written).map (·.1)

/-- Dirty pages of an atoll (R299). -/
def Mach.dirtyPages (m : Mach) (n : Nat) : List Nat :=
  (m.pages.filter fun p => m.inAtoll n p.1 && p.2.rcd.mirrorDirty).map (·.1)

/-- The lines of a page as the primary sends them: storage merged with its dirty Lagoon lines (R299). -/
def Mach.mergedPage (m : Mach) (n pn : Nat) : List LineVal :=
  (List.range 64).map fun i => match m.cached (pn * 64 + i) with
    | some v => v
    | none => (m.storedLine n pn i).value

/-- Lines of a page held E, M or O off the copy sled (R299). -/
def Mach.ownedMask (m : Mach) (pn copy : Nat) : Nat :=
  ((List.range 64).map fun i => match m.dirEnt (pn * 64 + i) with
    | some e => if 2 ≤ e.state ∧ e.peers ≠ 2 ^ copy then 2 ^ i else 0
    | none => 0).sum

/-- Send MIR_PAGE of a page to the copy side (R299). A page that is Offshore is recalled first. -/
def sendMirPage (n pn peer : Nat) : Act := .read fun m =>
  let r := (m.page pn).rcd
  if r.tier = .offshore then startRecall pn
  else
    let ls := m.mergedPage n pn
    let img := m.makeImage n pn r.epoch (m.useNext n pn) (codesFor (m.flag .ATL_COMP n) ls) ls
    .all [.prim (.keys fun k => { k with isn := (k.isn + 1) % 2 ^ 64 }),
      svcSend peer mMirPage (pn * 64) pn (List.flatten [Bits.leBytes 8 (m.ownedMask pn peer), Crypto.bytes img.header, img.bytes])]

/-- Resync goes on: one page at a time until none is dirty; then HEAL goes to the witness (R299). -/
def resync (n : Nat) : Act := .read fun m =>
  .some? ((m.pairOf n).filter fun p => p.role == 0 && p.formed && !p.solo) fun p =>
    let ds := m.dirtyPages n
    .all [.set .ARC_ATL_DIRTY n ds.length,
      match ds with
      | pn :: _ => .seq (.set .ARC_ATL_RESYNC n 1) (sendMirPage n pn p.peer)
      | [] => .all [.set .ARC_ATL_RESYNC n 0,
          .when (p.mode == 2 && m.flag .ARC_WITNESS_EN)
            (svcSend (m.get .ARC_WITNESS) mHeal (m.atollPage n * 64) n (BitVec.ofNat 8 p.peer :: List.replicate 7 0))]]

/-- The primary's pair is made, or made again (R296, R299). -/
def pairDone (n : Nat) : Act := .read fun m =>
  .some? (m.pairOf n) fun p =>
    .all [setPair n fun p => { p with formed := true, solo := false, claiming := false },
      .set .ATL_MIRROR n p.mode, .set .ATL_PARTNER n p.peer, .set .ATL_PARTNER_UP n 1, .set .ARC_ATL_COPY n 0,
      .when (!p.formed) (.each (m.writtenPages n) fun pn => .rcd pn fun r => { r with mirrorDirty := true }),
      resync n]

/-- The attributes of PAIR match this sled's entry (R296). -/
def Mach.pairMatches (m : Mach) (n : Nat) (x : Msg) (p : Pair) : Bool :=
  let w := m.entryWords n
  let b := fun lo => Bits.leNat ((x.body.drop lo).take 8)
  let attr := fun (v : Nat) => (Bits.field v 0 2, Bits.field v 4 2, Bits.field v 9 2)
  b 0 % 2 ^ 48 == w.1 % 2 ^ 48 && attr (b 8) == attr w.2 && !m.isBell n && (x.body.getD 16 0).toNat == p.mode
    && (p.mode != 2 || (x.body.getD 18 0).toNat == m.get .ARC_WITNESS)
    && Crypto.nats (x.body.drop 24) == m.kcvXor n

/-- Serve again what a fence or an outdated copy had kept: the sled becomes the copy side (R299). -/
def becomeCopy (n : Nat) (p : Pair) : Act := .read fun m =>
  .all [setPair n fun q => { q with role := 1, formed := true, solo := false, claiming := false },
    .set .ATL_MIRROR n p.mode, .set .ATL_PARTNER n p.peer, .set .ATL_PARTNER_UP n 1, .set .ARC_ATL_COPY n 1,
    .set .ARC_ATL_FENCED n 0, .set .ARC_ATL_RESYNC n 0, .set .ARC_ATL_DIRTY n 0,
    .each (m.dirtyPages n) fun pn => .rcd pn fun r => { r with mirrorDirty := false },
    .when (p.mode == 2 && p.formed && m.flag .ARC_WITNESS_EN)
      (svcSend (m.get .ARC_WITNESS) mHeal (m.atollPage n * 64) n (BitVec.ofNat 8 p.peer :: 1 :: List.replicate 6 0))]

/-- PAIR at the copy side (R296, R299). -/
def takePair (x : Msg) : Act := .read fun m =>
  match (m.atollAt x.line).bind fun n => (m.pairOf n).filter fun p => p.peer == x.src with
  | none => svcReply x 3 []
  | some p =>
    let n := p.atoll
    let st := m.get .ATL_STATE n
    if p.role = 0 ∧ !m.flag .ARC_ATL_FENCED n then svcReply x 5 []
    else if !m.pairMatches n x p then svcReply x 3 []
    else if (st ≠ atlLive ∧ st ≠ atlBuilding) ∨ (p.mode = 1 ∧ !(m.atollViews n).isEmpty) then svcReply x 5 []
    else if st = atlBuilding ∧ !(m.entryCodes n [(.ATL_STATE, atlLive)]).isEmpty then svcReply x 5 []
    else .all [.when (st == atlBuilding) (becomeLive n), becomeCopy n p, svcReply x 0 []]

/-- MIR_WR at the copy side: a write through its own home, posted (R61, R297). -/
def takeMirWr (x : Msg) : Act := .read fun m =>
  match m.atollOf (pageOfLine x.line) with
  | none => svcReply x 2 []
  | some n =>
    let mask := Bits.leNat ((x.body.drop 64).take 8)
    let v := lineOf (x.body.take 64)
    .all [.prim (.arc fun a => { a with owned := a.owned.filter (· != x.line) }),
      if x.poison then poisonNow n x.line .hostWrite
      else if mask = fullMask then place n x.line (some v) true fullMask (64 + ((m.upLink x.src).getD 0) / 8)
      else request .self .wrPtl x.line fun r => { r with data := some v, mask := mask },
      svcReply x 0 []]

/-- Mark lines of a page owned away: size code 7 and the tag, with no listing and no event (R297). -/
def ownAway (n pn : Nat) (is : List Nat) : Act := .read fun m =>
  let fresh := is.filter fun i => (m.page pn).rcd.size.getD i 0 != 7
  let y := m.poisonPage n pn fresh
  .all [.each is fun i => dropCopies (pn * 64 + i),
    .prim (.arc fun a => { a with owned := a.owned ++ ((is.map fun i => pn * 64 + i).filter fun l => !a.owned.contains l) }),
    .when (!fresh.isEmpty)
      (.seq (.when (decide ((m.page pn).rcd.tier ≠ .shallows ∧ (m.page pn).rcd.alloc ≠ 0)) (.prim (.poke (16 * (m.page pn).rcd.base) y.2.1)))
        (putPage pn y.1 y.2.2))]

/-- MIR_OWN at the copy side (R297). -/
def takeMirOwn (x : Msg) : Act := .read fun m =>
  match m.atollOf (pageOfLine x.line) with
  | none => svcReply x 2 []
  | some n => .seq (ownAway n (pageOfLine x.line) [idxOfLine x.line]) (svcReply x 0 [])

/-- Replace a page by the lines of an image, in Shallows, with some lines owned away (R299); nothing when no plots are found. -/
def replacePage (n pn : Nat) (img : Image) (mask : Nat) (k : Bool → Act) : Act := .read fun m =>
  let ls := m.openImage n (m.useNext n pn) img
  let h := homeIndex m.sled pn
  let p := m.page pn
  let empty := grainTotal img.size == 0
  let codes := img.size.map fun c => if c = 0 then 0 else if c = 7 then 7 else 4
  let r := { p.rcd with tier := .shallows, alloc := if empty then 0 else 16, size := codes, epoch := nextEpoch p.rcd.epoch,
                        recallPending := false, pushPending := false, offPeer := 0, offExtent := 0, offTag := 0 }
  let put := fun (ga : Nat) => Act.all [dropLines fun l => pageOfLine l == pn, writeExtent n pn ga r (m.useNext n pn) ls,
    .when (p.rcd.tier == .offshore) (release p.rcd.offPeer p.rcd.offExtent p.offIsn),
    retireExtent h p.rcd.base p.rcd.alloc, tallyUpdate h,
    .prim (.arc fun a => { a with owned := a.owned.filter fun l => pageOfLine l != pn }),
    .when (mask != 0) (ownAway n pn (Bits.ones mask 64)), k true]
  if empty then put 0
  else match m.placeExtent h 16 (m.pageK n pn) (m.chanSet n) with
    | none => k false
    | some q => .seq (movePlots h q 16 0 1) (put (16 * q))

/-- MIR_PAGE: at the copy side the page is replaced; at a home that fetched it, its lost page is restored (R294, R299). -/
def takeMirPage (x : Msg) : Act := .read fun m =>
  let pn := pageOfLine x.line
  match m.atollOf pn with
  | none => svcReply x 2 []
  | some n =>
    let img := Image.parse ((x.body.drop 8).take 64) (x.body.drop 72)
    let fetched := m.arc.jobs.filter fun j => j.pn == pn && j.kind == .fetch
    replacePage n pn img (Bits.leNat (x.body.take 8)) fun ok =>
      .all [svcReply x (if ok then 0 else 1) [],
        .read fun m' => .when ok (chargeExtent (m'.page pn).rcd.base (m'.page pn).rcd.alloc (m.masterOf (.peer x.src 0)) true),
        .each fetched endJob, .when (!fetched.isEmpty) (.all [resumeAll pn, pageDone pn (if ok then 0 else 2), leaveCheck])]

/-- MIR_FETCH at a partner: MIR_PAGE of its copy (R294). -/
def takeMirFetch (x : Msg) : Act := .read fun m =>
  let pn := pageOfLine x.line
  match m.atollOf pn with
  | none => svcReply x 2 []
  | some n => if (m.page pn).rcd.tier = .offshore then svcReply x 2 []
    else .seq (svcReply x 0 []) (sendMirPage n pn x.src)

/-- A visitor's lines of an atoll become lines of its home here: dirty lines are dirty in the Lagoon, local heads are its
holders, and the requests that waited are served (R298). -/
def visitorsBecomeHome (n : Nat) : Act := .read fun m =>
  let mine := m.dir.vis.filter fun p => m.inAtoll n (pageOfLine (visLine p.1))
  .all [.prim (.dir fun d => { d with vis := d.vis.filter fun p => !m.inAtoll n (pageOfLine (visLine p.1)) }),
    .each mine fun p =>
      let line := visLine p.1
      let owns := p.2.heads.any (·.2)
      .all [.when (decide (3 ≤ p.2.state)) (place n line p.2.val true fullMask 70),
        .when (!p.2.heads.isEmpty) (setDir line (some { state := if owns then 2 else 1, heads := p.2.heads.map (·.1) })),
        .each (p.2.waits ++ p.2.loc.toList) fun r => .seq (begin r) (wake line),
        .each p.2.keepReqs fun r => answer { r with tier := 6 } (some 0) 0]]

/-- Promote the copy side: it becomes the home (R298). -/
def promote (n : Nat) : Act := .read fun m =>
  let mine := m.arc.owned.filter fun l => m.inAtoll n (pageOfLine l)
  .all [setPair n fun p => { p with role := 0, solo := true, claiming := false }, .set .ARC_ATL_COPY n 0,
    .prim (.arc fun a => { a with owned := a.owned.filter fun l => !mine.contains l }),
    .each mine fun l => .seq (poisonIndex (pageOfLine l)) (mediaEvent n l .mediaManagement),
    visitorsBecomeHome n]

/-- Fence an atoll: every request for it is answered with poison (R298). -/
def fence (n : Nat) : Act := .read fun m =>
  .all [setPair n fun p => { p with claiming := false }, .set .ARC_ATL_FENCED n 1, evViewers n .fail .fenced [n],
    .each (m.dir.vis.filter fun p => m.inAtoll n (pageOfLine (visLine p.1))) fun p => visFail p.1]

/-- The acknowledgements that this sled waited for from a peer come no more: changes complete without them (R298). -/
def mirrorRelease (r : Nat) : Act := .read fun m =>
  .each (m.lines.txns.filter fun t => t.phase == .mir && m.arc.svc.any fun s => s.peer == r && s.txid == t.req.a) fun t =>
    .some? (m.atollOf (pageOfLine t.req.line)) fun n => .seq (mirrorAcked n t) (wake t.req.line)

/-- Ask the witness to serve alone (R298). -/
def sendClaim (p : Pair) : Act := .read fun m =>
  .seq (setPair p.atoll fun q => { q with claiming := true })
    (svcSend (m.get .ARC_WITNESS) mClaim (m.atollPage p.atoll * 64) p.atoll
      (BitVec.ofNat 8 p.peer :: BitVec.ofNat 8 p.role :: List.replicate 6 0))

/-- The key of a pair of sleds at a witness (R304). -/
def witIdx (a b : Nat) : Nat := 8 * min a b + max a b

/-- A held claim is granted when the link to its partner is lost (R298). -/
def grantClaims (r : Nat) : Act := .read fun m =>
  .each (m.arc.claims.filter fun c => c.partner == r) fun c =>
    .all [.set .ARC_WIT_VALID (witIdx c.claimant r) 1, .set .ARC_WIT_HOLDER (witIdx c.claimant r) c.claimant,
      .prim (.arc fun a => { a with claims := a.claims.filter (· != c) }),
      send c.claimant (m.mkMsg mSvcAck c.txid c.claimant 0)]

/-- The link to a peer is declared lost: pairs go on alone, Dual-home pairs claim, and claims held for its partners are granted
(R298). -/
def pairsLost (r : Nat) : Act := .read fun m =>
  .all [.each (m.arc.pairs.filter fun p => p.peer == r && p.formed) fun p =>
      .all [.set .ATL_PARTNER_UP p.atoll 0, .when (p.role == 0) (setPair p.atoll fun q => { q with solo := true }),
        .when (p.handed) (.seq (setPair p.atoll fun q => { q with handing := false, handed := false }) (fence p.atoll)),
        .when (p.mode == 2 && m.flag .ARC_WITNESS_EN && !m.flag .ARC_ATL_FENCED p.atoll) (sendClaim p)],
    mirrorRelease r, grantClaims r]

/-- CLAIM at the witness (R298). -/
def takeClaim (x : Msg) : Act := .read fun m =>
  let partner := (x.body.getD 0 0).toNat % 8
  let i := witIdx x.src partner
  let lost := match m.linkTo partner with
    | some l => [0, 4, 5].contains (m.get .BQL_L_STATE l)
    | none => true
  let grant := Act.all [.set .ARC_WIT_VALID i 1, .set .ARC_WIT_HOLDER i x.src, svcReply x 0 []]
  if m.flag .ARC_WIT_VALID i then svcReply x (if m.get .ARC_WIT_HOLDER i = x.src then 0 else 6) []
  else if (x.body.getD 1 0).toNat == 0 || lost then grant
  else .prim (.arc fun a => { a with claims := a.claims ++ [⟨x.src, partner, x.txid⟩] })

/-- HEAL at the witness: from both sleds it frees the grant (R298). -/
def takeHeal (x : Msg) : Act := .read fun m =>
  let i := witIdx x.src ((x.body.getD 0 0).toNat % 8)
  let got := (m.arc.heals.filter fun p => p.1 == i && p.2 != x.src) ++ [(i, x.src)]
  let rest := m.arc.heals.filter fun p => p.1 != i
  .seq (if 2 ≤ got.length then
      .all [.prim (.arc fun a => { a with heals := rest }), .set .ARC_WIT_VALID i 0, .set .ARC_WIT_HOLDER i 0]
    else .prim (.arc fun a => { a with heals := rest ++ got })) (svcReply x 0 [])

/-- CLAIM_WAIT_EXPIRY: the claims held for a pair are denied (R298). -/
def claimWaitExpiry (a b : Nat) : Act := .read fun m =>
  .each (m.arc.claims.filter fun c => witIdx c.claimant c.partner == witIdx a b) fun c =>
    .seq (.prim (.arc fun s => { s with claims := s.claims.filter (· != c) }))
      (send c.claimant { m.mkMsg mSvcAck c.txid c.claimant 0 with opst := 6 })

/-- CLAIM_TIMEOUT: a claim without an answer fences the atoll (R298). -/
def claimTimeout (n : Nat) : Act := .read fun m => .when ((m.pairOf n).any (·.claiming)) (fence n)

/-! ### The pairing command (R296, R298, R301) -/

/-- Owned-away lines of an atoll become listed poison when it stands alone. -/
def ownedToPoison (n : Nat) : Act := .read fun m =>
  let mine := m.arc.owned.filter fun l => m.inAtoll n (pageOfLine l)
  .seq (.prim (.arc fun a => { a with owned := a.owned.filter fun l => !mine.contains l }))
    (.each mine fun l => .seq (poisonIndex (pageOfLine l)) (mediaEvent n l .mediaManagement))

/-- Unpair: each sled's atoll stands alone (R296). -/
def unpair (n : Nat) : Act := .read fun m =>
  .all [.prim (.arc fun a => { a with pairs := a.pairs.filter fun p => p.atoll != n }), ownedToPoison n,
    .set .ATL_MIRROR n 0, .set .ATL_PARTNER n 0, .set .ATL_PARTNER_UP n 0, .set .ARC_ATL_COPY n 0, .set .ARC_ATL_FENCED n 0,
    .set .ARC_ATL_RESYNC n 0, .set .ARC_ATL_DIRTY n 0,
    .each (m.dirtyPages n) fun pn => .rcd pn fun r => { r with mirrorDirty := false }, mirrorRelease (((m.pairOf n).map (·.peer)).getD 8)]

/-- A pairing command is refused while one is pending, and on mode 2 without a witness (R304, Table 13.6). -/
def Mach.pairRefused (m : Mach) (mode : Nat) : Bool :=
  m.get .ARC_PAIR_STATUS == 1 || (mode == 2 && !m.flag .ARC_WITNESS_EN)

/-- A pairing command that is not refused: its fields are written, and it runs with a status (Table 13.6). -/
def pairCommand (n peer mode role : Nat) (run : Act) : Act := .read fun m =>
  .when (m.sled == .dx32)
    (if m.pairRefused mode then .set .ARC_WR_REFUSED 0 1
     else .all [.set .ARC_WR_REFUSED 0 0, .set .ARC_PAIR_ATOLL 0 n, .set .ARC_PAIR_PEER 0 peer, .set .ARC_PAIR_MODE 0 mode,
       .set .ARC_PAIR_ROLE 0 role, run])

/-- Make a pair (R296): the primary sends PAIR and waits; the copy side notes that it may be paired (log entry 22). -/
def makePair (n peer mode role : Nat) : Act := .read fun m =>
  let p : Pair := { atoll := n, peer := peer, mode := mode, role := role }
  let fresh := Act.prim (.arc fun a => { a with pairs := a.pairs.filter (fun q => q.atoll != n) ++ [p] })
  if !Bits.bit (m.get .ARC_MEMBERS) peer then .set .ARC_PAIR_STATUS 0 2
  else if (m.pairOf n).any (·.formed) ∨ m.isBell n ∨ m.isRemote n ∨ (role = 0 ∧ m.get .ATL_STATE n ≠ atlLive) then
    .set .ARC_PAIR_STATUS 0 13
  else if role = 0 then .all [fresh, .set .ARC_PAIR_STATUS 0 1, sendPair p]
  else .all [fresh, .set .ARC_PAIR_STATUS 0 0]

/-- PAIR_UNPAIR (R296). -/
def pairUnpair (n peer role : Nat) : Act := pairCommand n peer 0 role (.seq (unpair n) (.set .ARC_PAIR_STATUS 0 0))

/-- PAIR_MIRROR (R296). -/
def pairMirror (n peer role : Nat) : Act := pairCommand n peer 1 role (makePair n peer 1 role)

/-- PAIR_DUAL_HOME (R296). -/
def pairDualHome (n peer role : Nat) : Act := pairCommand n peer 2 role (makePair n peer 2 role)

/-- PAIR_PROMOTE: at the copy side, while the partner link is not Up (R298). -/
def pairPromote (n peer role : Nat) : Act := pairCommand n peer 3 role (.read fun m =>
  if (m.pairOf n).any fun p => p.role == 1 && p.formed && (m.upLink p.peer).isNone then
    .seq (promote n) (.set .ARC_PAIR_STATUS 0 0)
  else .set .ARC_PAIR_STATUS 0 13)

/-- PAIR_HANDOVER: at the primary of a pair whose resync is complete (R301, Table 13.4). -/
def pairHandover (n peer role : Nat) : Act := pairCommand n peer 4 role (.read fun m =>
  if (m.pairOf n).any fun p => p.role == 0 && p.formed && !p.solo && !p.handing && (m.upLink p.peer).isSome
      && !m.flag .ARC_ATL_RESYNC n && m.get .ARC_ATL_DIRTY n == 0 then
    .all [.set .ARC_PAIR_STATUS 0 1, setPair n fun p => { p with handing := true }, handoverTry]
  else .set .ARC_PAIR_STATUS 0 13)

/-- HANDOVER at the target: the entries are installed, the owned-away marks cleared, and it is primary (Table 13.4 step 4). -/
def takeHandover (x : Msg) : Act := .read fun m =>
  match (m.atollAt x.line).bind fun n => (m.pairOf n).filter fun p => p.peer == x.src && p.role == 1 && p.formed with
  | none => svcReply x 5 []
  | some p =>
    let n := p.atoll
    let mine := m.arc.owned.filter fun l => m.inAtoll n (pageOfLine l)
    let clear := fun (l : Nat) => Act.rcd (pageOfLine l) fun r =>
      if r.tier = .shallows ∧ r.alloc ≠ 0 then { r with size := r.size.set (idxOfLine l) 4 } else r
    .all [.each (List.range (x.body.length / 16)) fun j =>
        let g := Bits.leNat ((x.body.drop (16 * j)).take 8)
        let w := Bits.leNat ((x.body.drop (16 * j + 8)).take 8)
        setDir (g / 64) (some { state := Bits.field w 21 3, opeer := Bits.field w 26 3,
                                peers := withBit (Bits.field w 56 8) m.self false }),
      .prim (.arc fun a => { a with owned := a.owned.filter fun l => !mine.contains l }),
      .each mine clear, setPair n fun q => { q with role := 0 }, .set .ARC_ATL_COPY n 0, svcReply x 0 []]

/-- The source of a handover: its entries become visitor entries, a Mirror atoll becomes remote and gives up its grain space, a
Dual-home one becomes secondary, and the requests held go on as a visitor's (Table 13.4 step 5). -/
def handedOver (n : Nat) : Act := .read fun m =>
  .some? (m.pairOf n) fun p =>
    let ents := m.dir.ents.filter fun x => m.inAtoll n (pageOfLine x.1) && !x.2.heads.isEmpty
    let held := m.lines.waits.filter fun w => m.inAtoll n (pageOfLine w.req.line)
    .all [.each ents fun x =>
        setVis (visKey p.peer x.1) { state := x.2.state, val := (m.atHome x.1).getD (some 0), heads := x.2.heads.map fun h => (h, x.2.state != 1) },
      .prim (.dir fun d => { d with ents := d.ents.filter fun x => !m.inAtoll n (pageOfLine x.1) }),
      dropLines fun l => m.inAtoll n (pageOfLine l),
      .prim (.lines fun l => { l with waits := l.waits.filter fun w => !m.inAtoll n (pageOfLine w.req.line) }),
      if p.mode = 1 then
        .all [.each ((m.pages.filter fun q => m.inAtoll n q.1).map (·.1)) forgetPage, freeMaps n,
          .prim (.arc fun a => { a with pairs := a.pairs.filter fun q => q.atoll != n }),
          .set .ATL_MIRROR n 0, .set .ATL_PARTNER n 0, .set .ATL_PARTNER_UP n 0,
          .set .ARC_ATL_REMOTE n 1, .set .ARC_ATL_HOME n p.peer, .set .ATL_BACKING n 0, tallyAll, keysUpdate]
      else .seq (setPair n fun q => { q with role := 1, handing := false, handed := false }) (.set .ARC_ATL_COPY n 1),
      .set .ARC_PAIR_STATUS 0 0,
      .each held fun w => .seq (visStep n (visKey p.peer w.req.line) w.req) (visWake (visKey p.peer w.req.line))]

/-! ### Remote binds (R289) -/

/-- RMT_BIND at the home: its entry words for a Live Normal atoll of the same base; a Dual-home atoll is not bound. -/
def takeRmtBind (x : Msg) : Act := .read fun m =>
  match (m.atollAt x.line).filter fun n => m.get .ATL_STATE n == atlLive && !m.isBell n && !m.isRemote n with
  | none => svcReply x 2 []
  | some n =>
    if m.get .ATL_MIRROR n = 2 then svcReply x 4 []
    else
      let w := m.entryWords n
      .seq (.prim (.arc fun a => { a with binds := a.binds.filter (· != (n, x.src)) ++ [(n, x.src)] }))
        (svcReply x 0 (Bits.leBytes 8 w.1 ++ Bits.leBytes 8 w.2))

/-- The home's answer ends the admission of a remote atoll: code 0x01 or 0x06, the other checks, or Live. The visitor takes the
home's write-through attribute with it. -/
def bindAnswer (n st : Nat) (body : List Byte) : Act := .read fun m =>
  let w0 := Bits.leNat (body.take 8)
  let w8 := Bits.leNat ((body.drop 8).take 8)
  let mine := m.entryWords n
  let same := w0 % 2 ^ 48 == mine.1 % 2 ^ 48 && Bits.bit w8 0 == Bits.bit mine.2 0 && Bits.bit w8 10 == Bits.bit mine.2 10
  let codes := m.entryCodes n [(.ATL_STATE, atlLive)]
  .when (m.get .ATL_STATE n == atlBuilding)
    (if st = 4 then entryRefuse n (6 :: codes)
     else if st ≠ 0 ∨ !same then entryRefuse n [1]
     else if !codes.isEmpty then entryRefuse n codes
     else .seq (.set .ATL_VISITOR_WT n (Bits.field w8 11 1)) (becomeLive n))

/-! ### Joining (R287, Table 13.1) -/

/-- The body of this sled's JOIN. -/
def Mach.joinBody (m : Mach) (r : Nat) : List Byte :=
  List.flatten [Bits.leBytes 8 (m.get .ID_IDENT), Bits.leBytes 8 m.keys.nonce,
    Bits.leBytes 2 (((m.upLink r).map fun l => m.get .BQL_L_FEATURES l).getD 0), List.replicate 6 0]

/-- Send JOIN to a peer whose link is Up (Table 13.1 step 4). -/
def sendJoin (r : Nat) : Act := .read fun m =>
  .when (m.flag .ARC_EN && !m.arc.left && (m.upLink r).isSome) (svcSend r mJoin 0 r (m.joinBody r))

/-- A JOIN exchange completes (Table 13.1 step 5, Table 13.5). -/
def joined (r ident gsn : Nat) : Act := .read fun m =>
  let newer := ident != m.get .ARC_PEER_IDENT r || gsn != m.get .ARC_PEER_GSN r
  let lost := gsn != m.get .ARC_PEER_GSN r
  .all [.set .ARC_MEMBERS 0 (withBit (m.get .ARC_MEMBERS) r true),
    .when newer (.each (m.arc.held.filter fun h => h.home == r) freeHeld),
    .set .ARC_PEER_IDENT r ident, .set .ARC_PEER_GSN r gsn,
    .each (m.pagesAt r) fun pn =>
      if lost then .some? (m.atollOf pn) fun n => losePage n pn false
      else .when (m.arc.lostPeers.contains r) (startRecall pn),
    .prim (.arc fun a => { a with lostPeers := a.lostPeers.filter (· != r) }),
    .each (m.arc.releases.filter fun x => x.peer == r) fun x =>
      .seq (.prim (.arc fun a => { a with releases := a.releases.map fun y => if y = x then { y with sent := true } else y }))
        (send r { m.mkMsg mImgRelease x.txid m.self 0 with body := imgBody x.ga x.isn }),
    pairUp r]

/-- JOIN (R287). -/
def takeJoin (x : Msg) : Act := .read fun m =>
  .seq (svcReply x 0 (m.joinBody x.src)) (joined x.src (Bits.leNat (x.body.take 8)) (Bits.leNat ((x.body.drop 8).take 8)))

/-- The peers of this sled. -/
def Mach.peers (m : Mach) : List Nat := (List.range 8).filter (· != m.self)

/-- Services may not be turned off: a peer is a member, or an atoll is remote, paired or Offshore (R286). -/
def Mach.arcBusy (m : Mach) : Bool :=
  m.get .ARC_MEMBERS != 0 || m.anyOffshore || m.atolls.any fun n => m.isRemote n || m.get .ATL_MIRROR n != 0

/-- ARC_EN_WRITE (R286). -/
def arcEnWrite (v : Bool) : Act := .read fun m =>
  .when (m.sled == .dx32)
    (if !v && m.arcBusy then .set .ARC_WR_REFUSED 0 1
     else .all [.set .ARC_EN 0 (Bits.ofBool v), .set .ARC_WR_REFUSED 0 0,
       .when (v && !m.flag .ARC_EN) (.seq (.prim (.arc fun a => { a with left := false })) (.each m.peers sendJoin))])

/-- Forget one peer (R302). -/
def forgetPeer (r : Nat) : Act := .read fun m =>
  .all [.each (m.pagesAt r) fun pn => .some? (m.atollOf pn) fun n => losePage n pn false,
    .each (m.arc.held.filter fun h => h.home == r) freeHeld,
    .prim (.arc fun a => { a with releases := a.releases.filter fun x => x.peer != r, lostPeers := a.lostPeers.filter (· != r) }),
    .read fun m' => .set .ARC_REL_PENDING 0 m'.arc.releases.length,
    .set .ARC_PEER_IDENT r 0, .set .ARC_PEER_GSN r 0]

/-- A link to a peer of a mask is Up. -/
def Mach.forgetBad (m : Mach) (mask : Nat) : Bool := (Bits.ones mask 8).any fun r => (m.upLink r).isSome

/-- ARC_FORGET: accepted only while no link to the named peers is Up (R302). -/
def arcForget (mask : Nat) : Act := .read fun m =>
  let rs := Bits.ones mask 8
  .when (m.sled == .dx32)
    (if m.forgetBad mask then .set .ARC_WR_REFUSED 0 1
     else .seq (.set .ARC_WR_REFUSED 0 0) (.each rs forgetPeer))

/-- An exchange that a flushed link has cut is given up, its record unchanged (R295, Table 13.5). -/
def cutJob (j : ImgJob) : Act := .read fun m =>
  .seq (endJob j)
    (match j.kind with
      | .push => .all [release j.peer gaByIsn j.isn, .rcd j.pn fun r => { r with pushPending := false }, resumeAll j.pn, pageDone j.pn 3]
      | .rewritePut => .all [release j.peer gaByIsn j.isn, .rcd j.pn fun r => { r with pushPending := false }, resumeAll j.pn]
      | .rewriteGet => .seq (.rcd j.pn fun r => { r with pushPending := false }) (resumeAll j.pn)
      | .remoteRead => .some? (m.lines.txns.find? fun t => t.req.id == j.slot) fun t =>
          .seq (.all [answerDead t.req, closeTxn t.req.line]) (wake t.req.line)
      | .recall => .all [.rcd j.pn fun r => { r with recallPending := false },
          .each (m.lines.waits.filter fun w => w.why == .recall && pageOfLine w.req.line == j.pn) fun w =>
            .seq (unwait w.req) (answerDead w.req), pageDone j.pn 3]
      | .fetch => .some? (m.atollOf j.pn) fun n => losePage n j.pn false)

/-- What the flush of the link to a peer does to archipelago state (Table 13.5, Table 12.9 step 4). -/
def peerFlushed (r : Nat) : Act := .read fun m =>
  .all [.each (m.arc.jobs.filter fun j => j.peer == r) cutJob, dropMember r,
    .each (m.arc.svc.filter fun s => s.peer == r && s.code == mMirPage) fun s => pageDone s.arg 5,
    .prim (.arc fun a => { a with lostPeers := a.lostPeers.filter (· != r) ++ [r], svc := a.svc.filter fun s => s.peer != r,
                                  binds := a.binds.filter fun b => b.2 != r,
                                  releases := a.releases.map fun x => if x.peer = r then { x with sent := false } else x }),
    .each (m.arc.pairs.filter fun p => p.peer == r && p.formed && p.role == 0) fun p => setPair p.atoll fun q => { q with solo := true }]

/-! ### SVC_ACK (R288) -/

/-- The answer to one noted service request. -/
def svcAnswered (s : SvcReq) (x : Msg) : Act := .read fun m =>
  let mir := (m.lines.txns.find? fun t => t.phase == .mir && t.req.a == s.txid)
  if s.code = mJoin then
    .when (x.opst == 0) (joined x.src (Bits.leNat (x.body.take 8)) (Bits.leNat ((x.body.drop 8).take 8)))
  else if s.code = mLeave then
    .all [.prim (.arc fun a => { a with leaving := a.leaving.filter (· != x.src) }), dropMember x.src, leaveCheck]
  else if s.code = mMirWr ∨ s.code = mMirOwn then
    .some? mir fun t => .some? (m.atollOf (pageOfLine t.req.line)) fun n => .seq (mirrorAcked n t) (wake t.req.line)
  else if s.code = mMirPage then
    .some? (m.atollOf s.arg) fun n =>
      .all [.when (x.opst == 0 && (m.page s.arg).rcd.mirrorDirty) (.rcd s.arg fun r => { r with mirrorDirty := false }),
        pageDone s.arg (if x.opst = 0 then 0 else 3), .when (x.opst == 0) (resync n)]
  else if s.code = mMirFetch then
    .when (x.opst != 0)
      (.each (m.arc.jobs.filter fun j => j.pn == s.arg && j.kind == .fetch) fun j =>
        .all [endJob j,
          .some? (m.atollOf j.pn) fun n =>
            .all [putPage j.pn { (m.page j.pn).rcd with size := List.replicate 64 7, tier := .shallows, alloc := 0, base := 0,
                                                         recallPending := false, pushPending := false } [],
              poisonIndex j.pn, .each (List.range 64) fun i => mediaEvent n (j.pn * 64 + i) .mediaManagement],
          resumeAll j.pn, pageDone j.pn 4])
  else if s.code = mPair then
    .seq (.when (m.get .ARC_PAIR_STATUS == 1 && m.get .ARC_PAIR_ATOLL == s.arg) (.set .ARC_PAIR_STATUS 0 (if x.opst = 0 then 0 else 8 + x.opst)))
      (if x.opst = 0 then pairDone s.arg
       else .when ((m.pairOf s.arg).any fun p => !p.formed)
         (.prim (.arc fun a => { a with pairs := a.pairs.filter fun p => p.atoll != s.arg })))
  else if s.code = mClaim then
    .when ((m.pairOf s.arg).any (·.claiming))
      (if x.opst = 0 then
        (if (m.pairOf s.arg).any fun p => p.role == 1 then promote s.arg else setPair s.arg fun p => { p with claiming := false })
       else fence s.arg)
  else if s.code = mHandover then
    if x.opst = 0 then handedOver s.arg
    else .all [setPair s.arg fun p => { p with handing := false, handed := false }, .set .ARC_PAIR_STATUS 0 (8 + x.opst),
      .each (m.lines.waits.filter fun w => w.why == .chain && m.inAtoll s.arg (pageOfLine w.req.line)) fun w => wake w.req.line]
  else if s.code = mRmtBind then bindAnswer s.arg x.opst x.body
  else .skip

/-- SVC_ACK: of a push, of a release, or of a noted request; any other is a protocol error (R185, R288). -/
def takeSvcAck (x : Msg) : Act := .read fun m =>
  match m.arc.jobs.find? fun j => j.peer == x.src && j.txid == x.txid && (j.kind == .push || j.kind == .rewritePut) with
  | some j =>
    .some? (m.atollOf j.pn) fun n =>
      if x.opst = 0 then commitPush n j (Bits.leNat (x.body.take 8)) else nextHolder n j
  | none =>
    match m.arc.releases.find? fun r => r.peer == x.src && r.txid == x.txid with
    | some r => .all [.prim (.arc fun a => { a with releases := a.releases.filter (· != r) }),
        .set .ARC_REL_PENDING 0 (m.arc.releases.length - 1)]
    | none =>
      match m.arc.svc.find? fun s => s.peer == x.src && s.txid == x.txid with
      | some s => .seq (.prim (.arc fun a => { a with svc := a.svc.erase s })) (svcAnswered s x)
      | none => protoErr (.peer x.src)

/-! ### Meanings -/

/-- JOIN (R287). -/
def execJoin (x : Msg) (s : State) : Host.Outcome State Fault Refusal :=
  let y := { x with code := mJoin }
  s.act (svcIn y (takeJoin y))

/-- LEAVE (R301). -/
def execLeave (x : Msg) (s : State) : Host.Outcome State Fault Refusal :=
  let y := { x with code := mLeave }
  s.act (svcIn y (takeLeave y))

/-- IMG_PUT (R292). -/
def execImgPut (x : Msg) (s : State) : Host.Outcome State Fault Refusal :=
  let y := { x with code := mImgPut }
  s.act (svcIn y (takeImgPut y))

/-- IMG_GET (R292). -/
def execImgGet (x : Msg) (s : State) : Host.Outcome State Fault Refusal :=
  let y := { x with code := mImgGet }
  s.act (svcIn y (takeImgGet y))

/-- IMG_RELEASE (R292). -/
def execImgRelease (x : Msg) (s : State) : Host.Outcome State Fault Refusal :=
  let y := { x with code := mImgRelease }
  s.act (svcIn y (takeImgRelease y))

/-- IMG_EVICT (R295). -/
def execImgEvict (x : Msg) (s : State) : Host.Outcome State Fault Refusal :=
  let y := { x with code := mImgEvict }
  s.act (svcIn y (takeImgEvict y))

/-- IMG_DATA (R294). -/
def execImgData (x : Msg) (s : State) : Host.Outcome State Fault Refusal :=
  let y := { x with code := mImgData }
  s.act (svcFrom y (takeImgData y))

/-- MIR_WR (R297). -/
def execMirWr (x : Msg) (s : State) : Host.Outcome State Fault Refusal :=
  let y := { x with code := mMirWr }
  s.act (svcIn y (takeMirWr y))

/-- MIR_OWN (R297). -/
def execMirOwn (x : Msg) (s : State) : Host.Outcome State Fault Refusal :=
  let y := { x with code := mMirOwn }
  s.act (svcIn y (takeMirOwn y))

/-- MIR_PAGE (R299). -/
def execMirPage (x : Msg) (s : State) : Host.Outcome State Fault Refusal :=
  let y := { x with code := mMirPage }
  s.act (svcIn y (takeMirPage y))

/-- MIR_FETCH (R294). -/
def execMirFetch (x : Msg) (s : State) : Host.Outcome State Fault Refusal :=
  let y := { x with code := mMirFetch }
  s.act (svcIn y (takeMirFetch y))

/-- PAIR (R296). -/
def execPair (x : Msg) (s : State) : Host.Outcome State Fault Refusal :=
  let y := { x with code := mPair }
  s.act (svcIn y (takePair y))

/-- CLAIM (R298). -/
def execClaim (x : Msg) (s : State) : Host.Outcome State Fault Refusal :=
  let y := { x with code := mClaim }
  s.act (svcIn y (takeClaim y))

/-- HEAL (R298). -/
def execHeal (x : Msg) (s : State) : Host.Outcome State Fault Refusal :=
  let y := { x with code := mHeal }
  s.act (svcIn y (takeHeal y))

/-- HANDOVER (R301). -/
def execHandover (x : Msg) (s : State) : Host.Outcome State Fault Refusal :=
  let y := { x with code := mHandover }
  s.act (svcIn y (takeHandover y))

/-- RMT_BIND (R289). -/
def execRmtBind (x : Msg) (s : State) : Host.Outcome State Fault Refusal :=
  let y := { x with code := mRmtBind }
  s.act (svcIn y (takeRmtBind y))

/-- SVC_ACK (R288). -/
def execSvcAck (x : Msg) (s : State) : Host.Outcome State Fault Refusal :=
  let y := { x with code := mSvcAck }
  s.act (svcFrom y (takeSvcAck y))

/-- ARC_EN_WRITE (R286). -/
def execArcEnWrite (v : Bool) (s : State) : Host.Outcome State Fault Refusal := s.act (arcEnWrite v)

/-- ARC_HOLD_GROUPS_WRITE (R290). -/
def execArcHoldGroupsWrite (v : Nat) (s : State) : Host.Outcome State Fault Refusal := s.act (arcHoldGroupsWrite v)

/-- PAIR_UNPAIR (R296). -/
def execPairUnpair (atoll peer role : Nat) (s : State) : Host.Outcome State Fault Refusal := s.act (pairUnpair atoll peer role)

/-- PAIR_MIRROR (R296). -/
def execPairMirror (atoll peer role : Nat) (s : State) : Host.Outcome State Fault Refusal := s.act (pairMirror atoll peer role)

/-- PAIR_DUAL_HOME (R296). -/
def execPairDualHome (atoll peer role : Nat) (s : State) : Host.Outcome State Fault Refusal := s.act (pairDualHome atoll peer role)

/-- PAIR_PROMOTE (R298). -/
def execPairPromote (atoll peer role : Nat) (s : State) : Host.Outcome State Fault Refusal := s.act (pairPromote atoll peer role)

/-- PAIR_HANDOVER (R301). -/
def execPairHandover (atoll peer role : Nat) (s : State) : Host.Outcome State Fault Refusal := s.act (pairHandover atoll peer role)

/-- ARC_LEAVE (R301). -/
def execArcLeave (s : State) : Host.Outcome State Fault Refusal := s.act arcLeave

/-- ARC_FORGET (R302). -/
def execArcForget (mask : Nat) (s : State) : Host.Outcome State Fault Refusal := s.act (arcForget mask)

/-- CLAIM_WAIT_EXPIRY (R298). -/
def execClaimWaitExpiry (a b : Nat) (s : State) : Host.Outcome State Fault Refusal := s.act (claimWaitExpiry a b)

/-- CLAIM_TIMEOUT (R298). -/
def execClaimTimeout (atoll : Nat) (s : State) : Host.Outcome State Fault Refusal := s.act (claimTimeout atoll)

end Sys2Proof.Machine
end

