-- ==== Sys2Proof/Machine/Queues.lean ====
section
/-!
DEFINITION. Queue pairs (chapter "Queues, descriptors and bell lines"): enable and disable, the fetch of descriptors, the writing
of completions, errors of the rings and interrupts. What a descriptor does stands in Descriptors.lean.
-/

namespace Sys2Proof.Machine

/-! ### The fields of a descriptor (Table 10.3) -/

/-- `n` bytes of a descriptor from byte `lo`, as a number. -/
def Desc.num (d : Desc) (lo n : Nat) : Nat := Bits.leNat ((d.raw.drop lo).take n)

/-- `OPCODE`. -/
def Desc.op (d : Desc) : Nat := d.num 0 1

/-- `IRQ`. -/
def Desc.irq (d : Desc) : Bool := Bits.bit (d.num 1 1) 0

/-- `SRC_HOST`. -/
def Desc.srcHost (d : Desc) : Bool := Bits.bit (d.num 1 1) 1

/-- `DST_HOST`. -/
def Desc.dstHost (d : Desc) : Bool := Bits.bit (d.num 1 1) 2

/-- `PLACE`. -/
def Desc.place (d : Desc) : Nat := Bits.field (d.num 1 1) 4 2

/-- `PEER`. -/
def Desc.peer (d : Desc) : Nat := d.num 2 1 % 8

/-- `LEN`. -/
def Desc.len (d : Desc) : Nat := d.num 8 4

/-- `SRC`. -/
def Desc.src (d : Desc) : Nat := d.num 16 8

/-- `DST`. -/
def Desc.dst (d : Desc) : Nat := d.num 24 8

/-- A data operation: COPY, FILL, ZERO or COMPARE (R232). -/
def Desc.isData (d : Desc) : Bool := 0x10 ≤ d.op && d.op ≤ 0x13

/-- FENCE. -/
def Desc.isFence (d : Desc) : Bool := d.op == 1

/-! ### Descriptors in flight -/

/-- A descriptor in flight by its order of fetch. -/
def Mach.descOf (m : Mach) (seq : Nat) : Option Desc := m.que.descs.find? fun d => d.seq == seq

/-- A descriptor in flight by its queue pair and submission index. -/
def Mach.descAt (m : Mach) (q idx : Nat) : Option Desc := m.que.descs.find? fun d => d.q == q && d.idx == idx

/-- Change a descriptor in flight. -/
def setDesc (seq : Nat) (f : Desc → Desc) : Act :=
  let g := fun (d : Desc) => if d.seq = seq then f d else d
  .prim (.que fun x => { x with descs := x.descs.map g })

/-- The first number of a descriptor's line requests in a role: 0 source reads, 1 destination reads and atomics, 2 writes, 3 its
completion. -/
def Desc.tag0 (d : Desc) (role : Nat) : Nat := (4 * d.idx + role) * askSpan

/-- The number of the line request that fetches a descriptor: beyond every descriptor's own. -/
def fetchTag : Nat := 2 ^ 18 * askSpan

/-- A descriptor's line requests in a role, in order. -/
def Mach.descAsks (m : Mach) (d : Desc) (role : Nat) : List RemReq := m.asked (.queue d.q) (d.tag0 role) askSpan

/-- Forget every line request of a descriptor. -/
def forgetDesc (d : Desc) : Act := forget (.queue d.q) (d.tag0 0) (4 * askSpan)

/-- `QP_INFLIGHT` and `QP_BUSY` follow the descriptors in flight (R226, Table 10.10). -/
def qpCounts (q : Nat) : Act := .read fun m =>
  let n := (m.que.descs.filter fun d => d.q == q).length
  .all [.set .QP_INFLIGHT q n, .set .QP_BUSY q (Bits.ofBool (n != 0))]

/-! ### Host memory (R225) -/

/-- DMA of an owner reaches host memory: its Bus Master Enable is 1 and its head's link is up. -/
def Mach.hostReach (m : Mach) (owner : Nat) : Bool :=
  !m.host.bmeOff.contains owner
    && (if owner < 256 then m.ldUp owner false else m.get .HBR_HEAD_WIDTH m.host.mgmtHeadNow != 0)

/-- The bytes of a DMA read: none when it fails or returns too few. -/
def Mach.hostBytes (m : Mach) (owner n : Nat) : HostRead → Option (List Byte)
  | .ok bs => if m.hostReach owner ∧ n ≤ bs.length then some (bs.take n) else none
  | .failed => none

/-! ### Interrupts (R243) -/

/-- Send a queue pair's message; the count and the time begin again. -/
def qpSignal (q : Nat) : Act := .read fun m =>
  .when (m.flag .QP_IRQ_EN q)
    (.all [.prim (.que fun x => { x with since := x.since.erase q, firstAt := x.firstAt.erase q }),
      msixSend (m.get .QP_OWNER q) (m.get .QP_VECTOR q)])

/-- Completions of a queue pair since its last message. -/
def Mach.sinceMsg (m : Mach) (q : Nat) : Nat := (m.que.since.find? q).getD 0

/-- A completion has been written: its message, or one more to be covered by a later one. -/
def qpWritten (q : Nat) (irq : Bool) : Act := .read fun m =>
  let n := m.sinceMsg q + 1
  let cnt := m.get .QP_IRQ_COUNT q
  let usec := m.get .QP_IRQ_USEC q
  .when (m.flag .QP_IRQ_EN q)
    (if irq || (cnt != 0 && decide (cnt ≤ n)) || (cnt == 0 && usec == 0) then qpSignal q
     else .prim (.que fun x => { x with
       since := x.since.put q n, firstAt := if n = 1 then x.firstAt.put q m.now else x.firstAt }))

/-- IRQ_COALESCE_TIMEOUT: `QP_IRQ_USEC` has passed since the first completion not yet signalled (R243). -/
def irqCoalesceTimeout (q : Nat) : Act := .read fun m =>
  .when (m.get .QP_IRQ_USEC q != 0 && m.sinceMsg q != 0) (qpSignal q)

/-- MSIX_VECTOR_UNMASK: the vector is unmasked, and a pending message leaves (R243, as PCI Express defines MSI-X). -/
def msixVectorUnmask (owner vec : Nat) : Act := .read fun m =>
  .all [.prim (.host fun h => { h with msixMasked := h.msixMasked.filter (· != (owner, vec)),
                                       msixPending := h.msixPending.filter (· != (owner, vec)) }),
    .when (m.host.msixPending.contains (owner, vec)) (msixSend owner vec)]

/-! ### Errors (R240) -/

/-- A queue pair's own rings fail: Error, with its cause, and the vector at once. -/
def qpFail (q code : Nat) : Act := .read fun m =>
  .when (m.get .QP_STATE q == qpEnabled)
    (.all [.set .QP_STATE q qpError, .set .QP_ERR q code, forget (.queue q) fetchTag 1, qpSignal q])

/-- BUS_MASTER_ENABLE_CLEAR: every enabled queue pair of the owner goes to Error (R240). -/
def busMasterEnableClear (owner : Nat) : Act := .read fun m =>
  .all [.prim (.host fun h => { h with bmeOff := owner :: h.bmeOff.filter (· != owner) }),
    .each ((m.idxs .QP_STATE).filter fun q => m.get .QP_OWNER q == owner) fun q => qpFail q 5]

/-! ### Enable and disable (R223, Table 10.1) -/

/-- A presented ring lies wholly inside one valid view of its owner, of a Normal Live atoll; the management function's in one such
atoll (Table 10.1). -/
def Mach.ringPlaced (m : Mach) (owner base size : Nat) : Bool :=
  if owner < 256 then
    (m.ldViews owner).any fun v =>
      let n := m.get .VW_ATOLL v
      m.inView v base && m.inView v (base + size - 1) && !m.isBell n && m.get .ATL_STATE n == atlLive
  else
    match m.atollOf (base / 4096), m.atollOf ((base + size - 1) / 4096) with
    | some n, some n' => n == n' && !m.isBell n && m.get .ATL_STATE n == atlLive
    | _, _ => false

/-- A ring's size and base pass, wherever it lies (Table 10.1). -/
def Mach.ringOk (m : Mach) (q log : Nat) (host : Bool) (base entry : Nat) : Bool :=
  let o := m.get .QP_OWNER q
  decide (6 ≤ log ∧ log ≤ 16 ∧ base % 4096 = 0)
    && (if host then !m.host.bmeOff.contains o else m.ringPlaced o base (2 ^ log * entry))

/-- The checks of Table 10.1, with the vector's (R243). -/
def Mach.enableOk (m : Mach) (q : Nat) : Bool :=
  let o := m.get .QP_OWNER q
  let svc := m.get .ID_SVC_STATE
  (if o < 256 then m.flag .HBR_LD_VALID o else o == ownMgmt)
    && m.ringOk q (m.get .QP_SQ_LOG2 q) (m.flag .QP_SQ_HOST q) (m.get .QP_SQ_BASE q) 64
    && m.ringOk q (m.get .QP_CQ_LOG2 q) (m.flag .QP_CQ_HOST q) (m.get .QP_CQ_BASE q) 16
    && !(svc == 0 && !m.flag .ID_MEM_ACTIVE) && !(svc == 2 && o != ownMgmt) && !m.ebbing
    && decide (o < 256 ∨ m.get .QP_VECTOR q < 64)

/-- A write of 1 to `QP_EN`: from Disabled into Enabled when the checks pass; refused in Error and Draining (R223). -/
def qpEnable (q : Nat) : Act := .read fun m =>
  let st := m.get .QP_STATE q
  .when (decide (q < m.sled.qps))
    (if st = qpEnabled then .set .QP_WR_REFUSED q 0
     else if st = qpDisabled && m.enableOk q then
       .all [.set .QP_EN q 1, .set .QP_STATE q qpEnabled, .set .QP_ERR q 0, .set .QP_SQ_HEAD q 0, .set .QP_SQ_TAIL q 0,
         .set .QP_CQ_HEAD q 0, .set .QP_CQ_TAIL q 0, .set .QP_CQ_PHASE q 1, .set .QP_WR_REFUSED q 0,
         .prim (.que fun x => { x with since := x.since.erase q, firstAt := x.firstAt.erase q })]
     else .set .QP_WR_REFUSED q 1)

/-- A fetched descriptor of a draining queue pair stops: at once, or at the end of the chunk that it is in (R223). -/
def abortDesc (d : Desc) : Act :=
  .when (!d.done && !(d.isData && d.phase != 0))
    (.seq (forgetDesc d) (setDesc d.seq fun d => { d with done := true, status := 0x14, detail := 0, waitPn := none, phase := 0 }))

/-- Draining begins (R223, Table 10.9). -/
def qpDrain (q : Nat) : Act := .read fun m =>
  .all [.set .QP_EN q 0, .set .QP_STATE q qpDraining, forget (.queue q) fetchTag 1,
    .each (m.que.descs.filter fun d => d.q == q) abortDesc]

/-- A queue pair runs, or stands in Error. -/
def Mach.qpRuns (m : Mach) (q : Nat) : Bool := m.get .QP_STATE q == qpEnabled || m.get .QP_STATE q == qpError

/-- A write of 0 to `QP_EN` (R223). -/
def qpDisable (q : Nat) : Act := .read fun m =>
  .when (decide (q < m.sled.qps)) (.seq (.set .QP_WR_REFUSED q 0) (.when (m.qpRuns q) (qpDrain q)))

/-- Queue pairs of an owner whose link goes down or that is reset begin Draining (Table 10.9). -/
def ownerDrain (owner : Nat) : Act := .read fun m =>
  .each ((m.idxs .QP_STATE).filter fun q => m.get .QP_OWNER q == owner && m.qpRuns q) qpDrain

/-- QP_DRAINED: no fetched descriptor is left, and the queue pair is Disabled (R223). -/
def qpDrained (q : Nat) : Act := .read fun m =>
  .when (m.get .QP_STATE q == qpDraining && !(m.que.descs.any fun d => d.q == q)) (.set .QP_STATE q qpDisabled)

/-- QP_CONTROL_PAGE_WRITE: bit 0, by the owner, while `QP_LD_CTRL` is 1; any other write is ignored (R246). -/
def qpControlPageWrite (ld q value : Nat) : Act := .read fun m =>
  .when (decide (q < m.sled.qps) && m.get .QP_OWNER q == ld && decide (ld < 256) && m.flag .QP_LD_CTRL q)
    (if Bits.bit value 0 then qpEnable q else qpDisable q)

/-! ### Fetch (R226, R242) -/

/-- A queue islet is in service. -/
def Mach.isletRuns (m : Mach) (k : Nat) : Bool := !m.bkw.isolated.contains (5, k) && !m.fatal && !m.ebbing

/-- Completion slots that no descriptor in flight holds. -/
def Mach.cqRoom (m : Mach) (q : Nat) : Nat :=
  ringDist (m.get .QP_CQ_TAIL q) (m.get .QP_CQ_HEAD q + m.cqSize q - 1) (m.cqSize q) - m.get .QP_INFLIGHT q

/-- A queue pair may fetch: Enabled, its submission ring not empty, a completion slot held, below its depth, and no FENCE in flight
(R226, Table 10.8). -/
def Mach.mayFetch (m : Mach) (q : Nat) : Bool :=
  m.get .QP_STATE q == qpEnabled && m.get .QP_SQ_HEAD q != m.get .QP_SQ_TAIL q && m.cqRoom q != 0
    && decide (m.get .QP_INFLIGHT q < m.get .QP_DEPTH q) && !(m.que.descs.any fun d => d.q == q && d.isFence)
    && m.isletRuns (islandOf q)

/-- A descriptor has been fetched. -/
def fetched (q : Nat) (bs : List Byte) : Act := .read fun m =>
  let h := m.get .QP_SQ_HEAD q
  .all [.prim (.que fun x => { x with
      descs := x.descs ++ [{ q := q, idx := h, seq := x.nextSeq, raw := bs }], nextSeq := x.nextSeq + 1 }),
    .set .QP_SQ_HEAD q ((h + 1) % m.sqSize q), .inc .QP_FETCHED q 1, qpCounts q, event (.queue (islandOf q)) 0x80 0 1]

/-- Take the line of a presented ring once it is answered. -/
def fetchTake (q : Nat) : Act := .read fun m =>
  match m.asked (.queue q) fetchTag 1 with
  | r :: _ => .when r.done (.seq (forget (.queue q) fetchTag 1)
      (match r.val with
        | some l => fetched q (lineBytes l)
        | none => qpFail q 1))
  | [] => .skip

/-- DESCRIPTOR_FETCH: from host memory with what it returned, or by `RD_CUR` from presented memory (R225, R240). -/
def descriptorFetch (q : Nat) (host : HostRead) : Act := .read fun m =>
  let o := m.get .QP_OWNER q
  .when (m.mayFetch q)
    (if m.flag .QP_SQ_HOST q then
      match m.hostBytes o 64 host with
      | some bs => fetched q bs
      | none => qpFail q 3
     else if (m.asked (.queue q) fetchTag 1).isEmpty then
      match m.ownerLine o (m.get .QP_SQ_BASE q + 64 * m.get .QP_SQ_HEAD q) with
      | some l => .seq (ask (.queue q) fetchTag l .rdCur id) (fetchTake q)
      | none => qpFail q 2
     else fetchTake q)

/-! ### Completions (R237, R239) -/

/-- The 16 bytes of a completion entry (Table 10.6). -/
def Mach.entry (m : Mach) (d : Desc) : List Byte :=
  List.flatten [(d.raw.drop 4).take 4, Bits.leBytes 2 d.idx, Bits.leBytes 2 (m.get .QP_SQ_HEAD d.q), Bits.leBytes 4 d.result,
    [BitVec.ofNat 8 d.status, BitVec.ofNat 8 d.detail, 0, BitVec.ofNat 8 (m.get .QP_CQ_PHASE d.q)]]

/-- The completion tail takes the next slot; the phase is inverted on each wrap (R237). -/
def cqAdvance (q : Nat) : Act := .read fun m =>
  let t := (m.get .QP_CQ_TAIL q + 1) % m.cqSize q
  .all [.set .QP_CQ_TAIL q t, .when (t == 0) (.set .QP_CQ_PHASE q (1 - m.get .QP_CQ_PHASE q))]

/-- A descriptor leaves the islet. -/
def dropDesc (d : Desc) : Act :=
  .all [forgetDesc d, .prim (.que fun x => { x with descs := x.descs.filter fun y => y.seq != d.seq }), qpCounts d.q]

/-- The entry is written: counted, and signalled (R239, R243). -/
def entryWritten (d : Desc) : Act :=
  .all [dropDesc d, .inc .QP_COMPLETED d.q 1, event (.queue (islandOf d.q)) 0x81 0 1, qpWritten d.q d.irq]

/-- The entry cannot be written: discarded, and the queue pair's own error (R239, R240). -/
def entryDiscarded (d : Desc) : Act := .all [dropDesc d, .inc .QP_COMPL_DISCARDED d.q 1, qpFail d.q 4]

/-- The step of a descriptor whose completion is on its way to a presented ring. -/
def phaseEntry : Nat := 9

/-- Take the answer to a completion written to presented memory. -/
def entryTake (d : Desc) : Act := .read fun m =>
  match m.descAsks d 3 with
  | r :: _ => .when r.done (if r.val.isSome then entryWritten d else entryDiscarded d)
  | [] => .skip

/-- DESCRIPTOR_COMPLETE: the entry of a descriptor whose last access is made (R237, R239, R241). `hostOk` is false when host memory
does not take the write. -/
def descriptorComplete (q idx : Nat) (hostOk : Bool) : Act := .read fun m =>
  .some? ((m.descAt q idx).filter fun d => d.done) fun d =>
    let o := m.get .QP_OWNER q
    let a := m.get .QP_CQ_BASE q + 16 * m.get .QP_CQ_TAIL q
    if d.phase = phaseEntry then entryTake d
    else if m.flag .QP_CQ_HOST q then
      (if hostOk && m.hostReach o then .all [.emit (.dmaWrite o a (m.entry d) false), cqAdvance q, entryWritten d]
       else entryDiscarded d)
    else match m.ownerLine o a with
      | none => entryDiscarded d
      | some l =>
        .all [setDesc d.seq fun d => { d with phase := phaseEntry },
          askWrite (.queue q) (d.tag0 3) l (some (lineWith (a % 64) (m.entry d))) (maskOf (a % 64) 16) 0 0,
          cqAdvance q, entryTake d]

/-! ### Meanings -/

/-- QP_ENABLE (R223). -/
def execQpEnable (q : Nat) (s : State) : Host.Outcome State Fault Refusal := s.act (qpEnable q)

/-- QP_DISABLE (R223). -/
def execQpDisable (q : Nat) (s : State) : Host.Outcome State Fault Refusal := s.act (qpDisable q)

/-- QP_DRAINED (R223). -/
def execQpDrained (q : Nat) (s : State) : Host.Outcome State Fault Refusal := s.act (qpDrained q)

/-- QP_CONTROL_PAGE_WRITE (R246). -/
def execQpControlPageWrite (ld q value : Nat) (s : State) : Host.Outcome State Fault Refusal :=
  s.act (qpControlPageWrite ld q value)

/-- DESCRIPTOR_FETCH (R242). -/
def execDescriptorFetch (q : Nat) (host : HostRead) (s : State) : Host.Outcome State Fault Refusal :=
  s.act (descriptorFetch q host)

/-- DESCRIPTOR_COMPLETE (R239). -/
def execDescriptorComplete (q idx : Nat) (hostOk : Bool) (s : State) : Host.Outcome State Fault Refusal :=
  s.act (descriptorComplete q idx hostOk)

/-- IRQ_COALESCE_TIMEOUT (R243). -/
def execIrqCoalesceTimeout (q : Nat) (s : State) : Host.Outcome State Fault Refusal := s.act (irqCoalesceTimeout q)

/-- BUS_MASTER_ENABLE_CLEAR (R240). -/
def execBusMasterEnableClear (owner : Nat) (s : State) : Host.Outcome State Fault Refusal := s.act (busMasterEnableClear owner)

/-- MSIX_VECTOR_UNMASK (R243). -/
def execMsixVectorUnmask (owner vec : Nat) (s : State) : Host.Outcome State Fault Refusal := s.act (msixVectorUnmask owner vec)

end Sys2Proof.Machine
end

