-- ==== Sys2Proof/Machine/Descriptors.lean ====
section
/-!
DEFINITION. What descriptors do (chapter "Queues, descriptors and bell lines", R230 to R238 and R241; chapter "Tiers, heat and
placement", R138 and R139; chapter "Soundings", R394, R395 and R397).
-/

namespace Sys2Proof.Machine

/-! ### Status codes (Table 10.7) -/

/-- COMPARE_DIFFER. -/
def stDiffer : Nat := 0x01
/-- PINNED. -/
def stPinned : Nat := 0x02
/-- OFFSHORE_FORBIDDEN. -/
def stForbidden : Nat := 0x03
/-- NO_PLOTS. -/
def stNoPlots : Nat := 0x04
/-- NO_PEER. -/
def stNoPeer : Nat := 0x05
/-- NOT_MIRRORED. -/
def stNotMirrored : Nat := 0x06
/-- PEER_DOWN. -/
def stPeerDown : Nat := 0x07
/-- ROTATE_REFUSED. -/
def stRotate : Nat := 0x08
/-- POISON. -/
def stPoison : Nat := 0x09
/-- DROPPED. -/
def stDropped : Nat := 0x0A
/-- MISALIGNED. -/
def stMisaligned : Nat := 0x0B
/-- MOVE_ABANDONED. -/
def stAbandoned : Nat := 0x0C
/-- INVALID_OPCODE. -/
def stOpcode : Nat := 0x10
/-- INVALID_FIELD. -/
def stField : Nat := 0x11
/-- UNMAPPED. -/
def stUnmapped : Nat := 0x12
/-- HOST_DMA_ERROR. -/
def stDma : Nat := 0x13
/-- ABORTED. -/
def stAborted : Nat := 0x14
/-- OVERLAP. -/
def stOverlap : Nat := 0x15
/-- NOT_PERMITTED. -/
def stNotPermitted : Nat := 0x16

/-! ### The checks before a descriptor starts (R230, R231) -/

/-- An opcode of Table 10.4. -/
def opKnown (op : Nat) : Bool :=
  [0, 1, 0x10, 0x11, 0x12, 0x13, 0x20, 0x21, 0x22, 0x23, 0x24, 0x25, 0x30, 0x40, 0x41, 0x50, 0x51].contains op

/-- Opcodes that act on a page range named by `DST` (Table 10.4). -/
def opPages (op : Nat) : Bool := [0x20, 0x21, 0x22, 0x23, 0x24, 0x25, 0x41].contains op

/-- Bytes of operands that an opcode uses (Table 10.4). -/
def opOperands : Nat → Nat
  | 0x11 => 8
  | 0x20 => 1
  | 0x21 => 1
  | 0x23 => 2
  | 0x40 => 1
  | 0x51 => 1
  | _ => 0

/-- A page range: 4 KiB-aligned, a non-zero multiple of 4 KiB (R231). -/
def pageRangeOk (addr len : Nat) : Bool := addr % 4096 == 0 && len % 4096 == 0 && decide (4096 ≤ len ∧ len ≤ 0x40000000)

/-- Reserved bytes and bits of the common layout, and operand bytes that the opcode does not use, are zero (R230). -/
def Desc.reservedOk (d : Desc) : Bool :=
  !Bits.bit (d.num 1 1) 3 && Bits.field (d.num 1 1) 6 2 == 0 && d.num 2 1 < 8 && d.num 3 1 == 0 && d.num 12 4 == 0
    && d.num (32 + opOperands d.op) (32 - opOperands d.op) == 0

/-- `LEN`, alignment, operands and the host bits of the opcode (Table 10.4, R230). -/
def Desc.fieldsOk (d : Desc) : Bool :=
  let bytes := decide (1 ≤ d.len ∧ d.len ≤ 0x40000000)
  match d.op with
  | 0x10 => bytes && !(d.srcHost && d.dstHost)
  | 0x11 => bytes
  | 0x12 => bytes && !d.dstHost
  | 0x13 => bytes && !(d.srcHost && d.dstHost)
  | 0x30 => decide (1 ≤ d.len ∧ d.len ≤ 4)
  | 0x40 => d.len == 0 && !d.dstHost && d.num 32 1 < 2
  | 0x50 => bytes && d.len % 32 == 0
  | 0x51 => !d.srcHost &&
    (match d.num 32 1 with
      | 0 => d.len == 0
      | 1 => pageRangeOk d.src d.len
      | _ => false)
  | 0x20 => pageRangeOk d.dst d.len && !d.dstHost && d.num 32 1 < 2
  | 0x21 => pageRangeOk d.dst d.len && !d.dstHost && d.num 32 1 < 2
  | 0x23 => pageRangeOk d.dst d.len && !d.dstHost && d.num 32 2 < 1024
  | op => if opPages op then pageRangeOk d.dst d.len && !d.dstHost else d.len == 0

/-- The service state, `QP_PRIV` or the Soundings conditions forbid the opcode (R234, R235, R397, Table 10.9). -/
def Mach.forbids (m : Mach) (d : Desc) : Bool :=
  let svc := m.get .ID_SVC_STATE
  match d.op with
  | 0x24 => svc == 3
  | 0x40 => svc == 3 || !m.flag .QP_PRIV d.q
  | 0x41 => svc == 3 || !m.flag .QP_PRIV d.q
  | 0x50 => decide (m.get .QP_OWNER d.q < 256) && !(m.flag .SND_USER_ENABLE && svc == 1)
  | _ => false

/-- The parts of global DPA that a range of an owner's addresses maps to, as first byte and length. -/
def Mach.segments (m : Mach) (owner addr len : Nat) : List (Nat × Nat) :=
  if owner < 256 then
    (m.ldViews owner).filterMap fun v =>
      let lo := max addr (m.viewBase v)
      let hi := min (addr + len) (m.viewBase v + m.viewBytes (m.get .VW_ATOLL v))
      if lo < hi then some (m.get .ATL_BASE (m.get .VW_ATOLL v) * 2 ^ 21 + (lo - m.viewBase v), hi - lo) else none
  else [(addr, len)]

/-- Source and destination of a COPY, both presented, overlap in global DPA (R232). -/
def Mach.copyOverlaps (m : Mach) (d : Desc) : Bool :=
  let o := m.get .QP_OWNER d.q
  d.op == 0x10 && !d.srcHost && !d.dstHost &&
    (m.segments o d.src d.len).any fun a => (m.segments o d.dst d.len).any fun b => a.1 < b.1 + b.2 && b.1 < a.1 + a.2

/-- The status with which a descriptor ends before it does anything; 0 when it may start (R230 to R235). -/
def Mach.startStatus (m : Mach) (d : Desc) : Nat :=
  if !opKnown d.op then stOpcode
  else if !(d.reservedOk && d.fieldsOk) then stField
  else if m.forbids d then stNotPermitted
  else if m.copyOverlaps d then stOverlap
  else 0

/-! ### Ends -/

/-- Note a failure: the first stands (R238). -/
def failDesc (seq st det : Nat) : Act :=
  setDesc seq fun d => if d.status = 0 then { d with status := st, detail := det } else d

/-- The last access of a descriptor is made; its operation is followed if it is tagged (R395). -/
def finishDesc (seq : Nat) : Act := .read fun m =>
  .seq (setDesc seq fun d => { d with done := true, phase := 0 })
    (.some? (m.descOf seq) fun d =>
      .seq (forgetDesc d)
        (tagOp (66 + islandOf d.q) d.op ((m.ownerLine (m.get .QP_OWNER d.q) d.dst).getD 0)
          ((m.ownerAtoll (m.get .QP_OWNER d.q) d.dst).getD 0) 0 [1, 6]))

/-- End with a failure. -/
def failEnd (seq st det : Nat) : Act := .seq (failDesc seq st det) (finishDesc seq)

/-! ### Data operations (R232) -/

/-- The side by whose address chunks are cut: the presented destination, or else the presented source. -/
def Desc.main (d : Desc) : Nat := if d.dstHost && (d.op == 0x10 || d.op == 0x13) then d.src else d.dst

/-- Bytes of the chunk at `pos`: up to the next 4 KiB boundary. -/
def Desc.chunk (d : Desc) : Nat := min (d.len - d.pos) (4096 - (d.main + d.pos) % 4096)

/-- The opcode reads a source. -/
def Desc.readsSrc (d : Desc) : Bool := d.op == 0x10 || d.op == 0x13

/-- The lines of a range in presented memory, up to the first that is unmapped, and the bytes that they cover. -/
def Mach.mapped (m : Mach) (owner addr n : Nat) : List (Piece × Nat) × Nat :=
  let good := ((piecesOf addr n).map fun p => (p, m.ownerLine owner (addr + p.at_))).takeWhile fun x => x.2.isSome
  (good.filterMap fun x => x.2.map fun l => (x.1, l), (good.map fun x => x.1.len).sum)

/-- Bytes of lines that have been read; none for those of a poisoned line. -/
def joinPieces (ps : List Piece) (vs : List LineVal) : List (Option Byte) :=
  (ps.zip vs).flatMap fun x =>
    match x.2 with
    | none => List.replicate x.1.len none
    | some l => (((lineBytes l).drop x.1.off).take x.1.len).map some

/-- Number the elements of a list. -/
def enum {α : Type} : Nat → List α → List (Nat × α)
  | _, [] => []
  | k, a :: l => (k, a) :: enum (k + 1) l

/-- Read the lines of a range for a descriptor, in a role. -/
def askReads (d : Desc) (role : Nat) (ls : List (Piece × Nat)) : Act :=
  .each (enum 0 ls) fun x => ask (.queue d.q) (d.tag0 role + x.1) x.2.2 .rdCur id

/-- The stop nearest the start of the chunk, of two. -/
def nearer (a b : Option (Nat × Nat × Nat)) : Option (Nat × Nat × Nat) :=
  match a, b with
  | none, y => y
  | x, none => x
  | some x, some y => if y.1 < x.1 then some y else some x

/-- A range of the chunk that stops short at an unmapped line. -/
def stopAt (n cut det : Nat) : Option (Nat × Nat × Nat) := if cut < n then some (cut, stUnmapped, det) else none

/-- Where the chunk stops for want of a mapping or of host memory to write (R238). -/
def Mach.chunkStop (m : Mach) (d : Desc) : Option (Nat × Nat × Nat) :=
  let o := m.get .QP_OWNER d.q
  let n := d.chunk
  nearer (if d.readsSrc && !d.srcHost then stopAt n (m.mapped o (d.src + d.pos) n).2 0 else none)
    (if !d.dstHost then stopAt n (m.mapped o (d.dst + d.pos) n).2 1
     else if d.op != 0x13 && !m.hostReach o then some (0, stDma, 1) else none)

/-- The bytes of one side of the chunk: from host memory, or from the lines read in a role; none when host memory fails. -/
def Mach.sideBytes (m : Mach) (d : Desc) (host : Bool) (addr role : Nat) (h : HostRead) : Option (List (Option Byte)) :=
  if host then (m.hostBytes (m.get .QP_OWNER d.q) d.chunk h).map fun bs => bs.map some
  else some (joinPieces (piecesOf (addr + d.pos) d.chunk) ((m.descAsks d role).map (·.val)))

/-- The bytes that FILL and ZERO write in the chunk. -/
def Desc.pattern (d : Desc) : List (Option Byte) :=
  (List.range d.chunk).map fun j => some (if d.op = 0x11 then (d.raw.getD (32 + (d.dst + d.pos + j) % 8) 0) else 0)

/-- Write one line of the destination, as far as the chunk goes: poison takes the line whole. -/
def writePiece (d : Desc) (k line : Nat) (p : Piece) (bs : List (Option Byte)) : Act :=
  let mine := (bs.drop p.at_).take p.len
  let bytes := mine.map fun b => b.getD 0
  .when (!mine.isEmpty)
    (askWrite (.queue d.q) (d.tag0 2 + k) line
      (if mine.any (·.isNone) then none else some (lineWith p.off bytes)) (maskOf p.off mine.length) d.place d.peer)

/-- Write the bytes of a chunk to the destination, line by line of the presented side (R232). -/
def writeChunk (d : Desc) (bs : List (Option Byte)) : Act := .read fun m =>
  let o := m.get .QP_OWNER d.q
  if d.dstHost then
    .each (piecesOf (d.main + d.pos) bs.length) fun p =>
      let mine := (bs.drop p.at_).take p.len
      .emit (.dmaWrite o (d.dst + d.pos + p.at_) (mine.map fun b => b.getD 0) (mine.any (·.isNone)))
  else .each (enum 0 (m.mapped o (d.dst + d.pos) bs.length).1) fun x => writePiece d x.1 x.2.2 x.2.1 bs

/-- The first byte of a chunk that came poisoned. -/
def poisonAt (bs : List (Option Byte)) : Option (Nat × Nat × Nat) :=
  (bs.findIdx? fun b => b.isNone).map fun j => (j, stPoison, 0)

/-- The end of a chunk of `done` bytes: the first failure is noted, and the descriptor goes on, stops, or ends ABORTED when its
queue pair drains (R223, R238). -/
def chunkEnd (d : Desc) (done : Nat) (fail : Option (Nat × Nat × Nat)) (stops : Bool) : Act := .read fun m =>
  let pos := d.pos + done
  .all [event (.queue (islandOf d.q)) 0x82 0 ((done + 63) / 64),
    .some? fail fun f => failDesc d.seq f.2.1 f.2.2,
    forgetDesc d, setDesc d.seq fun d => { d with pos := pos, result := pos, phase := 0, stop := none },
    if stops || decide (d.len ≤ pos) then finishDesc d.seq
    else .when (m.get .QP_STATE d.q == qpDraining)
      (.seq (setDesc d.seq fun d => { d with status := stAborted, detail := 0 }) (finishDesc d.seq))]

/-- Every line written has been accepted: the chunk ends. A write that was dropped is a failure that does not stop (R238). -/
def writesTake (d : Desc) (src : Option (Nat × Nat × Nat)) : Act := .read fun m =>
  let rs := m.descAsks d 2
  let done := match d.stop with | some x => x.1 | none => d.chunk
  let base := d.tag0 2
  let drop := (rs.find? fun r => r.val.isNone).map fun r =>
    (((piecesOf (d.dst + d.pos) d.chunk).getD (r.tag - base) ⟨0, 0, 0⟩).at_, stDropped, 1)
  .when (rs.all (·.done)) (chunkEnd d done (nearer (nearer src drop) d.stop) d.stop.isSome)

/-- The bytes of the chunk are at hand: they are written. -/
def startWrites (seq : Nat) (bs : List (Option Byte)) : Act := .read fun m =>
  .some? (m.descOf seq) fun d =>
    let cut := match d.stop with | some x => x.1 | none => d.chunk
    .all [setDesc seq fun d => { d with phase := 2 }, writeChunk d (bs.take cut),
      .read fun m => .some? (m.descOf seq) fun d => writesTake d (poisonAt (bs.take cut))]

/-- Host memory fails: the chunk stops at its start. -/
def hostStop (d : Desc) (det : Nat) : Act := chunkEnd d 0 (some (0, stDma, det)) true

/-- The first place where two lists of bytes differ; a poisoned byte differs. -/
def differAt (a b : List (Option Byte)) : Option Nat :=
  (a.zip b).findIdx? fun x => x.1.isNone || x.2.isNone || x.1 != x.2

/-- Both sides of a COMPARE are at hand (R232). -/
def compareChunk (d : Desc) (a b : List (Option Byte)) : Act :=
  let cut := match d.stop with | some x => x.1 | none => d.chunk
  match differAt (a.take cut) (b.take cut) with
  | some j => .all [event (.queue (islandOf d.q)) 0x82 0 ((j + 64) / 64), failDesc d.seq stDiffer 0,
      setDesc d.seq fun d => { d with result := d.pos + j }, finishDesc d.seq]
  | none => chunkEnd d cut d.stop d.stop.isSome

/-- The reads of a chunk are answered: its bytes are written or compared. -/
def readsTake (seq : Nat) (h : HostRead) : Act := .read fun m =>
  .some? (m.descOf seq) fun d =>
    .when (((m.descAsks d 0) ++ (m.descAsks d 1)).all (·.done))
      (match m.sideBytes d d.srcHost d.src 0 h with
        | none => hostStop d 0
        | some a =>
          if d.op = 0x13 then
            match m.sideBytes d d.dstHost d.dst 1 h with
            | none => hostStop d 1
            | some b => compareChunk d a b
          else startWrites seq a)

/-- One chunk of a data operation, from its start or from where it waits. -/
def dataStep (seq : Nat) (h : HostRead) : Act := .read fun m =>
  .some? (m.descOf seq) fun d =>
    let o := m.get .QP_OWNER d.q
    let n := d.chunk
    match d.phase with
    | 0 =>
      let stop := m.chunkStop d
      .seq (setDesc seq fun d => { d with stop := stop, phase := 1 })
        (if d.readsSrc then
          .all [.when (!d.srcHost) (askReads d 0 (m.mapped o (d.src + d.pos) n).1),
            .when (d.op == 0x13 && !d.dstHost) (askReads d 1 (m.mapped o (d.dst + d.pos) n).1),
            readsTake seq h]
         else startWrites seq d.pattern)
    | 1 => readsTake seq h
    | _ => writesTake d (poisonAt (joinPieces (piecesOf (d.src + d.pos) n) (if d.readsSrc && !d.srcHost then (m.descAsks d 0).map (·.val) else [])))

/-! ### Page operations (R138, R139, R235) -/

/-- What came of one page of a range: it is done, with what it adds to `RESULT`; it failed; or it waits, for the page's exchange
or to be looked at again. -/
inductive PageEnd where
  | ok (count : Nat)
  | fail (st : Nat)
  | wait (exchange : Bool)
  deriving DecidableEq, Repr

/-- A page that has never been written has no extent and codes 0 only (R93). -/
def PageRec.never (r : PageRec) : Bool := !r.written

/-- A move must wait: a lock, a flag, or a line in the write-back buffer (R139). -/
def Mach.moveWaits (m : Mach) (pn : Nat) : Bool := (m.page pn).rcd.busy || m.wbHolds pn

/-- Plots that a sink of the page needs. -/
def Mach.sinkNeed (m : Mach) (n pn : Nat) : Nat :=
  Bits.ceilDiv (grainTotal (codesFor (m.flag .ATL_COMP n) (m.storedPage n pn))) 16

/-- Move a page to a tier once, by sink, lift or recall (Table 6.4). A page never written is in its place. -/
def Mach.movePage (m : Mach) (n pn : Nat) (target : Tier) : PageEnd × Act :=
  let r := (m.page pn).rcd
  let h := homeIndex m.sled pn
  if r.tier = target ∨ r.never then (.ok 0, .skip)
  else if m.moveWaits pn then (.wait false, .skip)
  else if !m.dredgeable n then (.fail stAbandoned, .skip)
  else if m.epochEnd n pn then (.fail stAbandoned, epochStop pn)
  else match r.tier with
    | .offshore => (.wait true, startRecall pn)
    | .shallows =>
      let need := m.sinkNeed n pn
      if need = 0 ∨ (m.placeExtent h need (m.pageK n pn) (m.chanSet n)).isSome then (.ok 0, sink n pn)
      else (.fail stNoPlots, abandon pn)
    | _ =>
      if m.noNewPlots n pn then (.fail stNoPlots, .skip)
      else if (m.placeExtent h 16 (m.pageK n pn) (m.chanSet n)).isSome then (.ok 0, lift n pn .command)
      else if (m.chanSet n).any fun c => m.chanAlive c && m.flag .DRM_C_INSERVICE c then (.fail stNoPlots, .skip)
      else (.wait false, lift n pn .command)

/-- The tier that a tier byte names. -/
def tierOfByte (b : Nat) : Tier := if b = 1 then .deep else .shallows

/-- MOVE_TIER of a page: a pinned page is left (R139). -/
def Mach.moveTierPage (m : Mach) (n pn b : Nat) : PageEnd × Act :=
  if m.pinned n (m.page pn).rcd then (.fail stPinned, .skip) else m.movePage n pn (tierOfByte b)

/-- PIN of a page: refused where `ATL_PLACE` pins it to the other tier; the flag is set once the page is in place (Table 6.4,
R139). -/
def Mach.pinPage (m : Mach) (n pn b : Nat) : PageEnd × Act :=
  let other := m.get .ATL_PLACE n != 0 && m.pinTier n (m.page pn).rcd != some (tierOfByte b)
  if other then (.fail stPinned, .skip)
  else match m.movePage n pn (tierOfByte b) with
    | (.ok c, a) => (.ok c, .seq a (.rcd pn fun r => { r with pin := true, pinTier := b }))
    | x => x

/-- OFFSHORE_PUSH of a page (R131, R138). A page with nothing to send stays, and does not fail. -/
def Mach.pushPage (m : Mach) (n pn : Nat) : PageEnd × Act :=
  let r := (m.page pn).rcd
  if m.sled = .dx16 ∨ !m.flag .ATL_OFFSHORE n then (.fail stForbidden, .skip)
  else if r.tier = .offshore then (.ok 0, .skip)
  else if m.moveWaits pn then (.wait false, .skip)
  else if m.lagoonDirty pn then (.wait false, flushPage pn)
  else if !m.dredgeable n then (.fail stAbandoned, .skip)
  else if m.epochEnd n pn then (.fail stAbandoned, epochStop pn)
  else if grainTotal (codesFor (m.flag .ATL_COMP n) (m.storedPage n pn)) = 0 then (.ok 0, flushPage pn)
  else if (m.holders n pn []).isEmpty then (.fail stNoPeer, .skip)
  else (.wait true, startPush n pn)

/-- RECALL of a page: one that is not Offshore is left (Table 6.4). -/
def Mach.recallPage (m : Mach) (n pn : Nat) : PageEnd × Act :=
  let r := (m.page pn).rcd
  if r.tier ≠ .offshore then (.ok 0, .skip)
  else if r.busy then (.wait false, .skip)
  else if m.epochEnd n pn then (.fail stAbandoned, epochStop pn)
  else (.wait true, startRecall pn)

/-- MIRROR_SYNC of a page: sent when `MIRROR_DIRTY` is set, and counted once the partner has acknowledged it (R235). `sent` says
that it has been sent. -/
def Mach.syncPage (m : Mach) (n pn : Nat) (sent : Bool) : PageEnd × Act :=
  if m.get .ATL_MIRROR n = 0 then (.fail stNotMirrored, .skip)
  else if !(m.upLink (m.get .ATL_PARTNER n)).isSome then (.fail stPeerDown, .skip)
  else if !(m.page pn).rcd.mirrorDirty then (.ok (Bits.ofBool sent), .skip)
  else if (m.page pn).rcd.busy then (.wait false, .skip)
  else (.wait true, sendMirPage n pn (m.get .ATL_PARTNER n))

/-- One page of a descriptor's range (Table 6.4). The pages of a remote atoll are placed by their home, and are left. -/
def Mach.pageTurn (m : Mach) (d : Desc) : PageEnd × Act :=
  match m.ownerLine (m.get .QP_OWNER d.q) (d.dst + d.pos) with
  | none => (.fail stUnmapped, .skip)
  | some l =>
    let pn := pageOfLine l
    match m.atollOf pn with
    | none => (.fail stUnmapped, .skip)
    | some n =>
      if m.isRemote n then (if d.op = 0x41 then (.fail stNotMirrored, .skip) else (.ok 0, .skip))
      else match d.op with
        | 0x20 => m.moveTierPage n pn (d.num 32 1)
        | 0x21 => m.pinPage n pn (d.num 32 1)
        | 0x22 => (.ok 0, .rcd pn fun r => { r with pin := false })
        | 0x23 => (.ok 0, .rcd pn fun r => { r with count := d.num 32 2, stamp := m.get .TIER_PERIOD_NOW % 64 })
        | 0x24 => m.pushPage n pn
        | 0x25 => m.recallPage n pn
        | _ => m.syncPage n pn (d.phase == 1)

/-- The status of a page whose exchange failed. -/
def exchangeStatus : Nat → Nat
  | 1 => stNoPeer
  | 2 => stNoPlots
  | 5 => stPeerDown
  | _ => stAbandoned

/-- The page of a descriptor's place. -/
def Mach.descPage (m : Mach) (d : Desc) : Nat := ((m.ownerLine (m.get .QP_OWNER d.q) (d.dst + d.pos)).map pageOfLine).getD 0

/-- A page is done: on to the next. -/
def nextPage (seq count : Nat) : Act :=
  setDesc seq fun d => { d with pos := d.pos + 4096, result := d.result + count, waitRes := 0, phase := 0 }

/-- A page failed: counted in `RESULT` but for MIRROR_SYNC, which counts the pages sent (Table 10.4, R238). -/
def failPage (d : Desc) (st : Nat) : Act :=
  .seq (failDesc d.seq st 0) (nextPage d.seq (if d.op = 0x41 then 0 else 1))

/-- The pages of a range, from its place on, until one must be waited for. -/
def pageLoop (seq : Nat) : Nat → Act
  | 0 => .skip
  | k + 1 => .read fun m =>
    match m.descOf seq with
    | none => .skip
    | some d =>
      if d.len ≤ d.pos then finishDesc seq
      else if d.waitRes ≠ 0 then .seq (failPage d (exchangeStatus d.waitRes)) (pageLoop seq k)
      else match m.pageTurn d with
        | (.ok c, a) => .all [a, nextPage seq c, pageLoop seq k]
        | (.fail st, a) => .all [a, failPage d st, pageLoop seq k]
        | (.wait false, a) => a
        | (.wait true, a) =>
          .seq (setDesc seq fun d => { d with waitPn := some (m.descPage d), phase := if d.op = 0x41 then 1 else 0 }) a

/-- A page operation in its turn. -/
def pageStep (d : Desc) : Act := pageLoop d.seq (d.len / 4096 + 1)

/-! ### ATOMIC (R233) -/

/-- An operation of the list fails: the list stops, with its index. -/
def atomFail (d : Desc) (st : Nat) : Act := failEnd d.seq st d.pos

/-- The next operation, or the end of the list. -/
def atomNext (d : Desc) : Act := .read fun m =>
  .all [forgetDesc d, setDesc d.seq fun d => { d with pos := d.pos + 1, result := d.result + 1, phase := 0 },
    .when (decide (d.len ≤ d.pos + 1)) (finishDesc d.seq),
    .when (decide (d.pos + 1 < d.len) && m.get .QP_STATE d.q == qpDraining)
      (.seq (setDesc d.seq fun d => { d with status := stAborted, detail := 0 }) (finishDesc d.seq))]

/-- The old value that an atomic brought, zero-extended to 16 bytes. A peer's answer carries it at its start. -/
def Mach.oldValue (m : Mach) (r : RemReq) (off op : Nat) : List Byte :=
  let w := if op = 4 then 16 else 8
  (((valBytes r.val).drop (if r.home = m.self then off else 0)).take w ++ List.replicate 16 0).take 16

/-- The old value has been written back: the operation is performed. -/
def atomWritten (d : Desc) : Act := .read fun m =>
  let rs := m.descAsks d 2
  .when (rs.all (·.done)) (if rs.any (·.val.isNone) then atomFail d stDropped else atomNext d)

/-- The atomic is answered: its old value goes back into its entry. -/
def atomTake (d : Desc) (e : List Byte) : Act := .read fun m =>
  let o := m.get .QP_OWNER d.q
  let a := d.src + 64 * d.pos + 48
  match m.descAsks d 1 with
  | r :: _ => .when r.done
      (if r.val.isNone then atomFail d stPoison
       else
        let bs := m.oldValue r (Bits.leNat ((e.drop 8).take 8) % 64) (Bits.leNat (e.take 1))
        if d.srcHost then .seq (.emit (.dmaWrite o a bs false)) (atomNext d)
        else if (m.mapped o a 16).2 < 16 then atomFail d stUnmapped
        else .all [setDesc d.seq fun d => { d with phase := 3 },
          .each (enum 0 (m.mapped o a 16).1) fun x => writePiece d x.1 x.2.2 x.2.1 (bs.map some),
          atomWritten d])
  | [] => .skip

/-- An entry of the list is at hand: its operation is made (R194, R233). -/
def atomStart (d : Desc) (e : List Byte) : Act := .read fun m =>
  let op := Bits.leNat (e.take 1)
  let a := Bits.leNat ((e.drop 8).take 8)
  if op = 0 ∨ 6 < op ∨ Bits.leNat ((e.drop 1).take 7) ≠ 0 then atomFail d stField
  else if !atomOk op (a % 64) then atomFail d stMisaligned
  else match m.ownerLine (m.get .QP_OWNER d.q) a with
    | none => atomFail d stUnmapped
    | some l =>
      let w := if op = 4 then 16 else 8
      let f := fun (r : Req) => { r with op := op, off := a % 64, a := Bits.leNat ((e.drop 16).take w), b := Bits.leNat ((e.drop 32).take w) }
      .all [setDesc d.seq fun d => { d with phase := 2, stop := some (a % 64, op, 0) }, ask (.queue d.q) (d.tag0 1) l .atom f,
        atomTake d e]

/-- The lines of an entry are read. -/
def atomEntry (d : Desc) : Act := .read fun m =>
  let rs := m.descAsks d 0
  let bs := joinPieces (piecesOf (d.src + 64 * d.pos) 64) (rs.map (·.val))
  .when (rs.all (·.done))
    (if bs.any (·.isNone) then atomFail d stPoison else atomStart d (bs.map fun b => b.getD 0))

/-- The entry as far as a later step needs it: the operation code and the operand's offset. -/
def Desc.atomKept (d : Desc) : List Byte :=
  match d.stop with
  | some x => BitVec.ofNat 8 x.2.1 :: (List.replicate 7 0 ++ Bits.leBytes 8 x.1)
  | none => []

/-- ATOMIC in its turn: the operation at its place in the list. -/
def atomicStep (d : Desc) (h : HostRead) : Act := .read fun m =>
  let o := m.get .QP_OWNER d.q
  let a := d.src + 64 * d.pos
  match d.phase with
  | 0 =>
    if d.srcHost then
      match m.hostBytes o (64 * d.len) h with
      | none => atomFail d stDma
      | some bs => atomStart d ((bs.drop (64 * d.pos)).take 64)
    else if (m.mapped o a 64).2 < 64 then atomFail d stUnmapped
    else .all [setDesc d.seq fun d => { d with phase := 1 }, askReads d 0 (m.mapped o a 64).1, atomEntry d]
  | 1 => atomEntry d
  | 2 => atomTake d d.atomKept
  | _ => atomWritten d

/-! ### SEAL_ROTATE (R234) -/

/-- SEAL_ROTATE: starts the rotation, or completes with the reason; with `WAIT` it stays until the rotation is over. The step it
waits at is the atoll plus 1. -/
def rotateStep (d : Desc) : Act := .read fun m =>
  match d.phase with
  | 0 =>
    match m.ownerAtoll (m.get .QP_OWNER d.q) d.dst with
    | none => failEnd d.seq stUnmapped 1
    | some n =>
      let e := m.rotErr m.freeRot n
      if e ≠ 0 then failEnd d.seq stRotate e
      else .seq (.some? m.freeRot fun s => rotStart s n false)
        (if d.num 32 1 = 1 then setDesc d.seq fun d => { d with phase := n + 1 } else finishDesc d.seq)
  | k + 1 => .when (m.get .ATL_TDL_STATE k == 0) (finishDesc d.seq)

/-! ### Writing records out (R236) -/

/-- Every line of a record stream has been accepted. -/
def outTake (d : Desc) : Act := .read fun m =>
  let rs := m.descAsks d 2
  .when (rs.all (·.done))
    (.all [.when (rs.any (·.val.isNone)) (failDesc d.seq stDropped 1),
      .some? d.stop fun x => failDesc d.seq x.2.1 x.2.2, finishDesc d.seq])

/-- Bytes of a stream that its destination takes: all of it, or as far as it is mapped, or none of host memory out of reach. -/
def Mach.outRoom (m : Mach) (d : Desc) (n : Nat) : Nat :=
  let o := m.get .QP_OWNER d.q
  if d.dstHost then (if m.hostReach o then n else 0) else (m.mapped o d.dst n).2

/-- Write a stream to `DST`, with its `RESULT` and the failure that cuts it short. -/
def outWrite (d : Desc) (bs : List Byte) (result : Nat) (stop : Option (Nat × Nat × Nat)) : Act := .read fun m =>
  let o := m.get .QP_OWNER d.q
  .all [setDesc d.seq fun d => { d with phase := 2, result := result, stop := stop },
    if d.dstHost then .when (!bs.isEmpty) (.emit (.dmaWrite o d.dst bs false))
    else .each (enum 0 (m.mapped o d.dst bs.length).1) fun x => writePiece d x.1 x.2.2 x.2.1 (bs.map some),
    event (.queue (islandOf d.q)) 0x82 0 ((bs.length + 63) / 64),
    .read fun m => .some? (m.descOf d.seq) outTake]

/-- The failure of a destination that does not take a stream whole. -/
def Desc.outStop (d : Desc) (want room : Nat) : Option (Nat × Nat × Nat) :=
  if want ≤ room then none else some (room, if d.dstHost then stDma else stUnmapped, 1)

/-! ### SAMPLE_DRAIN (R236, R394, R395) -/

/-- The 32 bytes of a precise sample record (Table 19.4). -/
def SndRec.bytes (r : SndRec) : List Byte :=
  List.flatten [Bits.leBytes 8 r.time, Bits.leBytes 1 (r.head % 64), Bits.leBytes 1 r.ld, Bits.leBytes 1 r.op, Bits.leBytes 1 r.tier,
    Bits.leBytes 4 r.lat, Bits.leBytes 5 (r.line % 2 ^ 39), Bits.leBytes 2 (r.atoll % 4096), [0], Bits.leBytes 2 (r.flags % 1024),
    Bits.leBytes 1 (r.sampler % 16), [0], Bits.leBytes 3 r.seq, [1]]

/-- The 64 bytes of a tag record (Table 19.5). -/
def TagRec.bytes (r : TagRec) : List Byte :=
  List.flatten [Bits.leBytes 1 r.master, Bits.leBytes 1 r.kind, Bits.leBytes 1 r.stages.length, [0], Bits.leBytes 4 r.seq,
    Bits.leBytes 8 r.start, (List.range 6).flatMap fun j => Bits.leBytes 4 ((r.stages.map (·.2)).getD j 0),
    Bits.leBytes 5 r.addr, Bits.leBytes 2 r.atoll, Bits.leBytes 1 r.flags,
    (List.range 6).flatMap fun j => Bits.leBytes 1 ((r.stages.map (·.1)).getD j 0), List.replicate 9 0, [2]]

/-- A staged record of either kind. -/
inductive Staged where
  | sample (r : SndRec)
  | tag (r : TagRec)
  deriving DecidableEq, Repr

/-- The bytes of a staged record. -/
def Staged.bytes : Staged → List Byte
  | .sample r => r.bytes
  | .tag r => r.bytes

/-- What orders staged records: time, then sampler; tag records after the samples of their time. -/
def Staged.order : Staged → Nat × Nat
  | .sample r => (r.time, r.sampler)
  | .tag r => (r.start, 16)

/-- Insert a record after those that come before it or with it. -/
def insertStaged (x : Staged) : List Staged → List Staged
  | [] => [x]
  | y :: l => if x.order.1 < y.order.1 ∨ (x.order.1 = y.order.1 ∧ x.order.2 < y.order.2) then x :: y :: l
              else y :: insertStaged x l

/-- The records staged for an owner, oldest first: its samplers' and, for the management function, the tags (R394, R395). -/
def Mach.stagedFor (m : Mach) (o : Nat) : List Staged :=
  let own := (m.snd.samples.filter fun r => m.get .SND_S_OWNER r.sampler == o).map Staged.sample
  let tags := if o = ownMgmt then m.snd.tags.map Staged.tag else []
  (own ++ tags).foldl (fun l x => insertStaged x l) []

/-- The first records that fit in a number of bytes. -/
def fitting : Nat → List Staged → List Staged
  | _, [] => []
  | room, x :: l => if x.bytes.length ≤ room then x :: fitting (room - x.bytes.length) l else []

/-- Take a record out of its staging. -/
def unstage (x : Staged) : Act := .read fun m =>
  match x with
  | .sample r => .all [.prim (.snd fun z => { z with samples := z.samples.erase r }),
      .set .SND_S_HELD r.sampler (m.get .SND_S_HELD r.sampler - 1)]
  | .tag r => .prim (.snd fun z => { z with tags := z.tags.erase r })

/-- SAMPLE_DRAIN in its turn. -/
def drainStep (d : Desc) : Act := .read fun m =>
  if d.phase ≠ 0 then outTake d
  else
    let xs := fitting d.len (m.stagedFor (m.get .QP_OWNER d.q))
    let want := (xs.map fun x => x.bytes.length).sum
    let room := m.outRoom d want
    let go := fitting room xs
    .seq (.each go unstage) (outWrite d (go.flatMap Staged.bytes) go.length (d.outStop want room))

/-! ### STATS (R236) -/

/-- The tier of a page of which nothing is held (R140). -/
def Mach.freshTier (m : Mach) (n : Nat) : Tier := if m.pinTier n {} = some .deep then .deep else .shallows

/-- Pages of an atoll in a tier; a page never written counts in the tier that its placement gives it (R140). -/
def Mach.tierCount (m : Mach) (n : Nat) (f : Tier → Bool) : Nat :=
  let held := m.pages.filter fun p => m.inAtoll n p.1
  (held.filter fun p => f (m.tierOf n p.1)).length + (if f (m.freshTier n) then m.atollPages n - held.length else 0)

/-- The 64 bytes of the summary of an atoll (Table 10.5). -/
def Mach.summary (m : Mach) (n : Nat) : List Byte :=
  let ps := (m.pages.filter fun p => m.inAtoll n p.1 && p.2.rcd.written).map (·.2.rcd)
  let metas := ((List.range m.sled.homes).map fun h => m.metaHeld n h).sum
  [m.tierCount n (· == .shallows), m.tierCount n fun t => t == .deep || t == .lifting, m.tierCount n (· == .offshore),
   (ps.map (·.alloc)).sum, metas, (ps.map fun r => (r.size.filter (· == 7)).length).sum, m.atollPages n - ps.length,
   m.now].flatMap (Bits.leBytes 8)

/-- The 64-byte plaintext copy of a page's record (Table 4.7); a never-written page's tier is its placement's (R140). -/
def Mach.recordPlain (m : Mach) (n pn : Nat) : List Byte :=
  let r := { (m.page pn).rcd with tier := m.tierOf n pn }
  let mac := m.recordMac ((m.recordGa n pn).getD 0) { r with lock := false }
  Crypto.bytes (List.flatten [recordHead r, mac, List.replicate 4 0])

/-- STATS in mode 0: the summary of the atoll of the view that holds `SRC`. -/
def summaryStep (d : Desc) : Act := .read fun m =>
  if d.phase ≠ 0 then outTake d
  else match m.ownerAtoll (m.get .QP_OWNER d.q) d.src with
    | none => failEnd d.seq stUnmapped 0
    | some n =>
      let room := m.outRoom d 64
      outWrite d ((m.summary n).take room) (min 64 room) (d.outStop 64 room)

/-- STATS in mode 1: the records of a page range, up to the first page that is unmapped. -/
def recordsStep (d : Desc) : Act := .read fun m =>
  if d.phase ≠ 0 then outTake d
  else
    let o := m.get .QP_OWNER d.q
    let pages := ((List.range (d.len / 4096)).map fun j => m.ownerLine o (d.src + 4096 * j)).takeWhile (·.isSome)
    let bs := pages.flatMap fun x => match x with
      | some l => (match m.atollOf (pageOfLine l) with | some n => m.recordPlain n (pageOfLine l) | none => [])
      | none => []
    let room := m.outRoom d bs.length
    let short : Option (Nat × Nat × Nat) := if pages.length < d.len / 4096 then some (bs.length, stUnmapped, 0) else none
    outWrite d (bs.take room) (min bs.length room) (nearer (d.outStop bs.length room) short)

/-! ### Starting and running (R241, R242) -/

/-- A descriptor may start: every earlier one of its queue pair has started, and none of them is a FENCE; a FENCE waits until they
have left (R241). -/
def Mach.canStart (m : Mach) (d : Desc) : Bool :=
  let earlier := m.que.descs.filter fun e => e.q == d.q && e.seq < d.seq
  if d.isFence then earlier.isEmpty else earlier.all fun e => e.started && !e.isFence

/-- A descriptor can do something now. -/
def Mach.runnable (m : Mach) (d : Desc) : Bool :=
  !d.done && (d.started || m.canStart d) && d.waitPn.isNone && m.isletRuns (islandOf d.q)

/-- One turn of a descriptor that has started. -/
def turnDesc (d : Desc) (h : HostRead) : Act :=
  match d.op with
  | 0x10 | 0x11 | 0x12 | 0x13 => dataStep d.seq h
  | 0x30 => atomicStep d h
  | 0x40 => rotateStep d
  | 0x50 => drainStep d
  | 0x51 => if d.num 32 1 = 0 then summaryStep d else recordsStep d
  | op => if opPages op then pageStep d else finishDesc d.seq

/-- Start a descriptor if it has not, and give it one turn. -/
def runDesc (d : Desc) (h : HostRead) : Act := .read fun m =>
  if d.started then turnDesc d h
  else .seq (setDesc d.seq fun d => { d with started := true })
    (if m.startStatus d ≠ 0 then failEnd d.seq (m.startStatus d) 0 else turnDesc d h)

/-- A turn of the descriptor in flight at an index, when it is one of some opcodes. -/
def opTurn (q idx : Nat) (mine : Desc → Bool) (h : HostRead) : Act := .read fun m =>
  .some? ((m.descAt q idx).filter fun d => mine d && m.runnable d) fun d => runDesc d h

/-- The queue pair next in turn at a priority: the first active one after the last served, or the first of all. -/
def Mach.nextQp (m : Mach) (k prio : Nat) : Option Desc :=
  let c := m.que.descs.filter fun d => islandOf d.q == k && m.get .QP_PRIO d.q == prio && m.runnable d
  let last := (m.que.served.find? (4 * k + prio)).getD 0
  let least := fun (l : List Desc) => l.foldl (fun (b : Option Desc) d =>
    match b with | none => some d | some x => if d.q < x.q then some d else b) none
  match least (c.filter fun d => last ≤ d.q) with
  | some d => some d
  | none => least c

/-- DESCRIPTOR_TURN: one chunk or one descriptor of the queue pair whose turn it is: higher priority first, round-robin within one
(R242). -/
def descriptorTurn (k : Nat) (h : HostRead) : Act := .read fun m =>
  .some? ([3, 2, 1, 0].findSome? fun p => m.nextQp k p) fun d =>
    .seq (.prim (.que fun x => { x with served := x.served.put (4 * k + m.get .QP_PRIO d.q) (d.q + 1) })) (runDesc d h)

/-! ### Meanings -/

/-- DESCRIPTOR_TURN (R242). -/
def execDescriptorTurn (islet : Nat) (host : HostRead) (s : State) : Host.Outcome State Fault Refusal :=
  s.act (descriptorTurn islet host)

/-- NOP (R231). -/
def execNop (q idx : Nat) (s : State) : Host.Outcome State Fault Refusal := s.act (opTurn q idx (fun d => d.op == 0) .failed)

/-- FENCE (R241). -/
def execFence (q idx : Nat) (s : State) : Host.Outcome State Fault Refusal := s.act (opTurn q idx (fun d => d.op == 1) .failed)

/-- COPY (R232). -/
def execCopy (q idx : Nat) (host : HostRead) (s : State) : Host.Outcome State Fault Refusal :=
  s.act (opTurn q idx (fun d => d.op == 0x10) host)

/-- FILL (R232). -/
def execFill (q idx : Nat) (s : State) : Host.Outcome State Fault Refusal := s.act (opTurn q idx (fun d => d.op == 0x11) .failed)

/-- ZERO (R232). -/
def execZero (q idx : Nat) (s : State) : Host.Outcome State Fault Refusal := s.act (opTurn q idx (fun d => d.op == 0x12) .failed)

/-- COMPARE (R232). -/
def execCompare (q idx : Nat) (host : HostRead) (s : State) : Host.Outcome State Fault Refusal :=
  s.act (opTurn q idx (fun d => d.op == 0x13) host)

/-- MOVE_TIER (R138). -/
def execMoveTier (q idx : Nat) (s : State) : Host.Outcome State Fault Refusal :=
  s.act (opTurn q idx (fun d => d.op == 0x20) .failed)

/-- PIN (R138). -/
def execPin (q idx : Nat) (s : State) : Host.Outcome State Fault Refusal := s.act (opTurn q idx (fun d => d.op == 0x21) .failed)

/-- UNPIN (R138). -/
def execUnpin (q idx : Nat) (s : State) : Host.Outcome State Fault Refusal := s.act (opTurn q idx (fun d => d.op == 0x22) .failed)

/-- HINT_HEAT (R138). -/
def execHintHeat (q idx : Nat) (s : State) : Host.Outcome State Fault Refusal :=
  s.act (opTurn q idx (fun d => d.op == 0x23) .failed)

/-- OFFSHORE_PUSH (R138). -/
def execOffshorePush (q idx : Nat) (s : State) : Host.Outcome State Fault Refusal :=
  s.act (opTurn q idx (fun d => d.op == 0x24) .failed)

/-- RECALL (R138). -/
def execRecall (q idx : Nat) (s : State) : Host.Outcome State Fault Refusal := s.act (opTurn q idx (fun d => d.op == 0x25) .failed)

/-- ATOMIC (R233). -/
def execAtomic (q idx : Nat) (host : HostRead) (s : State) : Host.Outcome State Fault Refusal :=
  s.act (opTurn q idx (fun d => d.op == 0x30) host)

/-- SEAL_ROTATE (R234). -/
def execSealRotate (q idx : Nat) (s : State) : Host.Outcome State Fault Refusal :=
  s.act (opTurn q idx (fun d => d.op == 0x40) .failed)

/-- MIRROR_SYNC (R235). -/
def execMirrorSync (q idx : Nat) (s : State) : Host.Outcome State Fault Refusal :=
  s.act (opTurn q idx (fun d => d.op == 0x41) .failed)

/-- SAMPLE_DRAIN (R236). -/
def execSampleDrain (q idx : Nat) (s : State) : Host.Outcome State Fault Refusal :=
  s.act (opTurn q idx (fun d => d.op == 0x50) .failed)

/-- STATS in mode 0 (R236). -/
def execStatsSummary (q idx : Nat) (s : State) : Host.Outcome State Fault Refusal :=
  s.act (opTurn q idx (fun d => d.op == 0x51 && d.num 32 1 == 0) .failed)

/-- STATS in mode 1, and in a mode out of range (R236). -/
def execStatsRecords (q idx : Nat) (s : State) : Host.Outcome State Fault Refusal :=
  s.act (opTurn q idx (fun d => d.op == 0x51 && d.num 32 1 != 0) .failed)

/-- INVALID_OPCODE (R231). -/
def execInvalidOpcode (q idx : Nat) (s : State) : Host.Outcome State Fault Refusal :=
  s.act (opTurn q idx (fun d => !opKnown d.op) .failed)

end Sys2Proof.Machine
end

