-- ==== Sys2Proof/Machine/Ferry.lean ====
section
/-!
DEFINITION. The Ferry port (chapter "The Ferry port"): cursors, ranges and bursts. The end of a burst stands in Agents.lean.
-/

namespace Sys2Proof.Machine

/-- The fields of a port, of the LD's control page or of the slot, by the port's number. -/
def ferryGet (m : Mach) (k : Nat) (ld slot : Fld) : Nat := m.get (portFld k ld slot).1 (portFld k ld slot).2

/-- Write a field of a port. -/
def ferrySet (k : Nat) (ld slot : Fld) (v : Nat) : Act := .set (portFld k ld slot).1 (portFld k ld slot).2 v

/-- The owner whose addresses a port uses: its LD, or the target of its slot (R249). -/
def Mach.portOwner (m : Mach) (k : Nat) : Nat := if k < 256 then k else m.get .FRY_M_TARGET (k - 256)

/-- The range that a cursor lies in: its first address, its end, and the view, or 2^20 plus the atoll of a global DPA (R249). -/
def Mach.rangeAt (m : Mach) (owner c : Nat) : Option (Nat × Nat × Nat) :=
  if owner < 256 then
    match (m.ldViews owner).find? fun v => m.inView v c with
    | none => none
    | some v =>
      let n := m.get .VW_ATOLL v
      if m.isBell n then none else some (m.viewBase v, m.viewBase v + m.viewBytes n, v)
  else match m.atollOf (c / 4096) with
    | none => none
    | some n =>
      if m.isBell n || m.get .ATL_STATE n != atlLive then none
      else some (m.atollPage n * 4096, (m.atollPage n + m.atollPages n) * 4096, 2 ^ 20 + n)

/-- Write a cursor, and fix its range (R249). -/
def setCursor (k v : Nat) : Act := .read fun m =>
  .seq (ferrySet k .FRY_CURSOR .FRY_M_CURSOR v)
    (.prim (.fry fun f => { f with ranges := match m.rangeAt (m.portOwner k) v with
      | some r => f.ranges.put k r
      | none => f.ranges.erase k }))

/-- The service states in which a port serves (R254). -/
def Mach.portServes (m : Mach) (k : Nat) : Bool :=
  let svc := m.get .ID_SVC_STATE
  svc == 1 || svc == 3 || (decide (256 ≤ k) && svc == 2)

/-- Why a burst of a span is refused, as a bit of `FRY_ERR`: the service state, no range, or the end of the range (R250, R254). -/
def Mach.burstErr (m : Mach) (k n : Nat) : Option Nat :=
  let c := ferryGet m k .FRY_CURSOR .FRY_M_CURSOR
  if !m.portServes k then some 4
  else match m.fry.ranges.find? k with
    | none => some 1
    | some r => if r.2.1 < c + n then some 0 else none

/-- A burst is refused whole: its bit, and its count (R250). -/
def burstRefuse (k bit : Nat) : Act :=
  .seq (portErr k bit) (.inc (portFld k .FRY_REJECTS .FRY_M_REJECTS).1 (portFld k .FRY_REJECTS .FRY_M_REJECTS).2 1)

/-- A burst is taken: the cursor and the count of its direction advance in the same step, and its lines are awaited (R250,
R252). -/
def burstTake (w : FerryPort) (k : Nat) (write : Bool) (n lines : Nat) : Act := .read fun m =>
  let c := ferryGet m k .FRY_CURSOR .FRY_M_CURSOR
  let cnt := if write then portFld k .FRY_WR_BYTES .FRY_M_WR_BYTES else portFld k .FRY_RD_BYTES .FRY_M_RD_BYTES
  .all [ferrySet k .FRY_CURSOR .FRY_M_CURSOR (c + n), .inc cnt.1 cnt.2 n,
    .prim (.fry fun f => { f with bursts := f.bursts ++ [⟨w, f.nextId, write, n, c % 64, lines⟩], nextId := f.nextId + 1 })]

/-- A line of a burst that is unmapped: read as poison, or its write dropped (R253). -/
def unmappedLine (w : FerryPort) (tag : Nat) : Act := .read fun m =>
  noteAsk { txid := 2 ^ 32, home := m.self, line := 0, agent := .ferry w, tag := tag, done := true, failed := true }

/-- The span of a write burst: from its first enabled byte to its last (R248). -/
def burstSpan (data : List Byte) (en : List Bool) : List (Byte × Bool) :=
  (((data.zip en).dropWhile fun x => !x.2).reverse.dropWhile fun x => !x.2).reverse

/-- The mask of the enabled bytes of a piece, from its place in the line. -/
def enableMask (off : Nat) (bs : List (Byte × Bool)) : Nat :=
  ((List.range bs.length).map fun j => if (bs.getD j (0, false)).2 then 2 ^ (off + j) else 0).sum

/-- The pieces of a burst with at least one enabled byte: line requests of it. -/
def writePieces (c : Nat) (bs : List (Byte × Bool)) : List (Piece × List (Byte × Bool)) :=
  ((piecesOf c bs.length).map fun p => (p, (bs.drop p.at_).take p.len)).filter fun x => x.2.any (·.2)

/-- The line requests of a write burst, in address order (R252). -/
def burstWrite (w : FerryPort) (k id c : Nat) (bs : List (Byte × Bool)) : Act :=
  .each (enum 0 (writePieces c bs)) fun x => .read fun m =>
    let p := x.2.1
    match m.ownerLine (m.portOwner k) (c + p.at_) with
    | none => unmappedLine w (id * askSpan + x.1)
    | some l => askWrite (.ferry w) (id * askSpan + x.1) l (some (lineWith p.off (x.2.2.map (·.1)))) (enableMask p.off x.2.2)
        (ferryGet m k .FRY_PLACE .FRY_M_PLACE) (ferryGet m k .FRY_PEER .FRY_M_PEER)

/-- The line requests of a read burst. -/
def burstRead (w : FerryPort) (k id c n : Nat) : Act :=
  .each (enum 0 (piecesOf c n)) fun x => .read fun m =>
    match m.ownerLine (m.portOwner k) (c + x.2.at_) with
    | none => unmappedLine w (id * askSpan + x.1)
    | some l => ask (.ferry w) (id * askSpan + x.1) l .rdCur fun r => r

/-- A burst on a port whose slot or page is there. -/
def burst (w : FerryPort) (k : Nat) (wr : Option (List (Byte × Bool))) (len : Nat) : Act := .read fun m =>
  let n := match wr with | some bs => bs.length | none => len
  let c := ferryGet m k .FRY_CURSOR .FRY_M_CURSOR
  let id := m.fry.nextId
  let mctp := decide (256 ≤ k)
  match m.burstErr k n with
  | some e => .seq (burstRefuse k e) (.when (wr.isNone || mctp) (portReply w 1 []))
  | none =>
    match wr with
    | some bs => .all [burstTake w k true n (writePieces c bs).length, .when mctp (portReply w 0 []), burstWrite w k id c bs, settle w]
    | none => .all [burstTake w k false n (piecesOf c n).length, burstRead w k id c n, settle w]

/-- The number of bytes of an access over MCTP to the data aperture (R248). -/
def mctpLenOk (n : Nat) : Bool := n % 4 == 0 && decide (4 ≤ n ∧ n ≤ 256)

/-- A burst reaches its port: of an LD that its head presents, or of a slot over MCTP, which is one MCTP access (R247, R248). -/
def ferryBurst (w : FerryPort) (wr : Option (List (Byte × Bool))) (len : Nat) : Act :=
  match w with
  | .ld n => accept n false (burst w n wr len)
  | .mctp e => .read fun m =>
    .all [event .pilot 0xA1 0 1,
      if m.ebbing then .emit (.mctp e 0x81 [])
      else if !mctpLenOk len then .emit (.mctp e 0x83 [])
      else match m.ferrySlot e with
        | none => .emit (.mctp e 0x80 [])
        | some s => .seq (event .pilot 0xA2 0 1) (burst w (256 + s) wr len)]

/-- FERRY_WRITE_BURST. A burst without an enabled byte has no span, and does nothing. -/
def ferryWriteBurst (w : FerryPort) (data : List Byte) (en : List Bool) : Act :=
  let bs := burstSpan data en
  .when (!bs.isEmpty) (ferryBurst w (some bs) data.length)

/-- FERRY_CURSOR_WRITE: fewer than 8 bytes on an LD's page are ignored and counted (R256); on a slot they replace the low bytes of
the cursor. -/
def ferryCursorWrite (w : FerryPort) (v size : Nat) : Act := .read fun m =>
  match w with
  | .ld n => accept n false (if size < 8 then .inc .FRY_REJECTS n 1 else setCursor n (v % 2 ^ 64))
  | .mctp e => .some? (m.ferrySlot e) fun s =>
      setCursor (256 + s) (Bits.setField (m.get .FRY_M_CURSOR s) 0 (8 * min size 8) v % 2 ^ 64)

/-- FERRY_MGMT_ACCESS: the management function reads zero in the MCTP data aperture, and is counted (R247). -/
def ferryMgmtAccess (write : Bool) : Act :=
  .seq (.inc .FRY_MGMT_IGNORED 0 1) (.when (!write) (.emit (.setupRead 0x470000 0)))

/-- FERRY_ATOMICOP: Unsupported Request (R248). -/
def ferryAtomicop (ld tag : Nat) : Act := accept ld false (.seq (responded ld) (.emit (.completion ld tag 1 [])))

/-- Fields of an LD's control page (Table 11.2). -/
def ferryPage : List Fld := [.FRY_CURSOR, .FRY_PLACE, .FRY_PEER, .FRY_ERR, .FRY_WR_BYTES, .FRY_RD_BYTES, .FRY_REJECTS]

/-- Fields of a slot (Table 11.3). -/
def ferrySlots : List Fld :=
  [.FRY_M_EID, .FRY_M_VALID, .FRY_M_TARGET, .FRY_M_CURSOR, .FRY_M_PLACE, .FRY_M_PEER, .FRY_M_ERR, .FRY_M_WR_BYTES, .FRY_M_RD_BYTES,
   .FRY_M_REJECTS]

/-- The control page of an LD returns to reset (Table 11.1). -/
def ferryReset (ld : Nat) : Act :=
  .seq (.each ferryPage fun f => .set f ld 0) (.prim (.fry fun f => { f with ranges := f.ranges.erase ld }))

/-- The LD ceases to exist: its page reads zero, and slots that target it have no range (Table 11.1). -/
def ferryLdGone (ld : Nat) : Act := .read fun m =>
  .seq (ferryReset ld)
    (.each ((List.range 8).filter fun s => m.get .FRY_M_TARGET s == ld) fun s =>
      .prim (.fry fun f => { f with ranges := f.ranges.erase (256 + s) }))

/-! ### Meanings -/

/-- FERRY_WRITE_BURST (R248, R250). -/
def execFerryWriteBurst (w : FerryPort) (data : List Byte) (enables : List Bool) (s : State) : Host.Outcome State Fault Refusal :=
  s.act (ferryWriteBurst w data enables)

/-- FERRY_READ_BURST (R248, R250). -/
def execFerryReadBurst (w : FerryPort) (len : Nat) (s : State) : Host.Outcome State Fault Refusal :=
  s.act (ferryBurst w none len)

/-- FERRY_CURSOR_WRITE (R249). -/
def execFerryCursorWrite (w : FerryPort) (value size : Nat) (s : State) : Host.Outcome State Fault Refusal :=
  s.act (ferryCursorWrite w value size)

/-- FERRY_MGMT_ACCESS (R247). -/
def execFerryMgmtAccess (write : Bool) (s : State) : Host.Outcome State Fault Refusal := s.act (ferryMgmtAccess write)

/-- FERRY_ATOMICOP (R248). -/
def execFerryAtomicop (ld tag : Nat) (s : State) : Host.Outcome State Fault Refusal := s.act (ferryAtomicop ld tag)

end Sys2Proof.Machine
end

