-- ==== Sys2Proof/Machine/HostPorts.lean ====
section
/-!
DEFINITION. Host ports (chapter "Host ports and CXL"): port groups, heads, LDs, the management head, links that come up and go down,
resets, and IDE (R168).
-/

namespace Sys2Proof.Machine

/-! ### Writes of the HBR block (R221) -/

/-- A write that the chapter refuses. -/
def hbrRefused : Act := .set .HBR_WR_REFUSED 0 1

/-- A write that is applied. -/
def hbrDone (a : Act) : Act := .seq (.set .HBR_WR_REFUSED 0 0) a

/-- An RWL field is locked against a change (R472). -/
def Mach.locked (m : Mach) (f : Fld) (i v : Nat) : Bool := m.flag .SETUP_LOCK && m.get f i != v

/-! ### Port groups (R201, R202, R213, R430) -/

/-- Lanes of a head under its group's bifurcation in effect (Table 9.1); 0 of a head that does not exist. -/
def Mach.headLanes (m : Mach) (h : Nat) : Nat :=
  if m.sled.heads ≤ h ∨ !(m.groupHeads (h / 4)).contains h then 0
  else match (m.host.bifur.find? (h / 4)).getD 0 with
    | 0 => 16
    | 1 => 8
    | _ => 4

/-- `HBR_GRP_COMMON` follows the reserves of the heads that exist (R213). -/
def commonUpdate (g : Nat) : Act := .read fun m => .set .HBR_GRP_COMMON g (m.commonUnits g)

/-- An LD is named by a valid or closing view. -/
def Mach.ldViewed (m : Mach) (ld : Nat) : Bool :=
  !(m.ldViews ld).isEmpty || (m.idxs .VW_CLOSING).any fun v => m.flag .VW_CLOSING v && m.get .VW_LD v == ld

/-- A group's bifurcation may not change: the group is enabled, or an LD on a head of it is viewed (R202). -/
def Mach.bifurHeld (m : Mach) (g : Nat) : Bool :=
  m.flag .HBR_GRP_EN g || (List.range 4).any fun q => (m.headLds (4 * g + q)).any m.ldViewed

/-- HBR_GRP_BIFUR_WRITE: refused while the group is enabled or viewed, or for the reserved code; it acts at the next enable
(R202). -/
def hbrGrpBifurWrite (g v : Nat) : Act := .read fun m =>
  .when (decide (g < m.sled.groups))
    (if m.bifurHeld g || decide (3 ≤ v) then hbrRefused else hbrDone (.set .HBR_GRP_BIFUR g v))

/-- Reserves of the heads that exist in a group, with one head's at a new value (R213). -/
def Mach.reserveSum (m : Mach) (h v : Nat) : Nat :=
  ((m.groupHeads (h / 4)).map fun x => if x = h then v else m.get .HBR_HEAD_RESV x).sum

/-- HBR_HEAD_RESV_WRITE: refused when the reserves of the heads that exist would exceed 32 units (R213). -/
def hbrHeadResvWrite (h v : Nat) : Act := .read fun m =>
  let g := h / 4
  let v := v % 64
  .when (decide (h < m.sled.heads))
    (if 32 < m.reserveSum h v then hbrRefused else hbrDone (.seq (.set .HBR_HEAD_RESV h v) (commonUpdate g)))

/-! ### LDs (R208, R209) -/

/-- LDs that name a head after a write of one entry, with their LD-IDs. -/
def Mach.ldsAfter (m : Mach) (n : Nat) (valid : Bool) (head ldid h : Nat) : List Nat :=
  ((m.headLds h).filter (· != n)).map (m.get .HBR_LD_ID ·) ++ (if valid ∧ head = h then [ldid] else [])

/-- The LD-IDs on a head obey R208 and R209: each used once, one LD at LD-ID 0, at most 16, and on the management head 15 with
LD-ID 15 left free. -/
def Mach.headRule (m : Mach) (h : Nat) (ids : List Nat) : Bool :=
  let mg := m.get .HBR_MGMT_HEAD == h
  ids.dedup.length == ids.length && (ids.length != 1 || ids == [0]) && decide (ids.length ≤ if mg then 15 else 16)
    && !(mg && ids.contains 15)

/-- A write of an LD's entry breaks a rule of R208, or the LD is viewed or owns a queue pair that is not Disabled. -/
def Mach.ldRefused (m : Mach) (n : Nat) (valid : Bool) (head ldid : Nat) : Bool :=
  let ok := fun (h : Nat) => m.headRule h (m.ldsAfter n valid head ldid h)
  let busy := m.ldViewed n || (m.idxs .QP_STATE).any fun q => m.get .QP_OWNER q == n && m.get .QP_STATE q != qpDisabled
  busy || !ok (m.get .HBR_LD_HEAD n) || !ok head || decide (m.sled.heads ≤ head ∨ 16 ≤ ldid)

/-- HBR_LD_WRITE (R208). -/
def hbrLdWrite (n : Nat) (valid : Bool) (head ldid : Nat) : Act := .read fun m =>
  .when (decide (n < m.sled.lds))
    (if m.ldRefused n valid head ldid then hbrRefused
     else hbrDone (.all [.when (m.flag .HBR_LD_VALID n && !valid) (ferryLdGone n),
       .set .HBR_LD_VALID n (Bits.ofBool valid), .set .HBR_LD_HEAD n head, .set .HBR_LD_ID n ldid]))

/-- A head that may not be the management head: absent, with 16 LDs, or with LD-ID 15 in use (R209). -/
def Mach.mgmtHeadBad (m : Mach) (h : Nat) : Bool :=
  let ids := (m.headLds h).map (m.get .HBR_LD_ID ·)
  decide (m.sled.heads ≤ h) || decide (16 ≤ ids.length) || ids.contains 15

/-- HBR_MGMT_HEAD_WRITE: refused when locked, or for a head that may not carry the function (R209, R472). -/
def hbrMgmtHeadWrite (h : Nat) : Act := .read fun m =>
  if m.locked .HBR_MGMT_HEAD 0 h || m.mgmtHeadBad h then hbrRefused
  else hbrDone (.set .HBR_MGMT_HEAD 0 h)

/-! ### A link or an LD goes away (R218, R219, Table 9.6) -/

/-- Requests of some LDs of a head complete inside the sled: writes are applied, and nobody is answered (Table 9.6). -/
def orphanReqs (h : Nat) (ldp : Nat → Bool) : Act := .read fun m =>
  let mine := fun (r : Req) => match r.src with | .head ld _ => m.headOf ld == h && ldp ld | _ => false
  let fix := fun (r : Req) => if mine r then orphan r else r
  let stays := fun (r : Req) => !mine r || r.kind.isWrite
  let far := fun (r : RemReq) => match r.agent with | .head ld _ => m.headOf ld == h && ldp ld | _ => false
  let leave := fun (r : RemReq) => if far r then { r with agent := .self, tag := orphanTag } else r
  let vis := fun (e : VisEnt) => { e with waits := (e.waits.filter stays).map fix, keepReqs := e.keepReqs.map fix,
                                          loc := e.loc.map fix }
  .all [.inc .HBR_HEAD_DISCARDS h (((m.openReqs h).filter mine).length + (m.dir.remote.filter far).length),
    .prim (.lines fun l => { l with
      txns := l.txns.map fun t => { t with req := fix t.req }
      waits := (l.waits.filter fun w => stays w.req).map fun w => { w with req := fix w.req } }),
    .prim (.dir fun d => { d with vis := d.vis.map (fun p => (p.1, vis p.2)), remote := d.remote.map leave })]

/-- An LD is reset: its queue pairs drain, its Ferry page and its MSI-X state return to reset (Table 9.6, Table 10.9,
Table 11.1). -/
def ldReset (ld : Nat) : Act :=
  .all [ownerDrain ld, ferryReset ld,
    .prim (.host fun h => { h with msixMasked := h.msixMasked.filter (·.1 != ld), msixPending := h.msixPending.filter (·.1 != ld) })]

/-- MGMT_LINK_DOWN: commands in progress complete, their responses discarded; the management function's queue pairs drain. -/
def mgmtLinkDown : Act :=
  .all [.mbox ownMgmt fun b => { b with bgDone := true },
    ownerDrain ownMgmt,
    .prim (.host fun h => { h with msixMasked := h.msixMasked.filter (·.1 != ownMgmt),
                                   msixPending := h.msixPending.filter (·.1 != ownMgmt) })]

/-- The status word of a head that is down (R207). LTSSM states are numbered in the order of their sections in PCIe Base 6.x
(log entry 25). -/
def headDown (h : Nat) : Act :=
  .each [Fld.HBR_HEAD_WIDTH, .HBR_HEAD_RATE, .HBR_HEAD_FLIT, .HBR_HEAD_IDE, .HBR_HEAD_L0P, .HBR_HEAD_LTSSM, .HBR_HEAD_LDS,
    .HBR_HEAD_OCCUPANCY] fun f => .set f h 0

/-- A head's link goes down (Table 9.6). -/
def linkGone (h : Nat) : Act := .read fun m =>
  let shown := (m.host.ldShown.filter fun p => p.2 == h + 1).map (·.1)
  .all [orphanReqs h fun _ => true, loseHead h, headDown h, .each shown ldReset,
    .prim (.host fun x => { x with ldShown := List.filter (fun p => p.2 != h + 1) x.ldShown, ide := x.ide.erase h }),
    .when (m.host.mgmtHeadNow == h) mgmtLinkDown]

/-- LINK_DOWN: of a head that is up. -/
def linkDown (h : Nat) : Act := .read fun m => .when (m.get .HBR_HEAD_WIDTH h != 0) (linkGone h)

/-- Lines on which an entry records a head of whose LDs only one views the atoll. -/
def Mach.soleLines (m : Mach) (h ld : Nat) : List Nat :=
  (m.headLines h).filter fun line => match m.atollOf (pageOfLine line) with
    | some n => (m.snoopLds n h).all (· == ld)
    | none => true

/-- FLR of an LD: as a link down for its requests and its part of the directory (Table 9.6). A line that another LD of the head may
hold keeps the head. -/
def flr (ld : Nat) : Act := .read fun m =>
  let h := m.headOf ld
  .when (m.ldUp ld false)
    (.all [orphanReqs h (· == ld), answerBisnps h (· == ld), .each (m.soleLines h ld) fun line => loseLine line (.head h) none,
      ldReset ld])

/-! ### A link comes up, retrains, or changes width (R205 to R207) -/

/-- The head status word at +0x08 (Table 9.7). -/
def Mach.headWord (m : Mach) (h : Nat) : Nat :=
  m.get .HBR_HEAD_WIDTH h + 2 ^ 8 * m.get .HBR_HEAD_RATE h + 2 ^ 12 * m.get .HBR_HEAD_FLIT h + 2 ^ 14 * m.get .HBR_HEAD_IDE h
    + 2 ^ 16 * m.get .HBR_HEAD_L0P h + 2 ^ 24 * m.get .HBR_HEAD_LTSSM h + 2 ^ 32 * m.get .HBR_HEAD_LDS h

/-- LTSSM numbers used here: Detect, Recovery and L0 (log entry 25). -/
def ltRecovery : Nat := 3
/-- L0. -/
def ltL0 : Nat := 4

/-- A head may enter L0 in a mode: it exists, its group is enabled and powered, and the mode is one that it offers (Table 9.2,
R205). -/
def Mach.mayEnter (m : Mach) (h width rate flit : Nat) : Bool :=
  let g := h / 4
  decide (width ∈ [1, 2, 4, 8, 16] ∧ width ≤ m.headLanes h ∧ rate ≤ m.get .HBR_GRP_MAXRATE g ∧ rate ≤ 5 ∧ flit ≤ 2)
    && !(flit == 1 && rate == 5) && m.flag .HBR_GRP_EN g && m.flag .HBR_GRP_POWERED g && !m.bkw.isolated.contains (2, h)

/-- No head: the management function is presented by none. -/
def noHead : Nat := 255

/-- A link that was down is up: the head presents the LDs that name it, and the management function when it names the head
(R205, R208, R209). Bus Master Enable is taken as set from then on (log entry 24). -/
def linkUp (h flit : Nat) : Act := .read fun m =>
  let lds := if flit = 0 then [] else m.headLds h
  let mg := m.get .HBR_MGMT_HEAD == h
  let owners := lds ++ (if mg then [ownMgmt] else [])
  .all [.prim (.host fun x => { x with
      ldShown := lds.foldl (fun s n => s.put n (h + 1)) (List.filter (fun p => p.2 != h + 1) x.ldShown)
      mgmtHeadNow := if mg then h else if x.mgmtHeadNow = h then noHead else x.mgmtHeadNow
      bmeOff := x.bmeOff.filter fun o => !owners.contains o }),
    .set .HBR_HEAD_LDS h owners.length]

/-- The mode a head has settled in is recorded, and one below its configuration raises the source of R207. -/
def settled (h : Nat) : Act := .read fun m =>
  .when (decide (m.get .HBR_HEAD_WIDTH h < m.headLanes h ∨ m.get .HBR_HEAD_RATE h < m.get .HBR_GRP_MAXRATE (h / 4)))
    (.seq (raise (srcId 0x02 h 1) 0 (m.headWord h)) (evAdd ownMgmt .info .settled [h, m.headWord h]))

/-- HEAD_ENTER_L0: from training, or back from Recovery (R205, R207). -/
def headEnterL0 (h width rate flit : Nat) : Act := .read fun m =>
  let up := m.get .HBR_HEAD_WIDTH h != 0
  let fl := if up then m.get .HBR_HEAD_FLIT h else flit
  .when (m.mayEnter h width rate fl)
    (.all [.set .HBR_HEAD_WIDTH h width, .set .HBR_HEAD_RATE h rate, .set .HBR_HEAD_FLIT h fl, .set .HBR_HEAD_L0P h width,
      .set .HBR_HEAD_LTSSM h ltL0, .when (!up) (linkUp h fl), settled h])

/-- HEAD_RETRAIN: into Recovery, from which HEAD_ENTER_L0 returns; or a width of L0p, at the sled's own initiative only when
`HBR_HEAD_L0P_AUTO` is 1 (R206). -/
def headRetrain (h : Nat) (c : RetrainCause) : Act := .read fun m =>
  let l0p := fun (n : Nat) => Act.when (decide (1 ≤ n ∧ n ≤ m.get .HBR_HEAD_WIDTH h)) (.set .HBR_HEAD_L0P h n)
  .when (m.get .HBR_HEAD_WIDTH h != 0)
    (match c with
      | .l0p n => l0p n
      | .sledL0p n => .when (m.flag .HBR_HEAD_L0P_AUTO h) (l0p n)
      | _ => .seq (.inc .HBR_HEAD_RETRAINS h 1) (.set .HBR_HEAD_LTSSM h ltRecovery))

/-- HBR_GRP_EN_WRITE: 0 takes the group's links down once their requests have completed, and its domain's power; 1 powers it up
with the bifurcation written last (R202, R430). -/
def hbrGrpEnWrite (g : Nat) (v : Bool) : Act := .read fun m =>
  .when (decide (g < m.sled.groups))
    (hbrDone
      (if v then
        .all [.set .HBR_GRP_EN g 1, .set .HBR_GRP_POWERED g 1,
          .when (!m.flag .HBR_GRP_EN g) (.prim (.host fun x => { x with bifur := x.bifur.set g 0 (m.get .HBR_GRP_BIFUR g) })),
          commonUpdate g]
       else
        .all [.each (m.groupHeads g) linkDown, .set .HBR_GRP_EN g 0, .set .HBR_GRP_POWERED g 0]))

/-! ### IDE (R168) -/

/-- The IDE bits of a head. -/
def Mach.ideBits (m : Mach) (h : Nat) : Nat := (m.host.ide.find? h).getD 0

/-- Set the IDE bits of a head; `HBR_HEAD_IDE` is 1 while CXL.cachemem IDE is active (R207). -/
def setIde (h bits : Nat) (active : Bool) : Act :=
  .seq (.prim (.host fun x => { x with ide := x.ide.set h 0 bits })) (.set .HBR_HEAD_IDE h (Bits.ofBool active))

/-- IDE_KM: queries, key programming, and the start and stop of the streams. The message codes are those of PCIe and CXL IDE_KM
(log entry 9); a start without a key is not made. -/
def ideKm (h : Nat) (op : IdeOp) : Act := .read fun m =>
  let b := m.ideBits h
  let on := m.flag .HBR_HEAD_IDE h
  let ack := fun (st : Nat) => Act.emit (.mgmtRsp 3 0x06 [h, st])
  .when (m.get .HBR_HEAD_WIDTH h != 0)
    (match op with
      | .query => .emit (.mgmtRsp 3 0x01 [h, m.headLanes h, b])
      | .keyProg cxl skid =>
        if cxl && m.get .HBR_HEAD_FLIT h == 0 then .emit (.mgmtRsp 3 0x03 [h, 3])
        else .seq (setIde h (if cxl then withBit (withBit b 0 true) 1 skid else withBit b 2 true) on) (.emit (.mgmtRsp 3 0x03 [h, 0]))
      | .setGo cxl =>
        if cxl then (if Bits.bit b 0 then .seq (setIde h b true) (ack 0) else ack 4)
        else (if Bits.bit b 2 then .seq (setIde h (withBit b 3 true) on) (ack 0) else ack 4)
      | .setStop cxl => .seq (if cxl then setIde h b false else setIde h (withBit b 3 false) on) (ack 0)
      | .other => .skip)

/-! ### Meanings -/

/-- HBR_GRP_BIFUR_WRITE (R202). -/
def execHbrGrpBifurWrite (g v : Nat) (s : State) : Host.Outcome State Fault Refusal := s.act (hbrGrpBifurWrite g v)

/-- HBR_GRP_EN_WRITE (R430). -/
def execHbrGrpEnWrite (g : Nat) (v : Bool) (s : State) : Host.Outcome State Fault Refusal := s.act (hbrGrpEnWrite g v)

/-- HBR_LD_WRITE (R208). -/
def execHbrLdWrite (n : Nat) (valid : Bool) (head ldid : Nat) (s : State) : Host.Outcome State Fault Refusal :=
  s.act (hbrLdWrite n valid head ldid)

/-- HBR_MGMT_HEAD_WRITE (R209). -/
def execHbrMgmtHeadWrite (h : Nat) (s : State) : Host.Outcome State Fault Refusal := s.act (hbrMgmtHeadWrite h)

/-- HBR_HEAD_RESV_WRITE (R213). -/
def execHbrHeadResvWrite (h v : Nat) (s : State) : Host.Outcome State Fault Refusal := s.act (hbrHeadResvWrite h v)

/-- HEAD_ENTER_L0 (R207). -/
def execHeadEnterL0 (h width rate flit : Nat) (s : State) : Host.Outcome State Fault Refusal := s.act (headEnterL0 h width rate flit)

/-- HEAD_RETRAIN (R206). -/
def execHeadRetrain (h : Nat) (cause : RetrainCause) (s : State) : Host.Outcome State Fault Refusal := s.act (headRetrain h cause)

/-- LINK_DOWN (R218). -/
def execLinkDown (h : Nat) (s : State) : Host.Outcome State Fault Refusal := s.act (linkDown h)

/-- FLR (R218). -/
def execFlr (ld : Nat) (s : State) : Host.Outcome State Fault Refusal := s.act (flr ld)

/-- CXL_RESET (R218). -/
def execCxlReset (ld : Nat) (s : State) : Host.Outcome State Fault Refusal := s.act (flr ld)

/-- MGMT_LINK_DOWN (R218). -/
def execMgmtLinkDown (s : State) : Host.Outcome State Fault Refusal := s.act mgmtLinkDown

/-- IDE_KM (R168). -/
def execIdeKm (h : Nat) (op : IdeOp) (s : State) : Host.Outcome State Fault Refusal := s.act (ideKm h op)

end Sys2Proof.Machine
end

