-- ==== Sys2Proof/Machine/Mailbox.lean ====
section
/-!
DEFINITION. The mailbox commands and the FM API (section "Mailbox commands" of the chapter "Host ports and CXL"; firmware under R438 to R441).
Payloads are lists of numbers in the order that each definition gives (log entry 27).
-/

namespace Sys2Proof.Machine

/-! ### Return codes (CXL 3.1; log entry 9) -/

/-- Success. -/
def rcSuccess : Nat := 0x0000
/-- Background Command Started. -/
def rcBackground : Nat := 0x0001
/-- Invalid Input. -/
def rcInvalidInput : Nat := 0x0002
/-- Unsupported. -/
def rcUnsupported : Nat := 0x0003
/-- Busy. -/
def rcBusy : Nat := 0x0006
/-- FW Verification Failed. -/
def rcFwVerify : Nat := 0x000A
/-- Invalid Slot. -/
def rcInvalidSlot : Nat := 0x000B
/-- Activation Failed, FW Rolled Back. -/
def rcFwRolledBack : Nat := 0x000C
/-- Invalid Handle. -/
def rcInvalidHandle : Nat := 0x000E
/-- Invalid Physical Address. -/
def rcInvalidAddress : Nat := 0x000F
/-- Invalid Log. -/
def rcInvalidLog : Nat := 0x0017

/-! ### Who is served (R214, R434, R435, R439) -/

/-- The owner whose state a mailbox keeps. -/
def mbOwner : Mbox → Nat
  | .ld n => n
  | .mgmt => ownMgmt
  | .fmapi => ownFm

/-- A mailbox can be reached: its LD or the management function is presented on a head that is up, or the core answers MCTP
(R208, R209, R426). -/
def Mach.mbReach (m : Mach) (mb : Mbox) : Bool :=
  !m.ebbing && (match mb with
    | .ld n => m.ldUp n false
    | .mgmt => m.get .HBR_HEAD_WIDTH m.host.mgmtHeadNow != 0
    | .fmapi => true)

/-- Mailboxes serve from the end of step 3 (R434, R435). -/
def Mach.mbReady (m : Mach) (mb : Mbox) : Bool := m.mbReach mb && decide (4 ≤ m.get .ID_BOOT_STEP)

/-- Answer a command. -/
def mbAnswer (mb : Mbox) (op code : Nat) (pl : List Nat) : Act := .emit (.mailbox mb op code pl)

/-- Opcodes of Table 9.3 that every CXL mailbox serves. -/
def opsBoth : List Nat :=
  [0x0001, 0x0002, 0x0003, 0x0100, 0x0101, 0x0102, 0x0103, 0x0300, 0x0301, 0x0400, 0x0401, 0x0500, 0x0501, 0x0502]

/-- Opcodes that a mailbox serves (Table 9.3, Table 9.4, R209). -/
def mbOps : Mbox → List Nat
  | .ld _ => opsBoth ++ [0x4000, 0x4100, 0x4300, 0x4301, 0x4302, 0x4303, 0x4304, 0x4305, 0x4800, 0x4801, 0x4802, 0x4803]
  | .mgmt => opsBoth ++ [0x0200, 0x0201, 0x0202] ++ fmOps
  | .fmapi => fmOps
where
  /-- Opcodes of Table 9.4 that are supported. -/
  fmOps : List Nat := [0x5400, 0x5401, 0x5402, 0x5403, 0x5405, 0x5500, 0x5501, 0x5600, 0x5601, 0x5603, 0x5605]

/-- A command of a mailbox that serves it; elsewhere it is Unsupported (R214). -/
def mbCmd (mb : Mbox) (op : Nat) (a : Act) : Act := .read fun m =>
  .when (m.mbReady mb) (if (mbOps mb).contains op then a else mbAnswer mb op rcUnsupported [])

/-- A command that only an LD mailbox serves; those that need memory are Busy before Memory Active (R435). -/
def ldCmd (mb : Mbox) (op : Nat) (f : Nat → Act) : Act := mbCmd mb op (.read fun m =>
  match mb with
  | .ld n => if decide (0x4000 ≤ op) && !m.flag .ID_MEM_ACTIVE then mbAnswer mb op rcBusy [] else f n
  | _ => mbAnswer mb op rcUnsupported [])

/-- A command of the FM API (Table 9.4). -/
def fmCmd (op : Nat) (a : Act) : Act := mbCmd .fmapi op a

/-- A value of the manual that is open, answered after the given numbers (log entry 4). -/
def answerFree (mb : Mbox) (op : Nat) (pl : List Nat) (w : Nat) : Act :=
  .free fun v => mbAnswer mb op rcSuccess (pl ++ [v.toNat % 2 ^ w])

/-! ### Identity, progress, time (Table 9.3) -/

/-- IDENTIFY: vendor, device and identity word (R437). -/
def identify (mb : Mbox) : Act := mbCmd mb 0x0001 (.read fun m =>
  mbAnswer mb 0x0001 rcSuccess [m.get .ID_PCI_VENDOR, m.get .ID_PCI_DEVICE, m.get .ID_IDENT])

/-- BACKGROUND_OPERATION_STATUS: percent done, opcode and return code of the last background command. A background command of the
model is done when its command has run (log entry 28). -/
def backgroundStatus (mb : Mbox) : Act := mbCmd mb 0x0002 (.read fun m =>
  let b := m.mbox (mbOwner mb)
  mbAnswer mb 0x0002 rcSuccess [if b.bgDone then 100 else 0, b.bgOp, b.bgCode])

/-- GET_RESPONSE_MESSAGE_LIMIT: 1 MiB, as a power of two. -/
def responseLimit (mb : Mbox) : Act := mbCmd mb 0x0003 (mbAnswer mb 0x0003 rcSuccess [20])

/-- GET_TIMESTAMP. -/
def getTimestamp (mb : Mbox) : Act := mbCmd mb 0x0300 (.read fun m => mbAnswer mb 0x0300 rcSuccess [m.stamp (mbOwner mb)])

/-- SET_TIMESTAMP: sets the mailbox's offset from Reef time. -/
def setTimestamp (mb : Mbox) (t : Nat) : Act := mbCmd mb 0x0301 (.read fun m =>
  .seq (.mbox (mbOwner mb) fun b => { b with tsSet := t % 2 ^ 64, tsAt := m.now }) (mbAnswer mb 0x0301 rcSuccess []))

/-! ### Event records (R215) -/

/-- A mailbox has a log: an LD all five, the management function those other than Dynamic Capacity (R209, R210). -/
def hasLog (mb : Mbox) (l : EvLog) : Bool :=
  match mb, l with
  | .ld _, _ => true
  | _, .dcd => false
  | _, _ => true

/-- Place of an event kind in a payload (log entry 27). -/
def EvKind.code : EvKind → Nat
  | .level => 0
  | .regions => 1
  | .settled => 2
  | .keyNeeded => 3
  | .forwarded => 4
  | .fenced => 5
  | .media => 6
  | .addCapacity => 7
  | .releaseCapacity => 8
  | .forcedRelease => 9

/-- GET_EVENT_RECORDS: the overflow flag, count, first and last times, the number of records, and the records: handle, timestamp,
kind, and fields with their number. -/
def getEvents (mb : Mbox) (l : EvLog) : Act := mbCmd mb 0x0100 (.read fun m =>
  let e := m.evLog (mbOwner mb) l
  if hasLog mb l then
    mbAnswer mb 0x0100 rcSuccess ([Bits.ofBool e.overflow, e.lost, e.firstLost, e.lastLost, e.recs.length]
      ++ e.recs.flatMap fun r => [r.handle, r.time, r.kind.code, r.fields.length] ++ r.fields)
  else mbAnswer mb 0x0100 rcInvalidInput [])

/-- CLEAR_EVENT_RECORDS: every record, or those named by handle; a handle that no record has is refused and nothing is
cleared. Freed space ends the overflow (log entry 9). -/
def clearEvents (mb : Mbox) (l : EvLog) (all_ : Bool) (hs : List Nat) : Act := mbCmd mb 0x0101 (.read fun m =>
  let e := m.evLog (mbOwner mb) l
  let have_ := fun (h : Nat) => e.recs.any fun r => r.handle == h
  let rest := if all_ then [] else e.recs.filter fun r => !hs.contains r.handle
  if !hasLog mb l then mbAnswer mb 0x0101 rcInvalidInput []
  else if !all_ && !hs.all have_ then mbAnswer mb 0x0101 rcInvalidHandle []
  else .seq (.evLog (mbOwner mb) l fun x => if rest.length < e.recs.length then { recs := rest } else x)
    (mbAnswer mb 0x0101 rcSuccess []))

/-- GET_EVENT_INTERRUPT_POLICY: one word a log in the order of Table 9.5: mode in bits [1:0], 1 for MSI-X, and the vector in bits [7:4]. -/
def getPolicy (mb : Mbox) : Act := mbCmd mb 0x0102 (.read fun m =>
  mbAnswer mb 0x0102 rcSuccess ((List.range (if hasLog mb .dcd then 5 else 4)).map fun i => (m.mbox (mbOwner mb)).policy.getD i 0))

/-- SET_EVENT_INTERRUPT_POLICY: interrupts are MSI-X only (Table 9.3). -/
def setPolicy (mb : Mbox) (pol : List Nat) : Act := mbCmd mb 0x0103 (
  if decide (5 < pol.length) || pol.any (fun p => decide (1 < p % 4)) then mbAnswer mb 0x0103 rcInvalidInput []
  else .seq (.mbox (mbOwner mb) fun b => { b with policy := pol.map (· % 256) }) (mbAnswer mb 0x0103 rcSuccess []))

/-! ### Firmware (R438 to R441) -/

/-- The image of slot 1 (A) or 2 (B): what was transferred, or the image shipped, which the fuses accept (log entry 29). -/
def Mach.fwSlot (m : Mach) (k : Nat) : FwImage :=
  (m.fw.slots.find? k).getD { signed := true, digestOk := true, svn := Config.svnFused.toNat % 64, version := 0, pkg := none }

/-- The ROM accepts an image (R438). -/
def Mach.fwAccepts (m : Mach) (i : FwImage) : Bool := i.signed && i.digestOk && decide (m.get .ID_SVN_FUSED ≤ i.svn)

/-- A firmware command: on the management function, and from the ROM's loader also over MCTP (R439, R440). -/
def fwCmd (mb : Mbox) (op : Nat) (a : Act) : Act := .read fun m =>
  if m.fw.loader then
    match mb with
    | .ld _ => .skip
    | _ => .when (m.mbReach mb) a
  else mbCmd mb op a

/-- GET_FW_INFO: three slots, the active slot, whether online activation is offered, and the version of each slot (R440). -/
def getFwInfo (mb : Mbox) : Act := fwCmd mb 0x0200 (.read fun m =>
  mbAnswer mb 0x0200 rcSuccess [3, m.fw.active, 1, (m.fwSlot 1).version, (m.fwSlot 2).version,
    (m.fw.staged.map (·.version)).getD 0])

/-- Slot 3 is refused while `SETUP_LOCK` is set (R441). -/
def Mach.slotOpen (m : Mach) (k : Nat) : Bool := k == 1 || k == 2 || (k == 3 && !m.flag .SETUP_LOCK)

/-- TRANSFER_FW: into a slot that is not active; slot 3 takes a package of up to 64 KiB (R440, R441). -/
def transferFw (mb : Mbox) (k : Nat) (i : FwImage) : Act := fwCmd mb 0x0201 (.read fun m =>
  if !m.slotOpen k || k == m.fw.active then mbAnswer mb 0x0201 rcInvalidSlot []
  else if k = 3 then
    if i.pkg.any fun p => decide (p.bytes ≤ 65536) then
      .seq (.prim (.fw fun f => { f with staged := some i })) (mbAnswer mb 0x0201 rcSuccess [])
    else mbAnswer mb 0x0201 rcInvalidInput []
  else .seq (.prim (.fw fun f => { f with slots := f.slots.put k { i with pkg := none } })) (mbAnswer mb 0x0201 rcSuccess []))

/-- An activation is refused while a takeover, a clear of the log or an Ebb transition runs (R440). Another activation cannot run:
each is one command. -/
def Mach.activateBusy (m : Mach) : Bool := m.flag .BKW_TAKEOVER_BUSY || m.flag .LHL_CLEARING || m.ebbing

/-- The role table takes effect at once (R441, R446). -/
def rolesNow (roles : List (Nat × Nat)) : Act :=
  .each (List.range 8) fun k =>
    let r := roles.getD k (0, 0)
    .all [.set .ID_ROLE_DIGEST (2 * k) (r.1 % 2 ^ 64), .set .ID_ROLE_DIGEST (2 * k + 1) (r.1 / 2 ^ 64 % 2 ^ 64),
      .set .ID_ROLE_BITS k (r.2 % 8)]

/-- Activate the configuration package: written to MRAM, in force at the next Reef power-on reset but for the roles (R441). -/
def activateCfg (mb : Mbox) : Act := .read fun m =>
  match m.fw.staged.bind (·.pkg) with
  | none => mbAnswer mb 0x0202 rcInvalidSlot []
  | some p =>
    if !p.crcOk then mbAnswer mb 0x0202 rcFwVerify []
    else .all [.prim (.fw fun f => { f with cfg := some p, selector := p.selector % 2 }), rolesNow p.roles,
      mbAnswer mb 0x0202 rcSuccess []]

/-- Activate an image (R440): verified, then run, with the boot selector rewritten once its self-check is done; a failed self-check
leaves the former image. A start that waited in the loader goes on from step 4 (R439). -/
def activateImage (mb : Mbox) (k : Nat) (ok : Bool) : Act := .read fun m =>
  let i := m.fwSlot k
  if !m.fwAccepts i then mbAnswer mb 0x0202 rcFwVerify []
  else if !ok then mbAnswer mb 0x0202 rcFwRolledBack []
  else .all [.prim (.fw fun f => { f with active := k, selector := k - 1, loader := false }),
    .set .ID_BOOT_FALLBACK 0 0,
    .when m.fw.loader (.all [.set .ID_BOOT_ERR 0 0, .set .ID_BOOT_SLOT 0 (k - 1), .set .ID_BOOT_STEP 0 4]),
    mbAnswer mb 0x0202 rcSuccess []]

/-- ACTIVATE_FW: the online action only (R440). -/
def activateFw (mb : Mbox) (k : Nat) (online ok : Bool) : Act := fwCmd mb 0x0202 (.read fun m =>
  if !online then mbAnswer mb 0x0202 rcUnsupported []
  else if m.activateBusy then mbAnswer mb 0x0202 rcBusy []
  else if !m.slotOpen k then mbAnswer mb 0x0202 rcInvalidSlot []
  else if k = 3 then activateCfg mb
  else activateImage mb k ok)

/-! ### Logs and features (Table 9.3, R383) -/

/-- Bytes of the Lighthouse log from an offset (R383). -/
def Mach.lhBytes (m : Mach) (off len : Nat) : List Byte :=
  (List.range (len / 64)).flatMap fun j => m.lhSlot (off / 64 + j)

/-- The Command Effects Log: each opcode with its effects, which the manual does not give (log entry 4). -/
def celBytes (ops : List Nat) (k : List Byte → Act) : Act :=
  match ops with
  | [] => k []
  | o :: os => .free fun v => celBytes os fun rest => k (Bits.leBytes 2 o ++ Bits.leBytes 2 (v.toNat % 2 ^ 16) ++ rest)

/-- GET_SUPPORTED_LOGS: each log's place and size: 0 the CEL, 1 the Command Effects Log, 2 the Lighthouse log. -/
def supportedLogs (mb : Mbox) : Act := mbCmd mb 0x0400 (.read fun m =>
  let n := 4 * (mbOps mb).length
  mbAnswer mb 0x0400 rcSuccess ([0, n, 1, n] ++ (if mb = .mgmt then [2, 64 * m.get .LHL_COUNT] else [])))

/-- GET_LOG: bytes of a log; the Lighthouse log on the management function, in records of 64 bytes (R383). -/
def getLog (mb : Mbox) (l : LogId) (off len : Nat) : Act := mbCmd mb 0x0401 (.read fun m =>
  let out := fun (bs : List Byte) => mbAnswer mb 0x0401 rcSuccess (bs.map (·.toNat))
  if 2 ^ 20 < len then mbAnswer mb 0x0401 rcInvalidInput []
  else match l with
    | .lighthouse =>
      if mb ≠ .mgmt then mbAnswer mb 0x0401 rcInvalidLog []
      else if off % 64 ≠ 0 ∨ len % 64 ≠ 0 then mbAnswer mb 0x0401 rcInvalidInput []
      else out (m.lhBytes off len)
    | .other => mbAnswer mb 0x0401 rcInvalidLog []
    | _ =>
      if 4 * (mbOps mb).length < off + len then mbAnswer mb 0x0401 rcInvalidInput []
      else celBytes (mbOps mb) fun bs => out ((bs.drop off).take len))

/-- The value of a feature. -/
def Mach.feature (m : Mach) (k : Nat) : Nat := (m.host.features.find? k).getD (Config.featureReset k).toNat

/-- GET_SUPPORTED_FEATURES: the manual lists none (log entry 4). -/
def supportedFeatures (mb : Mbox) : Act := mbCmd mb 0x0500 (mbAnswer mb 0x0500 rcSuccess Config.features)

/-- GET_FEATURE. -/
def getFeature (mb : Mbox) (k : Nat) : Act := mbCmd mb 0x0501 (.read fun m =>
  if Config.features.contains k then mbAnswer mb 0x0501 rcSuccess [m.feature k] else mbAnswer mb 0x0501 rcInvalidInput [])

/-- SET_FEATURE: none is settable through an LD mailbox (Table 9.3). -/
def setFeature (mb : Mbox) (k v : Nat) : Act := mbCmd mb 0x0502 (
  match mb with
  | .ld _ => mbAnswer mb 0x0502 rcUnsupported []
  | _ =>
    if Config.features.contains k then
      .seq (.prim (.host fun h => { h with features := h.features.put k v })) (mbAnswer mb 0x0502 rcSuccess [])
    else mbAnswer mb 0x0502 rcInvalidInput [])

/-! ### Memory (R211, R214, R216) -/

/-- IDENTIFY_MEMORY_DEVICE: total, volatile and persistent capacity in 256 MiB units, partition alignment, poison list size. -/
def identifyMemory (mb : Mbox) : Act := ldCmd mb 0x4000 fun n => .read fun m =>
  let c := m.get .HBR_LD_CAP n
  mbAnswer mb 0x4000 rcSuccess [c, c, 0, 0, 4096]

/-- GET_PARTITION_INFO: volatile and persistent capacity, now and next. -/
def partitionInfo (mb : Mbox) : Act := ldCmd mb 0x4100 fun n => .read fun m =>
  mbAnswer mb 0x4100 rcSuccess [m.get .HBR_LD_CAP n, 0, m.get .HBR_LD_CAP n, 0]

/-- Lines with size code 7 on pages that a home's index names, and lines held poisoned in a Lagoon (R216). A line that a full write has
replaced, and that is not written back yet, is off the list (R62). -/
def Mach.poisonedLines (m : Mach) : List Nat :=
  let stored := (m.pages.filter fun p => m.host.poisoned.contains p.1).flatMap fun p =>
    ((List.range 64).filter fun i => p.2.rcd.size.getD i 0 == 7).map fun i => p.1 * 64 + i
  ((stored.filter fun l => (m.cached l).all (·.isNone)) ++ (m.lines.lagoon.filter fun p => p.2.val.isNone).map (·.1)).dedup

/-- LD DPAs of lines within a range of an LD's DPA, in increasing address. -/
def Mach.dpasIn (m : Mach) (n dpa len : Nat) (lines : List Nat) : List Nat :=
  (((lines.flatMap fun l => m.ldDpas n (l * 64)).filter fun d => dpa ≤ d && d < dpa + len).dedup).insertionSort (· ≤ ·)

/-- GET_POISON_LIST: the Overflow flag with the time at which an index first filled, and the lines' LD DPAs (R216). -/
def poisonList (mb : Mbox) (dpa len : Nat) : Act := ldCmd mb 0x4300 fun n => .read fun m =>
  let full := m.host.poisonFull.map (·.2)
  mbAnswer mb 0x4300 rcSuccess ([Bits.ofBool (!full.isEmpty), full.foldl min (full.headD 0)] ++ m.dpasIn n dpa len m.poisonedLines)

/-- The line of an LD DPA outside Bell atolls. -/
def Mach.mbLine (m : Mach) (n dpa : Nat) : Option Mapped := (m.decode n dpa).filter fun x => !m.isBell x.atoll

/-- INJECT_POISON: the stored line is marked as a decode error marks it (Table 9.3, R88, R479). -/
def injectPoison (mb : Mbox) (dpa : Nat) : Act := ldCmd mb 0x4301 fun n => .read fun m =>
  if !m.flag .HBR_INJECT_EN then mbAnswer mb 0x4301 rcUnsupported []
  else match (m.mbLine n dpa).filter fun x => (m.visitHome x.atoll).isNone with
    | none => mbAnswer mb 0x4301 rcInvalidAddress []
    | some x => .seq (markLines x.atoll (x.gdpa / 4096) [x.gdpa / 64 % 64] .inject) (mbAnswer mb 0x4301 rcSuccess [])

/-- CLEAR_POISON: a full-line write of the given data (R62). -/
def clearPoison (mb : Mbox) (dpa : Nat) (data : Line) : Act := ldCmd mb 0x4302 fun n => .read fun m =>
  match m.mbLine n dpa with
  | none => mbAnswer mb 0x4302 rcInvalidAddress []
  | some x =>
    let f := fun (r : Req) => { r with data := some data }
    .seq (if (m.visitHome x.atoll).isNone then request .self .wrLine (x.gdpa / 64) f else ask .self orphanTag (x.gdpa / 64) .wrLine f)
      (mbAnswer mb 0x4302 rcSuccess [])

/-- GET_SCAN_MEDIA_CAPABILITIES: an estimate of the time, which the manual does not give (log entry 4). -/
def scanCaps (mb : Mbox) (dpa len : Nat) : Act := ldCmd mb 0x4303 fun n => .read fun m =>
  if (m.mbLine n dpa).isNone || decide (len = 0) then mbAnswer mb 0x4303 rcInvalidAddress [] else answerFree mb 0x4303 [] 32

/-- SCAN_MEDIA: walks the page records of the range, in the background (Table 9.3, log entry 28). -/
def scanMedia (mb : Mbox) (dpa len : Nat) : Act := ldCmd mb 0x4304 fun n => .read fun m =>
  let lines := m.pages.flatMap fun p =>
    ((List.range 64).filter fun i => p.2.rcd.size.getD i 0 == 7).map fun i => p.1 * 64 + i
  .seq (.mbox n fun b => { b with scan := m.dpasIn n dpa len lines, bgOp := 0x4304, bgDone := true, bgCode := rcSuccess })
    (mbAnswer mb 0x4304 rcBackground [])

/-- GET_SCAN_MEDIA_RESULTS: the LD DPAs that the last scan found. -/
def scanResults (mb : Mbox) : Act := ldCmd mb 0x4305 fun n => .read fun m => mbAnswer mb 0x4305 rcSuccess (m.mbox n).scan

/-! ### Dynamic capacity (R122, R211, R217) -/

/-- DC regions of an LD: its views of Elastic atolls in increasing base, each with its base and size (R211). -/
def Mach.dcRegions (m : Mach) (n : Nat) : List Nat :=
  let vs := (m.elasticViews n).insertionSort fun a b => m.get .VW_LDBASE a ≤ m.get .VW_LDBASE b
  vs.flatMap fun v => [m.viewBase v, m.viewBytes (m.get .VW_ATOLL v)]

/-- Accepted extents of an LD. -/
def Mach.acceptedExts (m : Mach) (n : Nat) : List Nat :=
  ((m.host.extents.filter fun e => e.ld == n && e.accepted).flatMap fun e => [e.base, e.len])

/-- GET_DYNAMIC_CAPACITY_CONFIGURATION. -/
def dcConfig (mb : Mbox) : Act := ldCmd mb 0x4800 fun n => .read fun m => mbAnswer mb 0x4800 rcSuccess (m.dcRegions n)

/-- GET_DYNAMIC_CAPACITY_EXTENT_LIST. -/
def dcExtents (mb : Mbox) : Act := ldCmd mb 0x4801 fun n => .read fun m => mbAnswer mb 0x4801 rcSuccess (m.acceptedExts n)

/-- A range is on 2 MiB boundaries and lies wholly within one of some extents. -/
def inOne (es : List Extent) (x : Range) : Bool :=
  x.base % 2 ^ 21 == 0 && x.len % 2 ^ 21 == 0 && x.len != 0
    && es.any fun e => decide (e.base ≤ x.base ∧ x.base + x.len ≤ e.base + e.len)

/-- No two ranges of a list name one byte. -/
def disjoint : List Range → Bool
  | [] => true
  | x :: xs => xs.all (fun y => decide (x.base + x.len ≤ y.base ∨ y.base + y.len ≤ x.base)) && disjoint xs

/-- ADD_DYNAMIC_CAPACITY_RESPONSE: the named parts of open offers are accepted and the rest withdrawn, or Invalid Input (R217). -/
def addResponse (mb : Mbox) (xs : List Range) : Act := ldCmd mb 0x4802 fun n => .read fun m =>
  let offers := m.host.extents.filter fun e => e.ld == n && !e.accepted
  let taken := xs.map fun x => ({ ld := n, base := x.base, len := x.len, accepted := true } : Extent)
  if xs.all (inOne offers) && disjoint xs then
    .seq (.prim (.host fun h => { h with extents := (h.extents.filter fun e => e.ld != n || e.accepted) ++ taken }))
      (mbAnswer mb 0x4802 rcSuccess [])
  else mbAnswer mb 0x4802 rcInvalidInput []

/-- RELEASE_DYNAMIC_CAPACITY: the ranges are unmapped, their lines dropped, their extents freed and their pages returned to
never-written records, or Invalid Input (R122). -/
def releaseDc (mb : Mbox) (xs : List Range) : Act := ldCmd mb 0x4803 fun n => .read fun m =>
  let acc := m.host.extents.filter fun e => e.ld == n && e.accepted
  if xs.all (inOne acc) && disjoint xs then
    .all [.each xs fun x => .seq (releaseRange n x.base x.len) (cutExtents n x.base x.len), mbAnswer mb 0x4803 rcSuccess []]
  else mbAnswer mb 0x4803 rcInvalidInput []

/-! ### The FM API (Table 9.4) -/

/-- GET_LD_INFO: LDs and static capacity of a head, in 256 MiB units. -/
def fmLdInfo (h : Nat) : Act := fmCmd 0x5400 (.read fun m =>
  if m.sled.heads ≤ h then mbAnswer .fmapi 0x5400 rcInvalidInput []
  else mbAnswer .fmapi 0x5400 rcSuccess [(m.headLds h).length, ((m.headLds h).map fun n => m.get .HBR_LD_CAP n).sum])

/-- GET_LD_ALLOCATIONS: LDs of the sled, and the static capacity of each LD asked for. -/
def fmLdAllocs (first count : Nat) : Act := fmCmd 0x5401 (.read fun m =>
  mbAnswer .fmapi 0x5401 rcSuccess (m.sled.lds ::
    ((List.range (min count m.sled.lds)).filter fun j => first + j < m.sled.lds).map fun j => m.get .HBR_LD_CAP (first + j)))

/-- A static capacity fits an LD's views: Guaranteed and Bell views end at or below it, Elastic views begin at or above it
(R211, Table 9.7). -/
def Mach.capFits (m : Mach) (n cap : Nat) : Bool :=
  decide (cap ≤ 131072) && (m.ldViews n).all fun v =>
    if m.isElastic (m.get .VW_ATOLL v) then decide (cap * 2 ^ 28 ≤ m.viewBase v)
    else decide (m.viewBase v + m.viewBytes (m.get .VW_ATOLL v) ≤ cap * 2 ^ 28)

/-- SET_LD_ALLOCATIONS: writes `HBR_LD_CAP` of each LD named, or of none when one write is refused (R208, R211). -/
def fmSetAllocs (first : Nat) (caps : List Nat) : Act := fmCmd 0x5402 (.read fun m =>
  let ps := (List.range caps.length).map fun j => (first + j, caps.getD j 0)
  if ps.all fun p => decide (p.1 < m.sled.lds) && m.capFits p.1 p.2 then
    .all [.each ps fun p => .set .HBR_LD_CAP p.1 p.2, mbAnswer .fmapi 0x5402 rcSuccess []]
  else mbAnswer .fmapi 0x5402 rcInvalidInput [])

/-- GET_QOS_CONTROL: `RGL_EN`, and each master with a staged guarantee. -/
def fmQosControl : Act := fmCmd 0x5403 (.read fun m =>
  mbAnswer .fmapi 0x5403 rcSuccess (m.get .RGL_EN ::
    ((List.range 74).filter fun k => m.get .RGL_M_GUAR k != 0).flatMap fun k => [k, m.get .RGL_M_GUAR k]))

/-- GET_QOS_STATUS: the live guaranteeable bandwidth of each channel and whether it is shrunk. -/
def fmQosStatus : Act := fmCmd 0x5405 (.read fun m =>
  mbAnswer .fmapi 0x5405 rcSuccess ((List.range m.sled.chans).flatMap fun c => [m.get .RGL_C_GC_LIVE c, m.get .RGL_C_SHRUNK c]))

/-- GET_MULTI_HEADED_INFO: the heads, and the LDs of each. -/
def fmHeads : Act := fmCmd 0x5500 (.read fun m =>
  mbAnswer .fmapi 0x5500 rcSuccess (m.sled.heads :: (List.range m.sled.heads).map fun h => (m.headLds h).length))

/-- GET_HEAD_INFO: the head status word (R207). -/
def fmHeadInfo (h : Nat) : Act := fmCmd 0x5501 (.read fun m =>
  if m.sled.heads ≤ h then mbAnswer .fmapi 0x5501 rcInvalidInput [] else mbAnswer .fmapi 0x5501 rcSuccess [m.headWord h])

/-- GET_DCD_INFO: the LDs, the bytes of the elastic pool, and the bytes its extents hold. -/
def fmDcdInfo : Act := fmCmd 0x5600 (.read fun m => mbAnswer .fmapi 0x5600 rcSuccess [m.sled.lds, m.poolP, m.poolA])

/-- GET_HOST_DC_REGION_CONFIGURATION. -/
def fmRegions (n : Nat) : Act := fmCmd 0x5601 (.read fun m =>
  if m.flag .HBR_LD_VALID n then mbAnswer .fmapi 0x5601 rcSuccess (m.dcRegions n) else mbAnswer .fmapi 0x5601 rcInvalidInput [])

/-- GET_DC_REGION_EXTENT_LISTS. -/
def fmExtents (n : Nat) : Act := fmCmd 0x5603 (.read fun m =>
  if m.flag .HBR_LD_VALID n then mbAnswer .fmapi 0x5603 rcSuccess (m.acceptedExts n) else mbAnswer .fmapi 0x5603 rcInvalidInput [])

/-- INITIATE_DYNAMIC_CAPACITY_RELEASE: a release request for an extent, with a deadline of `GRN_DEADLINE`; an extent whose offer is
open is withdrawn instead (R118, R217). -/
def fmRelease (n : Nat) (x : Range) : Act := fmCmd 0x5605 (.read fun m =>
  match m.host.extents.find? fun e => e.ld == n && e.base == x.base && e.len == x.len with
  | none => mbAnswer .fmapi 0x5605 rcInvalidInput []
  | some e =>
    .seq (if e.accepted then requestRelease e else .prim (.host fun h => { h with extents := h.extents.filter (· != e) }))
      (mbAnswer .fmapi 0x5605 rcSuccess []))

/-- MAILBOX_UNSUPPORTED: any other opcode (R214). -/
def unsupportedOp (mb : Mbox) (op : Nat) : Act := .read fun m =>
  .when (m.mbReady mb && !(mbOps mb).contains op) (mbAnswer mb op rcUnsupported [])

/-! ### Meanings -/

/-- IDENTIFY (R437). -/
def execIdentify (mb : Mbox) (s : State) : Host.Outcome State Fault Refusal := s.act (identify mb)

/-- BACKGROUND_OPERATION_STATUS (R214). -/
def execBackgroundOperationStatus (mb : Mbox) (s : State) : Host.Outcome State Fault Refusal := s.act (backgroundStatus mb)

/-- GET_RESPONSE_MESSAGE_LIMIT (R214). -/
def execGetResponseMessageLimit (mb : Mbox) (s : State) : Host.Outcome State Fault Refusal := s.act (responseLimit mb)

/-- GET_EVENT_RECORDS (R215). -/
def execGetEventRecords (mb : Mbox) (log : EvLog) (s : State) : Host.Outcome State Fault Refusal := s.act (getEvents mb log)

/-- CLEAR_EVENT_RECORDS (R215). -/
def execClearEventRecords (mb : Mbox) (log : EvLog) (all_ : Bool) (handles : List Nat) (s : State) : Host.Outcome State Fault Refusal :=
  s.act (clearEvents mb log all_ handles)

/-- GET_EVENT_INTERRUPT_POLICY (R214). -/
def execGetEventInterruptPolicy (mb : Mbox) (s : State) : Host.Outcome State Fault Refusal := s.act (getPolicy mb)

/-- SET_EVENT_INTERRUPT_POLICY (R214). -/
def execSetEventInterruptPolicy (mb : Mbox) (policy : List Nat) (s : State) : Host.Outcome State Fault Refusal :=
  s.act (setPolicy mb policy)

/-- GET_FW_INFO (R440). -/
def execGetFwInfo (mb : Mbox) (s : State) : Host.Outcome State Fault Refusal := s.act (getFwInfo mb)

/-- TRANSFER_FW (R440). -/
def execTransferFw (mb : Mbox) (slot : Nat) (image : FwImage) (s : State) : Host.Outcome State Fault Refusal :=
  s.act (transferFw mb slot image)

/-- ACTIVATE_FW (R440). -/
def execActivateFw (mb : Mbox) (slot : Nat) (online selfCheckOk : Bool) (s : State) : Host.Outcome State Fault Refusal :=
  s.act (activateFw mb slot online selfCheckOk)

/-- GET_TIMESTAMP (R214). -/
def execGetTimestamp (mb : Mbox) (s : State) : Host.Outcome State Fault Refusal := s.act (getTimestamp mb)

/-- SET_TIMESTAMP (R214). -/
def execSetTimestamp (mb : Mbox) (t : Nat) (s : State) : Host.Outcome State Fault Refusal := s.act (setTimestamp mb t)

/-- GET_SUPPORTED_LOGS (R214). -/
def execGetSupportedLogs (mb : Mbox) (s : State) : Host.Outcome State Fault Refusal := s.act (supportedLogs mb)

/-- GET_LOG (R383). -/
def execGetLog (mb : Mbox) (log : LogId) (off len : Nat) (s : State) : Host.Outcome State Fault Refusal :=
  s.act (getLog mb log off len)

/-- GET_SUPPORTED_FEATURES (R214). -/
def execGetSupportedFeatures (mb : Mbox) (s : State) : Host.Outcome State Fault Refusal := s.act (supportedFeatures mb)

/-- GET_FEATURE (R214). -/
def execGetFeature (mb : Mbox) (feature : Nat) (s : State) : Host.Outcome State Fault Refusal := s.act (getFeature mb feature)

/-- SET_FEATURE (R214). -/
def execSetFeature (mb : Mbox) (feature value : Nat) (s : State) : Host.Outcome State Fault Refusal :=
  s.act (setFeature mb feature value)

/-- IDENTIFY_MEMORY_DEVICE (R211). -/
def execIdentifyMemoryDevice (mb : Mbox) (s : State) : Host.Outcome State Fault Refusal := s.act (identifyMemory mb)

/-- GET_PARTITION_INFO (R214). -/
def execGetPartitionInfo (mb : Mbox) (s : State) : Host.Outcome State Fault Refusal := s.act (partitionInfo mb)

/-- GET_POISON_LIST (R216). -/
def execGetPoisonList (mb : Mbox) (dpa len : Nat) (s : State) : Host.Outcome State Fault Refusal :=
  s.act (poisonList mb dpa len)

/-- INJECT_POISON (R214). -/
def execInjectPoison (mb : Mbox) (dpa : Nat) (s : State) : Host.Outcome State Fault Refusal := s.act (injectPoison mb dpa)

/-- CLEAR_POISON (R62). -/
def execClearPoison (mb : Mbox) (dpa : Nat) (data : Line) (s : State) : Host.Outcome State Fault Refusal :=
  s.act (clearPoison mb dpa data)

/-- GET_SCAN_MEDIA_CAPABILITIES (R214). -/
def execGetScanMediaCapabilities (mb : Mbox) (dpa len : Nat) (s : State) : Host.Outcome State Fault Refusal :=
  s.act (scanCaps mb dpa len)

/-- SCAN_MEDIA (R214). -/
def execScanMedia (mb : Mbox) (dpa len : Nat) (s : State) : Host.Outcome State Fault Refusal := s.act (scanMedia mb dpa len)

/-- GET_SCAN_MEDIA_RESULTS (R214). -/
def execGetScanMediaResults (mb : Mbox) (s : State) : Host.Outcome State Fault Refusal := s.act (scanResults mb)

/-- GET_DYNAMIC_CAPACITY_CONFIGURATION (R211). -/
def execGetDynamicCapacityConfiguration (mb : Mbox) (s : State) : Host.Outcome State Fault Refusal := s.act (dcConfig mb)

/-- GET_DYNAMIC_CAPACITY_EXTENT_LIST (R214). -/
def execGetDynamicCapacityExtentList (mb : Mbox) (s : State) : Host.Outcome State Fault Refusal := s.act (dcExtents mb)

/-- ADD_DYNAMIC_CAPACITY_RESPONSE (R217). -/
def execAddDynamicCapacityResponse (mb : Mbox) (exts : List Range) (s : State) : Host.Outcome State Fault Refusal :=
  s.act (addResponse mb exts)

/-- RELEASE_DYNAMIC_CAPACITY (R122). -/
def execReleaseDynamicCapacity (mb : Mbox) (exts : List Range) (s : State) : Host.Outcome State Fault Refusal :=
  s.act (releaseDc mb exts)

/-- GET_LD_INFO (R214). -/
def execGetLdInfo (h : Nat) (s : State) : Host.Outcome State Fault Refusal := s.act (fmLdInfo h)

/-- GET_LD_ALLOCATIONS (R214). -/
def execGetLdAllocations (first count : Nat) (s : State) : Host.Outcome State Fault Refusal := s.act (fmLdAllocs first count)

/-- SET_LD_ALLOCATIONS (R211). -/
def execSetLdAllocations (first : Nat) (caps : List Nat) (s : State) : Host.Outcome State Fault Refusal :=
  s.act (fmSetAllocs first caps)

/-- GET_QOS_CONTROL (R214). -/
def execGetQosControl (s : State) : Host.Outcome State Fault Refusal := s.act fmQosControl

/-- GET_QOS_STATUS (R214). -/
def execGetQosStatus (s : State) : Host.Outcome State Fault Refusal := s.act fmQosStatus

/-- GET_MULTI_HEADED_INFO (R214). -/
def execGetMultiHeadedInfo (s : State) : Host.Outcome State Fault Refusal := s.act fmHeads

/-- GET_HEAD_INFO (R207). -/
def execGetHeadInfo (h : Nat) (s : State) : Host.Outcome State Fault Refusal := s.act (fmHeadInfo h)

/-- GET_DCD_INFO (R214). -/
def execGetDcdInfo (s : State) : Host.Outcome State Fault Refusal := s.act fmDcdInfo

/-- GET_HOST_DC_REGION_CONFIGURATION (R214). -/
def execGetHostDcRegionConfiguration (ld : Nat) (s : State) : Host.Outcome State Fault Refusal := s.act (fmRegions ld)

/-- GET_DC_REGION_EXTENT_LISTS (R214). -/
def execGetDcRegionExtentLists (ld : Nat) (s : State) : Host.Outcome State Fault Refusal := s.act (fmExtents ld)

/-- INITIATE_DYNAMIC_CAPACITY_RELEASE (R118). -/
def execInitiateDynamicCapacityRelease (ld : Nat) (ext : Range) (s : State) : Host.Outcome State Fault Refusal :=
  s.act (fmRelease ld ext)

/-- MAILBOX_UNSUPPORTED (R214). -/
def execMailboxUnsupported (mb : Mbox) (opcode : Nat) (s : State) : Host.Outcome State Fault Refusal :=
  s.act (unsupportedOp mb opcode)

end Sys2Proof.Machine
end

