-- ==== Sys2Proof/Machine/Boesque.lean ====
section
/-!
DEFINITION. The Boesque link (chapter "The Boesque link"): ports and links, HELLO, sending, landing, acknowledgement and
replay, loss, grace and flush, and renegotiation.
-/

namespace Sys2Proof.Machine

/-! ### Links and ports -/

/-- Link states (Table 12.2). -/
def blDown : Nat := 0
/-- Hello. -/
def blHello : Nat := 1
/-- Up. -/
def blUp : Nat := 2
/-- Held. -/
def blHeld : Nat := 3
/-- Grace. -/
def blGrace : Nat := 4
/-- Flushing. -/
def blFlushing : Nat := 5

/-- What a link slot keeps beside its registers. -/
def Mach.blink (m : Mach) (l : Nat) : BqlLink := (m.bql.links.find? l).getD {}

/-- Change what a link slot keeps. -/
def Act.blink (l : Nat) (f : BqlLink → BqlLink) : Act :=
  .prim (.bql fun b => { b with links := b.links.set l {} (f ((b.links.find? l).getD {})) })

/-- Sequence a is before b (R271). -/
def seqBefore (a b : Nat) : Bool :=
  let d := (b + 2 ^ 32 - a % 2 ^ 32) % 2 ^ 32
  1 ≤ d && d < 2 ^ 31

/-- The source id of a link's cause. -/
def linkSrc (l cause : Nat) : Nat := srcId 0x04 l cause

/-- Enabled link slots of a port. -/
def Mach.portLinks (m : Mach) (p : Nat) : List Nat := ((List.range 8).map (8 * p + ·)).filter fun l => m.flag .BQL_L_EN l

/-- The PHY mode in effect at a port (R258). -/
def Mach.phyMode (m : Mach) (p : Nat) : Nat := (m.bql.modes.find? p).getD 0

/-- The rate that a port runs, as `BQL_P_SETTLED` has it (R258, R259): every lane of its mode must have PCS lock. -/
def Mach.portRate (m : Mach) (p : Nat) : Nat :=
  let lanes := m.get .BQL_P_LANES p
  if m.phyMode p = 0 then (if lanes = 0xFF then 2 else 0) else if lanes % 16 = 15 then 1 else 0

/-- The rate of a port's mode, `RATE_MAX` of a HELLO (Table 12.8). -/
def Mach.modeRate (m : Mach) (p : Nat) : Nat := 2 - m.phyMode p

/-- `BQL_P_SETTLED` follows the lanes and the mode. -/
def portSettle (p : Nat) : Act := .read fun m => .set .BQL_P_SETTLED p (m.portRate p)

/-- A port that is disabled loses its power once every link of it is Down (Table 21.7). -/
def portPower (p : Nat) : Act := .read fun m =>
  .when (!m.flag .BQL_P_EN p && (List.range 8).all fun r => m.get .BQL_L_STATE (8 * p + r) == blDown)
    (.all [.set .BQL_P_POWERED p 0, .set .BQL_P_LANES p 0, .set .BQL_P_SETTLED p 0])

/-- Replay buffer units of 64 bytes that a packet takes: its header and payload (R274). -/
def Pkt.units (k : Pkt) : Nat := Bits.ceilDiv (32 + k.len) 64

/-- Replay buffer units that a link holds. -/
def Mach.replayUnits (m : Mach) (l : Nat) : Nat := ((m.blink l).replay.map Pkt.units).sum

/-- `BQL_P_REPLAY_USED` follows the replay buffer. -/
def replayUsed (p : Nat) : Act := .read fun m =>
  .set .BQL_P_REPLAY_USED p (((List.range 8).map fun r => m.replayUnits (8 * p + r)).sum)

/-- Room for a packet in a link's reserve of 256 KiB and what is left of the shared rest (R274). -/
def Mach.replayRoom (m : Mach) (l u : Nat) : Bool :=
  let p := l / 8
  let above := fun (x : Nat) => m.replayUnits x - 4096
  let shared := 65536 - 4096 * (m.portLinks p).length
  let others := (((List.range 8).map (8 * p + ·)).filter (· != l)).map above
  decide ((m.replayUnits l + u - 4096) + others.sum ≤ shared)

/-- An acknowledgement leaves with what is sent (R275). -/
def noteAck (l : Nat) : Act := .read fun m =>
  .blink l fun b => { b with landed := 0, ackAt := m.now, ackNo := some (m.get .BQL_L_RX_EXPECT l) }

/-- Send a control packet; the first field is the header's acknowledgement (R268). -/
def sendCtl (l kind : Nat) (fields : List Nat) : Act := .read fun m =>
  .all [.emit (.ctl l kind (m.get .BQL_L_RX_EXPECT l :: fields)), event (.boesque (l / 8)) 0x60 4 1,
    event (.boesque (l / 8)) 0x60 7 1, noteAck l]

/-- Send a sequenced packet, first or again (R271, R274). -/
def sendPkt (l : Nat) (retx : Bool) (k : Pkt) : Act := .read fun m =>
  let p := l / 8
  .all [.emit (.packet l k.seq k.cls k.prio (m.get .BQL_L_RX_EXPECT l) retx k.msgs), noteAck l,
    event (.boesque p) (if retx then 0x62 else 0x60) k.cls 1, event (.boesque p) (if retx then 0x62 else 0x60) 7 1,
    event (.boesque p) 0x63 0 k.units, .when retx (.inc .BQL_L_REPLAYS l 1)]

/-! ### HELLO (R269, R270) -/

/-- A HELLO round begins with a new non-zero `NONCE`; no budget is learned in it yet (R269, R272). -/
def newRound (l : Nat) : Act := .free fun v =>
  .blink l fun b => { b with nonce := 1 + v.toNat % (2 ^ 32 - 1), gotEcho := false, sentEcho := false, refused := false,
                             budget := none }

/-- `FEATURES` of this sled: all four (Table 12.8). -/
def ownFeatures : Nat := 0xF

/-- `OLD_SESSION` of this sled: the session held in Grace or Held, or the one last flushed (Table 12.8, R280). -/
def Mach.oldSession (m : Mach) (l : Nat) : Nat :=
  if m.get .BQL_L_STATE l = blHeld ∨ m.get .BQL_L_STATE l = blGrace then m.get .BQL_L_SESSION l else (m.blink l).flushed

/-- The fields of this sled's HELLO in the order of Table 12.8. -/
def Mach.helloOf (m : Mach) (l : Nat) : List Nat :=
  let b := m.blink l
  [1, 2, m.modeRate (l / 8), ownFeatures, 1, m.self, l / 8, m.get .BQL_P_DIRECT (l / 8), m.get .ID_IDENT, b.nonce,
    (b.peer.map (·.nonce)).getD 0, m.oldSession l, m.get .BQL_L_RX_EXPECT l, m.get .BQL_L_REQ_BUDGET l]

/-- Free the packets before a number and move *A* to it; a forward that is acknowledged ends at its owner (R276, Table 8.6). -/
def freeTo (l n : Nat) : Act := .read fun m =>
  let gone := (m.blink l).replay.filter fun k => seqBefore k.seq n
  .all [.blink l fun b => { b with replay := b.replay.filter fun k => !seqBefore k.seq n },
    .set .BQL_L_TX_ACKED l n, replayUsed (l / 8),
    .each (gone.flatMap (·.msgs)) fun x => .when (x.code == mFwdData) (fwdAcked (visKey x.home x.line))]

/-- Resend every packet held (R274). -/
def replay (l : Nat) : Act := .read fun m => .each (m.blink l).replay (sendPkt l true)

/-- The settled mode (R269). -/
def settleMode (l : Nat) (h : Hello) : Act := .read fun m =>
  .all [.set .BQL_L_VERSION l (min h.verMax 1), .set .BQL_L_MTU l (min h.mtuMax 2),
    .set .BQL_L_RATE l (min h.rateMax (m.modeRate (l / 8))), .set .BQL_L_FEATURES l (h.features &&& ownFeatures),
    .blink l fun b => { b with budget := some h.reqBudget }]

/-- The old session goes on: packets before the peer's `OLD_EXPECT` are freed and the rest replayed (R270). -/
def resumeSession (l : Nat) (h : Hello) : Act :=
  .all [settleMode l h, freeTo l h.oldExpect, .set .BQL_L_STATE l blUp, replay l, returned (0x04, l), pairUp (l % 8)]

/-- What the peer took of the session last flushed here (R280). -/
def peerDelivered (l : Nat) (h : Hello) : Act := .read fun m =>
  let b := m.blink l
  .when (b.flushed != 0 && h.oldSession == b.flushed)
    (.all [.set .BQL_L_PEER_DLV l h.oldExpect, .set .BQL_L_PEER_DLV_VALID l 1,
      lhLog (linkSrc l 1) 0x0041 l (b.flushed + 2 ^ 32 * h.oldExpect + 2 ^ 64 * m.get .BQL_L_LOST_END l)])

/-- A new session starts (R270), and the sleds join (Table 13.1). -/
def newSession (l : Nat) (h : Hello) : Act := .read fun m =>
  let b := m.blink l
  .all [settleMode l h, peerDelivered l h,
    .set .BQL_L_SESSION l (if m.get .ID_IDENT < h.ident then b.nonce else h.nonce),
    .set .BQL_L_TX_SEQ l 0, .set .BQL_L_TX_ACKED l 0, .set .BQL_L_RX_EXPECT l 0,
    .blink l fun x => { x with flushed := 0, landed := 0, ackNo := none, nakOpen := false, later := false, landFull := false,
                               cont := [], reqs := [] },
    .set .BQL_L_STATE l blUp, returned (0x04, l), sendJoin (l % 8)]

/-! ### Loss, grace and flush (R278, R279, Table 12.9) -/

/-- The home's open transactions of a line that wait on a lost peer, or serve it (Table 8.10). -/
def reclaimTxn (r : Nat) (t : Txn) : Act := .newId fun id => .read fun m =>
  let line := t.req.line
  let ask := fun (p lost : Nat) =>
    Act.all [openTxn { t with phase := .col, await := [.peer p], lost := lost },
      send p { m.mkMsg mSnpResolve id m.self line with rqs := p }]
  let mine := match t.req.src with | .peer p _ => p == r | _ => false
  match t.phase with
  | .col =>
    if t.await.contains (.peer r) then
      if t.lost = 1 ∨ t.lost = 2 then resolveLost line t
      else .seq (loseLine line (.peer r) (some r))
        (.read fun m' => .some? (m'.txnOf line) fun t' => collect line (.peer r) (fun e => e.remove (.peer r)) t')
    else .when mine (openTxn { t with req := orphan t.req })
  | .gnt => .when mine (.all [closeTxn line, loseLine line (.peer r) (some r), wake line])
  | .fwd =>
    if t.owner = r then
      match t.req.src with
      | .peer p _ => if p = r then resolveLost line { t with lost := 2 } else ask p 1
      | _ => resolveLost line { t with lost := 2 }
    else .when mine (ask t.owner 2)
  | _ => .when mine (openTxn { t with req := orphan t.req })

/-- The homes reclaim what a lost peer held: open transactions, waiting requests (a write that was delivered is applied), and its
entries (R198, Table 8.10). -/
def reclaimHome (r : Nat) : Act := .read fun m =>
  let mine := fun (q : Req) => match q.src with | .peer p _ => p == r | _ => false
  let keep := fun (w : Waiting) => !mine w.req || w.req.kind.isWrite
  .all [.prim (.lines fun l => { l with waits := (l.waits.filter keep).map fun w => if mine w.req then { w with req := orphan w.req } else w }),
    .each m.lines.txns (reclaimTxn r),
    .read fun m' => .each (m'.dir.ents.filter fun e => Bits.bit e.2.peers r || (e.2.state == 4 && e.2.opeer == r)) fun e =>
      loseLine e.1 (.peer r) (some r)]

/-- The visitor drops every line of a lost home: waiting requests fail, local heads are back-invalidated and their data is
discarded (Table 8.10). -/
def reclaimVisitor (r : Nat) : Act := .read fun m =>
  .all [.each (m.dir.vis.filter fun e => visHomeOf e.1 == r) fun e =>
      .all [.each (e.2.waits ++ e.2.keepReqs ++ e.2.loc.toList) answerDead,
        setVis e.1 { state := 0, await := e.2.heads.map (·.1) ++ e.2.await.filter fun h => !(e.2.heads.map (·.1)).contains h },
        visSnoopHeads ((m.atollOf (visLine e.1 / 64)).getD 0) e.1 ((e.2.heads.map (·.1)).filter fun h => !e.2.await.contains h) 0],
    .each (m.dir.remote.filter fun q => q.home == r && !q.done) fun q => remoteDone q none true]

/-- Flush a link: the replay buffer and the held messages go, what was lost is recorded, discarded forwards are reported, and the
homes and the archipelago reclaim what the peer held (Table 12.9 steps 1 to 4). -/
def flush (l : Nat) : Act := .read fun m =>
  let r := l % 8
  let a := m.get .BQL_L_TX_ACKED l
  let n := m.get .BQL_L_TX_SEQ l
  let e := m.get .BQL_L_RX_EXPECT l
  let ses := m.get .BQL_L_SESSION l
  let lost := ((m.blink l).replay.flatMap (·.msgs)) ++ (m.bql.txq.filter fun x => x.1 == r).map (·.2)
  .all [.set .BQL_L_STATE l blFlushing, .set .BQL_L_LOST_FIRST l a, .set .BQL_L_LOST_END l n, .inc .BQL_L_FLUSHES l 1,
    .set .BQL_L_PEER_DLV_VALID l 0,
    lhLog (linkSrc l 1) 0x0040 l (ses + 2 ^ 32 * a + 2 ^ 64 * n + 2 ^ 96 * e),
    .blink l fun b => { b with replay := [], cont := [], reqs := [], reneg := none, flushed := ses, landed := 0, nakOpen := false,
                               later := false, landFull := false },
    .prim (.bql fun b => { b with txq := b.txq.filter fun x => x.1 != r }),
    replayUsed (l / 8),
    .each lost fun x => .when (x.code == mFwdData) (fwdUndelivered (visKey x.home x.line) x.txid),
    reclaimHome r, reclaimVisitor r, peerFlushed r]

/-- Declare a link lost (R278): Grace, the record and the Contained source of the link, and what depends on the peer (R298). A
link whose action is Reset is flushed at once (Table 17.3). -/
def declareLoss (l : Nat) : Act := .read fun m =>
  let d := m.get .BQL_L_SESSION l + 2 ^ 32 * m.get .BQL_L_TX_ACKED l + 2 ^ 64 * m.get .BQL_L_TX_SEQ l
    + 2 ^ 96 * m.get .BQL_L_RX_EXPECT l
  .when (m.get .BQL_L_STATE l == blUp || m.get .BQL_L_STATE l == blHeld)
    (.all [.inc .BQL_L_LOSSES l 1, .set .BQL_L_STATE l blGrace, .blink l fun b => { b with reneg := none },
      newRound l, raise (linkSrc l 1) l d, pairsLost (l % 8),
      .read fun m' => .when (m'.bkw.resetting.contains (linkSrc l 1))
        (.seq (.prim (.bkw fun b => { b with resetting := b.resetting.filter (· != linkSrc l 1) })) (flush l))])

/-- LINK_LOSS: silence of 1 ms while Up, or of 100 ms while Held (R278). -/
def linkLoss (l : Nat) : Act := declareLoss l

/-- GRACE_EXPIRY (R279). -/
def graceExpiry (l : Nat) : Act := .read fun m => .when (m.get .BQL_L_STATE l == blGrace) (flush l)

/-- FLUSH_COMPLETE: the link enters Down and starts HELLO rounds while it is enabled (Table 12.9 step 5). -/
def flushComplete (l : Nat) : Act := .read fun m =>
  .when (m.get .BQL_L_STATE l == blFlushing)
    (.all [.set .BQL_L_STATE l blDown, .when (m.flag .BQL_L_EN l) (newRound l), portPower (l / 8)])

/-- LANDING_STALL_TIMEOUT: a packet that cannot be landed for 1 ms puts the receiver in Grace (R273). -/
def landingStall (l : Nat) : Act := .read fun m => .when (m.blink l).landFull (declareLoss l)

/-! ### HELLO received -/

/-- The harbour of a port is isolated (R365). -/
def Mach.portDead (m : Mach) (p : Nat) : Bool := m.bkw.isolated.contains (0x04, 16 + p)

/-- The exchange is complete (R269): the old session resumes, a link that held one whose peer has lost its state is flushed, or a
new session starts (R270). -/
def helloDone (l : Nat) : Act := .read fun m =>
  let b := m.blink l
  let st := m.get .BQL_L_STATE l
  .some? b.peer fun h => .when (b.gotEcho && b.sentEcho)
    (if st = blGrace ∨ st = blHeld then
      (if h.oldSession = m.get .BQL_L_SESSION l then resumeSession l h else flush l)
     else .when (st == blHello || st == blDown) (newSession l h))

/-- The association number to transmit with is provisioned, as one of the two to receive with (R283). -/
def Mach.saReady (m : Mach) (l : Nat) : Bool := (m.keys.sak.find? (2 * l)).isSome || (m.keys.sak.find? (2 * l + 1)).isSome

/-- Why a HELLO is refused: 0 suite, 1 sled id, 2 port kind, 3 SA absent (R269, Table 12.10). -/
def Mach.helloRefusal (m : Mach) (l : Nat) (h : Hello) : Option Nat :=
  if !Bits.bit h.suites 0 then some 0
  else if h.sled ≠ l % 8 then some 1
  else if h.direct ≠ m.flag .BQL_P_DIRECT (l / 8) then some 2
  else if !m.saReady l then some 3
  else none

/-- HELLO: refused, or taken into the exchange; in Up it tells that the peer has lost its state (R269, R270). -/
def hello (l : Nat) (h : Hello) : Act := .read fun m =>
  let b := m.blink l
  let st := m.get .BQL_L_STATE l
  .when (m.sled == .dx32 && m.flag .BQL_L_EN l && m.flag .BQL_P_POWERED (l / 8) && !m.portDead (l / 8))
    (.seq (.set .BQL_L_PEER_IDENT l h.ident)
      (match m.helloRefusal l h with
      | some why =>
        .all [.inc .BQL_L_HELLO_REFUSED l 1, .when (!b.refused) (lhLog 0 0x0042 l why),
          .blink l fun x => { x with refused := true }]
      | none =>
        if st = blUp then .seq (.blink l fun x => { x with peer := some h }) (flush l)
        else
          let same := (b.peer.map (·.nonce)) == some h.nonce
          .seq (.blink l fun x => { x with peer := some h, gotEcho := h.echo == x.nonce && x.nonce != 0, sentEcho := x.sentEcho && same })
            (.when (st != blFlushing) (helloDone l))))

/-- HELLO_TIMER: every 100 µs an enabled link that is not Up sends a HELLO (R269). -/
def helloTimer (l : Nat) : Act := .read fun m =>
  .when (m.sled == .dx32 && m.flag .BQL_L_EN l && m.flag .BQL_P_POWERED (l / 8)
      && [blDown, blHello, blHeld, blGrace].contains (m.get .BQL_L_STATE l))
    (.all [.emit (.ctl l 1 (m.helloOf l)), event (.boesque (l / 8)) 0x60 4 1, event (.boesque (l / 8)) 0x60 7 1,
      .when (m.blink l).peer.isSome (.blink l fun b => { b with sentEcho := true }), helloDone l])

/-! ### Enables -/

/-- A write of the block is refused (R285). -/
def bqlRefused : Act := .set .BQL_WR_REFUSED 0 1

/-- A write of the block is applied. -/
def bqlDone (a : Act) : Act := .seq (.set .BQL_WR_REFUSED 0 0) a

/-- PORT_ENABLE: the port is powered in the mode selected, or loses its power once its links are Down (R258, R430). -/
def portEnable (p : Nat) (v : Bool) : Act := .read fun m =>
  .when (m.sled == .dx32 && decide (p < 2))
    (bqlDone (.seq (.set .BQL_P_EN p (Bits.ofBool v))
      (if v then
        .when (!m.flag .BQL_P_EN p)
          (.all [.prim (.bql fun b => { b with modes := b.modes.set p 0 (m.get .BQL_P_MODE p) }), .set .BQL_P_POWERED p 1,
            portSettle p])
       else portPower p)))

/-- The shared part of a port's landing buffer stays at least 2 MiB with a link's REQ partition added (R272); units of 4 KiB. -/
def Mach.landingFits (m : Mach) (l budget : Nat) : Bool :=
  decide ((((m.portLinks (l / 8)).filter (· != l)).map fun x => m.get .BQL_L_REQ_BUDGET x).sum + budget ≤ 1536)

/-- A link may not be enabled with a REQ budget: it names the sled itself or a peer that another link names, its port is direct and
serves another link, or the landing buffer has no room (R260, R272). -/
def Mach.linkRefused (m : Mach) (l budget : Nat) : Bool :=
  l % 8 == m.self || (m.linkTo (l % 8)).any (· != l)
    || (m.flag .BQL_P_DIRECT (l / 8) && (m.portLinks (l / 8)).any (· != l)) || !m.landingFits l budget

/-- LINK_ENABLE: a link slot is enabled and enters Hello, or is disabled (R260, R272; log entry 26). -/
def linkEnable (l : Nat) (v : Bool) : Act := .read fun m =>
  let st := m.get .BQL_L_STATE l
  .when (m.sled == .dx32 && decide (l < 16))
    (if v = m.flag .BQL_L_EN l then bqlDone .skip
     else if v then
      if m.linkRefused l (m.get .BQL_L_REQ_BUDGET l) then bqlRefused
      else bqlDone (.all [.set .BQL_L_EN l 1, .when (st == blDown) (.set .BQL_L_STATE l blHello), newRound l])
     else bqlDone (.seq (.set .BQL_L_EN l 0)
      (if st = blHello then .seq (.set .BQL_L_STATE l blDown) (portPower (l / 8))
       else if st = blDown ∨ st = blFlushing then .skip
       else flush l)))

/-- AN_TX_WRITE: the association number to transmit with (R283). -/
def anTxWrite (l v : Nat) : Act := .read fun m =>
  .when (m.sled == .dx32 && decide (l < 16)) (bqlDone (.set .BQL_L_AN_TX l v))

/-! ### Sending (R265, R267, R271, R272, R274) -/

/-- The class of a message code (Table 8.2, Table 13.2). -/
def msgClass (code : Nat) : Nat :=
  if code < 0x20 then 0 else if code < 0x40 then 1 else if code < 0x60 then 2 else if code < 0x80 then 3
  else if code = mSvcAck then 2 else if code = mImgData then 3 else 0

/-- Bytes of a message in a payload: its header and its body padded to 16 bytes (R265). -/
def msgBytes (x : Msg) : Nat := 16 + Bits.ceilDiv x.body.length 16 * 16

/-- The messages that begin in a payload with `room` bytes left and, for REQ, `budget` bytes, and the bytes of the last that go on
in the next packet (R267, R272). -/
def packMsgs : Nat → Nat → Nat → List Msg → List Msg × Nat
  | 0, _, _, _ => ([], 0)
  | _, _, _, [] => ([], 0)
  | n + 1, room, budget, x :: xs =>
    let b := msgBytes x
    if budget < b ∨ room = 0 then ([], 0)
    else if b ≤ room then
      let q := packMsgs n (room - b) (budget - b) xs
      (x :: q.1, q.2)
    else if 0x80 ≤ x.code then ([x], b - room)
    else ([], 0)

/-- PACKET_SEND: the next packet of a class, with at most `n` messages: numbered, kept, sent. A REQ waits for a learned budget,
any packet for replay room (R271, R272, R274). -/
def packetSend (l cls prio n : Nat) : Act := .read fun m =>
  let r := l % 8
  let b := m.blink l
  let mtu := 1024 * 2 ^ m.get .BQL_L_MTU l
  let carry := (b.cont.find? cls).getD 0
  let flight := (b.reqs.map (·.2)).sum
  let budget := if cls = 0 then (match b.budget with | some u => 4096 * u - flight | none => 0) else 2 ^ 64
  let queue := (m.bql.txq.filter fun x => x.1 == r && msgClass x.2.code == cls).map (·.2)
  let q := packMsgs n (mtu - carry) budget queue
  let left := if mtu < carry then carry - mtu else q.2
  let len := min mtu (carry + (q.1.map msgBytes).sum)
  let k : Pkt := { seq := m.get .BQL_L_TX_SEQ l, cls := cls, prio := prio % 4, len := len, msgs := q.1 }
  .when (m.sled == .dx32 && m.get .BQL_L_STATE l == blUp && decide (cls < 4) && decide (0 < len) && m.replayRoom l k.units)
    (.all [.prim (.bql fun s => { s with txq := q.1.foldl (fun t x => t.erase (r, x)) s.txq }),
      .blink l fun x => { x with replay := x.replay ++ [k], cont := x.cont.set cls 0 left,
                                 reqs := x.reqs ++ (if cls = 0 then q.1.map fun y => (y.txid, msgBytes y) else []) },
      .inc .BQL_L_TX_SEQ l 1, replayUsed (l / 8), sendPkt l false k])

/-! ### Acknowledgements received (R276) -/

/-- An acknowledgement: it frees the packets it passes; any other is ignored. -/
def acked (l n : Nat) : Act := .read fun m =>
  let s := m.get .BQL_L_TX_SEQ l
  .when (seqBefore (m.get .BQL_L_TX_ACKED l) n && (seqBefore n s || n == s)) (freeTo l n)

/-- A control packet of the peer on a link whose session lives. -/
def onLive (l : Nat) (a : Act) : Act := .read fun m =>
  .when (m.sled == .dx32 && m.flag .BQL_L_EN l && (m.get .BQL_L_STATE l == blUp || m.get .BQL_L_STATE l == blHeld)) a

/-- ACK (R276). -/
def takeAck (l n : Nat) : Act := onLive l (acked l n)

/-- KEEPALIVE: it shows that the link lives, and its header acknowledges (R268, R278). -/
def takeKeepalive (l n : Nat) : Act := onLive l (acked l n)

/-- NAK: a number that was not sent is a protocol error; a number already freed does nothing; else the packets before it are freed
and the rest is replayed (R276, Table 12.10). A link that is Held sends no packet. -/
def takeNak (l n : Nat) : Act := onLive l (.read fun m =>
  .seq (.inc .BQL_L_NAKS_RECV l 1)
    (if !seqBefore n (m.get .BQL_L_TX_SEQ l) then protoErr (.peer (l % 8))
     else if seqBefore n (m.get .BQL_L_TX_ACKED l) then .skip
     else .seq (freeTo l n) (.when (m.get .BQL_L_STATE l == blUp) (replay l))))

/-- REPLAY_TIMEOUT: the timer runs while a packet is unacknowledged (R276). -/
def replayTimeout (l : Nat) : Act := .read fun m =>
  .when (m.get .BQL_L_STATE l == blUp && !(m.blink l).replay.isEmpty) (.seq (.inc .BQL_L_TIMEOUTS l 1) (replay l))

/-- KEEPALIVE_TIMER (R278). -/
def keepaliveTimer (l : Nat) : Act := .read fun m => .when (m.get .BQL_L_STATE l == blUp) (sendCtl l 4 [])

/-- ACK_TIMER: packets have landed and nothing has carried their acknowledgement (R275). -/
def ackTimer (l : Nat) : Act := .read fun m =>
  .when (m.get .BQL_L_STATE l == blUp && decide (0 < (m.blink l).landed)) (sendCtl l 2 [])

/-- Send a NAK of the next expected number, with its reason (R273, R275). -/
def sendNak (l reason : Nat) : Act := .read fun m =>
  .seq (.inc .BQL_L_NAKS_SENT l 1) (sendCtl l 3 [m.get .BQL_L_RX_EXPECT l, reason])

/-- NAK_REPEAT: a landing-full NAK until the packet lands; a gap NAK while later packets arrive (R273, R275). -/
def nakRepeat (l : Nat) : Act := .read fun m =>
  let b := m.blink l
  .when (m.get .BQL_L_STATE l == blUp)
    (if b.landFull then sendNak l 1
     else .when (b.nakOpen && b.later) (.seq (sendNak l 0) (.blink l fun x => { x with later := false })))

/-! ### Landing (R265, R273, R275) -/

/-- A message that has landed does what its command does. -/
def takeMsg (x : Msg) : Act :=
  let c := x.code
  if c = mRdCur then fromPeer x (homeReq x .rdCur id)
  else if c = mRdShd then fromPeer x (homeReq x .rdShd id)
  else if c = mRdOwn then fromPeer x (homeReq x .rdOwn id)
  else if c = mWrLine then fromPeer x (homeReq x .wrLine fun r => { r with data := msgVal x })
  else if c = mWrPtl then fromPeer x (homeReq x .wrPtl fun r =>
    { r with data := some (lineOf (x.body.take 64)), mask := Bits.leNat ((x.body.drop 64).take 8) })
  else if c = mAtom then fromPeer x (homeAtom x)
  else if c = mSnpInv ∨ c = mSnpShd ∨ c = mFwdShd ∨ c = mFwdOwn ∨ c = mSnpResolve then fromPeer x (snooped x)
  else if c = mAckI then fromPeer x (visitorAnswer x.src x.line 0 false)
  else if c = mAckS then fromPeer x (visitorAnswer x.src x.line 1 false)
  else if c = mAckWb then fromPeer x (visitorAnswer x.src x.line 0 true)
  else if c = mCmp ∨ c = mData ∨ c = mFwdData then fromPeer x (visData x)
  else if c = mCmpErr then fromPeer x (visCmpErr x)
  else if c = mGntAck then fromPeer x (takeGntAck x)
  else if c = mClnEvict then fromPeer x (takeClnEvict (.peer x.src) x.line)
  else if c = mWbAck then fromPeer x (visWbAck x)
  else if c = mFwdFail then fromPeer x (takeFwdFail x)
  else if c = mWb then fromPeer x (takeWb x)
  else if c = mWbKeep then fromPeer x (takeWbKeep x)
  else if c = mSnpData then fromPeer x (takeSnpData x)
  else if c = mJoin then svcIn x (takeJoin x)
  else if c = mLeave then svcIn x (takeLeave x)
  else if c = mImgPut then svcIn x (takeImgPut x)
  else if c = mImgGet then svcIn x (takeImgGet x)
  else if c = mImgRelease then svcIn x (takeImgRelease x)
  else if c = mImgEvict then svcIn x (takeImgEvict x)
  else if c = mImgData then svcFrom x (takeImgData x)
  else if c = mMirWr then svcIn x (takeMirWr x)
  else if c = mMirOwn then svcIn x (takeMirOwn x)
  else if c = mMirPage then svcIn x (takeMirPage x)
  else if c = mMirFetch then svcIn x (takeMirFetch x)
  else if c = mPair then svcIn x (takePair x)
  else if c = mClaim then svcIn x (takeClaim x)
  else if c = mHeal then svcIn x (takeHeal x)
  else if c = mHandover then svcIn x (takeHandover x)
  else if c = mRmtBind then svcIn x (takeRmtBind x)
  else if c = mSvcAck then svcFrom x (takeSvcAck x)
  else protoErr (.peer x.src)

/-- The message ends a transaction or a service exchange of this sled: its REQ is in flight no longer (R272). -/
def endReq (x : Msg) : Act := .read fun m =>
  let ends := [mCmp, mCmpErr, mData, mFwdData, mSvcAck, mImgData].contains x.code
  let r := if 0x80 ≤ x.code then x.src else x.home
  .when (ends && x.rqs == m.self)
    (.some? (m.linkTo r) fun l => .blink l fun b => { b with reqs := b.reqs.filter fun q => q.1 != x.txid })

/-- Land a packet: *e* advances, its messages are delivered in order, and an acknowledgement goes when enough have landed
(R271, R275). A message of another class is a protocol error (R265). -/
def land (l : Nat) (f : Frame) : Act := .read fun m =>
  let p := l / 8
  .all [.inc .BQL_L_RX_EXPECT l 1,
    .blink l fun b => { b with landed := b.landed + 1, nakOpen := false, later := false, landFull := false, prio := f.prio },
    event (.boesque p) 0x61 f.cls 1, event (.boesque p) 0x61 7 1,
    .each f.msgs fun x =>
      let y := { x with src := l % 8 }
      if msgClass y.code ≠ f.cls then protoErr (.peer (l % 8)) else .seq (endReq y) (takeMsg y),
    .read fun m' => .when (m'.get .BQL_L_STATE l == blUp && decide (m.get .BQL_ACK_COUNT ≤ (m'.blink l).landed)) (sendCtl l 2 [])]

/-- A sequenced packet of the current session (R273, R275). -/
def landing (l : Nat) (f : Frame) : Act := .read fun m =>
  let e := m.get .BQL_L_RX_EXPECT l
  let b := m.blink l
  if f.seq = e then
    if f.fits then land l f
    else if b.landFull then .skip
    else .all [.blink l fun x => { x with landFull := true, nakOpen := true }, .inc .BQL_P_LAND_NAKS (l / 8) 1,
      raise (srcId 0x04 (16 + l / 8) 0) 0 0, sendNak l 1]
  else if seqBefore e f.seq then
    .seq (.when (!b.nakOpen) (sendNak l 0)) (.blink l fun x => { x with later := b.nakOpen, nakOpen := true })
  else
    .all [.inc .BQL_L_DUPLICATES l 1,
      .when (!(b.ackNo == some e && decide (m.now ≤ b.ackAt + 1000))) (sendCtl l 2 [])]

/-- The header breaks R264, R268 or R271. -/
def Mach.badHeader (m : Mach) (l : Nat) (f : Frame) : Bool :=
  f.ver != 1 || decide (4 < f.cls) || !f.reserved || decide (1024 * 2 ^ m.get .BQL_L_MTU l < f.len) || f.src != l % 8
    || f.dst != m.self || (f.cls == 4 && !(1 ≤ f.ctlType && f.ctlType ≤ 6))
    || (!(f.cls == 4 && f.ctlType == 1) && (f.session != m.get .BQL_L_SESSION l || m.get .BQL_L_STATE l == blDown
        || m.get .BQL_L_STATE l == blHello))

/-- FRAME_RECEIVE: the drops of R258, R262, R264 and R271, then the acknowledgement, then R275. The content of a control packet is
a command of its own. -/
def frameReceive (p : Nat) (f : Frame) : Act := .read fun m =>
  .when (m.sled == .dx32 && m.flag .BQL_P_POWERED p && !m.portDead p)
    (if f.pause ∨ !f.fcsOk then .inc .BQL_P_FCS_DROPS p 1
     else if f.dstMac ≠ m.get .BQL_P_MAC p then .skip
     else match (m.portLinks p).find? fun l => m.get .BQL_L_PEER_MAC l == f.srcMac with
     | none => .skip
     | some l =>
      if !f.icvOk ∨ (m.keys.sak.find? (2 * l + f.an % 2)).isNone then .inc .BQL_P_ICV_DROPS p 1
      else if f.ethertype ≠ m.get .BQL_ETHERTYPE then .skip
      else if m.badHeader l f then .inc .BQL_L_BAD_HDR l 1
      else .all [.when f.ackv (onLive l (acked l f.ack)),
        if f.cls = 4 then .seq (event (.boesque p) 0x61 4 1) (event (.boesque p) 0x61 7 1)
        else .when (m.get .BQL_L_STATE l == blUp) (landing l f)])

/-! ### Renegotiation (R281, R282) -/

/-- An accepted proposal takes effect: the rate of the link, or with a PHY change both sleds hold and the port retrains (R282). -/
def applyReneg (l rate : Nat) (phy : Bool) : Act :=
  if phy then
    .all [.set .BQL_L_STATE l blHeld, .prim (.bql fun b => { b with modes := b.modes.set (l / 8) 0 (2 - rate) }),
      portSettle (l / 8), newRound l]
  else .set .BQL_L_RATE l rate

/-- This sled's port can run a proposal: with a PHY change on a direct port, the lanes of the new mode; else a rate that its mode
reaches (R281, R282). -/
def Mach.canRun (m : Mach) (l rate : Nat) (phy : Bool) : Bool :=
  let p := l / 8
  if phy then m.flag .BQL_P_DIRECT p &&
    (if rate = 2 then m.get .BQL_P_LANES p == 0xFF else rate == 1 && m.get .BQL_P_LANES p % 16 == 15)
  else (rate == 1 || rate == 2) && decide (rate ≤ m.modeRate p)

/-- Answer a proposal (Table 12.7). -/
def answerReneg (l ident rate : Nat) (phy : Bool) : Act := .read fun m =>
  let ok := m.canRun l rate phy
  .seq (sendCtl l 6 [ident, if ok then 0 else 1]) (.when ok (applyReneg l rate phy))

/-- RENEG received: ignored and counted outside Up; against a crossing proposal the one of the lower identity word stands, and the
other sled withdraws its own (R281, R282). -/
def takeReneg (l pid rate : Nat) (phy : Bool) (ident : Nat) : Act := .read fun m =>
  .when (m.sled == .dx32 && m.flag .BQL_L_EN l)
    (if m.get .BQL_L_STATE l ≠ blUp then .inc .BQL_L_RENEG_LOST l 1
     else match (m.blink l).reneg with
      | none => answerReneg l pid rate phy
      | some own =>
        if m.get .ID_IDENT < ident then .skip
        else .all [.blink l fun b => { b with reneg := none }, sendCtl l 6 [own.id, 2], answerReneg l pid rate phy])

/-- RENEG_ANS received (R282). -/
def takeRenegAns (l pid result : Nat) : Act := .read fun m =>
  .when (m.get .BQL_L_STATE l == blUp)
    (.some? ((m.blink l).reneg.filter fun q => q.id == pid && result != 2) fun q =>
      .seq (.blink l fun b => { b with reneg := none }) (.when (result == 0) (applyReneg l q.rate q.phy)))

/-- Send a proposal. -/
def sendReneg (l : Nat) (q : Proposal) : Act := .read fun m =>
  sendCtl l 5 [q.id, q.rate, Bits.ofBool q.phy, m.get .ID_IDENT]

/-- RENEG_RETRY: sent again every 100 µs up to 10 times, then abandoned and counted (R281). -/
def renegRetry (l : Nat) : Act := .read fun m =>
  .some? (m.blink l).reneg fun q =>
    if q.again < 10 then .seq (.blink l fun b => { b with reneg := some { q with again := q.again + 1 } }) (sendReneg l q)
    else .seq (.blink l fun b => { b with reneg := none }) (.inc .BQL_L_RENEG_LOST l 1)

/-- PORT_LANE_CHANGE: the lanes with PCS lock; each link that is Up proposes the rate that they carry, with a PHY change on a
direct port (R259, R281). -/
def portLaneChange (p lanes : Nat) : Act := .read fun m =>
  let rate := if lanes % 256 = 0xFF then 2 else if lanes % 16 = 15 then 1 else 0
  let phy := m.flag .BQL_P_DIRECT p && rate != m.modeRate p
  .when (m.sled == .dx32 && m.flag .BQL_P_POWERED p)
    (.all [.set .BQL_P_LANES p lanes, portSettle p,
      .each ((m.portLinks p).filter fun l => m.get .BQL_L_STATE l == blUp && (m.blink l).reneg.isNone) fun l =>
        .when (rate != 0 && rate != m.get .BQL_L_RATE l && (phy || decide (rate ≤ m.modeRate p)))
          (let q : Proposal := { id := ((m.blink l).renegId + 1) % 256, rate := rate, phy := phy }
           .seq (.blink l fun b => { b with reneg := some q, renegId := q.id }) (sendReneg l q))])

/-! ### Meanings -/

/-- PORT_ENABLE (R430). -/
def execPortEnable (p : Nat) (v : Bool) (s : State) : Host.Outcome State Fault Refusal := s.act (portEnable p v)

/-- LINK_ENABLE (R260). -/
def execLinkEnable (l : Nat) (v : Bool) (s : State) : Host.Outcome State Fault Refusal := s.act (linkEnable l v)

/-- AN_TX_WRITE (R283). -/
def execAnTxWrite (l v : Nat) (s : State) : Host.Outcome State Fault Refusal := s.act (anTxWrite l v)

/-- FRAME_RECEIVE (R275). -/
def execFrameReceive (p : Nat) (f : Frame) (s : State) : Host.Outcome State Fault Refusal := s.act (frameReceive p f)

/-- PACKET_SEND (R271). -/
def execPacketSend (l cls prio n : Nat) (s : State) : Host.Outcome State Fault Refusal := s.act (packetSend l cls prio n)

/-- HELLO (R269). -/
def execHello (l : Nat) (h : Hello) (s : State) : Host.Outcome State Fault Refusal := s.act (hello l h)

/-- ACK (R276). -/
def execAck (l n : Nat) (s : State) : Host.Outcome State Fault Refusal := s.act (takeAck l n)

/-- NAK (R276). -/
def execNak (l n _reason : Nat) (s : State) : Host.Outcome State Fault Refusal := s.act (takeNak l n)

/-- KEEPALIVE (R278). -/
def execKeepalive (l n : Nat) (s : State) : Host.Outcome State Fault Refusal := s.act (takeKeepalive l n)

/-- RENEG (R281). -/
def execReneg (l pid rate : Nat) (phy : Bool) (ident : Nat) (s : State) : Host.Outcome State Fault Refusal :=
  s.act (takeReneg l pid rate phy ident)

/-- RENEG_ANS (R282). -/
def execRenegAns (l pid result : Nat) (s : State) : Host.Outcome State Fault Refusal := s.act (takeRenegAns l pid result)

/-- HELLO_TIMER (R269). -/
def execHelloTimer (l : Nat) (s : State) : Host.Outcome State Fault Refusal := s.act (helloTimer l)

/-- KEEPALIVE_TIMER (R278). -/
def execKeepaliveTimer (l : Nat) (s : State) : Host.Outcome State Fault Refusal := s.act (keepaliveTimer l)

/-- ACK_TIMER (R275). -/
def execAckTimer (l : Nat) (s : State) : Host.Outcome State Fault Refusal := s.act (ackTimer l)

/-- NAK_REPEAT (R275). -/
def execNakRepeat (l : Nat) (s : State) : Host.Outcome State Fault Refusal := s.act (nakRepeat l)

/-- REPLAY_TIMEOUT (R276). -/
def execReplayTimeout (l : Nat) (s : State) : Host.Outcome State Fault Refusal := s.act (replayTimeout l)

/-- LANDING_STALL_TIMEOUT (R273). -/
def execLandingStallTimeout (l : Nat) (s : State) : Host.Outcome State Fault Refusal := s.act (landingStall l)

/-- RENEG_RETRY (R281). -/
def execRenegRetry (l : Nat) (s : State) : Host.Outcome State Fault Refusal := s.act (renegRetry l)

/-- PORT_LANE_CHANGE (R281). -/
def execPortLaneChange (p lanes : Nat) (s : State) : Host.Outcome State Fault Refusal := s.act (portLaneChange p lanes)

/-- LINK_LOSS (R278). -/
def execLinkLoss (l : Nat) (s : State) : Host.Outcome State Fault Refusal := s.act (linkLoss l)

/-- GRACE_EXPIRY (R279). -/
def execGraceExpiry (l : Nat) (s : State) : Host.Outcome State Fault Refusal := s.act (graceExpiry l)

/-- FLUSH_COMPLETE (R279). -/
def execFlushComplete (l : Nat) (s : State) : Host.Outcome State Fault Refusal := s.act (flushComplete l)

end Sys2Proof.Machine
end

