-- ==== Sys2Proof/Machine/Regulation.lean ====
section
/-!
DEFINITION. Regulation (chapter "Regulation and the tide table"): guarantees and their shares, the tide table, shrinking, the
issue of accesses window by window, and deficits.
-/

namespace Sys2Proof.Machine

/-! ### Masters and shares (R310, R311) -/

/-- Master ports that a sled has (Table 14.1). -/
def masterPresent (s : Sled) (k : Nat) : Bool :=
  k < s.heads || ((k == 64 || k == 65) && s == .dx32) || (66 ≤ k && k < 66 + s.pick 4 2) || (70 ≤ k && k ≤ 73)

/-- A set from the fields of the masters: every master with a guarantee (R312). Boesque masters are senior (R319). -/
def setFrom (sl : Sled) (g : Fld → Nat → Nat) : List Share :=
  ((List.range 74).filter fun k => g .RGL_M_GUAR k != 0).map fun k =>
    { master := k, guar := g .RGL_M_GUAR k, chans := g .RGL_M_CHANSET k % 2 ^ sl.chans, tags := g .RGL_M_TAGS k == 1,
      senior := k == 64 || k == 65 || g .RGL_M_SENIOR k == 1 }

/-- The staged set. -/
def Mach.staged (m : Mach) : List Share := setFrom m.sled fun f k => m.get f k

/-- The reset set: that of the fields' reset values (R321). -/
def Mach.resetSet (m : Mach) : List Share := setFrom m.sled fun f k => Fld.reset m.sled k f

/-- Guaranteeable bandwidth at a settled rate, coded as `DRM_C_RATE` (Table 14.2): floor of 0.62 × 8 × rate. -/
def rateGc (code : Nat) : Nat := ([0, 4800, 5600, 6400, 7200, 8000, 8800].getD code 0) * 496 / 100

/-- In-service channels of a share. -/
def Mach.shareChans (m : Mach) (x : Share) : List Nat :=
  (Bits.ones x.chans m.sled.chans).filter fun c => m.flag .DRM_C_INSERVICE c

/-- The DRAM guarantee of a share on a channel in MB/s (R310). -/
def Mach.shareD (m : Mach) (x : Share) (c : Nat) : Nat :=
  let cs := m.shareChans x
  let total := if x.tags then x.guar * 100 * 9 / 8 else x.guar * 100
  if cs.contains c then total / cs.length else 0

/-- The windows of a share on a channel (R311). -/
def Mach.shareW (m : Mach) (x : Share) (c : Nat) : Nat :=
  if m.shareD x c = 0 then 0 else Bits.ceilDiv (64 * m.shareD x c) (m.get .RGL_C_GC c)

/-! ### The tide table (R313, R315) -/

/-- A 6-bit number read bit-reversed. -/
def reverse6 (k : Nat) : Nat := ((List.range 6).map fun i => Bits.field k i 1 * 2 ^ (5 - i)).sum

/-- Seniors first, each part by increasing id (R313). -/
def bySenior (l : List Share) : List Share := l.filter (·.senior) ++ l.filter fun x => !x.senior

/-- Take one window from the non-senior master that holds the most, the lowest id at a tie (R315). -/
def takeWindow (l : List (Share × Nat)) : List (Share × Nat) :=
  let most := l.foldl (fun (b : Option (Share × Nat)) x =>
    if x.1.senior then b else match b with
    | none => some x
    | some y => if y.2 < x.2 then some x else b) none
  match most with
  | none => l
  | some y => l.map fun x => if x.1 = y.1 then (x.1, x.2 - 1) else x

/-- Windows summed at most 64, one removed at a time (R315). -/
def trimWindows : Nat → List (Share × Nat) → List (Share × Nat)
  | 0, l => l
  | n + 1, l => if 64 < (l.map (·.2)).sum then trimWindows n (takeWindow l) else l

/-- The windows of each share of a channel's set. -/
def Mach.windows (m : Mach) (c : Nat) : List (Share × Nat) :=
  let l := (bySenior ((m.rgl.sets.find? c).getD [])).map fun x => (x, m.shareW x c)
  trimWindows ((l.map (·.2)).sum - 64) l

/-- The owner of each window in the order of assignment, 0x7F where none is left (R313). -/
def Mach.owners (m : Mach) (c : Nat) : List Nat :=
  let l := (m.windows c).flatMap fun x => List.replicate x.2 x.1.master
  (l ++ List.replicate (64 - l.length) 0x7F).take 64

/-- The table of a channel: window k is the `reverse6 k`-th assigned (R313). -/
def Mach.tideTable (m : Mach) (c : Nat) : List Nat :=
  let o := m.owners c
  (List.range 64).map fun k => o.getD (reverse6 k) 0x7F

/-! ### Shrinking (R314, R316) -/

/-- The channel limit of a power profile, in MB/s (Table 20.1). -/
def profileLimit : Nat → Option Nat
  | 0 => none
  | 1 => some 40000
  | 2 => some 30000
  | 3 => some 20000
  | _ => some 8000

/-- The live guaranteeable bandwidth of a channel (R314). -/
def Mach.liveGc (m : Mach) (c : Nat) : Nat :=
  let g := m.get .RGL_C_GC c
  if !m.flag .DRM_C_INSERVICE c then 0
  else
    let g := if m.flag .DRM_C_DOUBLE_REF c then g * 92 / 100 else g
    match profileLimit (m.get .CSW_PROFILE) with
    | none => g
    | some l => min g l

/-- The causes in force, in the order of `RGL_C_CAUSE`: double refresh, power profile, retired or powered down (Table 14.5). -/
def Mach.gcCauses (m : Mach) (c : Nat) : Nat :=
  let lim := match profileLimit (m.get .CSW_PROFILE) with | none => false | some l => decide (l < m.get .RGL_C_GC c)
  Bits.ofBool (m.flag .DRM_C_DOUBLE_REF c) + 2 * Bits.ofBool lim + 4 * Bits.ofBool (!m.flag .DRM_C_INSERVICE c)

/-- `RGL_C_GC_LIVE` and `RGL_C_CAUSE` follow their conditions. A channel that carries no set has nothing to shrink. -/
def liveUpdate (c : Nat) : Act := .read fun m =>
  .when (m.get .RGL_C_GC c != 0 && (m.liveGc c != m.get .RGL_C_GC_LIVE c || m.gcCauses c != m.get .RGL_C_CAUSE c))
    (.seq (.set .RGL_C_GC_LIVE c (m.liveGc c)) (.set .RGL_C_CAUSE c (m.gcCauses c)))

/-- Every channel's live bandwidth. -/
def liveAll : Act := .read fun m => .each (List.range m.sled.chans) liveUpdate

/-- The scales of senior and other entitlements on a channel, in 1/1,024, and whether it is shrunk (R316). -/
def Mach.shrink (m : Mach) (c : Nat) : Nat × Nat × Bool :=
  let l := (m.rgl.sets.find? c).getD []
  let s := ((l.filter (·.senior)).map fun x => m.shareD x c).sum
  let n := ((l.filter fun x => !x.senior).map fun x => m.shareD x c).sum
  let g := m.get .RGL_C_GC_LIVE c
  if s + n ≤ g then (1024, 1024, false)
  else if s ≤ g then (1024, 1024 * (g - s) / n, true)
  else (1024 * g / s, 0, true)

/-- The entitlement of a share in lines per frame under a scale (R311, R316). -/
def entitlement (d scale : Nat) : Nat := if scale = 1024 then d * 32 / 1000 else d * 2048 * scale / (1000 * 1024 * 64)

/-- Entitlements of a channel as its shrink now stands, with the record of a shrink that starts or ends (R316). A channel with no
set in service has entitlements 0. -/
def applyShrink (c : Nat) : Act := .read fun m =>
  let (ks, kn, on') := m.shrink c
  let was := m.flag .RGL_C_SHRUNK c
  .all [.set .RGL_C_SCALE c kn, .set .RGL_C_SHRUNK c (Bits.ofBool on'),
    .when (on' && !was) (lhLog 0 0x0020 c (m.get .RGL_C_CAUSE c + 2 ^ 16 * kn)),
    .when (!on' && was) (lhLog 0 0x0021 c 0),
    .each (List.range 74) fun k =>
      .set .RGL_MC_ENT (74 * c + k)
        (match ((m.rgl.sets.find? c).getD []).find? (·.master == k) with
         | none => 0
         | some x => entitlement (m.shareD x c) (if x.senior then ks else kn))]

/-- What the registers say of a set that a channel runs: table, shares and windows (R310, R311, R313). -/
def rebuild (c : Nat) : Act := .read fun m =>
  let t := m.tideTable c
  .all [.each (List.range 8) fun j =>
      .set .RGL_C_TABLE (8 * c + j) (((List.range 8).map fun b => t.getD (8 * j + b) 0x7F * 2 ^ (8 * b)).sum),
    .each (m.windows c) fun x =>
      .when (m.shareD x.1 c != 0 || (m.shareChans x.1).isEmpty)
        (.all [.set .RGL_M_DRAM x.1.master (m.shareD x.1 c), .set .RGL_M_WINDOWS x.1.master x.2])]

/-- A set applies on a channel: masters that are in it no longer have no share (R312). -/
def applySet (c : Nat) (l : List Share) : Act := .read fun m =>
  .all [.each (((m.rgl.sets.find? c).getD []).filter fun x => !l.any fun y => y.master == x.master) fun x =>
      .all [.set .RGL_M_DRAM x.master 0, .set .RGL_M_WINDOWS x.master 0],
    .prim (.rgl fun r => { r with sets := r.sets.put c l }), rebuild c, applyShrink c]

/-! ### Commit (R312, Table 14.4) -/

/-- The refusal code of the staged set and, for code 1, the channel; the lowest code that holds. Code 3 cannot arise: the bits of
absent channels are reserved and read 0 (R470). -/
def Mach.commitErr (m : Mach) : Option (Nat × Nat) :=
  let l := m.staged
  let full := ((List.range m.sled.chans).filter fun c => m.flag .DRM_C_INSERVICE c).find? fun c =>
    decide (64 < (l.map fun x => m.shareW x c).sum)
  let starved := fun (k : Nat) => m.get .RGL_M_GUAR (64 + k) == 0 && m.flag .BQL_P_EN k
  match full with
  | some c => some (1, c)
  | none =>
    if l.any fun x => (m.shareChans x).isEmpty then some (2, 0)
    else if l.any fun x => !masterPresent m.sled x.master then some (4, 0)
    else if m.sled == .dx32 && (starved 0 || starved 1) then some (5, 0)
    else if !m.rgl.pendFor.isEmpty then some (6, 0)
    else none

/-- RGL_COMMIT: the staged set is checked, and admitted for the next boundary at least 1 µs later, or refused (R312). -/
def rglCommit : Act := .read fun m =>
  match m.commitErr with
  | some e => .all [.set .RGL_STATUS 0 3, .set .RGL_ERR 0 e.1, .set .RGL_ERR_CHAN 0 e.2]
  | none =>
    .all [.set .RGL_STATUS 0 1, .set .RGL_ERR 0 0,
      .prim (.rgl fun r => { r with pending := m.staged,
                                    pendFor := (List.range m.sled.chans).filter fun c => m.flag .DRM_C_INSERVICE c })]

/-- The reset set applies at Memory Active without a commit (R321). -/
def applyResetSet : Act := .read fun m =>
  .each ((List.range m.sled.chans).filter fun c => m.flag .DRM_C_INSERVICE c) fun c =>
    .all [.set .RGL_C_GC c (rateGc (m.get .DRM_C_RATE c)), liveUpdate c, applySet c m.resetSet]

/-! ### Frames (R317, R320) -/

/-- Lines of a master's accesses that wait on a channel; a line that is not issued counts as one (R306). -/
def Mach.waitingLines (m : Mach) (c k : Nat) : Nat :=
  (m.lines.accs.filter fun a => a.chan == c && a.master == k && !a.issued).length

/-- One master at the end of a frame on a channel (R317). -/
def endFrame (c k : Nat) : Act := .read fun m =>
  let i := 74 * c + k
  let r := (m.rgl.recv.find? (128 * c + k)).getD 0
  let q := r + m.waitingLines c k
  let e := m.get .RGL_MC_ENT i
  let due := min e q
  .all [.when (r != m.get .RGL_MC_LAST i || q != m.get .RGL_MC_DEMAND i)
      (.seq (.set .RGL_MC_LAST i (r % 65536)) (.set .RGL_MC_DEMAND i (min q 65535))),
    .when (!m.rgl.off.contains c && decide (r < due))
      (.all [.sat .RGL_MC_DEFICIT i (due - r) (2 ^ 32 - 1), .inc .RGL_MC_MISSED i 1, .inc .RGL_M_MISSED k 1,
        .inc .RGL_MISSED_TOTAL 0 1, raise (srcId 0x03 c 2) k 0])]

/-- FRAME_BOUNDARY of a channel in service: deficits of the frame, then an admitted set, then the enable, then a shrink that
begins, changes or ends (R312, R316, R317, R320). Frames of all channels are aligned; the first channel in service counts them. -/
def frameBoundary (c : Nat) : Act := .read fun m =>
  let first := ((List.range m.sled.chans).find? fun x => m.flag .DRM_C_INSERVICE x) == some c
  let applies := m.rgl.pendFor.contains c
  let last := applies && m.rgl.pendFor == [c]
  .when (decide (c < m.sled.chans) && m.flag .DRM_C_INSERVICE c && !m.ebbing)
    (.all [.each (List.range 74) (endFrame c), .when first (.inc .RGL_FRAMES 0 1),
      .prim (.rgl fun r => { r with recv := r.recv.filter fun p => p.1 / 128 != c }),
      .when applies (.all [.prim (.rgl fun r => { r with pendFor := r.pendFor.filter (· != c) }), applySet c m.rgl.pending]),
      .when last (.set .RGL_STATUS 0 2),
      .prim (.rgl fun r => { r with off := if m.flag .RGL_EN then r.off.filter (· != c) else if r.off.contains c then r.off else r.off ++ [c] }),
      applyShrink c])

/-- RGL_EN_WRITE: each channel takes the change at its next boundary (R320). -/
def rglEnWrite (v : Bool) : Act := .seq (.set .RGL_WR_REFUSED 0 0) (.set .RGL_EN 0 (Bits.ofBool v))

/-! ### Windows (R307) -/

/-- Distance of a master from the round-robin pointer, over ids 0 to 126. -/
def rrDist (ptr k : Nat) : Nat := (k + 127 - ptr % 127) % 127

/-- The first access in the round-robin order of masters, and of one master the oldest. -/
def rrFirst (ptr : Nat) (l : List Access) : Option Access :=
  l.foldl (fun (b : Option Access) a => match b with
    | none => some a
    | some x => if rrDist ptr a.master < rrDist ptr x.master then some a else b) none

/-- The header priority of an access: a descriptor's or a packet's, or its master's (R308). -/
def Mach.prioOf (m : Mach) (a : Access) : Nat := a.prio.getD (m.get .RGL_M_PRIO a.master)

/-- The owner of a window of a channel. -/
def Mach.owner (m : Mach) (c w : Nat) : Nat := Bits.field (m.get .RGL_C_TABLE (8 * c + w / 8)) (8 * (w % 8)) 8

/-- The access that a window issues, whether under rank 4 or 5, and whether the pointer moves. Rank 1 never occurs, as no command leaves LOCK set; ranks 2 and 3
need the master below its entitlement; among equals the round-robin pointer decides (R307, R320). The pointer moves when rank 4
leaves accesses that rank 5 chose from. -/
def Mach.choose (m : Mach) (c w : Nat) : Option (Access × Bool × Bool) :=
  let l := m.lines.accs.filter fun a => a.chan == c && !a.issued
  let ptr := m.get .RGL_C_PTR c
  let below := fun (a : Access) =>
    decide ((m.rgl.recv.find? (128 * c + a.master)).getD 0 < m.get .RGL_MC_ENT (74 * c + a.master))
  let senior := fun (a : Access) => ((m.rgl.sets.find? c).getD []).any fun x => x.master == a.master && x.senior
  let on' := !m.rgl.off.contains c
  let r2 := if on' && m.flag .RGL_C_SHRUNK c then l.filter fun a => senior a && below a else []
  let r3 := if on' then l.filter fun a => a.master == m.owner c w && below a else []
  let top := (l.map m.prioOf).foldl max 0
  let r4 := l.filter fun a => m.prioOf a == top
  match rrFirst ptr r2, rrFirst ptr r3 with
  | some a, _ => some (a, false, false)
  | none, some a => some (a, false, false)
  | none, none => (rrFirst ptr r4).map fun a => (a, true, r4.length == l.length || r4.any fun b => b.master != a.master)

/-- WINDOW_ISSUE: in a window, the waiting access of highest rank is issued; it counts as received (R306, R307). -/
def windowIssue (c w : Nat) : Act := .read fun m =>
  .when (decide (c < m.sled.chans) && m.flag .DRM_C_INSERVICE c && !m.ebbing)
    (.some? (m.choose c (w % 64)) fun x =>
      .all [.prim (.lines fun l => { l with accs := l.accs.map fun a => if a.id = x.1.id then { a with issued := true } else a }),
        charge c x.1.master 1 false, .when x.2.2 (.set .RGL_C_PTR c ((x.1.master + 1) % 127)),
        .when x.2.1 (event (.chan c) 0x45 0 1)])

/-! ### A channel leaves service (R315) -/

/-- Every master's share is spread again over the channels of its set that remain, and the tables are rebuilt (R315). -/
def spreadAgain : Act := .read fun m =>
  .each ((List.range m.sled.chans).filter fun c => (m.rgl.sets.find? c).isSome) fun c =>
    .all [liveUpdate c, rebuild c, applyShrink c]

/-- A channel serves grain space no longer. -/
def leaveService (c : Nat) : Act := .read fun m =>
  .when (m.flag .DRM_C_INSERVICE c)
    (.all [.set .DRM_C_INSERVICE c 0, .prim (.rgl fun r => { r with pendFor := r.pendFor.filter (· != c) }), spreadAgain])

/-- CHANNEL_LEAVE_SERVICE: a channel whose DIMMs have all been retired, or that is isolated, leaves service (R315, R340, R365). -/
def channelLeaveService (c : Nat) : Act := .read fun m =>
  let alive := m.get .DRM_D_STATE (2 * c) == 1 || m.get .DRM_D_STATE (2 * c) == 2 || m.get .DRM_D_STATE (2 * c + 1) == 1
    || m.get .DRM_D_STATE (2 * c + 1) == 2
  .when (decide (c < m.sled.chans) && (!alive || m.bkw.isolated.contains (0x03, c))) (leaveService c)

/-! ### Meanings -/

/-- WINDOW_ISSUE (R307). -/
def execWindowIssue (c w : Nat) (s : State) : Host.Outcome State Fault Refusal := s.act (windowIssue c w)

/-- FRAME_BOUNDARY (R317). -/
def execFrameBoundary (c : Nat) (s : State) : Host.Outcome State Fault Refusal := s.act (frameBoundary c)

/-- RGL_COMMIT (R312). -/
def execRglCommit (s : State) : Host.Outcome State Fault Refusal := s.act rglCommit

/-- RGL_EN_WRITE (R320). -/
def execRglEnWrite (v : Bool) (s : State) : Host.Outcome State Fault Refusal := s.act (rglEnWrite v)

/-- CHANNEL_LEAVE_SERVICE (R315). -/
def execChannelLeaveService (c : Nat) (s : State) : Host.Outcome State Fault Refusal := s.act (channelLeaveService c)

end Sys2Proof.Machine
end

