-- ==== Sys2Proof/Machine/Channels.lean ====
section
/-!
DEFINITION. The memory channels and DIMMs in service (chapter "Memory channels and DIMMs"): retirement, refresh, drift tracking,
the maintenance port, scrub and row repair. Bringing a population up is in Startup.lean.
-/

namespace Sys2Proof.Machine

/-! ### Commands of a channel harbour to its DIMMs, the kinds of `Out.dimm` -/

/-- A maintenance-port command; its argument is the command. -/
def dimmMp : Nat := 0
/-- All-bank refresh of a logical rank. -/
def dimmRefresh : Nat := 1
/-- Self-refresh entry of a slot's ranks, or of every rank with argument 2. -/
def dimmSelfRefresh : Nat := 2
/-- Self-refresh exit of every rank. -/
def dimmExit : Nat := 3
/-- Soft post-package repair of a row, named by its lowest block. -/
def dimmSppr : Nat := 4
/-- Disable of a slot's PMIC through its hub. -/
def dimmPmicOff : Nat := 5
/-- Power of the harbour: 0 removed, 1 applied. -/
def dimmPower : Nat := 6
/-- The corrected codeword of a burst is written back; the argument is its grain address. -/
def dimmWriteBack : Nat := 7
/-- Hard post-package repair of a row, named by its lowest block. -/
def dimmHppr : Nat := 8
/-- Start of the DQS interval oscillators of a package rank, 0, or a read of their counts, 1, plus twice the rank. -/
def dimmOscillator : Nat := 9
/-- Training of a package rank through the maintenance port. -/
def dimmTrain : Nat := 10

/-- A write to the DRM block is refused (R343). -/
def drmRefused : Act := .set .DRM_WR_REFUSED 0 1

/-- A write to the DRM block is taken. -/
def drmDone : Act := .set .DRM_WR_REFUSED 0 0

/-! ### Retirement (R300, R339) -/

/-- The Guaranteed atolls that hold reservations. -/
def Mach.guaranteed (m : Mach) : List Nat :=
  m.atolls.filter fun n => (m.get .ATL_STATE n == atlLive || m.get .ATL_STATE n == atlRetiring) && !m.isElastic n

/-- The Guaranteed reservations fit without one DIMM: R47 over the sled and on its channel, where each reservation is spread over the
channels of its set (R48). -/
def Mach.fitsWithout (m : Mach) (d : Nat) : Bool :=
  let m' := m.withFields d [(.DRM_D_STATE, 3)]
  let gs := m.guaranteed
  let c := d / 2
  let here := ((gs.filter fun a => (m.chanSet a).contains c).map fun a => 720720 / (m.chanSet a).length * m.reservation a).sum
  m'.sledFits (gs.map m.reservation).sum m.poolPlots
    && decide (10000 * here ≤ 720720 * ((10000 - 50 - m.get .GRN_FLOOR_BP) * m'.chanPlots c))

/-- Blocks of grain space on a DIMM. -/
def Mach.dimmBlocks (m : Mach) (d : Nat) : List Nat :=
  (List.range (m.grain.stripeCount * 512)).filter fun b => m.dimmOf (256 * b) == d

/-- Free plots of a home on a DIMM that stays in service so far. -/
def Mach.freeOn (m : Mach) (h d : Nat) : Nat :=
  (((m.dimmBlocks d).filter fun b => m.stripeHome (b / 512) == h).map fun b => freeIn (m.plotWord b)).sum

/-- Plots of a home on a DIMM that count as quarantined. -/
def Mach.quarOn (m : Mach) (h d : Nat) : Nat :=
  (((m.dimmBlocks d).filter fun b => m.stripeHome (b / 512) == h).map fun b =>
    ((List.range 16).filter fun j => m.plotState (16 * b + j) == 3).length).sum

/-- Every free plot of a DIMM becomes quarantined: the allocators place nothing there from now on. -/
def closeDimm (d : Nat) : Act := .read fun m =>
  .each (List.range m.sled.homes) fun h =>
    let n := m.freeOn h d
    .when (decide (n ≠ 0)) (.all [.set .GRN_FREE h (m.get .GRN_FREE h - n), .inc .GRN_QUAR h n])

/-- A DIMM that is in service, the one that can be evacuated. -/
def Mach.dimmServes (m : Mach) (d : Nat) : Bool := decide (d < m.sled.dimms) && m.get .DRM_D_STATE d == 1

/-- The evacuation of a DIMM in service starts (R300). Relocation, pushes and releases then empty the DIMM. -/
def evacuate (d : Nat) : Act :=
  .all [closeDimm d, .set .DRM_D_STATE d 2, .set .ARC_EVAC_STATE 0 1,
      .prim (.chan fun c => { c with evac := some d }), structLeave,
      .read fun m' => evictHeld fun h => m'.dimmOf h.ga == d, leftUpdate, tallyAll]

/-- DIMM_RETIRE: the evacuation of a DIMM in service starts, or is refused (R48, R339). -/
def dimmRetire (d : Nat) : Act := .read fun m =>
  .when (m.dimmServes d)
    (if m.fitsWithout d then .seq drmDone (evacuate d) else .all [drmRefused, .set .ARC_EVAC_STATE 0 3])

/-- The channel of a slot has no DIMM left in service. -/
def Mach.chanRetired (m : Mach) (c : Nat) : Bool :=
  let a := m.get .DRM_D_STATE (2 * c)
  let b := m.get .DRM_D_STATE (2 * c + 1)
  [0, 3, 5].contains a && [0, 3, 5].contains b && (a != 0 || b != 0)

/-- EVACUATION_COMPLETE: nothing is left on the DIMM: its ranks enter self-refresh for good, its plots stay quarantined and its serial
number is recorded; a channel with no other DIMM in service is retired with it (R339, R340). -/
def evacuationComplete (d : Nat) : Act :=
  .seq structLeave (.read fun m =>
    .when (m.get .DRM_D_STATE d == 2 && m.dimmLeft d == 0)
      (.all [.emit (.dimm (d / 2) dimmSelfRefresh (d % 2)),
        .prim (.chan fun c => { c with
          gone := (List.range m.sled.homes).foldl (fun g h => g.set h 0 ((g.find? h).getD 0 + m.quarOn h d)) c.gone
          retired := c.retired.put d (m.get .DRM_D_SERIAL d) }),
        .set .DRM_D_STATE d 3, .set .DRM_D_LEFT d 0,
        .when (m.chan.evac == some d) (.all [.set .ARC_EVAC_LEFT 0 0, .set .ARC_EVAC_STATE 0 2]),
        .read fun m' => .when (m'.chanRetired (d / 2)) (leaveService (d / 2)), tallyAll]))

/-- CHANNEL_POWER_DOWN: the PMICs of a retired channel's DIMMs are disabled and its harbour loses power; refused for any other
(R340). -/
def channelPowerDown (c : Nat) : Act := .read fun m =>
  if m.sled.chans ≤ c then .skip
  else if m.chanRetired c then
    .all [drmDone, .set .DRM_C_PWRDN c 1,
      .each ([2 * c, 2 * c + 1].filter fun d => m.get .DRM_D_STATE d != 0) fun d => .emit (.dimm c dimmPmicOff (d % 2)),
      .emit (.dimm c dimmPower 0), .set .DRM_C_POWERED c 0, leaveService c]
  else drmRefused

/-! ### Temperature and refresh (R325, R334) -/

/-- A temperature as `DRM_D_TEMP` holds it: 12 bits, two's complement. -/
def tempCode (t : Int) : Nat := (t % 4096).toNat

/-- The temperature that a code stands for, in 0.25 °C. -/
def tempOf (x : Nat) : Int := if x < 2048 then (x : Int) else (x : Int) - 4096

/-- DIMM_TEMP_POLL: the highest reading of a DIMM's sensors. Above 85 °C the channel refreshes at twice the rate, until every sensor of
the channel has read at or below 82 °C for 1 s (R334); above 95 °C the channel's source is raised, once per excursion
(Table 23.9). -/
def dimmTempPoll (d : Nat) (t : Int) (cool : Bool) : Act := .read fun m =>
  let c := d / 2
  let other := if d % 2 = 0 then d + 1 else d - 1
  let calm := decide (t ≤ 328) && (m.get .DRM_D_STATE other == 0 || decide (tempOf (m.get .DRM_D_TEMP other) ≤ 328))
  .when (decide (d < m.sled.dimms) && m.get .DRM_D_STATE d != 0)
    (.all [.set .DRM_D_TEMP d (tempCode t),
      sensorEvent (sensorDimm d) (sensorLevel (tempOf (m.get .DRM_D_TEMP d)) 340 380 420) (sensorLevel t 340 380 420),
      if 340 < t then .set .DRM_C_DOUBLE_REF c 1
      else .when (cool && calm) (.set .DRM_C_DOUBLE_REF c 0),
      liveUpdate c,
      .when (decide (380 < t) && !m.chan.hot.contains d)
        (.all [.prim (.chan fun x => { x with hot := x.hot ++ [d] }), raise (srcId 0x03 c 4) d (tempCode t)]),
      .when (decide (t ≤ 380)) (.prim (.chan fun x => { x with hot := x.hot.filter (· != d) }))])

/-- The three fields of a lane in a word as the register holds them (Table 15.8). -/
def laneFields (w : Nat) : Nat := w % 1024 + 2 ^ 16 * (w / 2 ^ 16 % 1024) + 2 ^ 26 * (w / 2 ^ 26 % 64)

/-- The word of a lane: what was written or taken from a shadow copy, or what full training found, which the manual does not state
(R330, log entry 4); 0 before training. -/
def Mach.laneWord (m : Mach) (i : Nat) : Nat :=
  match m.chan.lanes.find? i, m.chan.trained.find? (i / 320) with
  | some w, _ => w
  | none, some n => laneFields (Config.freeWords n i).toNat
  | none, none => 0

/-- Load a lane's fields from a word. -/
def setLane (i w : Nat) : Act := .prim (.chan fun x => { x with lanes := x.lanes.put i (laneFields w) })

/-- Package ranks of a channel that are addressed: those of the slots in service or being retired (R339, R343). -/
def Mach.liveRanks (m : Mach) (c : Nat) : List Nat :=
  (List.range 4).filter fun k => m.dimmIn (2 * c + k / 2) && decide (k % 2 < m.chan.pkgRanks)

/-- The package rank that holds a logical rank: the ranks of a channel are divided evenly among its slots, and those of a slot among
its package ranks. -/
def Mach.pkgOf (m : Mach) (c rank : Nat) : Nat :=
  let slot := max 1 (m.get .DRM_C_RANKS c / max 1 m.chan.perChan)
  let pkg := max 1 (slot / max 1 m.chan.pkgRanks)
  let j := if m.chan.perChan = 1 ∧ m.get .DRM_D_STATE (2 * c) = 0 then 1 else rank / slot
  2 * j + rank % slot / pkg

/-- A package rank takes its shadow delays; when none is left to take them, the update is over (R331). -/
def takeShadow (c k : Nat) : Act := .read fun m =>
  let rest := ((m.chan.waiting.find? c).getD []).filter (· != k)
  let mine := m.chan.shadow.filter fun p => p.1 / 80 == 4 * c + k
  .all [.each mine fun p => setLane p.1 p.2,
    .prim (.chan fun x => { x with shadow := x.shadow.filter fun p => p.1 / 80 != 4 * c + k,
                                   waiting := if rest.isEmpty then x.waiting.erase c else x.waiting.put c rest }),
    .when rest.isEmpty (.set .DRM_C_SHADOW_BUSY c 0)]

/-- REFRESH: an all-bank refresh of a logical rank, during which its package rank takes the delays it waits for (R331, R334). -/
def refresh (c rank : Nat) : Act := .read fun m =>
  let k := m.pkgOf c rank
  .when (decide (c < m.sled.chans ∧ rank < m.get .DRM_C_RANKS c) && m.flag .DRM_C_INSERVICE c && (m.liveRanks c).contains k
      && m.get .REEF_PSTATE != 2)
    (.all [.emit (.dimm c dimmRefresh rank), event (.chan c) 0x43 0 1,
      .when (((m.chan.waiting.find? c).getD []).contains k) (takeShadow c k)])

/-! ### Delays (R330 to R332) -/

/-- Every rank of the channel is to take its shadow delays at its next refresh (R331). -/
def shadowStart (c : Nat) : Act := .read fun m =>
  .when (!(m.liveRanks c).isEmpty)
    (.all [.set .DRM_C_SHADOW_BUSY c 1, .prim (.chan fun x => { x with waiting := x.waiting.put c (m.liveRanks c) })])

/-- SHADOW_GO: refused while an update is under way (R331). -/
def shadowGo (c : Nat) : Act := .read fun m =>
  .when (decide (c < m.sled.chans))
    (if m.flag .DRM_C_SHADOW_BUSY c then drmRefused else .seq drmDone (shadowStart c))

/-- MP_COMMAND: the port accepts a write from Pilot firmware always and from elsewhere in Test only. While the channel is in service
the command is charged to the Pilot master. What the command reads back is a free value (R330, log entry 4). -/
def mpCommand (c cmd : Nat) (byPilot : Bool) : Act := .read fun m =>
  if m.sled.chans ≤ c then .skip
  else if byPilot || m.get .ID_SVC_STATE == 2 then
    .all [drmDone, .set .DRM_C_MP_CMD c cmd, .emit (.dimm c dimmMp cmd),
      .when (m.flag .DRM_C_INSERVICE c) (charge c 73 1 false),
      .free fun v => .set .DRM_C_MP_DATA c v.toNat]
  else drmRefused

/-- New shadow words of a package rank. -/
def putShadow (c k : Nat) (ws : List Nat) : Act :=
  .prim (.chan fun x => { x with shadow := ((List.range 80).foldl (fun s l => SMap.put s (320 * c + 80 * k + l) (ws.getD l 0)) x.shadow) })

/-- Draw the words of some lanes: what training finds is not stated (log entry 4). -/
def freeWords (n : Nat) (f : List Nat → Act) : Act :=
  match n with
  | 0 => f []
  | n + 1 => .free fun v => freeWords n fun l => f (laneFields v.toNat :: l)

/-- What the recall store holds of a channel: the rate, its serial numbers and its lane words (R332). -/
def Mach.recallRecord (m : Mach) (c : Nat) : List Nat :=
  [m.get .DRM_C_RATE c, m.get .DRM_D_SERIAL (2 * c), m.get .DRM_D_SERIAL (2 * c + 1)]
    ++ (List.range 320).map fun l => m.laneWord (320 * c + l)

/-- A channel that was fully trained has tracked drift for one more period, counted at its first rank; after 1 s of it, its recall
record is written (R332). -/
def recallWrite (c k : Nat) : Act := .read fun m =>
  match m.chan.trainedAt.find? c with
  | some t =>
    let t' := t + m.get .DRM_DRIFT_MS
    .when ((m.liveRanks c).head? == some k)
      (if 1000 ≤ t' then
        .prim (.chan fun x => { x with store := x.store.put c (m.recallRecord c), trainedAt := x.trainedAt.erase c })
       else .prim (.chan fun x => { x with trainedAt := x.trainedAt.put c t' }))
  | none => .skip

/-- DRIFT_UPDATE of a package rank: oscillators started and read, new write delays in the shadow copy, and the update started. A delay
that would move by more than 1/4 UI is not written: the rank is retrained in service and the source raised (R331, R342). -/
def driftUpdate (c k : Nat) (wr : List Nat) : Act := .read fun m =>
  let now := fun (l : Nat) => Bits.field (m.laneWord (320 * c + 80 * k + l)) 16 10
  let far := (List.range 80).any fun l => 16 < wr.getD l 0 % 1024 - now l || 16 < now l - wr.getD l 0 % 1024
  let words := (List.range 80).map fun l =>
    let i := 320 * c + 80 * k + l
    Bits.setField ((m.chan.shadow.find? i).getD (m.laneWord i)) 16 10 (wr.getD l 0)
  .when (decide (c < m.sled.chans) && m.flag .DRM_C_INSERVICE c && (m.liveRanks c).contains k && m.get .REEF_PSTATE != 2)
    (.all [.emit (.dimm c dimmOscillator (2 * k)), charge c 73 1 false, .emit (.dimm c dimmOscillator (2 * k + 1)),
      charge c 73 1 false,
      if far then
        .all [.emit (.dimm c dimmTrain k), freeWords 80 (putShadow c k), raise (srcId 0x03 c 3) k 0]
      else putShadow c k words,
      .when (!m.flag .DRM_C_SHADOW_BUSY c) (shadowStart c), recallWrite c k])

/-! ### Scrub (R336) -/

/-- Lines of a page whose stored form lies in a burst of four grains. -/
def linesInBurst (r : PageRec) (g : Nat) : List Nat :=
  (List.range 64).filter fun i =>
    let x := lineGrains r i
    r.alloc != 0 && x.2 != 0 && decide (x.1 < g + 4 ∧ g < x.1 + x.2)

/-- Pages whose tags lie in a burst of a tag block, with the first of the eight lines (R102, R151). -/
def Mach.tagsInBurst (m : Mach) (g : Nat) : List (Nat × Nat) :=
  (m.grain.tagMap.filter fun p => p.2 % 2 ^ 32 == blockOf g).map fun p =>
    let n := p.1 / 2 ^ 32 / 64
    let h := p.1 / 2 ^ 32 % 64
    let k := p.1 % 2 ^ 32 * 8 + g % 256 / 32
    (((m.homePages n h).find? fun x => m.pageK n x.1 == k).map (·.1)).elim (0, 64) fun pn => (pn, g % 32 / 4 * 8)

/-- What an uncorrectable burst takes with it: lines of extents and lines whose tags lie there are poisoned, a record there is an
error (R59, R336). -/
def burstLost (g : Nat) : Act := .read fun m =>
  .all [.each (m.claims (g / 16)) fun pn => .some? (m.atollOf pn) fun n =>
      .read fun m' => poisonLines n pn (linesInBurst (m'.page pn).rcd g) .scrub 1,
    .each (m.tagsInBurst g) fun x => .when (decide (x.2 < 64)) (.some? (m.atollOf x.1) fun n =>
      poisonLines n x.1 ((List.range 8).map (· + x.2)) .scrub 1),
    .each (m.pages.filter fun p => (m.atollOf p.1).any fun n => m.recordGa n p.1 == some g) fun p =>
      .some? (m.atollOf p.1) fun n => recordError n p.1 .scrub]

/-- The block has reported an uncorrectable error: it is quarantined, at once when it holds no extent (R113). -/
def quarBlock (b : Nat) : Act := .read fun m =>
  .all [.when (!m.grain.quarBlocks.contains b) (.prim (.grain fun g => { g with quarBlocks := g.quarBlocks ++ [b] })),
    quarEmpty (m.stripeHome (b / 512)) b, tallyUpdate (m.stripeHome (b / 512))]

/-- The burst is the last of a channel's part of grain space: the pass ends with it (R336). -/
def Mach.lastBurst (m : Mach) (c g : Nat) : Bool :=
  let top := m.grain.stripeCount * 512
  g % 256 == 252 && m.blockExists (blockOf g) && decide (top ≤ blockOf g + 512)
    && !(List.range (top - 1 - blockOf g)).any fun j => m.chanOf (256 * (blockOf g + 1 + j)) == c

/-- SCRUB_READ: one burst is read as master 72; a corrected codeword is written back at once, and an uncorrectable one marks its lines
(R335, R336). -/
def scrubRead (c ga : Nat) (e : Ecc) : Act := .read fun m =>
  let g := ga / 4 * 4
  .when (decide (c < m.sled.chans) && m.flag .DRM_C_INSERVICE c && m.chanOf g == c && m.blockExists (blockOf g) && !m.ebbing)
    (.all [charge c 72 1 false, tagOp 72 0 g 0 0 [1, 3, 4, 6], eccCount g e,
      match e with
      | .corrected => .all [.emit (.dimm c dimmWriteBack g), charge c 72 1 true]
      | .uncorrectable => .all [burstLost g, quarBlock (blockOf g)]
      | _ => .skip,
      .when (m.lastBurst c g) (.inc .DRM_C_SCRUB_PASSES c 1)])

/-! ### Row repair (R337, Table 15.5) -/

/-- A page's extent leaves its block for the first channel of the atoll's set that has room (Table 5.3). -/
def moveOut (pn : Nat) : Act := .read fun m =>
  .some? (m.atollOf pn) fun n =>
    let r := (m.page pn).rcd
    .when (m.dredgeable n && !r.busy && r.alloc != 0)
      (if needPlots r = 0 then trim pn
       else match m.placeExtent (homeIndex m.sled pn) (needPlots r) (m.pageK n pn) (m.chanSet n) with
        | none => abandon pn
        | some p => relocateTo pn p)

/-- Steps 1 and 2: nothing new is placed in the row, and everything in it moves out. -/
def emptyRow (key : Nat) (bs : List Nat) : Act :=
  .all [.prim (.chan fun x => { x with closed := if x.closed.contains key then x.closed else x.closed ++ [key] }),
    .read fun m => .each ((m.pages.filter fun p => p.2.rcd.alloc != 0 && bs.contains (blockOf p.2.rcd.base)).map (·.1)) moveOut,
    .each [false, true] fun tag => .read fun m =>
      .each ((if tag then m.grain.tagMap else m.grain.recMap).filter fun p => bs.contains (p.2 % 2 ^ 32)) fun p =>
        .read fun m' => .some? ((m'.chanSet (p.1 / 2 ^ 32 / 64)).find? fun ch =>
            (m'.placeExtent (p.1 / 2 ^ 32 % 64) 16 0 [ch]).isSome) fun ch =>
          moveMapAt tag p.1 (p.1 / 2 ^ 32 % 64) ch (p.2 % 2 ^ 32),
    structLeave,
    evictHeld fun h => bs.contains (blockOf h.ga), oldPlotsFree]

/-- The row holds nothing: no data plot and no metadata plot. -/
def Mach.rowEmpty (m : Mach) (bs : List Nat) : Bool :=
  bs.all fun b => (List.range 16).all fun j => m.plotState (16 * b + j) != 1 && m.plotState (16 * b + j) != 2

/-- The row's blocks are quarantined. -/
def quarRow (bs : List Nat) : Act := .each bs quarBlock

/-- Firmware reports the blocks repaired: they leave quarantine (R113, Table 15.5 step 4). -/
def repaired (key : Nat) (bs : List Nat) : Act :=
  .all [.prim (.grain fun g => { g with quarBlocks := g.quarBlocks.filter fun b => !bs.contains b }),
    .prim (.chan fun x => { x with closed := x.closed.filter (· != key), errs := x.errs.erase key,
                                   hardRows := if x.hardRows.contains key then x.hardRows else x.hardRows ++ [key] }),
    .each bs fun b => .read fun m =>
      let qs := (List.range 16).filter fun j => m.plotState (16 * b + j) == 3
      .when (!m.leaving b) (.each qs fun j => unquarantine (m.stripeHome (b / 512)) (16 * b + j) 1)]

/-- ROW_REPAIR: a row at the threshold is emptied, repaired, tested and recorded; with its group's resource used up, or a failed
test, its blocks stay quarantined. A row that cannot be emptied yet stays closed (R337). -/
def rowRepair (c ga : Nat) (ok : Bool) : Act := .read fun m =>
  let b := blockOf ga
  let key := m.rowKey b
  let bs := m.rowBlocks b
  let x := m.media ga
  let res := (c, x.rank, x.group)
  .when (decide (c < m.sled.chans) && m.flag .DRM_C_INSERVICE c && m.chanOf ga == c && m.blockExists b && !m.ebbing
      && decide (m.get .DRM_PPR_THRESH ≤ (((m.chan.errs.find? key).getD []).filter fun t => m.now < t + 86400 * 10 ^ 9).length))
    (.seq (emptyRow key bs) (.read fun m' =>
      .when (m'.rowEmpty bs)
        (if m'.chan.used.contains res then
          .all [quarRow bs, raise (srcId 0x03 c 6) (256 * key) 0,
            .prim (.chan fun z => { z with errs := z.errs.erase key, closed := z.closed.filter (· != key) })]
         else
          .all [.emit (.dimm c dimmSppr key), .prim (.chan fun z => { z with used := z.used ++ [res] }),
            .set .DRM_C_PPR_LEFT c (m'.get .DRM_C_PPR_LEFT c - 1),
            if ok then .all [.inc .DRM_C_PPR_DONE c 1, repaired key bs]
            else .all [quarRow bs, .prim (.chan fun z => { z with errs := z.errs.erase key, closed := z.closed.filter (· != key) })]])))

/-! ### Meanings -/

/-- DIMM_RETIRE (R339). -/
def execDimmRetire (d : Nat) (s : State) : Host.Outcome State Fault Refusal := s.act (dimmRetire d)

/-- EVACUATION_COMPLETE (R339). -/
def execEvacuationComplete (d : Nat) (s : State) : Host.Outcome State Fault Refusal := s.act (evacuationComplete d)

/-- DIMM_TEMP_POLL (R325). -/
def execDimmTempPoll (d : Nat) (t : Int) (coolFor1s : Bool) (s : State) : Host.Outcome State Fault Refusal :=
  s.act (dimmTempPoll d t coolFor1s)

/-- REFRESH (R334). -/
def execRefresh (c rank : Nat) (s : State) : Host.Outcome State Fault Refusal := s.act (refresh c rank)

/-- MP_COMMAND (R330). -/
def execMpCommand (c : Nat) (cmd : Nat) (byPilot : Bool) (s : State) : Host.Outcome State Fault Refusal :=
  s.act (mpCommand c cmd byPilot)

/-- DRIFT_UPDATE (R331). -/
def execDriftUpdate (c k : Nat) (wr : List Nat) (s : State) : Host.Outcome State Fault Refusal := s.act (driftUpdate c k wr)

/-- SHADOW_GO (R331). -/
def execShadowGo (c : Nat) (s : State) : Host.Outcome State Fault Refusal := s.act (shadowGo c)

/-- SCRUB_READ (R336). -/
def execScrubRead (c ga : Nat) (ecc : Ecc) (s : State) : Host.Outcome State Fault Refusal := s.act (scrubRead c ga ecc)

/-- ROW_REPAIR (R337). -/
def execRowRepair (c ga : Nat) (bistOk : Bool) (s : State) : Host.Outcome State Fault Refusal := s.act (rowRepair c ga bistOk)

/-- CHANNEL_POWER_DOWN (R340). -/
def execChannelPowerDown (c : Nat) (s : State) : Host.Outcome State Fault Refusal := s.act (channelPowerDown c)

end Sys2Proof.Machine
end

