-- ==== Sys2Proof/Machine/Strait.lean ====
section
/-!
DEFINITION. The Strait fabric and pace (chapter "The Strait fabric and pace"): the pace loop, credit audits of long straits,
router reconfiguration and alternate routes, and dead targets.
-/

namespace Sys2Proof.Machine

/-! ### Pace (R346 to R349) -/

/-- Pace targets of power profiles, in 1/1,024, the nearest to the fraction of Table 20.1. -/
def profileTarget : Nat → Nat
  | 0 => 1024
  | 1 => 922
  | 2 => 819
  | _ => 727

/-- The power state whose pace target applies: the one a change leads to, or the one held (R348). -/
def Mach.paceState (m : Mach) : Nat := m.pow.goal.getD (if m.pow.exiting then m.pow.held else m.get .REEF_PSTATE)

/-- The pace target that the power state and the profile call for (R347). -/
def Mach.paceTarget (m : Mach) : Nat :=
  min (if m.paceState = 1 then 819 else 1024) (profileTarget (m.get .CSW_PROFILE))

/-- A new target takes effect with the VCORE kept for it, and the loop resumes (R348). -/
def paceRetarget : Act := .read fun m =>
  .when (m.paceTarget != m.get .NOC_PACE_TARGET)
    (.all [.set .NOC_PACE_TARGET 0 m.paceTarget,
      .some? (m.noc.kept.find? m.paceTarget) fun v => .set .NOC_VCORE_MV 0 v,
      .prim (.noc fun x => { x with low := 0, good := 0, high := 0 })])

/-- PACE_TARGET_CHANGE: outside Ebb (R348). -/
def paceTargetChange : Act := .read fun m => .when (!(m.get .REEF_PSTATE == 2)) paceRetarget

/-- A change between Active and Slack is done when pace first reaches the new target (R13, R348). -/
def changeDone : Act := .read fun m =>
  .some? m.pow.goal fun g => .when (decide (m.get .NOC_PACE_TARGET ≤ m.get .NOC_PACE))
    (.seq (.prim (.pow fun x => { x with goal := none })) (.set .REEF_PSTATE 0 g))

/-- A gauge's pace from its count of a 1 µs window (R346); its register saturates. -/
def gaugePace (count : Nat) : Nat := min 2047 (count / 2)

/-- PACE_MEASURE: the gauges, by 2 × router + local port, with their counts after the fused trim; the lowest pace of the powered ones
is the measured pace (R346). -/
def paceMeasure (gauges : List (Nat × Nat)) : Act := .read fun m =>
  let gs := gauges.filter fun g => g.1 < m.sled.pick 128 64
  let p := (gs.map fun g => gaugePace g.2).foldl min 2047
  .when (!gs.isEmpty && !(m.get .REEF_PSTATE == 2))
    (.all [.each gs fun g => .set (if g.1 % 2 = 0 then .NOC_R_GAUGE0 else .NOC_R_GAUGE1) (g.1 / 2) (gaugePace g.2),
      .set .NOC_PACE 0 p, .set .NOC_PACE_MIN_SEEN 0 (min p (m.get .NOC_PACE_MIN_SEEN)), changeDone])

/-- The set point that one comparison asks for: 1 mV up, 1 mV down after 256 in a row, or as it is, within the limits (R347). -/
def Mach.paceStep (m : Mach) : Nat :=
  let p := m.get .NOC_PACE
  let t := m.get .NOC_PACE_TARGET
  let v := m.get .NOC_VCORE_MV
  if p < t + 8 then (if v < m.get .NOC_VCORE_MAX_MV then v + 1 else v)
  else if t + 40 < p ∧ 255 ≤ m.noc.high then (if m.get .NOC_VCORE_MIN_MV < v then v - 1 else v)
  else v

/-- PACE_LOOP: one comparison. A write that AVSBus does not acknowledge, after its retries, is counted and leaves the set point;
100 µs below the target at the highest set point raise the source of R30; 1 ms at or above it clear `NOC_PACE_LOW`, and the set
point is kept for the target (R347 to R349). A report of the regulator ends the brake's hold on credits (R404). -/
def paceLoop (ack : Bool) : Act := .read fun m =>
  let p := m.get .NOC_PACE
  let t := m.get .NOC_PACE_TARGET
  let v := m.get .NOC_VCORE_MV
  let v' := m.paceStep
  let high := if t + 40 < p then (if 255 ≤ m.noc.high then 0 else m.noc.high + 1) else 0
  let low := if p < t ∧ v = m.get .NOC_VCORE_MAX_MV then min 25 (m.noc.low + 1) else 0
  let good := if t ≤ p then min 250 (m.noc.good + 1) else 0
  .when (!(m.get .REEF_PSTATE == 2))
    (.all [.prim (.noc fun x => { x with low := low, good := good, high := high }),
      .when ack (.prim (.csw fun x => { x with withheld := false, slots := [] })),
      .when (decide (low = 25) && !m.flag .NOC_PACE_LOW) (.seq (.set .NOC_PACE_LOW 0 1) (raise (srcId 0x08 0 0) p t)),
      .when (decide (good = 250))
        (.seq (.set .NOC_PACE_LOW 0 0) (.prim (.noc fun x => { x with kept := x.kept.put t v }))),
      .when (v' != v)
        (if ack then .set .NOC_VCORE_MV 0 v' else .seq (.inc .NOC_AVS_ERRORS 0 1) (raise (srcId 0x08 0 1) v' 0))])

/-! ### Long straits (R350, R357, R358) -/

/-- The two ends of a long strait: router and the bit of `NOC_R_STRAIT_DOWN` for it (R350, Table 16.6). -/
def straitEnds (sl : Sled) (s : Nat) : (Nat × Nat) × (Nat × Nat) :=
  if s < 16 then
    let y := s / 2
    if s % 2 = 0 then ((8 * y + 3, 0), (8 * y + 4, 1)) else ((8 * y + 7, 0), (8 * y, 1))
  else
    let x := (s - 16) / 2
    if s % 2 = 0 then ((24 + x, 2), (32 + x, 3)) else ((8 * sl.pick 7 3 + x, 2), (x, 3))

/-- A strait seen from one end is Contained, or serves again. -/
def endDown (e : Nat × Nat) (b : Bool) : Act := .read fun m =>
  .set .NOC_R_STRAIT_DOWN e.1 (withBit (m.get .NOC_R_STRAIT_DOWN e.1) e.2 b)

/-- Both ends of a long strait. -/
def straitDown (s : Nat) (b : Bool) : Act := .read fun m =>
  .seq (endDown (straitEnds m.sled s).1 b) (endDown (straitEnds m.sled s).2 b)

/-- CREDIT_AUDIT of a long strait lane: the credits held, in flight and occupied, with those returned meanwhile, total 16, or the
strait is Contained (R358). -/
def creditAudit (s held inFlight occupied returning : Nat) : Act := .read fun m =>
  .when (instPresent m.sled 0x06 s && !m.bkw.isolated.contains (0x06, s) && !(m.get .REEF_PSTATE == 2))
    (.all [.inc .NOC_L_AUDITS s 1,
      .when (held + inFlight + occupied + returning != 16)
        (.all [.inc .NOC_L_VIOL s 1, raise (srcId 0x06 s 0) s (held + inFlight + occupied + returning),
          .read fun m' => .when (m'.bkw.isolated.contains (0x06, s)) (straitDown s true)])])

/-! ### Routes (R355) -/

/-- Routers of a column of the torus. -/
def Sled.rows (s : Sled) : Nat := s.pick 8 4

/-- The direction around a ring of n: the shorter way, a tie toward increasing, reversed by an override (R355). -/
def ringUp (n src dst : Nat) (rev : Bool) : Bool := (decide (2 * ((dst + n - src) % n) ≤ n)) != rev

/-- Positions from a source to a destination around a ring, the source first. -/
def ringWalk (n : Nat) (up : Bool) : Nat → Nat → Nat → List Nat
  | 0, a, _ => [a]
  | k + 1, a, b => if a = b then [a] else a :: ringWalk n up k ((if up then a + 1 else a + n - 1) % n) b

/-- The loaded overrides of a router: a reversal bit per target column, and per target row. -/
def Mach.overrides (m : Mach) (r : Nat) : Nat := (m.noc.loaded.find? r).getD 0

/-- Routers of the table route between two routers: X first, then Y (R355). -/
def Mach.route (m : Mach) (a b : Nat) : List Nat :=
  let xs := ringWalk 8 (ringUp 8 (a % 8) (b % 8) (Bits.bit (m.overrides a) (b % 8))) 8 (a % 8) (b % 8)
  let t := a / 8 * 8 + b % 8
  let n := m.sled.rows
  let ys := ringWalk n (ringUp n (a / 8) (b / 8) (Bits.bit (m.overrides t) (8 + b / 8))) n (a / 8) (b / 8)
  xs.map (fun x => a / 8 * 8 + x) ++ (ys.drop 1).map fun y => 8 * y + b % 8

/-! ### Reconfiguration (R359) -/

/-- Kinds of `Out.noc`: 0 closing, 1 loading, 2 opening of a router; 3 a route marker; 4 an error RSP; 5 the snapshot marker. -/
def nocMarker : Nat := 3

/-- A write to the NOC block is refused. -/
def nocRefused : Act := .set .NOC_WR_REFUSED 0 1

/-- The route markers of flows on their alternate route: each is sent behind the last alternate packet once the router is open. -/
def markers (l : List (Nat × Nat × Nat)) : Act := .each l fun f => .emit (.noc nocMarker f.1 f.2.1 f.2.2)

/-- ROUTER_RECONFIGURE: the sequence of Table 16.4 as one step: the router closes, drains and opens, and every router loads its staged
overrides. A Contained router stays Contained (R359). -/
def routerReconfigure (r : Nat) : Act := .read fun m =>
  let n := m.sled.pick 64 32
  let word := fun (k : Nat) => m.get .NOC_R_XREV k + 256 * m.get .NOC_R_YREV k
  .when (decide (r < n))
    (if m.get .NOC_RECONF_STATE ≠ 0 then nocRefused
     else .all [.set .NOC_WR_REFUSED 0 0, .set .NOC_RECONF_ROUTER 0 r, .emit (.noc 0 r 0 0), .emit (.noc 1 r 0 0),
        .prim (.noc fun x => { x with router := some r, loaded := (List.range n).foldl (fun l k => SMap.set l k 0 (word k)) x.loaded }),
        .emit (.noc 2 r 0 0), markers m.noc.alt])

/-- ALT_ROUTE_TIMEOUT: a packet between two attachments, each 2 × router + local port, whose table route passes through the router of
the reconfiguration, has been held for 5 µs: it and every later packet of its flow go the other way, until the marker is echoed
(R359). -/
def altRouteTimeout (src dst cls : Nat) : Act := .read fun m =>
  let f := (src, dst, cls)
  .some? m.noc.router fun r =>
    .when ((m.route (src / 2) (dst / 2)).contains r && dst / 2 != r && decide (cls < 4 ∧ src < m.sled.pick 128 64 ∧ dst < m.sled.pick 128 64))
      (.all [.inc .NOC_REROUTED 0 1,
        .when (!m.noc.alt.contains f) (.seq (.prim (.noc fun x => { x with alt := x.alt ++ [f] })) (markers [f]))])

/-- A flow returns to its table route. -/
def tableRoute (src dst cls : Nat) : Act := .prim (.noc fun x => { x with alt := x.alt.filter (· != (src, dst, cls)) })

/-- ROUTE_MARKER_ECHO (R359). -/
def routeMarkerEcho (src dst cls : Nat) : Act := tableRoute src dst cls

/-- ROUTE_MARKER_TIMEOUT: the marker was absorbed with its destination, and 10 µs have passed since the open (R361). -/
def routeMarkerTimeout (src dst cls : Nat) : Act := tableRoute src dst cls

/-! ### Dead targets (R360) -/

/-- The block at a router's local port, as Breakwater names it: class and instance (Table 16.2). -/
def attachedAt (s : Sled) (r port : Nat) : Option (Nat × Nat) :=
  let at' := fun (a : Att) => a.fitted s && a.router == r
  if port = 0 then
    (((List.range 32).find? fun i => at' (.islet i)).map fun i => (0x01, i)).or
      ((((List.range 16).find? fun g => at' (.host g)).map fun g => (0x02, 4 * g)).or
        (((List.range 16).find? fun c => at' (.chan c)).map fun c => (0x03, c)))
  else
    (((List.range 4).find? fun k => at' (.queue k)).map fun k => (0x05, k)).or
      ((([32, 33].find? fun i => at' (.islet i)).map fun i => (0x01, i)).or
        ((((List.range 2).find? fun p => at' (.boesque p)).map fun p => (0x04, 16 + p)).or
          (if at' .pilot then some (0x0B, 0) else none)))

/-- Packets to a port are absorbed: its attachment or its router is Contained, or a strait on the way in is. -/
def Mach.absorbs (m : Mach) (r port : Nat) : Bool :=
  m.get .NOC_R_STATE r == 3 || m.get .NOC_R_STRAIT_DOWN r != 0 || (attachedAt m.sled r port).any fun k => m.bkw.isolated.contains k

/-- PACKET_ABSORB: an error RSP answers a REQ, and with it the request of a head that it carried; a packet of another class is counted
and dropped (R360, R365). -/
def packetAbsorb (r port cls tag : Nat) : Act := .read fun m =>
  .when (decide (r < m.sled.pick 64 32 ∧ port < 2) && m.absorbs r port)
    (if cls = 0 then
      .all [.emit (.noc 4 r port tag),
        .some? (m.lines.txns.find? fun t => t.req.id == tag && t.phase == .mem) fun t =>
          .all [.prim (.lines fun l => { l with accs := l.accs.filter fun a => a.line != t.req.line }),
            answerError t.req, closeTxn t.req.line, wake t.req.line]]
     else .inc .NOC_ABSORBED 0 1)

/-! ### Meanings -/

/-- PACE_MEASURE (R346). -/
def execPaceMeasure (gauges : List (Nat × Nat)) (s : State) : Host.Outcome State Fault Refusal := s.act (paceMeasure gauges)

/-- PACE_LOOP (R347). -/
def execPaceLoop (avsAck : Bool) (s : State) : Host.Outcome State Fault Refusal := s.act (paceLoop avsAck)

/-- PACE_TARGET_CHANGE (R348). -/
def execPaceTargetChange (s : State) : Host.Outcome State Fault Refusal := s.act paceTargetChange

/-- CREDIT_AUDIT (R358). -/
def execCreditAudit (s' held inFlight occupied returning : Nat) (s : State) : Host.Outcome State Fault Refusal :=
  s.act (creditAudit s' held inFlight occupied returning)

/-- ROUTER_RECONFIGURE (R359). -/
def execRouterReconfigure (r : Nat) (s : State) : Host.Outcome State Fault Refusal := s.act (routerReconfigure r)

/-- ALT_ROUTE_TIMEOUT (R359). -/
def execAltRouteTimeout (src dst cls : Nat) (s : State) : Host.Outcome State Fault Refusal :=
  s.act (altRouteTimeout src dst cls)

/-- ROUTE_MARKER_ECHO (R359). -/
def execRouteMarkerEcho (src dst cls : Nat) (s : State) : Host.Outcome State Fault Refusal :=
  s.act (routeMarkerEcho src dst cls)

/-- ROUTE_MARKER_TIMEOUT (R361). -/
def execRouteMarkerTimeout (src dst cls : Nat) (s : State) : Host.Outcome State Fault Refusal :=
  s.act (routeMarkerTimeout src dst cls)

/-- PACKET_ABSORB (R360). -/
def execPacketAbsorb (router port cls tag : Nat) (s : State) : Host.Outcome State Fault Refusal :=
  s.act (packetAbsorb router port cls tag)

end Sys2Proof.Machine
end

