-- ==== Sys2Proof/Machine/Soundings.lean ====
section
/-!
DEFINITION. Soundings beside counting (chapter "Soundings"): snapshots, clearing, the audits of the summing tree, and damaged or
Contained counters.
-/

namespace Sys2Proof.Machine

/-! ### Words (R386) -/

/-- `DAMAGED`, bit 62 of a word. -/
def sndDamaged : Nat := 2 ^ 62

/-- A word with `INCOMPLETE`, bit 63, set. -/
def incomplete (v : Nat) : Nat := Bits.setField v 63 1 1

/-- A word carries `DAMAGED` or `INCOMPLETE`. -/
def flagged (v : Nat) : Bool := v / 2 ^ 62 % 4 != 0

/-- Sum words above a counter: its quadrant's and the sled's (R389). -/
def sumsAbove (k : Nat) : List Nat :=
  let a := attOf k
  [quadrant a.router, 4].map (sumIdx a.type (k - a.base))

/-- Counter numbers of an attachment. -/
def Att.words (a : Att) : List Nat := (List.range a.count).map (a.base + ·)

/-! ### Contained attachments (R393) -/

/-- The attachment that a block of Breakwater is; a head is part of one. -/
def attOfBlock (key : Nat × Nat) : Option Att :=
  match key.1 with
  | 0x01 => some (.islet key.2)
  | 0x03 => some (.chan key.2)
  | 0x04 => if 16 ≤ key.2 then some (.boesque (key.2 - 16)) else none
  | 0x05 => some (.queue key.2)
  | 0x0B => some .pilot
  | _ => none

/-- The counters of an attachment that becomes Contained keep their values and read `INCOMPLETE`, as do the sums above them (R393). -/
def attFails (key : Nat × Nat) : Act := .some? (attOfBlock key) fun a => .read fun m =>
  .when (a.fitted m.sled)
    (.each a.words fun k =>
      .seq (.set .SND_K_VALUE k (incomplete (m.get .SND_K_VALUE k)))
        (.each (sumsAbove k) fun i => .read fun m' => .set .SND_SUM i (incomplete (m'.get .SND_SUM i))))

/-- The attachment of a counter is Contained. -/
def Mach.attDead (m : Mach) (k : Nat) : Bool := m.bkw.isolated.any fun x => attOfBlock x == some (attOf k)

/-! ### Snapshot (R392, R393) -/

/-- Entries of a live field and of its snapshot that are not zero. -/
def Mach.liveOr (m : Mach) (f g : Fld) : List Nat := (m.idxs f ++ m.idxs g).dedup

/-- The word that a snapshot takes of a counter. -/
def Mach.snapWord (m : Mach) (k : Nat) : Nat := if m.attDead k then incomplete (m.get .SND_K_SNAP k) else m.get .SND_K_VALUE k

/-- SNAPSHOT: the cut as one step: every counter and sum is copied, the number and the time of the snapshot are kept, and the status
says whether any word of it is flagged (R392). -/
def snapshot : Act := .read fun m =>
  if m.get .SND_SNAP_STATUS = 1 then .set .SND_WR_REFUSED 0 1
  else
    let ks := m.liveOr .SND_K_VALUE .SND_K_SNAP
    let ss := m.liveOr .SND_SUM .SND_SUM_SNAP
    .all [.set .SND_WR_REFUSED 0 0, .emit (.noc 5 27 0 0), .set .SND_SNAP_TIME 0 m.now,
      .each ks fun k => .set .SND_K_SNAP k (m.snapWord k),
      .each ss fun i => .set .SND_SUM_SNAP i (m.get .SND_SUM i),
      .inc .SND_SNAP_SEQ 0 1,
      .set .SND_SNAP_STATUS 0
        (if (ks.any fun k => flagged (m.snapWord k)) || ss.any fun i => flagged (m.get .SND_SUM i) then 3 else 2)]

/-- Every counter, sum and snapshot word reads zero, its flags clear. -/
def zeroWords : Act := .read fun m =>
  .seq (.each [Fld.SND_K_VALUE, .SND_K_SNAP, .SND_SUM, .SND_SUM_SNAP] fun f => .each (m.idxs f) fun i => .set f i 0)
    (.set .SND_ZERO_TIME 0 m.now)

/-- COUNTER_CLEAR (Table 19.7, `SND_CLEAR`). -/
def counterClear : Act := .seq (.set .SND_WR_REFUSED 0 0) zeroWords

/-! ### Audit (R390) -/

/-- Children of a sum word: the counters of its type and index in its quadrant, or the quadrant sums of a device sum. -/
def Mach.sumOf (m : Mach) (t j q : Nat) : Nat :=
  if q = 4 then ((List.range 4).map fun x => m.get .SND_SUM (sumIdx t j x) % 2 ^ 62).sum
  else (((m.idxs .SND_K_VALUE).filter fun k =>
    (attOf k).type == t && k - (attOf k).base == j && quadrant (attOf k).router == q).map fun k => m.get .SND_K_VALUE k % 2 ^ 48).sum

/-- A sum word that carries no flag fails its equality modulo 2^48. A counter damaged below a sum has flagged the sum. -/
def Mach.sumBad (m : Mach) (i : Nat) : Bool :=
  let v := m.get .SND_SUM i
  !flagged v && v % 2 ^ 48 != m.sumOf (i / 5 / 16) (i / 5 % 16) (i % 5) % 2 ^ 48

/-- SUM_AUDIT: a sum that fails, and the sum above it, become `INCOMPLETE`, and the source is raised at the router of the Pilot islet,
where the sums are kept. The chain equality holds of every chain, as a carry is an increment of the odd word (R388, R390). -/
def sumAudit : Act := .read fun m =>
  .each ((m.idxs .SND_SUM).filter m.sumBad) fun i =>
    .all [.each [i, i / 5 * 5 + 4].dedup fun x => .read fun m' => .set .SND_SUM x (incomplete (m'.get .SND_SUM x)),
      raise (srcId 0x0A 27 2) 0 0]

/-! ### Damage (R391) -/

/-- A counter word restarts, its sums are incomplete. -/
def damageWord (k : Nat) : Act :=
  .seq (.set .SND_K_VALUE k sndDamaged)
    (.each (sumsAbove k) fun i => .read fun m => .set .SND_SUM i (incomplete (m.get .SND_SUM i)))

/-- COUNTER_DAMAGE of a counter, with the other word of its chain, or of a sum word (R391). -/
def counterDamage (sum : Bool) (n : Nat) : Act := .read fun m =>
  if sum then
    .when (decide (n < 480))
      (.all [.set .SND_SUM n sndDamaged,
        .when (n % 5 != 4) (.set .SND_SUM (n / 5 * 5 + 4) (incomplete (m.get .SND_SUM (n / 5 * 5 + 4)))),
        raise (srcId 0x0A 27 1) 0 0])
  else
    let even := n / 2 * 2
    .when (decide (n < 896) && (attOf n).fitted m.sled)
      (.all [if m.flag .SND_K_CHAIN even then .seq (damageWord even) (damageWord (even + 1)) else damageWord n,
        raise (srcId 0x0A (attOf n).router 0) 0 0])

/-! ### Meanings -/

/-- SNAPSHOT (R392). -/
def execSnapshot (s : State) : Host.Outcome State Fault Refusal := s.act snapshot

/-- COUNTER_CLEAR (R399). -/
def execCounterClear (s : State) : Host.Outcome State Fault Refusal := s.act counterClear

/-- SUM_AUDIT (R390). -/
def execSumAudit (s : State) : Host.Outcome State Fault Refusal := s.act sumAudit

/-- COUNTER_DAMAGE (R391). -/
def execCounterDamage (sum : Bool) (n : Nat) (s : State) : Host.Outcome State Fault Refusal := s.act (counterDamage sum n)

end Sys2Proof.Machine
end

