-- ==== Sys2Proof/Machine/Reaction.lean ====
section
/-!
DEFINITION. Breakwater's reaction (chapter "Breakwater: fault collection and reaction"): what isolation does to each kind of block,
acknowledgement, reset, spare takeover and forced sources.
-/

namespace Sys2Proof.Machine

/-! ### Isolation (R360, R365) -/

/-- A home's islet fails: the transactions open there, and the requests that wait there, are answered by its error RSP (R199, R360). -/
def homeFails (h : Nat) : Act := .read fun m =>
  let at' := fun (r : Req) => m.homeOfLine r.line == h
  .all [.prim (.lines fun l => { l with txns := l.txns.filter (fun t => !at' t.req), waits := l.waits.filter (fun w => !at' w.req),
                                        accs := l.accs.filter fun a => m.homeOfLine a.line != h }),
    .each ((m.lines.txns.filter fun t => at' t.req).map (·.req)) answerError,
    .each ((m.lines.waits.filter fun w => at' w.req).map (·.req)) answerError]

/-- A channel fails: each read that waits there is answered by its error RSP, a merge there is lost, and the channel leaves service
(R342, R360, R365). -/
def chanFails (c : Nat) : Act := .read fun m =>
  let here := m.lines.accs.filter fun a => a.chan == c
  .all [.prim (.lines fun l => { l with accs := l.accs.filter fun a => a.chan != c }),
    .each here fun a => .read fun m' =>
      match a.kind, m'.txnOf a.line with
      | .fill, some t => .when (t.phase == .mem) (.all [answerError t.req, closeTxn a.line, wake a.line])
      | .merge, t => .all [.inc .GRN_DROPPED 0 1, dropLine a.line,
          .when (t.any fun x => x.phase == .merge) (.seq (closeTxn a.line) (wake a.line))]
      | .fill, none => .skip,
    leaveService c]

/-- A queue islet fails: its descriptors in flight complete with ABORTED (Table 10.9). -/
def queueFails (k : Nat) : Act := .read fun m =>
  .each (m.que.descs.filter fun d => d.q / 2048 == k && !d.done) fun d =>
    .seq (forgetDesc d) (setDesc d.seq fun d => { d with done := true, status := 0x14, detail := 0, waitPn := none, phase := 0 })

/-- A router's neighbours: the bit of its own strait, the neighbour and the neighbour's bit (Table 16.6). -/
def neighbours (s : Sled) (r : Nat) : List (Nat × Nat × Nat) :=
  let x := r % 8
  let y := r / 8
  let n := s.rows
  [(0, 8 * y + (x + 1) % 8, 1), (1, 8 * y + (x + 7) % 8, 0), (2, 8 * ((y + 1) % n) + x, 3), (3, 8 * ((y + n - 1) % n) + x, 2)]

/-- A router and its four straits are Contained, or serve again (R360). -/
def routerDown (r : Nat) (b : Bool) : Act := .read fun m =>
  .seq (.set .NOC_R_STATE r (if b then 3 else 0))
    (.each (neighbours m.sled r) fun n => .seq (endDown (r, n.1) b) (endDown (n.2.1, n.2.2) b))

/-- What becoming isolated does to a block, by its class (R365). -/
def blockStops (id : Nat) : Act := .read fun m =>
  let i := srcInst id
  .seq (attFails (blockKey id)) (match srcClass id with
  | 0x01 => .some? (m.homeServedBy i) homeFails
  | 0x02 => linkGone i
  | 0x03 => chanFails i
  | 0x04 => if i < 16 then declareLoss i else .each (m.portLinks (i - 16)) declareLoss
  | 0x05 => queueFails i
  | 0x06 => straitDown i true
  | 0x07 => routerDown i true
  | 0x0C => .set .KEY_ENTROPY_OK 0 0
  | _ => .skip)

/-- The blocks that have become isolated and have not stopped yet stop, within 1 µs of the detection (R365). -/
def stopsDue : Act := .read fun m =>
  .seq (.prim (.bkw fun b => { b with stopping := [] })) (.each m.bkw.stopping blockStops)

/-- A source is detected, and its block stops when it becomes isolated by it. -/
def detect (id key data : Nat) : Act := .seq (raise id key data) stopsDue

/-- The idle block: 1 ns of Reef time passes (R14), and blocks that other commands' detections have isolated stop (R365; log entry 2). -/
def tick : Act := .seq (.inc .REEF_TIME 0 1) stopsDue

/-- A line is lost in an islet: its copy is dropped, and it is poisoned and listed (Table 17.2). -/
def lineLost (line : Nat) : Act := .read fun m =>
  .some? (m.atollOf (pageOfLine line)) fun n =>
    .all [dropLine line, markLines n (pageOfLine line) [idxOfLine line] .unknown, mirrorPoison n line]

/-- SOURCE_DETECT: a detector reports its source. Where the event concerns data, the data action of the source's rule comes with it:
a line or a record of the islet that serves it, a burst of the channel that holds it. A link that is lost is declared lost, which
reports it (R59, R278, R335, R365, R366). -/
def sourceDetect (id key data : Nat) : Act := .read fun m =>
  let i := srcInst id
  let line := key / 64
  let mine := m.homeOfLine line == i && (m.atollOf (pageOfLine line)).isSome
  let burst := m.blockExists (blockOf key) && m.chanOf key == i
  .seq (match srcClass id, srcCause id with
  | 0x01, 1 => .seq (detect id key data) (.when mine (lineLost line))
  | 0x01, 4 => .seq (detect id key data) (.when mine (lineLost line))
  | 0x01, 2 => match m.atollOf (pageOfLine line) with
    | some n => if m.homeOfLine line == i then recordError n (pageOfLine line) .unknown else detect id key data
    | none => detect id key data
  | 0x03, 0 => if burst then eccCount key .corrected else detect id key data
  | 0x03, 1 => if burst then .seq (eccCount key .uncorrectable) (burstLost (key / 4 * 4)) else detect id key data
  | 0x04, 1 => if i < 16 ∧ (m.get .BQL_L_STATE i = blUp ∨ m.get .BQL_L_STATE i = blHeld) then declareLoss i else detect id key data
  | _, _ => detect id key data)
    stopsDue

/-- BISNP_TIMEOUT: a head with a BISnp outstanding has not answered within the bound: it is Contained, and leaves as a head whose link
goes down (R192, R365). -/
def bisnpTimeout (h : Nat) : Act := .read fun m => .when (m.dir.bisnps.any fun b => b.1 == h) (detect (srcId 0x02 h 4) 0 0)

/-! ### Acknowledgement (R368) -/

/-- A pending slot is free again. -/
def freeSlot (k : Nat) : Act :=
  .all [.set .BKW_P_VALID k 0, .set .BKW_P_ID k 0, .set .BKW_P_LEFT k 0, .prim (.bkw fun b => { b with expiry := b.expiry.erase k })]

/-- REACTION_TIMEOUT: hardware raises the event of a slot to Fatal (R368). -/
def reactionTimeout (k : Nat) : Act := .read fun m =>
  .when (decide (k < 32) && m.flag .BKW_P_VALID k && !m.fatal)
    (.all [freeSlot k, .inc .BKW_ESCALATIONS 0 1, goFatal (m.get .BKW_P_ID k) 0 0])

/-- A link instance whose acknowledgement is Reset is flushed at once (Table 17.3). -/
def linkReset (id : Nat) : Act :=
  .when (srcClass id == 0x04 && decide (srcInst id < 16))
    (.read fun m => .seq (.prim (.bkw fun b => { b with resetting := b.resetting.filter (· != id) }))
      (.when (m.get .BQL_L_STATE (srcInst id) == blGrace) (flush (srcInst id))))

/-- BKW_ACK: the acknowledgement stands, or is refused as late, as naming no pending source, or for its action. Takeover with no free
spare is Keep (R368, Table 17.3). -/
def bkwAck (id action : Nat) (late : Bool) : Act := .read fun m =>
  .all [.set .BKW_ACK_ID 0 id, .set .BKW_ACK_ACTION 0 action, .set .BKW_WR_REFUSED 0 0,
    if late then .set .BKW_ACK_RESULT 0 2
    else match m.slotOf id with
      | none => .set .BKW_ACK_RESULT 0 1
      | some k =>
        if m.actionApplies id action then
          .all [freeSlot k, .set .BKW_ACK_RESULT 0 0, takeAction id action 0 0, .when (action == 1) (linkReset id)]
        else .set .BKW_ACK_RESULT 0 3]

/-- What a block does when it returns to service after a reset (Table 17.3): a strait or a router carries packets again, a channel
serves again. -/
def blockStarts (id : Nat) : Act := .read fun m =>
  let i := srcInst id
  match srcClass id with
  | 0x03 => .when (m.flag .DRM_C_POWERED i && !m.chanRetired i && m.flag .ID_MEM_ACTIVE) (.seq (.set .DRM_C_INSERVICE i 1) spreadAgain)
  | 0x06 => straitDown i false
  | 0x07 => routerDown i false
  | _ => .skip

/-- RESET_SELF_TEST_DONE: the block returns to service, or stays isolated, which is recorded as a further record of the source (R368).
A link has no self-test of its own. -/
def resetSelfTestDone (id : Nat) (pass : Bool) : Act := .read fun m =>
  .when (m.bkw.resetting.contains id)
    (.seq (.prim (.bkw fun b => { b with resetting := b.resetting.filter (· != id) }))
      (if pass then .seq (returned (blockKey id)) (blockStarts id) else lhLog id 0x0001 0 0))

/-! ### Spare takeover (R369, R370, Table 17.5) -/

/-- The lowest-numbered free spare, 0 or 1: it serves no home and has not failed. -/
def Mach.freeSpare (m : Mach) : Option Nat :=
  (List.range (m.sled.pick 2 1)).find? fun k => (m.homeServedBy (32 + k)).isNone && !m.bkw.isolated.contains (0x01, 32 + k)

/-- Step 3: the directory slice; the sets of which an entry did not read become suspect (R199). -/
def copyDirectory (h : Nat) (sets : List Nat) : Act := .read fun m =>
  let fresh := (sets.map fun x => (h, x)).filter fun x => !m.dir.suspect.contains x
  .all [.prim (.dir fun d => { d with
      ents := List.filter (fun e => !(m.homeOfLine e.1 == h && sets.contains (dirSet m.sled e.1))) d.ents
      suspect := d.suspect ++ fresh.dedup }),
    .set .DIR_SUSPECT_SETS 0 (m.dir.suspect.length + fresh.dedup.length)]

/-- Step 5 for a Lagoon or write-back line that did not read: a dirty one is poisoned and listed, a clean one dropped. -/
def copyLost (line : Nat) : Act := .read fun m =>
  let dirty := (m.lines.lagoon.find? line).any (·.dirty) || m.lines.wb.any fun e => e.line == line
  .all [dropLine line, .prim (.lines fun l => { l with wb := l.wb.filter fun e => e.line != line }),
    .when dirty (.some? (m.atollOf (pageOfLine line)) fun n =>
      .seq (markLines n (pageOfLine line) [idxOfLine line] .mediaManagement) (mirrorPoison n line))]

/-- Lines that step 5 poisons. -/
def Mach.copyPoisoned (m : Mach) (ls : List Nat) : Nat :=
  (ls.filter fun line => (m.lines.lagoon.find? line).any (·.dirty) || m.lines.wb.any fun e => e.line == line).length

/-- The takeover that waits next begins: its home's entry is held; without a free spare it is Keep (R369). -/
def nextTakeover : Act := .read fun m =>
  match m.bkw.takeovers.head? with
  | none => .set .BKW_TAKEOVER_BUSY 0 0
  | some i =>
    if m.freeSpare.isSome then .some? (m.homeServedBy i) fun h => .set .NOC_HOME_HOLD h 1
    else .seq (.prim (.bkw fun b => { b with takeovers := [] })) (.set .BKW_TAKEOVER_BUSY 0 0)

/-- The requests that waited for a home's entry are injected. -/
def resumeHome (h : Nat) : Act := .read fun m =>
  .each (m.lines.waits.filter fun w => w.why == .held && m.homeOfLine w.req.line == h) fun w =>
    .all [unwait w.req, begin w.req, wake w.req.line]

/-- SPARE_TAKEOVER of an islet: the spare copies what reads, takes the home's stripes and tally, and is entered in the home table. A tag
that did not read ends it in Fatal (R369, R370). -/
def spareTakeover (inst : Nat) (lost : TakeoverLoss) : Act := .read fun m =>
  match m.homeServedBy inst, m.freeSpare with
  | some h, some k =>
    let id := srcId 0x01 inst 8
    let ls := lost.lines.filter fun l => m.homeOfLine l == h
    .when (m.bkw.takeovers.head? == some inst && !m.fatal)
      (if lost.tagLost then goFatal id h 0
       else
        .all [copyDirectory h lost.dirSets,
          .each (lost.records.filter fun pn => homeIndex m.sled pn == h) fun pn =>
            .some? (m.atollOf pn) fun n => recordError n pn .mediaManagement,
          .each ls copyLost, tallyUpdate h,
          .set .NOC_HOME_X h (if k = 0 then 4 else 3), .set .NOC_HOME_Y h (if k = 0 then 3 else 4), .set .NOC_HOME_PORT h 1,
          .set .NOC_HOME_HOLD h 0, .set .BKW_TAKEOVER_HOME 0 h, .set .BKW_SPARES_FREE 0 (m.get .BKW_SPARES_FREE - 1),
          .each (m.bkw.suspended.filter fun x => blockKey x == (0x01, inst)) fun x => lhLog x 0x0003 inst 0,
          .prim (.bkw fun b => { b with takeovers := b.takeovers.drop 1,
                                        suspended := b.suspended.filter fun x => blockKey x != (0x01, inst) }),
          lhLog id 0x0050 h (k + 2 ^ 32 * m.copyPoisoned ls),
          forward id (m.get .BKW_C_SEV (srcEntry id)) h (k + 2 ^ 32 * m.copyPoisoned ls) 0x0050,
          nextTakeover, resumeHome h])
  | _, _ => .skip

/-! ### Signals and forced errors (R372, R373) -/

/-- FAULT_PULSE_END: FAULT_N follows `BKW_FAULT_PIN` (R372). -/
def faultPulseEnd : Act := .seq (.prim (.bkw fun b => { b with pulse := false })) faultUpdate

/-- A force of a source is accepted (R373). -/
def Mach.mayForce (m : Mach) (id : Nat) : Bool :=
  let st := m.get .ID_SVC_STATE
  st == 2 || ((st == 1 || st == 3) && m.flag .BKW_FORCE_EN && decide (m.get .BKW_C_SEV (srcEntry id) ≤ 1))

/-- FORCE_SOURCE: the force bit is set until the detector takes it, which is a SOURCE_DETECT (R373). -/
def forceSource (id : Nat) : Act := .read fun m =>
  if m.mayForce id then .seq (.set .BKW_WR_REFUSED 0 0) (.when (srcKnown m.sled id) (.wideBit .BKW_FORCE id true))
  else .set .BKW_WR_REFUSED 0 1

/-! ### Meanings -/

/-- SOURCE_DETECT (R366). -/
def execSourceDetect (id key data : Nat) (s : State) : Host.Outcome State Fault Refusal := s.act (sourceDetect id key data)

/-- REACTION_TIMEOUT (R368). -/
def execReactionTimeout (k : Nat) (s : State) : Host.Outcome State Fault Refusal := s.act (reactionTimeout k)

/-- BKW_ACK (R368). -/
def execBkwAck (id action : Nat) (late : Bool) (s : State) : Host.Outcome State Fault Refusal := s.act (bkwAck id action late)

/-- SPARE_TAKEOVER (R369). -/
def execSpareTakeover (inst : Nat) (lost : TakeoverLoss) (s : State) : Host.Outcome State Fault Refusal :=
  s.act (spareTakeover inst lost)

/-- FAULT_PULSE_END (R372). -/
def execFaultPulseEnd (s : State) : Host.Outcome State Fault Refusal := s.act faultPulseEnd

/-- FORCE_SOURCE (R373). -/
def execForceSource (id : Nat) (s : State) : Host.Outcome State Fault Refusal := s.act (forceSource id)

/-- RESET_SELF_TEST_DONE (R368). -/
def execResetSelfTestDone (id : Nat) (pass : Bool) (s : State) : Host.Outcome State Fault Refusal :=
  s.act (resetSelfTestDone id pass)

/-- BISNP_TIMEOUT (R192). -/
def execBisnpTimeout (h : Nat) (s : State) : Host.Outcome State Fault Refusal := s.act (bisnpTimeout h)

end Sys2Proof.Machine
end

