-- ==== Sys2Proof/Machine/Causeway.lean ====
section
/-!
DEFINITION. The Causeway and sled power (chapter "Causeway and sled power"): Off and the power-on reset of the Reef, insertion, the
input budget and its profiles, trips, retries and the ledger, the FET model, power cycles, rails and input energy.
-/

namespace Sys2Proof.Machine

/-! ### Fields that a reset keeps -/

/-- Every register field. -/
def Fld.every : List Fld := (Blk.all ++ [Blk.ldf]).flatMap Fld.ofBlk

/-- The field of an entry of the register file, by the number under which the file lists it. -/
def fieldOf (k : Nat) : Option Fld := Fld.every.find? fun f => f.ctorIdx == k % 1024

/-- Every field returns to its reset value but those kept (R473). -/
def resetAll (kept : Fld → Bool) : Act := .prim (.resetRegs fun k => (fieldOf k).any kept)

/-- A field belongs to one of some blocks. -/
def Fld.within (f : Fld) (bs : List Blk) : Bool := bs.contains f.spec.blk

/-- Log state that the Reef holds (Table 18.3). -/
def lhlFields : List Fld := [.LHL_COUNT, .LHL_FULL, .LHL_CLEARING, .LHL_OVF_LOST, .LHL_OVERFLOW]

/-- The trip ledger's fields (Table 20.4). -/
def ledgerFields : List Fld := [.CSW_FAILS, .CSW_LATCHED, .CSW_RETRY_PENDING, .CSW_LAST_TRIP, .CSW_LAST_ON_MS, .CSW_PG_WITHDRAWN]

/-! ### Settings of the front end, the kinds of `Out.power` -/

/-- The main FET: 0 off, 1 fully on, 2 soft start. -/
def powFet : Nat := 0
/-- A rail of Table 20.5 is enabled. -/
def powRailOn : Nat := 1
/-- A rail of Table 20.5 is disabled. -/
def powRailOff : Nat := 2
/-- VCORE at the enable of its rail, in mV. -/
def powVcore : Nat := 3

/-! ### Off and starts (R421, R434, R473) -/

/-- What the core and the DRAM hold is lost; what MRAM and flash hold is not (R421, Table 2.9). -/
def coreLost : Act :=
  .all [.prim .wipe, .prim (.lines fun _ => {}), .prim (.dir fun _ => {}), .prim (.grain fun _ => {}),
    .prim (.keys fun k => { imgNonce := k.imgNonce, isn := k.isn }), .prim (.host fun _ => {}), .prim (.arc fun _ => {}),
    .prim (.bql fun _ => {}), .prim (.snd fun _ => {}), .prim (.que fun _ => {}), .prim (.fry fun _ => {}),
    .prim (.fw fun f => { slots := f.slots, selector := f.selector, cfg := f.cfg, eid := f.eid, i3c := f.i3c, sledId := f.sledId,
                          ledLit := f.ledLit }),
    .prim (.chan fun c => { store := c.store, hardRows := c.hardRows, retired := c.retired }),
    .prim (.rgl fun _ => {}), .prim (.noc fun _ => {}), .prim (.pow fun _ => {})]

/-- Off: the Reef zeroises the keys and marks the image invalid, the core is unpowered. The Reef keeps the Causeway, the log, its time
and Breakwater while the standby path feeds it (R365, R421). -/
def goOff : Act :=
  .all [resetAll fun f => f.within [.csw, .lhl, .bkw] || f == .REEF_TIME || f == .ID_SVN_FUSED, coreLost,
    .prim (.bkw fun b => { b with takeovers := [], resetting := [] })]

/-- FAULT_N and ALERT_N are released, and Breakwater holds nothing. -/
def bkwLost : Act := .read fun m =>
  .all [.prim (.bkw fun _ => {}), .when m.bkw.faultLow (.emit (.pin pinFault true)),
    .when m.bkw.alertLow (.emit (.pin pinAlert true))]

/-- What a start loads from the configuration region once a package has been activated (R441). -/
def loadConfig : Act := .read fun m =>
  .some? m.fw.cfg fun p => .all [.set .HBR_MGMT_HEAD 0 p.mgmtHead, rolesNow p.roles]

/-- A cold start of the core: every field at reset but what MRAM holds (Table 24.4). -/
def coldStart : Act :=
  .all [resetAll fun f => f.within [.csw] || lhlFields.contains f || f == .REEF_TIME || f == .ID_SVN_FUSED, coreLost, bkwLost, loadConfig,
    .read fun m => .prim (.lhl fun l => { l with overflowBefore := m.get .LHL_OVERFLOW })]

/-- The log at a power-on reset: the valid slots are counted, an interrupted clear is finished, a full log loses its overflow count
(R378, R381, R382). -/
def logAtReset : Act := .read fun m =>
  let recs := if m.flag .LHL_CLEARING then m.lhl.recs.map fun r => { r with clearDone := true } else m.lhl.recs
  let full := recs.length == lhSlots
  .all [.prim (.lhl fun _ => { recs := recs, overflowBefore := m.get .LHL_OVERFLOW }),
    .set .LHL_COUNT 0 recs.length, .set .LHL_FULL 0 (Bits.ofBool full), .set .LHL_OVF_LOST 0 (Bits.ofBool full),
    .set .LHL_OVERFLOW 0 0, .set .LHL_CLEARING 0 0]

/-- The full off time of the ledger's on-time, in ms (R411). -/
def Mach.offTime (m : Mach) : Nat := max 10000 (100 * m.get .CSW_LAST_ON_MS)

/-- The insertion sequence begins for a sled that is present: latched off, an off time owed, or the insertion delay
(Table 20.2 step 1). -/
def insertion : Act := .read fun m =>
  if m.flag .CSW_LATCHED then .set .CSW_STATE 0 5
  else if m.flag .CSW_RETRY_PENDING then
    .all [.set .CSW_STATE 0 1, .set .CSW_OFF_LEFT_MS 0 m.offTime, .set .ID_BOOT_STEP 0 2,
      .prim (.csw fun c => { c with offUntil := m.now + m.offTime * 10 ^ 6 })]
  else .seq (.set .CSW_STATE 0 0) (.set .ID_BOOT_STEP 0 2)

/-- PG_OUT is released. -/
def pgRelease : Act := .read fun m =>
  .when (m.flag .CSW_PG_OUT) (.all [.set .CSW_PG_OUT 0 0, .set .CSW_HEALTHY_S 0 0, .emit (.pin pinPgOut false)])

/-- The main FET turns off: PG_OUT is released, the rails go down in reverse order and the sled is Off (R408, R416, R421). -/
def fetOff : Act := .read fun m =>
  .all [pgRelease, .emit (.power powFet 0), .each (List.range m.csw.rails).reverse fun r => .emit (.power powRailOff (r + 1)),
    .prim (.csw fun c => { c with fet := false, rails := 0, withheld := false, slots := [] }), goOff]

/-- A power-on reset of the Reef: every field at reset, but for what the ledger, the checkpoint, the configuration region, the log and
the fuses give (R378, R403, R406, R409, R415, R441, Table 24.4). A FET that conducts turns off, as the start runs from step 1. The
nonce of the images is drawn again (R160). -/
def powerOnReset : Act := .read fun m =>
  .all [.when (m.csw.fet || m.flag .CSW_PG_OUT) fetOff, logAtReset,
    resetAll fun f => ledgerFields.contains f || lhlFields.contains f || f == .ID_SVN_FUSED || f == .CSW_BRAKE,
    coreLost, bkwLost,
    .free fun v => .prim (.keys fun _ => { imgNonce := v.toNat }),
    .prim (.fw fun f => { f with eid := 0, i3c := false, sledId := none }),
    .prim (.csw fun c => { present := c.present, tripDue := c.tripDue, ledgerSeq := c.ledgerSeq, energySeq := c.energySeq,
                           checkpoint := c.checkpoint, controller := c.checkpoint.getD 0 }),
    .set .CSW_ENERGY_MJ 0 (m.csw.checkpoint.getD 0), .set .CSW_ENERGY_RESET 0 (Bits.ofBool m.csw.checkpoint.isNone),
    loadConfig,
    .some? m.fw.cfg fun p => .seq (.set .CSW_INS_DELAY_MS 0 p.insDelay) (.set .CSW_INRUSH_A 0 p.inrush),
    .when m.csw.present insertion]

/-- REEF_POWER_ON_RESET: step 1 of Table 22.1. -/
def reefPowerOnReset : Act := powerOnReset

/-! ### Insertion (R405 to R407, R413) -/

/-- PRESENCE_DETECT: an insertion with a retry pending owes the full off time and starts the FET model at 125 °C (R413). -/
def presenceDetect : Act := .read fun m =>
  .when (!m.csw.present)
    (.seq (.prim (.csw fun c => { c with present := true, hotStart := m.flag .CSW_RETRY_PENDING })) insertion)

/-- PRESENCE_LOSS: the FET turns off, and the Reef loses power: of the ledger and the log, MRAM keeps what it holds (R405,
Table 20.6). -/
def presenceLoss : Act := .read fun m =>
  .when m.csw.present
    (.all [fetOff, bkwLost, .set .LHL_OVERFLOW 0 0,
      .prim (.csw fun c => { c with present := false, offUntil := 0, cycling := false }),
      .set .CSW_STATE 0 0, .set .CSW_OFF_LEFT_MS 0 0])

/-- Soft start: the core starts cold (R421, Table 20.2 step 4). -/
def softStart : Act := .all [coldStart, .set .CSW_STATE 0 3, .emit (.power powFet 2), .set .ID_BOOT_STEP 0 2]

/-- The modelled FET temperature is at or below 60 °C: two's complement, in 0.1 °C (Table 20.2 step 3). -/
def Mach.fetCool (m : Mach) : Bool :=
  let x := m.get .CSW_FET_MODEL
  !m.csw.hotStart && (decide (x ≤ 600) || decide (32768 ≤ x))

/-- INSERTION_DELAY_END: cooling, or soft start at once when the FET is cool. -/
def insertionDelayEnd : Act := .read fun m =>
  .when (m.csw.present && m.get .CSW_STATE == 0 && !m.csw.cycling)
    (if m.fetCool then softStart else .set .CSW_STATE 0 2)

/-- SOFT_START_DONE: the FET is fully on. -/
def softStartDone : Act := .read fun m =>
  .when (m.csw.present && m.get .CSW_STATE == 3)
    (.all [.prim (.csw fun c => { c with fet := true }), .set .CSW_STATE 0 4, .emit (.power powFet 1)])

/-! ### Profiles (R401 to R404) -/

/-- The maximum input power of R24, in W. -/
def Mach.maxInput (m : Mach) : Nat := m.sled.pick 1100 600

/-- The Hold input, in W (Table 20.1). -/
def holdInput : Nat := 495

/-- Load ceilings of the profiles below Full that a sled uses, in W (Table 20.1). -/
def Mach.ceilings (m : Mach) : List (Nat × Nat) :=
  match m.sled with
  | .dx32 => [(1, 921), (2, 767), (3, 614), (4, 460)]
  | .dx16 => [(4, 460)]

/-- The input budget at a V_IN in mV, in mW (R401). -/
def Mach.budget (m : Mach) (vin : Nat) : Nat :=
  let grant := if m.get .CSW_GRANT_W = 0 then holdInput else m.get .CSW_GRANT_W
  min (min (1000 * m.get .CSW_REQ_W) (1000 * grant)) (110 * vin)

/-- The profile of R401 at a V_IN: Full when the budget meets the request, or the highest whose load ceiling is at most 0.93 of it, or
Hold. A grant below the Hold input, and a junction that is too hot, call for Hold (R403, R463). -/
def Mach.profileAt (m : Mach) (vin : Nat) : Nat :=
  let b := m.budget vin
  if m.flag .CSW_GRANT_LOW || m.fw.hot then 4
  else if 1000 * m.get .CSW_REQ_W ≤ b then 0
  else ((m.ceilings.find? fun p => 100000 * p.2 ≤ 93 * b).map (·.1)).getD 4

/-- The brake acts: PWR_BRAKE_N is low, after PG_OUT, and not in Ebb (R404, Table 20.6, Table 21.8). -/
def Mach.braking (m : Mach) : Bool := m.flag .CSW_BRAKE && m.flag .CSW_PG_OUT && !m.ebbing

/-- The profile called for at a V_IN: the lower of that of R401 and the brake's (R404). -/
def Mach.profileFor (m : Mach) (vin : Nat) : Nat :=
  max (m.profileAt vin) (if m.braking then m.get .CSW_BRAKE_PROFILE else 0)

/-- A profile takes effect: channels shrink and unshrink, and the pace target follows (R402, R316, R348). -/
def setProfile (p : Nat) : Act := .read fun m =>
  .when (p != m.get .CSW_PROFILE)
    (.all [.set .CSW_PROFILE 0 p, liveAll, .when (!(m.get .REEF_PSTATE == 2)) paceRetarget])

/-- A fall in profile is applied at once (R402). -/
def profileFall : Act := .read fun m =>
  let p := m.profileFor (m.get .CSW_VIN_MV)
  .when (decide (m.get .CSW_PROFILE < p)) (setProfile p)

/-- A rise is applied to the profile that has qualified for 1 s with V_IN 0.2 V above the voltage at which it qualifies (R402). -/
def profileRise : Act := .read fun m =>
  let p := m.profileFor (m.get .CSW_VIN_MV - 200)
  .when (decide (p < m.get .CSW_PROFILE)) (setProfile p)

/-- INPUT_MEASURE: V_IN and the input current, and R401 evaluated again. -/
def inputMeasure (vin iin : Nat) (held : Bool) : Act :=
  .all [.set .CSW_VIN_MV 0 vin, .set .CSW_IIN_DA 0 iin, profileFall, .when held profileRise]

/-- GRANT_WRITE: a grant above the maximum input is refused; one below the Hold input is marked (R403). -/
def grantWrite (w : Nat) : Act := .read fun m =>
  if m.maxInput < w then .set .CSW_WR_REFUSED 0 1
  else .all [.set .CSW_WR_REFUSED 0 0, .set .CSW_GRANT_W 0 w,
    .set .CSW_GRANT_LOW 0 (Bits.ofBool (decide (w ≠ 0 ∧ w < holdInput))), profileFall]

/-- BRAKE_ASSERT: a falling edge of PWR_BRAKE_N. The profile falls at once and the harbours withhold credits; during soft start and in
Ebb it is recorded only (R404, Table 20.6, Table 21.8). -/
def brakeAssert : Act := .read fun m =>
  .when (!m.flag .CSW_BRAKE)
    (.all [.set .CSW_BRAKE 0 1, raise (srcId 0x09 0 1) 0 0, profileFall,
      .read fun m' => .when m'.braking (.prim (.csw fun c => { c with withheld := true, slots := [] }))])

/-- BRAKE_RELEASE: a rising edge; the rise rule governs the return (R404). -/
def brakeRelease : Act := .set .CSW_BRAKE 0 0

/-! ### PG_OUT and rails (R407, R416) -/

/-- A rail of Table 20.5 is enabled; VCORE at the value kept for Active, or 720 mV. -/
def railOn (r : Nat) : Act := .read fun m =>
  .seq (.when (r == 4) (.emit (.power powVcore ((m.noc.kept.find? 1024).getD 720)))) (.emit (.power powRailOn r))

/-- PG_OUT_ASSERT: the fault timer wins when it starts in the same tick: PG_OUT is released again, and the withdrawal is counted in the
ledger. The brake applies from PG_OUT (R407, Table 20.6). -/
def pgOutAssert (faultTimer : Bool) : Act := .read fun m =>
  .when (m.csw.fet && !m.flag .CSW_PG_OUT)
    (.seq (.emit (.pin pinPgOut true))
      (if faultTimer then
        .all [.emit (.pin pinPgOut false), .inc .CSW_PG_WITHDRAWN 0 1, .prim (.csw fun c => { c with ledgerSeq := c.ledgerSeq + 1 })]
      else
        .all [.set .CSW_PG_OUT 0 1, .prim (.csw fun c => { c with pgAt := m.now }),
          .when (m.csw.rails == 0) (railOn 1), profileFall]))

/-- The domains of a powered core that are enabled gain power: port groups, Boesque ports and channels (Table 21.7). -/
def domainsUp : Act := .read fun m =>
  .all [.each ((List.range m.sled.groups).filter fun g => m.flag .HBR_GRP_EN g) fun g =>
      .all [.set .HBR_GRP_POWERED g 1, .prim (.host fun x => { x with bifur := x.bifur.set g 0 (m.get .HBR_GRP_BIFUR g) }), commonUpdate g],
    .each ((List.range 2).filter fun p => m.sled == .dx32 && m.flag .BQL_P_EN p) fun p =>
      .all [.prim (.bql fun b => { b with modes := b.modes.set p 0 (m.get .BQL_P_MODE p) }), .set .BQL_P_POWERED p 1, portSettle p],
    .each ((List.range m.sled.chans).filter fun c => !m.flag .DRM_C_PWRDN c) fun c => .set .DRM_C_POWERED c 1]

/-- RAIL_POWER_GOOD: the next rail of the sequence is enabled. With the last rail that the sequence brings up by itself the core has its
power, and the start goes on to firmware (Table 20.5, Table 22.1). -/
def railPowerGood (r : Nat) : Act := .read fun m =>
  .when (m.csw.fet && m.flag .CSW_PG_OUT && decide (r = m.csw.rails + 1 ∧ r ≤ 6))
    (.all [.prim (.csw fun c => { c with rails := r }), .when (decide (r < 6)) (railOn (r + 1)),
      .when (r == 5) (.seq domainsUp (.set .ID_BOOT_STEP 0 3))])

/-! ### The FET model (R409) -/

/-- A direct reading in 0.1 °C; one that the register cannot hold is out of range and counts as 125 °C. -/
def directOf (t : Int) : Int := if t < -32768 ∨ 32767 < t then 1250 else t

/-- The reading that a register's code stands for, in 0.1 °C. -/
def tenths (x : Nat) : Int := if x < 32768 then (x : Int) else (x : Int) - 65536

/-- The two stages after 1 µs at a dissipation in mW, in 10^-12 °C. -/
def fetStep (r1 r2 : Int) (p : Nat) : Int × Int :=
  (r1 + (p * 50000000 - r1) / 5000, r2 + (p * 300000000 - r2) / 2000000)

/-- A temperature in 10^-12 °C as the register holds it, in 0.1 °C. -/
def fetCode (t : Int) : Nat := (t / 100000000000 % 65536).toNat

/-- FET_MODEL_UPDATE: the stages move on by 1 µs. After an insertion with a retry pending they start so that the model reads 125 °C; how
the rise is divided between them is open. A cool FET ends step 3 of Table 20.2. -/
def fetModelUpdate (direct : Int) (p : Nat) : Act := .read fun m =>
  let d := directOf direct
  let set' := fun (r : Int × Int) => Act.all [.prim (.csw fun c => { c with rise1 := r.1, rise2 := r.2, hotStart := false }),
    sensorEvent sensorFet (sensorLevel (tenths (m.get .CSW_FET_DIRECT)) 1000 1150 1250) (sensorLevel d 1000 1150 1250),
    .set .CSW_FET_DIRECT 0 (d % 65536).toNat, .set .CSW_FET_MODEL 0 (fetCode (d * 100000000000 + r.1 + r.2))]
  .seq (if m.csw.hotStart then
      .free fun v =>
        let up : Int := max 0 (1250 - d) * 100000000000
        let a : Int := up * (Int.ofNat (v.toNat % 1025)) / 1024
        set' (a, up - a)
    else set' (fetStep m.csw.rise1 m.csw.rise2 p))
    (.read fun m' => .when (m'.csw.present && m'.get .CSW_STATE == 2 && m'.fetCool) softStart)

/-! ### Trips, retries and the ledger (R408, R410 to R412) -/

/-- The ledger is written: the copy that is not current takes the next sequence number (Table 20.4). -/
def ledgerWrite : Act := .prim (.csw fun c => { c with ledgerSeq := c.ledgerSeq + 1 })

/-- TRIP of a kind of Table 20.3: the FET turns off, the failed start is counted and an off time is owed; the fifth latches the sled
off. -/
def trip (kind onMs : Nat) : Act := .read fun m =>
  let n := min 5 (m.get .CSW_FAILS + 1)
  .when (m.csw.present && (m.get .CSW_STATE == 3 || m.get .CSW_STATE == 4) && decide (1 ≤ kind ∧ kind ≤ 5))
    (.all [.set .CSW_LAST_TRIP 0 kind, .set .CSW_LAST_ON_MS 0 onMs, .set .CSW_FAILS 0 n, .set .CSW_RETRY_PENDING 0 1,
      .when (n == 5) (.set .CSW_LATCHED 0 1), ledgerWrite, fetOff,
      .prim (.csw fun c => { c with tripDue := true }),
      .read fun m' => .all [.set .CSW_OFF_LEFT_MS 0 m'.offTime,
        .prim (.csw fun c => { c with offUntil := m'.now + m'.offTime * 10 ^ 6 }),
        .set .CSW_STATE 0 (if n = 5 then 5 else 1)]])

/-- OFF_TIME_END: the sequence returns to step 2 of Table 20.2, unless it is latched off (R411). -/
def offTimeEnd : Act := .read fun m =>
  .when (m.flag .CSW_RETRY_PENDING && (m.get .CSW_STATE == 1 || m.get .CSW_STATE == 5))
    (.all [.set .CSW_RETRY_PENDING 0 0, .set .CSW_OFF_LEFT_MS 0 0, ledgerWrite, .prim (.csw fun c => { c with offUntil := 0 }),
      .when (m.get .CSW_STATE == 1) (.set .CSW_STATE 0 0)])

/-- The count and the latch clear (R412). -/
def ledgerClear : Act := .all [.set .CSW_FAILS 0 0, .set .CSW_LATCHED 0 0, ledgerWrite]

/-- HEALTHY_MARK: ten minutes of PG_OUT without a break (R410, R412). -/
def healthyMark : Act := .read fun m => .when (m.flag .CSW_PG_OUT) (.seq ledgerClear (.set .CSW_HEALTHY_S 0 600))

/-- CSW_LEDGER_CLEAR: an off time in progress runs to its end (R412, Table 20.6). -/
def cswLedgerClear : Act := .read fun m =>
  .all [.set .CSW_WR_REFUSED 0 0, ledgerClear,
    .when (m.get .CSW_STATE == 5) (.set .CSW_STATE 0 (if m.flag .CSW_RETRY_PENDING then 1 else 0))]

/-! ### Power cycle (R414) -/

/-- CSW_POWER_CYCLE: accepted in Fatal and in Test only. -/
def cswPowerCycle : Act := .read fun m =>
  if m.fatal || m.get .ID_SVC_STATE == 2 then
    .all [.set .CSW_WR_REFUSED 0 0, fetOff, .prim (.csw fun c => { c with cycling := true }),
      .when (m.get .CSW_STATE == 3 || m.get .CSW_STATE == 4) (.set .CSW_STATE 0 0)]
  else .set .CSW_WR_REFUSED 0 1

/-- POWER_CYCLE_RESTART: the Reef resets itself, and a cold start runs from step 1. -/
def powerCycleRestart : Act := .read fun m => .when m.csw.cycling powerOnReset

/-! ### Input energy (R415) -/

/-- ENERGY_CHECKPOINT: both accumulators in mJ; a difference above 0.1% raises class 0x09 cause 2. -/
def energyCheckpoint (controller reef : Nat) : Act :=
  .all [.set .CSW_ENERGY_MJ 0 reef, .inc .CSW_CHECKPOINTS 0 1,
    .prim (.csw fun c => { c with controller := controller, checkpoint := some (reef % 2 ^ 64), energySeq := c.energySeq + 1 }),
    .when (decide (reef < 1000 * (controller - reef) ∨ reef < 1000 * (reef - controller))) (raise (srcId 0x09 0 2) 0 0)]

/-! ### Meanings -/

/-- REEF_POWER_ON_RESET (R434). -/
def execReefPowerOnReset (s : State) : Host.Outcome State Fault Refusal := s.act reefPowerOnReset

/-- PRESENCE_DETECT (R405). -/
def execPresenceDetect (s : State) : Host.Outcome State Fault Refusal := s.act presenceDetect

/-- PRESENCE_LOSS (R405). -/
def execPresenceLoss (s : State) : Host.Outcome State Fault Refusal := s.act presenceLoss

/-- INSERTION_DELAY_END (R406). -/
def execInsertionDelayEnd (s : State) : Host.Outcome State Fault Refusal := s.act insertionDelayEnd

/-- SOFT_START_DONE (R406). -/
def execSoftStartDone (s : State) : Host.Outcome State Fault Refusal := s.act softStartDone

/-- PG_OUT_ASSERT (R407). -/
def execPgOutAssert (faultTimer : Bool) (s : State) : Host.Outcome State Fault Refusal := s.act (pgOutAssert faultTimer)

/-- RAIL_POWER_GOOD (R416). -/
def execRailPowerGood (rail : Nat) (s : State) : Host.Outcome State Fault Refusal := s.act (railPowerGood rail)

/-- INPUT_MEASURE (R402). -/
def execInputMeasure (vinMv iinDa : Nat) (heldFor1s : Bool) (s : State) : Host.Outcome State Fault Refusal :=
  s.act (inputMeasure vinMv iinDa heldFor1s)

/-- FET_MODEL_UPDATE (R409). -/
def execFetModelUpdate (direct : Int) (dissipationMw : Nat) (s : State) : Host.Outcome State Fault Refusal :=
  s.act (fetModelUpdate direct dissipationMw)

/-- TRIP (R408). -/
def execTrip (kind onMs : Nat) (s : State) : Host.Outcome State Fault Refusal := s.act (trip kind onMs)

/-- OFF_TIME_END (R411). -/
def execOffTimeEnd (s : State) : Host.Outcome State Fault Refusal := s.act offTimeEnd

/-- HEALTHY_MARK (R410). -/
def execHealthyMark (s : State) : Host.Outcome State Fault Refusal := s.act healthyMark

/-- CSW_LEDGER_CLEAR (R412). -/
def execCswLedgerClear (s : State) : Host.Outcome State Fault Refusal := s.act cswLedgerClear

/-- CSW_POWER_CYCLE (R414). -/
def execCswPowerCycle (s : State) : Host.Outcome State Fault Refusal := s.act cswPowerCycle

/-- POWER_CYCLE_RESTART (R414). -/
def execPowerCycleRestart (s : State) : Host.Outcome State Fault Refusal := s.act powerCycleRestart

/-- GRANT_WRITE (R403). -/
def execGrantWrite (w : Nat) (s : State) : Host.Outcome State Fault Refusal := s.act (grantWrite w)

/-- BRAKE_ASSERT (R404). -/
def execBrakeAssert (s : State) : Host.Outcome State Fault Refusal := s.act brakeAssert

/-- BRAKE_RELEASE (R404). -/
def execBrakeRelease (s : State) : Host.Outcome State Fault Refusal := s.act brakeRelease

/-- ENERGY_CHECKPOINT (R415). -/
def execEnergyCheckpoint (controllerMj reefMj : Nat) (s : State) : Host.Outcome State Fault Refusal :=
  s.act (energyCheckpoint controllerMj reefMj)

end Sys2Proof.Machine
end

