-- ==== Sys2Proof/Machine/Power.lean ====
section
/-!
DEFINITION. The power states and the Reef (chapter "Power states and the Reef"): changes between Active and Slack, entry to Ebb and exit
from it, the save image, and brown-outs.
-/

namespace Sys2Proof.Machine

/-! ### The save image (R424, Table 21.6) -/

/-- Software writes the field. -/
def Fld.config (f : Fld) : Bool := f.spec.acc == .rw || f.spec.acc == .rwl || f.spec.acc == .rws

/-- The save list (Table 21.6). -/
def Fld.saved (f : Fld) : Bool :=
  match f.spec.blk with
  | .ident => f != .ID_WR_REFUSED
  | .atl => decide (f.spec.off < 0x40 ∨ 0xC0 ≤ f.spec.off)
  | .qp => decide (f.spec.off < 0x30)
  | .hbr | .snd | .dir | .bql | .arc | .csw => f.config
  | .noc => [.NOC_HOME_X, .NOC_HOME_Y, .NOC_HOME_PORT, .NOC_R_XREV, .NOC_R_YREV].contains f
  | .drm => [.DRM_MAP, .DRM_C_RATE, .DRM_C_TAA, .DRM_C_TRCD, .DRM_C_TRP, .DRM_L_RD, .DRM_L_WR, .DRM_L_VREF].contains f
  | .rgl => (f.config && f != .RGL_EN) || [.RGL_M_DRAM, .RGL_M_WINDOWS, .RGL_C_GC, .RGL_C_GC_LIVE, .RGL_C_SCALE, .RGL_C_SHRUNK,
      .RGL_C_CAUSE, .RGL_C_TABLE, .RGL_MC_ENT].contains f
  | .bkw => [.BKW_REACT_TIME, .BKW_FAULT_PIN, .BKW_ALERT_SEV, .BKW_C_MASK, .BKW_C_SEV, .BKW_C_AUTO, .BKW_C_ACTION,
      .BKW_C_FWD].contains f
  | .grn => f.config || [.GRN_FREE, .GRN_ALLOCATED, .GRN_META, .GRN_QUAR, .GRN_TOTAL, .GRN_OWED, .GRN_HOME_LEVEL,
      .GRN_STRIPES].contains f
  | .tier => f.config || f == .TIER_PERIOD_NOW
  | .tdl => f.config || decide (0x100 ≤ f.spec.off)
  | _ => false

/-- Fields outside the save list that report what is so before and after Ebb alike: the population and what is in service, the state of
the fabric, the pressure level, the key slots, exchanges with peers and restarts of Soundings (log entry 61). -/
def Fld.standing (f : Fld) : Bool :=
  [.ATL_KEYS_ABSENT, .HBR_GRP_COMMON, .NOC_R_STATE, .NOC_R_STRAIT_DOWN, .NOC_HOME_HOLD, .NOC_PACE_TARGET, .NOC_VCORE_MV,
    .DRM_POP_SHAPE, .DRM_POP_ERR, .DRM_C_INSERVICE].contains f
  || [.DRM_C_PWRDN, .DRM_C_DOUBLE_REF, .DRM_C_RECALLED, .DRM_C_RANKS, .DRM_C_PPR_LEFT, .DRM_D_STATE, .DRM_D_REASON,
    .DRM_D_TYPE, .DRM_D_CAP, .DRM_D_SERIAL, .DRM_D_TEMP, .DRM_D_LEFT].contains f
  || [.GRN_LEVEL, .GRN_HEADROOM, .ARC_MEMBERS, .ARC_HOLD_USED, .ARC_HELD_IMAGES, .ARC_REL_PENDING, .ARC_EVAC_STATE, .ARC_EVAC_LEFT,
    .ARC_WIT_HOLDER, .ARC_WIT_VALID].contains f
  || [.ARC_PEER_IDENT, .ARC_ATL_COPY, .ARC_ATL_FENCED, .ARC_ATL_RESYNC, .ARC_ATL_DIRTY, .SND_RESTARTS, .ID_SVN_FUSED].contains f

/-- Key status, which the Reef holds through Ebb and loses at a brown-out (R423, R427). -/
def Fld.keyStatus (f : Fld) : Bool :=
  [.KEY_META_READY, .KEY_TRANSPORT_SET, .KEY_ENTROPY_OK, .KEY_DATA_SET, .KEY_INT_SET, .KEY_SAK_SET].contains f

/-- The entries of the register file that an image holds. -/
def Mach.saveImage (m : Mach) : SMap Nat := m.regs.filter fun p => (fieldOf p.1).any Fld.saved

/-- Restore the sections of an image. -/
def restore (img : SMap Nat) (p : Fld → Bool) : Act :=
  .each img fun e => .some? (fieldOf e.1) fun f => .when (p f) (.set f (e.1 / 1024) e.2)

/-! ### Active and Slack (R419, R420) -/

/-- A write to the block is refused. -/
def reefRefused : Act := .set .REEF_WR_REFUSED 0 1

/-- A request is taken, with no code. -/
def reefTaken (t : Nat) : Act :=
  .all [.set .REEF_WR_REFUSED 0 0, .set .REEF_TARGET 0 t, .set .REEF_EBB_ERR 0 0]

/-- The change to Active or Slack: `REEF_PSTATE` reads Changing until pace reaches the target (R13, R348). -/
def changeTo (t : Nat) : Act :=
  .all [.set .REEF_PSTATE 0 3, .prim (.pow fun x => { x with goal := some t }), paceRetarget, changeDone]

/-! ### Leaving Ebb (R425, Table 21.5) -/

/-- What the core loses in Ebb beside the fields: everything that neither DRAM, nor the Reef, nor the save list holds (R423, R424). -/
def coreSlept : Act :=
  .all [.prim (.lines fun _ => {}), .prim (.dir fun _ => {}), .prim (.snd fun _ => {}), .prim (.que fun _ => {}),
    .prim (.fry fun _ => {}), .prim (.bql fun _ => {}),
    .prim (.grain fun g => { g with latch := [], liftWaits := [] }),
    .prim (.host fun h => { extents := h.extents, poisoned := h.poisoned, poisonFull := h.poisonFull }),
    .prim (.arc fun a => { a with jobs := [], svc := [] }),
    .prim (.fw fun f => { f with spdm := 0, sessions := 0, setup := false, tapIr := 0 }),
    .prim (.chan fun c => { c with shadow := [], waiting := [] }),
    .prim (.rgl fun r => { r with recv := [] }),
    .prim (.noc fun n => { kept := n.kept, loaded := n.loaded })]

/-- The core rails come up in order, VCORE at the value kept for Active, and the regulator leaves its Low mode (step 1). -/
def coreRails : Act := .all [railOn 3, railOn 4, railOn 5, .set .REEF_REG_MODE 0 0]

/-- The channels leave self-refresh (step 3). -/
def channelsWake : Act := .read fun m =>
  .each ((List.range m.sled.chans).filter fun c => m.flag .DRM_C_INSERVICE c) fun c => .emit (.dimm c dimmExit 0)

/-- Steps 1 to 3 of Table 21.5: the sections are restored from the Reef memory copy, and what is saved nowhere is at reset (R424,
R473). -/
def exitStart (cause : Nat) : Act := .read fun m =>
  .all [.set .REEF_PSTATE 0 3, .set .REEF_EXIT_CAUSE 0 cause, .prim (.pow fun x => { x with exiting := true, wake := false }), coreRails,
    resetAll fun f => f.within [.reef, .csw, .lhl, .bkw] || f.standing || f.keyStatus,
    coreSlept, restore (m.pow.image.getD []) fun f => !f.within [.csw, .bkw], channelsWake]

/-- A request for Active or Slack. A Fatal sled keeps its power state (R13). During an exit it applies afterwards, and in Ebb it starts the exit (R419, R425). -/
def reefGo (t : Nat) : Act := .read fun m =>
  let p := m.get .REEF_PSTATE
  if m.fatal then reefRefused
  else if p = 3 then
    if m.pow.exiting then .seq (reefTaken t) (.prim (.pow fun x => { x with after := some t })) else reefRefused
  else if p = 2 then .seq (reefTaken t) (exitStart 0)
  else if p = t then reefTaken t
  else .seq (reefTaken t) (changeTo t)

/-- HOST_WAKE: the host of an enabled group leaves L1, or its wake detector sees a receiver. During an entry the exit follows it
(R425, Table 21.8). -/
def hostWake (g : Nat) (_l1Exit : Bool) : Act := .read fun m =>
  .when (decide (g < m.sled.groups) && m.flag .REEF_WAKE_HOST && m.flag .HBR_GRP_EN g)
    (if m.pow.entering then .prim (.pow fun x => { x with wake := true })
     else .when (m.get .REEF_PSTATE == 2) (exitStart 1))

/-- A record that the manual asks for under no code of Table 18.2: its code, key and data are open (R380, log entry 4). -/
def lhUnlisted : Act := .free fun c => .free fun k => .free fun d => lhLog 0 (c.toNat % 2 ^ 16) k.toNat d.toNat

/-- Harbours open, and Dredger, Tideline and frames resume (step 5). -/
def resume : Act :=
  .all [domainsUp, keysUpdate, profileFall, paceRetarget]

/-- EBB_EXIT_COMPLETE: steps 4 and 5 of Table 21.5; a request given meanwhile then applies (R425). -/
def ebbExitComplete (us : Nat) : Act := .read fun m =>
  .when m.pow.exiting
    (.all [.set .REEF_PSTATE 0 m.pow.held, .prim (.pow fun x => { x with exiting := false, after := none }), resume,
      zeroWords, .inc .SND_RESTARTS 0 1,
      .inc .REEF_EBB_EXITS 0 1, .set .REEF_EXIT_US 0 us, .set .REEF_LAST_START 0 1, lhUnlisted,
      .some? m.pow.after reefGo])

/-- REEF_GO_ACTIVE. -/
def reefGoActive : Act := reefGo 0

/-- REEF_GO_SLACK. -/
def reefGoSlack : Act := reefGo 1

/-! ### Entering Ebb (R422, Table 21.4) -/

/-- The code of Table 21.3, the first that applies. -/
def Mach.ebbErr (m : Mach) : Nat :=
  let viewed := ((m.idxs .VW_VALID).filter fun v => m.flag .VW_VALID v) ++ ((m.idxs .VW_CLOSING).filter fun v => m.flag .VW_CLOSING v)
  if viewed.any fun v => m.get .HBR_HEAD_WIDTH (m.headOf (m.get .VW_LD v)) != 0 then 1
  else if !(m.idxs .BQL_L_STATE).isEmpty then 2
  else if !m.que.descs.isEmpty then 3
  else if m.get .NOC_RECONF_STATE != 0 then 4
  else if m.flag .BKW_TAKEOVER_BUSY || m.fatal then 5
  else if m.get .ID_SVC_STATE != 1 then 6
  else if m.flag .LHL_CLEARING then 7
  else 0

/-- REEF_GO_EBB: refused with a code, or steps 1 to 3 of Table 21.4: from now on no move starts and the rotations pause. A request in
Ebb has no effect (R419, R422). -/
def reefGoEbb : Act := .read fun m =>
  if m.get .REEF_PSTATE = 3 then reefRefused
  else if m.get .REEF_PSTATE = 2 then reefTaken 2
  else if m.ebbErr ≠ 0 then .seq reefRefused (.set .REEF_EBB_ERR 0 m.ebbErr)
  else
    .all [reefTaken 2, .prim (.pow fun x => { x with entering := true, held := m.get .REEF_PSTATE }), .set .REEF_PSTATE 0 3,
      tdlUpdate]

/-- A request for a power state is refused (R13, R419, R422). -/
def Mach.goRefused (m : Mach) (t : Nat) : Bool :=
  match t with
  | 2 => m.get .REEF_PSTATE == 3 || (m.get .REEF_PSTATE != 2 && m.ebbErr != 0)
  | 3 => true
  | _ => m.fatal || (m.get .REEF_PSTATE == 3 && !m.pow.exiting)

/-- A write of `REEF_GO` with the target of its word; 3 is reserved. -/
def reefGoTo (t : Nat) : Act :=
  match t with
  | 0 => reefGoActive
  | 1 => reefGoSlack
  | 2 => reefGoEbb
  | _ => reefRefused

/-- A write-back that its page cannot take before the core loses power is dropped as under R121 (log entry 60). -/
def drainWb (e : WbEnt) : Act := .read fun m =>
  .when (m.lines.wb.contains e)
    (match m.atollOf (pageOfLine e.line) with
     | none => dropWb e
     | some n => denied n (pageOfLine e.line) (idxOfLine e.line) e)

/-- Step 4: dirty lines are written back, pinned and clean ones dropped, and changed records written. -/
def homesFlush : Act := .read fun m =>
  .all [.each (m.lines.lagoon.filter fun p => p.2.dirty && p.2.mask != 0) fun p => toWb p.1 p.2.val p.2.master,
    .prim (.lines fun l => { l with lagoon := [] }),
    .read fun m' => .each m'.lines.wb fun e => writeBack e.line,
    .read fun m' => .each m'.lines.wb drainWb,
    oldPlotsFree,
    .read fun m' => .each (m'.pages.filter fun p => p.2.changed) fun p =>
      .some? (m'.atollOf p.1) fun n => writeRecord n p.1,
    .read fun m' => .each (List.range m'.sled.homes) tallyUpdate]

/-- The core is unpowered: its links are down and its domains without power (step 8, Table 21.7). -/
def coreDown : Act := .read fun m =>
  .all [.each ((List.range m.sled.heads).filter fun h => m.get .HBR_HEAD_WIDTH h != 0) linkGone,
    .each (List.range m.sled.groups) fun g => .set .HBR_GRP_POWERED g 0,
    .each (List.range 2) fun p => .set .BQL_P_POWERED p 0,
    .each (List.range m.sled.chans) fun c => .set .DRM_C_POWERED c 0,
    .each [5, 4, 3] fun r => .emit (.power powRailOff r)]

/-- EBB_ENTRY_COMPLETE: steps 4 to 8 of Table 21.4, once every accepted request is answered. A wake that arrived meanwhile starts the
exit at once (R424, Table 21.8). -/
def ebbEntryComplete (us : Nat) : Act := .read fun m =>
  .when (m.pow.entering && m.lines.txns.isEmpty && m.lines.waits.isEmpty && m.lines.accs.isEmpty)
    (.all [homesFlush, coreDown,
      .each ((List.range m.sled.chans).filter fun c => m.flag .DRM_C_INSERVICE c) fun c => .emit (.dimm c dimmSelfRefresh 2),
      .read fun m' => .prim (.pow fun x => { x with image := some m'.saveImage, copy := some m'.saveImage, entering := false }),
      .set .REEF_IMAGE_VALID 0 1, .set .REEF_REG_MODE 0 1, .set .REEF_PSTATE 0 2,
      .inc .REEF_EBB_ENTRIES 0 1, .set .REEF_ENTRY_US 0 us, lhUnlisted,
      .when m.pow.wake (exitStart 1)])

/-! ### Brown-out (R427 to R429) -/

/-- The 0x0060 record of a start, when a slot is free: firmware slot, training, channels trained by recall, and the overflow count held
before the reset (R381, R476). -/
def startRecord : Act := .read fun m =>
  let cs := (List.range m.sled.chans).filter fun c => m.flag .DRM_C_INSERVICE c
  let rec' := cs.filter fun c => m.flag .DRM_C_RECALLED c
  .when (decide (m.lhl.recs.length < lhSlots))
    (lhLog 0 0x0060 (m.get .ID_BOOT_SLOT)
      (Bits.ofBool (!(cs.all fun c => rec'.contains c)) + 2 ^ 16 * (rec'.map (2 ^ ·)).sum + 2 ^ 32 * m.lhl.overflowBefore))

/-- The warm-memory start of R428: the Reef has lost its memory, its time, Breakwater and the keys; the save list comes from the DRAM
copy, the metadata keys are derived again, and atolls that need keys wait for them. The sled is Active, as the REEF fields are at
reset. -/
def warmStart : Act := .read fun m =>
  let img := m.pow.copy.getD []
  .all [logAtReset,
    resetAll fun f => f.within [.csw] || lhlFields.contains f || f.standing,
    coreSlept, bkwLost, restore img fun _ => true,
    .set .LHL_WIN_BASE_MF 0 0, .set .LHL_WIN_BASE_BMC 0 0, .set .CSW_CHECKPOINTS 0 0,
    .set .CSW_ENERGY_MJ 0 (m.csw.checkpoint.getD 0), .set .CSW_ENERGY_RESET 0 (Bits.ofBool m.csw.checkpoint.isNone),
    .free fun v => .prim (.keys fun k => { nonce := k.nonce, kcv := k.kcv, reminder := k.reminder, imgNonce := v.toNat }),
    .prim (.fw fun f => { f with eid := 0, i3c := false }),
    .prim (.pow fun x => { copy := x.copy }),
    coreRails, channelsWake, .set .KEY_META_READY 0 1, .set .KEY_ENTROPY_OK 0 1,
    .each (List.range m.sled.chans) fun c => .when (m.flag .DRM_C_INSERVICE c) (.set .DRM_C_RECALLED c 1),
    .set .CSW_GRANT_LOW 0 0, .read fun m' => grantWrite (m'.get .CSW_GRANT_W),
    resume, zeroWords, .inc .SND_RESTARTS 0 1, .set .REEF_LAST_START 0 2, startRecord, raise (srcId 0x08 0 2) 0 0]

/-- REEF_BROWN_OUT: in Ebb a warm-memory start when the DRAM copy and recall serve, else a cold start from step 1 (R428, R429). -/
def reefBrownOut (copyOk recallOk : Bool) : Act := .read fun m =>
  if (m.get .REEF_PSTATE = 2 ∨ m.pow.exiting = true) ∧ copyOk = true ∧ recallOk = true then warmStart
  else .all [powerOnReset, .set .REEF_LAST_START 0 3, raise (srcId 0x08 0 2) 0 0]

/-! ### Meanings -/

/-- REEF_GO_ACTIVE (R419). -/
def execReefGoActive (s : State) : Host.Outcome State Fault Refusal := s.act reefGoActive

/-- REEF_GO_SLACK (R420). -/
def execReefGoSlack (s : State) : Host.Outcome State Fault Refusal := s.act reefGoSlack

/-- REEF_GO_EBB (R422). -/
def execReefGoEbb (s : State) : Host.Outcome State Fault Refusal := s.act reefGoEbb

/-- EBB_ENTRY_COMPLETE (R422). -/
def execEbbEntryComplete (us : Nat) (s : State) : Host.Outcome State Fault Refusal := s.act (ebbEntryComplete us)

/-- HOST_WAKE (R425). -/
def execHostWake (g : Nat) (l1Exit : Bool) (s : State) : Host.Outcome State Fault Refusal := s.act (hostWake g l1Exit)

/-- EBB_EXIT_COMPLETE (R425). -/
def execEbbExitComplete (us : Nat) (s : State) : Host.Outcome State Fault Refusal := s.act (ebbExitComplete us)

/-- REEF_BROWN_OUT (R428). -/
def execReefBrownOut (copyOk recallOk : Bool) (s : State) : Host.Outcome State Fault Refusal :=
  s.act (reefBrownOut copyOk recallOk)

end Sys2Proof.Machine
end

