-- ==== Sys2Proof/Machine/Flags.lean ====
section
/-!
DEFINITION. Flags. The block computes no arithmetic flags; the flags that every write of setup space has are the `_WR_REFUSED` bits:
1 when the last write to the block, or to the entry, was refused (R471).
-/

namespace Sys2Proof.Machine

/-- `_WR_REFUSED` of a block, or of a queue pair's entry. -/
def refusedBit (b : Blk) (q : Nat) : Option (Fld × Nat) :=
  match b with
  | .ident => some (.ID_WR_REFUSED, 0)
  | .reef => some (.REEF_WR_REFUSED, 0)
  | .csw => some (.CSW_WR_REFUSED, 0)
  | .hbr => some (.HBR_WR_REFUSED, 0)
  | .drm => some (.DRM_WR_REFUSED, 0)
  | .noc => some (.NOC_WR_REFUSED, 0)
  | .rgl => some (.RGL_WR_REFUSED, 0)
  | .bkw => some (.BKW_WR_REFUSED, 0)
  | .snd => some (.SND_WR_REFUSED, 0)
  | .qp => some (.QP_WR_REFUSED, q)
  | .tdl => some (.TDL_WR_REFUSED, 0)
  | .grn => some (.GRN_WR_REFUSED, 0)
  | .tier => some (.TIER_WR_REFUSED, 0)
  | .dir => some (.DIR_WR_REFUSED, 0)
  | .bql => some (.BQL_WR_REFUSED, 0)
  | .arc => some (.ARC_WR_REFUSED, 0)
  | _ => none

/-- Set or clear `_WR_REFUSED` where the block has one. -/
def markWrite (b : Blk) (q v : Nat) : Act := .some? (refusedBit b q) fun x => .set x.1 x.2 v

end Sys2Proof.Machine
end

