-- ==== Sys2Proof/Machine/Startup.lean ====
section
/-!
DEFINITION. Start-up, identity and firmware (chapter of that name): the boot of firmware and memory, service states, the security
version, BIST, attestation, the management transport, the TAP, and the sideband's signals.
-/

namespace Sys2Proof.Machine

/-! ### Failures of a start (R434) -/

/-- A start fails a step: it stays in Start-up with `ID_BOOT_ERR`, and the failure is recorded with the population's error and a slot,
0xFF when none applies (R434, R476). -/
def startFails (err step pop slot : Nat) : Act :=
  .all [.set .ID_BOOT_STEP 0 step, .set .ID_BOOT_ERR 0 err, .set .DRM_POP_ERR 0 pop,
    lhLog 0 0x0063 err (step + 2 ^ 8 * pop + 2 ^ 16 * slot)]

/-! ### Firmware (R438, R439) -/

/-- Pilot firmware starts from slot k. -/
def firmwareRuns (k fallback : Nat) : Act :=
  .all [.prim (.fw fun f => { f with active := k }), .set .ID_BOOT_SLOT 0 (k - 1), .set .ID_BOOT_FALLBACK 0 fallback,
    .set .ID_BOOT_STEP 0 4]

/-- A trip that no start has recorded is recorded as source 0x2400, with its kind and on-time from the ledger (R411, R476). -/
def tripRecord : Act := .read fun m =>
  .when m.csw.tripDue
    (.seq (lhLog (srcId 0x09 0 0) 0x0001 0 (m.get .CSW_LAST_TRIP + 2 ^ 32 * m.get .CSW_LAST_ON_MS))
      (.prim (.csw fun c => { c with tripDue := false })))

/-- FIRMWARE_BOOT: step 3 of Table 22.1: the slot of the boot selector, then the other, then the ROM's loader (R439). The DRBG serves
from here on. -/
def firmwareBoot : Act := .read fun m =>
  let a := m.fw.selector + 1
  .when (decide (5 ≤ m.csw.rails) && m.fw.active == 0 && !m.fw.loader && !m.fatal)
    (.all [tripRecord, .set .KEY_ENTROPY_OK 0 1,
      if m.fwAccepts (m.fwSlot a) then firmwareRuns a 0
      else if m.fwAccepts (m.fwSlot (3 - a)) then firmwareRuns (3 - a) 1
      else .seq (.prim (.fw fun f => { f with loader := true })) (startFails 1 3 0 0xFF)])

/-! ### Population (R322 to R324) -/

/-- Why a DIMM is refused, in the order of Table 15.1; 0 when it is accepted (R322, Table 15.8). -/
def dimmRefusal (d : Dimm) : Nat :=
  if d.kind ≠ 1 ∧ d.kind ≠ 2 then 1
  else if d.width ≠ 4 then 2
  else if ¬ ([16, 24, 32, 64].contains d.density ∧ [1, 2, 4].contains d.stack) then 3
  else if d.ranks ≠ 1 ∧ d.ranks ≠ 2 then 4
  else if ¬ [64, 128, 256, 512].contains d.cap then 5
  else if 17000 < d.taa ∨ 17000 < d.trcd ∨ 17000 < d.trp then 6
  else if !d.crcOk then 7
  else 0

/-- Two DIMMs agree in type, capacity, density, package ranks and stack height (R323). -/
def dimmAlike (a b : Dimm) : Bool :=
  a.kind == b.kind && a.cap == b.cap && a.density == b.density && a.ranks == b.ranks && a.stack == b.stack

/-- The DIMM of a slot. -/
def slotDimm (ds : List (Option Dimm)) (d : Nat) : Option Dimm := (ds[d]?).join

/-- Slots that hold a DIMM. -/
def Sled.fitted (sl : Sled) (ds : List (Option Dimm)) : List Nat := (List.range sl.dimms).filter fun d => (slotDimm ds d).isSome

/-- Channels that hold a DIMM. -/
def Sled.fittedChans (sl : Sled) (ds : List (Option Dimm)) : List Nat :=
  (List.range sl.chans).filter fun c => (slotDimm ds (2 * c)).isSome || (slotDimm ds (2 * c + 1)).isSome

/-- DIMMs on a channel. -/
def onChan (ds : List (Option Dimm)) (c : Nat) : Nat :=
  Bits.ofBool (slotDimm ds (2 * c)).isSome + Bits.ofBool (slotDimm ds (2 * c + 1)).isSome

/-- The half set (R323). -/
def Sled.halfSet (sl : Sled) : List Nat := (List.range sl.chans).filter fun c => !Bits.bit c (sl.pick 2 1)

/-- Rates by code (Table 15.8), in MT/s. -/
def rateOf (code : Nat) : Nat := [0, 4800, 5600, 6400, 7200, 8000, 8800].getD code 0

/-- The highest rate of a population (Table 15.2), in MT/s. -/
def popRate (kind dpc : Nat) : Nat := if kind = 2 then (if dpc = 1 then 8800 else 6400) else if dpc = 1 then 6400 else 5600

/-- The code of the settled rate, 0 when no rate is common (R324). -/
def Mach.settledRate (m : Mach) (ds : List (Option Dimm)) : Nat :=
  let xs := (m.sled.fitted ds).filterMap (slotDimm ds)
  let cs := m.sled.fittedChans ds
  let ok := fun (k : Nat) =>
    (xs.all fun x => decide (rateOf k ≤ x.maxRate ∧ rateOf k ≤ popRate x.kind (onChan ds (cs.headD 0))))
      && cs.all fun c => decide (k ≤ m.get .DRM_C_MAXRATE c)
  (([6, 5, 4, 3, 2, 1] : List Nat).find? ok).getD 0

/-- The slots that differ from the population: from the first DIMM (R323). -/
def Sled.odd (sl : Sled) (ds : List (Option Dimm)) : List Nat :=
  let fs := sl.fitted ds
  match (fs.head?).bind (slotDimm ds) with
  | none => []
  | some x => fs.filter fun d => (slotDimm ds d).any fun y => !dimmAlike x y

/-- `DRM_POP_ERR` of a population, 0 when it is supported (R323, R324). -/
def Mach.popErr (m : Mach) (ds : List (Option Dimm)) (spdOk : Bool) : Nat :=
  let fs := m.sled.fitted ds
  let cs := m.sled.fittedChans ds
  if !spdOk then 6
  else if fs.isEmpty then 1
  else if fs.any fun d => (slotDimm ds d).any fun x => dimmRefusal x != 0 then 2
  else if !(m.sled.odd ds).isEmpty || cs.any fun c => onChan ds c != onChan ds (cs.headD 0) then 3
  else if cs != List.range m.sled.chans && cs != m.sled.halfSet then 4
  else if m.settledRate ds = 0 then 5
  else 0

/-- What the registers say of a DIMM that is fitted: its state, and why it is refused (Table 15.8). -/
def showDimm (ds : List (Option Dimm)) (odd : List Nat) (st d : Nat) : Act :=
  match slotDimm ds d with
  | none => .skip
  | some x =>
    .all [.set .DRM_D_STATE d (if dimmRefusal x = 0 then st else 4),
      .set .DRM_D_REASON d (if dimmRefusal x ≠ 0 then dimmRefusal x else if odd.contains d then 8 else 0),
      .set .DRM_D_TYPE d x.kind, .set .DRM_D_CAP d (x.cap / 64), .set .DRM_D_SERIAL d x.serial]

/-- The request for input power, in W (R401). -/
def Mach.requestFor (m : Mach) (n : Nat) : Nat := Bits.ceilDiv ((m.sled.pick 380 200 + 18 * n + 40) * 100) 93

/-! ### Training (R332, R333, R338, R339) -/

/-- Recall serves a channel: firmware found it passing, and the stored record matches the rate and the serial numbers (R332). -/
def Mach.recalls (m : Mach) (recalled c : Nat) : Bool :=
  Bits.bit recalled c && (m.chan.store.find? c).any fun r =>
    r.take 3 == [m.get .DRM_C_RATE c, m.get .DRM_D_SERIAL (2 * c), m.get .DRM_D_SERIAL (2 * c + 1)]

/-- A channel is trained: by recall its recorded delays are loaded; in full it finds new ones, and its record follows once drift tracking
has run for 1 s. -/
def trainChan (recalled c : Nat) : Act := .read fun m =>
  if m.recalls recalled c then
    .seq (.set .DRM_C_RECALLED c 1) (.prim (.chan fun x =>
      let ws := ((x.store.find? c).getD []).drop 3
      { x with lanes := (List.range 320).foldl (fun l i => SMap.put l (320 * c + i) (ws.getD i 0)) x.lanes
               trained := x.trained.erase c }))
  else
    .all [.emit (.dimm c dimmTrain 0),
      .prim (.chan fun x => { x with trained := x.trained.put c m.freeCtr, trainedAt := x.trainedAt.put c 0
                                     lanes := List.filter (fun p => p.1 / 320 != c) x.lanes }),
      .prim .draw]

/-- The serial number of a DIMM is in the list of those retired (R339). -/
def Mach.knownRetired (m : Mach) (d : Nat) : Bool := (m.chan.retired.find? d) == some (m.get .DRM_D_SERIAL d)

/-- Every hard repair recorded is made, and the entries are cleared (R338). -/
def hardRepairs : Act := .read fun m =>
  .seq (.each m.chan.hardRows fun r => .emit (.dimm (m.chanOf (256 * r)) dimmHppr r))
    (.prim (.chan fun c => { c with hardRows := [] }))

/-- The channels of a supported population: rate, timings, ranks, repair resources, and what is in service. A DIMM that did not train,
or whose serial number is listed, is held retired; a listed slot that holds another DIMM leaves the list (R333, R339). -/
def bringUp (ds : List (Option Dimm)) (trained recalled : Nat) : Act := .read fun m =>
  let cs := m.sled.fittedChans ds
  let rate := m.settledRate ds
  let dpc := onChan ds (cs.headD 0)
  let x := ((m.sled.fitted ds).head?).bind (slotDimm ds)
  let pkg := (x.map (·.ranks)).getD 1
  let ranks := dpc * pkg * (x.map (·.stack)).getD 1
  .all [.set .DRM_POP_SHAPE 0 (if cs = List.range m.sled.chans then 1 else 2),
    .prim (.chan fun c => { c with perChan := dpc, pkgRanks := pkg,
                                   retired := List.filter (fun p => (slotDimm ds p.1).isNone || m.knownRetired p.1) c.retired }),
    .each (m.sled.fitted ds) fun d => .set .DRM_D_STATE d (if Bits.bit trained d && !m.knownRetired d then 1 else 5),
    .each cs fun c => .all [.set .DRM_C_RATE c rate, .set .DRM_C_TAA c 17000, .set .DRM_C_TRCD c 17000, .set .DRM_C_TRP c 17000,
      .set .DRM_C_RANKS c ranks, .set .DRM_C_PPR_LEFT c (min 255 (8 * ranks))],
    hardRepairs, .each cs (trainChan recalled),
    .read fun m' => .each cs fun c => .set .DRM_C_INSERVICE c (Bits.ofBool (!m'.chanRetired c))]

/-! ### Grain space (R99, R101, R145, R321, R329, R478) -/

/-- The masks in use meet R328: bits [7:0] clear, a base bit each, all distinct, and no mask contains another's base bit. -/
def Mach.masksOk (m : Mach) : Bool :=
  let ms := m.masks
  ms.all (fun x => x != 0 && x % 256 == 0) && decide ((ms.map baseBit).Nodup)
    && (List.range ms.length).all fun i => (List.range ms.length).all fun j =>
      i == j || !Bits.bit (ms.getD i 0) (baseBit (ms.getD j 0))

/-- A DIMM that is held retired backs nothing: its plots are quarantined, and structural metadata stands elsewhere (R333). -/
def holdRetired (d : Nat) : Act :=
  .seq (closeDimm d) (.read fun m =>
    .prim (.chan fun c => { c with
      gone := (List.range m.sled.homes).foldl (fun g h => g.set h 0 ((g.find? h).getD 0 + m.quarOn h d)) c.gone }))

/-- Grain space is initialised: a new nonce and the metadata keys, stripes, structural metadata, allocation maps and tallies, and the reset
regulation set (step 6 of Table 22.1). -/
def initGrain (nonce : Nat) : Act := .read fun m =>
  let count := ((List.range m.sled.dimms).map m.dimmPlots).sum / 8192
  let raw := 256 * m.installedPlots
  let str := (List.range m.sled.homes).map (structOf m.sled count raw)
  let held := (List.range m.sled.dimms).filter fun d => m.get .DRM_D_STATE d == 5
  .all [.prim .wipe, .prim (.lines fun _ => {}), .prim (.dir fun _ => {}),
    .prim (.grain fun _ => { ready := true, structPlots := str, stripeCount := count, rawAtInit := raw }),
    .prim (.keys fun k => { k with nonce := nonce % 2 ^ 64 }), .set .KEY_META_READY 0 1,
    .each (List.range m.sled.homes) fun h =>
      let total := startStripes m.sled.homes count h * 8192
      .all [.set .GRN_TOTAL h total, .set .GRN_STRIPES h (total / 8192), .set .GRN_META h (str.getD h 0),
        .set .GRN_FREE h (total - str.getD h 0), .set .GRN_ALLOCATED h 0, .set .GRN_QUAR h 0, .set .GRN_OWED h 0],
    .when (!held.isEmpty)
      (.all [.each (List.range m.sled.homes) fun h => .read fun m' => .each ((m'.structBlocks h).filter m'.blockClosed) fun b => structMove h b,
        .each held holdRetired]),
    applyResetSet, tallyAll]

/-! ### Memory Active (R435) -/

/-- The sled enters Normal or Recovery at step 7 (Table 22.4). -/
def enterService : Act := .read fun m =>
  let st := if m.flag .ID_BOOT_FALLBACK then 3 else 1
  .seq (.set .ID_SVC_STATE 0 st) (lhLog 0 0x0064 (256 * st) 1)

/-- Steps 4 to 7 of a population that is supported: training, grain space, and Memory Active, or masks that break R328. -/
def startMemory (ds : List (Option Dimm)) (trained recalled bootMs nonce : Nat) : Act :=
  .seq (bringUp ds trained recalled) (.read fun m =>
    if m.masksOk then
      .all [initGrain nonce, .set .ID_MEM_ACTIVE 0 1, .set .ID_BOOT_MS 0 bootMs, .set .ID_BOOT_STEP 0 7, startRecord, enterService]
    else startFails 4 6 7 0xFF)

/-- MEMORY_ACTIVE: what steps 4 to 7 find of the DIMMs, with the slots that trained and the channels that recall brought up. A population
that is not supported is not brought up (R322 to R339, R434, R435). -/
def memoryActive (ds : List (Option Dimm)) (spdOk : Bool) (trained recalled bootMs nonce : Nat) : Act := .read fun m =>
  let fs := m.sled.fitted ds
  let e := m.popErr ds spdOk
  let odd := m.sled.odd ds
  let bad := (fs.find? fun d => ((slotDimm ds d).any fun x => dimmRefusal x != 0) || (e == 3 && odd.contains d)).getD 0xFF
  .when (m.fw.active != 0 && m.csw.rails == 6 && !m.flag .ID_MEM_ACTIVE && m.get .ID_BOOT_ERR == 0 && !m.fatal)
    (.all [.set .CSW_REQ_W 0 (m.requestFor fs.length), profileFall, paceRetarget,
      .each fs (showDimm ds (if e = 3 then odd else []) 6),
      if e ≠ 0 then startFails 2 4 e bad else startMemory ds trained recalled bootMs nonce])

/-! ### Service states (R442 to R444) -/

/-- A change of the service state, recorded with its cause (Table 18.2). -/
def serviceChange (to' cause : Nat) : Act := .read fun m =>
  .seq (.set .ID_SVC_STATE 0 to') (lhLog 0 0x0064 (m.get .ID_SVC_STATE + 256 * to') cause)

/-- Why a request is refused, as `ID_SVC_ERR` gives it (Table 22.4). A Fatal sled keeps its service state (R13). -/
def Mach.svcErr (m : Mach) (to' : Nat) : Nat :=
  let st := m.get .ID_SVC_STATE
  if m.fatal then 1
  else if st = 1 ∧ to' = 3 then 0
  else if st = 3 ∧ to' = 1 then (if m.flag .ID_BOOT_FALLBACK then 6 else 0)
  else if st = 1 ∧ to' = 2 then
    (if !m.flag .ID_TEST_EN then 2
     else if !m.atolls.isEmpty then 3
     else if !(m.idxs .BQL_L_STATE).isEmpty then 4
     else if m.get .ARC_HELD_IMAGES ≠ 0 then 5
     else 0)
  else if st = 2 ∧ to' = 1 then 0
  else 1

/-- A request for a service state: `ID_SVC_REQ` always takes the value; the state already held is accepted without effect. From Test to
Normal, grain space is initialised again under a new nonce (R444, Table 22.4). -/
def serviceRequest (to' : Nat) : Act := .read fun m =>
  let st := m.get .ID_SVC_STATE
  .all [.set .ID_WR_REFUSED 0 0, .set .ID_SVC_REQ 0 to',
    if st = to' then .set .ID_SVC_ERR 0 0
    else .seq (.set .ID_SVC_ERR 0 (m.svcErr to'))
      (.when (m.svcErr to' == 0)
        (.seq (serviceChange to' 0) (.when (decide (st = 2 ∧ to' = 1)) (.free fun v => initGrain v.toNat))))]

/-- SERVICE_NORMAL. -/
def serviceNormal : Act := serviceRequest 1

/-- SERVICE_RECOVERY. -/
def serviceRecovery : Act := serviceRequest 3

/-- SERVICE_TEST. -/
def serviceTest : Act := serviceRequest 2

/-- Pilot firmware runs and answers: not in Ebb, on the way into it or out of it (R426). -/
def Mach.pilotRuns (m : Mach) : Bool := m.fw.active != 0 && !m.ebbing

/-- PILOT_WATCHDOG: the source of R442, whose action reloads the firmware; the third within an hour moves Normal to Recovery. -/
def pilotWatchdog (third : Bool) : Act := .read fun m =>
  .when m.pilotRuns
    (.seq (raise (srcId 0x0B 0 1) 0 0) (.when (third && m.get .ID_SVC_STATE == 1) (serviceChange 3 2)))

/-! ### Security version (R440) -/

/-- The fused security version rises to that of the active image; it never falls. -/
def svnRaise : Act := .read fun m => .set .ID_SVN_FUSED 0 (max (m.get .ID_SVN_FUSED) ((m.fwSlot m.fw.active).svn % 64))

/-- SVN_COMMIT. -/
def svnCommit : Act := .read fun m => .seq (.set .ID_WR_REFUSED 0 0) (.when (m.fw.active != 0) svnRaise)

/-- SVN_AUTO_RAISE: 24 h in Normal with `ID_SVN_AUTO` 1. -/
def svnAutoRaise : Act := .read fun m =>
  .when (m.fw.active != 0 && m.flag .ID_SVN_AUTO && m.get .ID_SVC_STATE == 1) svnRaise

/-! ### BIST (R450) -/

/-- BIST_RUN over the channels of `ID_BIST_CHANS`, with the rows found failing, by block: refused outside Test. It overwrites the rows
that it tests: what it leaves there is not stated, and no atoll is Live in Test. -/
def bistRun (failing : List Nat) : Act := .read fun m =>
  if m.get .ID_SVC_STATE ≠ 2 then .set .ID_WR_REFUSED 0 1
  else
    let rows := failing.filter fun r => m.blockExists r && Bits.bit (m.get .ID_BIST_CHANS) (m.chanOf (256 * r))
    .all [.set .ID_WR_REFUSED 0 0,
      .each (Bits.ones (m.get .ID_BIST_CHANS) m.sled.chans) fun c => .emit (.dimm c dimmMp 0),
      .each rows fun _ => lhUnlisted,
      .set .ID_BIST_RESULT 0 (if rows.isEmpty then 2 else 3)]

/-! ### Test enable (R446) -/

/-- The status of a TEST_EN message: the test role, then `INDEX` (R446, R477). -/
def testEnStatus (s : Session) (index : Nat) : Nat := if !Bits.bit (Session.held s) 2 then 4 else if index ≠ 0 then 3 else 0

/-- A TEST_EN message with `KIND` 1 or 0. -/
def testEn (s : Session) (index : Nat) (v : Bool) : Act :=
  let st := testEnStatus s index
  .seq (.when (st == 0) (.set .ID_TEST_EN 0 (Bits.ofBool v))) (keyAnswer s 0x20 st (List.replicate 8 0))

/-! ### Attestation (R445) -/

/-- Message codes of SPDM 1.3 responses, and its error codes (log entry 40). -/
def spdmCode : SpdmReq → Nat
  | .getVersion => 0x04 | .getCapabilities => 0x61 | .negotiateAlgorithms => 0x63 | .getDigests => 0x01 | .getCertificate => 0x02
  | .challenge => 0x03 | .getMeasurements => 0x60 | .keyExchange => 0x64 | .finish => 0x65 | .heartbeat => 0x68
  | .keyUpdate => 0x69 | .endSession => 0x6C | .vendorDefined => 0x7E | .other => 0x7F

/-- An SPDM response. -/
def spdmAnswer (r : SpdmReq) (fields : List Nat) : Act := .emit (.mgmtRsp 0 (spdmCode r) fields)

/-- An SPDM error. -/
def spdmError (code : Nat) : Act := .emit (.mgmtRsp 0 0x7F [code])

/-- SPDM_REQUEST: the exchange goes from version to capabilities to algorithms, and the other requests need it complete; at most four
sessions are open or being set up. Measurement block 4 gives the security versions. -/
def spdmRequest (r : SpdmReq) : Act := .read fun m =>
  let open' := m.fw.sessions + Bits.ofBool m.fw.setup
  .when m.pilotRuns
    (match r with
     | .getVersion => .seq (.prim (.fw fun f => { f with spdm := 1 })) (spdmAnswer r [0x13])
     | .getCapabilities =>
       if m.fw.spdm = 1 then .seq (.prim (.fw fun f => { f with spdm := 2 })) (spdmAnswer r []) else spdmError 4
     | .negotiateAlgorithms =>
       if m.fw.spdm = 2 then .seq (.prim (.fw fun f => { f with spdm := 3 })) (spdmAnswer r []) else spdmError 4
     | .other => spdmError 7
     | .keyExchange =>
       if m.fw.spdm ≠ 3 then spdmError 4
       else if 4 ≤ open' then spdmError 0x0A
       else .seq (.prim (.fw fun f => { f with setup := true })) (spdmAnswer r [])
     | .finish =>
       if m.fw.spdm ≠ 3 ∨ m.fw.setup = false then spdmError 4
       else .seq (.prim (.fw fun f => { f with setup := false, sessions := f.sessions + 1 })) (spdmAnswer r [])
     | .endSession =>
       if m.fw.sessions = 0 then spdmError 4
       else .seq (.prim (.fw fun f => { f with sessions := f.sessions - 1 })) (spdmAnswer r [])
     | .heartbeat => if m.fw.sessions = 0 then spdmError 4 else spdmAnswer r []
     | .keyUpdate => if m.fw.sessions = 0 then spdmError 4 else spdmAnswer r []
     | .getMeasurements =>
       if m.fw.spdm ≠ 3 then spdmError 4 else spdmAnswer r [m.get .ID_SVN_FUSED, (m.fwSlot m.fw.active).svn]
     | .getDigests => if m.fw.spdm ≠ 3 then spdmError 4 else spdmAnswer r []
     | .getCertificate => if m.fw.spdm ≠ 3 then spdmError 4 else spdmAnswer r [m.get .ID_IDENT, m.get .ID_SLED_SERIAL, m.get .ID_SLED_SERIAL 1]
     | .challenge => if m.fw.spdm ≠ 3 then spdmError 4 else spdmAnswer r []
     | .vendorDefined => if m.fw.spdm ≠ 3 then spdmError 4 else spdmAnswer r [])

/-! ### Management transport (R447) -/

/-- The reading of a PLDM sensor; none for one that the sled has not or that has not been read. -/
def Mach.sensor (m : Mach) (id : Nat) : Option Nat :=
  match id with
  | 0 => some (m.get .CSW_VIN_MV)
  | 1 => some (m.get .CSW_IIN_DA)
  | 2 => some (m.get .CSW_VIN_MV * m.get .CSW_IIN_DA / 10000)
  | 3 => some (m.get .CSW_FET_DIRECT)
  | 4 => m.fw.junction
  | 5 => some (m.get .NOC_PACE)
  | d + 6 => if d < m.sled.dimms && m.get .DRM_D_STATE d != 0 then some (m.get .DRM_D_TEMP d) else none

/-- PLDM_REQUEST: completion code and fields (log entry 40): the FRU record gives the serial, the identity word and the DIMMs' serial
numbers. -/
def pldmRequest (r : PldmReq) : Act := .read fun m =>
  .when m.pilotRuns
    (match r with
     | .base => .emit (.mgmtRsp 1 0 [])
     | .fru => .emit (.mgmtRsp 1 0 ([m.get .ID_SLED_SERIAL, m.get .ID_SLED_SERIAL 1, m.get .ID_IDENT]
         ++ ((List.range m.sled.dimms).filter fun d => m.get .DRM_D_STATE d != 0).map fun d => m.get .DRM_D_SERIAL d))
     | .sensor id' => match m.sensor id' with
       | some v => .emit (.mgmtRsp 1 0 [v])
       | none => .emit (.mgmtRsp 1 0x80 [])
     | .other => .emit (.mgmtRsp 1 0x05 []))

/-- MCTP_CONTROL: the BMC assigns the endpoint id; the endpoint answers in every state that has one (R412, R426, R447). -/
def mctpControl (op : MctpOp) : Act := .read fun m =>
  match op with
  | .setEndpointId e =>
    if 8 ≤ e ∧ e < 255 then .seq (.prim (.fw fun f => { f with eid := e })) (.emit (.mgmtRsp 2 0 [e]))
    else .emit (.mgmtRsp 2 2 [])
  | .getEndpointId => .emit (.mgmtRsp 2 0 [m.fw.eid])
  | .getVersionSupport => .emit (.mgmtRsp 2 0 [0x13])
  | .getMessageTypeSupport => .emit (.mgmtRsp 2 0 [0x00, 0x01, 0x05, 0x06, 0x07, 0x7E])
  | .other => .emit (.mgmtRsp 2 5 [])

/-- ENTDAA: SB_SCL and SB_SDA change to I3C until the next power-on reset of the Reef (R454). -/
def entdaa : Act := .prim (.fw fun f => { f with i3c := true })

/-! ### TAP (R449) -/

/-- The TAP's IDCODE. -/
def Mach.idcode (m : Mach) : Nat := m.sled.pick 0x1D32AD8B 0x1D16AD8B

/-- The number under which the state keeps an instruction. -/
def tapNumber : TapIr → Nat
  | .bypass => 0 | .idcode => 1 | .sample => 2 | .preload => 3 | .extest => 4 | .other => 5

/-- TAP_INSTRUCTION: outside Test only IDCODE is not BYPASS. What the boundary registers hold is open. -/
def tapInstruction (ir : TapIr) : Act := .read fun m =>
  let ir' := if m.get .ID_SVC_STATE = 2 ∨ ir = .idcode then ir else .bypass
  .seq (.prim (.fw fun f => { f with tapIr := tapNumber ir' }))
    (match ir' with
     | .bypass => .emit (.tap .bypass 0)
     | .idcode => .emit (.tap .idcode m.idcode)
     | x => .free fun v => .emit (.tap x v.toNat))

/-! ### Sideband signals (R455, R456, R463) -/

/-- SLED_ID_SAMPLE: a value that differs from the last is reported and recorded; nothing else follows from it (R455). -/
def sledIdSample (v : Nat) : Act := .read fun m =>
  .when m.pilotRuns
    (.seq (.prim (.fw fun f => { f with sledId := some (v % 8) }))
      (.when (m.fw.sledId.any (· != v % 8)) (.seq (.emit (.mgmtRsp 1 0x0A [v % 8])) lhUnlisted)))

/-- LOCATE_CHANGE: the LED is lit while LOCATE_N is low. -/
def locateChange (low : Bool) : Act := .seq (.prim (.fw fun f => { f with ledLit := low })) (.emit (.pin pinLed low))

/-- JUNCTION_TEMP_SAMPLE of the hottest sensor, in °C: above 105 °C the sled runs Hold, until a reading at or below 100 °C lets the rise
rule return it (R463). -/
def junctionTempSample (t : Nat) : Act := .read fun m =>
  .all [sensorEvent sensorJunction (sensorLevel (m.fw.junction.getD 0) 100 105 115) (sensorLevel t 100 105 115),
    .prim (.fw fun f => { f with junction := some t, hot := decide (105 < t) || (f.hot && decide (100 < t)) }), profileFall]

/-- Level of CBL_ACT_N of a port group: low while any of its heads is in L0 (Table 23.3). -/
def Mach.cableActive (m : Mach) (g : Nat) : Bool := (m.groupHeads g).any fun h => m.get .HBR_HEAD_LTSSM h == ltL0

/-- Level of CBL_FAULT_N of a port group: low while a source of its host harbour is pending (Table 23.3). -/
def Mach.cableFault (m : Mach) (g : Nat) : Bool :=
  (List.range 32).any fun k => m.flag .BKW_P_VALID k && srcClass (m.get .BKW_P_ID k) == 0x02 && srcInst (m.get .BKW_P_ID k) / 4 == g

/-! ### Meanings -/

/-- FIRMWARE_BOOT (R439). -/
def execFirmwareBoot (s : State) : Host.Outcome State Fault Refusal := s.act firmwareBoot

/-- MEMORY_ACTIVE (R435). -/
def execMemoryActive (dimms : List (Option Dimm)) (spdOk : Bool) (trained recalled : Nat) (bootMs : Nat) (nonce : Nat) (s : State) : Host.Outcome State Fault Refusal :=
  s.act (memoryActive dimms spdOk trained recalled bootMs nonce)

/-- SERVICE_NORMAL (R444). -/
def execServiceNormal (s : State) : Host.Outcome State Fault Refusal := s.act serviceNormal

/-- SERVICE_RECOVERY (R444). -/
def execServiceRecovery (s : State) : Host.Outcome State Fault Refusal := s.act serviceRecovery

/-- SERVICE_TEST (R444). -/
def execServiceTest (s : State) : Host.Outcome State Fault Refusal := s.act serviceTest

/-- PILOT_WATCHDOG (R442). -/
def execPilotWatchdog (thirdInHour : Bool) (s : State) : Host.Outcome State Fault Refusal := s.act (pilotWatchdog thirdInHour)

/-- SVN_COMMIT (R440). -/
def execSvnCommit (s : State) : Host.Outcome State Fault Refusal := s.act svnCommit

/-- SVN_AUTO_RAISE (R440). -/
def execSvnAutoRaise (s : State) : Host.Outcome State Fault Refusal := s.act svnAutoRaise

/-- BIST_RUN (R450). -/
def execBistRun (failing : List Nat) (s : State) : Host.Outcome State Fault Refusal := s.act (bistRun failing)

/-- TEST_EN_SET (R446). -/
def execTestEnSet (ss : Session) (index : Nat) (s : State) : Host.Outcome State Fault Refusal := s.act (testEn ss index true)

/-- TEST_EN_CLEAR (R446). -/
def execTestEnClear (ss : Session) (index : Nat) (s : State) : Host.Outcome State Fault Refusal :=
  s.act (testEn ss index false)

/-- SPDM_REQUEST (R445). -/
def execSpdmRequest (r : SpdmReq) (s : State) : Host.Outcome State Fault Refusal := s.act (spdmRequest r)

/-- PLDM_REQUEST (R447). -/
def execPldmRequest (r : PldmReq) (s : State) : Host.Outcome State Fault Refusal := s.act (pldmRequest r)

/-- TAP_INSTRUCTION (R449). -/
def execTapInstruction (ir : TapIr) (s : State) : Host.Outcome State Fault Refusal := s.act (tapInstruction ir)

/-- SLED_ID_SAMPLE (R455). -/
def execSledIdSample (v : Nat) (s : State) : Host.Outcome State Fault Refusal := s.act (sledIdSample v)

/-- LOCATE_CHANGE (R455). -/
def execLocateChange (low : Bool) (s : State) : Host.Outcome State Fault Refusal := s.act (locateChange low)

/-- JUNCTION_TEMP_SAMPLE (R463). -/
def execJunctionTempSample (t : Nat) (s : State) : Host.Outcome State Fault Refusal := s.act (junctionTempSample t)

/-- MCTP_CONTROL (R447). -/
def execMctpControl (op : MctpOp) (s : State) : Host.Outcome State Fault Refusal := s.act (mctpControl op)

/-- ENTDAA (R454). -/
def execEntdaa (s : State) : Host.Outcome State Fault Refusal := s.act entdaa

end Sys2Proof.Machine
end

