-- ==== Sys2Proof/Machine/Setup.lean ====
section
/-!
DEFINITION. Setup space (chapter "Setup space register map"): the fields of a word, its reads, its writes with their checks, accesses over
MCTP, and `SETUP_LOCK`.
-/

namespace Sys2Proof.Machine

/-! ### The fields of a word (R465, R469, R470) -/

/-- The block that holds an address (Table 24.1). -/
def blockAt (a : Nat) : Option Blk := Blk.all.find? fun b => decide (b.base ≤ a ∧ a ≤ b.last)

/-- The index of a field's entry, from the distance of the entry to the field's first. -/
def dimIndex (s : Sled) : List Dim → Nat → Option Nat
  | [], d => if d = 0 then some 0 else none
  | x :: xs, d =>
    if d / x.stride < s.pick x.n32 x.n16 then
      (dimIndex s xs (d % x.stride)).map fun j => d / x.stride * xs.foldl (fun n y => n * y.n32) 1 + j
    else none

/-- The sled has the entry's master or counter, and the manual lists the entry's class and cause (R321, R363, R385). -/
def entryFitted (s : Sled) (f : Fld) (i : Nat) : Bool :=
  match f.spec.blk with
  | .rgl => if decide (0x100 ≤ f.spec.off ∧ f.spec.off < 0x1000) then masterPresent s i
      else if 0x4000 ≤ f.spec.off then masterPresent s (i % 74) else true
  | .bkw => if decide (0x2000 ≤ f.spec.off ∧ f.spec.off < 0x4000) then (bkwDefault i).isSome else true
  | .snd => if [Fld.SND_K_EVENT, .SND_K_ARG, .SND_K_CHAIN, .SND_K_EN].contains f then (attOf i).fitted s else true
  | _ => true

/-- The fields of an 8-byte word that the sled has: field, index and lowest bit in the word. Two entries of 4 bytes share a word. -/
def wordFields (s : Sled) (a : Nat) : List (Fld × Nat × Nat) :=
  match blockAt a with
  | none => []
  | some b => (Fld.ofBlk b).flatMap fun f => ([0, 4] : List Nat).filterMap fun h =>
      if a - b.base + h < f.spec.off then none
      else (dimIndex s f.spec.dims (a - b.base + h - f.spec.off)).bind fun i =>
        if entryFitted s f i then some (f, i, f.spec.lo + 8 * h) else none

/-! ### Reads -/

/-- Lowest bit of a lane's field in the lane's word. -/
def laneLo (f : Fld) : Nat := match f with | .DRM_L_WR => 16 | .DRM_L_VREF => 26 | _ => 0

/-- The field is one of a lane. -/
def laneField (f : Fld) : Bool := [Fld.DRM_L_RD, .DRM_L_WR, .DRM_L_VREF].contains f

/-- Milliseconds or microseconds from now to a time, rounded up; 0 once it has come. -/
def Mach.until (m : Mach) (t unit : Nat) : Nat := Bits.ceilDiv (t - m.now) unit

/-- What a field reads as on a path: what the register file holds, but for fields that count time, lanes, a management bell, and a home's
group that the path has latched (R123, R229, R330, Table 0.3). -/
def Mach.fieldRead (m : Mach) (p : Path) (f : Fld) (i : Nat) : Nat :=
  if laneField f then Bits.field (m.laneWord i) (laneLo f) f.spec.width
  else if grnGroup.contains f && f != .GRN_FREE then
    match m.grain.latch.find? (latchKey p i) with
    | some l => l.getD (grnGroup.idxOf f) 0
    | none => m.get f i
  else match f with
    | .BKW_P_LEFT => match m.bkw.expiry.find? i with
      | some t => m.until t 1000
      | none => 0
    | .CSW_HEALTHY_S => if m.flag .CSW_PG_OUT then min 600 ((m.now - m.csw.pgAt) / 10 ^ 9) else 0
    | .CSW_OFF_LEFT_MS => m.until m.csw.offUntil (10 ^ 6)
    | .QP_MGMT_BELL => if m.get .QP_OWNER i = ownMgmt then m.bellWord ownMgmt i else 0
    | _ => if f.spec.acc == .wo then 0 else m.get f i

/-- The log's window (R383): 8 bytes of a slot, under the base of the path. -/
def Mach.logWindow (m : Mach) (p : Path) (d : Nat) : Nat :=
  let base := match p with | .mf => m.get .LHL_WIN_BASE_MF | .mctp _ => m.get .LHL_WIN_BASE_BMC
  Bits.leNat (((m.lhSlot (64 * base + d / 64)).drop (d % 64)).take 8)

/-- A word as a path reads it. The Reef's supply, within its tolerance, and its load are measurements, which the manual leaves open
(Table 21.9, log entry 4). -/
def Mach.wordRead (m : Mach) (p : Path) (a : Nat) : Nat :=
  if 0x71000 ≤ a ∧ a < 0x72000 then m.logWindow p (a - 0x71000)
  else
    let w := ((wordFields m.sled a).map fun x => m.fieldRead p x.1 x.2.1 * 2 ^ x.2.2).sum
    if a = 0x1018 then
      let v := (Config.freeValue m.freeCtr).toNat
      Bits.setField (Bits.setField w 16 12 (728 + v % 45)) 32 16 (v / 2 ^ 32)
    else w

/-- What a read does: a read of `GRN_FREE` latches its group, a read of the Reef's measurements takes one (R123). -/
def wordReadEffect (p : Path) (a : Nat) : Act := .read fun m =>
  .all [.each ((wordFields m.sled a).filter fun x => x.1 == .GRN_FREE) fun x => grnLatch p x.2.1,
    .when (a == 0x1018) (.prim .draw)]

/-! ### Writes: what a word would become (R469) -/

/-- A field with the value that a write gives it. -/
abbrev Put := Fld × Nat × Nat

/-- A written word: its address, and the bytes written: 8, or 4 from byte 0 or 4. -/
structure WordWrite where
  addr : Nat
  half : Option Nat
  value : Nat
  deriving DecidableEq, Repr

/-- What stands in a field's place before a write: 0 of a field whose bits act when written 1. -/
def Mach.before (m : Mach) (f : Fld) (i : Nat) : Nat :=
  if laneField f then Bits.field (m.laneWord i) (laneLo f) f.spec.width
  else match f.spec.acc with
    | .w1c => 0
    | .w1s => 0
    | _ => m.get f i

/-- The writable fields of a word, with the value that a write gives each; the other half of a 4-byte write is unchanged. -/
def Mach.puts (m : Mach) (w : WordWrite) : List Put :=
  let fs := (wordFields m.sled w.addr).filter fun x => x.1.spec.acc != .ro
  let old := (fs.map fun x => m.before x.1 x.2.1 * 2 ^ x.2.2).sum
  let new := match w.half with
    | none => w.value
    | some h => Bits.setField old (32 * h) 32 w.value
  fs.map fun x =>
    let v := Bits.field new x.2.2 x.1.spec.width
    (x.1, x.2.1, if x.1 = .RGL_M_CHANSET then v % m.sled.pick 65536 256
      else if x.1 = .RGL_M_SENIOR ∧ (x.2.1 = 64 ∨ x.2.1 = 65) then 1 else atlKept m.sled x.1 v)

/-- The bytes of the word that a write reaches, as a mask. -/
def WordWrite.bytes (w : WordWrite) : Nat := match w.half with | none => 0xFF | some h => 0xF * 16 ^ h

/-- The value that a write gives a field; 0 when the word has it not. -/
def valueIn (l : List Put) (f : Fld) : Nat := ((l.find? fun x => x.1 == f).map (·.2.2)).getD 0

/-- The machine as the write would leave its fields, lanes and bits that act apart. -/
def Mach.after (m : Mach) (l : List Put) : Mach := l.foldl (fun m x => { m with regs := m.setReg x.1 x.2.1 x.2.2 }) m

/-! ### Checks of a word, block by block (R471) -/

/-- A value lies outside a range. -/
def outside (v lo hi : Nat) : Bool := decide (v < lo ∨ hi < v)

/-- ID (R450). -/
def Mach.idBad (m : Mach) (f : Fld) (v : Nat) : Bool := f == .ID_BIST_GO && v == 1 && m.get .ID_SVC_STATE != 2

/-- CSW (R403, R414, R418). -/
def Mach.cswBad (m : Mach) (f : Fld) (v : Nat) : Bool :=
  match f with
  | .CSW_INS_DELAY_MS => outside v 50 2000
  | .CSW_INRUSH_A => outside v 2 25
  | .CSW_BRAKE_PROFILE => outside v (m.sled.pick 1 4) 4
  | .CSW_GRANT_W => decide (m.maxInput < v)
  | .CSW_POWER_CYCLE => v == 1 && !m.fatal && m.get .ID_SVC_STATE != 2
  | _ => false

/-- HBR (R202, R208, R209, R211 to R213, Table 9.7). -/
def Mach.hbrBad (m m' : Mach) (f : Fld) (i v : Nat) : Bool :=
  let changed := m.get f i != v
  match f with
  | .HBR_MGMT_HEAD => changed && m.mgmtHeadBad v
  | .HBR_PATIENCE => outside v 100 100000
  | .HBR_GRP_BIFUR => decide (3 ≤ v) || (changed && m.bifurHeld i)
  | .HBR_GRP_MAXRATE => decide (6 ≤ v)
  | .HBR_HEAD_RESV => changed && decide (32 < m.reserveSum i v)
  | .HBR_LD_VALID | .HBR_LD_HEAD | .HBR_LD_ID =>
    changed && m.ldRefused i (m'.flag .HBR_LD_VALID i) (m'.get .HBR_LD_HEAD i) (m'.get .HBR_LD_ID i)
  | .HBR_LD_CAP => decide (131072 < v)
  | .HBR_LD_ALIAS_LOG2 => v != 0 && outside v 21 40
  | _ => false

/-- DRM (R329 to R331, R339, R340, Table 15.8). -/
def Mach.drmBad (m : Mach) (f : Fld) (i v : Nat) : Bool :=
  match f with
  | .DRM_SCRUB_HOURS => outside v 1 168
  | .DRM_PPR_THRESH => v == 0
  | .DRM_DRIFT_MS => outside v 4 1000
  | .DRM_MAP => m.grain.ready
  | .DRM_C_MAXRATE => v == 7
  | .DRM_C_PWRDN => v == 1 && !m.flag .DRM_C_PWRDN i && !m.chanRetired i
  | .DRM_C_SHADOW_GO => v == 1 && m.flag .DRM_C_SHADOW_BUSY i
  | .DRM_C_MP_CMD | .DRM_C_MP_DATA | .DRM_L_RD | .DRM_L_WR | .DRM_L_VREF => m.get .ID_SVC_STATE != 2
  | .DRM_D_RETIRE => v == 1 && m.dimmServes i && !m.fitsWithout i
  | _ => false

/-- NOC (R359, R362). -/
def Mach.nocBad (m m' : Mach) (f : Fld) (v : Nat) : Bool :=
  match f with
  | .NOC_VCORE_MIN_MV | .NOC_VCORE_MAX_MV => outside v 600 850 || decide (m'.get .NOC_VCORE_MAX_MV < m'.get .NOC_VCORE_MIN_MV)
  | .NOC_RECONF_GO => v == 1 && m.get .NOC_RECONF_STATE != 0
  | _ => false

/-- BKW (R364, R367, R368, R373, R375). -/
def Mach.bkwBad (m m' : Mach) (f : Fld) (i v : Nat) : Bool :=
  match f with
  | .BKW_REACT_TIME => outside v 1 10000000
  | .BKW_C_SEV => decide (v < (bkwDefault i).getD 0)
  | .BKW_C_MASK => v == 1 && m'.get .BKW_C_SEV i == 3
  | .BKW_C_ACTION => decide (3 ≤ v) || (v == 2 && i != 0x018)
  | .BKW_FORCE => (Bits.ones v 64).any fun b => !m.mayForce (64 * i + b)
  | _ => false

/-- The event and its argument are listed for the counter's attachment (Table 19.2). -/
def eventListed (k e a : Nat) : Bool :=
  e == 0 && a == 0 || match attOf k with
    | .islet _ => if e = 9 then decide (a ≤ 4) else decide (1 ≤ e ∧ e ≤ 0xB) && a == 0
    | .host _ => decide (0x20 ≤ e ∧ e ≤ 0x2C ∧ a ≤ 3)
    | .chan _ => if e = 0x44 then decide (a ≤ 73) else decide (0x40 ≤ e ∧ e ≤ 0x45) && a == 0
    | .boesque _ => if e = 0x63 then a == 0 else decide (0x60 ≤ e ∧ e ≤ 0x62 ∧ (a ≤ 4 ∨ a = 7))
    | .queue _ => decide (0x80 ≤ e ∧ e ≤ 0x83) && a == 0
    | .pilot => decide (0xA0 ≤ e ∧ e ≤ 0xA2) && a == 0

/-- SND (R387, R388, R393, Table 19.7). -/
def Mach.sndBad (m m' : Mach) (f : Fld) (i v : Nat) : Bool :=
  match f with
  | .SND_SNAP_GO => v == 1 && m.get .SND_SNAP_STATUS == 1
  | .SND_T_LOG2 | .SND_S_LOG2 => decide (20 < v)
  | .SND_S_OWNER => decide (256 < v)
  | .SND_K_EVENT | .SND_K_ARG => !eventListed i (m'.get .SND_K_EVENT i) (m'.get .SND_K_ARG i)
  | .SND_K_CHAIN => m.get f i != v && (i % 2 == 1 || m.flag .SND_K_EN i || m.flag .SND_K_EN (i + 1))
  | _ => false

/-- QP (R222 to R224, Table 10.10). Ring sizes and bases are checked at the enable (Table 10.1). -/
def Mach.qpBad (m m' : Mach) (f : Fld) (q v : Nat) : Bool :=
  let changed := m.get f q != v
  let st := m.get .QP_STATE q
  match f with
  | .QP_OWNER => !(decide (v < m.sled.lds) || v == 256 || v == 511) || (changed && m.flag .QP_EN q)
  | .QP_SQ_HOST | .QP_CQ_HOST | .QP_SQ_LOG2 | .QP_CQ_LOG2 | .QP_SQ_BASE | .QP_CQ_BASE => changed && m.flag .QP_EN q
  | .QP_EN => v == 1 && st != qpEnabled && !(st == qpDisabled && m'.enableOk q)
  | .QP_DEPTH => outside v 1 256
  | _ => false

/-- TDL (R171). -/
def tdlBad (f : Fld) (v : Nat) : Bool :=
  match f with
  | .TDL_RATE_ATL => outside v 1 20
  | .TDL_RATE_DEV => outside v 1 80
  | .TDL_AUTO_EPOCH => outside v 0x10000000 0xF0000000
  | _ => false

/-- GRN (R117, R123). -/
def Mach.grnBad (m m' : Mach) (f : Fld) (v : Nat) : Bool :=
  match f with
  | .GRN_ELASTIC_EN => v == 0 && m.atolls.any fun n => m.isElastic n
  | .GRN_FLOOR_BP =>
    outside v 100 2000 || decide (m'.get .GRN_WM_MID_BP < v + 2 * m'.get .GRN_WM_HYST_BP)
      || decide (m'.get .GRN_WM_HIGH_BP < m'.get .GRN_WM_MID_BP)
      || (m.get f != v && (!m'.sledFits (m.reserved m.sled.atolls) m.poolPlots
        || !(List.range m.sled.chans).all (m'.chanFits m.sled.atolls)))
  | .GRN_DEADLINE => outside v 1000 600000
  | .GRN_SWEEP_HOURS => outside v 1 168
  | _ => false

/-- TIER (R142). -/
def tierBad (m' : Mach) (f : Fld) (c v : Nat) : Bool :=
  let lift := m'.get .TIER_CLS_LIFT_HEAT c
  let swell := m'.get .TIER_CLS_SWELL_SINK_HEAT c
  match f with
  | .TIER_HEAT_PERIOD => outside v 500 60000
  | .TIER_CLS_SINK_DWELL | .TIER_CLS_PUSH_DWELL => outside v 1 32
  | .TIER_CLS_SWELL_DWELL => outside v 1 32 || decide (m'.get .TIER_CLS_SINK_DWELL c < v)
  | .TIER_CLS_SWELL_SINK_HEAT => decide (v < m'.get .TIER_CLS_SINK_HEAT c) || (lift != 0 && decide (lift ≤ v))
  | .TIER_CLS_LIFT_HEAT => v != 0 && decide (v ≤ swell)
  | .TIER_CLS_RECALL_MODE => v == 3
  | _ => false

/-- BQL (R260, R272, R285). -/
def Mach.bqlBad (m m' : Mach) (f : Fld) (i v : Nat) : Bool :=
  let changed := m.get f i != v
  match f with
  | .BQL_ACK_COUNT => outside v 1 63
  | .BQL_ACK_TIME => outside v 100 100000
  | .BQL_REPLAY_TIMEOUT => outside v 5 1000
  | .BQL_GRACE => outside v 1 10000
  | .BQL_P_MODE | .BQL_P_DIRECT => changed && m.flag .BQL_P_EN i
  | .BQL_L_PEER_MAC => changed && m.flag .BQL_L_EN i
  | .BQL_L_REQ_BUDGET => outside v 16 1024 || (changed && m.flag .BQL_L_EN i)
  | .BQL_L_EN => v == 1 && changed && m.linkRefused i (m'.get .BQL_L_REQ_BUDGET i)
  | _ => false

/-- ARC (R286, R289, R290, R300, R302, R304). -/
def Mach.arcBad (m m' : Mach) (f : Fld) (i v : Nat) : Bool :=
  let changed := m.get f i != v
  match f with
  | .ARC_SLED_ID => changed && m.flag .ARC_EN
  | .ARC_EN => changed && v == 0 && m.arcBusy
  | .ARC_FORGET => m.forgetBad v
  | .ARC_HOLD_GROUPS => changed && !m.holdOk v
  | .ARC_CLAIM_WAIT => outside v 100 10000
  | .ARC_EVAC_START => v == 1 && m.dimmServes (m'.get .ARC_EVAC_DIMM) && !m.fitsWithout (m'.get .ARC_EVAC_DIMM)
  | .ARC_PAIR_MODE => decide (5 ≤ v)
  | .ARC_PAIR_GO => v == 1 && m.pairRefused (m'.get .ARC_PAIR_MODE)
  | .ARC_ATL_HOME | .ARC_ATL_REMOTE => changed && m.get .ATL_STATE i != atlBuilding
  | _ => false

/-- FRY (R257). -/
def Mach.fryBad (m m' : Mach) (f : Fld) (s v : Nat) : Bool :=
  match f with
  | .FRY_M_TARGET => v != 256 && !(decide (v < m.sled.lds) && m.flag .HBR_LD_VALID v)
  | .FRY_M_VALID => v == 1 && (List.range 8).any fun x => x != s && m'.flag .FRY_M_VALID x && m'.get .FRY_M_EID x == m'.get .FRY_M_EID s
  | _ => false

/-- A field of a word is one that refuses the write, with the whole word as it would be (R471). -/
def Mach.fieldBad (m m' : Mach) (x : Put) : Bool :=
  match x.1.spec.blk with
  | .ident => m.idBad x.1 x.2.2
  | .csw => m.cswBad x.1 x.2.2
  | .hbr => m.hbrBad m' x.1 x.2.1 x.2.2
  | .drm => m.drmBad x.1 x.2.1 x.2.2
  | .noc => m.nocBad m' x.1 x.2.2
  | .bkw => m.bkwBad m' x.1 x.2.1 x.2.2
  | .snd => m.sndBad m' x.1 x.2.1 x.2.2
  | .qp => m.qpBad m' x.1 x.2.1 x.2.2
  | .tdl => tdlBad x.1 x.2.2
  | .grn => m.grnBad m' x.1 x.2.2
  | .tier => tierBad m' x.1 x.2.1 x.2.2
  | .dir => x.1 == .DIR_BISNP_TIMEOUT && outside x.2.2 10 100000
  | .bql => m.bqlBad m' x.1 x.2.1 x.2.2
  | .arc => m.arcBad m' x.1 x.2.1 x.2.2
  | .fry => m.fryBad m' x.1 x.2.1 x.2.2
  | _ => false

/-- The fields of an entry or a slot, without the index that all share. -/
def entryPuts (l : List Put) : List (Fld × Nat) := l.map fun x => (x.1, x.2.2)

/-- The word is one of a view slot. -/
def isSlot (l : List Put) : Bool := l.any fun x => decide (0xC0 ≤ x.1.spec.off)

/-- The write of a word is refused (R44, R42, R471, R472). -/
def Mach.wordRefused (m : Mach) (b : Blk) (l : List Put) : Bool :=
  let i := ((l.head?).map (·.2.1)).getD 0
  match b with
  | .atl => if isSlot l then !(m.slotCodes i (entryPuts l)).isEmpty else !(m.entryCodes i (entryPuts l)).isEmpty
  | .reef => valueIn l .REEF_TARGET == 3 || (valueIn l .REEF_GO == 1 && m.goRefused (valueIn l .REEF_TARGET))
  | _ => l.any (fun x => x.1.spec.acc == .rwl && m.locked x.1 x.2.1 x.2.2) || l.any (m.fieldBad (m.after l))

/-! ### Writes: what an applied word does -/

/-- A lane's field is loaded; while the channel serves, into the shadow copy (R330, R331). -/
def laneWrite (f : Fld) (i v : Nat) : Act := .read fun m =>
  let c := i / 320
  if m.flag .DRM_C_INSERVICE c then
    let w := (m.chan.shadow.find? i).getD (m.laneWord i)
    .prim (.chan fun x => { x with shadow := SMap.put x.shadow i (Bits.setField w (laneLo f) f.spec.width v) })
  else setLane i (Bits.setField (m.laneWord i) (laneLo f) f.spec.width v)

/-- The pairing command of a word. -/
def pairOrder (atoll peer mode role : Nat) : Act :=
  match mode with
  | 0 => pairUnpair atoll peer role
  | 1 => pairMirror atoll peer role
  | 2 => pairDualHome atoll peer role
  | 3 => pairPromote atoll peer role
  | _ => pairHandover atoll peer role

/-- A 1 in a bit field that acts when written: what it starts. `l` is the word as written. -/
def startsAct (l : List Put) (f : Fld) (i v : Nat) : Act := .read fun m =>
  match f with
  | .SETUP_LOCK => .set .SETUP_LOCK 0 1
  | .ID_SVC_GO => serviceRequest (valueIn l .ID_SVC_REQ)
  | .ID_SVN_COMMIT => svnCommit
  | .ID_BIST_GO => .set .ID_BIST_RESULT 0 1
  | .CSW_LEDGER_CLEAR => cswLedgerClear
  | .CSW_POWER_CYCLE => cswPowerCycle
  | .DRM_C_SHADOW_GO => shadowGo i
  | .DRM_D_RETIRE => dimmRetire i
  | .NOC_PACE_CLR => .set .NOC_PACE_MIN_SEEN 0 0x7FF
  | .NOC_RECONF_GO => routerReconfigure (valueIn l .NOC_RECONF_ROUTER)
  | .RGL_COMMIT => rglCommit
  | .BKW_ACK_GO => bkwAck (valueIn l .BKW_ACK_ID) (valueIn l .BKW_ACK_ACTION) false
  | .BKW_STATUS => .seq (.set .BKW_STATUS i (m.get .BKW_STATUS i &&& (2 ^ 64 - 1 - v))) alertUpdate
  | .BKW_FORCE => .each (Bits.ones v 64) fun b => forceSource (64 * i + b)
  | .SND_SNAP_GO => snapshot
  | .SND_CLEAR => counterClear
  | .TDL_SLOT_START => tdlSlotStart i (valueIn l .TDL_SLOT_ATOLL)
  | .ARC_LEAVE => arcLeave
  | .ARC_FORGET => arcForget v
  | .ARC_EVAC_START => .when (m.dimmServes (valueIn l .ARC_EVAC_DIMM)) (evacuate (valueIn l .ARC_EVAC_DIMM))
  | .ARC_PAIR_GO =>
    pairOrder (valueIn l .ARC_PAIR_ATOLL) (valueIn l .ARC_PAIR_PEER) (valueIn l .ARC_PAIR_MODE) (valueIn l .ARC_PAIR_ROLE)
  | .FRY_M_ERR => .set .FRY_M_ERR i (m.get .FRY_M_ERR i &&& (31 - v))
  | _ => .skip

/-- A field that only holds a value takes it; one whose change does something does it (R471). -/
def putAct (bytes : Nat) (f : Fld) (i v : Nat) : Act := .read fun m =>
  let changed := m.get f i != v
  match f with
  | .HBR_GRP_EN => .when changed (hbrGrpEnWrite i (v == 1))
  | .HBR_HEAD_RESV => .seq (.set f i v) (commonUpdate (i / 4))
  | .HBR_LD_VALID => .seq (.when (changed && v == 0) (ferryLdGone i)) (.set f i v)
  | .QP_EN => if v = 1 then .when changed (qpEnable i) else qpDisable i
  | .QP_MGMT_BELL => .when (m.get .QP_OWNER i == ownMgmt) (bellWriteOne ownMgmt i v bytes)
  | .FRY_M_CURSOR => setCursor (256 + i) v
  | .BQL_P_EN => .when changed (portEnable i (v == 1))
  | .BQL_L_EN => .when changed (linkEnable i (v == 1))
  | .ARC_EN => .when changed (arcEnWrite (v == 1))
  | .ARC_HOLD_GROUPS => .when changed (arcHoldGroupsWrite v)
  | .DRM_C_PWRDN => if v = 1 then .when changed (channelPowerDown i) else .set f i 0
  | .DRM_C_MP_CMD => mpCommand i v false
  | .DRM_L_RD | .DRM_L_WR | .DRM_L_VREF => laneWrite f i v
  | .BKW_FAULT_PIN => .seq (.set f i v) faultUpdate
  | .BKW_ALERT_SEV | .BKW_C_MASK | .BKW_C_SEV => .seq (.set f i v) alertUpdate
  | .CSW_GRANT_W => .when changed (grantWrite v)
  | .CSW_BRAKE_PROFILE => .seq (.set f i v) profileFall
  | .TDL_EN => .when changed (tdlSlotPause none (v == 1))
  | .TDL_SLOT_PAUSE => .when changed (tdlSlotPause (some i) (v == 1))
  | .GRN_FLOOR_BP | .GRN_WM_MID_BP | .GRN_WM_HIGH_BP | .GRN_WM_HYST_BP => .seq (.set f i v) tallyAll
  | _ => .set f i v

/-- An enable, which takes the rest of its word as it stands after the write. -/
def isEnable (f : Fld) : Bool := [Fld.HBR_GRP_EN, .BQL_P_EN, .BQL_L_EN, .QP_EN, .ARC_EN].contains f

/-- The field acts when written 1. -/
def actsOnOne (f : Fld) : Bool := f.spec.acc == .w1s || f.spec.acc == .w1c

/-- An applied word: its fields, then its enables, then what its 1 bits start, each in the order of the register table. -/
def wordApply (b : Blk) (bytes : Nat) (l : List Put) : Act :=
  let i := ((l.head?).map (·.2.1)).getD 0
  match b with
  | .atl => if isSlot l then slotWrite i (entryPuts l) else entryWrite i (entryPuts l)
  | .reef => if valueIn l .REEF_GO = 1 then reefGoTo (valueIn l .REEF_TARGET)
      else .each (l.filter fun x => !actsOnOne x.1) fun x => .set x.1 x.2.1 x.2.2
  | _ => .seq (.each [false, true] fun en => .each (l.filter fun x => !actsOnOne x.1 && isEnable x.1 == en) fun x =>
        putAct bytes x.1 x.2.1 x.2.2)
      (.each (l.filter fun x => actsOnOne x.1 && x.2.2 != 0) fun x => startsAct l x.1 x.2.1 x.2.2)

/-- What a refused word still does: an entry or slot shows its code, a request for Ebb or an evacuation its reason (R42, R44, R300,
R422). -/
def wordRefusal (b : Blk) (l : List Put) : Act :=
  let i := ((l.head?).map (·.2.1)).getD 0
  match b with
  | .atl => if isSlot l then slotWrite i (entryPuts l) else entryWrite i (entryPuts l)
  | .reef => .when (valueIn l .REEF_GO == 1) (reefGoTo (valueIn l .REEF_TARGET))
  | .arc | .drm => .read fun m => .when (l.any fun x => (x.1 == .ARC_EVAC_START || x.1 == .DRM_D_RETIRE) && m.fieldBad (m.after l) x)
      (.set .ARC_EVAC_STATE 0 3)
  | _ => .skip

/-- The word that a write reaches in a block, checked whole, then applied or refused (R469, R471). -/
def blockWrite (b : Blk) (w : WordWrite) : Act := .read fun m =>
  let l := m.puts w
  let q := (w.addr - b.base) / 0x80
  if m.wordRefused b l then .seq (wordRefusal b l) (markWrite b q 1)
  else .seq (markWrite b q 0) (wordApply b w.bytes l)

/-! ### Accesses (R465 to R469, R474) -/

/-- An address of the key material span, written without effect but a count (R144, R466). -/
def keySpan (a : Nat) : Bool := decide (0x310000 ≤ a ∧ a ≤ 0x3FFFFF)

/-- An address of the MCTP data aperture (R247). -/
def ferryAperture (a : Nat) : Bool := decide (0x470000 ≤ a ∧ a ≤ 0x47FFFF)

/-- Over MCTP an address is mapped; the PILOT span is not reached (R465, R467). -/
def mctpMapped (a : Nat) : Bool :=
  match blockAt a with
  | none => false
  | some b => b != .pilot

/-- A write of one word on a path. -/
def wordWrite (p : Path) (w : WordWrite) : Act :=
  if keySpan w.addr then keyMaterialWrite w.addr (if w.half.isSome then 4 else 8)
  else if ferryAperture w.addr then (match p with | .mf => ferryMgmtAccess true | .mctp _ => .skip)
  else match blockAt w.addr with
    | none => .skip
    | some .pilot => .skip
    | some b => blockWrite b w

/-- An access of 4 or 8 bytes, naturally aligned, as a word write (R469). -/
def wordOf (addr size value : Nat) : Option WordWrite :=
  if size = 8 ∧ addr % 8 = 0 then some ⟨addr, none, value % 2 ^ 64⟩
  else if size = 4 ∧ addr % 4 = 0 then some ⟨addr / 8 * 8, some (addr / 4 % 2), value % 2 ^ 32⟩
  else none

/-- The blocks that the Reef serves itself, and whether the sled answers at all: with the FET off the standby endpoint, in Ebb and on the
way the Reef, and otherwise firmware, which does not answer before it runs (R412, R426, Table 22.1 step 3). -/
def Mach.served (m : Mach) : Option (List Blk) :=
  if !m.csw.fet then some [.csw]
  else if m.ebbing then some [.reef, .csw, .lhl]
  else if m.fw.active = 0 then some []
  else none

/-- The endpoint that answers serves an address. -/
def Mach.serves (m : Mach) (a : Nat) : Bool :=
  match m.served with
  | none => true
  | some bs => (blockAt a).any bs.contains

/-- A path reaches setup space: over MCTP always, and through the management function while its head's link is up (R474). -/
def Mach.reaches (m : Mach) (p : Path) : Bool :=
  match p with
  | .mctp _ => true
  | .mf => m.served.isNone && m.get .HBR_HEAD_WIDTH m.host.mgmtHeadNow != 0

/-- REGISTER_WRITE: an access that is not naturally aligned, or not of 4 or 8 bytes, has no effect (R469). -/
def registerWrite (p : Path) (addr size value : Nat) : Act := .read fun m =>
  .some? (wordOf addr size value) fun w => .when (m.reaches p && m.serves w.addr) (wordWrite p w)

/-! ### Accesses over MCTP (R448, R469, Table 22.5) -/

/-- The code of one word of a read. -/
def Mach.readCode (m : Mach) (a : Nat) : Nat := if !m.serves a then 0x81 else if mctpMapped a then 0 else 0x80

/-- The code of one word of a write. -/
def Mach.writeCode (m : Mach) (w : WordWrite) : Nat :=
  if !m.serves w.addr then 0x81
  else match blockAt w.addr with
    | none => 0x80
    | some .pilot => 0x80
    | some b => if !keySpan w.addr && m.wordRefused b (m.puts w) then 0x80 else 0

/-- The first code that is not success. -/
def firstCode (c d : Nat) : Nat := if c = 0 then d else c

/-- The words of a read, in increasing address, then its response. -/
def mctpRead (e : Nat) : List (Nat × Nat) → Nat → List Byte → Act
  | [], c, bs => .emit (.mctp e c bs)
  | (a, n) :: l, c, bs => .read fun m =>
    let code := m.readCode a
    .seq (.when (code == 0) (wordReadEffect (.mctp e) a))
      (mctpRead e l (firstCode c code) (bs ++ Bits.leBytes n (if code = 0 then m.wordRead (.mctp e) a else 0)))

/-- The words of a write, in increasing address, then its response. -/
def mctpWrite (e : Nat) : List WordWrite → Nat → Act
  | [], c => .emit (.mctp e c [])
  | w :: l, c => .read fun m =>
    let code := m.writeCode w
    .seq (.when (code != 0x81) (wordWrite (.mctp e) w)) (mctpWrite e l (firstCode c code))

/-- The accesses that a request is applied as: a word for each 8 bytes, and the low half of the last for 4 bytes left over. -/
def mctpWords (off len : Nat) : List (Nat × Nat) :=
  (List.range (Bits.ceilDiv len 8)).map fun j => (off + 8 * j, min 8 (len - 8 * j))

/-- The word writes of a request. -/
def mctpWrites (off len : Nat) (data : List Byte) : List WordWrite :=
  (mctpWords off len).map fun x =>
    ⟨x.1, if x.2 = 8 then none else some 0, Bits.leNat ((data.drop (x.1 - off)).take x.2)⟩

/-- MCTP_SETUP_ACCESS from an endpoint: one burst of the data aperture, or a series of word accesses (R247, R448, R469). -/
def mctpSetupAccess (e : Nat) (write : Bool) (off len : Nat) (data : List Byte) : Act := .read fun m =>
  .when (m.served != some [])
    (if !mctpLenOk len || off % 8 != 0 then .seq (event .pilot 0xA1 0 1) (.emit (.mctp e 0x83 []))
     else if ferryAperture off && m.served.isNone then
       ferryBurst (.mctp e) (if write then some ((data.take len).map fun b => (b, true)) else none) len
     else .seq (event .pilot 0xA1 0 1)
       (if write then mctpWrite e (mctpWrites off len data) 0 else mctpRead e (mctpWords off len) 0 []))

/-- SETUP_LOCK (R472). -/
def setupLock : Act := .seq (.set .ID_WR_REFUSED 0 0) (.set .SETUP_LOCK 0 1)

/-! ### Meanings -/

/-- REGISTER_WRITE (R471). -/
def execRegisterWrite (p : Path) (addr size value : Nat) (s : State) : Host.Outcome State Fault Refusal :=
  s.act (registerWrite p addr size value)

/-- MCTP_SETUP_ACCESS (R448). -/
def execMctpSetupAccess (eid : Nat) (write : Bool) (off len : Nat) (data : List Byte) (s : State) : Host.Outcome State Fault Refusal :=
  s.act (mctpSetupAccess eid write off len data)

/-- SETUP_LOCK (R472). -/
def execSetupLock (s : State) : Host.Outcome State Fault Refusal := s.act setupLock

end Sys2Proof.Machine
end

