-- ==== Sys2Proof/Machine/Dispatch.lean ====
section
/-!
DEFINITION. The commands' meanings, one arm per constructor.
-/

namespace Sys2Proof.Machine

/-- The command's effect on everything but the queue. -/
def exec (i : Instr) (s : State) : Host.Outcome State Fault Refusal :=
  match i with
  | .registerWrite p addr size value => Sys2Proof.Machine.execRegisterWrite p addr size value s
  | .mctpSetupAccess eid write off len data => Sys2Proof.Machine.execMctpSetupAccess eid write off len data s
  | .setupLock => Sys2Proof.Machine.execSetupLock s
  | .viewOpen v ld atoll ldbase => Sys2Proof.Machine.execViewOpen v ld atoll ldbase s
  | .viewClose v => Sys2Proof.Machine.execViewClose v s
  | .viewCloseComplete v => Sys2Proof.Machine.execViewCloseComplete v s
  | .atollEntryWrite n off value => Sys2Proof.Machine.execAtollEntryWrite n off value s
  | .atollBuild n => Sys2Proof.Machine.execAtollBuild n s
  | .atollUnbuild n => Sys2Proof.Machine.execAtollUnbuild n s
  | .atollAdmit n => Sys2Proof.Machine.execAtollAdmit n s
  | .atollLiveChange n f value => Sys2Proof.Machine.execAtollLiveChange n f value s
  | .atollRetire n => Sys2Proof.Machine.execAtollRetire n s
  | .atollRetireComplete n => Sys2Proof.Machine.execAtollRetireComplete n s
  | .addCapacityOffer => Sys2Proof.Machine.execAddCapacityOffer s
  | .flitSlot h units reqs replay mapped => Sys2Proof.Machine.execFlitSlot h units reqs replay mapped s
  | .memrd ld dpa tag ms => Sys2Proof.Machine.execMemrd ld dpa tag ms s
  | .memrddata ld dpa tag ms => Sys2Proof.Machine.execMemrddata ld dpa tag ms s
  | .dramDataReturn acc ecc => Sys2Proof.Machine.execDramDataReturn acc ecc s
  | .lockedRequestResume pn => Sys2Proof.Machine.execLockedRequestResume pn s
  | .memwr ld dpa tag ms data => Sys2Proof.Machine.execMemwr ld dpa tag ms data s
  | .memwrptl ld dpa tag ms data mask => Sys2Proof.Machine.execMemwrptl ld dpa tag ms data mask s
  | .partialMerge acc ecc => Sys2Proof.Machine.execPartialMerge acc ecc s
  | .writeBack line => Sys2Proof.Machine.execWriteBack line s
  | .patienceExpire id => Sys2Proof.Machine.execPatienceExpire id s
  | .stripeTransfer => Sys2Proof.Machine.execStripeTransfer s
  | .trim pn => Sys2Proof.Machine.execTrim pn s
  | .sink pn => Sys2Proof.Machine.execSink pn s
  | .lift pn cause => Sys2Proof.Machine.execLift pn cause s
  | .liftBlockFound pn => Sys2Proof.Machine.execLiftBlockFound pn s
  | .relocation pn ch => Sys2Proof.Machine.execRelocation pn ch s
  | .oldPlotsFree => Sys2Proof.Machine.execOldPlotsFree s
  | .compaction h => Sys2Proof.Machine.execCompaction h s
  | .sweepVisit h => Sys2Proof.Machine.execSweepVisit h s
  | .levelLeave h => Sys2Proof.Machine.execLevelLeave h s
  | .releaseRequestEval => Sys2Proof.Machine.execReleaseRequestEval s
  | .revocation ld start => Sys2Proof.Machine.execRevocation ld start s
  | .exhaustionRecord => Sys2Proof.Machine.execExhaustionRecord s
  | .grnElasticEnWrite v => Sys2Proof.Machine.execGrnElasticEnWrite v s
  | .grnFreeRead p h => Sys2Proof.Machine.execGrnFreeRead p h s
  | .heatPeriodAdvance => Sys2Proof.Machine.execHeatPeriodAdvance s
  | .coldScanVisit pn => Sys2Proof.Machine.execColdScanVisit pn s
  | .heatLift pn => Sys2Proof.Machine.execHeatLift pn s
  | .pageRecall pn => Sys2Proof.Machine.execPageRecall pn s
  | .keySet a_s kind index material => Sys2Proof.Machine.execKeySet a_s kind index material s
  | .keyZero a_s kind index => Sys2Proof.Machine.execKeyZero a_s kind index s
  | .keyStatus a_s kind index => Sys2Proof.Machine.execKeyStatus a_s kind index s
  | .keyMaterialWrite off size => Sys2Proof.Machine.execKeyMaterialWrite off size s
  | .reseal line => Sys2Proof.Machine.execReseal line s
  | .rotationAutoStart atoll => Sys2Proof.Machine.execRotationAutoStart atoll s
  | .nextKeyReminder atoll => Sys2Proof.Machine.execNextKeyReminder atoll s
  | .tdlSlotStart slot atoll => Sys2Proof.Machine.execTdlSlotStart slot atoll s
  | .tdlSlotPause which v => Sys2Proof.Machine.execTdlSlotPause which v s
  | .tidelinePageRotate slot => Sys2Proof.Machine.execTidelinePageRotate slot s
  | .imageRewrite slot => Sys2Proof.Machine.execImageRewrite slot s
  | .rotationFinish slot => Sys2Proof.Machine.execRotationFinish slot s
  | .rdCur m => Sys2Proof.Machine.execRdCur m s
  | .rdShd m => Sys2Proof.Machine.execRdShd m s
  | .rdOwn m => Sys2Proof.Machine.execRdOwn m s
  | .wrLine m => Sys2Proof.Machine.execWrLine m s
  | .wrPtl m => Sys2Proof.Machine.execWrPtl m s
  | .atom m => Sys2Proof.Machine.execAtom m s
  | .snpInv m => Sys2Proof.Machine.execSnpInv m s
  | .snpShd m => Sys2Proof.Machine.execSnpShd m s
  | .fwdShd m => Sys2Proof.Machine.execFwdShd m s
  | .fwdOwn m => Sys2Proof.Machine.execFwdOwn m s
  | .snpResolve m => Sys2Proof.Machine.execSnpResolve m s
  | .ackI m => Sys2Proof.Machine.execAckI m s
  | .ackS m => Sys2Proof.Machine.execAckS m s
  | .ackWb m => Sys2Proof.Machine.execAckWb m s
  | .cmp m => Sys2Proof.Machine.execCmp m s
  | .cmpErr m => Sys2Proof.Machine.execCmpErr m s
  | .gntAck m => Sys2Proof.Machine.execGntAck m s
  | .clnEvict m => Sys2Proof.Machine.execClnEvict m s
  | .wbAck m => Sys2Proof.Machine.execWbAck m s
  | .fwdFail m => Sys2Proof.Machine.execFwdFail m s
  | .data m => Sys2Proof.Machine.execData m s
  | .wb m => Sys2Proof.Machine.execWb m s
  | .wbKeep m => Sys2Proof.Machine.execWbKeep m s
  | .snpData m => Sys2Proof.Machine.execSnpData m s
  | .fwdData m => Sys2Proof.Machine.execFwdData m s
  | .visitorEviction home line => Sys2Proof.Machine.execVisitorEviction home line s
  | .memclnevct ld dpa tag => Sys2Proof.Machine.execMemclnevct ld dpa tag s
  | .headWriteBack ld dpa tag ms data mask => Sys2Proof.Machine.execHeadWriteBack ld dpa tag ms data mask s
  | .birspi h line => Sys2Proof.Machine.execBirspi h line s
  | .birsps h line => Sys2Proof.Machine.execBirsps h line s
  | .birspe h line => Sys2Proof.Machine.execBirspe h line s
  | .biconflict h line => Sys2Proof.Machine.execBiconflict h line s
  | .bisnpTimeout h => Sys2Proof.Machine.execBisnpTimeout h s
  | .pcieAtomicop ld off tag op a b => Sys2Proof.Machine.execPcieAtomicop ld off tag op a b s
  | .hbrGrpBifurWrite g v => Sys2Proof.Machine.execHbrGrpBifurWrite g v s
  | .hbrGrpEnWrite g v => Sys2Proof.Machine.execHbrGrpEnWrite g v s
  | .hbrLdWrite n valid head ldid => Sys2Proof.Machine.execHbrLdWrite n valid head ldid s
  | .hbrMgmtHeadWrite h => Sys2Proof.Machine.execHbrMgmtHeadWrite h s
  | .hbrHeadResvWrite h v => Sys2Proof.Machine.execHbrHeadResvWrite h v s
  | .headEnterL0 h width rate flit => Sys2Proof.Machine.execHeadEnterL0 h width rate flit s
  | .headRetrain h cause => Sys2Proof.Machine.execHeadRetrain h cause s
  | .linkDown h => Sys2Proof.Machine.execLinkDown h s
  | .flr ld => Sys2Proof.Machine.execFlr ld s
  | .cxlReset ld => Sys2Proof.Machine.execCxlReset ld s
  | .mgmtLinkDown => Sys2Proof.Machine.execMgmtLinkDown s
  | .identify mb => Sys2Proof.Machine.execIdentify mb s
  | .backgroundOperationStatus mb => Sys2Proof.Machine.execBackgroundOperationStatus mb s
  | .getResponseMessageLimit mb => Sys2Proof.Machine.execGetResponseMessageLimit mb s
  | .getEventRecords mb log => Sys2Proof.Machine.execGetEventRecords mb log s
  | .clearEventRecords mb log all handles => Sys2Proof.Machine.execClearEventRecords mb log all handles s
  | .getEventInterruptPolicy mb => Sys2Proof.Machine.execGetEventInterruptPolicy mb s
  | .setEventInterruptPolicy mb policy => Sys2Proof.Machine.execSetEventInterruptPolicy mb policy s
  | .getFwInfo mb => Sys2Proof.Machine.execGetFwInfo mb s
  | .transferFw mb slot image => Sys2Proof.Machine.execTransferFw mb slot image s
  | .activateFw mb slot online selfCheckOk => Sys2Proof.Machine.execActivateFw mb slot online selfCheckOk s
  | .getTimestamp mb => Sys2Proof.Machine.execGetTimestamp mb s
  | .setTimestamp mb t => Sys2Proof.Machine.execSetTimestamp mb t s
  | .getSupportedLogs mb => Sys2Proof.Machine.execGetSupportedLogs mb s
  | .getLog mb log off len => Sys2Proof.Machine.execGetLog mb log off len s
  | .getSupportedFeatures mb => Sys2Proof.Machine.execGetSupportedFeatures mb s
  | .getFeature mb feature => Sys2Proof.Machine.execGetFeature mb feature s
  | .setFeature mb feature value => Sys2Proof.Machine.execSetFeature mb feature value s
  | .identifyMemoryDevice mb => Sys2Proof.Machine.execIdentifyMemoryDevice mb s
  | .getPartitionInfo mb => Sys2Proof.Machine.execGetPartitionInfo mb s
  | .getPoisonList mb dpa len => Sys2Proof.Machine.execGetPoisonList mb dpa len s
  | .injectPoison mb dpa => Sys2Proof.Machine.execInjectPoison mb dpa s
  | .clearPoison mb dpa data => Sys2Proof.Machine.execClearPoison mb dpa data s
  | .getScanMediaCapabilities mb dpa len => Sys2Proof.Machine.execGetScanMediaCapabilities mb dpa len s
  | .scanMedia mb dpa len => Sys2Proof.Machine.execScanMedia mb dpa len s
  | .getScanMediaResults mb => Sys2Proof.Machine.execGetScanMediaResults mb s
  | .getDynamicCapacityConfiguration mb => Sys2Proof.Machine.execGetDynamicCapacityConfiguration mb s
  | .getDynamicCapacityExtentList mb => Sys2Proof.Machine.execGetDynamicCapacityExtentList mb s
  | .addDynamicCapacityResponse mb exts => Sys2Proof.Machine.execAddDynamicCapacityResponse mb exts s
  | .releaseDynamicCapacity mb exts => Sys2Proof.Machine.execReleaseDynamicCapacity mb exts s
  | .getLdInfo h => Sys2Proof.Machine.execGetLdInfo h s
  | .getLdAllocations first count => Sys2Proof.Machine.execGetLdAllocations first count s
  | .setLdAllocations first caps => Sys2Proof.Machine.execSetLdAllocations first caps s
  | .getQosControl => Sys2Proof.Machine.execGetQosControl s
  | .getQosStatus => Sys2Proof.Machine.execGetQosStatus s
  | .getMultiHeadedInfo => Sys2Proof.Machine.execGetMultiHeadedInfo s
  | .getHeadInfo h => Sys2Proof.Machine.execGetHeadInfo h s
  | .getDcdInfo => Sys2Proof.Machine.execGetDcdInfo s
  | .getHostDcRegionConfiguration ld => Sys2Proof.Machine.execGetHostDcRegionConfiguration ld s
  | .getDcRegionExtentLists ld => Sys2Proof.Machine.execGetDcRegionExtentLists ld s
  | .initiateDynamicCapacityRelease ld ext => Sys2Proof.Machine.execInitiateDynamicCapacityRelease ld ext s
  | .mailboxUnsupported mb opcode => Sys2Proof.Machine.execMailboxUnsupported mb opcode s
  | .qpEnable q => Sys2Proof.Machine.execQpEnable q s
  | .qpDisable q => Sys2Proof.Machine.execQpDisable q s
  | .qpDrained q => Sys2Proof.Machine.execQpDrained q s
  | .qpControlPageWrite ld q value => Sys2Proof.Machine.execQpControlPageWrite ld q value s
  | .bellWrite ld dpa data mask => Sys2Proof.Machine.execBellWrite ld dpa data mask s
  | .bellRead ld dpa tag => Sys2Proof.Machine.execBellRead ld dpa tag s
  | .qpMgmtBell q write => Sys2Proof.Machine.execQpMgmtBell q write s
  | .descriptorFetch q host => Sys2Proof.Machine.execDescriptorFetch q host s
  | .descriptorTurn islet host => Sys2Proof.Machine.execDescriptorTurn islet host s
  | .descriptorComplete q idx hostOk => Sys2Proof.Machine.execDescriptorComplete q idx hostOk s
  | .nop q idx => Sys2Proof.Machine.execNop q idx s
  | .fence q idx => Sys2Proof.Machine.execFence q idx s
  | .copy q idx host => Sys2Proof.Machine.execCopy q idx host s
  | .fill q idx => Sys2Proof.Machine.execFill q idx s
  | .zero q idx => Sys2Proof.Machine.execZero q idx s
  | .compare q idx host => Sys2Proof.Machine.execCompare q idx host s
  | .moveTier q idx => Sys2Proof.Machine.execMoveTier q idx s
  | .pin q idx => Sys2Proof.Machine.execPin q idx s
  | .unpin q idx => Sys2Proof.Machine.execUnpin q idx s
  | .hintHeat q idx => Sys2Proof.Machine.execHintHeat q idx s
  | .offshorePush q idx => Sys2Proof.Machine.execOffshorePush q idx s
  | .recall q idx => Sys2Proof.Machine.execRecall q idx s
  | .atomic q idx host => Sys2Proof.Machine.execAtomic q idx host s
  | .sealRotate q idx => Sys2Proof.Machine.execSealRotate q idx s
  | .mirrorSync q idx => Sys2Proof.Machine.execMirrorSync q idx s
  | .sampleDrain q idx => Sys2Proof.Machine.execSampleDrain q idx s
  | .statsSummary q idx => Sys2Proof.Machine.execStatsSummary q idx s
  | .statsRecords q idx => Sys2Proof.Machine.execStatsRecords q idx s
  | .invalidOpcode q idx => Sys2Proof.Machine.execInvalidOpcode q idx s
  | .irqCoalesceTimeout q => Sys2Proof.Machine.execIrqCoalesceTimeout q s
  | .ferryWriteBurst w data enables => Sys2Proof.Machine.execFerryWriteBurst w data enables s
  | .ferryReadBurst w len => Sys2Proof.Machine.execFerryReadBurst w len s
  | .ferryCursorWrite w value size => Sys2Proof.Machine.execFerryCursorWrite w value size s
  | .ferryMgmtAccess write => Sys2Proof.Machine.execFerryMgmtAccess write s
  | .ferryAtomicop ld tag => Sys2Proof.Machine.execFerryAtomicop ld tag s
  | .portEnable p v => Sys2Proof.Machine.execPortEnable p v s
  | .linkEnable l v => Sys2Proof.Machine.execLinkEnable l v s
  | .anTxWrite l v => Sys2Proof.Machine.execAnTxWrite l v s
  | .frameReceive p f => Sys2Proof.Machine.execFrameReceive p f s
  | .packetSend l cls prio n => Sys2Proof.Machine.execPacketSend l cls prio n s
  | .hello l h => Sys2Proof.Machine.execHello l h s
  | .ack l n => Sys2Proof.Machine.execAck l n s
  | .nak l n reason => Sys2Proof.Machine.execNak l n reason s
  | .keepalive l n => Sys2Proof.Machine.execKeepalive l n s
  | .reneg l id rate phy ident => Sys2Proof.Machine.execReneg l id rate phy ident s
  | .renegAns l id result => Sys2Proof.Machine.execRenegAns l id result s
  | .helloTimer l => Sys2Proof.Machine.execHelloTimer l s
  | .keepaliveTimer l => Sys2Proof.Machine.execKeepaliveTimer l s
  | .ackTimer l => Sys2Proof.Machine.execAckTimer l s
  | .nakRepeat l => Sys2Proof.Machine.execNakRepeat l s
  | .replayTimeout l => Sys2Proof.Machine.execReplayTimeout l s
  | .landingStallTimeout l => Sys2Proof.Machine.execLandingStallTimeout l s
  | .renegRetry l => Sys2Proof.Machine.execRenegRetry l s
  | .portLaneChange p lanes => Sys2Proof.Machine.execPortLaneChange p lanes s
  | .linkLoss l => Sys2Proof.Machine.execLinkLoss l s
  | .graceExpiry l => Sys2Proof.Machine.execGraceExpiry l s
  | .flushComplete l => Sys2Proof.Machine.execFlushComplete l s
  | .join m => Sys2Proof.Machine.execJoin m s
  | .leave m => Sys2Proof.Machine.execLeave m s
  | .imgPut m => Sys2Proof.Machine.execImgPut m s
  | .imgGet m => Sys2Proof.Machine.execImgGet m s
  | .imgRelease m => Sys2Proof.Machine.execImgRelease m s
  | .imgEvict m => Sys2Proof.Machine.execImgEvict m s
  | .imgData m => Sys2Proof.Machine.execImgData m s
  | .mirWr m => Sys2Proof.Machine.execMirWr m s
  | .mirOwn m => Sys2Proof.Machine.execMirOwn m s
  | .mirPage m => Sys2Proof.Machine.execMirPage m s
  | .mirFetch m => Sys2Proof.Machine.execMirFetch m s
  | .pair m => Sys2Proof.Machine.execPair m s
  | .claim m => Sys2Proof.Machine.execClaim m s
  | .heal m => Sys2Proof.Machine.execHeal m s
  | .handover m => Sys2Proof.Machine.execHandover m s
  | .rmtBind m => Sys2Proof.Machine.execRmtBind m s
  | .svcAck m => Sys2Proof.Machine.execSvcAck m s
  | .arcEnWrite v => Sys2Proof.Machine.execArcEnWrite v s
  | .arcHoldGroupsWrite v => Sys2Proof.Machine.execArcHoldGroupsWrite v s
  | .pairUnpair atoll peer role => Sys2Proof.Machine.execPairUnpair atoll peer role s
  | .pairMirror atoll peer role => Sys2Proof.Machine.execPairMirror atoll peer role s
  | .pairDualHome atoll peer role => Sys2Proof.Machine.execPairDualHome atoll peer role s
  | .pairPromote atoll peer role => Sys2Proof.Machine.execPairPromote atoll peer role s
  | .pairHandover atoll peer role => Sys2Proof.Machine.execPairHandover atoll peer role s
  | .arcLeave => Sys2Proof.Machine.execArcLeave s
  | .arcForget mask => Sys2Proof.Machine.execArcForget mask s
  | .claimWaitExpiry a b => Sys2Proof.Machine.execClaimWaitExpiry a b s
  | .claimTimeout atoll => Sys2Proof.Machine.execClaimTimeout atoll s
  | .dimmRetire d => Sys2Proof.Machine.execDimmRetire d s
  | .evacuationComplete d => Sys2Proof.Machine.execEvacuationComplete d s
  | .windowIssue c w => Sys2Proof.Machine.execWindowIssue c w s
  | .frameBoundary c => Sys2Proof.Machine.execFrameBoundary c s
  | .rglCommit => Sys2Proof.Machine.execRglCommit s
  | .rglEnWrite v => Sys2Proof.Machine.execRglEnWrite v s
  | .channelLeaveService c => Sys2Proof.Machine.execChannelLeaveService c s
  | .dimmTempPoll d t coolFor1s => Sys2Proof.Machine.execDimmTempPoll d t coolFor1s s
  | .refresh c rank => Sys2Proof.Machine.execRefresh c rank s
  | .mpCommand c cmd byPilot => Sys2Proof.Machine.execMpCommand c cmd byPilot s
  | .driftUpdate c k wr => Sys2Proof.Machine.execDriftUpdate c k wr s
  | .shadowGo c => Sys2Proof.Machine.execShadowGo c s
  | .scrubRead c ga ecc => Sys2Proof.Machine.execScrubRead c ga ecc s
  | .rowRepair c ga bistOk => Sys2Proof.Machine.execRowRepair c ga bistOk s
  | .channelPowerDown c => Sys2Proof.Machine.execChannelPowerDown c s
  | .paceMeasure gauges => Sys2Proof.Machine.execPaceMeasure gauges s
  | .paceLoop avsAck => Sys2Proof.Machine.execPaceLoop avsAck s
  | .paceTargetChange => Sys2Proof.Machine.execPaceTargetChange s
  | .creditAudit a_s held inFlight occupied returning => Sys2Proof.Machine.execCreditAudit a_s held inFlight occupied returning s
  | .routerReconfigure r => Sys2Proof.Machine.execRouterReconfigure r s
  | .altRouteTimeout src dst cls => Sys2Proof.Machine.execAltRouteTimeout src dst cls s
  | .routeMarkerEcho src dst cls => Sys2Proof.Machine.execRouteMarkerEcho src dst cls s
  | .routeMarkerTimeout src dst cls => Sys2Proof.Machine.execRouteMarkerTimeout src dst cls s
  | .packetAbsorb router port cls tag => Sys2Proof.Machine.execPacketAbsorb router port cls tag s
  | .sourceDetect id key data => Sys2Proof.Machine.execSourceDetect id key data s
  | .reactionTimeout k => Sys2Proof.Machine.execReactionTimeout k s
  | .bkwAck id action late => Sys2Proof.Machine.execBkwAck id action late s
  | .spareTakeover inst lost => Sys2Proof.Machine.execSpareTakeover inst lost s
  | .faultPulseEnd => Sys2Proof.Machine.execFaultPulseEnd s
  | .forceSource id => Sys2Proof.Machine.execForceSource id s
  | .logRecord source code key data forced => Sys2Proof.Machine.execLogRecord source code key data forced s
  | .logClear a_s kind index => Sys2Proof.Machine.execLogClear a_s kind index s
  | .logClearComplete => Sys2Proof.Machine.execLogClearComplete s
  | .snapshot => Sys2Proof.Machine.execSnapshot s
  | .counterClear => Sys2Proof.Machine.execCounterClear s
  | .sumAudit => Sys2Proof.Machine.execSumAudit s
  | .counterDamage sum n => Sys2Proof.Machine.execCounterDamage sum n s
  | .presenceDetect => Sys2Proof.Machine.execPresenceDetect s
  | .presenceLoss => Sys2Proof.Machine.execPresenceLoss s
  | .insertionDelayEnd => Sys2Proof.Machine.execInsertionDelayEnd s
  | .softStartDone => Sys2Proof.Machine.execSoftStartDone s
  | .pgOutAssert faultTimer => Sys2Proof.Machine.execPgOutAssert faultTimer s
  | .railPowerGood rail => Sys2Proof.Machine.execRailPowerGood rail s
  | .inputMeasure vinMv iinDa heldFor1s => Sys2Proof.Machine.execInputMeasure vinMv iinDa heldFor1s s
  | .fetModelUpdate direct dissipationMw => Sys2Proof.Machine.execFetModelUpdate direct dissipationMw s
  | .trip kind onMs => Sys2Proof.Machine.execTrip kind onMs s
  | .offTimeEnd => Sys2Proof.Machine.execOffTimeEnd s
  | .healthyMark => Sys2Proof.Machine.execHealthyMark s
  | .cswLedgerClear => Sys2Proof.Machine.execCswLedgerClear s
  | .cswPowerCycle => Sys2Proof.Machine.execCswPowerCycle s
  | .powerCycleRestart => Sys2Proof.Machine.execPowerCycleRestart s
  | .grantWrite w => Sys2Proof.Machine.execGrantWrite w s
  | .brakeAssert => Sys2Proof.Machine.execBrakeAssert s
  | .brakeRelease => Sys2Proof.Machine.execBrakeRelease s
  | .energyCheckpoint controllerMj reefMj => Sys2Proof.Machine.execEnergyCheckpoint controllerMj reefMj s
  | .reefGoActive => Sys2Proof.Machine.execReefGoActive s
  | .reefGoSlack => Sys2Proof.Machine.execReefGoSlack s
  | .reefGoEbb => Sys2Proof.Machine.execReefGoEbb s
  | .ebbEntryComplete us => Sys2Proof.Machine.execEbbEntryComplete us s
  | .hostWake g l1Exit => Sys2Proof.Machine.execHostWake g l1Exit s
  | .ebbExitComplete us => Sys2Proof.Machine.execEbbExitComplete us s
  | .reefBrownOut copyOk recallOk => Sys2Proof.Machine.execReefBrownOut copyOk recallOk s
  | .reefPowerOnReset => Sys2Proof.Machine.execReefPowerOnReset s
  | .firmwareBoot => Sys2Proof.Machine.execFirmwareBoot s
  | .memoryActive dimms spdOk trained recalled bootMs nonce => Sys2Proof.Machine.execMemoryActive dimms spdOk trained recalled bootMs nonce s
  | .serviceNormal => Sys2Proof.Machine.execServiceNormal s
  | .serviceRecovery => Sys2Proof.Machine.execServiceRecovery s
  | .serviceTest => Sys2Proof.Machine.execServiceTest s
  | .pilotWatchdog thirdInHour => Sys2Proof.Machine.execPilotWatchdog thirdInHour s
  | .svnCommit => Sys2Proof.Machine.execSvnCommit s
  | .svnAutoRaise => Sys2Proof.Machine.execSvnAutoRaise s
  | .bistRun failing => Sys2Proof.Machine.execBistRun failing s
  | .testEnSet a_s index => Sys2Proof.Machine.execTestEnSet a_s index s
  | .testEnClear a_s index => Sys2Proof.Machine.execTestEnClear a_s index s
  | .spdmRequest r => Sys2Proof.Machine.execSpdmRequest r s
  | .pldmRequest r => Sys2Proof.Machine.execPldmRequest r s
  | .tapInstruction ir => Sys2Proof.Machine.execTapInstruction ir s
  | .sledIdSample v => Sys2Proof.Machine.execSledIdSample v s
  | .locateChange low => Sys2Proof.Machine.execLocateChange low s
  | .resetSelfTestDone id pass => Sys2Proof.Machine.execResetSelfTestDone id pass s
  | .busMasterEnableClear owner => Sys2Proof.Machine.execBusMasterEnableClear owner s
  | .msixVectorUnmask owner vec => Sys2Proof.Machine.execMsixVectorUnmask owner vec s
  | .ideKm h op => Sys2Proof.Machine.execIdeKm h op s
  | .junctionTempSample t => Sys2Proof.Machine.execJunctionTempSample t s
  | .mctpControl op => Sys2Proof.Machine.execMctpControl op s
  | .entdaa => Sys2Proof.Machine.execEntdaa s

end Sys2Proof.Machine
end

