-- ==== Sys2Proof/Machine/Step.lean ====
section
/-!
DEFINITION. One step of the block: the command at the front of the queue, or, with none waiting, one nanosecond of Reef
time.
-/

namespace Sys2Proof.Machine

/-- The state with the queue given. -/
def State.withPending (s : State) (p : List Instr) : State := { s with pending := p }

/-- One step: the command at the front of the queue runs on the state with the queue's rest. On an empty queue Reef time
advances by 1 ns, and blocks that have become isolated stop (R14, R365; log entry 2). -/
def step (s : State) : Host.Outcome State Fault Refusal :=
  match s.pending with
  | [] => s.act tick
  | c :: rest => exec c (s.withPending rest)

/-- The state with the command that a word spells at the front of its queue; unchanged where the word spells none. -/
def State.withFetchWord (s : State) (nbits w : Nat) : State :=
  match decodeTableWord nbits w with
  | some c => s.withPending (c :: s.pending)
  | none => s

end Sys2Proof.Machine
end

