-- ==== Sys2Proof/Safety.lean ====
section
/-!
DEFINITION. What every state of a run has, in the terms that claims use: the canonical forms of the register file, of DRAM and of
the page records.
-/

namespace Sys2Proof.Machine

/-- Grain space is in its one form: addresses strictly rising, and no byte listed that reads as an unlisted one does. -/
def Dram.wf (d : List Host.Cell) : Bool := SMap.sorted d && d.all fun p => p.2 != 0

/-- The register file is in its one form: entries strictly rising, so that each is listed once. -/
def Mach.regsWf (m : Mach) : Bool := SMap.sorted m.regs

/-- The page records are in their one form: pages strictly rising, and none listed that is as never written. -/
def Mach.pagesWf (m : Mach) : Bool := SMap.sorted m.pages && m.pages.all fun p => p.2 != {}

/-- Every field holds a value that its bits can hold (R470). -/
def Mach.fits (m : Mach) : Prop := ∀ f i, m.get f i < 2 ^ f.spec.width

/-- A register entry that stands in the file differs from its reset value. -/
def Mach.sparse (m : Mach) : Prop := ∀ f i, m.regs.find? (f.key i) ≠ some (Fld.reset m.sled i f)

/-- The form that every step keeps: equal machines are equal data. -/
structure Mach.Canonical (m : Mach) : Prop where
  dram : Dram.wf m.dram = true
  regs : m.regsWf = true
  pages : m.pagesWf = true
  fits : m.fits
  sparse : m.sparse

/-! ### Frames -/

/-- What the sled holds beside its register fields. -/
inductive Part where
  /-- The bytes of grain space. -/
  | dram
  /-- The page records. -/
  | pages
  /-- What has been emitted. -/
  | out
  /-- The count of free values drawn (the model's own). -/
  | freeCtr
  | lines | dir | grain | keys | host | bkw | lhl | arc | bql | snd | que | fry | fw | chan | rgl | noc | csw | pow
  deriving DecidableEq, Repr

/-- A part is in `b` as it was in `a`: of grain space, every byte. -/
def Part.same : Part → Mach → Mach → Prop
  | .dram, a, b => ∀ x, Dram.byte b.dram x = Dram.byte a.dram x
  | .pages, a, b => ∀ pn, b.page pn = a.page pn
  | .out, a, b => b.out = a.out
  | .freeCtr, a, b => b.freeCtr = a.freeCtr
  | .lines, a, b => b.lines = a.lines
  | .dir, a, b => b.dir = a.dir
  | .grain, a, b => b.grain = a.grain
  | .keys, a, b => b.keys = a.keys
  | .host, a, b => b.host = a.host
  | .bkw, a, b => b.bkw = a.bkw
  | .lhl, a, b => b.lhl = a.lhl
  | .arc, a, b => b.arc = a.arc
  | .bql, a, b => b.bql = a.bql
  | .snd, a, b => b.snd = a.snd
  | .que, a, b => b.que = a.que
  | .fry, a, b => b.fry = a.fry
  | .fw, a, b => b.fw = a.fw
  | .chan, a, b => b.chan = a.chan
  | .rgl, a, b => b.rgl = a.rgl
  | .noc, a, b => b.noc = a.noc
  | .csw, a, b => b.csw = a.csw
  | .pow, a, b => b.pow = a.pow

/-- From `a` to `b` nothing changes but fields of `fs` and parts of `ps`: every other field reads as before at every index, every
other part is as it was, and the sled is the same. -/
def Mach.Frame (fs : List Fld) (ps : List Part) (a b : Mach) : Prop :=
  b.sled = a.sled ∧ (∀ f i, f ∉ fs → b.get f i = a.get f i) ∧ ∀ p, p ∉ ps → p.same a b

/-! ### Fields that change together -/

/-- Counting an event. -/
def countFields : List Fld := [.SND_K_VALUE, .SND_SUM]

/-- A Lighthouse record. -/
def recordFields : List Fld := [.LHL_COUNT, .LHL_FULL, .LHL_OVERFLOW]

/-- A home's tally: what it owes, the headroom, the pressure level, with its record and its event records. -/
def tallyFields : List Fld :=
  [.GRN_LEVEL, .GRN_LEVEL_CHANGES, .GRN_HEADROOM, .GRN_RELEASE_OUT, .GRN_OWED, .GRN_HOME_LEVEL, .HBR_LD_EVT_OVERFLOW,
   .LHL_COUNT, .LHL_FULL, .LHL_OVERFLOW]

/-- A detection by Breakwater: status, counts, pending slots, Fatal, its record, its event records, an escalation by its action. -/
def detectFields : List Fld :=
  [.HBR_LD_EVT_OVERFLOW, .NOC_HOME_HOLD, .BKW_FAULT_ARM, .BKW_FAULT_STATE, .BKW_FATAL, .BKW_TAKEOVER_BUSY, .BKW_EVENTS,
   .BKW_P_ID, .BKW_P_VALID, .BKW_P_LEFT, .BKW_C_COUNT, .BKW_STATUS, .BKW_FORCE, .LHL_COUNT, .LHL_FULL, .LHL_OVERFLOW]

/-- Plots that change state, with the tally and the tally-violation source. -/
def plotFields : List Fld :=
  [.GRN_LEVEL, .GRN_LEVEL_CHANGES, .GRN_HEADROOM, .GRN_RELEASE_OUT, .GRN_FREE, .GRN_ALLOCATED, .GRN_META, .GRN_QUAR, .GRN_OWED,
   .GRN_HOME_LEVEL, .HBR_LD_EVT_OVERFLOW, .ARC_EVAC_LEFT, .DRM_D_LEFT, .NOC_HOME_HOLD, .BKW_FAULT_ARM, .BKW_FAULT_STATE,
   .BKW_FATAL, .BKW_TAKEOVER_BUSY, .BKW_EVENTS, .BKW_P_ID, .BKW_P_VALID, .BKW_P_LEFT, .BKW_C_COUNT, .BKW_STATUS, .BKW_FORCE,
   .LHL_COUNT, .LHL_FULL, .LHL_OVERFLOW]

/-- A line request that advances: directory, poison, records, counts, samples and detections. -/
def lineFields : List Fld :=
  [.ATL_QUOTA_OVER, .GRN_DROPPED, .TIER_REMOTE_READS, .TDL_EPOCH_STOPS, .DIR_EVICTIONS, .DIR_SETFULL_WAITS, .DIR_FWD3,
   .DIR_ATOMICS, .DIR_VALID, .DIR_COARSE, .DIR_OPEN, .DIR_SETQ, .DIR_LINEQ, .HBR_HEAD_DISCARDS, .HBR_LD_EVT_OVERFLOW, .FRY_ERR,
   .FRY_M_ERR, .ARC_ATL_DIRTY, .NOC_HOME_HOLD, .BKW_FAULT_ARM, .BKW_FAULT_STATE, .BKW_FATAL, .BKW_TAKEOVER_BUSY, .BKW_EVENTS,
   .BKW_P_ID, .BKW_P_VALID, .BKW_P_LEFT, .BKW_C_COUNT, .BKW_STATUS, .BKW_FORCE, .LHL_COUNT, .LHL_FULL, .LHL_OVERFLOW,
   .SND_K_VALUE, .SND_SUM, .SND_S_HELD, .SND_S_LOST]

/-- A page given up. -/
def forgetFields : List Fld :=
  [.GRN_LEVEL, .GRN_LEVEL_CHANGES, .GRN_HEADROOM, .GRN_RELEASE_OUT, .GRN_FREE, .GRN_ALLOCATED, .GRN_META, .GRN_QUAR, .GRN_OWED,
   .GRN_HOME_LEVEL, .HBR_LD_EVT_OVERFLOW, .ARC_REL_PENDING, .ARC_EVAC_LEFT, .DRM_D_LEFT, .NOC_HOME_HOLD, .BKW_FAULT_ARM,
   .BKW_FAULT_STATE, .BKW_FATAL, .BKW_TAKEOVER_BUSY, .BKW_EVENTS, .BKW_P_ID, .BKW_P_VALID, .BKW_P_LEFT, .BKW_C_COUNT,
   .BKW_STATUS, .BKW_FORCE, .LHL_COUNT, .LHL_FULL, .LHL_OVERFLOW]

/-- A head that leaves: its link status, its requests, its holders and what hangs on its LDs. -/
def headGoneFields : List Fld :=
  [.ATL_QUOTA_OVER, .GRN_DROPPED, .TIER_REMOTE_READS, .TDL_EPOCH_STOPS, .DIR_EVICTIONS, .DIR_SETFULL_WAITS, .DIR_FWD3,
   .DIR_ATOMICS, .DIR_PROTO_ERR, .DIR_LOST_POISONED, .DIR_VALID, .DIR_COARSE, .DIR_OPEN, .DIR_SETQ, .DIR_LINEQ, .HBR_HEAD_WIDTH,
   .HBR_HEAD_RATE, .HBR_HEAD_FLIT, .HBR_HEAD_IDE, .HBR_HEAD_L0P, .HBR_HEAD_LTSSM, .HBR_HEAD_LDS, .HBR_HEAD_DISCARDS,
   .HBR_HEAD_OCCUPANCY, .HBR_LD_EVT_OVERFLOW, .QP_EN, .QP_STATE, .FRY_CURSOR, .FRY_PLACE, .FRY_PEER, .FRY_ERR, .FRY_WR_BYTES,
   .FRY_RD_BYTES, .FRY_REJECTS, .FRY_M_ERR, .ARC_ATL_DIRTY, .NOC_HOME_HOLD, .BKW_FAULT_ARM, .BKW_FAULT_STATE, .BKW_FATAL,
   .BKW_TAKEOVER_BUSY, .BKW_EVENTS, .BKW_P_ID, .BKW_P_VALID, .BKW_P_LEFT, .BKW_C_COUNT, .BKW_STATUS, .BKW_FORCE, .LHL_COUNT,
   .LHL_FULL, .LHL_OVERFLOW, .SND_K_VALUE, .SND_SUM, .SND_S_HELD, .SND_S_LOST]

/-- Blocks that stop when they are isolated. -/
def stopFields : List Fld :=
  [.ATL_PARTNER_UP, .ATL_QUOTA_OVER, .GRN_DROPPED, .TIER_REMOTE_READS, .KEY_ENTROPY_OK, .TDL_EPOCH_STOPS, .DIR_EVICTIONS,
   .DIR_SETFULL_WAITS, .DIR_FWD3, .DIR_ATOMICS, .DIR_PROTO_ERR, .DIR_LOST_POISONED, .DIR_VALID, .DIR_COARSE, .DIR_OPEN,
   .DIR_SETQ, .DIR_LINEQ, .HBR_HEAD_WIDTH, .HBR_HEAD_RATE, .HBR_HEAD_FLIT, .HBR_HEAD_IDE, .HBR_HEAD_L0P, .HBR_HEAD_LTSSM,
   .HBR_HEAD_LDS, .HBR_HEAD_DISCARDS, .HBR_HEAD_OCCUPANCY, .HBR_LD_EVT_OVERFLOW, .QP_EN, .QP_STATE, .FRY_CURSOR, .FRY_PLACE,
   .FRY_PEER, .FRY_ERR, .FRY_WR_BYTES, .FRY_RD_BYTES, .FRY_REJECTS, .FRY_M_ERR, .BQL_P_REPLAY_USED, .BQL_L_STATE,
   .BQL_L_LOSSES, .BQL_L_FLUSHES, .BQL_L_LOST_FIRST, .BQL_L_LOST_END, .BQL_L_PEER_DLV_VALID, .ARC_MEMBERS,
   .ARC_REL_PENDING, .ARC_WIT_HOLDER, .ARC_WIT_VALID, .ARC_ATL_FENCED, .ARC_ATL_DIRTY, .RGL_M_DRAM, .RGL_M_WINDOWS,
   .RGL_C_GC_LIVE, .RGL_C_SCALE, .RGL_C_SHRUNK, .RGL_C_CAUSE, .RGL_C_TABLE, .RGL_MC_ENT, .DRM_C_INSERVICE, .NOC_HOME_HOLD,
   .NOC_R_STATE, .NOC_R_STRAIT_DOWN, .BKW_FAULT_ARM, .BKW_FAULT_STATE, .BKW_FATAL, .BKW_TAKEOVER_BUSY, .BKW_EVENTS, .BKW_P_ID,
   .BKW_P_VALID, .BKW_P_LEFT, .BKW_C_COUNT, .BKW_STATUS, .BKW_FORCE, .LHL_COUNT, .LHL_FULL, .LHL_OVERFLOW, .SND_K_VALUE,
   .SND_SUM, .SND_S_HELD, .SND_S_LOST]

/-- The command completes in the state: `exec` answers a next state, the waiting commands stand as they did, `post` holds of the sled that
it leaves, and beside the fields `fs` and the parts `ps` nothing of the sled has changed. -/
def Completes (c : Instr) (s : State) (fs : List Fld) (ps : List Part) (post : Mach → Prop) : Prop :=
  ∃ t, exec c s = .next t ∧ t.pending = s.pending ∧ s.mach.Frame fs ps t.mach ∧ post t.mach

/-- A message of the sled `r` reaches this one: a DX32 whose link to it is Up (R260). -/
def Mach.hears (m : Mach) (r : Nat) : Prop := m.sled = .dx32 ∧ (m.upLink r).isSome = true ∧ r ≠ m.self

/-- A frame that reaches the port `p` passes every check of R258, R262, R264 and R271, on the link `l`. -/
def Mach.Passes (m : Mach) (p l : Nat) (f : Sys2Proof.Frame) : Prop :=
  m.sled = .dx32 ∧ m.get .BQL_P_POWERED p = 1 ∧ m.portDead p = false ∧ f.pause = false ∧ f.fcsOk = true ∧
  f.dstMac = m.get .BQL_P_MAC p ∧ (m.portLinks p).find? (fun k => m.get .BQL_L_PEER_MAC k == f.srcMac) = some l ∧
  f.icvOk = true ∧ (m.keys.sak.find? (2 * l + f.an % 2)).isSome = true ∧ f.ethertype = m.get .BQL_ETHERTYPE 0 ∧
  m.badHeader l f = false

/-- A HELLO reaches the link `l` and is not refused (R269). -/
def Mach.Greets (m : Mach) (l : Nat) (h : Hello) : Prop :=
  m.sled = .dx32 ∧ m.get .BQL_L_EN l = 1 ∧ m.get .BQL_P_POWERED (l / 8) = 1 ∧ m.portDead (l / 8) = false ∧ m.helloRefusal l h = none

/-- A HELLO completes the exchange of the link `l`: it echoes this sled's nonce, and this sled has echoed its nonce (R269). -/
def Mach.Completing (m : Mach) (l : Nat) (h : Hello) : Prop :=
  h.echo = (m.blink l).nonce ∧ (m.blink l).nonce ≠ 0 ∧ (m.blink l).sentEcho = true ∧ (m.blink l).peer.map (·.nonce) = some h.nonce

/-- A service request reaches this sled, which serves it: services are on, its body is as long as Table 13.2 says, the feature that it
needs is settled on the link, and its sender is a member or joins (R265, R286, R287). -/
def Mach.Serves (m : Mach) (x : Msg) : Prop :=
  m.hears x.src ∧ svcBodyOk x = true ∧ m.get .ARC_EN 0 = 1 ∧ m.arc.left = false ∧
  ((m.upLink x.src).any fun l => (svcFeature x.code).all fun b => Bits.bit (m.get .BQL_L_FEATURES l) b) = true ∧
  (x.code = mJoin ∨ Bits.bit (m.get .ARC_MEMBERS 0) x.src = true)

/-- The answer of this sled to a service request (R288). -/
def Mach.svcAnswer (m : Mach) (x : Msg) (status : Nat) (body : List Byte) : Msg :=
  { m.mkMsg mSvcAck x.txid x.home x.line with rqs := x.rqs, agent := x.agent, opst := status, body := body }

/-- From `a` to `b` a service request has been answered, and the answer waits for the link that names the sender. -/
def Mach.Replied (x : Msg) (status : Nat) (body : List Byte) (a b : Mach) : Prop :=
  b.out = a.out ++ [.msg x.src (a.svcAnswer x status body)] ∧
  b.bql.txq = a.bql.txq ++ (if a.linkHolds x.src then [(x.src, a.svcAnswer x status body)] else [])

/-- A mailbox is ready and serves the opcode (R214, R434). -/
def Mach.mbServes (m : Mach) (mb : Mbox) (op : Nat) : Prop := m.mbReady mb = true ∧ (mbOps mb).contains op = true

/-- From `a` to `b` one answer of a mailbox has been emitted. -/
def Mach.Answered (mb : Mbox) (op code : Nat) (pl : List Nat) (a b : Mach) : Prop := b.out = a.out ++ [.mailbox mb op code pl]

/-- The descriptor in flight at an index of a queue pair, when it can take a turn (R241). -/
def Mach.Turn (m : Mach) (q idx : Nat) (d : Desc) : Prop :=
  m.descAt q idx = some d ∧ m.descOf d.seq = some d ∧ m.runnable d = true

/-- A descriptor is marked as started. -/
def Desc.begun (d : Desc) : Act := if d.started then .skip else setDesc d.seq fun d => { d with started := true }

/-- From `a` to `b` the descriptor `d` has made its last access with a status; every other stands as it did. -/
def Mach.Ended (d : Desc) (status : Nat) (a b : Mach) : Prop :=
  (∃ e, b.descOf d.seq = some e ∧ e.done = true ∧ e.status = status ∧ e.q = d.q ∧ e.idx = d.idx ∧ e.raw = d.raw) ∧
  ∀ n, n ≠ d.seq → b.descOf n = a.descOf n

/-- The entries of the field `f` other than the one at `i` read as before. -/
def Mach.Others (f : Fld) (i : Nat) (a b : Mach) : Prop := ∀ j, j ≠ i → b.get f j = a.get f j

end Sys2Proof.Machine
end

