-- ==== Sys2Proof/Certificates/Slice0/Obligations.lean ====
section
/-!
DEFINITION. The statements for the provers. A command completes (Completes) when exec answers a next state with the waiting commands as
they stood, a frame and what the statement says of the sled it leaves.
-/

open Sys2Proof Sys2Proof.Machine

/-- A step takes the command at the front of the queue. -/
def Obligations.StepRunsFrontCommand : Prop :=
  ∀ (c : Instr) (rest : List Instr) (s : State), s.pending = c :: rest → step s = exec c { s with pending := rest }

/-- R469, R471, R472, R448: accesses of setup space that are taken. -/
def Obligations.SetupSpaceAccess : Prop :=
  (∀ (s : State) (p : Path) (v : Nat), s.mach.reaches p = true → s.mach.served = none → 10 ≤ v % 2 ^ 32 → v % 2 ^ 32 ≤ 100000 →
    Completes (.registerWrite p Blk.dir.base 8 v) s [.DIR_BISNP_TIMEOUT, .DIR_WR_REFUSED] [] fun t =>
      t.get .DIR_BISNP_TIMEOUT = v % 2 ^ 32 ∧ t.get .DIR_WR_REFUSED = 0) ∧
  (∀ (s : State) (p : Path) (v : Nat), s.mach.reaches p = true → s.mach.served = none →
    (v % 2 ^ 32 < 10 ∨ 100000 < v % 2 ^ 32) →
    Completes (.registerWrite p Blk.dir.base 8 v) s [.DIR_WR_REFUSED] [] fun t => t.get .DIR_WR_REFUSED = 1) ∧
  (∀ (s : State) (p : Path) (v : Nat), s.mach.reaches p = true → s.mach.served = none →
    1 ≤ v % 2 ^ 8 → v % 2 ^ 8 ≤ 80 → 1 ≤ v / 2 ^ 8 % 2 ^ 8 → v / 2 ^ 8 % 2 ^ 8 ≤ 20 →
    Completes (.registerWrite p (Blk.tdl.base + 8) 8 v) s [.TDL_RATE_DEV, .TDL_RATE_ATL, .TDL_WR_REFUSED] [] fun t =>
      t.get .TDL_RATE_DEV = v % 2 ^ 8 ∧ t.get .TDL_RATE_ATL = v / 2 ^ 8 % 2 ^ 8 ∧ t.get .TDL_WR_REFUSED = 0) ∧
  (∀ s : State, Completes .setupLock s [.ID_WR_REFUSED, .SETUP_LOCK] [] fun t =>
    t.get .SETUP_LOCK = 1 ∧ t.get .ID_WR_REFUSED = 0) ∧
  (∀ (s : State) (e off : Nat), s.mach.served = none → off % 8 = 0 → ferryAperture off = false → mctpMapped off = true →
    Completes (.mctpSetupAccess e false off 8 []) s countFields [.out, .grain, .freeCtr] fun t =>
      t.out = s.mach.out ++ [.mctp e 0 (Bits.leBytes 8 (((event .pilot 0xA1 0 1).run s.mach).wordRead (.mctp e) off))]) ∧
  (∀ (s : State) (e off : Nat), s.mach.served = none → off % 8 = 0 → ferryAperture off = false → mctpMapped off = false →
    Completes (.mctpSetupAccess e false off 8 []) s countFields [.out] fun t =>
      t.out = s.mach.out ++ [.mctp e 0x80 (Bits.leBytes 8 0)])

/-- R43 to R46 and Table 2.5: what the writes of an atoll entry do, and that a refused one only shows its code. -/
def Obligations.AtollEntryCommands : Prop :=
  (∀ (s : State) (n : Nat), n < s.mach.sled.atolls → s.mach.get .ATL_STATE n = atlFree →
    Completes (.atollBuild n) s [.ATL_STATE, .ATL_ERR] [] fun t => t.get .ATL_STATE n = atlBuilding ∧ t.get .ATL_ERR n = 0 ∧
      Mach.Others .ATL_STATE n s.mach t ∧ Mach.Others .ATL_ERR n s.mach t) ∧
  (∀ (s : State) (n : Nat), n < s.mach.sled.atolls → s.mach.get .ATL_STATE n = atlBuilding →
    Completes (.atollUnbuild n) s [.ATL_STATE, .ATL_ERR] [] fun t => t.get .ATL_STATE n = atlFree ∧ t.get .ATL_ERR n = 0 ∧
      Mach.Others .ATL_STATE n s.mach t ∧ Mach.Others .ATL_ERR n s.mach t) ∧
  (∀ (s : State) (n : Nat), n < s.mach.sled.atolls → s.mach.get .ATL_STATE n = atlBuilding → s.mach.isRemote n = false →
    s.mach.entryCodes n [(.ATL_STATE, atlLive)] = [] →
    Completes (.atollAdmit n) s (tallyFields ++ [.ATL_STATE, .ATL_TDL_STATE, .ATL_ERR, .ATL_KEYS_ABSENT, .ATL_BACKING, .TDL_SLOT_STATE])
      [.out, .grain, .keys, .host, .lhl] fun t => t.get .ATL_STATE n = atlLive ∧ t.get .ATL_ERR n = 0 ∧
        t.get .ATL_BACKING n = s.mach.reservation n % 2 ^ 40 ∧
        Mach.Others .ATL_STATE n s.mach t ∧ Mach.Others .ATL_ERR n s.mach t ∧ Mach.Others .ATL_BACKING n s.mach t) ∧
  (∀ (s : State) (n : Nat) (f : AtlField) (v : Nat), n < s.mach.sled.atolls → s.mach.get .ATL_STATE n = atlLive →
    s.mach.entryCodes n [(atlField f, atlKept s.mach.sled (atlField f) (v % 2 ^ (atlField f).spec.width))] = [] →
    Completes (.atollLiveChange n f v) s
      (detectFields ++ tallyFields ++ countFields ++ [atlField f, .ATL_TDL_STATE, .ATL_ERR, .ATL_KEYS_ABSENT, .ATL_QUOTA_OVER, .GRN_DROPPED,
        .TIER_REMOTE_READS, .TDL_EPOCH_STOPS, .TDL_SLOT_STATE, .DIR_FWD3, .DIR_ATOMICS, .DIR_VALID, .DIR_COARSE, .DIR_OPEN, .DIR_SETQ,
        .DIR_LINEQ, .HBR_HEAD_DISCARDS, .FRY_ERR, .FRY_M_ERR, .ARC_ATL_DIRTY, .SND_S_HELD, .SND_S_LOST])
      [.pages, .out, .freeCtr, .lines, .dir, .grain, .keys, .host, .bkw, .lhl, .arc, .bql, .snd, .fry] fun t =>
        t.get (atlField f) n = atlKept s.mach.sled (atlField f) (v % 2 ^ (atlField f).spec.width) ∧ t.get .ATL_ERR n = 0 ∧
        Mach.Others (atlField f) n s.mach t) ∧
  (∀ (s : State) (n : Nat), n < s.mach.sled.atolls → s.mach.get .ATL_STATE n = atlLive →
    s.mach.atollViews n = [] → s.mach.closingViews n = [] →
    Completes (.atollRetire n) s (countFields ++ [.ATL_STATE, .ATL_ERR, .ATL_TDL_STATE, .TDL_SLOT_STATE, .FRY_ERR, .FRY_M_ERR,
        .ARC_REL_PENDING, .HBR_HEAD_DISCARDS, .SND_S_HELD, .SND_S_LOST])
      [.pages, .out, .freeCtr, .lines, .dir, .keys, .arc, .bql, .snd, .fry] fun t =>
        t.get .ATL_STATE n = atlRetiring ∧ t.get .ATL_ERR n = 0 ∧ Mach.Others .ATL_STATE n s.mach t ∧ Mach.Others .ATL_ERR n s.mach t) ∧
  (∀ (s : State) (n : Nat), s.mach.get .ATL_STATE n = atlRetiring →
    Completes (.atollRetireComplete n) s (forgetFields ++ [.ATL_STATE, .ATL_MIRROR, .ATL_TDL_STATE, .ATL_KEYS_ABSENT, .ATL_BACKING,
        .KEY_TRANSPORT_SET, .KEY_ZEROISED, .KEY_DATA_SET, .KEY_INT_SET, .KEY_SAK_SET, .TDL_SLOT_STATE])
      [.pages, .out, .lines, .grain, .keys, .host, .bkw, .lhl, .arc, .bql, .que] fun t =>
        t.get .ATL_STATE n = atlFree ∧ t.get .ATL_BACKING n = 0 ∧ t.get .ATL_MIRROR n = 0 ∧ Mach.Others .ATL_STATE n s.mach t) ∧
  (∀ (s : State) (n v : Nat), n < s.mach.sled.atolls → s.mach.get .ATL_STATE n = atlBuilding → Bits.field v 4 2 ≠ 3 →
    Completes (.atollEntryWrite n 8 v) s [.ATL_COH, .ATL_COMP, .ATL_PLACE, .ATL_SEAL, .ATL_OFFSHORE, .ATL_CONTRACT, .ATL_TYPE,
        .ATL_VISITOR_WT, .ATL_CHAN_SET, .ATL_LAGOON_QUOTA, .ATL_ERR] [] fun t => t.get .ATL_ERR n = 0 ∧
      t.get .ATL_COH n = Bits.field v 0 1 ∧ t.get .ATL_COMP n = Bits.field v 1 1 ∧ t.get .ATL_PLACE n = Bits.field v 2 2 ∧
      t.get .ATL_SEAL n = Bits.field v 4 2 ∧ t.get .ATL_OFFSHORE n = Bits.field v 6 1 ∧ t.get .ATL_CONTRACT n = Bits.field v 9 1 ∧
      t.get .ATL_TYPE n = Bits.field v 10 1 ∧ t.get .ATL_VISITOR_WT n = Bits.field v 11 1 ∧
      t.get .ATL_CHAN_SET n = Bits.field v 16 16 % s.mach.sled.pick 65536 256 ∧ t.get .ATL_LAGOON_QUOTA n = Bits.field v 32 24) ∧
  (∀ (s : State) (n off v : Nat), n < s.mach.sled.atolls → s.mach.entryCodes n (atlValues s.mach.sled off v) ≠ [] →
    Completes (.atollEntryWrite n off v) s [.ATL_ERR] [] fun t =>
      t.get .ATL_ERR n = (s.mach.entryCodes n (atlValues s.mach.sled off v)).foldl min 0xFF ∧ Mach.Others .ATL_ERR n s.mach t)

/-- R41, R42, R49: what opening and closing a view, and an offer of capacity, do. -/
def Obligations.ViewCommands : Prop :=
  (∀ (s : State) (v ld n base : Nat), v < 4 * s.mach.sled.atolls → s.mach.get .VW_VALID v = 0 →
    s.mach.slotCodes v [(.VW_LDBASE, base % 2 ^ 24), (.VW_LD, ld % 2 ^ 8), (.VW_ATOLL, n % 2 ^ 12), (.VW_VALID, 1)] = [] →
    Completes (.viewOpen v ld n base) s [.VW_VALID, .VW_LD, .VW_ATOLL, .VW_ERR, .VW_LDBASE, .HBR_LD_EVT_OVERFLOW] [.out, .host] fun t =>
      t.get .VW_VALID v = 1 ∧ t.get .VW_LD v = ld % 2 ^ 8 ∧ t.get .VW_ATOLL v = n % 2 ^ 12 ∧ t.get .VW_LDBASE v = base % 2 ^ 24 ∧
      t.get .VW_ERR v = 0 ∧ Mach.Others .VW_VALID v s.mach t ∧ Mach.Others .VW_LD v s.mach t ∧
      Mach.Others .VW_ATOLL v s.mach t ∧ Mach.Others .VW_LDBASE v s.mach t ∧ Mach.Others .VW_ERR v s.mach t) ∧
  (∀ (s : State) (v ld n base : Nat), v < 4 * s.mach.sled.atolls →
    s.mach.slotCodes v [(.VW_LDBASE, base % 2 ^ 24), (.VW_LD, ld % 2 ^ 8), (.VW_ATOLL, n % 2 ^ 12), (.VW_VALID, 1)] ≠ [] →
    Completes (.viewOpen v ld n base) s [.VW_ERR] [] fun t =>
      t.get .VW_ERR v = (s.mach.slotCodes v [(.VW_LDBASE, base % 2 ^ 24), (.VW_LD, ld % 2 ^ 8), (.VW_ATOLL, n % 2 ^ 12),
        (.VW_VALID, 1)]).foldl min 0xFF % 2 ^ 8 ∧ Mach.Others .VW_ERR v s.mach t) ∧
  (∀ (s : State) (v : Nat), v < 4 * s.mach.sled.atolls → s.mach.get .VW_VALID v = 1 → s.mach.slotCodes v [(.VW_VALID, 0)] = [] →
    Completes (.viewClose v) s [.VW_VALID, .VW_CLOSING, .VW_ERR] [.out, .dir, .fry] fun t =>
      t.get .VW_VALID v = 0 ∧ t.get .VW_CLOSING v = 1 ∧ t.get .VW_ERR v = 0 ∧
      Mach.Others .VW_VALID v s.mach t ∧ Mach.Others .VW_CLOSING v s.mach t ∧ Mach.Others .VW_ERR v s.mach t ∧
      t.dir.bisnps = s.mach.dir.bisnps ++ (if s.mach.isShared (s.mach.get .VW_ATOLL v) then
        (s.mach.heldLines (s.mach.get .VW_ATOLL v) (s.mach.headOf (s.mach.get .VW_LD v))).map fun line =>
          (s.mach.headOf (s.mach.get .VW_LD v), s.mach.get .VW_LD v, line, 0) else [])) ∧
  (∀ (s : State) (v : Nat), s.mach.get .VW_CLOSING v = 1 → s.mach.dir.bisnps = [] →
    Completes (.viewCloseComplete v) s (forgetFields ++ [.VW_CLOSING, .GRN_REVOKED])
      [.pages, .out, .lines, .grain, .host, .bkw, .lhl, .arc, .bql, .que] fun t =>
      t.get .VW_CLOSING v = 0 ∧ Mach.Others .VW_CLOSING v s.mach t) ∧
  (∀ (s : State), s.mach.get .GRN_ELASTIC_EN = 1 → s.mach.get .GRN_LEVEL = 0 →
    s.mach.grain.lastHeatPeriod ≠ s.mach.get .TIER_PERIOD_NOW + 1 →
    Completes .addCapacityOffer s [.HBR_LD_EVT_OVERFLOW] [.out, .grain, .host] fun t =>
      t.grain.lastHeatPeriod = s.mach.get .TIER_PERIOD_NOW + 1) ∧
  (∀ (s : State), s.mach.grain.lastHeatPeriod = s.mach.get .TIER_PERIOD_NOW + 1 →
    Completes .addCapacityOffer s [] [] fun t => t = s.mach)

/-- R37, R54, R57, R61, R62, R190, R195, R212, R213: what the accesses of a head start. -/
def Obligations.HostAccesses : Prop :=
  (∀ (s : State) (ld dpa tag : Nat) (ms : MetaState) (x : Mapped), s.mach.ldUp ld true = true → s.mach.fatal = false →
    s.mach.decode ld dpa = some x → s.mach.isBell x.atoll = false → s.mach.visitHome x.atoll = none →
    Completes (.memrd ld dpa tag ms) s (lineFields ++ [.HBR_LD_UNMAPPED])
      [.pages, .out, .freeCtr, .lines, .dir, .host, .bkw, .lhl, .arc, .bql, .snd, .fry] fun t =>
      t = (request (.head ld tag) (s.mach.readKind x.atoll ms) (x.gdpa / 64) fun r => { r with sop := 0, flags := s.mach.ideFlag ld }).run
        ((event (.host (s.mach.headOf ld / 4)) 0x2A (s.mach.headOf ld % 4) 1).run s.mach)) ∧
  (∀ (s : State) (ld dpa tag : Nat) (ms : MetaState) (x : Mapped), s.mach.ldUp ld true = true → s.mach.fatal = false →
    s.mach.decode ld dpa = some x → s.mach.isBell x.atoll = false → s.mach.visitHome x.atoll = none →
    Completes (.memrddata ld dpa tag ms) s (lineFields ++ [.HBR_LD_UNMAPPED])
      [.pages, .out, .freeCtr, .lines, .dir, .host, .bkw, .lhl, .arc, .bql, .snd, .fry] fun t =>
      t = (request (.head ld tag) (s.mach.readKind x.atoll ms) (x.gdpa / 64) fun r => { r with sop := 1, flags := s.mach.ideFlag ld }).run
        ((event (.host (s.mach.headOf ld / 4)) 0x2A (s.mach.headOf ld % 4) 1).run s.mach)) ∧
  (∀ (s : State) (ld dpa tag : Nat) (ms : MetaState), s.mach.ldUp ld true = true → s.mach.fatal = false →
    s.mach.decode ld dpa = none →
    Completes (.memrd ld dpa tag ms) s (lineFields ++ [.HBR_LD_UNMAPPED])
      [.pages, .out, .freeCtr, .lines, .dir, .host, .bkw, .lhl, .arc, .bql, .snd, .fry] fun t =>
      t.out.getLast? = some (.readData ld tag none 0) ∧
      t.get .HBR_LD_UNMAPPED ld = (s.mach.get .HBR_LD_UNMAPPED ld + 1) % 2 ^ 48 ∧ Mach.Others .HBR_LD_UNMAPPED ld s.mach t) ∧
  (∀ (s : State) (ld dpa tag : Nat) (ms : MetaState) (data : Line) (x : Mapped), s.mach.ldUp ld true = true → s.mach.fatal = false →
    s.mach.decode ld dpa = some x → s.mach.isBell x.atoll = false → s.mach.visitHome x.atoll = none →
    s.mach.holds x.atoll (x.gdpa / 64) (s.mach.headOf ld) = false →
    Completes (.memwr ld dpa tag ms data) s (lineFields ++ [.HBR_LD_UNMAPPED, .QP_SQ_TAIL, .QP_CQ_HEAD, .QP_BELL_IGNORED])
      [.pages, .out, .freeCtr, .lines, .dir, .host, .bkw, .lhl, .arc, .bql, .snd, .fry] fun t =>
      t = (request (.head ld tag) .wrLine (x.gdpa / 64) fun r =>
          { r with data := some data, mask := fullMask, sop := 2, flags := s.mach.ideFlag ld }).run
        ((event (.host (s.mach.headOf ld / 4)) 0x2A (s.mach.headOf ld % 4) 1).run s.mach)) ∧
  (∀ (s : State) (ld dpa tag : Nat) (ms : MetaState) (data : Line) (mask : Nat) (x : Mapped), s.mach.ldUp ld true = true →
    s.mach.fatal = false → s.mach.decode ld dpa = some x → s.mach.isBell x.atoll = false → s.mach.visitHome x.atoll = none →
    s.mach.holds x.atoll (x.gdpa / 64) (s.mach.headOf ld) = false → mask < fullMask →
    Completes (.memwrptl ld dpa tag ms data mask) s (lineFields ++ [.HBR_LD_UNMAPPED, .QP_SQ_TAIL, .QP_CQ_HEAD, .QP_BELL_IGNORED])
      [.pages, .out, .freeCtr, .lines, .dir, .host, .bkw, .lhl, .arc, .bql, .snd, .fry] fun t =>
      t = (request (.head ld tag) .wrPtl (x.gdpa / 64) fun r =>
          { r with data := some data, mask := mask, sop := 3, flags := s.mach.ideFlag ld }).run
        ((event (.host (s.mach.headOf ld / 4)) 0x2A (s.mach.headOf ld % 4) 1).run s.mach)) ∧
  (∀ (s : State) (ld dpa tag : Nat) (ms : MetaState) (data : Line), s.mach.ldUp ld true = true → s.mach.fatal = false →
    s.mach.decode ld dpa = none →
    Completes (.memwr ld dpa tag ms data) s (lineFields ++ [.HBR_LD_UNMAPPED, .QP_SQ_TAIL, .QP_CQ_HEAD, .QP_BELL_IGNORED])
      [.pages, .out, .freeCtr, .lines, .dir, .host, .bkw, .lhl, .arc, .bql, .snd, .fry] fun t =>
      t.out.getLast? = some (.writeCmp ld tag) ∧
      t.get .HBR_LD_UNMAPPED ld = (s.mach.get .HBR_LD_UNMAPPED ld + 1) % 2 ^ 48 ∧ Mach.Others .HBR_LD_UNMAPPED ld s.mach t) ∧
  (∀ (s : State) (ld dpa tag : Nat) (ms : MetaState) (data : Line) (mask : Nat) (x : Mapped), s.mach.ldUp ld true = true →
    s.mach.fatal = false → s.mach.decode ld dpa = some x → s.mach.isBell x.atoll = false → s.mach.visitHome x.atoll = none →
    s.mach.holds x.atoll (x.gdpa / 64) (s.mach.headOf ld) = true → mask < fullMask →
    Completes (.headWriteBack ld dpa tag ms data mask) s (lineFields ++ [.HBR_LD_UNMAPPED, .QP_SQ_TAIL, .QP_CQ_HEAD, .QP_BELL_IGNORED])
      [.pages, .out, .freeCtr, .lines, .dir, .host, .bkw, .lhl, .arc, .bql, .snd, .fry] fun t =>
      t = (holderWrite x.atoll ld tag (x.gdpa / 64) 3 ms data mask).run
        ((event (.host (s.mach.headOf ld / 4)) 0x2A (s.mach.headOf ld % 4) 1).run s.mach)) ∧
  (∀ (s : State) (ld dpa tag : Nat), s.mach.ldUp ld true = true → s.mach.fatal = false →
    Completes (.memclnevct ld dpa tag) s (lineFields ++ [.HBR_LD_UNMAPPED])
      [.pages, .out, .freeCtr, .lines, .dir, .host, .bkw, .lhl, .arc, .bql, .snd, .fry] fun t =>
      t.out.getLast? = some (.writeCmp ld tag)) ∧
  (∀ (s : State) (ld off tag a b c w : Nat) (op : PcieAtomic) (x : Mapped), s.mach.ldUp ld false = true → s.mach.fatal = false →
    pcieOp op = some (c, w) → s.mach.get .HBR_LD_ALIAS_LOG2 ld ≠ 0 → off < 2 ^ s.mach.get .HBR_LD_ALIAS_LOG2 ld →
    s.mach.decode ld (s.mach.get .HBR_LD_ALIAS_BASE ld * 2 ^ 21 + off) = some x → s.mach.isBell x.atoll = false →
    s.mach.visitHome x.atoll = none → atomOk c (off % 64) = true →
    Completes (.pcieAtomicop ld off tag op a b) s (lineFields ++ [.HBR_LD_UNMAPPED])
      [.pages, .out, .freeCtr, .lines, .dir, .host, .bkw, .lhl, .arc, .bql, .snd, .fry] fun t =>
      t = (request (.head ld tag) .atom (x.gdpa / 64) fun r => { r with
            op := c, off := off % 64, a := a % 2 ^ (8 * w), b := b % 2 ^ (8 * w), sop := 5, flags := s.mach.ideFlag ld }).run
        ((event (.host (s.mach.headOf ld / 4)) 0x2A (s.mach.headOf ld % 4) 1).run s.mach)) ∧
  (∀ (s : State) (h units reqs : Nat), s.mach.get .HBR_HEAD_WIDTH h ≠ 0 → s.mach.csw.withheld = false →
    (s.mach.openReqs h).length + units ≤ s.mach.ingressRoom h →
    Completes (.flitSlot h units reqs false true) s (countFields ++ [.HBR_HEAD_OCCUPANCY, .BQL_L_REPLAYS]) [.out, .bql, .csw] fun t =>
      t.get .HBR_HEAD_OCCUPANCY h = ((s.mach.openReqs h).length + units) % 2 ^ 21 ∧ Mach.Others .HBR_HEAD_OCCUPANCY h s.mach t)

/-- R57, R63: a Lagoon hit. -/
def Obligations.LagoonReadHit : Prop :=
  ∀ (s : State) (ld dpa tag : Nat) (ms : MetaState) (x : Mapped) (l : LagLine), s.mach.ldUp ld true = true → s.mach.fatal = false →
    s.mach.decode ld dpa = some x → s.mach.isBell x.atoll = false → s.mach.visitHome x.atoll = none → s.mach.isShared x.atoll = false →
    s.mach.atollOf (pageOfLine (x.gdpa / 64)) = some x.atoll → s.mach.homeHeld (s.mach.homeOfLine (x.gdpa / 64)) = false →
    s.mach.bkw.isolated = [] → s.mach.get .ARC_ATL_FENCED x.atoll = 0 → s.mach.isSealed x.atoll = false → s.mach.lines.txns = [] →
    s.mach.lines.waits = [] → s.mach.arc.pairs = [] → s.mach.dir.ents = [] → s.mach.dir.suspect = [] →
    s.mach.lagHit (x.gdpa / 64) = some l →
    ∃ t, exec (.memrd ld dpa tag ms) s = .next t ∧ t.mach.out.getLast? = some (.readData ld tag l.val 0) ∧
      t.mach.cached (x.gdpa / 64) = some l.val ∧ t.mach.lines.accs = s.mach.lines.accs ∧ t.mach.lines.txns = []

/-- R57, R60, R62, R73, R98, R121: what ends the waits of a line request. -/
def Obligations.LineReturns : Prop :=
  (∀ (s : State) (acc : Nat) (e : Ecc) (a : Access) (tx : Txn) (n : Nat),
    (s.mach.lines.accs.find? fun a => a.id == acc && a.issued && a.kind == .fill) = some a →
    s.mach.txnOf a.line = some tx → tx.phase = .mem → s.mach.atollOf (pageOfLine a.line) = some n → s.mach.cached a.line = none →
    (s.mach.page (pageOfLine a.line)).rcd.tier ≠ .offshore →
    Completes (.dramDataReturn acc e) s (lineFields ++ [.DRM_C_CE, .DRM_C_UE, .DRM_D_CE, .DRM_D_UE])
      [.dram, .pages, .out, .freeCtr, .lines, .dir, .host, .bkw, .lhl, .arc, .bql, .snd, .fry, .chan] fun t =>
      t = (wake a.line).run ((lineReturned n a.line a.ga e tx.req.src.readCause (filled n tx)).run
        { s.mach with lines := { s.mach.lines with accs := s.mach.lines.accs.filter fun x => x.id != acc } })) ∧
  (∀ (s : State) (acc : Nat) (e : Ecc), (∀ a ∈ s.mach.lines.accs, a.id = acc → a.issued = false) →
    Completes (.dramDataReturn acc e) s [] [] (fun t => t = s.mach) ∧ Completes (.partialMerge acc e) s [] [] (fun t => t = s.mach)) ∧
  (∀ (s : State) (pn : Nat), (s.mach.page pn).rcd.lock = false →
    Completes (.lockedRequestResume pn) s lineFields
      [.pages, .out, .freeCtr, .lines, .dir, .host, .bkw, .lhl, .arc, .bql, .snd, .fry] fun t =>
      t = (Act.each (s.mach.lines.waits.filter fun w => w.why == .lock && pageOfLine w.req.line == pn) fun w =>
        .all [unwait w.req, begin w.req, wake w.req.line]).run s.mach) ∧
  (∀ (s : State) (pn : Nat), (s.mach.page pn).rcd.lock = true → Completes (.lockedRequestResume pn) s [] [] fun t => t = s.mach) ∧
  (∀ (s : State) (acc : Nat) (e : Ecc) (a : Access) (n : Nat),
    (s.mach.lines.accs.find? fun a => a.id == acc && a.issued && a.kind == .merge) = some a →
    s.mach.atollOf (pageOfLine a.line) = some n → s.mach.txnOf a.line = none →
    Completes (.partialMerge acc e) s (lineFields ++ [.DRM_C_CE, .DRM_C_UE, .DRM_D_CE, .DRM_D_UE])
      [.dram, .pages, .out, .freeCtr, .lines, .dir, .host, .bkw, .lhl, .arc, .bql, .snd, .fry, .chan] fun t =>
      t = (wake a.line).run ((lineReturned n a.line a.ga e .hostWrite (merged a.line)).run
        { s.mach with lines := { s.mach.lines with accs := s.mach.lines.accs.filter fun x => x.id != acc } })) ∧
  (∀ (s : State) (line n : Nat) (e : WbEnt) (v : Line), (s.mach.lines.wb.find? fun e => e.line == line) = some e → e.val = some v →
    s.mach.atollOf (pageOfLine line) = some n → s.mach.keysAbsent n = false → (s.mach.page (pageOfLine line)).rcd.alloc = 0 →
    (s.mach.page (pageOfLine line)).rcd.busy = false → (s.mach.page (pageOfLine line)).rcd.pushPending = false →
    (s.mach.page (pageOfLine line)).rcd.size.getD (idxOfLine line) 0 = 0 →
    s.mach.tierOf n (pageOfLine line) = .deep → v = 0 →
    Completes (.writeBack line) s countFields [.lines] fun t => t.lines = { s.mach.lines with wb := s.mach.lines.wb.erase e }) ∧
  (∀ (s : State) (line n : Nat) (e : WbEnt), (s.mach.lines.wb.find? fun e => e.line == line) = some e →
    s.mach.atollOf (pageOfLine line) = some n → s.mach.keysAbsent n = true →
    Completes (.writeBack line) s [.GRN_DROPPED] [.lines] fun t => t.lines = { s.mach.lines with wb := s.mach.lines.wb.erase e } ∧
      t.get .GRN_DROPPED = (s.mach.get .GRN_DROPPED + 1) % 2 ^ 48) ∧
  (∀ (s : State) (id ld tag : Nat) (w : Waiting), (s.mach.lines.waits.find? fun w => w.req.id == id) = some w →
    w.why = .lock ∨ w.why = .recall ∨ w.why = .held → w.req.src = .head ld tag → w.req.kind = .rdCur →
    Completes (.patienceExpire id) s (countFields ++ [.FRY_ERR, .FRY_M_ERR, .SND_S_HELD, .SND_S_LOST])
      [.out, .freeCtr, .lines, .dir, .bql, .snd, .fry] fun t =>
      t.out.getLast? = some (.readData ld tag none 0) ∧ t.lines = { s.mach.lines with waits := s.mach.lines.waits.filter (· != w) }) ∧
  (∀ (s : State) (r st : Nat),
    ((List.range s.mach.sled.homes).find? fun h => s.mach.headroom h < s.mach.watermark (s.mach.get .GRN_WM_MID_BP) h) = some r →
    (let g := (List.range s.mach.sled.homes).foldl (fun g h => if s.mach.headroom g < s.mach.headroom h then h else g) 0
     g ≠ r ∧ s.mach.watermark (s.mach.get .GRN_WM_HIGH_BP) g < s.mach.headroom g ∧
     findFrom (fun x => s.mach.stripeOwner x == g && (List.range 512).all fun j => s.mach.plotWord (x * 512 + j) == 0)
       s.mach.grain.stripeCount 0 = some st) →
    Completes .stripeTransfer s (tallyFields ++ [.GRN_FREE, .GRN_TOTAL, .GRN_STRIPES]) [.out, .grain, .host, .lhl] fun t =>
      let g := (List.range s.mach.sled.homes).foldl (fun g h => if s.mach.headroom g < s.mach.headroom h then h else g) 0
      t.get .GRN_TOTAL r = (s.mach.get .GRN_TOTAL r + 8192) % 2 ^ 40 ∧ t.get .GRN_FREE r = (s.mach.get .GRN_FREE r + 8192) % 2 ^ 40 ∧
      t.get .GRN_STRIPES r = (s.mach.get .GRN_STRIPES r + 1) % 2 ^ 32 ∧
      t.get .GRN_TOTAL g = (s.mach.get .GRN_TOTAL g - 8192) % 2 ^ 40 ∧ t.get .GRN_FREE g = (s.mach.get .GRN_FREE g - 8192) % 2 ^ 40 ∧
      t.get .GRN_STRIPES g = (s.mach.get .GRN_STRIPES g - 1) % 2 ^ 32)

/-- R99 to R109, R120, R130: what the Dredger's moves do to a page. -/
def Obligations.DredgerMoves : Prop :=
  (∀ (s : State) (pn : Nat), (s.mach.page pn).rcd.tier = .deep → (s.mach.page pn).rcd.lock = false →
    needPlots (s.mach.page pn).rcd < (s.mach.page pn).rcd.alloc →
    Completes (.trim pn) s (plotFields ++ countFields ++ [.GRN_MOVES, .SND_T_LOST])
      [.pages, .out, .freeCtr, .lines, .grain, .host, .bkw, .lhl, .snd] fun t =>
      (t.page pn).rcd = { (s.mach.page pn).rcd with
        alloc := needPlots (s.mach.page pn).rcd
        base := if needPlots (s.mach.page pn).rcd = 0 then 0 else (s.mach.page pn).rcd.base } ∧
      (∀ q, q ≠ pn → t.page q = s.mach.page q) ∧
      t.get .GRN_MOVES (homeIndex s.mach.sled pn) = (s.mach.get .GRN_MOVES (homeIndex s.mach.sled pn) + 1) % 2 ^ 32) ∧
  (∀ (s : State) (pn n p : Nat), s.mach.atollOf pn = some n → s.mach.dredgeable n = true → (s.mach.page pn).rcd.busy = false →
    s.mach.sinkDue n pn = true → s.mach.wbHolds pn = false → s.mach.pageDead pn = false → s.mach.epochEnd n pn = false →
    (let need := Bits.ceilDiv (grainTotal (codesFor (s.mach.flag .ATL_COMP n) (s.mach.storedPage n pn))) 16
     need ≠ 0 ∧ s.mach.placeExtent (homeIndex s.mach.sled pn) need (s.mach.pageK n pn) (s.mach.chanSet n) = some p) →
    Completes (.sink pn) s (plotFields ++ countFields ++ [.GRN_MOVES, .GRN_MOVE_ABORTS, .TIER_SINKS, .TDL_EPOCH_STOPS, .RGL_M_LINES,
        .SND_T_LOST]) [.dram, .pages, .out, .freeCtr, .lines, .grain, .host, .bkw, .lhl, .snd, .rgl] fun t =>
      (t.page pn).rcd.tier = .deep ∧ (t.page pn).rcd.base = 16 * p ∧
      (t.page pn).rcd.size = codesFor (s.mach.flag .ATL_COMP n) (s.mach.storedPage n pn) ∧
      t.get .TIER_SINKS = (s.mach.get .TIER_SINKS + 1) % 2 ^ 48 ∧
      t.get .GRN_MOVES (homeIndex s.mach.sled pn) = (s.mach.get .GRN_MOVES (homeIndex s.mach.sled pn) + 1) % 2 ^ 32) ∧
  (∀ (s : State) (pn n p : Nat), s.mach.atollOf pn = some n → s.mach.liftDue n pn .heat = true → s.mach.pageDead pn = false →
    s.mach.epochEnd n pn = false →
    s.mach.placeExtent (homeIndex s.mach.sled pn) 16 (s.mach.pageK n pn) (s.mach.chanSet n) = some p →
    Completes (.lift pn .heat) s (plotFields ++ countFields ++ [.GRN_MOVES, .GRN_MOVE_ABORTS, .TIER_LIFTS_GROWTH, .TIER_LIFTS_HEAT,
        .TDL_EPOCH_STOPS, .RGL_M_LINES, .SND_T_LOST]) [.dram, .pages, .out, .freeCtr, .lines, .grain, .host, .bkw, .lhl, .snd, .rgl]
      fun t => (t.page pn).rcd.tier = .shallows ∧ (t.page pn).rcd.base = 16 * p ∧ (t.page pn).rcd.alloc = 16 ∧
        t.get .TIER_LIFTS_HEAT = (s.mach.get .TIER_LIFTS_HEAT + 1) % 2 ^ 48 ∧
        t.get .TIER_LIFTS_GROWTH = s.mach.get .TIER_LIFTS_GROWTH) ∧
  (∀ (s : State) (pn n w : Nat), s.mach.atollOf pn = some n → (s.mach.grain.liftWaits.find? fun x => x.1 == pn) = some (pn, w + 1) →
    (s.mach.page pn).rcd.tier ≠ .deep →
    Completes (.liftBlockFound pn) s [] [.grain] fun t =>
      t.grain = { s.mach.grain with liftWaits := s.mach.grain.liftWaits.filter fun x => x.1 != pn }) ∧
  (∀ (s : State) (pn n p ch : Nat), s.mach.atollOf pn = some n → s.mach.dredgeable n = true → (s.mach.page pn).rcd.busy = false →
    ch ∈ s.mach.chanSet n → (s.mach.page pn).rcd.alloc ≠ 0 → needPlots (s.mach.page pn).rcd ≠ 0 → s.mach.pageDead pn = false →
    s.mach.placeExtent (homeIndex s.mach.sled pn) (needPlots (s.mach.page pn).rcd) 0 [ch] = some p →
    Completes (.relocation pn ch) s (plotFields ++ countFields ++ [.GRN_MOVES, .GRN_MOVE_ABORTS, .RGL_M_LINES, .SND_T_LOST])
      [.dram, .pages, .out, .freeCtr, .lines, .grain, .host, .bkw, .lhl, .snd, .rgl] fun t =>
      (t.page pn).rcd = { (s.mach.page pn).rcd with base := 16 * p, alloc := needPlots (s.mach.page pn).rcd } ∧
      ∀ q, q ≠ pn → t.page q = s.mach.page q) ∧
  (∀ (s : State), Completes .oldPlotsFree s plotFields [.out, .lines, .grain, .host, .bkw, .lhl] fun t =>
      let pend := fun (e : OldExt) => e.waitFor.any fun i => s.mach.lines.accs.any fun a => a.id == i
      t = (Act.each (s.mach.grain.olds.filter fun e => !pend e) fun e => freeExtent e.home e.base e.plots).run
        { s.mach with grain := { s.mach.grain with olds := s.mach.grain.olds.filter pend } }) ∧
  (∀ (s : State) (h b pn n p : Nat), s.mach.compactDue h = true → fewest (s.mach.compactable h) = some b → s.mach.blockPages b = [pn] →
    s.mach.atollOf pn = some n → s.mach.dredgeable n = true → (s.mach.page pn).rcd.busy = false →
    needPlots (s.mach.page pn).rcd ≠ 0 → s.mach.pageDead pn = false →
    ((s.mach.chanSet n).filterMap fun c => (s.mach.partBlocks h c).findSome? fun b' =>
      if b' = b then none else (windowIn (s.mach.plotWord b') (needPlots (s.mach.page pn).rcd)).map (b' * 16 + ·)).head? = some p →
    Completes (.compaction h) s (plotFields ++ countFields ++ [.GRN_MOVES, .GRN_MOVE_ABORTS, .RGL_M_LINES, .SND_T_LOST])
      [.dram, .pages, .out, .freeCtr, .lines, .grain, .host, .bkw, .lhl, .snd, .rgl] fun t =>
      (t.page pn).rcd = { (s.mach.page pn).rcd with base := 16 * p, alloc := needPlots (s.mach.page pn).rcd } ∧
      ∀ q, q ≠ pn → t.page q = s.mach.page q) ∧
  (∀ (s : State) (h : Nat), s.mach.get .GRN_SWEEP_EN = 1 → h < s.mach.sled.homes →
    Completes (.sweepVisit h) s (plotFields ++ countFields ++ [.GRN_SWEEP_PASSES])
      [.dram, .pages, .out, .lines, .grain, .host, .bkw, .lhl] fun t =>
      t.get .GRN_SWEEP_PASSES = (s.mach.get .GRN_SWEEP_PASSES + 1) % 2 ^ 32)

/-- R111 to R119, R124 to R133: pressure and heat. -/
def Obligations.PressureAndHeat : Prop :=
  (∀ (s : State) (h : Nat), h < s.mach.sled.homes → s.mach.levelAfter h < s.mach.get .GRN_HOME_LEVEL h →
    Completes (.levelLeave h) s (recordFields ++ [.GRN_LEVEL, .GRN_LEVEL_CHANGES, .GRN_RELEASE_OUT, .GRN_HOME_LEVEL,
        .HBR_LD_EVT_OVERFLOW]) [.out, .grain, .host, .lhl] fun t =>
      t.get .GRN_HOME_LEVEL h = s.mach.levelAfter h ∧ Mach.Others .GRN_HOME_LEVEL h s.mach t) ∧
  (∀ s : State, 2 ≤ s.mach.get .GRN_LEVEL →
    Completes .releaseRequestEval s (lineFields ++ [.GRN_RELEASE_OUT, .GRN_REVOKED])
      [.pages, .out, .freeCtr, .lines, .dir, .host, .bkw, .lhl, .arc, .bql, .snd, .fry] fun t =>
      t = (releaseLoop s.mach.host.extents.length).run s.mach) ∧
  (∀ s : State, s.mach.get .GRN_LEVEL < 2 → Completes .releaseRequestEval s [] [] fun t => t = s.mach) ∧
  (∀ (s : State) (ld start : Nat) (e : Extent), s.mach.get .GRN_LEVEL = 3 →
    (s.mach.host.extents.find? fun e => e.ld == ld && e.base == start && e.accepted && e.requested && !e.revoked) = some e →
    Completes (.revocation ld start) s (detectFields ++ [.GRN_RELEASE_OUT, .GRN_REVOKED]) [.out, .lines, .host, .bkw, .lhl] fun t =>
      let after := s.mach.host.extents.map fun x => if x = e then { x with revoked := true } else x
      t.get .GRN_REVOKED = (after.filter (·.revoked)).length % 2 ^ 32 ∧
      t.get .GRN_RELEASE_OUT = (after.filter fun x => x.accepted && x.requested && !x.revoked).length % 2 ^ 32) ∧
  (∀ s : State, Completes .exhaustionRecord s recordFields [.grain, .lhl] fun t =>
      t.grain = { s.mach.grain with exhausted := [] }) ∧
  (∀ s : State, Completes (.grnElasticEnWrite true) s [.GRN_ELASTIC_EN, .GRN_WR_REFUSED] [] fun t =>
      t.get .GRN_ELASTIC_EN = 1 ∧ t.get .GRN_WR_REFUSED = 0) ∧
  (∀ (s : State) (n : Nat), n ∈ s.mach.atolls → s.mach.isElastic n = true →
    Completes (.grnElasticEnWrite false) s [.GRN_WR_REFUSED] [] fun t => t.get .GRN_WR_REFUSED = 1) ∧
  (∀ (s : State) (h : Nat), h < s.mach.sled.homes → Completes (.grnFreeRead .mf h) s [] [.out, .grain] fun t =>
      t.out = s.mach.out ++ [.setupRead (0x410000 + 0x100 + 0x40 * h) (s.mach.get .GRN_FREE h)] ∧
      t.grain = { s.mach.grain with latch := s.mach.grain.latch.put (latchKey .mf h) (grnGroup.map fun f => s.mach.get f h) }) ∧
  (∀ (s : State) (e h : Nat), h < s.mach.sled.homes → Completes (.grnFreeRead (.mctp e) h) s [] [.out, .grain] fun t =>
      t.out = s.mach.out ++ [.mctp e 0 (Bits.leBytes 8 (s.mach.get .GRN_FREE h))]) ∧
  (∀ s : State, s.mach.get .ID_MEM_ACTIVE = 1 → s.mach.get .REEF_PSTATE ≠ 2 →
    (∀ p ∈ s.mach.walked, s.mach.get .TIER_PERIOD_NOW - p.2.visited < 23) →
    Completes .heatPeriodAdvance s [.TIER_PERIOD_NOW] [] fun t =>
      t.get .TIER_PERIOD_NOW = (s.mach.get .TIER_PERIOD_NOW + 1) % 2 ^ 32) ∧
  (∀ (s : State) (p : Nat × PageSt), s.mach.get .ID_MEM_ACTIVE = 1 → s.mach.get .REEF_PSTATE ≠ 2 → p ∈ s.mach.walked →
    23 ≤ s.mach.get .TIER_PERIOD_NOW - p.2.visited →
    Completes .heatPeriodAdvance s [.TIER_STRETCH] [] fun t => t.get .TIER_STRETCH = (s.mach.get .TIER_STRETCH + 1) % 2 ^ 32) ∧
  (∀ (s : State) (pn n : Nat), (s.mach.page pn).rcd ≠ {} → s.mach.atollOf pn = some n → s.mach.dredgeable n = false →
    Completes (.coldScanVisit pn) s (plotFields ++ countFields ++ [.GRN_MOVES, .GRN_MOVE_ABORTS, .TIER_SINKS, .TIER_LIFTS_GROWTH,
        .TIER_LIFTS_HEAT, .TDL_EPOCH_STOPS, .RGL_M_LINES, .SND_T_LOST, .SND_S_HELD, .SND_S_LOST])
      [.dram, .pages, .out, .freeCtr, .lines, .grain, .keys, .host, .bkw, .lhl, .arc, .bql, .snd, .rgl] fun t =>
      (t.page pn).visited = s.mach.get .TIER_PERIOD_NOW ∧
      (32 ≤ s.mach.idle (s.mach.page pn).rcd → (t.page pn).rcd.count = 0)) ∧
  (∀ (s : State) (pn n : Nat), s.mach.atollOf pn = some n → (s.mach.page pn).heatLift = true → (s.mach.page pn).rcd.lock = false →
    s.mach.liftDue n pn .heat = false →
    Completes (.heatLift pn) s [] [.pages] fun t => t.page pn = { s.mach.page pn with heatLift := false } ∧
      ∀ q, q ≠ pn → t.page q = s.mach.page q) ∧
  (∀ (s : State) (pn n : Nat), s.mach.atollOf pn = some n → (s.mach.page pn).heatLift = true → (s.mach.page pn).rcd.lock = false →
    s.mach.liftDue n pn .heat = true →
    Completes (.heatLift pn) s (plotFields ++ countFields ++ [.GRN_MOVES, .GRN_MOVE_ABORTS, .TIER_LIFTS_GROWTH, .TIER_LIFTS_HEAT,
        .TDL_EPOCH_STOPS, .RGL_M_LINES, .SND_T_LOST]) [.dram, .pages, .out, .freeCtr, .lines, .grain, .host, .bkw, .lhl, .snd, .rgl]
      fun t => t = (lift n pn .heat).run ((Prim.page pn { s.mach.page pn with heatLift := false }).apply s.mach)) ∧
  (∀ (s : State) (pn n : Nat), s.mach.atollOf pn = some n → (s.mach.page pn).rcd.tier = .offshore →
    (s.mach.page pn).rcd.recallPending = false → s.mach.epochEnd n pn = false →
    Completes (.pageRecall pn) s (detectFields ++ [.TDL_EPOCH_STOPS]) [.pages, .out, .lines, .host, .bkw, .lhl, .arc, .bql] fun t =>
      (t.page pn).rcd = { (s.mach.page pn).rcd with recallPending := true } ∧ ∀ q, q ≠ pn → t.page q = s.mach.page q)

/-- R142 to R150: the key commands. -/
def Obligations.KeyCommands : Prop :=
  (∀ (s : State) (ss : Session) (kind index : Nat) (k : List Byte), keySetStatus s.mach ss kind index k = 0 →
    Completes (.keySet ss kind index k) s [.ATL_TDL_STATE, .ATL_KEYS_ABSENT, .KEY_TRANSPORT_SET, .KEY_DATA_SET, .KEY_INT_SET,
        .KEY_SAK_SET, .TDL_SLOT_STATE] [.out, .keys] fun t =>
      t.slotKey kind index = some k ∧ t.out = s.mach.out ++ [.keyRsp ss.id 0x81 0 (kcvOf k)]) ∧
  (∀ (s : State) (ss : Session) (kind index : Nat) (k : List Byte), keySetStatus s.mach ss kind index k ≠ 0 →
    Completes (.keySet ss kind index k) s [.KEY_SPDM_REFUSED] [.out] fun t =>
      t.get .KEY_SPDM_REFUSED = (s.mach.get .KEY_SPDM_REFUSED + 1) % 2 ^ 32 ∧
      t.out = s.mach.out ++ [.keyRsp ss.id 0x81 (keySetStatus s.mach ss kind index k) (List.replicate 8 0)]) ∧
  (∀ (s : State) (ss : Session) (kind index : Nat), keyZeroStatus s.mach ss kind index = 0 → (s.mach.slotKey kind index).isSome = true →
    Completes (.keyZero ss kind index) s [.ATL_TDL_STATE, .ATL_KEYS_ABSENT, .KEY_TRANSPORT_SET, .KEY_ZEROISED, .KEY_DATA_SET,
        .KEY_INT_SET, .KEY_SAK_SET, .TDL_SLOT_STATE] [.out, .keys] fun t =>
      t.slotKey kind index = none ∧ t.get .KEY_ZEROISED = (s.mach.get .KEY_ZEROISED + 1) % 2 ^ 32 ∧
      t.out = s.mach.out ++ [.keyRsp ss.id 0x82 0 (List.replicate 8 0)]) ∧
  (∀ (s : State) (ss : Session) (kind index : Nat) (k : List Byte), keyRangeStatus s.mach ss kind index = 0 →
    s.mach.slotKey kind index = some k →
    Completes (.keyStatus ss kind index) s [] [.out] fun t => t.out = s.mach.out ++ [.keyRsp ss.id 0x83 0 (kcvOf k)]) ∧
  (∀ (s : State) (off size : Nat), size ≠ 0 → Completes (.keyMaterialWrite off size) s [.KEY_PLAIN_WRITES] [] fun t =>
      t.get .KEY_PLAIN_WRITES = (s.mach.get .KEY_PLAIN_WRITES + ((off + size - 1) / 8 - off / 8 + 1)) % 2 ^ 32) ∧
  (∀ (s : State) (line n : Nat), s.mach.atollOf (pageOfLine line) = some n →
    s.mach.counterEnd n (pageOfLine line) (idxOfLine line) = true → s.mach.wbHolds (pageOfLine line) = true →
    Completes (.reseal line) s (forgetFields ++ countFields ++ [.GRN_DROPPED, .GRN_MOVES, .TIER_LIFTS_GROWTH, .TDL_RESEALS,
        .TDL_EPOCH_STOPS, .ARC_ATL_DIRTY, .RGL_M_LINES, .SND_T_LOST])
      [.dram, .pages, .out, .freeCtr, .lines, .grain, .host, .bkw, .lhl, .arc, .bql, .snd, .que, .rgl] fun t =>
      t = (writeBack line).run s.mach)

/-- R159 to R170: rotations. -/
def Obligations.KeyRotation : Prop :=
  (∀ (s : State) (slot n : Nat), slot < 8 → s.mach.rotErr (some slot) n = 0 →
    Completes (.tdlSlotStart slot n) s [.ATL_TDL_STATE, .ATL_TDL_PAGE, .TDL_SLOT_ATOLL, .TDL_SLOT_STATE, .TDL_SLOT_AUTO, .TDL_SLOT_ERR,
        .TDL_SLOT_LINE, .TDL_SLOT_WINDOW, .TDL_SLOT_PAGES] [.keys] fun t =>
      t.get .TDL_SLOT_ATOLL slot = n % 2 ^ 12 ∧ t.get .TDL_SLOT_AUTO slot = 0 ∧ t.get .TDL_SLOT_ERR slot = 0 ∧
      t.get .TDL_SLOT_LINE slot = 0 ∧ t.get .TDL_SLOT_WINDOW slot = 0 ∧
      t.get .TDL_SLOT_PAGES slot = s.mach.atollPages n % 2 ^ 34 ∧ t.get .ATL_TDL_PAGE n = 0) ∧
  (∀ (s : State) (slot n : Nat), slot < 8 → s.mach.rotErr (some slot) n ≠ 0 →
    Completes (.tdlSlotStart slot n) s [.TDL_SLOT_ERR] [] fun t => t.get .TDL_SLOT_ERR slot = s.mach.rotErr (some slot) n ∧
      Mach.Others .TDL_SLOT_ERR slot s.mach t) ∧
  (∀ (s : State) (slot n : Nat), s.mach.autoDue n = true → s.mach.nextReady n = true → s.mach.freeRot = some slot →
    s.mach.rotErr (some slot) n = 0 →
    Completes (.rotationAutoStart n) s (recordFields ++ [.ATL_TDL_STATE, .ATL_TDL_PAGE, .TDL_SLOT_ATOLL, .TDL_SLOT_STATE,
        .TDL_SLOT_AUTO, .TDL_SLOT_ERR, .TDL_SLOT_LINE, .TDL_SLOT_WINDOW, .TDL_SLOT_PAGES, .HBR_LD_EVT_OVERFLOW])
      [.out, .keys, .host, .lhl] fun t =>
      t.get .TDL_SLOT_ATOLL slot = n % 2 ^ 12 ∧ t.get .TDL_SLOT_AUTO slot = 1 ∧ t.get .TDL_SLOT_ERR slot = 0 ∧
      t.get .TDL_SLOT_PAGES slot = s.mach.atollPages n % 2 ^ 34) ∧
  (∀ (s : State) (n : Nat), s.mach.autoDue n = true → s.mach.nextReady n = true → s.mach.freeRot = none →
    Completes (.rotationAutoStart n) s [] [.keys] fun t =>
      t.keys = { s.mach.keys with autoWait := s.mach.keys.autoWait.filter (· != n) ++ [n] }) ∧
  (∀ (s : State) (n at' : Nat), s.mach.autoDue n = true → s.mach.nextReady n = false → s.mach.keys.reminder.find? n = some at' →
    Completes (.nextKeyReminder n) s (recordFields ++ [.HBR_LD_EVT_OVERFLOW]) [.out, .keys, .host, .lhl] fun t =>
      t.keys = { s.mach.keys with reminder := s.mach.keys.reminder.put n (s.mach.now + 600000000000) }) ∧
  (∀ (s : State) (slot : Nat) (v : Bool), slot < 8 → Completes (.tdlSlotPause (some slot) v) s
      [.ATL_TDL_STATE, .TDL_SLOT_PAUSE, .TDL_SLOT_STATE] [] fun t => t.get .TDL_SLOT_PAUSE slot = Bits.ofBool v) ∧
  (∀ (s : State) (v : Bool), Completes (.tdlSlotPause none v) s [.ATL_TDL_STATE, .TDL_EN, .TDL_SLOT_STATE] [] fun t =>
      t.get .TDL_EN = Bits.ofBool v) ∧
  (∀ (s : State) (slot r : Nat) (m : Mach), s.mach.tdlRuns slot = true → m = (tdlAdvance slot).run s.mach → m.offered slot = some r →
    (m.page (m.atollPage (m.get .TDL_SLOT_ATOLL slot) + r)).rcd.tier ≠ .offshore →
    (m.page (m.atollPage (m.get .TDL_SLOT_ATOLL slot) + r)).rcd.busy = false →
    m.pageDead (m.atollPage (m.get .TDL_SLOT_ATOLL slot) + r) = false →
    Completes (.tidelinePageRotate slot) s (plotFields ++ countFields ++ [.ATL_TDL_PAGE, .TDL_PAGES, .TDL_SLOT_LINE, .TDL_SLOT_WINDOW,
        .TDL_SLOT_PASSES, .RGL_M_LINES, .SND_T_LOST])
      [.dram, .pages, .out, .freeCtr, .lines, .grain, .keys, .host, .bkw, .lhl, .snd, .rgl] fun t =>
      t = (rotatePage slot (m.get .TDL_SLOT_ATOLL slot) (m.atollPage (m.get .TDL_SLOT_ATOLL slot) + r)).run m) ∧
  (∀ (s : State) (slot r : Nat) (m : Mach), s.mach.tdlRuns slot = true → m = (tdlAdvance slot).run s.mach → m.offered slot = some r →
    (m.page (m.atollPage (m.get .TDL_SLOT_ATOLL slot) + r)).rcd.tier ≠ .offshore →
    (m.page (m.atollPage (m.get .TDL_SLOT_ATOLL slot) + r)).rcd.busy = true →
    Completes (.tidelinePageRotate slot) s [.ATL_TDL_PAGE, .TDL_SLOT_LINE, .TDL_SLOT_WINDOW, .TDL_SLOT_PASSES] [.keys] fun t =>
      t.get .TDL_SLOT_PASSES slot = (s.mach.get .TDL_SLOT_PASSES slot + 1) % 2 ^ 48) ∧
  (∀ (s : State) (slot r : Nat) (m : Mach), s.mach.tdlRuns slot = true → m = (tdlAdvance slot).run s.mach → m.offered slot = some r →
    (m.page (m.atollPage (m.get .TDL_SLOT_ATOLL slot) + r)).rcd.tier = .offshore →
    (m.page (m.atollPage (m.get .TDL_SLOT_ATOLL slot) + r)).rcd.busy = false →
    Completes (.imageRewrite slot) s [.ATL_TDL_PAGE, .TDL_SLOT_LINE, .TDL_SLOT_WINDOW, .TDL_SLOT_PASSES]
      [.pages, .out, .lines, .keys, .arc, .bql] fun t =>
      (t.page (m.atollPage (m.get .TDL_SLOT_ATOLL slot) + r)).rcd.pushPending = true ∧
      ∀ q, q ≠ m.atollPage (m.get .TDL_SLOT_ATOLL slot) + r → t.page q = s.mach.page q) ∧
  (∀ (s : State) (slot n : Nat), s.mach.tdlRuns slot = true → s.mach.get .TDL_SLOT_ATOLL slot = n →
    ((tdlAdvance slot).run s.mach).get .TDL_SLOT_LINE slot = s.mach.get .TDL_SLOT_PAGES slot →
    Completes (.rotationFinish slot) s (recordFields ++ [.ATL_KEY_CUR, .ATL_IKEY_CUR, .ATL_TDL_STATE, .ATL_TDL_PAGE, .ATL_KEYS_ABSENT,
        .KEY_TRANSPORT_SET, .KEY_ZEROISED, .KEY_DATA_SET, .KEY_INT_SET, .KEY_SAK_SET, .TDL_SLOT_STATE, .TDL_SLOT_LINE,
        .TDL_SLOT_WINDOW]) [.keys, .lhl] fun t =>
      t.get .ATL_KEY_CUR n = s.mach.get .ATL_KEY_NEXT n % 2 ^ 13 ∧ Mach.Others .ATL_KEY_CUR n s.mach t)

/-- R182, R185, R194, R266: requests of visitors at the home. -/
def Obligations.PeerRequests : Prop :=
  (∀ (s : State) (x : Msg), s.mach.hears x.src → bodyOk { x with code := mRdCur } = true → x.home = s.mach.self →
    Completes (.rdCur x) s (lineFields ++ [.DIR_PROTO_ERR])
      [.pages, .out, .freeCtr, .lines, .dir, .host, .bkw, .lhl, .arc, .bql, .snd, .fry] fun t =>
      t = (request (.peer x.src x.txid) .rdCur x.line fun r => { r with ag := x.agent }).run s.mach) ∧
  (∀ (s : State) (x : Msg), s.mach.hears x.src → bodyOk { x with code := mRdShd } = true → x.home = s.mach.self →
    Completes (.rdShd x) s (lineFields ++ [.DIR_PROTO_ERR])
      [.pages, .out, .freeCtr, .lines, .dir, .host, .bkw, .lhl, .arc, .bql, .snd, .fry] fun t =>
      t = (request (.peer x.src x.txid) .rdShd x.line fun r => { r with ag := x.agent }).run s.mach) ∧
  (∀ (s : State) (x : Msg), s.mach.hears x.src → bodyOk { x with code := mRdOwn } = true → x.home = s.mach.self →
    Completes (.rdOwn x) s (lineFields ++ [.DIR_PROTO_ERR])
      [.pages, .out, .freeCtr, .lines, .dir, .host, .bkw, .lhl, .arc, .bql, .snd, .fry] fun t =>
      t = (request (.peer x.src x.txid) .rdOwn x.line fun r => { r with ag := x.agent }).run s.mach) ∧
  (∀ (s : State) (x : Msg), s.mach.hears x.src → bodyOk { x with code := mWrLine } = true → x.home = s.mach.self →
    Completes (.wrLine x) s (lineFields ++ [.DIR_PROTO_ERR])
      [.pages, .out, .freeCtr, .lines, .dir, .host, .bkw, .lhl, .arc, .bql, .snd, .fry] fun t =>
      t = (request (.peer x.src x.txid) .wrLine x.line fun r => { r with data := msgVal x, ag := x.agent }).run s.mach) ∧
  (∀ (s : State) (x : Msg), s.mach.hears x.src → bodyOk { x with code := mWrPtl } = true → x.home = s.mach.self →
    Completes (.wrPtl x) s (lineFields ++ [.DIR_PROTO_ERR])
      [.pages, .out, .freeCtr, .lines, .dir, .host, .bkw, .lhl, .arc, .bql, .snd, .fry] fun t =>
      t = (request (.peer x.src x.txid) .wrPtl x.line fun r =>
        { r with data := some (lineOf (x.body.take 64)), mask := Bits.leNat (x.body.drop 64), ag := x.agent }).run s.mach) ∧
  (∀ (s : State) (x : Msg) (off : Nat), s.mach.hears x.src → bodyOk { x with code := mAtom } = true → x.home = s.mach.self →
    off = ((x.body.getD 32 0).toNat) % 64 → atomOk x.opst off = true →
    Completes (.atom x) s (lineFields ++ [.DIR_PROTO_ERR])
      [.pages, .out, .freeCtr, .lines, .dir, .host, .bkw, .lhl, .arc, .bql, .snd, .fry] fun t =>
      t = (request (.peer x.src x.txid) .atom x.line fun r => { r with
        op := x.opst, off := off, a := Bits.leNat (x.body.take 16), b := Bits.leNat ((x.body.drop 16).take 16),
        ag := x.agent }).run s.mach) ∧
  (∀ (s : State) (x : Msg) (off : Nat), s.mach.hears x.src → bodyOk { x with code := mAtom } = true → x.home = s.mach.self →
    off = ((x.body.getD 32 0).toNat) % 64 → atomOk x.opst off = false →
    Completes (.atom x) s [] [.out, .freeCtr, .bql] fun t => ∃ v, v < 256 ∧
      t.out = s.mach.out ++ [.msg x.src { s.mach.mkMsg mCmpErr x.txid s.mach.self x.line with
        rqs := x.rqs, agent := x.agent, opst := v }]) ∧
  (∀ (s : State) (x : Msg) (i : Instr),
    i ∈ [Instr.rdCur { x with code := mRdCur }, .rdShd { x with code := mRdShd }, .rdOwn { x with code := mRdOwn },
      .wrLine { x with code := mWrLine }, .wrPtl { x with code := mWrPtl }, .atom { x with code := mAtom }] →
    s.mach.hears x.src →
    (∀ y, i = .rdCur y ∨ i = .rdShd y ∨ i = .rdOwn y ∨ i = .wrLine y ∨ i = .wrPtl y ∨ i = .atom y → bodyOk y = false) →
    Completes i s (detectFields ++ [.DIR_PROTO_ERR]) [.out, .lhl, .host, .bkw, .lines] fun t =>
      t.get .DIR_PROTO_ERR = (s.mach.get .DIR_PROTO_ERR + 1) % 2 ^ 32) ∧
  (∀ (s : State) (x : Msg), s.mach.hears x.src → bodyOk { x with code := mRdShd } = true → x.home ≠ s.mach.self →
    Completes (.rdShd x) s [] [] fun t => t = s.mach)

/-- R182 to R187, R193: snoops at a visitor and their answers at the home. -/
def Obligations.SnoopsAndAnswers : Prop :=
  (∀ (s : State) (x : Msg) (k : Nat) (e : VisEnt), bodyOk { x with code := mSnpInv } = true → s.mach.hears x.src → k = visKey x.src x.line → e = s.mach.vis k →
    e.keepReqs = [] → e.await = [] → e.trans = none → e.heads = [] → e.state = 1 ∨ e.state = 2 →
    Completes (.snpInv x) s [] [.out, .dir, .bql] fun t =>
      (t.vis k).state = 0 ∧ t.out = s.mach.out ++ [.msg x.src { s.mach.visMsg k mAckI x.txid e.val false with
        rqs := x.rqs, agent := x.agent, after := 0, dirty := false }]) ∧
  (∀ (s : State) (x : Msg) (k : Nat) (e : VisEnt), bodyOk { x with code := mSnpInv } = true → s.mach.hears x.src → k = visKey x.src x.line → e = s.mach.vis k →
    e.keepReqs = [] → e.await = [] → e.trans = none → e.heads = [] → 2 < e.state →
    Completes (.snpInv x) s [] [.out, .dir, .bql] fun t =>
      (t.vis k).state = 0 ∧ t.out = s.mach.out ++ [.msg x.src { s.mach.visMsg k mSnpData x.txid e.val true with
        rqs := x.rqs, agent := x.agent, after := 0, dirty := true }]) ∧
  (∀ (s : State) (x : Msg) (k : Nat) (e : VisEnt), bodyOk { x with code := mSnpShd } = true → s.mach.hears x.src → k = visKey x.src x.line → e = s.mach.vis k →
    e.keepReqs = [] → e.await = [] → e.trans = none → e.heads = [] → e.state = 1 ∨ e.state = 2 →
    Completes (.snpShd x) s [] [.out, .dir, .bql] fun t =>
      (t.vis k).state = 1 ∧ t.out = s.mach.out ++ [.msg x.src { s.mach.visMsg k mAckS x.txid e.val false with
        rqs := x.rqs, agent := x.agent, after := 1, dirty := false }]) ∧
  (∀ (s : State) (x : Msg) (k : Nat) (e : VisEnt), bodyOk { x with code := mSnpShd } = true → s.mach.hears x.src → k = visKey x.src x.line → e = s.mach.vis k →
    e.keepReqs = [] → e.await = [] → e.trans = none → e.heads = [] → 2 < e.state →
    Completes (.snpShd x) s [] [.out, .dir, .bql] fun t =>
      (t.vis k).state = 1 ∧ t.out = s.mach.out ++ [.msg x.src { s.mach.visMsg k mSnpData x.txid e.val true with
        rqs := x.rqs, agent := x.agent, after := 1, dirty := true }]) ∧
  (∀ (s : State) (x : Msg) (k : Nat) (e : VisEnt), bodyOk { x with code := mSnpResolve } = true → s.mach.hears x.src → k = visKey x.src x.line → e = s.mach.vis k →
    e.keepReqs = [] → e.await = [] → e.trans = none → e.heads = [] → e.state ≠ 0 →
    Completes (.snpResolve x) s [] [.out, .dir, .bql] fun t =>
      (t.vis k).state = 1 ∧ t.out = s.mach.out ++ [.msg x.src { s.mach.visMsg k mSnpData x.txid e.val true with
        rqs := x.rqs, agent := x.agent, after := 1, dirty := decide (3 ≤ e.state) }]) ∧
  (∀ (s : State) (x : Msg) (k : Nat) (e : VisEnt), bodyOk { x with code := mFwdShd } = true → s.mach.hears x.src → k = visKey x.src x.line → e = s.mach.vis k →
    e.keepReqs = [] → e.await = [] → e.trans = none → e.heads = [] → e.state = 2 →
    Completes (.fwdShd x) s [] [.out, .dir, .bql] fun t =>
      (t.vis k).trans = some .fA ∧ (t.vis k).before = e.state ∧ (t.vis k).after = 1 ∧
      t.out = s.mach.out ++ [.msg x.rqs { s.mach.visMsg k mFwdData x.txid e.val true with
        rqs := x.rqs, agent := x.agent, grant := 1, after := 1 }]) ∧
  (∀ (s : State) (x : Msg) (k : Nat) (e : VisEnt), bodyOk { x with code := mFwdShd } = true → s.mach.hears x.src → k = visKey x.src x.line → e = s.mach.vis k →
    e.keepReqs = [] → e.await = [] → e.trans = none → e.heads = [] → 2 < e.state →
    Completes (.fwdShd x) s [] [.out, .dir, .bql] fun t =>
      (t.vis k).trans = some .fA ∧ (t.vis k).before = e.state ∧ (t.vis k).after = 4 ∧
      t.out = s.mach.out ++ [.msg x.rqs { s.mach.visMsg k mFwdData x.txid e.val true with
        rqs := x.rqs, agent := x.agent, grant := 1, after := 4 }]) ∧
  (∀ (s : State) (x : Msg) (k : Nat) (e : VisEnt), bodyOk { x with code := mFwdOwn } = true → s.mach.hears x.src → k = visKey x.src x.line → e = s.mach.vis k →
    e.keepReqs = [] → e.await = [] → e.trans = none → e.heads = [] → 1 < e.state →
    Completes (.fwdOwn x) s [] [.out, .dir, .bql] fun t =>
      (t.vis k).trans = some .fA ∧ (t.vis k).before = e.state ∧ (t.vis k).after = 0 ∧
      t.out = s.mach.out ++ [.msg x.rqs { s.mach.visMsg k mFwdData x.txid e.val true with
        rqs := x.rqs, agent := x.agent, grant := x.grant, after := 0 }]) ∧
  (∀ (s : State) (x : Msg) (k : Nat) (e : VisEnt), bodyOk { x with code := mSnpInv } = true → s.mach.hears x.src → k = visKey x.src x.line → e = s.mach.vis k →
    e.keepReqs = [] → e.await = [] → e.trans = none → e.heads = [] → e.state = 0 →
    Completes (.snpInv x) s [] [.out, .dir, .bql] fun t =>
      (t.vis k).state = 0 ∧ t.out = s.mach.out ++ [.msg x.src { s.mach.visMsg k mAckI x.txid e.val false with
        rqs := x.rqs, agent := x.agent, after := 0, dirty := false }]) ∧
  (∀ (s : State) (x : Msg) (k : Nat) (e : VisEnt), bodyOk { x with code := mSnpShd } = true → s.mach.hears x.src → k = visKey x.src x.line → e = s.mach.vis k →
    e.keepReqs = [] → e.await = [] → e.trans = none → e.heads = [] → e.state = 0 →
    Completes (.snpShd x) s [] [.out, .dir, .bql] fun t =>
      (t.vis k).state = 0 ∧ t.out = s.mach.out ++ [.msg x.src { s.mach.visMsg k mAckI x.txid e.val false with
        rqs := x.rqs, agent := x.agent, after := 0, dirty := false }]) ∧
  (∀ (s : State) (x : Msg) (k : Nat) (e : VisEnt), bodyOk { x with code := mFwdShd } = true → s.mach.hears x.src → k = visKey x.src x.line → e = s.mach.vis k →
    e.keepReqs = [] → e.await = [] → e.trans = none → e.heads = [] → e.state = 0 →
    Completes (.fwdShd x) s [] [.out, .dir, .bql] fun t =>
      (t.vis k).state = 0 ∧ t.out = s.mach.out ++ [.msg x.src { s.mach.visMsg k mAckI x.txid e.val false with
        rqs := x.rqs, agent := x.agent, after := 0, dirty := false }]) ∧
  (∀ (s : State) (x : Msg) (k : Nat) (e : VisEnt), bodyOk { x with code := mFwdOwn } = true → s.mach.hears x.src → k = visKey x.src x.line → e = s.mach.vis k →
    e.keepReqs = [] → e.await = [] → e.trans = none → e.heads = [] → e.state = 0 →
    Completes (.fwdOwn x) s [] [.out, .dir, .bql] fun t =>
      (t.vis k).state = 0 ∧ t.out = s.mach.out ++ [.msg x.src { s.mach.visMsg k mAckI x.txid e.val false with
        rqs := x.rqs, agent := x.agent, after := 0, dirty := false }]) ∧
  (∀ (s : State) (x : Msg) (k : Nat) (e : VisEnt), bodyOk { x with code := mSnpResolve } = true → s.mach.hears x.src → k = visKey x.src x.line → e = s.mach.vis k →
    e.keepReqs = [] → e.await = [] → e.trans = none → e.heads = [] → e.state = 0 →
    Completes (.snpResolve x) s [] [.out, .dir, .bql] fun t =>
      (t.vis k).state = 0 ∧ t.out = s.mach.out ++ [.msg x.src { s.mach.visMsg k mAckI x.txid e.val false with
        rqs := x.rqs, agent := x.agent, after := 0, dirty := false }]) ∧
  (∀ (s : State) (x : Msg) (tx : Txn), s.mach.hears x.src → bodyOk { x with code := mAckI } = true →
    s.mach.txnOf x.line = some tx → tx.phase = .col → tx.await.contains (.peer x.src) = true → tx.lost ≠ 1 → tx.lost ≠ 2 → 
    Completes (.ackI x) s (lineFields ++ [.DIR_PROTO_ERR, .DIR_LOST_POISONED])
      [.pages, .out, .freeCtr, .lines, .dir, .host, .bkw, .lhl, .arc, .bql, .snd, .fry] fun t =>
      t = (collect x.line (.peer x.src) (fun e => e.remove (.peer x.src)) tx).run s.mach) ∧
  (∀ (s : State) (x : Msg) (tx : Txn), s.mach.hears x.src → bodyOk { x with code := mAckS } = true →
    s.mach.txnOf x.line = some tx → tx.phase = .col → tx.await.contains (.peer x.src) = true → tx.lost ≠ 1 → tx.lost ≠ 2 → 
    Completes (.ackS x) s (lineFields ++ [.DIR_PROTO_ERR, .DIR_LOST_POISONED])
      [.pages, .out, .freeCtr, .lines, .dir, .host, .bkw, .lhl, .arc, .bql, .snd, .fry] fun t =>
      t = (collect x.line (.peer x.src) (fun e => { e with state := 1 }) tx).run s.mach) ∧
  (∀ (s : State) (x : Msg) (tx : Txn), s.mach.hears x.src → bodyOk { x with code := mAckWb } = true →
    s.mach.txnOf x.line = some tx → tx.phase = .col → tx.await.contains (.peer x.src) = true → tx.lost ≠ 1 → tx.lost ≠ 2 → tx.wbTaken.contains x.src = true →
    Completes (.ackWb x) s (lineFields ++ [.DIR_PROTO_ERR, .DIR_LOST_POISONED])
      [.pages, .out, .freeCtr, .lines, .dir, .host, .bkw, .lhl, .arc, .bql, .snd, .fry] fun t =>
      t = (collect x.line (.peer x.src) (fun e => e.remove (.peer x.src)) tx).run s.mach) ∧
  (∀ (s : State) (x : Msg) (tx : Txn), s.mach.hears x.src → bodyOk { x with code := mAckWb } = true →
    s.mach.txnOf x.line = some tx → tx.phase = .col → tx.await.contains (.peer x.src) = true → tx.lost ≠ 1 → tx.lost ≠ 2 → tx.wbTaken.contains x.src = false →
    Completes (.ackWb x) s [] [.lines] fun t =>
      t.txnOf x.line = some { tx with ackEarly := x.src :: tx.ackEarly.filter (· != x.src) })

/-- R182, R184, R185, R187 to R189, R193: grants, write-backs and evictions. -/
def Obligations.GrantsAndWriteBacks : Prop :=
  (∀ (s : State) (x : Msg) (k : Nat) (e : VisEnt) (tr : VTrans), s.mach.hears x.src → bodyOk { x with code := mData } = true →
    k = visKey x.home x.line → e = s.mach.vis k → s.mach.remoteOf x = none → x.push = false →
    e.trans = some tr → tr ∈ [VTrans.isD, .imD, .smD, .omD] → e.txid = x.txid →
    Completes (.data x) s (detectFields ++ countFields ++ [.GRN_DROPPED, .DIR_PROTO_ERR, .FRY_ERR, .FRY_M_ERR, .SND_S_HELD, .SND_S_LOST])
      [.out, .freeCtr, .lines, .dir, .host, .bkw, .lhl, .bql, .snd, .fry] fun t =>
      t = (Act.all [setVis k { e with state := x.grant, trans := none, val := msgVal x },
        send x.home { s.mach.visMsg k mGntAck x.txid none false with
          rqs := s.mach.self, agent := x.agent, grant := x.grant, after := 0 },
        visWake k]).run s.mach) ∧
  (∀ (s : State) (x : Msg) (k : Nat) (e : VisEnt) (tr : VTrans), s.mach.hears x.src → bodyOk { x with code := mFwdData } = true →
    k = visKey x.home x.line → e = s.mach.vis k → s.mach.remoteOf x = none → x.push = false →
    e.trans = some tr → tr ∈ [VTrans.isD, .imD, .smD, .omD] → e.txid = x.txid →
    Completes (.fwdData x) s (detectFields ++ countFields ++ [.GRN_DROPPED, .DIR_PROTO_ERR, .FRY_ERR, .FRY_M_ERR, .SND_S_HELD, .SND_S_LOST])
      [.out, .freeCtr, .lines, .dir, .host, .bkw, .lhl, .bql, .snd, .fry] fun t =>
      t = (Act.all [setVis k { e with state := x.grant, trans := none, val := msgVal x },
        send x.home { s.mach.visMsg k mGntAck x.txid none false with
          rqs := s.mach.self, agent := x.agent, grant := x.grant, after := x.after },
        visWake k]).run s.mach) ∧
  (∀ (s : State) (x : Msg) (k : Nat) (e : VisEnt) (tr : VTrans), s.mach.hears x.src → bodyOk { x with code := mCmp } = true →
    k = visKey x.home x.line → e = s.mach.vis k → s.mach.remoteOf x = none → x.push = false →
    e.trans = some tr → tr ∈ [VTrans.isD, .imD, .smD, .omD] → e.txid = x.txid →
    Completes (.cmp x) s (detectFields ++ countFields ++ [.GRN_DROPPED, .DIR_PROTO_ERR, .FRY_ERR, .FRY_M_ERR, .SND_S_HELD, .SND_S_LOST])
      [.out, .freeCtr, .lines, .dir, .host, .bkw, .lhl, .bql, .snd, .fry] fun t =>
      t = (Act.all [setVis k { e with state := x.grant, trans := none, val := e.val },
        send x.home { s.mach.visMsg k mGntAck x.txid none false with
          rqs := s.mach.self, agent := x.agent, grant := x.grant, after := 0 },
        visWake k]).run s.mach) ∧
  (∀ (s : State) (x : Msg) (k : Nat) (e : VisEnt) (tr : VTrans), s.mach.hears x.src → bodyOk { x with code := mCmpErr } = true →
    k = visKey x.home x.line → e = s.mach.vis k → s.mach.remoteOf x = none →
    e.trans = some tr → tr ∈ [VTrans.isD, .imD, .smD, .omD] →
    Completes (.cmpErr x) s (detectFields ++ countFields ++ [.DIR_PROTO_ERR, .FRY_ERR, .FRY_M_ERR, .SND_S_HELD, .SND_S_LOST])
      [.out, .freeCtr, .lines, .dir, .host, .bkw, .lhl, .bql, .snd, .fry] fun t =>
      t = (Act.seq (setVis k { e with trans := none, state := if tr = .smD then 1 else if tr = .omD then 4 else 0 })
        (visFail k)).run s.mach) ∧
  (∀ (s : State) (x : Msg) (tx : Txn), s.mach.hears x.src → bodyOk { x with code := mGntAck } = true →
    s.mach.txnOf x.line = some tx → tx.phase = .gnt →
    Completes (.gntAck x) s (lineFields ++ [.DIR_PROTO_ERR])
      [.pages, .out, .freeCtr, .lines, .dir, .host, .bkw, .lhl, .arc, .bql, .snd, .fry] fun t => t = (Act.seq (closeTxn x.line) (wake x.line)).run s.mach) ∧
  (∀ (s : State) (x : Msg) (e : DirEnt), s.mach.hears x.src → bodyOk { x with code := mClnEvict } = true →
    s.mach.txnOf x.line = none → s.mach.dirEnt x.line = some e →
    Completes (.clnEvict x) s (lineFields ++ [.DIR_PROTO_ERR])
      [.pages, .out, .freeCtr, .lines, .dir, .host, .bkw, .lhl, .arc, .bql, .snd, .fry] fun t =>
      t = (Act.all [setDir x.line (some (e.remove (.peer x.src))), dirStats x.line, wake x.line]).run s.mach) ∧
  (∀ (s : State) (x : Msg) (k : Nat) (e : VisEnt) (r : Req) (rest : List Req), s.mach.hears x.src →
    bodyOk { x with code := mWbAck } = true → k = visKey x.home x.line → e = s.mach.vis k → e.keepReqs = r :: rest →
    Completes (.wbAck x) s (detectFields ++ countFields ++ [.GRN_DROPPED, .DIR_PROTO_ERR, .FRY_ERR, .FRY_M_ERR, .SND_S_HELD, .SND_S_LOST])
      [.out, .freeCtr, .lines, .dir, .host, .bkw, .lhl, .bql, .snd, .fry] fun t =>
      t = (Act.all [setVis k { e with keepReqs := rest, keeps := rest.length }, answer { r with tier := 6 } (some 0) 0,
        visWake k]).run s.mach) ∧
  (∀ (s : State) (x : Msg) (k : Nat) (e : VisEnt), s.mach.hears x.src → bodyOk { x with code := mWbAck } = true →
    k = visKey x.home x.line → e = s.mach.vis k → e.keepReqs = [] → e.trans = some .miA → e.waits = [] →
    Completes (.wbAck x) s [] [.dir] fun t => (t.vis k).state = 0 ∧ (t.vis k).trans = none) ∧
  (∀ (s : State) (x : Msg) (tx : Txn), s.mach.hears x.src → bodyOk { x with code := mFwdFail } = true →
    s.mach.txnOf x.line = some tx → tx.phase = .fwd → tx.owner = x.src →
    Completes (.fwdFail x) s [.DIR_FWD_FAILS] [.out, .lines, .bql] fun t =>
      t.get .DIR_FWD_FAILS (s.mach.homeOfLine x.line) = (s.mach.get .DIR_FWD_FAILS (s.mach.homeOfLine x.line) + 1) % 2 ^ 48 ∧
      t.txnOf x.line = some { tx with phase := .col, await := [.peer x.src] }) ∧
  (∀ (s : State) (x : Msg) (n : Nat) (e : DirEnt), s.mach.hears x.src → bodyOk { x with code := mWb } = true →
    s.mach.atollOf (pageOfLine x.line) = some n → s.mach.dirEnt x.line = some e → s.mach.txnOf x.line = none →
    Completes (.wb x) s (lineFields ++ [.DIR_PROTO_ERR])
      [.pages, .out, .freeCtr, .lines, .dir, .host, .bkw, .lhl, .arc, .bql, .snd, .fry] fun t =>
      t = (Act.all [place n x.line (msgVal x) true fullMask (64 + ((s.mach.linkTo x.src).getD 0) / 8),
        mirrorLine n x.line (msgVal x) fullMask, setDir x.line (some (e.remove (.peer x.src))),
        send x.src { s.mach.mkMsg mWbAck x.txid s.mach.self x.line with rqs := x.rqs, agent := x.agent },
        dirStats x.line]).run s.mach) ∧
  (∀ (s : State) (x : Msg) (n : Nat), s.mach.hears x.src → bodyOk { x with code := mWbKeep } = true →
    s.mach.atollOf (pageOfLine x.line) = some n → s.mach.txnOf x.line = none →
    Completes (.wbKeep x) s (lineFields ++ [.DIR_PROTO_ERR])
      [.pages, .out, .freeCtr, .lines, .dir, .host, .bkw, .lhl, .arc, .bql, .snd, .fry] fun t =>
      t = (Act.all [toWb x.line (msgVal x) (64 + ((s.mach.linkTo x.src).getD 0) / 8), mirrorLine n x.line (msgVal x) fullMask,
        send x.src { s.mach.mkMsg mWbAck x.txid s.mach.self x.line with rqs := x.rqs, agent := x.agent }]).run s.mach) ∧
  (∀ (s : State) (x : Msg) (n : Nat) (tx : Txn), s.mach.hears x.src → bodyOk { x with code := mSnpData } = true →
    s.mach.atollOf (pageOfLine x.line) = some n → s.mach.txnOf x.line = some tx → tx.phase = .col →
    tx.await.contains (.peer x.src) = true → tx.lost = 0 → x.after ≠ 2 →
    Completes (.snpData x) s (lineFields ++ [.DIR_PROTO_ERR])
      [.pages, .out, .freeCtr, .lines, .dir, .host, .bkw, .lhl, .arc, .bql, .snd, .fry] fun t =>
      t = (Act.all [place n x.line (msgVal x) true fullMask (64 + ((s.mach.linkTo x.src).getD 0) / 8),
        mirrorLine n x.line (msgVal x) fullMask,
        collect x.line (.peer x.src) (fun e => if x.after = 0 then e.remove (.peer x.src) else { e with state := 1 })
          tx]).run s.mach) ∧
  (∀ (s : State) (home line k : Nat) (e : VisEnt), k = visKey home line → e = s.mach.vis k → e.trans = none → e.await = [] →
    e.heads = [] → home < 8 → line < 2 ^ 39 → e.state = 1 ∨ e.state = 2 →
    Completes (.visitorEviction home line) s [] [.out, .lines, .dir, .bql] fun t =>
      (t.vis k).state = 0 ∧ (t.vis k).trans = none ∧
      t.out = s.mach.out ++ [.msg home (s.mach.visMsg k mClnEvict (s.mach.newId + 1) none false)]) ∧
  (∀ (s : State) (home line k : Nat) (e : VisEnt), k = visKey home line → e = s.mach.vis k → e.trans = none → e.await = [] →
    e.heads = [] → home < 8 → line < 2 ^ 39 → 2 < e.state →
    Completes (.visitorEviction home line) s [] [.out, .lines, .dir, .bql] fun t =>
      (t.vis k).state = 0 ∧ (t.vis k).trans = some .miA ∧
      t.out = s.mach.out ++ [.msg home (s.mach.visMsg k mWb (s.mach.newId + 1) e.val true)])

/-- R177, R190 to R192: heads' answers to back-invalidate snoops. -/
def Obligations.HeadAnswers : Prop :=
  (∀ (s : State) (h line : Nat), h < 24 → s.mach.dir.bisnps.find? (fun b => b.1 == h && b.2.2.1 == line) = none →
    Completes (.birspi h line) s (detectFields ++ [.DIR_PROTO_ERR]) [.out, .host, .bkw, .lhl, .lines] fun t =>
      t.get .DIR_PROTO_ERR = (s.mach.get .DIR_PROTO_ERR + 1) % 2 ^ 32) ∧
  (∀ (s : State) (h line : Nat), h < 24 → s.mach.dir.bisnps.find? (fun b => b.1 == h && b.2.2.1 == line) = none →
    Completes (.birsps h line) s (detectFields ++ [.DIR_PROTO_ERR]) [.out, .host, .bkw, .lhl, .lines] fun t =>
      t.get .DIR_PROTO_ERR = (s.mach.get .DIR_PROTO_ERR + 1) % 2 ^ 32) ∧
  (∀ (s : State) (h line : Nat), h < 24 → s.mach.dir.bisnps.find? (fun b => b.1 == h && b.2.2.1 == line) = none →
    Completes (.birspe h line) s (detectFields ++ [.DIR_PROTO_ERR]) [.out, .host, .bkw, .lhl, .lines] fun t =>
      t.get .DIR_PROTO_ERR = (s.mach.get .DIR_PROTO_ERR + 1) % 2 ^ 32) ∧
  (∀ (s : State) (h line : Nat) (b : Nat × Nat × Nat × Nat), h < 24 → s.mach.dir.bisnps.find? (fun b => b.1 == h && b.2.2.1 == line) = some b → b.2.2.2 ≠ 2 →
    Completes (.birspe h line) s (detectFields ++ [.DIR_PROTO_ERR]) [.out, .host, .bkw, .lhl, .lines] fun t =>
      t.get .DIR_PROTO_ERR = (s.mach.get .DIR_PROTO_ERR + 1) % 2 ^ 32) ∧
  (∀ (s : State) (h line : Nat) (b : Nat × Nat × Nat × Nat), s.mach.dir.bisnps.find? (fun b => b.1 == h && b.2.2.1 == line) = some b → 
    (s.mach.dir.bisnps.erase b).any (fun b => b.1 == h && b.2.2.1 == line) = true → s.mach.txnOf line = none →
    Completes (.birspi h line) s [] [.dir] fun t => t.dir = { s.mach.dir with bisnps := s.mach.dir.bisnps.erase b }) ∧
  (∀ (s : State) (h line : Nat) (b : Nat × Nat × Nat × Nat) (e : DirEnt), line < 2 ^ 39 → s.mach.dir.bisnps.find? (fun b => b.1 == h && b.2.2.1 == line) = some b → 
    (s.mach.dir.bisnps.erase b).any (fun b => b.1 == h && b.2.2.1 == line) = false → s.mach.txnOf line = none →
    s.mach.dirEnt line = some e →
    Completes (.birspi h line) s [.DIR_VALID, .DIR_COARSE, .DIR_OPEN, .DIR_SETQ, .DIR_LINEQ] [.dir] fun t =>
      t = (Act.all [clearBisnp h line, setDir line (some (e.remove (.head h))), dirStats line]).run s.mach) ∧
  (∀ (s : State) (h line best : Nat) (b : Nat × Nat × Nat × Nat) (tx : Txn), line < 2 ^ 39 → s.mach.dir.bisnps.find? (fun b => b.1 == h && b.2.2.1 == line) = some b → 
    (s.mach.dir.bisnps.erase b).any (fun b => b.1 == h && b.2.2.1 == line) = false → s.mach.txnOf line = some tx →
    best = max 0 (((tx.strong.find? fun p => p.1 == h).map (·.2)).getD 0) →
    Completes (.birspi h line) s (lineFields ++ [.DIR_PROTO_ERR])
      [.pages, .out, .freeCtr, .lines, .dir, .host, .bkw, .lhl, .arc, .bql, .snd, .fry] fun t =>
      t = (Act.all [clearBisnp h line, openTxn { tx with strong := (h, best) :: tx.strong.filter fun p => p.1 != h },
        openTxn { tx with strong := tx.strong.filter fun p => p.1 != h }, headAnswered h line best]).run s.mach) ∧
  (∀ (s : State) (h line : Nat) (b : Nat × Nat × Nat × Nat), s.mach.dir.bisnps.find? (fun b => b.1 == h && b.2.2.1 == line) = some b → 
    (s.mach.dir.bisnps.erase b).any (fun b => b.1 == h && b.2.2.1 == line) = true → s.mach.txnOf line = none →
    Completes (.birsps h line) s [] [.dir] fun t => t.dir = { s.mach.dir with bisnps := s.mach.dir.bisnps.erase b }) ∧
  (∀ (s : State) (h line : Nat) (b : Nat × Nat × Nat × Nat) (e : DirEnt), line < 2 ^ 39 → s.mach.dir.bisnps.find? (fun b => b.1 == h && b.2.2.1 == line) = some b → 
    (s.mach.dir.bisnps.erase b).any (fun b => b.1 == h && b.2.2.1 == line) = false → s.mach.txnOf line = none →
    s.mach.dirEnt line = some e →
    Completes (.birsps h line) s [.DIR_VALID, .DIR_COARSE, .DIR_OPEN, .DIR_SETQ, .DIR_LINEQ] [.dir] fun t =>
      t = (Act.all [clearBisnp h line, setDir line (some ({ e with state := 1 })), dirStats line]).run s.mach) ∧
  (∀ (s : State) (h line best : Nat) (b : Nat × Nat × Nat × Nat) (tx : Txn), line < 2 ^ 39 → s.mach.dir.bisnps.find? (fun b => b.1 == h && b.2.2.1 == line) = some b → 
    (s.mach.dir.bisnps.erase b).any (fun b => b.1 == h && b.2.2.1 == line) = false → s.mach.txnOf line = some tx →
    best = max 1 (((tx.strong.find? fun p => p.1 == h).map (·.2)).getD 0) →
    Completes (.birsps h line) s (lineFields ++ [.DIR_PROTO_ERR])
      [.pages, .out, .freeCtr, .lines, .dir, .host, .bkw, .lhl, .arc, .bql, .snd, .fry] fun t =>
      t = (Act.all [clearBisnp h line, openTxn { tx with strong := (h, best) :: tx.strong.filter fun p => p.1 != h },
        openTxn { tx with strong := tx.strong.filter fun p => p.1 != h }, headAnswered h line best]).run s.mach) ∧
  (∀ (s : State) (h line : Nat) (b : Nat × Nat × Nat × Nat), s.mach.dir.bisnps.find? (fun b => b.1 == h && b.2.2.1 == line) = some b → b.2.2.2 = 2 →
    (s.mach.dir.bisnps.erase b).any (fun b => b.1 == h && b.2.2.1 == line) = true → s.mach.txnOf line = none →
    Completes (.birspe h line) s [] [.dir] fun t => t.dir = { s.mach.dir with bisnps := s.mach.dir.bisnps.erase b }) ∧
  (∀ (s : State) (h line : Nat) (b : Nat × Nat × Nat × Nat) (e : DirEnt), line < 2 ^ 39 → s.mach.dir.bisnps.find? (fun b => b.1 == h && b.2.2.1 == line) = some b → b.2.2.2 = 2 →
    (s.mach.dir.bisnps.erase b).any (fun b => b.1 == h && b.2.2.1 == line) = false → s.mach.txnOf line = none →
    s.mach.dirEnt line = some e →
    Completes (.birspe h line) s [.DIR_VALID, .DIR_COARSE, .DIR_OPEN, .DIR_SETQ, .DIR_LINEQ] [.dir] fun t =>
      t = (Act.all [clearBisnp h line, setDir line (some (e)), dirStats line]).run s.mach) ∧
  (∀ (s : State) (h line best : Nat) (b : Nat × Nat × Nat × Nat) (tx : Txn), line < 2 ^ 39 → s.mach.dir.bisnps.find? (fun b => b.1 == h && b.2.2.1 == line) = some b → b.2.2.2 = 2 →
    (s.mach.dir.bisnps.erase b).any (fun b => b.1 == h && b.2.2.1 == line) = false → s.mach.txnOf line = some tx →
    best = max 2 (((tx.strong.find? fun p => p.1 == h).map (·.2)).getD 0) →
    Completes (.birspe h line) s (lineFields ++ [.DIR_PROTO_ERR])
      [.pages, .out, .freeCtr, .lines, .dir, .host, .bkw, .lhl, .arc, .bql, .snd, .fry] fun t =>
      t = (Act.all [clearBisnp h line, openTxn { tx with strong := (h, best) :: tx.strong.filter fun p => p.1 != h },
        openTxn { tx with strong := tx.strong.filter fun p => p.1 != h }, headAnswered h line best]).run s.mach) ∧
  (∀ (s : State) (h line : Nat) (b : Nat × Nat × Nat × Nat), 2 ^ 39 ≤ line → s.mach.dir.bisnps.find? (fun b => b.1 == h && b.2.2.1 == line) = some b → 
    (s.mach.dir.bisnps.erase b).any (fun b => b.1 == h && b.2.2.1 == line) = false → s.mach.txnOf line = none →
    Completes (.birspi h line) s (lineFields ++ [.DIR_PROTO_ERR])
      [.pages, .out, .freeCtr, .lines, .dir, .host, .bkw, .lhl, .arc, .bql, .snd, .fry] fun t =>
      t = (Act.seq (clearBisnp h line) (visHeadAnswered h line 0)).run s.mach) ∧
  (∀ (s : State) (h line : Nat) (b : Nat × Nat × Nat × Nat), 2 ^ 39 ≤ line → s.mach.dir.bisnps.find? (fun b => b.1 == h && b.2.2.1 == line) = some b → 
    (s.mach.dir.bisnps.erase b).any (fun b => b.1 == h && b.2.2.1 == line) = false → s.mach.txnOf line = none →
    Completes (.birsps h line) s (lineFields ++ [.DIR_PROTO_ERR])
      [.pages, .out, .freeCtr, .lines, .dir, .host, .bkw, .lhl, .arc, .bql, .snd, .fry] fun t =>
      t = (Act.seq (clearBisnp h line) (visHeadAnswered h line 1)).run s.mach) ∧
  (∀ (s : State) (h line : Nat) (b : Nat × Nat × Nat × Nat), 2 ^ 39 ≤ line → s.mach.dir.bisnps.find? (fun b => b.1 == h && b.2.2.1 == line) = some b → b.2.2.2 = 2 →
    (s.mach.dir.bisnps.erase b).any (fun b => b.1 == h && b.2.2.1 == line) = false → s.mach.txnOf line = none →
    Completes (.birspe h line) s (lineFields ++ [.DIR_PROTO_ERR])
      [.pages, .out, .freeCtr, .lines, .dir, .host, .bkw, .lhl, .arc, .bql, .snd, .fry] fun t =>
      t = (Act.seq (clearBisnp h line) (visHeadAnswered h line 2)).run s.mach) ∧
  (∀ (s : State) (h line : Nat), Completes (.biconflict h line) s [.DIR_BICONFLICT] [.out] fun t =>
    t.get .DIR_BICONFLICT = (s.mach.get .DIR_BICONFLICT + 1) % 2 ^ 48 ∧ t.out = s.mach.out ++ [.biConflictAck h line]) ∧
  (∀ (s : State) (h : Nat), s.mach.dir.bisnps.any (fun b => b.1 == h) = true →
    Completes (.bisnpTimeout h) s stopFields [.dram, .pages, .out, .freeCtr, .lines, .dir, .host, .bkw, .lhl, .arc, .bql, .snd,
        .que, .fry, .rgl] fun t => t = (detect (srcId 0x02 h 4) 0 0).run s.mach) ∧
  (∀ (s : State) (h : Nat), s.mach.dir.bisnps.any (fun b => b.1 == h) = false →
    Completes (.bisnpTimeout h) s [] [] fun t => t = s.mach)

/-- R202, R208, R209, R213, R430: writes of the HBR block. -/
def Obligations.HostPortWrites : Prop :=
  (∀ (s : State) (g v : Nat), g < s.mach.sled.groups → s.mach.bifurHeld g = false → v < 3 →
    Completes (.hbrGrpBifurWrite g v) s [.HBR_GRP_BIFUR, .HBR_WR_REFUSED] [] fun t =>
      t.get .HBR_GRP_BIFUR g = v ∧ t.get .HBR_WR_REFUSED = 0 ∧ Mach.Others .HBR_GRP_BIFUR g s.mach t) ∧
  (∀ (s : State) (g v : Nat), g < s.mach.sled.groups → s.mach.bifurHeld g = true ∨ 3 ≤ v →
    Completes (.hbrGrpBifurWrite g v) s [.HBR_WR_REFUSED] [] fun t => t.get .HBR_WR_REFUSED = 1) ∧
  (∀ (s : State) (g : Nat), g < s.mach.sled.groups →
    Completes (.hbrGrpEnWrite g true) s [.HBR_GRP_EN, .HBR_GRP_POWERED, .HBR_GRP_COMMON, .HBR_WR_REFUSED] [.host] fun t =>
      t.get .HBR_GRP_EN g = 1 ∧ t.get .HBR_GRP_POWERED g = 1 ∧ t.get .HBR_WR_REFUSED = 0 ∧
      t.host = (if s.mach.get .HBR_GRP_EN g = 1 then s.mach.host
        else { s.mach.host with bifur := s.mach.host.bifur.set g 0 (s.mach.get .HBR_GRP_BIFUR g) }) ∧
      t.get .HBR_GRP_COMMON g = t.commonUnits g % 2 ^ 6 ∧ Mach.Others .HBR_GRP_EN g s.mach t ∧
      Mach.Others .HBR_GRP_POWERED g s.mach t ∧ Mach.Others .HBR_GRP_COMMON g s.mach t) ∧
  (∀ (s : State) (g : Nat), g < s.mach.sled.groups →
    Completes (.hbrGrpEnWrite g false) s (headGoneFields ++ [.HBR_WR_REFUSED, .HBR_GRP_EN, .HBR_GRP_POWERED])
      [.dram, .pages, .out, .freeCtr, .lines, .dir, .host, .bkw, .lhl, .arc, .bql, .snd, .que, .fry] fun t =>
      t.get .HBR_GRP_EN g = 0 ∧ t.get .HBR_GRP_POWERED g = 0 ∧ t.get .HBR_WR_REFUSED = 0 ∧
      ∀ h, h ∈ s.mach.groupHeads g → t.get .HBR_HEAD_WIDTH h = 0) ∧
  (∀ (s : State) (n : Nat) (valid : Bool) (head ldid : Nat), n < s.mach.sled.lds → s.mach.ldRefused n valid head ldid = true →
    Completes (.hbrLdWrite n valid head ldid) s [.HBR_WR_REFUSED] [] fun t => t.get .HBR_WR_REFUSED = 1) ∧
  (∀ (s : State) (n : Nat) (valid : Bool) (head ldid : Nat), n < s.mach.sled.lds → s.mach.ldRefused n valid head ldid = false →
    valid = true ∨ s.mach.get .HBR_LD_VALID n = 0 →
    Completes (.hbrLdWrite n valid head ldid) s [.HBR_LD_VALID, .HBR_LD_HEAD, .HBR_LD_ID, .HBR_WR_REFUSED] [] fun t =>
      t.get .HBR_LD_VALID n = Bits.ofBool valid ∧ t.get .HBR_LD_HEAD n = head ∧ t.get .HBR_LD_ID n = ldid ∧
      t.get .HBR_WR_REFUSED = 0 ∧ Mach.Others .HBR_LD_VALID n s.mach t ∧ Mach.Others .HBR_LD_HEAD n s.mach t ∧
      Mach.Others .HBR_LD_ID n s.mach t) ∧
  (∀ (s : State) (n : Nat) (head ldid : Nat), n < s.mach.sled.lds → s.mach.ldRefused n false head ldid = false →
    s.mach.get .HBR_LD_VALID n = 1 →
    Completes (.hbrLdWrite n false head ldid) s [.HBR_LD_VALID, .HBR_LD_HEAD, .HBR_LD_ID, .HBR_WR_REFUSED, .FRY_CURSOR, .FRY_PLACE,
        .FRY_PEER, .FRY_ERR, .FRY_WR_BYTES, .FRY_RD_BYTES, .FRY_REJECTS] [.fry] fun t =>
      t.get .HBR_LD_VALID n = 0 ∧ t.get .HBR_LD_HEAD n = head ∧ t.get .HBR_LD_ID n = ldid ∧
      t.get .HBR_WR_REFUSED = 0 ∧ t.get .FRY_CURSOR n = 0 ∧ Mach.Others .HBR_LD_VALID n s.mach t) ∧
  (∀ (s : State) (h : Nat), s.mach.locked .HBR_MGMT_HEAD 0 h = true ∨ s.mach.mgmtHeadBad h = true →
    Completes (.hbrMgmtHeadWrite h) s [.HBR_WR_REFUSED] [] fun t => t.get .HBR_WR_REFUSED = 1) ∧
  (∀ (s : State) (h : Nat), s.mach.locked .HBR_MGMT_HEAD 0 h = false → s.mach.mgmtHeadBad h = false →
    Completes (.hbrMgmtHeadWrite h) s [.HBR_MGMT_HEAD, .HBR_WR_REFUSED] [] fun t =>
      t.get .HBR_MGMT_HEAD = h % 2 ^ 6 ∧ t.get .HBR_WR_REFUSED = 0) ∧
  (∀ (s : State) (h v : Nat), h < s.mach.sled.heads → v < 64 → 32 < s.mach.reserveSum h v →
    Completes (.hbrHeadResvWrite h v) s [.HBR_WR_REFUSED] [] fun t => t.get .HBR_WR_REFUSED = 1) ∧
  (∀ (s : State) (h v : Nat), h < s.mach.sled.heads → v < 64 → s.mach.reserveSum h v ≤ 32 →
    Completes (.hbrHeadResvWrite h v) s [.HBR_HEAD_RESV, .HBR_GRP_COMMON, .HBR_WR_REFUSED] [] fun t =>
      t.get .HBR_HEAD_RESV h = v ∧ t.get .HBR_WR_REFUSED = 0 ∧ t.get .HBR_GRP_COMMON (h / 4) = t.commonUnits (h / 4) % 2 ^ 6 ∧
      Mach.Others .HBR_HEAD_RESV h s.mach t ∧ Mach.Others .HBR_GRP_COMMON (h / 4) s.mach t)

/-- R168, R205 to R207, R218, R219, R226: links, resets and streams. -/
def Obligations.LinksAndResets : Prop :=
  (∀ (s : State) (h width rate flit fl : Nat), fl = (if s.mach.get .HBR_HEAD_WIDTH h = 0 then flit else s.mach.get .HBR_HEAD_FLIT h) →
    s.mach.mayEnter h width rate fl = true →
    Completes (.headEnterL0 h width rate flit) s (detectFields ++ [.HBR_HEAD_WIDTH, .HBR_HEAD_RATE, .HBR_HEAD_FLIT, .HBR_HEAD_L0P,
        .HBR_HEAD_LTSSM, .HBR_HEAD_LDS]) [.out, .lines, .host, .bkw, .lhl] fun t =>
      t.get .HBR_HEAD_WIDTH h = width ∧ t.get .HBR_HEAD_RATE h = rate ∧ t.get .HBR_HEAD_FLIT h = fl ∧
      t.get .HBR_HEAD_L0P h = width ∧ t.get .HBR_HEAD_LTSSM h = ltL0 ∧ Mach.Others .HBR_HEAD_WIDTH h s.mach t ∧
      Mach.Others .HBR_HEAD_LDS h s.mach t ∧
      (s.mach.get .HBR_HEAD_WIDTH h ≠ 0 → t.get .HBR_HEAD_LDS h = s.mach.get .HBR_HEAD_LDS h) ∧
      (s.mach.get .HBR_HEAD_WIDTH h = 0 → t.get .HBR_HEAD_LDS h =
        ((if fl = 0 then 0 else (s.mach.headLds h).length) + (if s.mach.get .HBR_MGMT_HEAD = h then 1 else 0)) % 2 ^ 5)) ∧
  (∀ (s : State) (h : Nat) (c : RetrainCause), s.mach.get .HBR_HEAD_WIDTH h ≠ 0 → (∀ n, c ≠ .l0p n ∧ c ≠ .sledL0p n) →
    Completes (.headRetrain h c) s [.HBR_HEAD_LTSSM, .HBR_HEAD_RETRAINS] [] fun t =>
      t.get .HBR_HEAD_RETRAINS h = (s.mach.get .HBR_HEAD_RETRAINS h + 1) % 2 ^ 32 ∧ t.get .HBR_HEAD_LTSSM h = ltRecovery ∧
      Mach.Others .HBR_HEAD_RETRAINS h s.mach t ∧ Mach.Others .HBR_HEAD_LTSSM h s.mach t) ∧
  (∀ (s : State) (h n : Nat) (c : RetrainCause), 1 ≤ n → n ≤ s.mach.get .HBR_HEAD_WIDTH h →
    c = .l0p n ∨ (c = .sledL0p n ∧ s.mach.get .HBR_HEAD_L0P_AUTO h = 1) →
    Completes (.headRetrain h c) s [.HBR_HEAD_L0P] [] fun t =>
      t.get .HBR_HEAD_L0P h = n % 2 ^ 5 ∧ Mach.Others .HBR_HEAD_L0P h s.mach t) ∧
  (∀ (s : State) (h n : Nat), s.mach.get .HBR_HEAD_L0P_AUTO h = 0 →
    Completes (.headRetrain h (.sledL0p n)) s [] [] fun t => t = s.mach) ∧
  (∀ (s : State) (h : Nat), s.mach.get .HBR_HEAD_WIDTH h ≠ 0 →
    Completes (.linkDown h) s headGoneFields
      [.dram, .pages, .out, .freeCtr, .lines, .dir, .host, .bkw, .lhl, .arc, .bql, .snd, .que, .fry] fun t =>
      t.get .HBR_HEAD_WIDTH h = 0 ∧ t.get .HBR_HEAD_RATE h = 0 ∧ t.get .HBR_HEAD_IDE h = 0 ∧ t.get .HBR_HEAD_L0P h = 0 ∧
      t.get .HBR_HEAD_LDS h = 0 ∧ t.get .HBR_HEAD_OCCUPANCY h = 0 ∧ t.host.ide.find? h = none ∧
      Mach.Others .HBR_HEAD_WIDTH h s.mach t ∧ Mach.Others .HBR_HEAD_LDS h s.mach t) ∧
  (∀ (s : State) (h : Nat), s.mach.get .HBR_HEAD_WIDTH h = 0 → Completes (.linkDown h) s [] [] fun t => t = s.mach) ∧
  (∀ (s : State) (ld : Nat) (i : Instr), i = .flr ld → s.mach.ldUp ld false = true →
    Completes (.flr ld) s (lineFields ++ [.DIR_PROTO_ERR, .DIR_LOST_POISONED, .QP_EN, .QP_STATE, .FRY_CURSOR, .FRY_PLACE,
        .FRY_PEER, .FRY_WR_BYTES, .FRY_RD_BYTES, .FRY_REJECTS])
      [.dram, .pages, .out, .freeCtr, .lines, .dir, .host, .bkw, .lhl, .arc, .bql, .snd, .que, .fry] fun t =>
      t.get .FRY_CURSOR ld = 0 ∧ t.get .FRY_PLACE ld = 0 ∧ t.get .FRY_PEER ld = 0 ∧ t.get .FRY_WR_BYTES ld = 0 ∧
      t.get .FRY_RD_BYTES ld = 0 ∧ t.get .FRY_REJECTS ld = 0 ∧ t.fry.ranges.find? ld = none ∧
      ∀ v, (ld, v) ∉ t.host.msixMasked) ∧
  (∀ (s : State) (ld : Nat), s.mach.ldUp ld false = true →
    Completes (.cxlReset ld) s (lineFields ++ [.DIR_PROTO_ERR, .DIR_LOST_POISONED, .QP_EN, .QP_STATE, .FRY_CURSOR, .FRY_PLACE,
        .FRY_PEER, .FRY_WR_BYTES, .FRY_RD_BYTES, .FRY_REJECTS])
      [.dram, .pages, .out, .freeCtr, .lines, .dir, .host, .bkw, .lhl, .arc, .bql, .snd, .que, .fry] fun t =>
      exec (.flr ld) s = .next { s with mach := t }) ∧
  (∀ (s : State), Completes .mgmtLinkDown s [.QP_EN, .QP_STATE] [.dir, .host, .que] fun t =>
      (∀ v, (ownMgmt, v) ∉ t.host.msixMasked ∧ (ownMgmt, v) ∉ t.host.msixPending) ∧
      ∀ q, s.mach.get .QP_OWNER q ≠ ownMgmt → t.get .QP_STATE q = s.mach.get .QP_STATE q) ∧
  (∀ (s : State) (owner vec : Nat), Completes (.msixVectorUnmask owner vec) s [] [.out, .host] fun t =>
      (owner, vec) ∉ t.host.msixMasked ∧
      (∀ p, p ≠ (owner, vec) → (p ∈ t.host.msixMasked ↔ p ∈ s.mach.host.msixMasked)) ∧
      ((owner, vec) ∉ s.mach.host.msixPending → t.out = s.mach.out)) ∧
  (∀ (s : State) (owner : Nat), Completes (.busMasterEnableClear owner) s [.QP_STATE, .QP_ERR] [.out, .dir, .host, .que] fun t =>
      owner ∈ t.host.bmeOff ∧ ∀ q, s.mach.get .QP_OWNER q ≠ owner →
        t.get .QP_STATE q = s.mach.get .QP_STATE q ∧ t.get .QP_ERR q = s.mach.get .QP_ERR q) ∧
  (∀ (s : State) (h : Nat), s.mach.get .HBR_HEAD_WIDTH h ≠ 0 → Bits.bit (s.mach.ideBits h) 0 = true →
    Completes (.ideKm h (.setGo true)) s [.HBR_HEAD_IDE] [.out, .host] fun t =>
      t.get .HBR_HEAD_IDE h = 1 ∧ t.ideBits h = s.mach.ideBits h ∧ t.out = s.mach.out ++ [.mgmtRsp 3 0x06 [h, 0]] ∧
      Mach.Others .HBR_HEAD_IDE h s.mach t) ∧
  (∀ (s : State) (h : Nat), s.mach.get .HBR_HEAD_WIDTH h ≠ 0 → Bits.bit (s.mach.ideBits h) 0 = false →
    Completes (.ideKm h (.setGo true)) s [] [.out] fun t => t.out = s.mach.out ++ [.mgmtRsp 3 0x06 [h, 4]]) ∧
  (∀ (s : State) (h : Nat), s.mach.get .HBR_HEAD_WIDTH h ≠ 0 →
    Completes (.ideKm h (.setStop true)) s [.HBR_HEAD_IDE] [.out, .host] fun t =>
      t.get .HBR_HEAD_IDE h = 0 ∧ t.out = s.mach.out ++ [.mgmtRsp 3 0x06 [h, 0]] ∧ Mach.Others .HBR_HEAD_IDE h s.mach t) ∧
  (∀ (s : State) (h : Nat) (k : Bool), s.mach.get .HBR_HEAD_WIDTH h ≠ 0 → s.mach.get .HBR_HEAD_FLIT h ≠ 0 → s.mach.get .HBR_HEAD_IDE h < 2 →
    Completes (.ideKm h (.keyProg true k)) s [.HBR_HEAD_IDE] [.out, .host] fun t =>
      t.ideBits h = withBit (withBit (s.mach.ideBits h) 0 true) 1 k ∧ t.get .HBR_HEAD_IDE h = s.mach.get .HBR_HEAD_IDE h ∧
      t.out = s.mach.out ++ [.mgmtRsp 3 0x03 [h, 0]]) ∧
  (∀ (s : State) (h : Nat), s.mach.get .HBR_HEAD_WIDTH h ≠ 0 →
    Completes (.ideKm h .query) s [] [.out] fun t =>
      t.out = s.mach.out ++ [.mgmtRsp 3 0x01 [h, s.mach.headLanes h, s.mach.ideBits h]])

/-- R209, R214, R215, R383, R437: mailbox commands of every kind of mailbox. -/
def Obligations.MailboxGeneral : Prop :=
  (∀ (s : State) (mb : Mbox), s.mach.mbServes mb 0x0001 → 
    Completes (.identify mb) s [] [.out] fun t =>
      Mach.Answered mb 0x0001 rcSuccess [s.mach.get .ID_PCI_VENDOR, s.mach.get .ID_PCI_DEVICE, s.mach.get .ID_IDENT] s.mach t) ∧
  (∀ (s : State) (mb : Mbox) (b : MboxSt), s.mach.mbServes mb 0x0002 → b = s.mach.mbox (mbOwner mb) →
    Completes (.backgroundOperationStatus mb) s [] [.out] fun t =>
      Mach.Answered mb 0x0002 rcSuccess [if b.bgDone then 100 else 0, b.bgOp, b.bgCode] s.mach t) ∧
  (∀ (s : State) (mb : Mbox), s.mach.mbServes mb 0x0003 → 
    Completes (.getResponseMessageLimit mb) s [] [.out] fun t =>
      Mach.Answered mb 0x0003 rcSuccess [20] s.mach t) ∧
  (∀ (s : State) (mb : Mbox), s.mach.mbServes mb 0x0300 → 
    Completes (.getTimestamp mb) s [] [.out] fun t =>
      Mach.Answered mb 0x0300 rcSuccess [s.mach.stamp (mbOwner mb)] s.mach t) ∧
  (∀ (s : State) (mb : Mbox) (t' : Nat), s.mach.mbServes mb 0x0301 → 
    Completes (.setTimestamp mb t') s [] [.out, .host] fun t =>
      Mach.Answered mb 0x0301 rcSuccess [] s.mach t ∧
      t.mbox (mbOwner mb) = { s.mach.mbox (mbOwner mb) with tsSet := t' % 2 ^ 64, tsAt := s.mach.now } ∧
      (∀ o, o ≠ mbOwner mb → t.mbox o = s.mach.mbox o) ∧ t.host.logs = s.mach.host.logs) ∧
  (∀ (s : State) (mb : Mbox) (l : EvLog) (e : EvLogSt), s.mach.mbServes mb 0x0100 → hasLog mb l = true → e = s.mach.evLog (mbOwner mb) l →
    Completes (.getEventRecords mb l) s [] [.out] fun t =>
      Mach.Answered mb 0x0100 rcSuccess ([Bits.ofBool e.overflow, e.lost, e.firstLost, e.lastLost, e.recs.length]
        ++ e.recs.flatMap fun r => [r.handle, r.time, r.kind.code, r.fields.length] ++ r.fields) s.mach t) ∧
  (∀ (s : State) (mb : Mbox) (l : EvLog), s.mach.mbServes mb 0x0100 → hasLog mb l = false →
    Completes (.getEventRecords mb l) s [] [.out] fun t =>
      Mach.Answered mb 0x0100 rcInvalidInput [] s.mach t) ∧
  (∀ (s : State) (mb : Mbox) (l : EvLog) (hs : List Nat), s.mach.mbServes mb 0x0101 → hasLog mb l = true →
    Completes (.clearEventRecords mb l true hs) s [] [.out, .host] fun t =>
      Mach.Answered mb 0x0101 rcSuccess [] s.mach t ∧
      (t.evLog (mbOwner mb) l).recs = [] ∧ ∀ o l', (o ≠ mbOwner mb ∨ l' ≠ l) → t.evLog o l' = s.mach.evLog o l') ∧
  (∀ (s : State) (mb : Mbox) (l : EvLog) (hs : List Nat), s.mach.mbServes mb 0x0101 → hasLog mb l = true →
    (∀ h, h ∈ hs → ∃ r, r ∈ (s.mach.evLog (mbOwner mb) l).recs ∧ r.handle = h) →
    Completes (.clearEventRecords mb l false hs) s [] [.out, .host] fun t =>
      Mach.Answered mb 0x0101 rcSuccess [] s.mach t ∧
      (t.evLog (mbOwner mb) l).recs = (s.mach.evLog (mbOwner mb) l).recs.filter (fun r => !hs.contains r.handle) ∧
      ∀ o l', (o ≠ mbOwner mb ∨ l' ≠ l) → t.evLog o l' = s.mach.evLog o l') ∧
  (∀ (s : State) (mb : Mbox) (l : EvLog) (hs : List Nat) (h : Nat), s.mach.mbServes mb 0x0101 → hasLog mb l = true → h ∈ hs →
    (∀ r, r ∈ (s.mach.evLog (mbOwner mb) l).recs → r.handle ≠ h) →
    Completes (.clearEventRecords mb l false hs) s [] [.out] fun t =>
      Mach.Answered mb 0x0101 rcInvalidHandle [] s.mach t) ∧
  (∀ (s : State) (mb : Mbox) (l : EvLog) (a : Bool) (hs : List Nat), s.mach.mbServes mb 0x0101 → hasLog mb l = false →
    Completes (.clearEventRecords mb l a hs) s [] [.out] fun t =>
      Mach.Answered mb 0x0101 rcInvalidInput [] s.mach t) ∧
  (∀ (s : State) (mb : Mbox), s.mach.mbServes mb 0x0102 → 
    Completes (.getEventInterruptPolicy mb) s [] [.out] fun t =>
      Mach.Answered mb 0x0102 rcSuccess ((List.range (if hasLog mb .dcd then 5 else 4)).map fun i =>
        (s.mach.mbox (mbOwner mb)).policy.getD i 0) s.mach t) ∧
  (∀ (s : State) (mb : Mbox) (pol : List Nat), s.mach.mbServes mb 0x0103 → pol.length ≤ 5 → (∀ p, p ∈ pol → p % 4 ≤ 1) →
    Completes (.setEventInterruptPolicy mb pol) s [] [.out, .host] fun t =>
      Mach.Answered mb 0x0103 rcSuccess [] s.mach t ∧
      t.mbox (mbOwner mb) = { s.mach.mbox (mbOwner mb) with policy := pol.map (· % 256) } ∧
      ∀ o, o ≠ mbOwner mb → t.mbox o = s.mach.mbox o) ∧
  (∀ (s : State) (mb : Mbox) (pol : List Nat), s.mach.mbServes mb 0x0103 → 5 < pol.length ∨ (∃ p, p ∈ pol ∧ 1 < p % 4) →
    Completes (.setEventInterruptPolicy mb pol) s [] [.out] fun t =>
      Mach.Answered mb 0x0103 rcInvalidInput [] s.mach t) ∧
  (∀ (s : State) (mb : Mbox), s.mach.mbServes mb 0x0400 → 
    Completes (.getSupportedLogs mb) s [] [.out] fun t =>
      Mach.Answered mb 0x0400 rcSuccess ([0, 4 * (mbOps mb).length, 1, 4 * (mbOps mb).length] ++
        (if mb = .mgmt then [2, 64 * s.mach.get .LHL_COUNT] else [])) s.mach t) ∧
  (∀ (s : State) (off len : Nat), s.mach.mbServes .mgmt 0x0401 → off % 64 = 0 → len % 64 = 0 → len ≤ 2 ^ 20 →
    Completes (.getLog .mgmt .lighthouse off len) s [] [.out] fun t =>
      Mach.Answered .mgmt 0x0401 rcSuccess ((s.mach.lhBytes off len).map (·.toNat)) s.mach t) ∧
  (∀ (s : State) (off len : Nat), s.mach.mbServes .mgmt 0x0401 → off % 64 ≠ 0 ∨ len % 64 ≠ 0 ∨ 2 ^ 20 < len →
    Completes (.getLog .mgmt .lighthouse off len) s [] [.out] fun t =>
      Mach.Answered .mgmt 0x0401 rcInvalidInput [] s.mach t) ∧
  (∀ (s : State) (mb : Mbox) (off len : Nat), s.mach.mbServes mb 0x0401 → mb ≠ .mgmt → len ≤ 2 ^ 20 →
    Completes (.getLog mb .lighthouse off len) s [] [.out] fun t =>
      Mach.Answered mb 0x0401 rcInvalidLog [] s.mach t) ∧
  (∀ (s : State) (mb : Mbox) (l : LogId) (off len : Nat), s.mach.mbServes mb 0x0401 → l ≠ .lighthouse → l ≠ .other →
    off + len ≤ 4 * (mbOps mb).length → len ≤ 2 ^ 20 →
    Completes (.getLog mb l off len) s [] [.out, .freeCtr] fun t =>
      ∃ pl, pl.length = len ∧ Mach.Answered mb 0x0401 rcSuccess pl s.mach t ∧
        ∀ j, off = 4 * j → 2 ≤ len → pl.take 2 = [(mbOps mb).getD j 0 % 256, (mbOps mb).getD j 0 / 256]) ∧
  (∀ (s : State) (mb : Mbox), s.mach.mbServes mb 0x0500 → 
    Completes (.getSupportedFeatures mb) s [] [.out] fun t =>
      Mach.Answered mb 0x0500 rcSuccess Config.features s.mach t) ∧
  (∀ (s : State) (mb : Mbox) (k : Nat), s.mach.mbServes mb 0x0501 → Config.features.contains k = true →
    Completes (.getFeature mb k) s [] [.out] fun t =>
      Mach.Answered mb 0x0501 rcSuccess [s.mach.feature k] s.mach t) ∧
  (∀ (s : State) (mb : Mbox) (k : Nat), s.mach.mbServes mb 0x0501 → Config.features.contains k = false →
    Completes (.getFeature mb k) s [] [.out] fun t =>
      Mach.Answered mb 0x0501 rcInvalidInput [] s.mach t) ∧
  (∀ (s : State) (k v : Nat), s.mach.mbServes .mgmt 0x0502 → Config.features.contains k = true →
    Completes (.setFeature .mgmt k v) s [] [.out, .host] fun t =>
      Mach.Answered .mgmt 0x0502 rcSuccess [] s.mach t ∧
      t.feature k = v ∧ ∀ j, j ≠ k → t.feature j = s.mach.feature j) ∧
  (∀ (s : State) (n k v : Nat), s.mach.mbServes (.ld n) 0x0502 → 
    Completes (.setFeature (.ld n) k v) s [] [.out] fun t =>
      Mach.Answered (.ld n) 0x0502 rcUnsupported [] s.mach t) ∧
  (∀ (s : State) (mb : Mbox) (op : Nat), s.mach.mbReady mb = true → (mbOps mb).contains op = false →
    Completes (.mailboxUnsupported mb op) s [] [.out] fun t => Mach.Answered mb op rcUnsupported [] s.mach t) ∧
  (∀ (s : State), s.mach.mbReady .fmapi = true →
    Completes (.identify .fmapi) s [] [.out] fun t => Mach.Answered .fmapi 0x0001 rcUnsupported [] s.mach t) ∧
  (∀ (s : State) (mb : Mbox), s.mach.mbReady mb = false → Completes (.identify mb) s [] [] fun t => t = s.mach)

/-- R438 to R441: firmware and the configuration package. -/
def Obligations.FirmwareCommands : Prop :=
  (∀ (s : State), s.mach.mbServes .mgmt 0x0200 → s.mach.fw.loader = false →
    Completes (.getFwInfo .mgmt) s [] [.out] fun t =>
      Mach.Answered .mgmt 0x0200 rcSuccess [3, s.mach.fw.active, 1, (s.mach.fwSlot 1).version,
        (s.mach.fwSlot 2).version, (s.mach.fw.staged.map (·.version)).getD 0] s.mach t) ∧
  (∀ (s : State) (k : Nat) (i : FwImage), s.mach.mbServes .mgmt 0x0201 → s.mach.fw.loader = false →
    k = 1 ∨ k = 2 → k ≠ s.mach.fw.active →
    Completes (.transferFw .mgmt k i) s [] [.out, .fw] fun t =>
      Mach.Answered .mgmt 0x0201 rcSuccess [] s.mach t ∧
      t.fwSlot k = { i with pkg := none } ∧ t.fwSlot (3 - k) = s.mach.fwSlot (3 - k) ∧ t.fw.active = s.mach.fw.active ∧
      t.fw.selector = s.mach.fw.selector ∧ t.fw.staged = s.mach.fw.staged ∧ t.fw.cfg = s.mach.fw.cfg) ∧
  (∀ (s : State) (i : FwImage) (p : ConfigPkg), s.mach.mbServes .mgmt 0x0201 → s.mach.fw.loader = false →
    s.mach.get .SETUP_LOCK ≠ 1 → s.mach.fw.active ≠ 3 → i.pkg = some p → p.bytes ≤ 65536 →
    Completes (.transferFw .mgmt 3 i) s [] [.out, .fw] fun t =>
      Mach.Answered .mgmt 0x0201 rcSuccess [] s.mach t ∧
      t.fw = { s.mach.fw with staged := some i }) ∧
  (∀ (s : State) (i : FwImage), s.mach.mbServes .mgmt 0x0201 → s.mach.fw.loader = false →
    s.mach.get .SETUP_LOCK = 1 →
    Completes (.transferFw .mgmt 3 i) s [] [.out] fun t =>
      Mach.Answered .mgmt 0x0201 rcInvalidSlot [] s.mach t) ∧
  (∀ (s : State) (k : Nat) (i : FwImage), s.mach.mbServes .mgmt 0x0201 → s.mach.fw.loader = false →
    k = s.mach.fw.active ∨ k = 0 ∨ 3 < k →
    Completes (.transferFw .mgmt k i) s [] [.out] fun t =>
      Mach.Answered .mgmt 0x0201 rcInvalidSlot [] s.mach t) ∧
  (∀ (s : State) (k : Nat) (ok : Bool), s.mach.mbServes .mgmt 0x0202 → s.mach.fw.loader = false →
    Completes (.activateFw .mgmt k false ok) s [] [.out] fun t =>
      Mach.Answered .mgmt 0x0202 rcUnsupported [] s.mach t) ∧
  (∀ (s : State) (k : Nat) (ok : Bool), s.mach.mbServes .mgmt 0x0202 → s.mach.fw.loader = false →
    s.mach.activateBusy = true →
    Completes (.activateFw .mgmt k true ok) s [] [.out] fun t =>
      Mach.Answered .mgmt 0x0202 rcBusy [] s.mach t) ∧
  (∀ (s : State) (k : Nat) (ok : Bool), s.mach.mbServes .mgmt 0x0202 → s.mach.fw.loader = false →
    s.mach.activateBusy = false → k = 1 ∨ k = 2 → s.mach.fwAccepts (s.mach.fwSlot k) = false →
    Completes (.activateFw .mgmt k true ok) s [] [.out] fun t =>
      Mach.Answered .mgmt 0x0202 rcFwVerify [] s.mach t) ∧
  (∀ (s : State) (k : Nat), s.mach.mbServes .mgmt 0x0202 → s.mach.fw.loader = false →
    s.mach.activateBusy = false → k = 1 ∨ k = 2 → s.mach.fwAccepts (s.mach.fwSlot k) = true →
    Completes (.activateFw .mgmt k true false) s [] [.out] fun t =>
      Mach.Answered .mgmt 0x0202 rcFwRolledBack [] s.mach t) ∧
  (∀ (s : State) (k : Nat), s.mach.mbServes .mgmt 0x0202 → s.mach.fw.loader = false →
    s.mach.activateBusy = false → k = 1 ∨ k = 2 → s.mach.fwAccepts (s.mach.fwSlot k) = true →
    Completes (.activateFw .mgmt k true true) s [.ID_BOOT_FALLBACK] [.out, .fw] fun t =>
      Mach.Answered .mgmt 0x0202 rcSuccess [] s.mach t ∧
      t.fw = { s.mach.fw with active := k, selector := k - 1, loader := false } ∧ t.get .ID_BOOT_FALLBACK = 0) ∧
  (∀ (s : State) (ok : Bool) (p : ConfigPkg), s.mach.mbServes .mgmt 0x0202 → s.mach.fw.loader = false →
    s.mach.activateBusy = false → s.mach.get .SETUP_LOCK ≠ 1 → s.mach.fw.staged.bind (·.pkg) = some p → p.crcOk = true →
    Completes (.activateFw .mgmt 3 true ok) s [.ID_ROLE_DIGEST, .ID_ROLE_BITS] [.out, .fw] fun t =>
      Mach.Answered .mgmt 0x0202 rcSuccess [] s.mach t ∧
      t.fw = { s.mach.fw with cfg := some p, selector := p.selector % 2 } ∧
      ∀ k, k < 8 → t.get .ID_ROLE_BITS k = (p.roles.getD k (0, 0)).2 % 8 ∧
        t.get .ID_ROLE_DIGEST (2 * k) = (p.roles.getD k (0, 0)).1 % 2 ^ 64 ∧
        t.get .ID_ROLE_DIGEST (2 * k + 1) = (p.roles.getD k (0, 0)).1 / 2 ^ 64 % 2 ^ 64) ∧
  (∀ (s : State) (ok : Bool) (p : ConfigPkg), s.mach.mbServes .mgmt 0x0202 → s.mach.fw.loader = false →
    s.mach.activateBusy = false → s.mach.get .SETUP_LOCK ≠ 1 → s.mach.fw.staged.bind (·.pkg) = some p → p.crcOk = false →
    Completes (.activateFw .mgmt 3 true ok) s [] [.out] fun t =>
      Mach.Answered .mgmt 0x0202 rcFwVerify [] s.mach t) ∧
  (∀ (s : State) (ok : Bool), s.mach.mbServes .mgmt 0x0202 → s.mach.fw.loader = false →
    s.mach.activateBusy = false → s.mach.get .SETUP_LOCK = 1 ∨ s.mach.fw.staged.bind (·.pkg) = none →
    Completes (.activateFw .mgmt 3 true ok) s [] [.out] fun t =>
      Mach.Answered .mgmt 0x0202 rcInvalidSlot [] s.mach t) ∧
  (∀ (s : State) (k : Nat), s.mach.fw.loader = true → s.mach.mbReady .mgmt = true → s.mach.activateBusy = false → k = 1 ∨ k = 2 →
    s.mach.fwAccepts (s.mach.fwSlot k) = true →
    Completes (.activateFw .mgmt k true true) s [.ID_BOOT_FALLBACK, .ID_BOOT_ERR, .ID_BOOT_SLOT, .ID_BOOT_STEP] [.out, .fw] fun t =>
      Mach.Answered .mgmt 0x0202 rcSuccess [] s.mach t ∧ t.get .ID_BOOT_ERR = 0 ∧ t.get .ID_BOOT_SLOT = k - 1 ∧
      t.get .ID_BOOT_STEP = 4 ∧ t.fw.active = k ∧ t.fw.loader = false) ∧
  (∀ (s : State) (n k : Nat) (i : FwImage), s.mach.fw.loader = false → s.mach.mbReady (.ld n) = true →
    Completes (.transferFw (.ld n) k i) s [] [.out] fun t => Mach.Answered (.ld n) 0x0201 rcUnsupported [] s.mach t)

/-- R122, R211, R214, R216, R217, R435: the memory commands of an LD. -/
def Obligations.MailboxMemory : Prop :=
  (∀ (s : State) (n : Nat), s.mach.mbServes (.ld n) 0x4000 → s.mach.get .ID_MEM_ACTIVE = 1 →
    Completes (.identifyMemoryDevice (.ld n)) s [] [.out] fun t =>
      Mach.Answered (.ld n) 0x4000 rcSuccess [s.mach.get .HBR_LD_CAP n, s.mach.get .HBR_LD_CAP n, 0, 0, 4096] s.mach t) ∧
  (∀ (s : State) (n : Nat), s.mach.mbServes (.ld n) 0x4000 → s.mach.get .ID_MEM_ACTIVE ≠ 1 →
    Completes (.identifyMemoryDevice (.ld n)) s [] [.out] fun t =>
      Mach.Answered (.ld n) 0x4000 rcBusy [] s.mach t) ∧
  (∀ (s : State) (n : Nat), s.mach.mbServes (.ld n) 0x4100 → s.mach.get .ID_MEM_ACTIVE = 1 →
    Completes (.getPartitionInfo (.ld n)) s [] [.out] fun t =>
      Mach.Answered (.ld n) 0x4100 rcSuccess [s.mach.get .HBR_LD_CAP n, 0, s.mach.get .HBR_LD_CAP n, 0] s.mach t) ∧
  (∀ (s : State) (n : Nat) (dpa len : Nat), s.mach.mbServes (.ld n) 0x4300 → s.mach.get .ID_MEM_ACTIVE = 1 →
    Completes (.getPoisonList (.ld n) dpa len) s [] [.out] fun t =>
      Mach.Answered (.ld n) 0x4300 rcSuccess ([Bits.ofBool (!s.mach.host.poisonFull.isEmpty),
        (s.mach.host.poisonFull.map (·.2)).foldl min ((s.mach.host.poisonFull.map (·.2)).headD 0)]
        ++ s.mach.dpasIn n dpa len s.mach.poisonedLines) s.mach t) ∧
  (∀ (s : State) (n : Nat) (dpa : Nat), s.mach.mbServes (.ld n) 0x4301 → s.mach.get .ID_MEM_ACTIVE = 1 →
    s.mach.get .HBR_INJECT_EN ≠ 1 →
    Completes (.injectPoison (.ld n) dpa) s [] [.out] fun t =>
      Mach.Answered (.ld n) 0x4301 rcUnsupported [] s.mach t) ∧
  (∀ (s : State) (n : Nat) (dpa : Nat), s.mach.mbServes (.ld n) 0x4301 → s.mach.get .ID_MEM_ACTIVE = 1 →
    s.mach.get .HBR_INJECT_EN = 1 → s.mach.mbLine n dpa = none →
    Completes (.injectPoison (.ld n) dpa) s [] [.out] fun t =>
      Mach.Answered (.ld n) 0x4301 rcInvalidAddress [] s.mach t) ∧
  (∀ (s : State) (n dpa : Nat) (x : Mapped), s.mach.mbServes (.ld n) 0x4301 → s.mach.get .ID_MEM_ACTIVE = 1 →
    s.mach.get .HBR_INJECT_EN = 1 → s.mach.mbLine n dpa = some x → s.mach.visitHome x.atoll = none →
    Completes (.injectPoison (.ld n) dpa) s (countFields ++ [.HBR_LD_EVT_OVERFLOW]) [.dram, .pages, .out, .host] fun t =>
      t = (Act.seq (markLines x.atoll (x.gdpa / 4096) [x.gdpa / 64 % 64] .inject) (mbAnswer (.ld n) 0x4301 rcSuccess [])).run s.mach) ∧
  (∀ (s : State) (n : Nat) (dpa : Nat) (data : Line), s.mach.mbServes (.ld n) 0x4302 → s.mach.get .ID_MEM_ACTIVE = 1 →
    s.mach.mbLine n dpa = none →
    Completes (.clearPoison (.ld n) dpa data) s [] [.out] fun t =>
      Mach.Answered (.ld n) 0x4302 rcInvalidAddress [] s.mach t) ∧
  (∀ (s : State) (n dpa : Nat) (data : Line) (x : Mapped), s.mach.mbServes (.ld n) 0x4302 → s.mach.get .ID_MEM_ACTIVE = 1 →
    s.mach.mbLine n dpa = some x → s.mach.visitHome x.atoll = none →
    Completes (.clearPoison (.ld n) dpa data) s lineFields
      [.pages, .out, .freeCtr, .lines, .dir, .host, .bkw, .lhl, .arc, .bql, .snd, .fry] fun t =>
      t = (Act.seq (request .self .wrLine (x.gdpa / 64) fun r => { r with data := some data })
        (mbAnswer (.ld n) 0x4302 rcSuccess [])).run s.mach) ∧
  (∀ (s : State) (n : Nat) (dpa len : Nat), s.mach.mbServes (.ld n) 0x4303 → s.mach.get .ID_MEM_ACTIVE = 1 →
    s.mach.mbLine n dpa = none ∨ len = 0 →
    Completes (.getScanMediaCapabilities (.ld n) dpa len) s [] [.out] fun t =>
      Mach.Answered (.ld n) 0x4303 rcInvalidAddress [] s.mach t) ∧
  (∀ (s : State) (n dpa len : Nat) (x : Mapped), s.mach.mbServes (.ld n) 0x4303 → s.mach.get .ID_MEM_ACTIVE = 1 →
    s.mach.mbLine n dpa = some x → len ≠ 0 →
    Completes (.getScanMediaCapabilities (.ld n) dpa len) s [] [.out, .freeCtr] fun t =>
      ∃ v, v < 2 ^ 32 ∧ Mach.Answered (.ld n) 0x4303 rcSuccess [v] s.mach t) ∧
  (∀ (s : State) (n : Nat) (dpa len : Nat), s.mach.mbServes (.ld n) 0x4304 → s.mach.get .ID_MEM_ACTIVE = 1 →
    Completes (.scanMedia (.ld n) dpa len) s [] [.out, .host] fun t =>
      Mach.Answered (.ld n) 0x4304 rcBackground [] s.mach t ∧
      (t.mbox n).bgOp = 0x4304 ∧ (t.mbox n).bgDone = true ∧ (t.mbox n).bgCode = rcSuccess ∧
      (t.mbox n).scan = s.mach.dpasIn n dpa len (s.mach.pages.flatMap fun p =>
        ((List.range 64).filter fun i => p.2.rcd.size.getD i 0 == 7).map fun i => p.1 * 64 + i) ∧
      ∀ o, o ≠ n → t.mbox o = s.mach.mbox o) ∧
  (∀ (s : State) (n : Nat), s.mach.mbServes (.ld n) 0x4305 → s.mach.get .ID_MEM_ACTIVE = 1 →
    Completes (.getScanMediaResults (.ld n)) s [] [.out] fun t =>
      Mach.Answered (.ld n) 0x4305 rcSuccess (s.mach.mbox n).scan s.mach t) ∧
  (∀ (s : State) (n : Nat), s.mach.mbServes (.ld n) 0x4800 → s.mach.get .ID_MEM_ACTIVE = 1 →
    Completes (.getDynamicCapacityConfiguration (.ld n)) s [] [.out] fun t =>
      Mach.Answered (.ld n) 0x4800 rcSuccess (s.mach.dcRegions n) s.mach t) ∧
  (∀ (s : State) (n : Nat), s.mach.mbServes (.ld n) 0x4801 → s.mach.get .ID_MEM_ACTIVE = 1 →
    Completes (.getDynamicCapacityExtentList (.ld n)) s [] [.out] fun t =>
      Mach.Answered (.ld n) 0x4801 rcSuccess (s.mach.acceptedExts n) s.mach t) ∧
  (∀ (s : State) (n : Nat) (xs : List Range), s.mach.mbServes (.ld n) 0x4802 → s.mach.get .ID_MEM_ACTIVE = 1 →
    xs.all (inOne (s.mach.host.extents.filter fun e => e.ld == n && !e.accepted)) = true → disjoint xs = true →
    Completes (.addDynamicCapacityResponse (.ld n) xs) s [] [.out, .host] fun t =>
      Mach.Answered (.ld n) 0x4802 rcSuccess [] s.mach t ∧
      t.host = { s.mach.host with extents := (s.mach.host.extents.filter fun e => e.ld != n || e.accepted) ++
        (xs.map fun x => ({ ld := n, base := x.base, len := x.len, accepted := true } : Extent)) }) ∧
  (∀ (s : State) (n : Nat) (xs : List Range), s.mach.mbServes (.ld n) 0x4802 → s.mach.get .ID_MEM_ACTIVE = 1 →
    xs.all (inOne (s.mach.host.extents.filter fun e => e.ld == n && !e.accepted)) = false ∨ disjoint xs = false →
    Completes (.addDynamicCapacityResponse (.ld n) xs) s [] [.out] fun t =>
      Mach.Answered (.ld n) 0x4802 rcInvalidInput [] s.mach t) ∧
  (∀ (s : State) (n : Nat) (xs : List Range), s.mach.mbServes (.ld n) 0x4803 → s.mach.get .ID_MEM_ACTIVE = 1 →
    xs.all (inOne (s.mach.host.extents.filter fun e => e.ld == n && e.accepted)) = true → disjoint xs = true →
    Completes (.releaseDynamicCapacity (.ld n) xs) s (forgetFields ++ [.GRN_REVOKED])
      [.pages, .out, .lines, .grain, .host, .bkw, .lhl, .arc, .bql, .que] fun t =>
      t = (Act.seq (.each xs fun x => .seq (releaseRange n x.base x.len) (cutExtents n x.base x.len))
        (mbAnswer (.ld n) 0x4803 rcSuccess [])).run s.mach) ∧
  (∀ (s : State) (n : Nat) (xs : List Range), s.mach.mbServes (.ld n) 0x4803 → s.mach.get .ID_MEM_ACTIVE = 1 →
    xs.all (inOne (s.mach.host.extents.filter fun e => e.ld == n && e.accepted)) = false ∨ disjoint xs = false →
    Completes (.releaseDynamicCapacity (.ld n) xs) s [] [.out] fun t =>
      Mach.Answered (.ld n) 0x4803 rcInvalidInput [] s.mach t)

/-- R118, R207, R208, R211, R214, R217: the FM API. -/
def Obligations.FabricManager : Prop :=
  (∀ (s : State) (h : Nat), s.mach.mbServes .fmapi 0x5400 →
    h < s.mach.sled.heads →
    Completes (.getLdInfo h) s [] [.out] fun t =>
      Mach.Answered .fmapi 0x5400 rcSuccess [(s.mach.headLds h).length,
        ((s.mach.headLds h).map fun n => s.mach.get .HBR_LD_CAP n).sum] s.mach t) ∧
  (∀ (s : State) (h : Nat), s.mach.mbServes .fmapi 0x5400 →
    s.mach.sled.heads ≤ h →
    Completes (.getLdInfo h) s [] [.out] fun t =>
      Mach.Answered .fmapi 0x5400 rcInvalidInput [] s.mach t) ∧
  (∀ (s : State) (first count : Nat), s.mach.mbServes .fmapi 0x5401 →
    Completes (.getLdAllocations first count) s [] [.out] fun t =>
      Mach.Answered .fmapi 0x5401 rcSuccess (s.mach.sled.lds ::
        (List.range (min count (s.mach.sled.lds - first))).map fun j => s.mach.get .HBR_LD_CAP (first + j)) s.mach t) ∧
  (∀ (s : State) (first : Nat) (caps : List Nat), s.mach.mbServes .fmapi 0x5402 →
    (∀ j, j < caps.length → first + j < s.mach.sled.lds ∧ s.mach.capFits (first + j) (caps.getD j 0) = true) →
    Completes (.setLdAllocations first caps) s [.HBR_LD_CAP] [.out] fun t =>
      Mach.Answered .fmapi 0x5402 rcSuccess [] s.mach t ∧
      (∀ j, j < caps.length → t.get .HBR_LD_CAP (first + j) = caps.getD j 0) ∧
      ∀ n, n < first ∨ first + caps.length ≤ n → t.get .HBR_LD_CAP n = s.mach.get .HBR_LD_CAP n) ∧
  (∀ (s : State) (first j : Nat) (caps : List Nat), s.mach.mbServes .fmapi 0x5402 →
    j < caps.length → s.mach.sled.lds ≤ first + j ∨ s.mach.capFits (first + j) (caps.getD j 0) = false →
    Completes (.setLdAllocations first caps) s [] [.out] fun t =>
      Mach.Answered .fmapi 0x5402 rcInvalidInput [] s.mach t) ∧
  (∀ (s : State), s.mach.mbServes .fmapi 0x5403 →
    Completes .getQosControl s [] [.out] fun t =>
      Mach.Answered .fmapi 0x5403 rcSuccess (s.mach.get .RGL_EN ::
        ((List.range 74).filter fun k => s.mach.get .RGL_M_GUAR k != 0).flatMap fun k => [k, s.mach.get .RGL_M_GUAR k]) s.mach t) ∧
  (∀ (s : State), s.mach.mbServes .fmapi 0x5405 →
    Completes .getQosStatus s [] [.out] fun t =>
      Mach.Answered .fmapi 0x5405 rcSuccess ((List.range s.mach.sled.chans).flatMap fun c =>
        [s.mach.get .RGL_C_GC_LIVE c, s.mach.get .RGL_C_SHRUNK c]) s.mach t) ∧
  (∀ (s : State), s.mach.mbServes .fmapi 0x5500 →
    Completes .getMultiHeadedInfo s [] [.out] fun t =>
      Mach.Answered .fmapi 0x5500 rcSuccess (s.mach.sled.heads ::
        (List.range s.mach.sled.heads).map fun h => (s.mach.headLds h).length) s.mach t) ∧
  (∀ (s : State) (h : Nat), s.mach.mbServes .fmapi 0x5501 →
    h < s.mach.sled.heads →
    Completes (.getHeadInfo h) s [] [.out] fun t =>
      Mach.Answered .fmapi 0x5501 rcSuccess [s.mach.headWord h] s.mach t) ∧
  (∀ (s : State) (h : Nat), s.mach.mbServes .fmapi 0x5501 →
    s.mach.sled.heads ≤ h →
    Completes (.getHeadInfo h) s [] [.out] fun t =>
      Mach.Answered .fmapi 0x5501 rcInvalidInput [] s.mach t) ∧
  (∀ (s : State), s.mach.mbServes .fmapi 0x5600 →
    Completes .getDcdInfo s [] [.out] fun t =>
      Mach.Answered .fmapi 0x5600 rcSuccess [s.mach.sled.lds, s.mach.poolP, s.mach.poolA] s.mach t) ∧
  (∀ (s : State) (n : Nat), s.mach.mbServes .fmapi 0x5601 →
    s.mach.get .HBR_LD_VALID n = 1 →
    Completes (.getHostDcRegionConfiguration n) s [] [.out] fun t =>
      Mach.Answered .fmapi 0x5601 rcSuccess (s.mach.dcRegions n) s.mach t) ∧
  (∀ (s : State) (n : Nat), s.mach.mbServes .fmapi 0x5601 →
    s.mach.get .HBR_LD_VALID n ≠ 1 →
    Completes (.getHostDcRegionConfiguration n) s [] [.out] fun t =>
      Mach.Answered .fmapi 0x5601 rcInvalidInput [] s.mach t) ∧
  (∀ (s : State) (n : Nat), s.mach.mbServes .fmapi 0x5603 →
    s.mach.get .HBR_LD_VALID n = 1 →
    Completes (.getDcRegionExtentLists n) s [] [.out] fun t =>
      Mach.Answered .fmapi 0x5603 rcSuccess (s.mach.acceptedExts n) s.mach t) ∧
  (∀ (s : State) (n : Nat), s.mach.mbServes .fmapi 0x5603 →
    s.mach.get .HBR_LD_VALID n ≠ 1 →
    Completes (.getDcRegionExtentLists n) s [] [.out] fun t =>
      Mach.Answered .fmapi 0x5603 rcInvalidInput [] s.mach t) ∧
  (∀ (s : State) (n : Nat) (x : Range), s.mach.mbServes .fmapi 0x5605 →
    s.mach.host.extents.find? (fun e => e.ld == n && e.base == x.base && e.len == x.len) = none →
    Completes (.initiateDynamicCapacityRelease n x) s [] [.out] fun t =>
      Mach.Answered .fmapi 0x5605 rcInvalidInput [] s.mach t) ∧
  (∀ (s : State) (n : Nat) (x : Range) (e : Extent), s.mach.mbServes .fmapi 0x5605 →
    s.mach.host.extents.find? (fun e => e.ld == n && e.base == x.base && e.len == x.len) = some e →
    e.accepted = false →
    Completes (.initiateDynamicCapacityRelease n x) s [] [.out, .host] fun t =>
      Mach.Answered .fmapi 0x5605 rcSuccess [] s.mach t ∧
      t.host = { s.mach.host with extents := s.mach.host.extents.filter (· != e) }) ∧
  (∀ (s : State) (n : Nat) (x : Range) (e : Extent), s.mach.mbServes .fmapi 0x5605 →
    s.mach.host.extents.find? (fun e => e.ld == n && e.base == x.base && e.len == x.len) = some e →
    e.accepted = true →
    Completes (.initiateDynamicCapacityRelease n x) s (lineFields ++ [.GRN_RELEASE_OUT, .GRN_REVOKED])
      [.pages, .out, .freeCtr, .lines, .dir, .host, .bkw, .lhl, .arc, .bql, .snd, .fry] fun t =>
      t = (Act.seq (requestRelease e) (mbAnswer .fmapi 0x5605 rcSuccess [])).run s.mach)

/-- R223, R227 to R229, R246: queue pairs and bells. -/
def Obligations.QueuePairsAndBells : Prop :=
  (∀ (s : State) (q : Nat), q < s.mach.sled.qps → s.mach.get .QP_STATE q = qpDisabled → s.mach.enableOk q = true →
    Completes (.qpEnable q) s [.QP_EN, .QP_STATE, .QP_WR_REFUSED, .QP_ERR, .QP_SQ_TAIL, .QP_SQ_HEAD, .QP_CQ_TAIL, .QP_CQ_HEAD,
        .QP_CQ_PHASE] [.que] fun t =>
      t.get .QP_EN q = 1 ∧ t.get .QP_STATE q = qpEnabled ∧ t.get .QP_ERR q = 0 ∧ t.get .QP_SQ_HEAD q = 0 ∧
      t.get .QP_SQ_TAIL q = 0 ∧ t.get .QP_CQ_HEAD q = 0 ∧ t.get .QP_CQ_TAIL q = 0 ∧ t.get .QP_CQ_PHASE q = 1 ∧
      t.get .QP_WR_REFUSED q = 0 ∧ t.que.descs = s.mach.que.descs ∧ Mach.Others .QP_STATE q s.mach t ∧
      Mach.Others .QP_EN q s.mach t ∧ Mach.Others .QP_SQ_TAIL q s.mach t ∧ Mach.Others .QP_CQ_HEAD q s.mach t) ∧
  (∀ (s : State) (q : Nat), q < s.mach.sled.qps → s.mach.get .QP_STATE q ≠ qpEnabled →
    s.mach.get .QP_STATE q ≠ qpDisabled ∨ s.mach.enableOk q = false →
    Completes (.qpEnable q) s [.QP_WR_REFUSED] [] fun t =>
      t.get .QP_WR_REFUSED q = 1 ∧ Mach.Others .QP_WR_REFUSED q s.mach t) ∧
  (∀ (s : State) (q : Nat), q < s.mach.sled.qps → s.mach.get .QP_STATE q = qpEnabled ∨ s.mach.get .QP_STATE q = qpError →
    Completes (.qpDisable q) s [.QP_EN, .QP_STATE, .QP_WR_REFUSED] [.dir, .que] fun t =>
      t.get .QP_EN q = 0 ∧ t.get .QP_STATE q = qpDraining ∧ t.get .QP_WR_REFUSED q = 0 ∧ Mach.Others .QP_STATE q s.mach t ∧
      Mach.Others .QP_EN q s.mach t) ∧
  (∀ (s : State) (q : Nat), s.mach.get .QP_STATE q = qpDraining → (∀ d, d ∈ s.mach.que.descs → d.q ≠ q) →
    Completes (.qpDrained q) s [.QP_STATE] [] fun t =>
      t.get .QP_STATE q = qpDisabled ∧ Mach.Others .QP_STATE q s.mach t) ∧
  (∀ (s : State) (ld q value : Nat), q < s.mach.sled.qps → s.mach.get .QP_OWNER q = ld → ld < 256 → s.mach.get .QP_LD_CTRL q = 1 →
    Completes (.qpControlPageWrite ld q value) s [.QP_EN, .QP_STATE, .QP_WR_REFUSED, .QP_ERR, .QP_SQ_TAIL, .QP_SQ_HEAD, .QP_CQ_TAIL,
        .QP_CQ_HEAD, .QP_CQ_PHASE] [.dir, .que] fun t =>
      exec (if value % 2 = 1 then .qpEnable q else .qpDisable q) s = .next { s with mach := t }) ∧
  (∀ (s : State) (ld q value : Nat), s.mach.get .QP_OWNER q ≠ ld ∨ s.mach.get .QP_LD_CTRL q ≠ 1 →
    Completes (.qpControlPageWrite ld q value) s [] [] fun t => t = s.mach) ∧
  (∀ (s : State) (ld dpa q : Nat) (x : Mapped) (data : Line), s.mach.decode ld dpa = some x → s.mach.isBell x.atoll = true →
    s.mach.ldUp ld true = true → s.mach.fatal = false → q = (dpa - s.mach.viewBase x.view) % 2 ^ 16 / 64 * 8 + q % 8 →
    q < s.mach.sled.qps → s.mach.get .QP_STATE q = qpEnabled → s.mach.get .QP_OWNER q = ld →
    data.toNat / 2 ^ (64 * (q % 8) + 16) % 2 ^ 16 = 0 → s.mach.tailOk q (data.toNat / 2 ^ (64 * (q % 8)) % 2 ^ 16) = true →
    Completes (.bellWrite ld dpa data (15 * 2 ^ (8 * (q % 8)))) s (countFields ++ [.QP_SQ_TAIL]) [] fun t =>
      t.get .QP_SQ_TAIL q = data.toNat / 2 ^ (64 * (q % 8)) % 2 ^ 16 % s.mach.sqSize q % 2 ^ 16 ∧
      Mach.Others .QP_SQ_TAIL q s.mach t) ∧
  (∀ (s : State) (ld dpa q : Nat) (x : Mapped) (data : Line), s.mach.decode ld dpa = some x → s.mach.isBell x.atoll = true →
    s.mach.ldUp ld true = true → s.mach.fatal = false → q = (dpa - s.mach.viewBase x.view) % 2 ^ 16 / 64 * 8 + q % 8 →
    q < s.mach.sled.qps → s.mach.get .QP_STATE q = qpEnabled → s.mach.get .QP_OWNER q = ld →
    data.toNat / 2 ^ (64 * (q % 8) + 48) % 2 ^ 16 = 0 →
    s.mach.cqHeadOk q (data.toNat / 2 ^ (64 * (q % 8) + 32) % 2 ^ 16) = true →
    Completes (.bellWrite ld dpa data (240 * 2 ^ (8 * (q % 8)))) s (countFields ++ [.QP_CQ_HEAD]) [] fun t =>
      t.get .QP_CQ_HEAD q = data.toNat / 2 ^ (64 * (q % 8) + 32) % 2 ^ 16 % s.mach.cqSize q % 2 ^ 16 ∧
      Mach.Others .QP_CQ_HEAD q s.mach t) ∧
  (∀ (s : State) (ld dpa q : Nat) (x : Mapped) (data : Line), s.mach.decode ld dpa = some x → s.mach.isBell x.atoll = true →
    s.mach.ldUp ld true = true → s.mach.fatal = false → q = (dpa - s.mach.viewBase x.view) % 2 ^ 16 / 64 * 8 + q % 8 →
    q < s.mach.sled.qps → s.mach.get .QP_STATE q ≠ qpEnabled ∨ s.mach.get .QP_OWNER q ≠ ld →
    Completes (.bellWrite ld dpa data (15 * 2 ^ (8 * (q % 8)))) s (countFields ++ [.QP_BELL_IGNORED]) [] fun t =>
      t.get .QP_BELL_IGNORED q = (s.mach.get .QP_BELL_IGNORED q + 1) % 2 ^ 32 ∧ Mach.Others .QP_BELL_IGNORED q s.mach t) ∧
  (∀ (s : State) (ld dpa tag : Nat) (x : Mapped), s.mach.decode ld dpa = some x → s.mach.isBell x.atoll = true →
    Completes (.bellRead ld dpa tag) s (lineFields ++ [.HBR_LD_UNMAPPED])
      [.pages, .out, .freeCtr, .lines, .dir, .host, .bkw, .lhl, .arc, .bql, .snd, .fry] fun t =>
      t = (hostRead ld dpa tag 0 .noop).run s.mach) ∧
  (∀ (s : State) (q v : Nat), q < s.mach.sled.qps → s.mach.get .QP_OWNER q = ownMgmt →
    Completes (.qpMgmtBell q (some v)) s (countFields ++ [.QP_SQ_TAIL, .QP_CQ_HEAD, .QP_BELL_IGNORED]) [] fun t =>
      t = (Act.seq (bellHalf ownMgmt q false (v % 2 ^ 32)) (bellHalf ownMgmt q true (v / 2 ^ 32 % 2 ^ 32))).run s.mach ∧
      Mach.Others .QP_SQ_TAIL q s.mach t ∧ Mach.Others .QP_CQ_HEAD q s.mach t) ∧
  (∀ (s : State) (q v : Nat), s.mach.get .QP_OWNER q ≠ ownMgmt → Completes (.qpMgmtBell q (some v)) s [] [] fun t => t = s.mach) ∧
  (∀ (s : State) (q : Nat), q < s.mach.sled.qps → Completes (.qpMgmtBell q none) s [] [.out] fun t =>
      t.out = s.mach.out ++ [.setupRead (0x200000 + 0x80 * q + 0x50)
        (if s.mach.get .QP_OWNER q = ownMgmt then s.mach.bellWord ownMgmt q else 0)])

/-- R225, R226, R237, R239, R240, R242, R243: the flow of descriptors and completions. -/
def Obligations.DescriptorFlow : Prop :=
  (∀ (s : State) (q : Nat) (host : HostRead) (bs : List Byte), s.mach.mayFetch q = true → s.mach.get .QP_SQ_HOST q = 1 →
    s.mach.hostBytes (s.mach.get .QP_OWNER q) 64 host = some bs →
    Completes (.descriptorFetch q host) s (countFields ++ [.QP_SQ_HEAD, .QP_FETCHED, .QP_INFLIGHT, .QP_BUSY]) [.que] fun t =>
      t.que.descs = s.mach.que.descs ++ [{ q := q, idx := s.mach.get .QP_SQ_HEAD q, seq := s.mach.que.nextSeq, raw := bs }] ∧
      t.get .QP_SQ_HEAD q = (s.mach.get .QP_SQ_HEAD q + 1) % s.mach.sqSize q % 2 ^ 16 ∧
      t.get .QP_FETCHED q = (s.mach.get .QP_FETCHED q + 1) % 2 ^ 48 ∧ t.get .QP_BUSY q = 1 ∧
      t.get .QP_INFLIGHT q = ((s.mach.que.descs.filter fun d => d.q == q).length + 1) % 2 ^ 9 ∧
      Mach.Others .QP_SQ_HEAD q s.mach t) ∧
  (∀ (s : State) (q : Nat) (host : HostRead), s.mach.mayFetch q = true → s.mach.get .QP_SQ_HOST q = 1 →
    s.mach.hostBytes (s.mach.get .QP_OWNER q) 64 host = none →
    Completes (.descriptorFetch q host) s [.QP_STATE, .QP_ERR] [.out, .dir, .host, .que] fun t =>
      t.get .QP_STATE q = qpError ∧ t.get .QP_ERR q = 3 ∧ t.que.descs = s.mach.que.descs ∧ Mach.Others .QP_STATE q s.mach t) ∧
  (∀ (s : State) (q : Nat) (host : HostRead), s.mach.mayFetch q = true → s.mach.get .QP_SQ_HOST q ≠ 1 →
    s.mach.asked (.queue q) fetchTag 1 = [] →
    s.mach.ownerLine (s.mach.get .QP_OWNER q) (s.mach.get .QP_SQ_BASE q + 64 * s.mach.get .QP_SQ_HEAD q) = none →
    Completes (.descriptorFetch q host) s [.QP_STATE, .QP_ERR] [.out, .dir, .host, .que] fun t =>
      t.get .QP_STATE q = qpError ∧ t.get .QP_ERR q = 2 ∧ t.que.descs = s.mach.que.descs ∧ Mach.Others .QP_STATE q s.mach t) ∧
  (∀ (s : State) (q l : Nat) (host : HostRead), s.mach.mayFetch q = true → s.mach.get .QP_SQ_HOST q ≠ 1 →
    s.mach.asked (.queue q) fetchTag 1 = [] →
    s.mach.ownerLine (s.mach.get .QP_OWNER q) (s.mach.get .QP_SQ_BASE q + 64 * s.mach.get .QP_SQ_HEAD q) = some l →
    Completes (.descriptorFetch q host) s (lineFields ++ [.QP_BUSY, .QP_STATE, .QP_ERR, .QP_SQ_HEAD, .QP_INFLIGHT, .QP_FETCHED])
      [.pages, .out, .freeCtr, .lines, .dir, .host, .bkw, .lhl, .arc, .bql, .snd, .que, .fry] fun t =>
      t = (Act.seq (ask (.queue q) fetchTag l .rdCur id) (fetchTake q)).run s.mach) ∧
  (∀ (s : State) (q : Nat) (host : HostRead) (r : RemReq) (rs : List RemReq) (l : Line), s.mach.mayFetch q = true →
    s.mach.get .QP_SQ_HOST q ≠ 1 → s.mach.asked (.queue q) fetchTag 1 = r :: rs → r.done = true → r.val = some l →
    Completes (.descriptorFetch q host) s (countFields ++ [.QP_SQ_HEAD, .QP_FETCHED, .QP_INFLIGHT, .QP_BUSY]) [.dir, .que] fun t =>
      t.que.descs = s.mach.que.descs ++
        [{ q := q, idx := s.mach.get .QP_SQ_HEAD q, seq := s.mach.que.nextSeq, raw := lineBytes l }] ∧
      t.get .QP_SQ_HEAD q = (s.mach.get .QP_SQ_HEAD q + 1) % s.mach.sqSize q % 2 ^ 16 ∧ Mach.Others .QP_SQ_HEAD q s.mach t) ∧
  (∀ (s : State) (q : Nat) (host : HostRead) (r : RemReq) (rs : List RemReq), s.mach.mayFetch q = true →
    s.mach.get .QP_SQ_HOST q ≠ 1 → s.mach.asked (.queue q) fetchTag 1 = r :: rs → r.done = true → r.val = none →
    Completes (.descriptorFetch q host) s [.QP_STATE, .QP_ERR] [.out, .dir, .host, .que] fun t =>
      t.get .QP_STATE q = qpError ∧ t.get .QP_ERR q = 1 ∧ t.que.descs = s.mach.que.descs) ∧
  (∀ (s : State) (q idx : Nat) (d : Desc), s.mach.descAt q idx = some d → d.done = true → d.phase ≠ phaseEntry →
    s.mach.get .QP_CQ_HOST q = 1 → s.mach.hostReach (s.mach.get .QP_OWNER q) = true →
    Completes (.descriptorComplete q idx true) s (countFields ++ [.QP_BUSY, .QP_CQ_TAIL, .QP_CQ_PHASE, .QP_INFLIGHT, .QP_COMPLETED])
      [.out, .dir, .host, .que] fun t =>
      (∃ r, t.out = s.mach.out ++ .dmaWrite (s.mach.get .QP_OWNER q) (s.mach.get .QP_CQ_BASE q + 16 * s.mach.get .QP_CQ_TAIL q)
        (s.mach.entry d) false :: r) ∧
      t.get .QP_CQ_TAIL q = (s.mach.get .QP_CQ_TAIL q + 1) % s.mach.cqSize q % 2 ^ 16 ∧
      t.get .QP_CQ_PHASE q = (if (s.mach.get .QP_CQ_TAIL q + 1) % s.mach.cqSize q = 0 then (1 - s.mach.get .QP_CQ_PHASE q) % 2
        else s.mach.get .QP_CQ_PHASE q) ∧
      t.get .QP_COMPLETED q = (s.mach.get .QP_COMPLETED q + 1) % 2 ^ 48 ∧
      t.que.descs = s.mach.que.descs.filter (fun e => e.seq != d.seq) ∧ Mach.Others .QP_CQ_TAIL q s.mach t) ∧
  (∀ (s : State) (q idx : Nat) (ok : Bool) (d : Desc), s.mach.descAt q idx = some d → d.done = true → d.phase ≠ phaseEntry →
    s.mach.get .QP_CQ_HOST q = 1 → ok = false ∨ s.mach.hostReach (s.mach.get .QP_OWNER q) = false →
    Completes (.descriptorComplete q idx ok) s [.QP_BUSY, .QP_STATE, .QP_ERR, .QP_INFLIGHT, .QP_COMPL_DISCARDED]
      [.out, .dir, .host, .que] fun t =>
      t.get .QP_COMPL_DISCARDED q = (s.mach.get .QP_COMPL_DISCARDED q + 1) % 2 ^ 48 ∧
      (s.mach.get .QP_STATE q = qpEnabled → t.get .QP_STATE q = qpError ∧ t.get .QP_ERR q = 4) ∧
      t.que.descs = s.mach.que.descs.filter (fun e => e.seq != d.seq)) ∧
  (∀ (s : State) (q idx l : Nat) (ok : Bool) (d : Desc), s.mach.descAt q idx = some d → d.done = true → d.phase ≠ phaseEntry →
    s.mach.get .QP_CQ_HOST q ≠ 1 →
    s.mach.ownerLine (s.mach.get .QP_OWNER q) (s.mach.get .QP_CQ_BASE q + 16 * s.mach.get .QP_CQ_TAIL q) = some l →
    Completes (.descriptorComplete q idx ok) s (lineFields ++ [.TIER_HINT_DOWN, .QP_BUSY, .QP_STATE, .QP_ERR, .QP_CQ_TAIL, .QP_CQ_PHASE,
        .QP_INFLIGHT, .QP_COMPLETED, .QP_COMPL_DISCARDED])
      [.pages, .out, .freeCtr, .lines, .dir, .host, .bkw, .lhl, .arc, .bql, .snd, .que, .fry] fun t =>
      t = (Act.all [setDesc d.seq fun d => { d with phase := phaseEntry },
        askWrite (.queue q) (d.tag0 3) l
          (some (lineWith ((s.mach.get .QP_CQ_BASE q + 16 * s.mach.get .QP_CQ_TAIL q) % 64) (s.mach.entry d)))
          (maskOf ((s.mach.get .QP_CQ_BASE q + 16 * s.mach.get .QP_CQ_TAIL q) % 64) 16) 0 0,
        cqAdvance q, entryTake d]).run s.mach) ∧
  (∀ (s : State) (k : Nat) (host : HostRead) (d : Desc), [3, 2, 1, 0].findSome? (fun p => s.mach.nextQp k p) = some d →
    Completes (.descriptorTurn k host) s (lineFields ++ tallyFields ++ [.ATL_TDL_STATE, .ATL_TDL_PAGE, .GRN_FREE, .GRN_ALLOCATED,
        .GRN_META, .GRN_QUAR, .GRN_MOVES, .GRN_MOVE_ABORTS, .TIER_SINKS, .TIER_LIFTS_GROWTH, .TIER_LIFTS_HEAT, .TIER_HINT_DOWN,
        .TDL_SLOT_ATOLL, .TDL_SLOT_STATE, .TDL_SLOT_AUTO, .TDL_SLOT_ERR, .TDL_SLOT_LINE, .TDL_SLOT_WINDOW, .TDL_SLOT_PAGES,
        .ARC_EVAC_LEFT, .RGL_M_LINES, .DRM_D_LEFT, .SND_T_LOST])
      [.dram, .pages, .out, .freeCtr, .lines, .dir, .grain, .keys, .host, .bkw, .lhl, .arc, .bql, .snd, .que, .fry, .rgl] fun t =>
      t = (Act.seq (.prim (.que fun x => { x with served := x.served.put (4 * k + s.mach.get .QP_PRIO d.q) (d.q + 1) }))
        (runDesc d host)).run s.mach) ∧
  (∀ (s : State) (k : Nat) (host : HostRead), (∀ p, p < 4 → s.mach.nextQp k p = none) →
    Completes (.descriptorTurn k host) s [] [] fun t => t = s.mach) ∧
  (∀ (s : State) (q : Nat), s.mach.get .QP_IRQ_USEC q ≠ 0 → s.mach.sinceMsg q ≠ 0 → s.mach.get .QP_IRQ_EN q = 1 →
    s.mach.get .QP_OWNER q ∉ s.mach.host.bmeOff → (s.mach.get .QP_OWNER q, s.mach.get .QP_VECTOR q) ∉ s.mach.host.msixMasked →
    Completes (.irqCoalesceTimeout q) s [] [.out, .que] fun t =>
      t.out = s.mach.out ++ [.msix (s.mach.get .QP_OWNER q) (s.mach.get .QP_VECTOR q)] ∧ t.sinceMsg q = 0) ∧
  (∀ (s : State) (q : Nat), s.mach.sinceMsg q = 0 → Completes (.irqCoalesceTimeout q) s [] [] fun t => t = s.mach)

/-- R230, R231, R234, R235, R241: descriptors that end in their first turn. -/
def Obligations.DescriptorStarts : Prop :=
  (∀ (s : State) (q idx : Nat) (d : Desc), s.mach.Turn q idx d → d.op = 0 → (d.started = true ∨ s.mach.startStatus d = 0) →
    Completes (.nop q idx) s [.SND_T_LOST] [.freeCtr, .dir, .snd, .que] fun t =>
      Mach.Ended d d.status s.mach t) ∧
  (∀ (s : State) (q idx : Nat) (d : Desc), s.mach.Turn q idx d → d.op = 1 → (d.started = true ∨ s.mach.startStatus d = 0) →
    Completes (.fence q idx) s [.SND_T_LOST] [.freeCtr, .dir, .snd, .que] fun t =>
      Mach.Ended d d.status s.mach t) ∧
  (∀ (s : State) (q idx : Nat) (d : Desc), s.mach.Turn q idx d → opKnown d.op = false → d.started = false → d.status = 0 →
    Completes (.invalidOpcode q idx) s [.SND_T_LOST] [.freeCtr, .dir, .snd, .que] fun t =>
      Mach.Ended d stOpcode s.mach t) ∧
  (∀ (s : State) (q idx : Nat) (d : Desc), s.mach.Turn q idx d → d.op = 0 → d.started = false → d.status = 0 → s.mach.startStatus d ≠ 0 →
    Completes (.nop q idx) s [.SND_T_LOST] [.freeCtr, .dir, .snd, .que] fun t =>
      Mach.Ended d (s.mach.startStatus d) s.mach t) ∧
  (∀ (s : State) (q idx : Nat) (d : Desc), s.mach.Turn q idx d → d.op = 1 → d.started = false → d.status = 0 → s.mach.startStatus d ≠ 0 →
    Completes (.fence q idx) s [.SND_T_LOST] [.freeCtr, .dir, .snd, .que] fun t =>
      Mach.Ended d (s.mach.startStatus d) s.mach t) ∧
  (∀ (s : State) (q idx : Nat) (host : HostRead) (d : Desc), s.mach.Turn q idx d → d.op = 0x10 → d.started = false → d.status = 0 → s.mach.startStatus d ≠ 0 →
    Completes (.copy q idx host) s [.SND_T_LOST] [.freeCtr, .dir, .snd, .que] fun t =>
      Mach.Ended d (s.mach.startStatus d) s.mach t) ∧
  (∀ (s : State) (q idx : Nat) (d : Desc), s.mach.Turn q idx d → d.op = 0x11 → d.started = false → d.status = 0 → s.mach.startStatus d ≠ 0 →
    Completes (.fill q idx) s [.SND_T_LOST] [.freeCtr, .dir, .snd, .que] fun t =>
      Mach.Ended d (s.mach.startStatus d) s.mach t) ∧
  (∀ (s : State) (q idx : Nat) (d : Desc), s.mach.Turn q idx d → d.op = 0x12 → d.started = false → d.status = 0 → s.mach.startStatus d ≠ 0 →
    Completes (.zero q idx) s [.SND_T_LOST] [.freeCtr, .dir, .snd, .que] fun t =>
      Mach.Ended d (s.mach.startStatus d) s.mach t) ∧
  (∀ (s : State) (q idx : Nat) (host : HostRead) (d : Desc), s.mach.Turn q idx d → d.op = 0x13 → d.started = false → d.status = 0 → s.mach.startStatus d ≠ 0 →
    Completes (.compare q idx host) s [.SND_T_LOST] [.freeCtr, .dir, .snd, .que] fun t =>
      Mach.Ended d (s.mach.startStatus d) s.mach t) ∧
  (∀ (s : State) (q idx : Nat) (d : Desc), s.mach.Turn q idx d → d.op = 0x20 → d.started = false → d.status = 0 → s.mach.startStatus d ≠ 0 →
    Completes (.moveTier q idx) s [.SND_T_LOST] [.freeCtr, .dir, .snd, .que] fun t =>
      Mach.Ended d (s.mach.startStatus d) s.mach t) ∧
  (∀ (s : State) (q idx : Nat) (d : Desc), s.mach.Turn q idx d → d.op = 0x21 → d.started = false → d.status = 0 → s.mach.startStatus d ≠ 0 →
    Completes (.pin q idx) s [.SND_T_LOST] [.freeCtr, .dir, .snd, .que] fun t =>
      Mach.Ended d (s.mach.startStatus d) s.mach t) ∧
  (∀ (s : State) (q idx : Nat) (d : Desc), s.mach.Turn q idx d → d.op = 0x22 → d.started = false → d.status = 0 → s.mach.startStatus d ≠ 0 →
    Completes (.unpin q idx) s [.SND_T_LOST] [.freeCtr, .dir, .snd, .que] fun t =>
      Mach.Ended d (s.mach.startStatus d) s.mach t) ∧
  (∀ (s : State) (q idx : Nat) (d : Desc), s.mach.Turn q idx d → d.op = 0x23 → d.started = false → d.status = 0 → s.mach.startStatus d ≠ 0 →
    Completes (.hintHeat q idx) s [.SND_T_LOST] [.freeCtr, .dir, .snd, .que] fun t =>
      Mach.Ended d (s.mach.startStatus d) s.mach t) ∧
  (∀ (s : State) (q idx : Nat) (d : Desc), s.mach.Turn q idx d → d.op = 0x24 → d.started = false → d.status = 0 → s.mach.startStatus d ≠ 0 →
    Completes (.offshorePush q idx) s [.SND_T_LOST] [.freeCtr, .dir, .snd, .que] fun t =>
      Mach.Ended d (s.mach.startStatus d) s.mach t) ∧
  (∀ (s : State) (q idx : Nat) (d : Desc), s.mach.Turn q idx d → d.op = 0x25 → d.started = false → d.status = 0 → s.mach.startStatus d ≠ 0 →
    Completes (.recall q idx) s [.SND_T_LOST] [.freeCtr, .dir, .snd, .que] fun t =>
      Mach.Ended d (s.mach.startStatus d) s.mach t) ∧
  (∀ (s : State) (q idx : Nat) (host : HostRead) (d : Desc), s.mach.Turn q idx d → d.op = 0x30 → d.started = false → d.status = 0 → s.mach.startStatus d ≠ 0 →
    Completes (.atomic q idx host) s [.SND_T_LOST] [.freeCtr, .dir, .snd, .que] fun t =>
      Mach.Ended d (s.mach.startStatus d) s.mach t) ∧
  (∀ (s : State) (q idx : Nat) (d : Desc), s.mach.Turn q idx d → d.op = 0x40 → d.started = false → d.status = 0 → s.mach.startStatus d ≠ 0 →
    Completes (.sealRotate q idx) s [.SND_T_LOST] [.freeCtr, .dir, .snd, .que] fun t =>
      Mach.Ended d (s.mach.startStatus d) s.mach t) ∧
  (∀ (s : State) (q idx : Nat) (d : Desc), s.mach.Turn q idx d → d.op = 0x41 → d.started = false → d.status = 0 → s.mach.startStatus d ≠ 0 →
    Completes (.mirrorSync q idx) s [.SND_T_LOST] [.freeCtr, .dir, .snd, .que] fun t =>
      Mach.Ended d (s.mach.startStatus d) s.mach t) ∧
  (∀ (s : State) (q idx : Nat) (d : Desc), s.mach.Turn q idx d → d.op = 0x50 → d.started = false → d.status = 0 → s.mach.startStatus d ≠ 0 →
    Completes (.sampleDrain q idx) s [.SND_T_LOST] [.freeCtr, .dir, .snd, .que] fun t =>
      Mach.Ended d (s.mach.startStatus d) s.mach t)

/-- R232 to R236, R238: data, atomic, rotation and record descriptors. -/
def Obligations.DataDescriptors : Prop :=
  (∀ (s : State) (q idx : Nat) (host : HostRead) (d : Desc), s.mach.Turn q idx d → d.op = 0x10 → (d.started = true ∨ s.mach.startStatus d = 0) →
    Completes (.copy q idx host) s (lineFields ++ [.TIER_HINT_DOWN, .SND_T_LOST])
      [.pages, .out, .freeCtr, .lines, .dir, .host, .bkw, .lhl, .arc, .bql, .snd, .que, .fry] fun t =>
      t = (Act.seq d.begun (dataStep d.seq host)).run s.mach) ∧
  (∀ (s : State) (q idx : Nat) (d : Desc), s.mach.Turn q idx d → d.op = 0x11 → (d.started = true ∨ s.mach.startStatus d = 0) →
    Completes (.fill q idx) s (lineFields ++ [.TIER_HINT_DOWN, .SND_T_LOST])
      [.pages, .out, .freeCtr, .lines, .dir, .host, .bkw, .lhl, .arc, .bql, .snd, .que, .fry] fun t =>
      t = (Act.seq d.begun (dataStep d.seq .failed)).run s.mach) ∧
  (∀ (s : State) (q idx : Nat) (d : Desc), s.mach.Turn q idx d → d.op = 0x12 → (d.started = true ∨ s.mach.startStatus d = 0) →
    Completes (.zero q idx) s (lineFields ++ [.TIER_HINT_DOWN, .SND_T_LOST])
      [.pages, .out, .freeCtr, .lines, .dir, .host, .bkw, .lhl, .arc, .bql, .snd, .que, .fry] fun t =>
      t = (Act.seq d.begun (dataStep d.seq .failed)).run s.mach) ∧
  (∀ (s : State) (q idx : Nat) (host : HostRead) (d : Desc), s.mach.Turn q idx d → d.op = 0x13 → (d.started = true ∨ s.mach.startStatus d = 0) →
    Completes (.compare q idx host) s (lineFields ++ [.TIER_HINT_DOWN, .SND_T_LOST])
      [.pages, .out, .freeCtr, .lines, .dir, .host, .bkw, .lhl, .arc, .bql, .snd, .que, .fry] fun t =>
      t = (Act.seq d.begun (dataStep d.seq host)).run s.mach) ∧
  (∀ (s : State) (q idx : Nat) (d : Desc), s.mach.Turn q idx d → d.op = 0x11 → (d.started = true ∨ s.mach.startStatus d = 0) →
    d.phase = 0 → d.pos = 0 → d.status = 0 → d.dstHost = false → 0 < d.len → s.mach.descAsks d 2 = [] →
    s.mach.ownerLine (s.mach.get .QP_OWNER q) d.dst = none →
    Completes (.fill q idx) s (countFields ++ [.SND_T_LOST]) [.freeCtr, .dir, .snd, .que] fun t =>
      Mach.Ended d stUnmapped s.mach t) ∧
  (∀ (s : State) (q idx : Nat) (d : Desc), s.mach.Turn q idx d → d.op = 0x12 → (d.started = true ∨ s.mach.startStatus d = 0) →
    d.phase = 0 → d.pos = 0 → d.status = 0 → d.dstHost = false → 0 < d.len → s.mach.descAsks d 2 = [] →
    s.mach.ownerLine (s.mach.get .QP_OWNER q) d.dst = none →
    Completes (.zero q idx) s (countFields ++ [.SND_T_LOST]) [.freeCtr, .dir, .snd, .que] fun t =>
      Mach.Ended d stUnmapped s.mach t) ∧
  (∀ (s : State) (q idx : Nat) (host : HostRead) (d : Desc), s.mach.Turn q idx d → d.op = 0x30 → (d.started = true ∨ s.mach.startStatus d = 0) →
    Completes (.atomic q idx host) s (lineFields ++ [.TIER_HINT_DOWN, .SND_T_LOST])
      [.pages, .out, .freeCtr, .lines, .dir, .host, .bkw, .lhl, .arc, .bql, .snd, .que, .fry] fun t =>
      t = (Act.seq d.begun (atomicStep d host)).run s.mach) ∧
  (∀ (s : State) (q idx : Nat) (host : HostRead) (d : Desc), s.mach.Turn q idx d → d.op = 0x30 → (d.started = true ∨ s.mach.startStatus d = 0) →
    d.phase = 0 → d.status = 0 → d.srcHost = true → s.mach.hostBytes (s.mach.get .QP_OWNER q) (64 * d.len) host = none →
    Completes (.atomic q idx host) s [.SND_T_LOST] [.freeCtr, .dir, .snd, .que] fun t =>
      Mach.Ended d stDma s.mach t) ∧
  (∀ (s : State) (q idx : Nat) (d : Desc), s.mach.Turn q idx d → d.op = 0x40 → (d.started = true ∨ s.mach.startStatus d = 0) →
    Completes (.sealRotate q idx) s [.ATL_TDL_STATE, .ATL_TDL_PAGE, .TDL_SLOT_ATOLL, .TDL_SLOT_STATE, .TDL_SLOT_AUTO, .TDL_SLOT_ERR,
        .TDL_SLOT_LINE, .TDL_SLOT_WINDOW, .TDL_SLOT_PAGES, .SND_T_LOST] [.freeCtr, .dir, .keys, .snd, .que] fun t =>
      t = (Act.seq d.begun (rotateStep d)).run s.mach) ∧
  (∀ (s : State) (q idx : Nat) (d : Desc), s.mach.Turn q idx d → d.op = 0x40 → (d.started = true ∨ s.mach.startStatus d = 0) →
    d.phase = 0 → d.status = 0 → s.mach.ownerAtoll (s.mach.get .QP_OWNER q) d.dst = none →
    Completes (.sealRotate q idx) s [.SND_T_LOST] [.freeCtr, .dir, .snd, .que] fun t =>
      Mach.Ended d stUnmapped s.mach t) ∧
  (∀ (s : State) (q idx n : Nat) (d : Desc), s.mach.Turn q idx d → d.op = 0x40 → (d.started = true ∨ s.mach.startStatus d = 0) →
    d.phase = 0 → d.status = 0 → s.mach.ownerAtoll (s.mach.get .QP_OWNER q) d.dst = some n → s.mach.rotErr s.mach.freeRot n ≠ 0 →
    Completes (.sealRotate q idx) s [.SND_T_LOST] [.freeCtr, .dir, .snd, .que] fun t =>
      Mach.Ended d stRotate s.mach t) ∧
  (∀ (s : State) (q idx : Nat) (d : Desc), s.mach.Turn q idx d → d.op = 0x50 → (d.started = true ∨ s.mach.startStatus d = 0) →
    Completes (.sampleDrain q idx) s (lineFields ++ [.TIER_HINT_DOWN, .SND_T_LOST])
      [.pages, .out, .freeCtr, .lines, .dir, .host, .bkw, .lhl, .arc, .bql, .snd, .que, .fry] fun t =>
      t = (Act.seq d.begun (drainStep d)).run s.mach) ∧
  (∀ (s : State) (q idx : Nat) (d : Desc), s.mach.Turn q idx d → d.op = 0x50 → (d.started = true ∨ s.mach.startStatus d = 0) →
    d.phase = 0 → d.status = 0 → d.dstHost = true → s.mach.descAsks d 2 = [] → s.mach.stagedFor (s.mach.get .QP_OWNER q) = [] →
    Completes (.sampleDrain q idx) s (countFields ++ [.SND_T_LOST]) [.freeCtr, .dir, .snd, .que] fun t =>
      Mach.Ended d 0 s.mach t) ∧
  (∀ (s : State) (q idx : Nat) (d : Desc), s.mach.Turn q idx d → d.op = 0x51 → d.num 32 1 = 0 → (d.started = true ∨ s.mach.startStatus d = 0) →
    Completes (.statsSummary q idx) s (lineFields ++ [.TIER_HINT_DOWN, .SND_T_LOST])
      [.pages, .out, .freeCtr, .lines, .dir, .host, .bkw, .lhl, .arc, .bql, .snd, .que, .fry] fun t =>
      t = (Act.seq d.begun (summaryStep d)).run s.mach) ∧
  (∀ (s : State) (q idx : Nat) (d : Desc), s.mach.Turn q idx d → d.op = 0x51 → d.num 32 1 = 0 → (d.started = true ∨ s.mach.startStatus d = 0) →
    d.phase = 0 → d.status = 0 → s.mach.ownerAtoll (s.mach.get .QP_OWNER q) d.src = none →
    Completes (.statsSummary q idx) s [.SND_T_LOST] [.freeCtr, .dir, .snd, .que] fun t =>
      Mach.Ended d stUnmapped s.mach t) ∧
  (∀ (s : State) (q idx n : Nat) (d : Desc), s.mach.Turn q idx d → d.op = 0x51 → d.num 32 1 = 0 → (d.started = true ∨ s.mach.startStatus d = 0) →
    d.phase = 0 → d.status = 0 → d.dstHost = true → s.mach.descAsks d 2 = [] → s.mach.hostReach (s.mach.get .QP_OWNER q) = true →
    s.mach.ownerAtoll (s.mach.get .QP_OWNER q) d.src = some n →
    Completes (.statsSummary q idx) s (countFields ++ [.SND_T_LOST]) [.out, .freeCtr, .dir, .snd, .que] fun t =>
      Mach.Ended d 0 s.mach t ∧
      t.out = s.mach.out ++ [.dmaWrite (s.mach.get .QP_OWNER q) d.dst (s.mach.summary n) false]) ∧
  (∀ (s : State) (q idx : Nat) (d : Desc), s.mach.Turn q idx d → d.op = 0x51 → d.num 32 1 = 1 → (d.started = true ∨ s.mach.startStatus d = 0) →
    Completes (.statsRecords q idx) s (lineFields ++ [.TIER_HINT_DOWN, .SND_T_LOST])
      [.pages, .out, .freeCtr, .lines, .dir, .host, .bkw, .lhl, .arc, .bql, .snd, .que, .fry] fun t =>
      t = (Act.seq d.begun (recordsStep d)).run s.mach)

/-- R138, R139, R235: page descriptors. -/
def Obligations.PageDescriptors : Prop :=
  (∀ (s : State) (q idx : Nat) (d : Desc), s.mach.Turn q idx d → d.op = 0x20 → (d.started = true ∨ s.mach.startStatus d = 0) →
    Completes (.moveTier q idx) s (plotFields ++ countFields ++ [.GRN_MOVES, .GRN_MOVE_ABORTS, .TIER_SINKS, .TIER_LIFTS_GROWTH,
        .TIER_LIFTS_HEAT, .TDL_EPOCH_STOPS, .RGL_M_LINES, .SND_T_LOST])
      [.dram, .pages, .out, .freeCtr, .lines, .dir, .grain, .keys, .host, .bkw, .lhl, .arc, .bql, .snd, .que, .rgl] fun t =>
      t = (Act.seq d.begun (pageStep d)).run s.mach) ∧
  (∀ (s : State) (q idx : Nat) (d : Desc), s.mach.Turn q idx d → d.op = 0x21 → (d.started = true ∨ s.mach.startStatus d = 0) →
    Completes (.pin q idx) s (plotFields ++ countFields ++ [.GRN_MOVES, .GRN_MOVE_ABORTS, .TIER_SINKS, .TIER_LIFTS_GROWTH,
        .TIER_LIFTS_HEAT, .TDL_EPOCH_STOPS, .RGL_M_LINES, .SND_T_LOST])
      [.dram, .pages, .out, .freeCtr, .lines, .dir, .grain, .keys, .host, .bkw, .lhl, .arc, .bql, .snd, .que, .rgl] fun t =>
      t = (Act.seq d.begun (pageStep d)).run s.mach) ∧
  (∀ (s : State) (q idx : Nat) (d : Desc), s.mach.Turn q idx d → d.op = 0x22 → (d.started = true ∨ s.mach.startStatus d = 0) →
    Completes (.unpin q idx) s (plotFields ++ countFields ++ [.GRN_MOVES, .GRN_MOVE_ABORTS, .TIER_SINKS, .TIER_LIFTS_GROWTH,
        .TIER_LIFTS_HEAT, .TDL_EPOCH_STOPS, .RGL_M_LINES, .SND_T_LOST])
      [.dram, .pages, .out, .freeCtr, .lines, .dir, .grain, .keys, .host, .bkw, .lhl, .arc, .bql, .snd, .que, .rgl] fun t =>
      t = (Act.seq d.begun (pageStep d)).run s.mach) ∧
  (∀ (s : State) (q idx : Nat) (d : Desc), s.mach.Turn q idx d → d.op = 0x23 → (d.started = true ∨ s.mach.startStatus d = 0) →
    Completes (.hintHeat q idx) s (plotFields ++ countFields ++ [.GRN_MOVES, .GRN_MOVE_ABORTS, .TIER_SINKS, .TIER_LIFTS_GROWTH,
        .TIER_LIFTS_HEAT, .TDL_EPOCH_STOPS, .RGL_M_LINES, .SND_T_LOST])
      [.dram, .pages, .out, .freeCtr, .lines, .dir, .grain, .keys, .host, .bkw, .lhl, .arc, .bql, .snd, .que, .rgl] fun t =>
      t = (Act.seq d.begun (pageStep d)).run s.mach) ∧
  (∀ (s : State) (q idx : Nat) (d : Desc), s.mach.Turn q idx d → d.op = 0x24 → (d.started = true ∨ s.mach.startStatus d = 0) →
    Completes (.offshorePush q idx) s (plotFields ++ countFields ++ [.GRN_MOVES, .GRN_MOVE_ABORTS, .TIER_SINKS, .TIER_LIFTS_GROWTH,
        .TIER_LIFTS_HEAT, .TDL_EPOCH_STOPS, .RGL_M_LINES, .SND_T_LOST])
      [.dram, .pages, .out, .freeCtr, .lines, .dir, .grain, .keys, .host, .bkw, .lhl, .arc, .bql, .snd, .que, .rgl] fun t =>
      t = (Act.seq d.begun (pageStep d)).run s.mach) ∧
  (∀ (s : State) (q idx : Nat) (d : Desc), s.mach.Turn q idx d → d.op = 0x25 → (d.started = true ∨ s.mach.startStatus d = 0) →
    Completes (.recall q idx) s (plotFields ++ countFields ++ [.GRN_MOVES, .GRN_MOVE_ABORTS, .TIER_SINKS, .TIER_LIFTS_GROWTH,
        .TIER_LIFTS_HEAT, .TDL_EPOCH_STOPS, .RGL_M_LINES, .SND_T_LOST])
      [.dram, .pages, .out, .freeCtr, .lines, .dir, .grain, .keys, .host, .bkw, .lhl, .arc, .bql, .snd, .que, .rgl] fun t =>
      t = (Act.seq d.begun (pageStep d)).run s.mach) ∧
  (∀ (s : State) (q idx : Nat) (d : Desc), s.mach.Turn q idx d → d.op = 0x41 → (d.started = true ∨ s.mach.startStatus d = 0) →
    Completes (.mirrorSync q idx) s (plotFields ++ countFields ++ [.GRN_MOVES, .GRN_MOVE_ABORTS, .TIER_SINKS, .TIER_LIFTS_GROWTH,
        .TIER_LIFTS_HEAT, .TDL_EPOCH_STOPS, .RGL_M_LINES, .SND_T_LOST])
      [.dram, .pages, .out, .freeCtr, .lines, .dir, .grain, .keys, .host, .bkw, .lhl, .arc, .bql, .snd, .que, .rgl] fun t =>
      t = (Act.seq d.begun (pageStep d)).run s.mach) ∧
  (∀ (s : State) (q idx l n : Nat) (d : Desc), s.mach.Turn q idx d → d.op = 0x22 → (d.started = true ∨ s.mach.startStatus d = 0) →
    d.pos = 0 → d.len = 4096 → d.waitRes = 0 → d.status = 0 → s.mach.ownerLine (s.mach.get .QP_OWNER q) d.dst = some l →
    s.mach.atollOf (pageOfLine l) = some n → s.mach.isRemote n = false →
    Completes (.unpin q idx) s [.SND_T_LOST] [.pages, .freeCtr, .dir, .snd, .que] fun t =>
      Mach.Ended d 0 s.mach t ∧
      (t.page (pageOfLine l)).rcd = { (s.mach.page (pageOfLine l)).rcd with pin := false } ∧
      ∀ p, p ≠ pageOfLine l → t.page p = s.mach.page p) ∧
  (∀ (s : State) (q idx l n : Nat) (d : Desc), s.mach.Turn q idx d → d.op = 0x23 → (d.started = true ∨ s.mach.startStatus d = 0) →
    d.pos = 0 → d.len = 4096 → d.waitRes = 0 → d.status = 0 → s.mach.ownerLine (s.mach.get .QP_OWNER q) d.dst = some l →
    s.mach.atollOf (pageOfLine l) = some n → s.mach.isRemote n = false →
    Completes (.hintHeat q idx) s [.SND_T_LOST] [.pages, .freeCtr, .dir, .snd, .que] fun t =>
      Mach.Ended d 0 s.mach t ∧
      (t.page (pageOfLine l)).rcd =
        { (s.mach.page (pageOfLine l)).rcd with count := d.num 32 2, stamp := s.mach.get .TIER_PERIOD_NOW % 64 } ∧
      ∀ p, p ≠ pageOfLine l → t.page p = s.mach.page p) ∧
  (∀ (s : State) (q idx l n : Nat) (d : Desc), s.mach.Turn q idx d → d.op = 0x21 → (d.started = true ∨ s.mach.startStatus d = 0) →
    d.pos = 0 → d.len = 4096 → d.waitRes = 0 → d.status = 0 → s.mach.ownerLine (s.mach.get .QP_OWNER q) d.dst = some l →
    s.mach.atollOf (pageOfLine l) = some n → s.mach.isRemote n = false →
    s.mach.get .ATL_PLACE n = 0 → (s.mach.page (pageOfLine l)).rcd.tier = tierOfByte (d.num 32 1) →
    Completes (.pin q idx) s [.SND_T_LOST] [.pages, .freeCtr, .dir, .snd, .que] fun t =>
      Mach.Ended d 0 s.mach t ∧
      (t.page (pageOfLine l)).rcd = { (s.mach.page (pageOfLine l)).rcd with pin := true, pinTier := d.num 32 1 } ∧
      ∀ p, p ≠ pageOfLine l → t.page p = s.mach.page p) ∧
  (∀ (s : State) (q idx l n : Nat) (d : Desc), s.mach.Turn q idx d → d.op = 0x21 → (d.started = true ∨ s.mach.startStatus d = 0) →
    d.pos = 0 → d.len = 4096 → d.waitRes = 0 → d.status = 0 → s.mach.ownerLine (s.mach.get .QP_OWNER q) d.dst = some l →
    s.mach.atollOf (pageOfLine l) = some n → s.mach.isRemote n = false →
    s.mach.get .ATL_PLACE n ≠ 0 → s.mach.pinTier n (s.mach.page (pageOfLine l)).rcd ≠ some (tierOfByte (d.num 32 1)) →
    Completes (.pin q idx) s [.SND_T_LOST] [.freeCtr, .dir, .snd, .que] fun t =>
      Mach.Ended d stPinned s.mach t) ∧
  (∀ (s : State) (q idx l n : Nat) (d : Desc), s.mach.Turn q idx d → d.op = 0x20 → (d.started = true ∨ s.mach.startStatus d = 0) →
    d.pos = 0 → d.len = 4096 → d.waitRes = 0 → d.status = 0 → s.mach.ownerLine (s.mach.get .QP_OWNER q) d.dst = some l →
    s.mach.atollOf (pageOfLine l) = some n → s.mach.isRemote n = false →
    s.mach.pinned n (s.mach.page (pageOfLine l)).rcd = true →
    Completes (.moveTier q idx) s [.SND_T_LOST] [.freeCtr, .dir, .snd, .que] fun t =>
      Mach.Ended d stPinned s.mach t) ∧
  (∀ (s : State) (q idx l n : Nat) (d : Desc), s.mach.Turn q idx d → d.op = 0x20 → (d.started = true ∨ s.mach.startStatus d = 0) →
    d.pos = 0 → d.len = 4096 → d.waitRes = 0 → d.status = 0 → s.mach.ownerLine (s.mach.get .QP_OWNER q) d.dst = some l →
    s.mach.atollOf (pageOfLine l) = some n → s.mach.isRemote n = false →
    s.mach.pinned n (s.mach.page (pageOfLine l)).rcd = false → (s.mach.page (pageOfLine l)).rcd.tier = tierOfByte (d.num 32 1) →
    Completes (.moveTier q idx) s [.SND_T_LOST] [.freeCtr, .dir, .snd, .que] fun t =>
      Mach.Ended d 0 s.mach t) ∧
  (∀ (s : State) (q idx l n : Nat) (d : Desc), s.mach.Turn q idx d → d.op = 0x24 → (d.started = true ∨ s.mach.startStatus d = 0) →
    d.pos = 0 → d.len = 4096 → d.waitRes = 0 → d.status = 0 → s.mach.ownerLine (s.mach.get .QP_OWNER q) d.dst = some l →
    s.mach.atollOf (pageOfLine l) = some n → s.mach.isRemote n = false →
    s.mach.sled = .dx16 ∨ s.mach.get .ATL_OFFSHORE n ≠ 1 →
    Completes (.offshorePush q idx) s [.SND_T_LOST] [.freeCtr, .dir, .snd, .que] fun t =>
      Mach.Ended d stForbidden s.mach t) ∧
  (∀ (s : State) (q idx l n : Nat) (d : Desc), s.mach.Turn q idx d → d.op = 0x25 → (d.started = true ∨ s.mach.startStatus d = 0) →
    d.pos = 0 → d.len = 4096 → d.waitRes = 0 → d.status = 0 → s.mach.ownerLine (s.mach.get .QP_OWNER q) d.dst = some l →
    s.mach.atollOf (pageOfLine l) = some n → s.mach.isRemote n = false →
    (s.mach.page (pageOfLine l)).rcd.tier ≠ .offshore →
    Completes (.recall q idx) s [.SND_T_LOST] [.freeCtr, .dir, .snd, .que] fun t =>
      Mach.Ended d 0 s.mach t) ∧
  (∀ (s : State) (q idx l n : Nat) (d : Desc), s.mach.Turn q idx d → d.op = 0x41 → (d.started = true ∨ s.mach.startStatus d = 0) →
    d.pos = 0 → d.len = 4096 → d.waitRes = 0 → d.status = 0 → s.mach.ownerLine (s.mach.get .QP_OWNER q) d.dst = some l →
    s.mach.atollOf (pageOfLine l) = some n → s.mach.isRemote n = false →
    s.mach.get .ATL_MIRROR n = 0 →
    Completes (.mirrorSync q idx) s [.SND_T_LOST] [.freeCtr, .dir, .snd, .que] fun t =>
      Mach.Ended d stNotMirrored s.mach t) ∧
  (∀ (s : State) (q idx l n : Nat) (d : Desc), s.mach.Turn q idx d → d.op = 0x41 → (d.started = true ∨ s.mach.startStatus d = 0) →
    d.pos = 0 → d.len = 4096 → d.waitRes = 0 → d.status = 0 → s.mach.ownerLine (s.mach.get .QP_OWNER q) d.dst = some l →
    s.mach.atollOf (pageOfLine l) = some n → s.mach.isRemote n = false →
    s.mach.get .ATL_MIRROR n ≠ 0 → s.mach.upLink (s.mach.get .ATL_PARTNER n) = none →
    Completes (.mirrorSync q idx) s [.SND_T_LOST] [.freeCtr, .dir, .snd, .que] fun t =>
      Mach.Ended d stPeerDown s.mach t)

/-- R247 to R250, R252, R254, R256: the Ferry port. -/
def Obligations.FerryBursts : Prop :=
  (∀ (s : State) (n len : Nat) (data : List Byte) (en : List Bool), n < 256 → s.mach.ldUp n false = true → s.mach.fatal = false →
    len = (burstSpan data en).length → len ≠ 0 → s.mach.burstErr n len = none →
    Completes (.ferryWriteBurst (.ld n) data en) s (lineFields ++ [.TIER_HINT_DOWN, .FRY_CURSOR, .FRY_WR_BYTES])
      [.pages, .out, .freeCtr, .lines, .dir, .host, .bkw, .lhl, .arc, .bql, .snd, .fry] fun t =>
      t.get .FRY_CURSOR n = (s.mach.get .FRY_CURSOR n + len) % 2 ^ 64 ∧
      t.get .FRY_WR_BYTES n = (s.mach.get .FRY_WR_BYTES n + len) % 2 ^ 48 ∧
      Mach.Others .FRY_CURSOR n s.mach t ∧ Mach.Others .FRY_WR_BYTES n s.mach t) ∧
  (∀ (s : State) (n e : Nat) (data : List Byte) (en : List Bool), n < 256 → s.mach.ldUp n false = true → s.mach.fatal = false →
    burstSpan data en ≠ [] → s.mach.burstErr n (burstSpan data en).length = some e →
    Completes (.ferryWriteBurst (.ld n) data en) s (countFields ++ [.FRY_ERR, .FRY_REJECTS]) [] fun t =>
      t.get .FRY_REJECTS n = (s.mach.get .FRY_REJECTS n + 1) % 2 ^ 32 ∧
      t.get .FRY_ERR n = withBit (s.mach.get .FRY_ERR n) e true % 2 ^ 5 ∧
      Mach.Others .FRY_REJECTS n s.mach t ∧ Mach.Others .FRY_ERR n s.mach t) ∧
  (∀ (s : State) (w : FerryPort) (data : List Byte) (en : List Bool), burstSpan data en = [] →
    Completes (.ferryWriteBurst w data en) s [] [] fun t => t = s.mach) ∧
  (∀ (s : State) (n len : Nat), n < 256 → s.mach.ldUp n false = true → s.mach.fatal = false → s.mach.burstErr n len = none →
    Completes (.ferryReadBurst (.ld n) len) s (lineFields ++ [.TIER_HINT_DOWN, .FRY_CURSOR, .FRY_RD_BYTES])
      [.pages, .out, .freeCtr, .lines, .dir, .host, .bkw, .lhl, .arc, .bql, .snd, .fry] fun t =>
      t.get .FRY_CURSOR n = (s.mach.get .FRY_CURSOR n + len) % 2 ^ 64 ∧
      t.get .FRY_RD_BYTES n = (s.mach.get .FRY_RD_BYTES n + len) % 2 ^ 48 ∧
      Mach.Others .FRY_CURSOR n s.mach t ∧ Mach.Others .FRY_RD_BYTES n s.mach t) ∧
  (∀ (s : State) (n len e : Nat), n < 256 → s.mach.ldUp n false = true → s.mach.fatal = false → s.mach.burstErr n len = some e →
    Completes (.ferryReadBurst (.ld n) len) s (countFields ++ [.FRY_ERR, .FRY_REJECTS]) [.out] fun t =>
      t.get .FRY_REJECTS n = (s.mach.get .FRY_REJECTS n + 1) % 2 ^ 32 ∧
      t.get .FRY_ERR n = withBit (s.mach.get .FRY_ERR n) e true % 2 ^ 5 ∧ t.out = s.mach.out ++ [.ferryData n 1 []] ∧
      Mach.Others .FRY_REJECTS n s.mach t ∧ Mach.Others .FRY_ERR n s.mach t) ∧
  (∀ (s : State) (eid len : Nat), s.mach.ebbing = false → mctpLenOk len = false →
    Completes (.ferryReadBurst (.mctp eid) len) s countFields [.out] fun t => t.out = s.mach.out ++ [.mctp eid 0x83 []]) ∧
  (∀ (s : State) (eid len : Nat), s.mach.ebbing = false → mctpLenOk len = true → s.mach.ferrySlot eid = none →
    Completes (.ferryReadBurst (.mctp eid) len) s countFields [.out] fun t => t.out = s.mach.out ++ [.mctp eid 0x80 []]) ∧
  (∀ (s : State) (eid len k : Nat), s.mach.ebbing = false → mctpLenOk len = true → s.mach.ferrySlot eid = some k →
    s.mach.burstErr (256 + k) len = none →
    Completes (.ferryReadBurst (.mctp eid) len) s (lineFields ++ [.TIER_HINT_DOWN, .FRY_M_CURSOR, .FRY_M_RD_BYTES])
      [.pages, .out, .freeCtr, .lines, .dir, .host, .bkw, .lhl, .arc, .bql, .snd, .fry] fun t =>
      t.get .FRY_M_CURSOR k = (s.mach.get .FRY_M_CURSOR k + len) % 2 ^ 64 ∧
      t.get .FRY_M_RD_BYTES k = (s.mach.get .FRY_M_RD_BYTES k + len) % 2 ^ 48 ∧ Mach.Others .FRY_M_CURSOR k s.mach t) ∧
  (∀ (s : State) (n v : Nat), n < 256 → s.mach.ldUp n false = true → s.mach.fatal = false →
    Completes (.ferryCursorWrite (.ld n) v 8) s (countFields ++ [.FRY_CURSOR]) [.fry] fun t =>
      t.get .FRY_CURSOR n = v % 2 ^ 64 ∧ t.fry.ranges.find? n = s.mach.rangeAt n (v % 2 ^ 64) ∧
      t.fry.bursts = s.mach.fry.bursts ∧ Mach.Others .FRY_CURSOR n s.mach t) ∧
  (∀ (s : State) (n v size : Nat), s.mach.ldUp n false = true → s.mach.fatal = false → size < 8 →
    Completes (.ferryCursorWrite (.ld n) v size) s (countFields ++ [.FRY_REJECTS]) [] fun t =>
      t.get .FRY_REJECTS n = (s.mach.get .FRY_REJECTS n + 1) % 2 ^ 32 ∧ Mach.Others .FRY_REJECTS n s.mach t) ∧
  (∀ (s : State) (eid v size k : Nat), s.mach.ferrySlot eid = some k →
    Completes (.ferryCursorWrite (.mctp eid) v size) s [.FRY_M_CURSOR] [.fry] fun t =>
      t.get .FRY_M_CURSOR k = Bits.setField (s.mach.get .FRY_M_CURSOR k) 0 (8 * min size 8) v % 2 ^ 64 ∧
      Mach.Others .FRY_M_CURSOR k s.mach t) ∧
  (∀ (s : State) (wr : Bool), Completes (.ferryMgmtAccess wr) s [.FRY_MGMT_IGNORED] [.out] fun t =>
      t.get .FRY_MGMT_IGNORED = (s.mach.get .FRY_MGMT_IGNORED + 1) % 2 ^ 32 ∧
      t.out = s.mach.out ++ (if wr then [] else [.setupRead 0x470000 0])) ∧
  (∀ (s : State) (ld tag : Nat), s.mach.ldUp ld false = true → s.mach.fatal = false →
    Completes (.ferryAtomicop ld tag) s countFields [.out, .freeCtr] fun t => t.out = s.mach.out ++ [.completion ld tag 1 []])

/-- R258 to R260, R273, R278, R279, R281 to R283: ports, link states and rates. -/
def Obligations.PortsAndLinks : Prop :=
  (∀ (s : State) (p : Nat), s.mach.sled = .dx32 → p < 2 → s.mach.get .BQL_P_EN p ≠ 1 →
    Completes (.portEnable p true) s [.BQL_WR_REFUSED, .BQL_P_EN, .BQL_P_POWERED, .BQL_P_SETTLED] [.bql] fun t =>
      t.get .BQL_P_EN p = 1 ∧ t.get .BQL_P_POWERED p = 1 ∧ t.phyMode p = s.mach.get .BQL_P_MODE p ∧
      t.get .BQL_P_SETTLED p = t.portRate p ∧ t.get .BQL_WR_REFUSED 0 = 0 ∧
      Mach.Others .BQL_P_EN p s.mach t ∧ Mach.Others .BQL_P_POWERED p s.mach t ∧ Mach.Others .BQL_P_SETTLED p s.mach t) ∧
  (∀ (s : State) (p : Nat), s.mach.sled = .dx32 → p < 2 → s.mach.get .BQL_P_EN p = 1 →
    Completes (.portEnable p true) s [.BQL_WR_REFUSED] [] fun t => t.get .BQL_WR_REFUSED 0 = 0) ∧
  (∀ (s : State) (p : Nat), s.mach.sled = .dx32 → p < 2 → (∀ r, r < 8 → s.mach.get .BQL_L_STATE (8 * p + r) = blDown) →
    Completes (.portEnable p false) s [.BQL_WR_REFUSED, .BQL_P_EN, .BQL_P_POWERED, .BQL_P_SETTLED, .BQL_P_LANES] [] fun t =>
      t.get .BQL_P_EN p = 0 ∧ t.get .BQL_P_POWERED p = 0 ∧ t.get .BQL_P_LANES p = 0 ∧ t.get .BQL_P_SETTLED p = 0 ∧
      Mach.Others .BQL_P_EN p s.mach t ∧ Mach.Others .BQL_P_POWERED p s.mach t) ∧
  (∀ (s : State) (p r : Nat), s.mach.sled = .dx32 → p < 2 → r < 8 → s.mach.get .BQL_L_STATE (8 * p + r) ≠ blDown →
    Completes (.portEnable p false) s [.BQL_WR_REFUSED, .BQL_P_EN] [] fun t => t.get .BQL_P_EN p = 0 ∧ Mach.Others .BQL_P_EN p s.mach t) ∧
  (∀ (s : State) (l : Nat), s.mach.sled = .dx32 → l < 16 → s.mach.get .BQL_L_EN l ≠ 1 →
    s.mach.linkRefused l (s.mach.get .BQL_L_REQ_BUDGET l) = false →
    Completes (.linkEnable l true) s [.BQL_WR_REFUSED, .BQL_L_EN, .BQL_L_STATE] [.freeCtr, .bql] fun t =>
      t.get .BQL_L_EN l = 1 ∧ t.get .BQL_WR_REFUSED 0 = 0 ∧
      t.get .BQL_L_STATE l = (if s.mach.get .BQL_L_STATE l = blDown then blHello else s.mach.get .BQL_L_STATE l) ∧
      (t.blink l).nonce ≠ 0 ∧ (t.blink l).budget = none ∧ (t.blink l).replay = (s.mach.blink l).replay ∧
      Mach.Others .BQL_L_EN l s.mach t ∧ Mach.Others .BQL_L_STATE l s.mach t) ∧
  (∀ (s : State) (l : Nat), s.mach.sled = .dx32 → l < 16 → s.mach.get .BQL_L_EN l ≠ 1 →
    s.mach.linkRefused l (s.mach.get .BQL_L_REQ_BUDGET l) = true →
    Completes (.linkEnable l true) s [.BQL_WR_REFUSED] [] fun t => t.get .BQL_WR_REFUSED 0 = 1) ∧
  (∀ (s : State) (l : Nat), s.mach.sled = .dx32 → l < 16 → s.mach.get .BQL_L_EN l = 1 → s.mach.get .BQL_L_STATE l = blHello →
    Completes (.linkEnable l false) s [.BQL_WR_REFUSED, .BQL_L_EN, .BQL_L_STATE, .BQL_P_POWERED, .BQL_P_SETTLED, .BQL_P_LANES] [] fun t =>
      t.get .BQL_L_EN l = 0 ∧ t.get .BQL_L_STATE l = blDown ∧ Mach.Others .BQL_L_EN l s.mach t ∧ Mach.Others .BQL_L_STATE l s.mach t ∧
      (s.mach.get .BQL_P_EN (l / 8) = 1 → t.get .BQL_P_POWERED (l / 8) = s.mach.get .BQL_P_POWERED (l / 8))) ∧
  (∀ (s : State) (l : Nat), s.mach.sled = .dx32 → l < 16 → s.mach.get .BQL_L_EN l = 1 → s.mach.get .BQL_L_STATE l = blDown ∨
      s.mach.get .BQL_L_STATE l = blFlushing →
    Completes (.linkEnable l false) s [.BQL_WR_REFUSED, .BQL_L_EN] [] fun t => t.get .BQL_L_EN l = 0 ∧ Mach.Others .BQL_L_EN l s.mach t) ∧
  (∀ (s : State) (l : Nat), s.mach.sled = .dx32 → l < 16 → s.mach.get .BQL_L_EN l = 1 →
    s.mach.get .BQL_L_STATE l = blUp ∨ s.mach.get .BQL_L_STATE l = blHeld ∨ s.mach.get .BQL_L_STATE l = blGrace →
    Completes (.linkEnable l false) s (lineFields ++ [.DIR_LOST_POISONED, .BQL_WR_REFUSED, .BQL_L_EN, .BQL_P_REPLAY_USED, .BQL_L_STATE,
        .BQL_L_FLUSHES, .BQL_L_LOST_FIRST, .BQL_L_LOST_END, .BQL_L_PEER_DLV_VALID, .ARC_MEMBERS, .ARC_REL_PENDING])
      [.dram, .pages, .out, .freeCtr, .lines, .dir, .host, .bkw, .lhl, .arc, .bql, .snd, .que, .fry] fun t =>
      t.get .BQL_L_EN l = 0 ∧ t.get .BQL_L_STATE l = blFlushing ∧ t.get .BQL_L_FLUSHES l = (s.mach.get .BQL_L_FLUSHES l + 1) % 2 ^ 32) ∧
  (∀ (s : State) (l v : Nat), s.mach.sled = .dx32 → l < 16 →
    Completes (.anTxWrite l v) s [.BQL_WR_REFUSED, .BQL_L_AN_TX] [] fun t =>
      t.get .BQL_L_AN_TX l = v % 2 ∧ t.get .BQL_WR_REFUSED 0 = 0 ∧ Mach.Others .BQL_L_AN_TX l s.mach t) ∧
  (∀ (s : State) (l : Nat), s.mach.get .BQL_L_STATE l = blUp ∨ s.mach.get .BQL_L_STATE l = blHeld →
    Completes (.linkLoss l) s (lineFields ++ [.ATL_PARTNER_UP, .DIR_LOST_POISONED, .BQL_P_REPLAY_USED, .BQL_L_STATE, .BQL_L_LOSSES,
        .BQL_L_FLUSHES, .BQL_L_LOST_FIRST, .BQL_L_LOST_END, .BQL_L_PEER_DLV_VALID, .ARC_MEMBERS, .ARC_REL_PENDING, .ARC_WIT_HOLDER,
        .ARC_WIT_VALID, .ARC_ATL_FENCED])
      [.dram, .pages, .out, .freeCtr, .lines, .dir, .host, .bkw, .lhl, .arc, .bql, .snd, .que, .fry] fun t =>
      t.get .BQL_L_LOSSES l = (s.mach.get .BQL_L_LOSSES l + 1) % 2 ^ 32 ∧
      (t.get .BQL_L_STATE l = blGrace ∨ t.get .BQL_L_STATE l = blFlushing) ∧
      Mach.Others .BQL_L_LOSSES l s.mach t ∧ Mach.Others .BQL_L_STATE l s.mach t) ∧
  (∀ (s : State) (l : Nat), s.mach.get .BQL_L_STATE l ≠ blUp → s.mach.get .BQL_L_STATE l ≠ blHeld →
    Completes (.linkLoss l) s [] [] fun t => t = s.mach) ∧
  (∀ (s : State) (l : Nat), (s.mach.blink l).landFull = true → s.mach.get .BQL_L_STATE l = blUp ∨ s.mach.get .BQL_L_STATE l = blHeld →
    Completes (.landingStallTimeout l) s (lineFields ++ [.ATL_PARTNER_UP, .DIR_LOST_POISONED, .BQL_P_REPLAY_USED, .BQL_L_STATE,
        .BQL_L_LOSSES, .BQL_L_FLUSHES, .BQL_L_LOST_FIRST, .BQL_L_LOST_END, .BQL_L_PEER_DLV_VALID, .ARC_MEMBERS, .ARC_REL_PENDING,
        .ARC_WIT_HOLDER, .ARC_WIT_VALID, .ARC_ATL_FENCED])
      [.dram, .pages, .out, .freeCtr, .lines, .dir, .host, .bkw, .lhl, .arc, .bql, .snd, .que, .fry] fun t =>
      t = (declareLoss l).run s.mach ∧ (t.get .BQL_L_STATE l = blGrace ∨ t.get .BQL_L_STATE l = blFlushing)) ∧
  (∀ (s : State) (l : Nat), (s.mach.blink l).landFull = false → Completes (.landingStallTimeout l) s [] [] fun t => t = s.mach) ∧
  (∀ (s : State) (l : Nat), s.mach.get .BQL_L_STATE l = blGrace →
    Completes (.graceExpiry l) s (lineFields ++ [.DIR_LOST_POISONED, .BQL_P_REPLAY_USED, .BQL_L_STATE, .BQL_L_FLUSHES, .BQL_L_LOST_FIRST,
        .BQL_L_LOST_END, .BQL_L_PEER_DLV_VALID, .ARC_MEMBERS, .ARC_REL_PENDING])
      [.dram, .pages, .out, .freeCtr, .lines, .dir, .host, .bkw, .lhl, .arc, .bql, .snd, .que, .fry] fun t =>
      t.get .BQL_L_STATE l = blFlushing ∧ t.get .BQL_L_FLUSHES l = (s.mach.get .BQL_L_FLUSHES l + 1) % 2 ^ 32 ∧
      t.get .BQL_L_LOST_FIRST l = s.mach.get .BQL_L_TX_ACKED l % 2 ^ 32 ∧ t.get .BQL_L_LOST_END l = s.mach.get .BQL_L_TX_SEQ l % 2 ^ 32 ∧
      t.get .BQL_L_PEER_DLV_VALID l = 0 ∧ Mach.Others .BQL_L_STATE l s.mach t ∧ Mach.Others .BQL_L_FLUSHES l s.mach t) ∧
  (∀ (s : State) (l : Nat), s.mach.get .BQL_L_STATE l ≠ blGrace → Completes (.graceExpiry l) s [] [] fun t => t = s.mach) ∧
  (∀ (s : State) (l : Nat), s.mach.get .BQL_L_STATE l = blFlushing →
    Completes (.flushComplete l) s [.BQL_P_POWERED, .BQL_P_SETTLED, .BQL_P_LANES, .BQL_L_STATE] [.freeCtr, .bql] fun t =>
      t.get .BQL_L_STATE l = blDown ∧ Mach.Others .BQL_L_STATE l s.mach t ∧
      (s.mach.get .BQL_P_EN (l / 8) = 1 → ∀ p, t.get .BQL_P_POWERED p = s.mach.get .BQL_P_POWERED p ∧
        t.get .BQL_P_LANES p = s.mach.get .BQL_P_LANES p) ∧
      (s.mach.get .BQL_L_EN l = 1 → (t.blink l).nonce ≠ 0 ∧ (t.blink l).budget = none)) ∧
  (∀ (s : State) (p lanes : Nat), s.mach.sled = .dx32 → s.mach.get .BQL_P_POWERED p = 1 →
    Completes (.portLaneChange p lanes) s (countFields ++ [.BQL_P_SETTLED, .BQL_P_LANES]) [.out, .bql] fun t =>
      t.get .BQL_P_LANES p = lanes % 2 ^ 8 ∧ t.get .BQL_P_SETTLED p =
        (if s.mach.phyMode p = 0 then (if lanes % 2 ^ 8 = 0xFF then 2 else 0) else if lanes % 2 ^ 8 % 16 = 15 then 1 else 0) ∧
      Mach.Others .BQL_P_LANES p s.mach t ∧ Mach.Others .BQL_P_SETTLED p s.mach t ∧
      ((∀ l, l ∈ s.mach.portLinks p → s.mach.get .BQL_L_STATE l ≠ blUp) → t.out = s.mach.out)) ∧
  (∀ (s : State) (p l lanes rate : Nat) (phy : Bool), s.mach.sled = .dx32 → s.mach.get .BQL_P_POWERED p = 1 → s.mach.portLinks p = [l] →
    s.mach.get .BQL_L_STATE l = blUp → (s.mach.blink l).reneg = none →
    rate = (if lanes % 256 = 0xFF then 2 else if lanes % 16 = 15 then 1 else 0) → rate ≠ 0 → rate ≠ s.mach.get .BQL_L_RATE l →
    phy = (s.mach.flag .BQL_P_DIRECT p && rate != s.mach.modeRate p) → phy = true ∨ rate ≤ s.mach.modeRate p →
    Completes (.portLaneChange p lanes) s (countFields ++ [.BQL_P_SETTLED, .BQL_P_LANES]) [.out, .bql] fun t =>
      t.out = s.mach.out ++ [.ctl l 5 [s.mach.get .BQL_L_RX_EXPECT l, ((s.mach.blink l).renegId + 1) % 256, rate, Bits.ofBool phy,
        s.mach.get .ID_IDENT]] ∧
      (t.blink l).reneg = some { id := ((s.mach.blink l).renegId + 1) % 256, rate := rate, phy := phy }) ∧
  (∀ (s : State) (l pid rate ident : Nat) (phy : Bool), s.mach.sled = .dx32 → s.mach.get .BQL_L_EN l = 1 → s.mach.get .BQL_L_STATE l ≠ blUp →
    Completes (.reneg l pid rate phy ident) s [.BQL_L_RENEG_LOST] [] fun t =>
      t.get .BQL_L_RENEG_LOST l = (s.mach.get .BQL_L_RENEG_LOST l + 1) % 2 ^ 16 ∧ Mach.Others .BQL_L_RENEG_LOST l s.mach t) ∧
  (∀ (s : State) (l pid rate ident : Nat) (phy : Bool), s.mach.sled = .dx32 → s.mach.get .BQL_L_EN l = 1 → s.mach.get .BQL_L_STATE l = blUp →
    (s.mach.blink l).reneg = none → s.mach.canRun l rate phy = false →
    Completes (.reneg l pid rate phy ident) s countFields [.out, .bql] fun t =>
      t.out = s.mach.out ++ [.ctl l 6 [s.mach.get .BQL_L_RX_EXPECT l, pid, 1]]) ∧
  (∀ (s : State) (l pid rate ident : Nat), s.mach.sled = .dx32 → s.mach.get .BQL_L_EN l = 1 → s.mach.get .BQL_L_STATE l = blUp →
    (s.mach.blink l).reneg = none → s.mach.canRun l rate false = true →
    Completes (.reneg l pid rate false ident) s (countFields ++ [.BQL_L_RATE]) [.out, .bql] fun t =>
      t.out = s.mach.out ++ [.ctl l 6 [s.mach.get .BQL_L_RX_EXPECT l, pid, 0]] ∧ t.get .BQL_L_RATE l = rate % 2 ^ 2 ∧
      Mach.Others .BQL_L_RATE l s.mach t) ∧
  (∀ (s : State) (l pid rate ident : Nat), s.mach.sled = .dx32 → s.mach.get .BQL_L_EN l = 1 → s.mach.get .BQL_L_STATE l = blUp →
    (s.mach.blink l).reneg = none → s.mach.canRun l rate true = true →
    Completes (.reneg l pid rate true ident) s (countFields ++ [.BQL_L_STATE, .BQL_P_SETTLED]) [.out, .freeCtr, .bql] fun t =>
      t.out = s.mach.out ++ [.ctl l 6 [s.mach.get .BQL_L_RX_EXPECT l, pid, 0]] ∧ t.get .BQL_L_STATE l = blHeld ∧
      t.phyMode (l / 8) = 2 - rate ∧ (t.blink l).replay = (s.mach.blink l).replay ∧ Mach.Others .BQL_L_STATE l s.mach t) ∧
  (∀ (s : State) (l pid rate ident : Nat) (phy : Bool) (own : Proposal), s.mach.sled = .dx32 → s.mach.get .BQL_L_EN l = 1 →
    s.mach.get .BQL_L_STATE l = blUp → (s.mach.blink l).reneg = some own → s.mach.get .ID_IDENT < ident →
    Completes (.reneg l pid rate phy ident) s [] [] fun t => t = s.mach) ∧
  (∀ (s : State) (l pid rate ident : Nat) (phy : Bool) (own : Proposal), s.mach.sled = .dx32 → s.mach.get .BQL_L_EN l = 1 →
    s.mach.get .BQL_L_STATE l = blUp → (s.mach.blink l).reneg = some own → ident ≤ s.mach.get .ID_IDENT →
    Completes (.reneg l pid rate phy ident) s (countFields ++ [.BQL_P_SETTLED, .BQL_L_STATE, .BQL_L_RATE]) [.out, .freeCtr, .bql] fun t =>
      t.out = s.mach.out ++ [.ctl l 6 [s.mach.get .BQL_L_RX_EXPECT l, own.id, 2],
        .ctl l 6 [s.mach.get .BQL_L_RX_EXPECT l, pid, if s.mach.canRun l rate phy then 0 else 1]] ∧
      (t.blink l).reneg = none ∧
      t.get .BQL_L_STATE l = (if s.mach.canRun l rate phy && phy then blHeld else blUp) ∧
      t.get .BQL_L_RATE l = (if s.mach.canRun l rate phy && !phy then rate % 2 ^ 2 else s.mach.get .BQL_L_RATE l)) ∧
  (∀ (s : State) (l pid : Nat) (q : Proposal), s.mach.get .BQL_L_STATE l = blUp → (s.mach.blink l).reneg = some q → q.id = pid →
    q.phy = false →
    Completes (.renegAns l pid 0) s [.BQL_L_RATE] [.bql] fun t =>
      t.get .BQL_L_RATE l = q.rate % 2 ^ 2 ∧ (t.blink l).reneg = none ∧ Mach.Others .BQL_L_RATE l s.mach t) ∧
  (∀ (s : State) (l pid : Nat) (q : Proposal), s.mach.get .BQL_L_STATE l = blUp → (s.mach.blink l).reneg = some q → q.id = pid →
    q.phy = true →
    Completes (.renegAns l pid 0) s [.BQL_L_STATE, .BQL_P_SETTLED] [.freeCtr, .bql] fun t =>
      t.get .BQL_L_STATE l = blHeld ∧ t.phyMode (l / 8) = 2 - q.rate ∧ (t.blink l).reneg = none ∧ Mach.Others .BQL_L_STATE l s.mach t) ∧
  (∀ (s : State) (l pid result : Nat) (q : Proposal), s.mach.get .BQL_L_STATE l = blUp → (s.mach.blink l).reneg = some q → q.id = pid →
    result ≠ 0 → result ≠ 2 →
    Completes (.renegAns l pid result) s [] [.bql] fun t =>
      t.bql = { s.mach.bql with links := s.mach.bql.links.set l {} { s.mach.blink l with reneg := none } }) ∧
  (∀ (s : State) (l pid result : Nat), (∀ q, (s.mach.blink l).reneg = some q → q.id ≠ pid) ∨ result = 2 ∨
      s.mach.get .BQL_L_STATE l ≠ blUp →
    Completes (.renegAns l pid result) s [] [] fun t => t = s.mach) ∧
  (∀ (s : State) (l : Nat) (q : Proposal), (s.mach.blink l).reneg = some q → q.again < 10 →
    Completes (.renegRetry l) s countFields [.out, .bql] fun t =>
      t.out = s.mach.out ++ [.ctl l 5 [s.mach.get .BQL_L_RX_EXPECT l, q.id, q.rate, Bits.ofBool q.phy, s.mach.get .ID_IDENT]] ∧
      (t.blink l).reneg = some { q with again := q.again + 1 }) ∧
  (∀ (s : State) (l : Nat) (q : Proposal), (s.mach.blink l).reneg = some q → 10 ≤ q.again →
    Completes (.renegRetry l) s [.BQL_L_RENEG_LOST] [.bql] fun t =>
      t.get .BQL_L_RENEG_LOST l = (s.mach.get .BQL_L_RENEG_LOST l + 1) % 2 ^ 16 ∧ (t.blink l).reneg = none ∧
      Mach.Others .BQL_L_RENEG_LOST l s.mach t) ∧
  (∀ (s : State) (l : Nat), (s.mach.blink l).reneg = none → Completes (.renegRetry l) s [] [] fun t => t = s.mach)

/-- R258, R262, R264, R271 to R276, R278: packets, landing and repair. -/
def Obligations.PacketsAndReplay : Prop :=
  (∀ (s : State) (l cls prio n mtu carry budget : Nat) (queue : List Msg) (q : List Msg × Nat) (k : Pkt), s.mach.sled = .dx32 →
    s.mach.get .BQL_L_STATE l = blUp → cls < 4 → mtu = 1024 * 2 ^ s.mach.get .BQL_L_MTU l →
    carry = ((s.mach.blink l).cont.find? cls).getD 0 →
    budget = (if cls = 0 then (((s.mach.blink l).budget.map fun u => 4096 * u - ((s.mach.blink l).reqs.map (·.2)).sum)).getD 0 else 2 ^ 64) →
    queue = (s.mach.bql.txq.filter fun x => x.1 == l % 8 && msgClass x.2.code == cls).map (·.2) →
    q = packMsgs n (mtu - carry) budget queue →
    k = { seq := s.mach.get .BQL_L_TX_SEQ l, cls := cls, prio := prio % 4, len := min mtu (carry + (q.1.map msgBytes).sum), msgs := q.1 } →
    0 < k.len → s.mach.replayRoom l k.units = true →
    Completes (.packetSend l cls prio n) s (countFields ++ [.BQL_P_REPLAY_USED, .BQL_L_TX_SEQ]) [.out, .bql] fun t =>
      t.get .BQL_L_TX_SEQ l = (s.mach.get .BQL_L_TX_SEQ l + 1) % 2 ^ 32 ∧
      t.out = s.mach.out ++ [.packet l k.seq cls k.prio (s.mach.get .BQL_L_RX_EXPECT l) false k.msgs] ∧
      (t.blink l).replay = (s.mach.blink l).replay ++ [k] ∧
      t.get .BQL_P_REPLAY_USED (l / 8) = ((List.range 8).map fun r => t.replayUnits (8 * (l / 8) + r)).sum % 2 ^ 17 ∧
      t.bql.txq = q.1.foldl (fun x y => x.erase (l % 8, y)) s.mach.bql.txq ∧
      (∀ j, j ≠ l → t.blink j = s.mach.blink j) ∧
      Mach.Others .BQL_L_TX_SEQ l s.mach t ∧ Mach.Others .BQL_P_REPLAY_USED (l / 8) s.mach t) ∧
  (∀ (s : State) (l prio n : Nat), (s.mach.blink l).budget = none → ((s.mach.blink l).cont.find? 0).getD 0 = 0 →
    Completes (.packetSend l 0 prio n) s [] [] fun t => t = s.mach) ∧
  (∀ (s : State) (p : Nat) (f : Frame), s.mach.sled = .dx32 → s.mach.get .BQL_P_POWERED p = 1 → s.mach.portDead p = false →
    f.pause = true ∨ f.fcsOk = false →
    Completes (.frameReceive p f) s [.BQL_P_FCS_DROPS] [] fun t =>
      t.get .BQL_P_FCS_DROPS p = (s.mach.get .BQL_P_FCS_DROPS p + 1) % 2 ^ 48 ∧ Mach.Others .BQL_P_FCS_DROPS p s.mach t) ∧
  (∀ (s : State) (p : Nat) (f : Frame), f.pause = false → f.fcsOk = true → f.dstMac ≠ s.mach.get .BQL_P_MAC p ∨
      (∀ l, l ∈ s.mach.portLinks p → s.mach.get .BQL_L_PEER_MAC l ≠ f.srcMac) →
    Completes (.frameReceive p f) s [] [] fun t => t = s.mach) ∧
  (∀ (s : State) (p l : Nat) (f : Frame), s.mach.sled = .dx32 → s.mach.get .BQL_P_POWERED p = 1 → s.mach.portDead p = false →
    f.pause = false → f.fcsOk = true → f.dstMac = s.mach.get .BQL_P_MAC p →
    (s.mach.portLinks p).find? (fun k => s.mach.get .BQL_L_PEER_MAC k == f.srcMac) = some l →
    f.icvOk = false ∨ s.mach.keys.sak.find? (2 * l + f.an % 2) = none →
    Completes (.frameReceive p f) s [.BQL_P_ICV_DROPS] [] fun t =>
      t.get .BQL_P_ICV_DROPS p = (s.mach.get .BQL_P_ICV_DROPS p + 1) % 2 ^ 48 ∧ Mach.Others .BQL_P_ICV_DROPS p s.mach t) ∧
  (∀ (s : State) (p l : Nat) (f : Frame), s.mach.sled = .dx32 → s.mach.get .BQL_P_POWERED p = 1 → s.mach.portDead p = false →
    f.pause = false → f.fcsOk = true → f.dstMac = s.mach.get .BQL_P_MAC p →
    (s.mach.portLinks p).find? (fun k => s.mach.get .BQL_L_PEER_MAC k == f.srcMac) = some l → f.icvOk = true →
    (s.mach.keys.sak.find? (2 * l + f.an % 2)).isSome = true → f.ethertype ≠ s.mach.get .BQL_ETHERTYPE 0 →
    Completes (.frameReceive p f) s [] [] fun t => t = s.mach) ∧
  (∀ (s : State) (p l : Nat) (f : Frame), s.mach.sled = .dx32 → s.mach.get .BQL_P_POWERED p = 1 → s.mach.portDead p = false →
    f.pause = false → f.fcsOk = true → f.dstMac = s.mach.get .BQL_P_MAC p →
    (s.mach.portLinks p).find? (fun k => s.mach.get .BQL_L_PEER_MAC k == f.srcMac) = some l → f.icvOk = true →
    (s.mach.keys.sak.find? (2 * l + f.an % 2)).isSome = true → f.ethertype = s.mach.get .BQL_ETHERTYPE 0 → s.mach.badHeader l f = true →
    Completes (.frameReceive p f) s [.BQL_L_BAD_HDR] [] fun t =>
      t.get .BQL_L_BAD_HDR l = (s.mach.get .BQL_L_BAD_HDR l + 1) % 2 ^ 32 ∧ Mach.Others .BQL_L_BAD_HDR l s.mach t) ∧
  (∀ (s : State) (p l : Nat) (f : Frame), s.mach.Passes p l f → f.cls = 4 → f.ackv = false →
    Completes (.frameReceive p f) s countFields [] fun _ => True) ∧
  (∀ (s : State) (p l : Nat) (f : Frame), s.mach.Passes p l f → f.cls ≠ 4 → f.ackv = false → s.mach.get .BQL_L_STATE l ≠ blUp →
    Completes (.frameReceive p f) s [] [] fun t => t = s.mach) ∧
  (∀ (s : State) (p l : Nat) (f : Frame), s.mach.Passes p l f → f.cls ≠ 4 → f.ackv = false → s.mach.get .BQL_L_STATE l = blUp →
    f.seq = s.mach.get .BQL_L_RX_EXPECT l → f.fits = true →
    Completes (.frameReceive p f) s (lineFields ++ tallyFields ++ [.ATL_STATE, .ATL_MIRROR, .ATL_VISITOR_WT, .ATL_TDL_STATE,
        .ATL_TDL_PAGE, .ATL_PARTNER, .ATL_PARTNER_UP, .ATL_ERR, .ATL_KEYS_ABSENT, .ATL_BACKING, .GRN_FREE, .GRN_ALLOCATED, .GRN_META,
        .GRN_QUAR, .TIER_PUSHES, .TIER_RECALLS, .TDL_PAGES, .TDL_SLOT_STATE, .TDL_SLOT_LINE, .TDL_SLOT_WINDOW, .DIR_PROTO_ERR,
        .DIR_LOST_POISONED, .DIR_FWD_FAILS, .BQL_L_RX_EXPECT, .ARC_LEAVE, .ARC_MEMBERS, .ARC_HOLD_USED, .ARC_HELD_IMAGES,
        .ARC_REL_PENDING, .ARC_EVAC_LEFT, .ARC_PAIR_STATUS, .ARC_WIT_HOLDER, .ARC_WIT_VALID, .ARC_PEER_IDENT, .ARC_PEER_GSN,
        .ARC_ATL_HOME, .ARC_ATL_REMOTE, .ARC_ATL_COPY, .ARC_ATL_FENCED, .ARC_ATL_RESYNC, .RGL_M_LINES, .DRM_D_LEFT, .SND_T_LOST])
      [.dram, .pages, .out, .freeCtr, .lines, .dir, .grain, .keys, .host, .bkw, .lhl, .arc, .bql, .snd, .que, .fry, .rgl] fun t =>
      t = (land l f).run s.mach ∧ t.get .BQL_L_RX_EXPECT l = (s.mach.get .BQL_L_RX_EXPECT l + 1) % 2 ^ 32 ∧
      Mach.Others .BQL_L_RX_EXPECT l s.mach t) ∧
  (∀ (s : State) (p l : Nat) (f : Frame), s.mach.Passes p l f → f.cls ≠ 4 → f.ackv = false → s.mach.get .BQL_L_STATE l = blUp →
    f.seq = s.mach.get .BQL_L_RX_EXPECT l → f.fits = false → (s.mach.blink l).landFull = false →
    Completes (.frameReceive p f) s (detectFields ++ countFields ++ [.BQL_P_LAND_NAKS, .BQL_L_NAKS_SENT]) [.out, .lines, .host, .bkw, .lhl, .bql] fun t =>
      t.get .BQL_P_LAND_NAKS (l / 8) = (s.mach.get .BQL_P_LAND_NAKS (l / 8) + 1) % 2 ^ 32 ∧
      t.get .BQL_L_NAKS_SENT l = (s.mach.get .BQL_L_NAKS_SENT l + 1) % 2 ^ 32 ∧ (t.blink l).landFull = true ∧
      (∃ o, t.out = s.mach.out ++ o ++ [.ctl l 3 [s.mach.get .BQL_L_RX_EXPECT l, s.mach.get .BQL_L_RX_EXPECT l, 1]])) ∧
  (∀ (s : State) (p l : Nat) (f : Frame), s.mach.Passes p l f → f.cls ≠ 4 → f.ackv = false → s.mach.get .BQL_L_STATE l = blUp →
    f.seq = s.mach.get .BQL_L_RX_EXPECT l → f.fits = false → (s.mach.blink l).landFull = true →
    Completes (.frameReceive p f) s [] [] fun t => t = s.mach) ∧
  (∀ (s : State) (p l : Nat) (f : Frame), s.mach.Passes p l f → f.cls ≠ 4 → f.ackv = false → s.mach.get .BQL_L_STATE l = blUp →
    seqBefore (s.mach.get .BQL_L_RX_EXPECT l) f.seq = true → f.seq ≠ s.mach.get .BQL_L_RX_EXPECT l →
    (s.mach.blink l).nakOpen = false →
    Completes (.frameReceive p f) s (countFields ++ [.BQL_L_NAKS_SENT]) [.out, .bql] fun t =>
      t.get .BQL_L_NAKS_SENT l = (s.mach.get .BQL_L_NAKS_SENT l + 1) % 2 ^ 32 ∧
      t.out = s.mach.out ++ [.ctl l 3 [s.mach.get .BQL_L_RX_EXPECT l, s.mach.get .BQL_L_RX_EXPECT l, 0]] ∧ (t.blink l).nakOpen = true ∧
      (t.blink l).later = false) ∧
  (∀ (s : State) (p l : Nat) (f : Frame), s.mach.Passes p l f → f.cls ≠ 4 → f.ackv = false → s.mach.get .BQL_L_STATE l = blUp →
    seqBefore (s.mach.get .BQL_L_RX_EXPECT l) f.seq = true → f.seq ≠ s.mach.get .BQL_L_RX_EXPECT l →
    (s.mach.blink l).nakOpen = true →
    Completes (.frameReceive p f) s [] [.bql] fun t => (t.blink l).later = true ∧ ∀ j, j ≠ l → t.blink j = s.mach.blink j) ∧
  (∀ (s : State) (p l : Nat) (f : Frame), s.mach.Passes p l f → f.cls ≠ 4 → f.ackv = false → s.mach.get .BQL_L_STATE l = blUp →
    seqBefore (s.mach.get .BQL_L_RX_EXPECT l) f.seq = false → f.seq ≠ s.mach.get .BQL_L_RX_EXPECT l →
    (s.mach.blink l).ackNo ≠ some (s.mach.get .BQL_L_RX_EXPECT l) ∨ (s.mach.blink l).ackAt + 1000 < s.mach.now →
    Completes (.frameReceive p f) s (countFields ++ [.BQL_L_DUPLICATES]) [.out, .bql] fun t =>
      t.get .BQL_L_DUPLICATES l = (s.mach.get .BQL_L_DUPLICATES l + 1) % 2 ^ 32 ∧
      t.out = s.mach.out ++ [.ctl l 2 [s.mach.get .BQL_L_RX_EXPECT l]] ∧ Mach.Others .BQL_L_DUPLICATES l s.mach t) ∧
  (∀ (s : State) (p l : Nat) (f : Frame), s.mach.Passes p l f → f.cls ≠ 4 → f.ackv = false → s.mach.get .BQL_L_STATE l = blUp →
    seqBefore (s.mach.get .BQL_L_RX_EXPECT l) f.seq = false → f.seq ≠ s.mach.get .BQL_L_RX_EXPECT l →
    (s.mach.blink l).ackNo = some (s.mach.get .BQL_L_RX_EXPECT l) → s.mach.now ≤ (s.mach.blink l).ackAt + 1000 →
    Completes (.frameReceive p f) s [.BQL_L_DUPLICATES] [] fun t =>
      t.get .BQL_L_DUPLICATES l = (s.mach.get .BQL_L_DUPLICATES l + 1) % 2 ^ 32 ∧ Mach.Others .BQL_L_DUPLICATES l s.mach t) ∧
  (∀ (s : State) (p l : Nat) (f : Frame), s.mach.Passes p l f → f.cls = 4 → f.ackv = true →
    Completes (.frameReceive p f) s (countFields ++ [.GRN_DROPPED, .FRY_ERR, .FRY_M_ERR, .BQL_P_REPLAY_USED, .BQL_L_TX_ACKED,
        .SND_S_HELD, .SND_S_LOST]) [.out, .freeCtr, .lines, .dir, .bql, .snd, .fry] fun t =>
      t.get .BQL_L_TX_ACKED l = ((takeAck l f.ack).run s.mach).get .BQL_L_TX_ACKED l ∧ t.bql = ((takeAck l f.ack).run s.mach).bql) ∧
  (∀ (s : State) (l n : Nat) (c : Instr), c = .ack l n ∨ c = .keepalive l n → s.mach.sled = .dx32 → s.mach.get .BQL_L_EN l = 1 →
    s.mach.get .BQL_L_STATE l = blUp ∨ s.mach.get .BQL_L_STATE l = blHeld → seqBefore (s.mach.get .BQL_L_TX_ACKED l) n = true →
    seqBefore n (s.mach.get .BQL_L_TX_SEQ l) = true ∨ n = s.mach.get .BQL_L_TX_SEQ l →
    Completes c s (countFields ++ [.GRN_DROPPED, .FRY_ERR, .FRY_M_ERR, .BQL_P_REPLAY_USED, .BQL_L_TX_ACKED, .SND_S_HELD, .SND_S_LOST])
      [.out, .freeCtr, .lines, .dir, .bql, .snd, .fry] fun t =>
      t.get .BQL_L_TX_ACKED l = n % 2 ^ 32 ∧ (t.blink l).replay = (s.mach.blink l).replay.filter (fun k => !seqBefore k.seq n) ∧
      Mach.Others .BQL_L_TX_ACKED l s.mach t ∧ (∀ j, j ≠ l → t.blink j = s.mach.blink j)) ∧
  (∀ (s : State) (l n : Nat), seqBefore (s.mach.get .BQL_L_TX_ACKED l) n = false ∨
      (seqBefore n (s.mach.get .BQL_L_TX_SEQ l) = false ∧ n ≠ s.mach.get .BQL_L_TX_SEQ l) →
    Completes (.ack l n) s [] [] (fun t => t = s.mach) ∧ Completes (.keepalive l n) s [] [] (fun t => t = s.mach)) ∧
  (∀ (s : State) (l n reason : Nat), s.mach.sled = .dx32 → s.mach.get .BQL_L_EN l = 1 →
    s.mach.get .BQL_L_STATE l = blUp ∨ s.mach.get .BQL_L_STATE l = blHeld → seqBefore n (s.mach.get .BQL_L_TX_SEQ l) = false →
    Completes (.nak l n reason) s (detectFields ++ [.DIR_PROTO_ERR, .BQL_L_NAKS_RECV]) [.out, .lines, .host, .bkw, .lhl] fun t =>
      t.get .BQL_L_NAKS_RECV l = (s.mach.get .BQL_L_NAKS_RECV l + 1) % 2 ^ 32 ∧
      t.get .DIR_PROTO_ERR 0 = (s.mach.get .DIR_PROTO_ERR 0 + 1) % 2 ^ 32 ∧ Mach.Others .BQL_L_NAKS_RECV l s.mach t) ∧
  (∀ (s : State) (l n reason : Nat), s.mach.sled = .dx32 → s.mach.get .BQL_L_EN l = 1 →
    s.mach.get .BQL_L_STATE l = blUp ∨ s.mach.get .BQL_L_STATE l = blHeld → seqBefore n (s.mach.get .BQL_L_TX_SEQ l) = true →
    seqBefore n (s.mach.get .BQL_L_TX_ACKED l) = true →
    Completes (.nak l n reason) s [.BQL_L_NAKS_RECV] [] fun t =>
      t.get .BQL_L_NAKS_RECV l = (s.mach.get .BQL_L_NAKS_RECV l + 1) % 2 ^ 32 ∧ Mach.Others .BQL_L_NAKS_RECV l s.mach t) ∧
  (∀ (s : State) (l n reason : Nat) (k : Pkt) (ks : List Pkt), s.mach.sled = .dx32 → s.mach.get .BQL_L_EN l = 1 →
    s.mach.get .BQL_L_STATE l = blUp → seqBefore n (s.mach.get .BQL_L_TX_SEQ l) = true →
    seqBefore n (s.mach.get .BQL_L_TX_ACKED l) = false →
    (s.mach.blink l).replay.filter (fun k => !seqBefore k.seq n) = k :: ks →
    (∀ j, j ∈ (s.mach.blink l).replay → ∀ x, x ∈ j.msgs → x.code ≠ mFwdData) →
    Completes (.nak l n reason) s (countFields ++ [.BQL_P_REPLAY_USED, .BQL_L_TX_ACKED, .BQL_L_REPLAYS, .BQL_L_NAKS_RECV]) [.out, .bql] fun t =>
      t.get .BQL_L_NAKS_RECV l = (s.mach.get .BQL_L_NAKS_RECV l + 1) % 2 ^ 32 ∧ t.get .BQL_L_TX_ACKED l = n % 2 ^ 32 ∧
      t.out = s.mach.out ++ (k :: ks).map (fun j => .packet l j.seq j.cls j.prio (s.mach.get .BQL_L_RX_EXPECT l) true j.msgs) ∧
      t.get .BQL_L_REPLAYS l = (s.mach.get .BQL_L_REPLAYS l + (k :: ks).length) % 2 ^ 48 ∧ (t.blink l).replay = k :: ks) ∧
  (∀ (s : State) (l n reason : Nat), s.mach.sled = .dx32 → s.mach.get .BQL_L_EN l = 1 →
    s.mach.get .BQL_L_STATE l = blHeld → seqBefore n (s.mach.get .BQL_L_TX_SEQ l) = true →
    seqBefore n (s.mach.get .BQL_L_TX_ACKED l) = false →
    Completes (.nak l n reason) s (countFields ++ [.GRN_DROPPED, .FRY_ERR, .FRY_M_ERR, .BQL_P_REPLAY_USED, .BQL_L_TX_ACKED,
        .BQL_L_NAKS_RECV, .SND_S_HELD, .SND_S_LOST]) [.out, .freeCtr, .lines, .dir, .bql, .snd, .fry] fun t =>
      t.get .BQL_L_NAKS_RECV l = (s.mach.get .BQL_L_NAKS_RECV l + 1) % 2 ^ 32 ∧ t.get .BQL_L_TX_ACKED l = n % 2 ^ 32 ∧
      (t.blink l).replay = (s.mach.blink l).replay.filter (fun k => !seqBefore k.seq n)) ∧
  (∀ (s : State) (l : Nat), s.mach.get .BQL_L_STATE l = blUp →
    Completes (.keepaliveTimer l) s countFields [.out, .bql] fun t =>
      t.out = s.mach.out ++ [.ctl l 4 [s.mach.get .BQL_L_RX_EXPECT l]]) ∧
  (∀ (s : State) (l : Nat), s.mach.get .BQL_L_STATE l ≠ blUp → Completes (.keepaliveTimer l) s [] [] fun t => t = s.mach) ∧
  (∀ (s : State) (l : Nat), s.mach.get .BQL_L_STATE l = blUp → (s.mach.blink l).landed ≠ 0 →
    Completes (.ackTimer l) s countFields [.out, .bql] fun t =>
      t.out = s.mach.out ++ [.ctl l 2 [s.mach.get .BQL_L_RX_EXPECT l]] ∧ (t.blink l).landed = 0) ∧
  (∀ (s : State) (l : Nat), s.mach.get .BQL_L_STATE l ≠ blUp ∨ (s.mach.blink l).landed = 0 →
    Completes (.ackTimer l) s [] [] fun t => t = s.mach) ∧
  (∀ (s : State) (l : Nat), s.mach.get .BQL_L_STATE l = blUp → (s.mach.blink l).landFull = true →
    Completes (.nakRepeat l) s (countFields ++ [.BQL_L_NAKS_SENT]) [.out, .bql] fun t =>
      t.get .BQL_L_NAKS_SENT l = (s.mach.get .BQL_L_NAKS_SENT l + 1) % 2 ^ 32 ∧
      t.out = s.mach.out ++ [.ctl l 3 [s.mach.get .BQL_L_RX_EXPECT l, s.mach.get .BQL_L_RX_EXPECT l, 1]]) ∧
  (∀ (s : State) (l : Nat), s.mach.get .BQL_L_STATE l = blUp → (s.mach.blink l).landFull = false → (s.mach.blink l).nakOpen = true →
    (s.mach.blink l).later = true →
    Completes (.nakRepeat l) s (countFields ++ [.BQL_L_NAKS_SENT]) [.out, .bql] fun t =>
      t.get .BQL_L_NAKS_SENT l = (s.mach.get .BQL_L_NAKS_SENT l + 1) % 2 ^ 32 ∧ (t.blink l).later = false ∧
      t.out = s.mach.out ++ [.ctl l 3 [s.mach.get .BQL_L_RX_EXPECT l, s.mach.get .BQL_L_RX_EXPECT l, 0]]) ∧
  (∀ (s : State) (l : Nat), s.mach.get .BQL_L_STATE l ≠ blUp ∨ ((s.mach.blink l).landFull = false ∧
      ((s.mach.blink l).later = false ∨ (s.mach.blink l).nakOpen = false)) →
    Completes (.nakRepeat l) s [] [] fun t => t = s.mach) ∧
  (∀ (s : State) (l : Nat), s.mach.get .BQL_L_STATE l = blUp → (s.mach.blink l).replay ≠ [] →
    Completes (.replayTimeout l) s (countFields ++ [.BQL_L_REPLAYS, .BQL_L_TIMEOUTS]) [.out, .bql] fun t =>
      t.get .BQL_L_TIMEOUTS l = (s.mach.get .BQL_L_TIMEOUTS l + 1) % 2 ^ 32 ∧
      t.get .BQL_L_REPLAYS l = (s.mach.get .BQL_L_REPLAYS l + (s.mach.blink l).replay.length) % 2 ^ 48 ∧
      t.out = s.mach.out ++ (s.mach.blink l).replay.map (fun j =>
        .packet l j.seq j.cls j.prio (s.mach.get .BQL_L_RX_EXPECT l) true j.msgs) ∧
      (t.blink l).replay = (s.mach.blink l).replay ∧ Mach.Others .BQL_L_TIMEOUTS l s.mach t ∧ Mach.Others .BQL_L_REPLAYS l s.mach t) ∧
  (∀ (s : State) (l : Nat), s.mach.get .BQL_L_STATE l ≠ blUp ∨ (s.mach.blink l).replay = [] →
    Completes (.replayTimeout l) s [] [] fun t => t = s.mach)

/-- R269, R270, R279, R280: the HELLO exchange. -/
def Obligations.HelloExchange : Prop :=
  (∀ (s : State) (l why : Nat) (h : Hello), s.mach.sled = .dx32 → s.mach.get .BQL_L_EN l = 1 → s.mach.get .BQL_P_POWERED (l / 8) = 1 →
    s.mach.portDead (l / 8) = false → s.mach.helloRefusal l h = some why →
    Completes (.hello l h) s (recordFields ++ [.BQL_L_PEER_IDENT, .BQL_L_HELLO_REFUSED]) [.lhl, .bql] fun t =>
      t.get .BQL_L_HELLO_REFUSED l = (s.mach.get .BQL_L_HELLO_REFUSED l + 1) % 2 ^ 16 ∧ (t.blink l).refused = true ∧
      t.get .BQL_L_PEER_IDENT l = h.ident % 2 ^ 64 ∧
      ((s.mach.blink l).refused = true → t.lhl = s.mach.lhl ∧ t.get .LHL_COUNT 0 = s.mach.get .LHL_COUNT 0) ∧
      ((s.mach.blink l).refused = false → t.lhl = ((lhLog 0 0x0042 l why).run s.mach).lhl) ∧
      Mach.Others .BQL_L_HELLO_REFUSED l s.mach t) ∧
  (∀ (s : State) (l : Nat) (h : Hello), s.mach.Greets l h → s.mach.get .BQL_L_STATE l ≠ blUp →
    ¬s.mach.Completing l h ∨ s.mach.get .BQL_L_STATE l = blFlushing →
    Completes (.hello l h) s [.BQL_L_PEER_IDENT] [.bql] fun t =>
      (t.blink l).peer = some h ∧ (t.blink l).replay = (s.mach.blink l).replay ∧ t.get .BQL_L_PEER_IDENT l = h.ident % 2 ^ 64 ∧
      ((t.blink l).gotEcho = true ↔ h.echo = (s.mach.blink l).nonce ∧ (s.mach.blink l).nonce ≠ 0) ∧
      ((t.blink l).sentEcho = true ↔ (s.mach.blink l).sentEcho = true ∧ (s.mach.blink l).peer.map (·.nonce) = some h.nonce)) ∧
  (∀ (s : State) (l : Nat) (h : Hello), s.mach.Greets l h → s.mach.Completing l h →
    s.mach.get .BQL_L_STATE l = blHello ∨ s.mach.get .BQL_L_STATE l = blDown →
    Completes (.hello l h) s (recordFields ++ [.BQL_L_STATE, .BQL_L_PEER_IDENT, .BQL_L_SESSION, .BQL_L_VERSION, .BQL_L_MTU, .BQL_L_RATE,
        .BQL_L_FEATURES, .BQL_L_TX_SEQ, .BQL_L_TX_ACKED, .BQL_L_RX_EXPECT, .BQL_L_PEER_DLV, .BQL_L_PEER_DLV_VALID])
      [.out, .lines, .bkw, .lhl, .arc, .bql] fun t =>
      t.get .BQL_L_STATE l = blUp ∧ t.get .BQL_L_SESSION l =
        (if s.mach.get .ID_IDENT < h.ident then (s.mach.blink l).nonce else h.nonce) % 2 ^ 32 ∧
      t.get .BQL_L_TX_SEQ l = 0 ∧ t.get .BQL_L_TX_ACKED l = 0 ∧ t.get .BQL_L_RX_EXPECT l = 0 ∧
      t.get .BQL_L_VERSION l = min h.verMax 1 ∧ t.get .BQL_L_MTU l = min h.mtuMax 2 ∧
      t.get .BQL_L_RATE l = min h.rateMax (s.mach.modeRate (l / 8)) ∧ t.get .BQL_L_FEATURES l = h.features &&& 0xF ∧
      (t.blink l).budget = some h.reqBudget ∧
      ((s.mach.blink l).flushed ≠ 0 → h.oldSession = (s.mach.blink l).flushed →
        t.get .BQL_L_PEER_DLV l = h.oldExpect % 2 ^ 32 ∧ t.get .BQL_L_PEER_DLV_VALID l = 1) ∧
      ((s.mach.blink l).flushed = 0 ∨ h.oldSession ≠ (s.mach.blink l).flushed →
        t.get .BQL_L_PEER_DLV l = s.mach.get .BQL_L_PEER_DLV l ∧ t.get .BQL_L_PEER_DLV_VALID l = s.mach.get .BQL_L_PEER_DLV_VALID l) ∧
      Mach.Others .BQL_L_STATE l s.mach t ∧ Mach.Others .BQL_L_SESSION l s.mach t ∧ Mach.Others .BQL_L_RX_EXPECT l s.mach t) ∧
  (∀ (s : State) (l : Nat) (h : Hello), s.mach.Greets l h → s.mach.Completing l h →
    s.mach.get .BQL_L_STATE l = blGrace ∨ s.mach.get .BQL_L_STATE l = blHeld → h.oldSession = s.mach.get .BQL_L_SESSION l →
    Completes (.hello l h) s (recordFields ++ countFields ++ [.GRN_DROPPED, .FRY_ERR, .FRY_M_ERR, .BQL_P_REPLAY_USED, .BQL_L_STATE,
        .BQL_L_PEER_IDENT, .BQL_L_VERSION, .BQL_L_MTU, .BQL_L_RATE, .BQL_L_FEATURES, .BQL_L_TX_ACKED, .BQL_L_REPLAYS, .SND_S_HELD,
        .SND_S_LOST]) [.out, .freeCtr, .lines, .dir, .bkw, .lhl, .arc, .bql, .snd, .fry] fun t =>
      t.get .BQL_L_STATE l = blUp ∧ t.get .BQL_L_TX_ACKED l = h.oldExpect % 2 ^ 32 ∧
      (t.blink l).replay = (s.mach.blink l).replay.filter (fun k => !seqBefore k.seq h.oldExpect) ∧
      t.get .BQL_L_MTU l = min h.mtuMax 2 ∧ (t.blink l).budget = some h.reqBudget ∧ Mach.Others .BQL_L_STATE l s.mach t ∧
      (∀ k, k ∈ (t.blink l).replay →
        .packet l k.seq k.cls k.prio (s.mach.get .BQL_L_RX_EXPECT l) true k.msgs ∈ t.out)) ∧
  (∀ (s : State) (l : Nat) (h : Hello), s.mach.Greets l h →
    s.mach.get .BQL_L_STATE l = blUp ∨ (s.mach.Completing l h ∧ h.oldSession ≠ s.mach.get .BQL_L_SESSION l ∧
      (s.mach.get .BQL_L_STATE l = blGrace ∨ s.mach.get .BQL_L_STATE l = blHeld)) →
    Completes (.hello l h) s (lineFields ++ [.DIR_LOST_POISONED, .BQL_P_REPLAY_USED, .BQL_L_STATE, .BQL_L_PEER_IDENT, .BQL_L_FLUSHES,
        .BQL_L_LOST_FIRST, .BQL_L_LOST_END, .BQL_L_PEER_DLV_VALID, .ARC_MEMBERS, .ARC_REL_PENDING])
      [.dram, .pages, .out, .freeCtr, .lines, .dir, .host, .bkw, .lhl, .arc, .bql, .snd, .que, .fry] fun t =>
      t.get .BQL_L_STATE l = blFlushing ∧ t.get .BQL_L_FLUSHES l = (s.mach.get .BQL_L_FLUSHES l + 1) % 2 ^ 32 ∧
      t.get .BQL_L_LOST_FIRST l = s.mach.get .BQL_L_TX_ACKED l % 2 ^ 32 ∧ t.get .BQL_L_LOST_END l = s.mach.get .BQL_L_TX_SEQ l % 2 ^ 32 ∧
      t.get .BQL_L_PEER_DLV_VALID l = 0 ∧ t.get .BQL_L_PEER_IDENT l = h.ident % 2 ^ 64 ∧ Mach.Others .BQL_L_STATE l s.mach t) ∧
  (∀ (s : State) (l : Nat) (h : Hello), s.mach.sled ≠ .dx32 ∨ s.mach.get .BQL_L_EN l ≠ 1 ∨ s.mach.get .BQL_P_POWERED (l / 8) ≠ 1 →
    Completes (.hello l h) s [] [] fun t => t = s.mach) ∧
  (∀ (s : State) (l : Nat), s.mach.sled = .dx32 → s.mach.get .BQL_L_EN l = 1 → s.mach.get .BQL_P_POWERED (l / 8) = 1 →
    s.mach.get .BQL_L_STATE l ∈ [blDown, blHello, blHeld, blGrace] →
    (s.mach.blink l).peer = none ∨ (s.mach.blink l).gotEcho = false →
    Completes (.helloTimer l) s countFields [.out, .bql] fun t =>
      t.out = s.mach.out ++ [.ctl l 1 (s.mach.helloOf l)] ∧
      (t.blink l).sentEcho = ((s.mach.blink l).peer.isSome || (s.mach.blink l).sentEcho) ∧
      (t.blink l).nonce = (s.mach.blink l).nonce ∧ ∀ j, j ≠ l → t.blink j = s.mach.blink j) ∧
  (∀ (s : State) (l : Nat) (h : Hello), s.mach.sled = .dx32 → s.mach.get .BQL_L_EN l = 1 → s.mach.get .BQL_P_POWERED (l / 8) = 1 →
    s.mach.get .BQL_L_STATE l = blDown ∨ s.mach.get .BQL_L_STATE l = blHello → (s.mach.blink l).peer = some h →
    (s.mach.blink l).gotEcho = true →
    Completes (.helloTimer l) s (recordFields ++ countFields ++ [.BQL_L_STATE, .BQL_L_SESSION, .BQL_L_VERSION, .BQL_L_MTU, .BQL_L_RATE,
        .BQL_L_FEATURES, .BQL_L_TX_SEQ, .BQL_L_TX_ACKED, .BQL_L_RX_EXPECT, .BQL_L_PEER_DLV, .BQL_L_PEER_DLV_VALID])
      [.out, .lines, .bkw, .lhl, .arc, .bql] fun t =>
      (∃ r, t.out = s.mach.out ++ .ctl l 1 (s.mach.helloOf l) :: r) ∧ t.get .BQL_L_STATE l = blUp ∧ t.get .BQL_L_SESSION l =
        (if s.mach.get .ID_IDENT < h.ident then (s.mach.blink l).nonce else h.nonce) % 2 ^ 32 ∧ t.get .BQL_L_TX_SEQ l = 0 ∧
      t.get .BQL_L_RX_EXPECT l = 0 ∧ (t.blink l).budget = some h.reqBudget) ∧
  (∀ (s : State) (l : Nat) (h : Hello), s.mach.sled = .dx32 → s.mach.get .BQL_L_EN l = 1 → s.mach.get .BQL_P_POWERED (l / 8) = 1 →
    s.mach.get .BQL_L_STATE l = blGrace ∨ s.mach.get .BQL_L_STATE l = blHeld → (s.mach.blink l).peer = some h →
    (s.mach.blink l).gotEcho = true →
    Completes (.helloTimer l) s (lineFields ++ [.DIR_LOST_POISONED, .BQL_P_REPLAY_USED, .BQL_L_STATE, .BQL_L_VERSION, .BQL_L_MTU,
        .BQL_L_RATE, .BQL_L_FEATURES, .BQL_L_TX_ACKED, .BQL_L_REPLAYS, .BQL_L_FLUSHES, .BQL_L_LOST_FIRST, .BQL_L_LOST_END,
        .BQL_L_PEER_DLV_VALID, .ARC_MEMBERS, .ARC_REL_PENDING])
      [.dram, .pages, .out, .freeCtr, .lines, .dir, .host, .bkw, .lhl, .arc, .bql, .snd, .que, .fry] fun t =>
      (∃ r, t.out = s.mach.out ++ .ctl l 1 (s.mach.helloOf l) :: r) ∧
      t.get .BQL_L_STATE l = (if h.oldSession = s.mach.get .BQL_L_SESSION l then blUp else blFlushing) ∧
      t.get .BQL_L_FLUSHES l = (if h.oldSession = s.mach.get .BQL_L_SESSION l then s.mach.get .BQL_L_FLUSHES l
        else (s.mach.get .BQL_L_FLUSHES l + 1) % 2 ^ 32)) ∧
  (∀ (s : State) (l : Nat), s.mach.get .BQL_L_STATE l = blUp ∨ s.mach.get .BQL_L_STATE l = blFlushing →
    Completes (.helloTimer l) s [] [] fun t => t = s.mach)

/-- R185, R266, R286 to R295, R301: members, images, binds and answers. -/
def Obligations.MembersAndImages : Prop :=
  (∀ (s : State) (x y : Msg) (c : Instr),
    (c, y.code) ∈ [(.join x, mJoin), (.leave x, mLeave), (.imgPut x, mImgPut), (.imgGet x, mImgGet), (.imgRelease x, mImgRelease),
      (.imgEvict x, mImgEvict), (.imgData x, mImgData), (.mirWr x, mMirWr), (.mirOwn x, mMirOwn), (.mirPage x, mMirPage),
      (.mirFetch x, mMirFetch), (.pair x, mPair), (.claim x, mClaim), (.heal x, mHeal), (.handover x, mHandover),
      (.rmtBind x, mRmtBind), (.svcAck x, mSvcAck)] → y = { x with code := y.code } → s.mach.hears x.src → svcBodyOk y = false →
    Completes c s (detectFields ++ [.DIR_PROTO_ERR]) [.out, .lines, .host, .bkw, .lhl] fun t =>
      t.get .DIR_PROTO_ERR 0 = (s.mach.get .DIR_PROTO_ERR 0 + 1) % 2 ^ 32) ∧
  (∀ (s : State) (x y : Msg) (c : Instr) (status : Nat),
    (c, y.code) ∈ [(.join x, mJoin), (.leave x, mLeave), (.imgPut x, mImgPut), (.imgGet x, mImgGet), (.imgRelease x, mImgRelease),
      (.imgEvict x, mImgEvict), (.mirWr x, mMirWr), (.mirOwn x, mMirOwn), (.mirPage x, mMirPage), (.mirFetch x, mMirFetch),
      (.pair x, mPair), (.claim x, mClaim), (.heal x, mHeal), (.handover x, mHandover), (.rmtBind x, mRmtBind)] →
    y = { x with code := y.code } → s.mach.hears x.src → svcBodyOk y = true →
    (status = 5 ∧ (s.mach.get .ARC_EN 0 ≠ 1 ∨ s.mach.arc.left = true)) ∨
    (status = 4 ∧ s.mach.get .ARC_EN 0 = 1 ∧ s.mach.arc.left = false ∧
      ((s.mach.upLink x.src).any fun l => (svcFeature y.code).all fun b => Bits.bit (s.mach.get .BQL_L_FEATURES l) b) = false) ∨
    (status = 5 ∧ y.code ≠ mJoin ∧ Bits.bit (s.mach.get .ARC_MEMBERS 0) x.src = false ∧
      ((s.mach.upLink x.src).any fun l => (svcFeature y.code).all fun b => Bits.bit (s.mach.get .BQL_L_FEATURES l) b) = true) →
    Completes c s [] [.out, .bql] fun t => Mach.Replied y status [] s.mach t) ∧
  (∀ (s : State) (x y : Msg), y = { x with code := mJoin } → s.mach.Serves y →
    Completes (.join x) s (lineFields ++ tallyFields ++ [.GRN_FREE, .GRN_ALLOCATED, .GRN_META, .GRN_QUAR, .ARC_LEAVE, .ARC_MEMBERS,
        .ARC_HOLD_USED, .ARC_HELD_IMAGES, .ARC_EVAC_LEFT, .ARC_PEER_IDENT, .ARC_PEER_GSN, .DRM_D_LEFT])
      [.pages, .out, .freeCtr, .lines, .dir, .grain, .host, .bkw, .lhl, .arc, .bql, .snd, .que, .fry] fun t =>
      (∃ r, t.out = s.mach.out ++ .msg x.src (s.mach.svcAnswer y 0 (s.mach.joinBody x.src)) :: r) ∧
      t.get .ARC_PEER_IDENT x.src = Bits.leNat (x.body.take 8) % 2 ^ 64 ∧
      t.get .ARC_PEER_GSN x.src = Bits.leNat ((x.body.drop 8).take 8) % 2 ^ 64 ∧
      (s.mach.get .ARC_LEAVE 0 ≠ 1 → s.mach.arc.leaveAsked = [] →
        t.get .ARC_MEMBERS 0 = withBit (s.mach.get .ARC_MEMBERS 0) x.src true % 2 ^ 8) ∧
      Mach.Others .ARC_PEER_IDENT x.src s.mach t ∧ Mach.Others .ARC_PEER_GSN x.src s.mach t) ∧
  (∀ (s : State) (x y : Msg), y = { x with code := mLeave } → s.mach.Serves y → s.mach.pagesAt x.src = [] → s.mach.arc.leaveAsked = [] →
    s.mach.get .ARC_LEAVE 0 ≠ 1 →
    Completes (.leave x) s [.ARC_MEMBERS] [.out, .arc, .bql] fun t =>
      t.out = s.mach.out ++ [.msg x.src (s.mach.mkMsg mSvcAck x.txid x.src 0)] ∧ t.arc.leaveAsked = [] ∧
      t.get .ARC_MEMBERS 0 = withBit (s.mach.get .ARC_MEMBERS 0) x.src false % 2 ^ 8) ∧
  (∀ (s : State) (x y : Msg), y = { x with code := mLeave } → s.mach.Serves y →
    Completes (.leave x) s (detectFields ++ [.TDL_EPOCH_STOPS, .ARC_LEAVE, .ARC_MEMBERS])
      [.pages, .out, .lines, .host, .bkw, .lhl, .arc, .bql] fun t => t = (takeLeave y).run s.mach) ∧
  (∀ (s : State) (x y : Msg) (img : Image), y = { x with code := mImgPut } → s.mach.Serves y →
    img = Image.parse (x.body.take 64) (x.body.drop 64) →
    s.mach.get .GRN_LEVEL 0 ≠ 0 ∨ img.bytes.length < 256 ∨ s.mach.poolPlace img = none →
    Completes (.imgPut x) s [] [.out, .bql] fun t => Mach.Replied y 1 [] s.mach t) ∧
  (∀ (s : State) (x y : Msg) (img : Image) (h p : Nat), y = { x with code := mImgPut } → s.mach.Serves y →
    img = Image.parse (x.body.take 64) (x.body.drop 64) → s.mach.get .GRN_LEVEL 0 = 0 → 256 ≤ img.bytes.length →
    s.mach.poolPlace img = some (h, p) →
    Completes (.imgPut x) s (plotFields ++ countFields ++ [.ARC_HOLD_USED, .ARC_HELD_IMAGES, .RGL_M_LINES, .SND_T_LOST])
      [.dram, .out, .freeCtr, .lines, .grain, .host, .bkw, .lhl, .arc, .bql, .snd, .rgl] fun t =>
      t.arc.held = s.mach.arc.held ++ [{ ga := 16 * p, img := img, home := x.src }] ∧
      t.get .ARC_HELD_IMAGES 0 = (s.mach.arc.held.length + 1) % 2 ^ 48 ∧
      ∃ r, t.out = s.mach.out ++ r ++ [.msg x.src (s.mach.svcAnswer y 0 (Bits.leBytes 8 (16 * p)))]) ∧
  (∀ (s : State) (x y : Msg), y = { x with code := mImgGet } → s.mach.Serves y → s.mach.heldOf y = none →
    Completes (.imgGet x) s [] [.out, .bql] fun t => t.out = s.mach.out ++
      [.msg x.src { s.mach.mkMsg mImgData x.txid x.home x.line with rqs := x.rqs, agent := x.agent, opst := 2 }]) ∧
  (∀ (s : State) (x y : Msg) (h : Held), y = { x with code := mImgGet } → s.mach.Serves y → s.mach.heldOf y = some h →
    Completes (.imgGet x) s [] [.out, .bql] fun t => t.out = s.mach.out ++
      [.msg x.src { s.mach.mkMsg mImgData x.txid x.home x.line with
        rqs := x.rqs, agent := x.agent, body := Crypto.bytes h.img.header ++ Dram.read s.mach.dram (16 * h.ga) h.img.bytes.length }]) ∧
  (∀ (s : State) (x y : Msg), y = { x with code := mImgRelease } → s.mach.Serves y → s.mach.heldOf y = none →
    Completes (.imgRelease x) s [] [.out, .bql] fun t => Mach.Replied y 2 [] s.mach t) ∧
  (∀ (s : State) (x y : Msg) (h : Held), y = { x with code := mImgRelease } → s.mach.Serves y → s.mach.heldOf y = some h →
    Completes (.imgRelease x) s (plotFields ++ [.ARC_LEAVE, .ARC_MEMBERS, .ARC_HOLD_USED, .ARC_HELD_IMAGES])
      [.out, .lines, .grain, .host, .bkw, .lhl, .arc, .bql] fun t =>
      t.arc.held = s.mach.arc.held.filter (· != h) ∧ t.get .ARC_HELD_IMAGES 0 = t.arc.held.length % 2 ^ 48 ∧
      ∃ r, t.out = s.mach.out ++ r ++ [.msg x.src (s.mach.svcAnswer y 0 [])]) ∧
  (∀ (s : State) (x y : Msg), y = { x with code := mImgEvict } → s.mach.Serves y →
    (∀ p, p ∈ s.mach.pages → p.2.rcd.tier = .offshore → p.2.rcd.offPeer = x.src →
      p.2.offIsn ≠ Bits.leNat ((x.body.drop 8).take 8)) →
    Completes (.imgEvict x) s [] [.out, .bql] fun t => Mach.Replied y 2 [] s.mach t) ∧
  (∀ (s : State) (x y : Msg) (pn : Nat) (q : PageSt), y = { x with code := mImgEvict } → s.mach.Serves y → s.mach.pages = [(pn, q)] →
    q.rcd.tier = .offshore → q.rcd.offPeer = x.src → q.offIsn = Bits.leNat ((x.body.drop 8).take 8) →
    Bits.leNat (x.body.take 8) = gaByIsn ∨ Bits.leNat (x.body.take 8) = q.rcd.offExtent →
    Completes (.imgEvict x) s (detectFields ++ [.TDL_EPOCH_STOPS]) [.pages, .out, .lines, .host, .bkw, .lhl, .arc, .bql] fun t =>
      t = (Act.seq (startRecall pn) (svcReply y 0 [])).run s.mach) ∧
  (∀ (s : State) (x y : Msg), y = { x with code := mImgData } → s.mach.hears x.src → svcBodyOk y = true →
    (∀ j, j ∈ s.mach.arc.jobs → j.peer = x.src → j.txid ≠ x.txid) →
    Completes (.imgData x) s [] [] fun t => t = s.mach) ∧
  (∀ (s : State) (x y : Msg) (j : ImgJob) (n : Nat) (img : Image), y = { x with code := mImgData } → s.mach.hears x.src →
    svcBodyOk y = true → s.mach.arc.jobs.find? (fun j => j.peer == x.src && j.txid == x.txid) = some j →
    s.mach.atollOf j.pn = some n → img = Image.parse (x.body.take 64) (x.body.drop 64) → x.opst ≠ 2 → x.body ≠ [] →
    s.mach.imageTag img = (s.mach.page j.pn).rcd.offTag → j.kind = .recall ∨ j.kind = .remoteRead →
    Completes (.imgData x) s (lineFields ++ tallyFields ++ [.GRN_FREE, .GRN_ALLOCATED, .GRN_META, .GRN_QUAR, .TIER_RECALLS, .ARC_LEAVE,
        .ARC_MEMBERS, .ARC_REL_PENDING, .ARC_EVAC_LEFT, .RGL_M_LINES, .DRM_D_LEFT, .SND_T_LOST])
      [.dram, .pages, .out, .freeCtr, .lines, .dir, .grain, .host, .bkw, .lhl, .arc, .bql, .snd, .que, .fry, .rgl] fun t =>
      t = (if j.kind = .recall then recallInto n j.pn j (s.mach.openImage n (s.mach.useNext n j.pn) img) img.size
        else remoteRead n j (s.mach.openImage n (s.mach.useNext n j.pn) img)).run s.mach) ∧
  (∀ (s : State) (x y : Msg) (j : ImgJob) (n : Nat) (img : Image), y = { x with code := mImgData } → s.mach.hears x.src →
    svcBodyOk y = true → s.mach.arc.jobs.find? (fun j => j.peer == x.src && j.txid == x.txid) = some j →
    s.mach.atollOf j.pn = some n → img = Image.parse (x.body.take 64) (x.body.drop 64) →
    x.opst = 2 ∨ x.body = [] ∨ s.mach.imageTag img ≠ (s.mach.page j.pn).rcd.offTag → j.kind ≠ .remoteRead →
    Completes (.imgData x) s lineFields
      [.pages, .out, .freeCtr, .lines, .dir, .host, .bkw, .lhl, .arc, .bql, .snd, .que, .fry] fun t =>
      t = (Act.seq (endJob j) (losePage n j.pn (decide (x.opst ≠ 2 ∧ x.body ≠ [])))).run s.mach) ∧
  (∀ (s : State) (x y : Msg), y = { x with code := mRmtBind } → s.mach.Serves y →
    ((s.mach.atollAt x.line).filter fun n => s.mach.get .ATL_STATE n == atlLive && !s.mach.isBell n && !s.mach.isRemote n) = none →
    Completes (.rmtBind x) s [] [.out, .bql] fun t => Mach.Replied y 2 [] s.mach t) ∧
  (∀ (s : State) (x y : Msg) (n : Nat), y = { x with code := mRmtBind } → s.mach.Serves y →
    ((s.mach.atollAt x.line).filter fun n => s.mach.get .ATL_STATE n == atlLive && !s.mach.isBell n && !s.mach.isRemote n) = some n →
    s.mach.get .ATL_MIRROR n = 2 →
    Completes (.rmtBind x) s [] [.out, .bql] fun t => Mach.Replied y 4 [] s.mach t) ∧
  (∀ (s : State) (x y : Msg) (n : Nat), y = { x with code := mRmtBind } → s.mach.Serves y →
    ((s.mach.atollAt x.line).filter fun n => s.mach.get .ATL_STATE n == atlLive && !s.mach.isBell n && !s.mach.isRemote n) = some n →
    s.mach.get .ATL_MIRROR n ≠ 2 →
    Completes (.rmtBind x) s [] [.out, .arc, .bql] fun t =>
      Mach.Replied y 0 (Bits.leBytes 8 (s.mach.entryWords n).1 ++ Bits.leBytes 8 (s.mach.entryWords n).2) s.mach t ∧
      t.arc = { s.mach.arc with binds := s.mach.arc.binds.filter (· != (n, x.src)) ++ [(n, x.src)] }) ∧
  (∀ (s : State) (x y : Msg) (j : ImgJob) (n : Nat), y = { x with code := mSvcAck } → s.mach.hears x.src → svcBodyOk y = true →
    s.mach.arc.jobs.find? (fun j => j.peer == x.src && j.txid == x.txid && (j.kind == .push || j.kind == .rewritePut)) = some j →
    s.mach.atollOf j.pn = some n →
    Completes (.svcAck x) s (lineFields ++ tallyFields ++ [.ATL_TDL_PAGE, .TIER_PUSHES, .TDL_PAGES, .TDL_SLOT_LINE, .TDL_SLOT_WINDOW,
        .ARC_REL_PENDING, .SND_T_LOST])
      [.pages, .out, .freeCtr, .lines, .dir, .grain, .keys, .host, .bkw, .lhl, .arc, .bql, .snd, .que, .fry] fun t =>
      t = (if x.opst = 0 then commitPush n j (Bits.leNat (x.body.take 8)) else nextHolder n j).run s.mach) ∧
  (∀ (s : State) (x y : Msg) (r : Release), y = { x with code := mSvcAck } → s.mach.hears x.src → svcBodyOk y = true →
    (∀ j, j ∈ s.mach.arc.jobs → j.peer = x.src → j.txid ≠ x.txid) →
    s.mach.arc.releases.find? (fun r => r.peer == x.src && r.txid == x.txid) = some r →
    Completes (.svcAck x) s [.ARC_REL_PENDING] [.arc] fun t =>
      t.arc = { s.mach.arc with releases := s.mach.arc.releases.filter (· != r) } ∧
      t.get .ARC_REL_PENDING 0 = (s.mach.arc.releases.length - 1) % 2 ^ 32) ∧
  (∀ (s : State) (x y : Msg) (q : SvcReq), y = { x with code := mSvcAck } → s.mach.hears x.src → svcBodyOk y = true →
    (∀ j, j ∈ s.mach.arc.jobs → j.peer = x.src → j.txid ≠ x.txid) →
    (∀ r, r ∈ s.mach.arc.releases → r.peer = x.src → r.txid ≠ x.txid) →
    s.mach.arc.svc.find? (fun s => s.peer == x.src && s.txid == x.txid) = some q →
    Completes (.svcAck x) s (lineFields ++ tallyFields ++ [.ATL_STATE, .ATL_MIRROR, .ATL_VISITOR_WT, .ATL_TDL_STATE,
        .ATL_PARTNER, .ATL_PARTNER_UP, .ATL_ERR, .ATL_KEYS_ABSENT, .ATL_BACKING, .GRN_FREE, .GRN_ALLOCATED, .GRN_META, .GRN_QUAR,
        .TDL_SLOT_STATE, .ARC_LEAVE, .ARC_MEMBERS, .ARC_HOLD_USED, .ARC_HELD_IMAGES,
        .ARC_REL_PENDING, .ARC_EVAC_LEFT, .ARC_PAIR_STATUS, .ARC_PEER_IDENT, .ARC_PEER_GSN, .ARC_ATL_HOME, .ARC_ATL_REMOTE,
        .ARC_ATL_COPY, .ARC_ATL_FENCED, .ARC_ATL_RESYNC, .DRM_D_LEFT])
      [.pages, .out, .freeCtr, .lines, .dir, .grain, .keys, .host, .bkw, .lhl, .arc, .bql, .snd, .que, .fry] fun t =>
      t = (Act.seq (.prim (.arc fun a => { a with svc := a.svc.erase q })) (svcAnswered q y)).run s.mach) ∧
  (∀ (s : State) (x y : Msg), y = { x with code := mSvcAck } → s.mach.hears x.src → svcBodyOk y = true →
    (∀ j, j ∈ s.mach.arc.jobs → j.peer = x.src → j.txid ≠ x.txid) →
    (∀ r, r ∈ s.mach.arc.releases → r.peer = x.src → r.txid ≠ x.txid) →
    (∀ q, q ∈ s.mach.arc.svc → q.peer = x.src → q.txid ≠ x.txid) →
    Completes (.svcAck x) s (detectFields ++ [.DIR_PROTO_ERR]) [.out, .lines, .host, .bkw, .lhl] fun t =>
      t.get .DIR_PROTO_ERR 0 = (s.mach.get .DIR_PROTO_ERR 0 + 1) % 2 ^ 32)

/-- The idle step, the model's choice of log entry 2. -/
def Obligations.IdleStep : Prop :=
  (∀ (s : State), s.pending = [] → ∃ t, step s = .next t ∧ t.pending = [] ∧ t.mach = tick.run s.mach) ∧
  (∀ (s : State), s.pending = [] → s.mach.bkw.stopping = [] →
    ∃ t, step s = .next t ∧ t.pending = [] ∧ t.mach.get .REEF_TIME 0 = (s.mach.get .REEF_TIME 0 + 1) % 2 ^ 64 ∧
      s.mach.Frame [.REEF_TIME] [] t.mach)

/-- The invariant of `StepKeepsCanonical` holds at reset. -/
def Obligations.ResetIsCanonical : Prop := State.reset.mach.Canonical

/-- R470: no command leaves a field with a value wider than its bits, and no command leaves the data of the machine in another form than the
canonical one. -/
def Obligations.StepKeepsCanonical : Prop :=
  ∀ (s : State), s.mach.Canonical →
    ∃ t, step s = .next t ∧ t.mach.Canonical ∧ t.mach.sled = s.mach.sled ∧ t.pending = s.pending.tail

/-- R102. -/
def Obligations.HomeIndexOfPage : Prop :=
  ∀ (m : Mach) (n pn : Nat),
    (m.sled = .dx32 → m.pageK n pn = (pn - m.atollPage n) >>> 5) ∧ (m.sled = .dx16 → m.pageK n pn = (pn - m.atollPage n) >>> 4)

/-- R310. -/
def Obligations.DramGuarantee : Prop :=
  ∀ (m : Mach) (x : Share) (c n total : Nat), x ∈ m.staged →
    n = ((List.range m.sled.chans).filter fun j => (m.get .RGL_M_CHANSET x.master).testBit j && m.flag .DRM_C_INSERVICE j).length →
    total = (if m.get .RGL_M_TAGS x.master = 1 then m.get .RGL_M_GUAR x.master * 100 * 9 / 8 else m.get .RGL_M_GUAR x.master * 100) →
    m.shareD x c =
      if c < m.sled.chans ∧ (m.get .RGL_M_CHANSET x.master).testBit c = true ∧ m.get .DRM_C_INSERVICE c = 1 then total / n else 0
end

