-- ==== Sys2Proof/Laws/Maps.lean ====
section
/-!
SUPPORT. What the maps by number answer after a change, and that every change keeps their canonical form; the same of grain space and
of the register file.
-/

namespace Sys2Proof

variable {α : Type}

@[simp] theorem SMap.find?_nil (k : Nat) : SMap.find? ([] : SMap α) k = none := rfl

theorem SMap.find?_cons (p : Nat × α) (m : SMap α) (k : Nat) :
    SMap.find? (p :: m) k = if p.1 = k then some p.2 else SMap.find? m k := by
  unfold SMap.find?
  by_cases h : p.1 = k
  · simp [h]
  · rw [List.find?_cons_of_neg (by simpa using h), if_neg h]

theorem SMap.find?_ins_self (k : Nat) (v : α) (m : SMap α) (h : m.find? k = none) : (SMap.ins k v m).find? k = some v := by
  induction m with
  | nil => simp [SMap.ins, SMap.find?_cons]
  | cons p m ih =>
    rw [SMap.find?_cons] at h
    unfold SMap.ins
    by_cases hk : p.1 = k
    · simp [hk] at h
    · split
      · simp [SMap.find?_cons]
      · rw [SMap.find?_cons, if_neg hk]; exact ih (by simpa [hk] using h)

theorem SMap.find?_ins_ne (k j : Nat) (v : α) (m : SMap α) (h : j ≠ k) : (SMap.ins k v m).find? j = m.find? j := by
  induction m with
  | nil => simp [SMap.ins, SMap.find?_cons, Ne.symm h]
  | cons p m ih =>
    unfold SMap.ins
    split
    · rw [SMap.find?_cons, if_neg (Ne.symm h)]
    · rw [SMap.find?_cons, SMap.find?_cons, ih]

@[simp] theorem SMap.find?_erase_self (m : SMap α) (k : Nat) : (m.erase k).find? k = none := by
  induction m with
  | nil => rfl
  | cons p m ih =>
    unfold SMap.erase at *
    by_cases h : p.1 = k
    · rw [List.filter_cons_of_neg (by simpa using h)]; exact ih
    · rw [List.filter_cons_of_pos (by simpa using h), SMap.find?_cons, if_neg h]; exact ih

theorem SMap.find?_erase_ne (m : SMap α) (k j : Nat) (h : j ≠ k) : (m.erase k).find? j = m.find? j := by
  induction m with
  | nil => rfl
  | cons p m ih =>
    unfold SMap.erase at *
    by_cases hk : p.1 = k
    · rw [SMap.find?_cons, if_neg (by omega), ← ih]
      simp [hk]
    · rw [List.filter_cons_of_pos (by simpa using hk), SMap.find?_cons, SMap.find?_cons, ih]

@[simp] theorem SMap.find?_put_self (m : SMap α) (k : Nat) (v : α) : (m.put k v).find? k = some v :=
  SMap.find?_ins_self _ _ _ (SMap.find?_erase_self m k)

theorem SMap.find?_put_ne (m : SMap α) (k j : Nat) (v : α) (h : j ≠ k) : (m.put k v).find? j = m.find? j := by
  rw [SMap.put, SMap.find?_ins_ne _ _ _ _ h, SMap.find?_erase_ne _ _ _ h]

theorem SMap.find?_set_self [DecidableEq α] (m : SMap α) (k : Nat) (d v : α) : ((m.set k d v).find? k).getD d = v := by
  unfold SMap.set
  split
  · next h => simp [h]
  · simp

theorem SMap.find?_set_ne [DecidableEq α] (m : SMap α) (k j : Nat) (d v : α) (h : j ≠ k) : (m.set k d v).find? j = m.find? j := by
  unfold SMap.set
  split
  · exact SMap.find?_erase_ne _ _ _ h
  · exact SMap.find?_put_ne _ _ _ _ h

/-! ### The canonical form -/

/-- Every key of a map lies above a bound. -/
def SMap.above (b : Nat) (m : SMap α) : Prop := ∀ p ∈ m, b < p.1

theorem SMap.sorted_cons (p : Nat × α) (m : SMap α) : SMap.sorted (p :: m) = true ↔ SMap.above p.1 m ∧ SMap.sorted m = true := by
  induction m generalizing p with
  | nil => simp [SMap.sorted, SMap.above]
  | cons q m ih =>
    rw [SMap.sorted, Bool.and_eq_true, decide_eq_true_iff]
    constructor
    · rintro ⟨h, hs⟩
      refine ⟨?_, hs⟩
      intro r hr
      rcases List.mem_cons.mp hr with rfl | hr
      · exact h
      · exact Nat.lt_trans h (((ih q).mp hs).1 r hr)
    · rintro ⟨h, hs⟩
      exact ⟨h q (List.mem_cons_self ..), hs⟩

theorem SMap.sorted_erase (m : SMap α) (k : Nat) (h : m.sorted = true) : (m.erase k).sorted = true := by
  induction m with
  | nil => rfl
  | cons p m ih =>
    obtain ⟨ha, hs⟩ := (SMap.sorted_cons p m).mp h
    unfold SMap.erase
    by_cases hp : p.1 = k
    · rw [List.filter_cons_of_neg (by simpa using hp)]; exact ih hs
    · rw [List.filter_cons_of_pos (by simpa using hp), SMap.sorted_cons]
      exact ⟨fun q hq => ha q (List.mem_filter.mp hq).1, ih hs⟩

theorem SMap.mem_ins (k : Nat) (v : α) (m : SMap α) (q : Nat × α) (h : q ∈ SMap.ins k v m) : q = (k, v) ∨ q ∈ m := by
  induction m with
  | nil => simpa [SMap.ins] using h
  | cons p m ih =>
    unfold SMap.ins at h
    split at h
    · simpa using h
    · rcases List.mem_cons.mp h with h | h
      · exact .inr (by simp [h])
      · rcases ih h with h | h
        · exact .inl h
        · exact .inr (by simp [h])

theorem SMap.sorted_ins (k : Nat) (v : α) (m : SMap α) (hn : ∀ p ∈ m, p.1 ≠ k) (h : m.sorted = true) :
    (SMap.ins k v m).sorted = true := by
  induction m with
  | nil => rfl
  | cons p m ih =>
    obtain ⟨ha, hs⟩ := (SMap.sorted_cons p m).mp h
    unfold SMap.ins
    split
    · next hk =>
      rw [SMap.sorted_cons]
      refine ⟨?_, h⟩
      intro q hq
      rcases List.mem_cons.mp hq with rfl | hq
      · exact hk
      · exact Nat.lt_trans hk (ha q hq)
    · next hk =>
      rw [SMap.sorted_cons]
      have hp : p.1 ≠ k := hn p (List.mem_cons_self ..)
      refine ⟨?_, ih (fun q hq => hn q (List.mem_cons_of_mem _ hq)) hs⟩
      intro q hq
      rcases SMap.mem_ins _ _ _ _ hq with rfl | hq
      · show p.1 < k; omega
      · exact ha q hq

theorem SMap.sorted_put (m : SMap α) (k : Nat) (v : α) (h : m.sorted = true) : (m.put k v).sorted = true := by
  apply SMap.sorted_ins _ _ _ _ (SMap.sorted_erase _ _ h)
  intro p hp
  simpa using (List.mem_filter.mp hp).2

theorem SMap.sorted_set [DecidableEq α] (m : SMap α) (k : Nat) (d v : α) (h : m.sorted = true) : (m.set k d v).sorted = true := by
  unfold SMap.set
  split
  · exact SMap.sorted_erase _ _ h
  · exact SMap.sorted_put _ _ _ h

theorem SMap.sorted_filter (m : SMap α) (f : Nat × α → Bool) (h : m.sorted = true) : SMap.sorted (List.filter f m) = true := by
  induction m with
  | nil => rfl
  | cons p m ih =>
    obtain ⟨ha, hs⟩ := (SMap.sorted_cons p m).mp h
    by_cases hp : f p
    · rw [List.filter_cons_of_pos hp, SMap.sorted_cons]
      exact ⟨fun q hq => ha q (List.mem_filter.mp hq).1, ih hs⟩
    · rw [List.filter_cons_of_neg hp]; exact ih hs

theorem SMap.all_set [DecidableEq α] (m : SMap α) (k : Nat) (d v : α) (h : m.all (fun p => p.2 != d) = true) :
    (m.set k d v).all (fun p => p.2 != d) = true := by
  rw [List.all_eq_true] at h ⊢
  intro q hq
  unfold SMap.set at hq
  split at hq
  · exact h q (List.mem_filter.mp hq).1
  · next hv =>
    rcases SMap.mem_ins _ _ _ _ hq with rfl | hq
    · simpa using hv
    · exact h q (List.mem_filter.mp hq).1

end Sys2Proof

namespace Sys2Proof.Machine

/-! ### Grain space -/

theorem Dram.byte_set (d : List Host.Cell) (a b : Nat) (v : Byte) : Dram.byte (Dram.set d a v) b = if b = a then v else Dram.byte d b := by
  unfold Dram.byte Dram.set
  split
  · next h => rw [h]; exact SMap.find?_set_self ..
  · next h => rw [SMap.find?_set_ne _ _ _ _ _ h]

/-- A byte outside the bytes written reads as before; one written reads as written. -/
theorem Dram.byte_write (bs : List Byte) : ∀ (d : List Host.Cell) (a b : Nat),
    Dram.byte (Dram.write d a bs) b = if a ≤ b ∧ b < a + bs.length then bs.getD (b - a) 0 else Dram.byte d b := by
  induction bs with
  | nil =>
    intro d a b
    simp only [Dram.write, List.length_nil, Nat.add_zero]
    rw [if_neg (by omega)]
  | cons c cs ih =>
    intro d a b
    rw [Dram.write, ih, Dram.byte_set]
    by_cases h : b = a
    · subst h; simp
    · by_cases h2 : a + 1 ≤ b ∧ b < a + 1 + cs.length
      · rw [if_pos h2, if_pos (by simp only [List.length_cons]; omega)]
        obtain ⟨k, hk⟩ : ∃ k, b - a = k + 1 := ⟨b - a - 1, by omega⟩
        rw [hk, show b - (a + 1) = k by omega]
        rfl
      · rw [if_neg h2, if_neg h, if_neg (by simp only [List.length_cons]; omega)]

theorem Dram.write_sorted (bs : List Byte) : ∀ (d : List Host.Cell) (a : Nat), SMap.sorted d = true →
    SMap.sorted (Dram.write d a bs) = true := by
  induction bs with
  | nil => intro d a h; exact h
  | cons c cs ih => intro d a h; exact ih _ _ (SMap.sorted_set _ _ _ _ h)

theorem Dram.write_all (bs : List Byte) : ∀ (d : List Host.Cell) (a : Nat), d.all (fun p => p.2 != 0) = true →
    (Dram.write d a bs).all (fun p => p.2 != 0) = true := by
  induction bs with
  | nil => intro d a h; exact h
  | cons c cs ih => intro d a h; exact ih _ _ (SMap.all_set _ _ _ _ h)

/-! ### The register file -/

theorem Fld.ctorIdx_lt (f : Fld) : f.ctorIdx < 1024 := by cases f <;> decide

theorem Fld.ctorIdx_lt600 (f : Fld) : f.ctorIdx < 600 := by cases f <;> decide

theorem Fld.eq_of_ctorIdx {f g : Fld} (h : f.ctorIdx = g.ctorIdx) : f = g := by
  rw [← Fld.ofNat_ctorIdx f, ← Fld.ofNat_ctorIdx g, h]

end Sys2Proof.Machine
end

