-- ==== Sys2Proof/Laws/State.lean ====
section
/-!
SUPPORT. One lemma per field of the sled per primitive update, and the equations that run programs.
-/

namespace Sys2Proof.Machine

@[simp] theorem Act.run_skip (m : Mach) : Act.skip.run m = m := rfl
@[simp] theorem Act.run_prim (p : Prim) (m : Mach) : (Act.prim p).run m = p.apply m := rfl
@[simp] theorem Act.run_seq (a b : Act) (m : Mach) : (Act.seq a b).run m = b.run (a.run m) := rfl
@[simp] theorem Act.run_read (f : Mach → Act) (m : Mach) : (Act.read f).run m = (f m).run m := rfl
@[simp] theorem Act.run_all_nil (m : Mach) : (Act.all []).run m = m := rfl
@[simp] theorem Act.run_all_one (a : Act) (m : Mach) : (Act.all [a]).run m = a.run m := rfl
@[simp] theorem Act.run_all_cons (a b : Act) (as : List Act) (m : Mach) :
    (Act.all (a :: b :: as)).run m = (Act.all (b :: as)).run (a.run m) := rfl
@[simp] theorem Act.run_when (c : Bool) (a : Act) (m : Mach) :
    (Act.when c a).run m = if c then a.run m else m := by
  cases c <;> rfl
@[simp] theorem Act.run_set (f : Fld) (i v : Nat) (m : Mach) :
    (Act.set f i v).run m = (Prim.reg f i v).apply m := rfl
@[simp] theorem Act.run_emit (o : Out) (m : Mach) : (Act.emit o).run m = (Prim.emit o).apply m := rfl
@[simp] theorem State.act_next (s : State) (a : Act) :
    s.act a = .next { s with mach := a.run s.mach } := rfl

/-- A property that every primitive keeps is kept by every program. -/
theorem Act.run_keeps (P : Mach → Prop) (h : ∀ (p : Prim) (m : Mach), P m → P (p.apply m)) (a : Act) :
    ∀ m, P m → P (a.run m) := by
  induction a with
  | skip => intro m hm; exact hm
  | prim p => intro m hm; exact h p m hm
  | seq a b iha ihb => intro m hm; exact ihb _ (iha _ hm)
  | read f ih => intro m hm; exact ih m m hm

@[simp] theorem Prim.reg_sled (f : Fld) (i v : Nat) (m : Mach) : ((Prim.reg f i v).apply m).sled = m.sled := rfl
@[simp] theorem Prim.reg_dram (f : Fld) (i v : Nat) (m : Mach) : ((Prim.reg f i v).apply m).dram = m.dram := rfl
@[simp] theorem Prim.reg_pages (f : Fld) (i v : Nat) (m : Mach) : ((Prim.reg f i v).apply m).pages = m.pages := rfl
@[simp] theorem Prim.reg_lines (f : Fld) (i v : Nat) (m : Mach) : ((Prim.reg f i v).apply m).lines = m.lines := rfl
@[simp] theorem Prim.reg_dir (f : Fld) (i v : Nat) (m : Mach) : ((Prim.reg f i v).apply m).dir = m.dir := rfl
@[simp] theorem Prim.reg_grain (f : Fld) (i v : Nat) (m : Mach) : ((Prim.reg f i v).apply m).grain = m.grain := rfl
@[simp] theorem Prim.reg_keys (f : Fld) (i v : Nat) (m : Mach) : ((Prim.reg f i v).apply m).keys = m.keys := rfl
@[simp] theorem Prim.reg_host (f : Fld) (i v : Nat) (m : Mach) : ((Prim.reg f i v).apply m).host = m.host := rfl
@[simp] theorem Prim.reg_bkw (f : Fld) (i v : Nat) (m : Mach) : ((Prim.reg f i v).apply m).bkw = m.bkw := rfl
@[simp] theorem Prim.reg_lhl (f : Fld) (i v : Nat) (m : Mach) : ((Prim.reg f i v).apply m).lhl = m.lhl := rfl
@[simp] theorem Prim.reg_arc (f : Fld) (i v : Nat) (m : Mach) : ((Prim.reg f i v).apply m).arc = m.arc := rfl
@[simp] theorem Prim.reg_bql (f : Fld) (i v : Nat) (m : Mach) : ((Prim.reg f i v).apply m).bql = m.bql := rfl
@[simp] theorem Prim.reg_snd (f : Fld) (i v : Nat) (m : Mach) : ((Prim.reg f i v).apply m).snd = m.snd := rfl
@[simp] theorem Prim.reg_que (f : Fld) (i v : Nat) (m : Mach) : ((Prim.reg f i v).apply m).que = m.que := rfl
@[simp] theorem Prim.reg_fry (f : Fld) (i v : Nat) (m : Mach) : ((Prim.reg f i v).apply m).fry = m.fry := rfl
@[simp] theorem Prim.reg_fw (f : Fld) (i v : Nat) (m : Mach) : ((Prim.reg f i v).apply m).fw = m.fw := rfl
@[simp] theorem Prim.reg_chan (f : Fld) (i v : Nat) (m : Mach) : ((Prim.reg f i v).apply m).chan = m.chan := rfl
@[simp] theorem Prim.reg_rgl (f : Fld) (i v : Nat) (m : Mach) : ((Prim.reg f i v).apply m).rgl = m.rgl := rfl
@[simp] theorem Prim.reg_noc (f : Fld) (i v : Nat) (m : Mach) : ((Prim.reg f i v).apply m).noc = m.noc := rfl
@[simp] theorem Prim.reg_csw (f : Fld) (i v : Nat) (m : Mach) : ((Prim.reg f i v).apply m).csw = m.csw := rfl
@[simp] theorem Prim.reg_pow (f : Fld) (i v : Nat) (m : Mach) : ((Prim.reg f i v).apply m).pow = m.pow := rfl
@[simp] theorem Prim.reg_out (f : Fld) (i v : Nat) (m : Mach) : ((Prim.reg f i v).apply m).out = m.out := rfl
@[simp] theorem Prim.reg_freeCtr (f : Fld) (i v : Nat) (m : Mach) : ((Prim.reg f i v).apply m).freeCtr = m.freeCtr := rfl
@[simp] theorem Prim.poke_sled (a : Nat) (bs : List Byte) (m : Mach) : ((Prim.poke a bs).apply m).sled = m.sled := rfl
@[simp] theorem Prim.poke_regs (a : Nat) (bs : List Byte) (m : Mach) : ((Prim.poke a bs).apply m).regs = m.regs := rfl
@[simp] theorem Prim.poke_pages (a : Nat) (bs : List Byte) (m : Mach) : ((Prim.poke a bs).apply m).pages = m.pages := rfl
@[simp] theorem Prim.poke_lines (a : Nat) (bs : List Byte) (m : Mach) : ((Prim.poke a bs).apply m).lines = m.lines := rfl
@[simp] theorem Prim.poke_dir (a : Nat) (bs : List Byte) (m : Mach) : ((Prim.poke a bs).apply m).dir = m.dir := rfl
@[simp] theorem Prim.poke_grain (a : Nat) (bs : List Byte) (m : Mach) : ((Prim.poke a bs).apply m).grain = m.grain := rfl
@[simp] theorem Prim.poke_keys (a : Nat) (bs : List Byte) (m : Mach) : ((Prim.poke a bs).apply m).keys = m.keys := rfl
@[simp] theorem Prim.poke_host (a : Nat) (bs : List Byte) (m : Mach) : ((Prim.poke a bs).apply m).host = m.host := rfl
@[simp] theorem Prim.poke_bkw (a : Nat) (bs : List Byte) (m : Mach) : ((Prim.poke a bs).apply m).bkw = m.bkw := rfl
@[simp] theorem Prim.poke_lhl (a : Nat) (bs : List Byte) (m : Mach) : ((Prim.poke a bs).apply m).lhl = m.lhl := rfl
@[simp] theorem Prim.poke_arc (a : Nat) (bs : List Byte) (m : Mach) : ((Prim.poke a bs).apply m).arc = m.arc := rfl
@[simp] theorem Prim.poke_bql (a : Nat) (bs : List Byte) (m : Mach) : ((Prim.poke a bs).apply m).bql = m.bql := rfl
@[simp] theorem Prim.poke_snd (a : Nat) (bs : List Byte) (m : Mach) : ((Prim.poke a bs).apply m).snd = m.snd := rfl
@[simp] theorem Prim.poke_que (a : Nat) (bs : List Byte) (m : Mach) : ((Prim.poke a bs).apply m).que = m.que := rfl
@[simp] theorem Prim.poke_fry (a : Nat) (bs : List Byte) (m : Mach) : ((Prim.poke a bs).apply m).fry = m.fry := rfl
@[simp] theorem Prim.poke_fw (a : Nat) (bs : List Byte) (m : Mach) : ((Prim.poke a bs).apply m).fw = m.fw := rfl
@[simp] theorem Prim.poke_chan (a : Nat) (bs : List Byte) (m : Mach) : ((Prim.poke a bs).apply m).chan = m.chan := rfl
@[simp] theorem Prim.poke_rgl (a : Nat) (bs : List Byte) (m : Mach) : ((Prim.poke a bs).apply m).rgl = m.rgl := rfl
@[simp] theorem Prim.poke_noc (a : Nat) (bs : List Byte) (m : Mach) : ((Prim.poke a bs).apply m).noc = m.noc := rfl
@[simp] theorem Prim.poke_csw (a : Nat) (bs : List Byte) (m : Mach) : ((Prim.poke a bs).apply m).csw = m.csw := rfl
@[simp] theorem Prim.poke_pow (a : Nat) (bs : List Byte) (m : Mach) : ((Prim.poke a bs).apply m).pow = m.pow := rfl
@[simp] theorem Prim.poke_out (a : Nat) (bs : List Byte) (m : Mach) : ((Prim.poke a bs).apply m).out = m.out := rfl
@[simp] theorem Prim.poke_freeCtr (a : Nat) (bs : List Byte) (m : Mach) : ((Prim.poke a bs).apply m).freeCtr = m.freeCtr := rfl
@[simp] theorem Prim.page_sled (pn : Nat) (p : PageSt) (m : Mach) : ((Prim.page pn p).apply m).sled = m.sled := rfl
@[simp] theorem Prim.page_regs (pn : Nat) (p : PageSt) (m : Mach) : ((Prim.page pn p).apply m).regs = m.regs := rfl
@[simp] theorem Prim.page_dram (pn : Nat) (p : PageSt) (m : Mach) : ((Prim.page pn p).apply m).dram = m.dram := rfl
@[simp] theorem Prim.page_lines (pn : Nat) (p : PageSt) (m : Mach) : ((Prim.page pn p).apply m).lines = m.lines := rfl
@[simp] theorem Prim.page_dir (pn : Nat) (p : PageSt) (m : Mach) : ((Prim.page pn p).apply m).dir = m.dir := rfl
@[simp] theorem Prim.page_grain (pn : Nat) (p : PageSt) (m : Mach) : ((Prim.page pn p).apply m).grain = m.grain := rfl
@[simp] theorem Prim.page_keys (pn : Nat) (p : PageSt) (m : Mach) : ((Prim.page pn p).apply m).keys = m.keys := rfl
@[simp] theorem Prim.page_host (pn : Nat) (p : PageSt) (m : Mach) : ((Prim.page pn p).apply m).host = m.host := rfl
@[simp] theorem Prim.page_bkw (pn : Nat) (p : PageSt) (m : Mach) : ((Prim.page pn p).apply m).bkw = m.bkw := rfl
@[simp] theorem Prim.page_lhl (pn : Nat) (p : PageSt) (m : Mach) : ((Prim.page pn p).apply m).lhl = m.lhl := rfl
@[simp] theorem Prim.page_arc (pn : Nat) (p : PageSt) (m : Mach) : ((Prim.page pn p).apply m).arc = m.arc := rfl
@[simp] theorem Prim.page_bql (pn : Nat) (p : PageSt) (m : Mach) : ((Prim.page pn p).apply m).bql = m.bql := rfl
@[simp] theorem Prim.page_snd (pn : Nat) (p : PageSt) (m : Mach) : ((Prim.page pn p).apply m).snd = m.snd := rfl
@[simp] theorem Prim.page_que (pn : Nat) (p : PageSt) (m : Mach) : ((Prim.page pn p).apply m).que = m.que := rfl
@[simp] theorem Prim.page_fry (pn : Nat) (p : PageSt) (m : Mach) : ((Prim.page pn p).apply m).fry = m.fry := rfl
@[simp] theorem Prim.page_fw (pn : Nat) (p : PageSt) (m : Mach) : ((Prim.page pn p).apply m).fw = m.fw := rfl
@[simp] theorem Prim.page_chan (pn : Nat) (p : PageSt) (m : Mach) : ((Prim.page pn p).apply m).chan = m.chan := rfl
@[simp] theorem Prim.page_rgl (pn : Nat) (p : PageSt) (m : Mach) : ((Prim.page pn p).apply m).rgl = m.rgl := rfl
@[simp] theorem Prim.page_noc (pn : Nat) (p : PageSt) (m : Mach) : ((Prim.page pn p).apply m).noc = m.noc := rfl
@[simp] theorem Prim.page_csw (pn : Nat) (p : PageSt) (m : Mach) : ((Prim.page pn p).apply m).csw = m.csw := rfl
@[simp] theorem Prim.page_pow (pn : Nat) (p : PageSt) (m : Mach) : ((Prim.page pn p).apply m).pow = m.pow := rfl
@[simp] theorem Prim.page_out (pn : Nat) (p : PageSt) (m : Mach) : ((Prim.page pn p).apply m).out = m.out := rfl
@[simp] theorem Prim.page_freeCtr (pn : Nat) (p : PageSt) (m : Mach) : ((Prim.page pn p).apply m).freeCtr = m.freeCtr := rfl
@[simp] theorem Prim.emit_sled (o : Out) (m : Mach) : ((Prim.emit o).apply m).sled = m.sled := rfl
@[simp] theorem Prim.emit_regs (o : Out) (m : Mach) : ((Prim.emit o).apply m).regs = m.regs := rfl
@[simp] theorem Prim.emit_dram (o : Out) (m : Mach) : ((Prim.emit o).apply m).dram = m.dram := rfl
@[simp] theorem Prim.emit_pages (o : Out) (m : Mach) : ((Prim.emit o).apply m).pages = m.pages := rfl
@[simp] theorem Prim.emit_lines (o : Out) (m : Mach) : ((Prim.emit o).apply m).lines = m.lines := rfl
@[simp] theorem Prim.emit_dir (o : Out) (m : Mach) : ((Prim.emit o).apply m).dir = m.dir := rfl
@[simp] theorem Prim.emit_grain (o : Out) (m : Mach) : ((Prim.emit o).apply m).grain = m.grain := rfl
@[simp] theorem Prim.emit_keys (o : Out) (m : Mach) : ((Prim.emit o).apply m).keys = m.keys := rfl
@[simp] theorem Prim.emit_host (o : Out) (m : Mach) : ((Prim.emit o).apply m).host = m.host := rfl
@[simp] theorem Prim.emit_bkw (o : Out) (m : Mach) : ((Prim.emit o).apply m).bkw = m.bkw := rfl
@[simp] theorem Prim.emit_lhl (o : Out) (m : Mach) : ((Prim.emit o).apply m).lhl = m.lhl := rfl
@[simp] theorem Prim.emit_arc (o : Out) (m : Mach) : ((Prim.emit o).apply m).arc = m.arc := rfl
@[simp] theorem Prim.emit_bql (o : Out) (m : Mach) : ((Prim.emit o).apply m).bql = m.bql := rfl
@[simp] theorem Prim.emit_snd (o : Out) (m : Mach) : ((Prim.emit o).apply m).snd = m.snd := rfl
@[simp] theorem Prim.emit_que (o : Out) (m : Mach) : ((Prim.emit o).apply m).que = m.que := rfl
@[simp] theorem Prim.emit_fry (o : Out) (m : Mach) : ((Prim.emit o).apply m).fry = m.fry := rfl
@[simp] theorem Prim.emit_fw (o : Out) (m : Mach) : ((Prim.emit o).apply m).fw = m.fw := rfl
@[simp] theorem Prim.emit_chan (o : Out) (m : Mach) : ((Prim.emit o).apply m).chan = m.chan := rfl
@[simp] theorem Prim.emit_rgl (o : Out) (m : Mach) : ((Prim.emit o).apply m).rgl = m.rgl := rfl
@[simp] theorem Prim.emit_noc (o : Out) (m : Mach) : ((Prim.emit o).apply m).noc = m.noc := rfl
@[simp] theorem Prim.emit_csw (o : Out) (m : Mach) : ((Prim.emit o).apply m).csw = m.csw := rfl
@[simp] theorem Prim.emit_pow (o : Out) (m : Mach) : ((Prim.emit o).apply m).pow = m.pow := rfl
@[simp] theorem Prim.emit_freeCtr (o : Out) (m : Mach) : ((Prim.emit o).apply m).freeCtr = m.freeCtr := rfl
@[simp] theorem Prim.draw_sled (m : Mach) : ((Prim.draw).apply m).sled = m.sled := rfl
@[simp] theorem Prim.draw_regs (m : Mach) : ((Prim.draw).apply m).regs = m.regs := rfl
@[simp] theorem Prim.draw_dram (m : Mach) : ((Prim.draw).apply m).dram = m.dram := rfl
@[simp] theorem Prim.draw_pages (m : Mach) : ((Prim.draw).apply m).pages = m.pages := rfl
@[simp] theorem Prim.draw_lines (m : Mach) : ((Prim.draw).apply m).lines = m.lines := rfl
@[simp] theorem Prim.draw_dir (m : Mach) : ((Prim.draw).apply m).dir = m.dir := rfl
@[simp] theorem Prim.draw_grain (m : Mach) : ((Prim.draw).apply m).grain = m.grain := rfl
@[simp] theorem Prim.draw_keys (m : Mach) : ((Prim.draw).apply m).keys = m.keys := rfl
@[simp] theorem Prim.draw_host (m : Mach) : ((Prim.draw).apply m).host = m.host := rfl
@[simp] theorem Prim.draw_bkw (m : Mach) : ((Prim.draw).apply m).bkw = m.bkw := rfl
@[simp] theorem Prim.draw_lhl (m : Mach) : ((Prim.draw).apply m).lhl = m.lhl := rfl
@[simp] theorem Prim.draw_arc (m : Mach) : ((Prim.draw).apply m).arc = m.arc := rfl
@[simp] theorem Prim.draw_bql (m : Mach) : ((Prim.draw).apply m).bql = m.bql := rfl
@[simp] theorem Prim.draw_snd (m : Mach) : ((Prim.draw).apply m).snd = m.snd := rfl
@[simp] theorem Prim.draw_que (m : Mach) : ((Prim.draw).apply m).que = m.que := rfl
@[simp] theorem Prim.draw_fry (m : Mach) : ((Prim.draw).apply m).fry = m.fry := rfl
@[simp] theorem Prim.draw_fw (m : Mach) : ((Prim.draw).apply m).fw = m.fw := rfl
@[simp] theorem Prim.draw_chan (m : Mach) : ((Prim.draw).apply m).chan = m.chan := rfl
@[simp] theorem Prim.draw_rgl (m : Mach) : ((Prim.draw).apply m).rgl = m.rgl := rfl
@[simp] theorem Prim.draw_noc (m : Mach) : ((Prim.draw).apply m).noc = m.noc := rfl
@[simp] theorem Prim.draw_csw (m : Mach) : ((Prim.draw).apply m).csw = m.csw := rfl
@[simp] theorem Prim.draw_pow (m : Mach) : ((Prim.draw).apply m).pow = m.pow := rfl
@[simp] theorem Prim.draw_out (m : Mach) : ((Prim.draw).apply m).out = m.out := rfl
@[simp] theorem Prim.lines_sled (f : LineSt → LineSt) (m : Mach) : ((Prim.lines f).apply m).sled = m.sled := rfl
@[simp] theorem Prim.lines_regs (f : LineSt → LineSt) (m : Mach) : ((Prim.lines f).apply m).regs = m.regs := rfl
@[simp] theorem Prim.lines_dram (f : LineSt → LineSt) (m : Mach) : ((Prim.lines f).apply m).dram = m.dram := rfl
@[simp] theorem Prim.lines_pages (f : LineSt → LineSt) (m : Mach) : ((Prim.lines f).apply m).pages = m.pages := rfl
@[simp] theorem Prim.lines_dir (f : LineSt → LineSt) (m : Mach) : ((Prim.lines f).apply m).dir = m.dir := rfl
@[simp] theorem Prim.lines_grain (f : LineSt → LineSt) (m : Mach) : ((Prim.lines f).apply m).grain = m.grain := rfl
@[simp] theorem Prim.lines_keys (f : LineSt → LineSt) (m : Mach) : ((Prim.lines f).apply m).keys = m.keys := rfl
@[simp] theorem Prim.lines_host (f : LineSt → LineSt) (m : Mach) : ((Prim.lines f).apply m).host = m.host := rfl
@[simp] theorem Prim.lines_bkw (f : LineSt → LineSt) (m : Mach) : ((Prim.lines f).apply m).bkw = m.bkw := rfl
@[simp] theorem Prim.lines_lhl (f : LineSt → LineSt) (m : Mach) : ((Prim.lines f).apply m).lhl = m.lhl := rfl
@[simp] theorem Prim.lines_arc (f : LineSt → LineSt) (m : Mach) : ((Prim.lines f).apply m).arc = m.arc := rfl
@[simp] theorem Prim.lines_bql (f : LineSt → LineSt) (m : Mach) : ((Prim.lines f).apply m).bql = m.bql := rfl
@[simp] theorem Prim.lines_snd (f : LineSt → LineSt) (m : Mach) : ((Prim.lines f).apply m).snd = m.snd := rfl
@[simp] theorem Prim.lines_que (f : LineSt → LineSt) (m : Mach) : ((Prim.lines f).apply m).que = m.que := rfl
@[simp] theorem Prim.lines_fry (f : LineSt → LineSt) (m : Mach) : ((Prim.lines f).apply m).fry = m.fry := rfl
@[simp] theorem Prim.lines_fw (f : LineSt → LineSt) (m : Mach) : ((Prim.lines f).apply m).fw = m.fw := rfl
@[simp] theorem Prim.lines_chan (f : LineSt → LineSt) (m : Mach) : ((Prim.lines f).apply m).chan = m.chan := rfl
@[simp] theorem Prim.lines_rgl (f : LineSt → LineSt) (m : Mach) : ((Prim.lines f).apply m).rgl = m.rgl := rfl
@[simp] theorem Prim.lines_noc (f : LineSt → LineSt) (m : Mach) : ((Prim.lines f).apply m).noc = m.noc := rfl
@[simp] theorem Prim.lines_csw (f : LineSt → LineSt) (m : Mach) : ((Prim.lines f).apply m).csw = m.csw := rfl
@[simp] theorem Prim.lines_pow (f : LineSt → LineSt) (m : Mach) : ((Prim.lines f).apply m).pow = m.pow := rfl
@[simp] theorem Prim.lines_out (f : LineSt → LineSt) (m : Mach) : ((Prim.lines f).apply m).out = m.out := rfl
@[simp] theorem Prim.lines_freeCtr (f : LineSt → LineSt) (m : Mach) : ((Prim.lines f).apply m).freeCtr = m.freeCtr := rfl
@[simp] theorem Prim.dir_sled (f : DirSt → DirSt) (m : Mach) : ((Prim.dir f).apply m).sled = m.sled := rfl
@[simp] theorem Prim.dir_regs (f : DirSt → DirSt) (m : Mach) : ((Prim.dir f).apply m).regs = m.regs := rfl
@[simp] theorem Prim.dir_dram (f : DirSt → DirSt) (m : Mach) : ((Prim.dir f).apply m).dram = m.dram := rfl
@[simp] theorem Prim.dir_pages (f : DirSt → DirSt) (m : Mach) : ((Prim.dir f).apply m).pages = m.pages := rfl
@[simp] theorem Prim.dir_lines (f : DirSt → DirSt) (m : Mach) : ((Prim.dir f).apply m).lines = m.lines := rfl
@[simp] theorem Prim.dir_grain (f : DirSt → DirSt) (m : Mach) : ((Prim.dir f).apply m).grain = m.grain := rfl
@[simp] theorem Prim.dir_keys (f : DirSt → DirSt) (m : Mach) : ((Prim.dir f).apply m).keys = m.keys := rfl
@[simp] theorem Prim.dir_host (f : DirSt → DirSt) (m : Mach) : ((Prim.dir f).apply m).host = m.host := rfl
@[simp] theorem Prim.dir_bkw (f : DirSt → DirSt) (m : Mach) : ((Prim.dir f).apply m).bkw = m.bkw := rfl
@[simp] theorem Prim.dir_lhl (f : DirSt → DirSt) (m : Mach) : ((Prim.dir f).apply m).lhl = m.lhl := rfl
@[simp] theorem Prim.dir_arc (f : DirSt → DirSt) (m : Mach) : ((Prim.dir f).apply m).arc = m.arc := rfl
@[simp] theorem Prim.dir_bql (f : DirSt → DirSt) (m : Mach) : ((Prim.dir f).apply m).bql = m.bql := rfl
@[simp] theorem Prim.dir_snd (f : DirSt → DirSt) (m : Mach) : ((Prim.dir f).apply m).snd = m.snd := rfl
@[simp] theorem Prim.dir_que (f : DirSt → DirSt) (m : Mach) : ((Prim.dir f).apply m).que = m.que := rfl
@[simp] theorem Prim.dir_fry (f : DirSt → DirSt) (m : Mach) : ((Prim.dir f).apply m).fry = m.fry := rfl
@[simp] theorem Prim.dir_fw (f : DirSt → DirSt) (m : Mach) : ((Prim.dir f).apply m).fw = m.fw := rfl
@[simp] theorem Prim.dir_chan (f : DirSt → DirSt) (m : Mach) : ((Prim.dir f).apply m).chan = m.chan := rfl
@[simp] theorem Prim.dir_rgl (f : DirSt → DirSt) (m : Mach) : ((Prim.dir f).apply m).rgl = m.rgl := rfl
@[simp] theorem Prim.dir_noc (f : DirSt → DirSt) (m : Mach) : ((Prim.dir f).apply m).noc = m.noc := rfl
@[simp] theorem Prim.dir_csw (f : DirSt → DirSt) (m : Mach) : ((Prim.dir f).apply m).csw = m.csw := rfl
@[simp] theorem Prim.dir_pow (f : DirSt → DirSt) (m : Mach) : ((Prim.dir f).apply m).pow = m.pow := rfl
@[simp] theorem Prim.dir_out (f : DirSt → DirSt) (m : Mach) : ((Prim.dir f).apply m).out = m.out := rfl
@[simp] theorem Prim.dir_freeCtr (f : DirSt → DirSt) (m : Mach) : ((Prim.dir f).apply m).freeCtr = m.freeCtr := rfl
@[simp] theorem Prim.grain_sled (f : GrainSt → GrainSt) (m : Mach) : ((Prim.grain f).apply m).sled = m.sled := rfl
@[simp] theorem Prim.grain_regs (f : GrainSt → GrainSt) (m : Mach) : ((Prim.grain f).apply m).regs = m.regs := rfl
@[simp] theorem Prim.grain_dram (f : GrainSt → GrainSt) (m : Mach) : ((Prim.grain f).apply m).dram = m.dram := rfl
@[simp] theorem Prim.grain_pages (f : GrainSt → GrainSt) (m : Mach) : ((Prim.grain f).apply m).pages = m.pages := rfl
@[simp] theorem Prim.grain_lines (f : GrainSt → GrainSt) (m : Mach) : ((Prim.grain f).apply m).lines = m.lines := rfl
@[simp] theorem Prim.grain_dir (f : GrainSt → GrainSt) (m : Mach) : ((Prim.grain f).apply m).dir = m.dir := rfl
@[simp] theorem Prim.grain_keys (f : GrainSt → GrainSt) (m : Mach) : ((Prim.grain f).apply m).keys = m.keys := rfl
@[simp] theorem Prim.grain_host (f : GrainSt → GrainSt) (m : Mach) : ((Prim.grain f).apply m).host = m.host := rfl
@[simp] theorem Prim.grain_bkw (f : GrainSt → GrainSt) (m : Mach) : ((Prim.grain f).apply m).bkw = m.bkw := rfl
@[simp] theorem Prim.grain_lhl (f : GrainSt → GrainSt) (m : Mach) : ((Prim.grain f).apply m).lhl = m.lhl := rfl
@[simp] theorem Prim.grain_arc (f : GrainSt → GrainSt) (m : Mach) : ((Prim.grain f).apply m).arc = m.arc := rfl
@[simp] theorem Prim.grain_bql (f : GrainSt → GrainSt) (m : Mach) : ((Prim.grain f).apply m).bql = m.bql := rfl
@[simp] theorem Prim.grain_snd (f : GrainSt → GrainSt) (m : Mach) : ((Prim.grain f).apply m).snd = m.snd := rfl
@[simp] theorem Prim.grain_que (f : GrainSt → GrainSt) (m : Mach) : ((Prim.grain f).apply m).que = m.que := rfl
@[simp] theorem Prim.grain_fry (f : GrainSt → GrainSt) (m : Mach) : ((Prim.grain f).apply m).fry = m.fry := rfl
@[simp] theorem Prim.grain_fw (f : GrainSt → GrainSt) (m : Mach) : ((Prim.grain f).apply m).fw = m.fw := rfl
@[simp] theorem Prim.grain_chan (f : GrainSt → GrainSt) (m : Mach) : ((Prim.grain f).apply m).chan = m.chan := rfl
@[simp] theorem Prim.grain_rgl (f : GrainSt → GrainSt) (m : Mach) : ((Prim.grain f).apply m).rgl = m.rgl := rfl
@[simp] theorem Prim.grain_noc (f : GrainSt → GrainSt) (m : Mach) : ((Prim.grain f).apply m).noc = m.noc := rfl
@[simp] theorem Prim.grain_csw (f : GrainSt → GrainSt) (m : Mach) : ((Prim.grain f).apply m).csw = m.csw := rfl
@[simp] theorem Prim.grain_pow (f : GrainSt → GrainSt) (m : Mach) : ((Prim.grain f).apply m).pow = m.pow := rfl
@[simp] theorem Prim.grain_out (f : GrainSt → GrainSt) (m : Mach) : ((Prim.grain f).apply m).out = m.out := rfl
@[simp] theorem Prim.grain_freeCtr (f : GrainSt → GrainSt) (m : Mach) : ((Prim.grain f).apply m).freeCtr = m.freeCtr := rfl
@[simp] theorem Prim.keys_sled (f : KeySt → KeySt) (m : Mach) : ((Prim.keys f).apply m).sled = m.sled := rfl
@[simp] theorem Prim.keys_regs (f : KeySt → KeySt) (m : Mach) : ((Prim.keys f).apply m).regs = m.regs := rfl
@[simp] theorem Prim.keys_dram (f : KeySt → KeySt) (m : Mach) : ((Prim.keys f).apply m).dram = m.dram := rfl
@[simp] theorem Prim.keys_pages (f : KeySt → KeySt) (m : Mach) : ((Prim.keys f).apply m).pages = m.pages := rfl
@[simp] theorem Prim.keys_lines (f : KeySt → KeySt) (m : Mach) : ((Prim.keys f).apply m).lines = m.lines := rfl
@[simp] theorem Prim.keys_dir (f : KeySt → KeySt) (m : Mach) : ((Prim.keys f).apply m).dir = m.dir := rfl
@[simp] theorem Prim.keys_grain (f : KeySt → KeySt) (m : Mach) : ((Prim.keys f).apply m).grain = m.grain := rfl
@[simp] theorem Prim.keys_host (f : KeySt → KeySt) (m : Mach) : ((Prim.keys f).apply m).host = m.host := rfl
@[simp] theorem Prim.keys_bkw (f : KeySt → KeySt) (m : Mach) : ((Prim.keys f).apply m).bkw = m.bkw := rfl
@[simp] theorem Prim.keys_lhl (f : KeySt → KeySt) (m : Mach) : ((Prim.keys f).apply m).lhl = m.lhl := rfl
@[simp] theorem Prim.keys_arc (f : KeySt → KeySt) (m : Mach) : ((Prim.keys f).apply m).arc = m.arc := rfl
@[simp] theorem Prim.keys_bql (f : KeySt → KeySt) (m : Mach) : ((Prim.keys f).apply m).bql = m.bql := rfl
@[simp] theorem Prim.keys_snd (f : KeySt → KeySt) (m : Mach) : ((Prim.keys f).apply m).snd = m.snd := rfl
@[simp] theorem Prim.keys_que (f : KeySt → KeySt) (m : Mach) : ((Prim.keys f).apply m).que = m.que := rfl
@[simp] theorem Prim.keys_fry (f : KeySt → KeySt) (m : Mach) : ((Prim.keys f).apply m).fry = m.fry := rfl
@[simp] theorem Prim.keys_fw (f : KeySt → KeySt) (m : Mach) : ((Prim.keys f).apply m).fw = m.fw := rfl
@[simp] theorem Prim.keys_chan (f : KeySt → KeySt) (m : Mach) : ((Prim.keys f).apply m).chan = m.chan := rfl
@[simp] theorem Prim.keys_rgl (f : KeySt → KeySt) (m : Mach) : ((Prim.keys f).apply m).rgl = m.rgl := rfl
@[simp] theorem Prim.keys_noc (f : KeySt → KeySt) (m : Mach) : ((Prim.keys f).apply m).noc = m.noc := rfl
@[simp] theorem Prim.keys_csw (f : KeySt → KeySt) (m : Mach) : ((Prim.keys f).apply m).csw = m.csw := rfl
@[simp] theorem Prim.keys_pow (f : KeySt → KeySt) (m : Mach) : ((Prim.keys f).apply m).pow = m.pow := rfl
@[simp] theorem Prim.keys_out (f : KeySt → KeySt) (m : Mach) : ((Prim.keys f).apply m).out = m.out := rfl
@[simp] theorem Prim.keys_freeCtr (f : KeySt → KeySt) (m : Mach) : ((Prim.keys f).apply m).freeCtr = m.freeCtr := rfl
@[simp] theorem Prim.host_sled (f : HostSt → HostSt) (m : Mach) : ((Prim.host f).apply m).sled = m.sled := rfl
@[simp] theorem Prim.host_regs (f : HostSt → HostSt) (m : Mach) : ((Prim.host f).apply m).regs = m.regs := rfl
@[simp] theorem Prim.host_dram (f : HostSt → HostSt) (m : Mach) : ((Prim.host f).apply m).dram = m.dram := rfl
@[simp] theorem Prim.host_pages (f : HostSt → HostSt) (m : Mach) : ((Prim.host f).apply m).pages = m.pages := rfl
@[simp] theorem Prim.host_lines (f : HostSt → HostSt) (m : Mach) : ((Prim.host f).apply m).lines = m.lines := rfl
@[simp] theorem Prim.host_dir (f : HostSt → HostSt) (m : Mach) : ((Prim.host f).apply m).dir = m.dir := rfl
@[simp] theorem Prim.host_grain (f : HostSt → HostSt) (m : Mach) : ((Prim.host f).apply m).grain = m.grain := rfl
@[simp] theorem Prim.host_keys (f : HostSt → HostSt) (m : Mach) : ((Prim.host f).apply m).keys = m.keys := rfl
@[simp] theorem Prim.host_bkw (f : HostSt → HostSt) (m : Mach) : ((Prim.host f).apply m).bkw = m.bkw := rfl
@[simp] theorem Prim.host_lhl (f : HostSt → HostSt) (m : Mach) : ((Prim.host f).apply m).lhl = m.lhl := rfl
@[simp] theorem Prim.host_arc (f : HostSt → HostSt) (m : Mach) : ((Prim.host f).apply m).arc = m.arc := rfl
@[simp] theorem Prim.host_bql (f : HostSt → HostSt) (m : Mach) : ((Prim.host f).apply m).bql = m.bql := rfl
@[simp] theorem Prim.host_snd (f : HostSt → HostSt) (m : Mach) : ((Prim.host f).apply m).snd = m.snd := rfl
@[simp] theorem Prim.host_que (f : HostSt → HostSt) (m : Mach) : ((Prim.host f).apply m).que = m.que := rfl
@[simp] theorem Prim.host_fry (f : HostSt → HostSt) (m : Mach) : ((Prim.host f).apply m).fry = m.fry := rfl
@[simp] theorem Prim.host_fw (f : HostSt → HostSt) (m : Mach) : ((Prim.host f).apply m).fw = m.fw := rfl
@[simp] theorem Prim.host_chan (f : HostSt → HostSt) (m : Mach) : ((Prim.host f).apply m).chan = m.chan := rfl
@[simp] theorem Prim.host_rgl (f : HostSt → HostSt) (m : Mach) : ((Prim.host f).apply m).rgl = m.rgl := rfl
@[simp] theorem Prim.host_noc (f : HostSt → HostSt) (m : Mach) : ((Prim.host f).apply m).noc = m.noc := rfl
@[simp] theorem Prim.host_csw (f : HostSt → HostSt) (m : Mach) : ((Prim.host f).apply m).csw = m.csw := rfl
@[simp] theorem Prim.host_pow (f : HostSt → HostSt) (m : Mach) : ((Prim.host f).apply m).pow = m.pow := rfl
@[simp] theorem Prim.host_out (f : HostSt → HostSt) (m : Mach) : ((Prim.host f).apply m).out = m.out := rfl
@[simp] theorem Prim.host_freeCtr (f : HostSt → HostSt) (m : Mach) : ((Prim.host f).apply m).freeCtr = m.freeCtr := rfl
@[simp] theorem Prim.bkw_sled (f : BkwSt → BkwSt) (m : Mach) : ((Prim.bkw f).apply m).sled = m.sled := rfl
@[simp] theorem Prim.bkw_regs (f : BkwSt → BkwSt) (m : Mach) : ((Prim.bkw f).apply m).regs = m.regs := rfl
@[simp] theorem Prim.bkw_dram (f : BkwSt → BkwSt) (m : Mach) : ((Prim.bkw f).apply m).dram = m.dram := rfl
@[simp] theorem Prim.bkw_pages (f : BkwSt → BkwSt) (m : Mach) : ((Prim.bkw f).apply m).pages = m.pages := rfl
@[simp] theorem Prim.bkw_lines (f : BkwSt → BkwSt) (m : Mach) : ((Prim.bkw f).apply m).lines = m.lines := rfl
@[simp] theorem Prim.bkw_dir (f : BkwSt → BkwSt) (m : Mach) : ((Prim.bkw f).apply m).dir = m.dir := rfl
@[simp] theorem Prim.bkw_grain (f : BkwSt → BkwSt) (m : Mach) : ((Prim.bkw f).apply m).grain = m.grain := rfl
@[simp] theorem Prim.bkw_keys (f : BkwSt → BkwSt) (m : Mach) : ((Prim.bkw f).apply m).keys = m.keys := rfl
@[simp] theorem Prim.bkw_host (f : BkwSt → BkwSt) (m : Mach) : ((Prim.bkw f).apply m).host = m.host := rfl
@[simp] theorem Prim.bkw_lhl (f : BkwSt → BkwSt) (m : Mach) : ((Prim.bkw f).apply m).lhl = m.lhl := rfl
@[simp] theorem Prim.bkw_arc (f : BkwSt → BkwSt) (m : Mach) : ((Prim.bkw f).apply m).arc = m.arc := rfl
@[simp] theorem Prim.bkw_bql (f : BkwSt → BkwSt) (m : Mach) : ((Prim.bkw f).apply m).bql = m.bql := rfl
@[simp] theorem Prim.bkw_snd (f : BkwSt → BkwSt) (m : Mach) : ((Prim.bkw f).apply m).snd = m.snd := rfl
@[simp] theorem Prim.bkw_que (f : BkwSt → BkwSt) (m : Mach) : ((Prim.bkw f).apply m).que = m.que := rfl
@[simp] theorem Prim.bkw_fry (f : BkwSt → BkwSt) (m : Mach) : ((Prim.bkw f).apply m).fry = m.fry := rfl
@[simp] theorem Prim.bkw_fw (f : BkwSt → BkwSt) (m : Mach) : ((Prim.bkw f).apply m).fw = m.fw := rfl
@[simp] theorem Prim.bkw_chan (f : BkwSt → BkwSt) (m : Mach) : ((Prim.bkw f).apply m).chan = m.chan := rfl
@[simp] theorem Prim.bkw_rgl (f : BkwSt → BkwSt) (m : Mach) : ((Prim.bkw f).apply m).rgl = m.rgl := rfl
@[simp] theorem Prim.bkw_noc (f : BkwSt → BkwSt) (m : Mach) : ((Prim.bkw f).apply m).noc = m.noc := rfl
@[simp] theorem Prim.bkw_csw (f : BkwSt → BkwSt) (m : Mach) : ((Prim.bkw f).apply m).csw = m.csw := rfl
@[simp] theorem Prim.bkw_pow (f : BkwSt → BkwSt) (m : Mach) : ((Prim.bkw f).apply m).pow = m.pow := rfl
@[simp] theorem Prim.bkw_out (f : BkwSt → BkwSt) (m : Mach) : ((Prim.bkw f).apply m).out = m.out := rfl
@[simp] theorem Prim.bkw_freeCtr (f : BkwSt → BkwSt) (m : Mach) : ((Prim.bkw f).apply m).freeCtr = m.freeCtr := rfl
@[simp] theorem Prim.lhl_sled (f : LhlSt → LhlSt) (m : Mach) : ((Prim.lhl f).apply m).sled = m.sled := rfl
@[simp] theorem Prim.lhl_regs (f : LhlSt → LhlSt) (m : Mach) : ((Prim.lhl f).apply m).regs = m.regs := rfl
@[simp] theorem Prim.lhl_dram (f : LhlSt → LhlSt) (m : Mach) : ((Prim.lhl f).apply m).dram = m.dram := rfl
@[simp] theorem Prim.lhl_pages (f : LhlSt → LhlSt) (m : Mach) : ((Prim.lhl f).apply m).pages = m.pages := rfl
@[simp] theorem Prim.lhl_lines (f : LhlSt → LhlSt) (m : Mach) : ((Prim.lhl f).apply m).lines = m.lines := rfl
@[simp] theorem Prim.lhl_dir (f : LhlSt → LhlSt) (m : Mach) : ((Prim.lhl f).apply m).dir = m.dir := rfl
@[simp] theorem Prim.lhl_grain (f : LhlSt → LhlSt) (m : Mach) : ((Prim.lhl f).apply m).grain = m.grain := rfl
@[simp] theorem Prim.lhl_keys (f : LhlSt → LhlSt) (m : Mach) : ((Prim.lhl f).apply m).keys = m.keys := rfl
@[simp] theorem Prim.lhl_host (f : LhlSt → LhlSt) (m : Mach) : ((Prim.lhl f).apply m).host = m.host := rfl
@[simp] theorem Prim.lhl_bkw (f : LhlSt → LhlSt) (m : Mach) : ((Prim.lhl f).apply m).bkw = m.bkw := rfl
@[simp] theorem Prim.lhl_arc (f : LhlSt → LhlSt) (m : Mach) : ((Prim.lhl f).apply m).arc = m.arc := rfl
@[simp] theorem Prim.lhl_bql (f : LhlSt → LhlSt) (m : Mach) : ((Prim.lhl f).apply m).bql = m.bql := rfl
@[simp] theorem Prim.lhl_snd (f : LhlSt → LhlSt) (m : Mach) : ((Prim.lhl f).apply m).snd = m.snd := rfl
@[simp] theorem Prim.lhl_que (f : LhlSt → LhlSt) (m : Mach) : ((Prim.lhl f).apply m).que = m.que := rfl
@[simp] theorem Prim.lhl_fry (f : LhlSt → LhlSt) (m : Mach) : ((Prim.lhl f).apply m).fry = m.fry := rfl
@[simp] theorem Prim.lhl_fw (f : LhlSt → LhlSt) (m : Mach) : ((Prim.lhl f).apply m).fw = m.fw := rfl
@[simp] theorem Prim.lhl_chan (f : LhlSt → LhlSt) (m : Mach) : ((Prim.lhl f).apply m).chan = m.chan := rfl
@[simp] theorem Prim.lhl_rgl (f : LhlSt → LhlSt) (m : Mach) : ((Prim.lhl f).apply m).rgl = m.rgl := rfl
@[simp] theorem Prim.lhl_noc (f : LhlSt → LhlSt) (m : Mach) : ((Prim.lhl f).apply m).noc = m.noc := rfl
@[simp] theorem Prim.lhl_csw (f : LhlSt → LhlSt) (m : Mach) : ((Prim.lhl f).apply m).csw = m.csw := rfl
@[simp] theorem Prim.lhl_pow (f : LhlSt → LhlSt) (m : Mach) : ((Prim.lhl f).apply m).pow = m.pow := rfl
@[simp] theorem Prim.lhl_out (f : LhlSt → LhlSt) (m : Mach) : ((Prim.lhl f).apply m).out = m.out := rfl
@[simp] theorem Prim.lhl_freeCtr (f : LhlSt → LhlSt) (m : Mach) : ((Prim.lhl f).apply m).freeCtr = m.freeCtr := rfl
@[simp] theorem Prim.arc_sled (f : ArcSt → ArcSt) (m : Mach) : ((Prim.arc f).apply m).sled = m.sled := rfl
@[simp] theorem Prim.arc_regs (f : ArcSt → ArcSt) (m : Mach) : ((Prim.arc f).apply m).regs = m.regs := rfl
@[simp] theorem Prim.arc_dram (f : ArcSt → ArcSt) (m : Mach) : ((Prim.arc f).apply m).dram = m.dram := rfl
@[simp] theorem Prim.arc_pages (f : ArcSt → ArcSt) (m : Mach) : ((Prim.arc f).apply m).pages = m.pages := rfl
@[simp] theorem Prim.arc_lines (f : ArcSt → ArcSt) (m : Mach) : ((Prim.arc f).apply m).lines = m.lines := rfl
@[simp] theorem Prim.arc_dir (f : ArcSt → ArcSt) (m : Mach) : ((Prim.arc f).apply m).dir = m.dir := rfl
@[simp] theorem Prim.arc_grain (f : ArcSt → ArcSt) (m : Mach) : ((Prim.arc f).apply m).grain = m.grain := rfl
@[simp] theorem Prim.arc_keys (f : ArcSt → ArcSt) (m : Mach) : ((Prim.arc f).apply m).keys = m.keys := rfl
@[simp] theorem Prim.arc_host (f : ArcSt → ArcSt) (m : Mach) : ((Prim.arc f).apply m).host = m.host := rfl
@[simp] theorem Prim.arc_bkw (f : ArcSt → ArcSt) (m : Mach) : ((Prim.arc f).apply m).bkw = m.bkw := rfl
@[simp] theorem Prim.arc_lhl (f : ArcSt → ArcSt) (m : Mach) : ((Prim.arc f).apply m).lhl = m.lhl := rfl
@[simp] theorem Prim.arc_bql (f : ArcSt → ArcSt) (m : Mach) : ((Prim.arc f).apply m).bql = m.bql := rfl
@[simp] theorem Prim.arc_snd (f : ArcSt → ArcSt) (m : Mach) : ((Prim.arc f).apply m).snd = m.snd := rfl
@[simp] theorem Prim.arc_que (f : ArcSt → ArcSt) (m : Mach) : ((Prim.arc f).apply m).que = m.que := rfl
@[simp] theorem Prim.arc_fry (f : ArcSt → ArcSt) (m : Mach) : ((Prim.arc f).apply m).fry = m.fry := rfl
@[simp] theorem Prim.arc_fw (f : ArcSt → ArcSt) (m : Mach) : ((Prim.arc f).apply m).fw = m.fw := rfl
@[simp] theorem Prim.arc_chan (f : ArcSt → ArcSt) (m : Mach) : ((Prim.arc f).apply m).chan = m.chan := rfl
@[simp] theorem Prim.arc_rgl (f : ArcSt → ArcSt) (m : Mach) : ((Prim.arc f).apply m).rgl = m.rgl := rfl
@[simp] theorem Prim.arc_noc (f : ArcSt → ArcSt) (m : Mach) : ((Prim.arc f).apply m).noc = m.noc := rfl
@[simp] theorem Prim.arc_csw (f : ArcSt → ArcSt) (m : Mach) : ((Prim.arc f).apply m).csw = m.csw := rfl
@[simp] theorem Prim.arc_pow (f : ArcSt → ArcSt) (m : Mach) : ((Prim.arc f).apply m).pow = m.pow := rfl
@[simp] theorem Prim.arc_out (f : ArcSt → ArcSt) (m : Mach) : ((Prim.arc f).apply m).out = m.out := rfl
@[simp] theorem Prim.arc_freeCtr (f : ArcSt → ArcSt) (m : Mach) : ((Prim.arc f).apply m).freeCtr = m.freeCtr := rfl
@[simp] theorem Prim.bql_sled (f : BqlSt → BqlSt) (m : Mach) : ((Prim.bql f).apply m).sled = m.sled := rfl
@[simp] theorem Prim.bql_regs (f : BqlSt → BqlSt) (m : Mach) : ((Prim.bql f).apply m).regs = m.regs := rfl
@[simp] theorem Prim.bql_dram (f : BqlSt → BqlSt) (m : Mach) : ((Prim.bql f).apply m).dram = m.dram := rfl
@[simp] theorem Prim.bql_pages (f : BqlSt → BqlSt) (m : Mach) : ((Prim.bql f).apply m).pages = m.pages := rfl
@[simp] theorem Prim.bql_lines (f : BqlSt → BqlSt) (m : Mach) : ((Prim.bql f).apply m).lines = m.lines := rfl
@[simp] theorem Prim.bql_dir (f : BqlSt → BqlSt) (m : Mach) : ((Prim.bql f).apply m).dir = m.dir := rfl
@[simp] theorem Prim.bql_grain (f : BqlSt → BqlSt) (m : Mach) : ((Prim.bql f).apply m).grain = m.grain := rfl
@[simp] theorem Prim.bql_keys (f : BqlSt → BqlSt) (m : Mach) : ((Prim.bql f).apply m).keys = m.keys := rfl
@[simp] theorem Prim.bql_host (f : BqlSt → BqlSt) (m : Mach) : ((Prim.bql f).apply m).host = m.host := rfl
@[simp] theorem Prim.bql_bkw (f : BqlSt → BqlSt) (m : Mach) : ((Prim.bql f).apply m).bkw = m.bkw := rfl
@[simp] theorem Prim.bql_lhl (f : BqlSt → BqlSt) (m : Mach) : ((Prim.bql f).apply m).lhl = m.lhl := rfl
@[simp] theorem Prim.bql_arc (f : BqlSt → BqlSt) (m : Mach) : ((Prim.bql f).apply m).arc = m.arc := rfl
@[simp] theorem Prim.bql_snd (f : BqlSt → BqlSt) (m : Mach) : ((Prim.bql f).apply m).snd = m.snd := rfl
@[simp] theorem Prim.bql_que (f : BqlSt → BqlSt) (m : Mach) : ((Prim.bql f).apply m).que = m.que := rfl
@[simp] theorem Prim.bql_fry (f : BqlSt → BqlSt) (m : Mach) : ((Prim.bql f).apply m).fry = m.fry := rfl
@[simp] theorem Prim.bql_fw (f : BqlSt → BqlSt) (m : Mach) : ((Prim.bql f).apply m).fw = m.fw := rfl
@[simp] theorem Prim.bql_chan (f : BqlSt → BqlSt) (m : Mach) : ((Prim.bql f).apply m).chan = m.chan := rfl
@[simp] theorem Prim.bql_rgl (f : BqlSt → BqlSt) (m : Mach) : ((Prim.bql f).apply m).rgl = m.rgl := rfl
@[simp] theorem Prim.bql_noc (f : BqlSt → BqlSt) (m : Mach) : ((Prim.bql f).apply m).noc = m.noc := rfl
@[simp] theorem Prim.bql_csw (f : BqlSt → BqlSt) (m : Mach) : ((Prim.bql f).apply m).csw = m.csw := rfl
@[simp] theorem Prim.bql_pow (f : BqlSt → BqlSt) (m : Mach) : ((Prim.bql f).apply m).pow = m.pow := rfl
@[simp] theorem Prim.bql_out (f : BqlSt → BqlSt) (m : Mach) : ((Prim.bql f).apply m).out = m.out := rfl
@[simp] theorem Prim.bql_freeCtr (f : BqlSt → BqlSt) (m : Mach) : ((Prim.bql f).apply m).freeCtr = m.freeCtr := rfl
@[simp] theorem Prim.snd_sled (f : SndSt → SndSt) (m : Mach) : ((Prim.snd f).apply m).sled = m.sled := rfl
@[simp] theorem Prim.snd_regs (f : SndSt → SndSt) (m : Mach) : ((Prim.snd f).apply m).regs = m.regs := rfl
@[simp] theorem Prim.snd_dram (f : SndSt → SndSt) (m : Mach) : ((Prim.snd f).apply m).dram = m.dram := rfl
@[simp] theorem Prim.snd_pages (f : SndSt → SndSt) (m : Mach) : ((Prim.snd f).apply m).pages = m.pages := rfl
@[simp] theorem Prim.snd_lines (f : SndSt → SndSt) (m : Mach) : ((Prim.snd f).apply m).lines = m.lines := rfl
@[simp] theorem Prim.snd_dir (f : SndSt → SndSt) (m : Mach) : ((Prim.snd f).apply m).dir = m.dir := rfl
@[simp] theorem Prim.snd_grain (f : SndSt → SndSt) (m : Mach) : ((Prim.snd f).apply m).grain = m.grain := rfl
@[simp] theorem Prim.snd_keys (f : SndSt → SndSt) (m : Mach) : ((Prim.snd f).apply m).keys = m.keys := rfl
@[simp] theorem Prim.snd_host (f : SndSt → SndSt) (m : Mach) : ((Prim.snd f).apply m).host = m.host := rfl
@[simp] theorem Prim.snd_bkw (f : SndSt → SndSt) (m : Mach) : ((Prim.snd f).apply m).bkw = m.bkw := rfl
@[simp] theorem Prim.snd_lhl (f : SndSt → SndSt) (m : Mach) : ((Prim.snd f).apply m).lhl = m.lhl := rfl
@[simp] theorem Prim.snd_arc (f : SndSt → SndSt) (m : Mach) : ((Prim.snd f).apply m).arc = m.arc := rfl
@[simp] theorem Prim.snd_bql (f : SndSt → SndSt) (m : Mach) : ((Prim.snd f).apply m).bql = m.bql := rfl
@[simp] theorem Prim.snd_que (f : SndSt → SndSt) (m : Mach) : ((Prim.snd f).apply m).que = m.que := rfl
@[simp] theorem Prim.snd_fry (f : SndSt → SndSt) (m : Mach) : ((Prim.snd f).apply m).fry = m.fry := rfl
@[simp] theorem Prim.snd_fw (f : SndSt → SndSt) (m : Mach) : ((Prim.snd f).apply m).fw = m.fw := rfl
@[simp] theorem Prim.snd_chan (f : SndSt → SndSt) (m : Mach) : ((Prim.snd f).apply m).chan = m.chan := rfl
@[simp] theorem Prim.snd_rgl (f : SndSt → SndSt) (m : Mach) : ((Prim.snd f).apply m).rgl = m.rgl := rfl
@[simp] theorem Prim.snd_noc (f : SndSt → SndSt) (m : Mach) : ((Prim.snd f).apply m).noc = m.noc := rfl
@[simp] theorem Prim.snd_csw (f : SndSt → SndSt) (m : Mach) : ((Prim.snd f).apply m).csw = m.csw := rfl
@[simp] theorem Prim.snd_pow (f : SndSt → SndSt) (m : Mach) : ((Prim.snd f).apply m).pow = m.pow := rfl
@[simp] theorem Prim.snd_out (f : SndSt → SndSt) (m : Mach) : ((Prim.snd f).apply m).out = m.out := rfl
@[simp] theorem Prim.snd_freeCtr (f : SndSt → SndSt) (m : Mach) : ((Prim.snd f).apply m).freeCtr = m.freeCtr := rfl
@[simp] theorem Prim.que_sled (f : QueSt → QueSt) (m : Mach) : ((Prim.que f).apply m).sled = m.sled := rfl
@[simp] theorem Prim.que_regs (f : QueSt → QueSt) (m : Mach) : ((Prim.que f).apply m).regs = m.regs := rfl
@[simp] theorem Prim.que_dram (f : QueSt → QueSt) (m : Mach) : ((Prim.que f).apply m).dram = m.dram := rfl
@[simp] theorem Prim.que_pages (f : QueSt → QueSt) (m : Mach) : ((Prim.que f).apply m).pages = m.pages := rfl
@[simp] theorem Prim.que_lines (f : QueSt → QueSt) (m : Mach) : ((Prim.que f).apply m).lines = m.lines := rfl
@[simp] theorem Prim.que_dir (f : QueSt → QueSt) (m : Mach) : ((Prim.que f).apply m).dir = m.dir := rfl
@[simp] theorem Prim.que_grain (f : QueSt → QueSt) (m : Mach) : ((Prim.que f).apply m).grain = m.grain := rfl
@[simp] theorem Prim.que_keys (f : QueSt → QueSt) (m : Mach) : ((Prim.que f).apply m).keys = m.keys := rfl
@[simp] theorem Prim.que_host (f : QueSt → QueSt) (m : Mach) : ((Prim.que f).apply m).host = m.host := rfl
@[simp] theorem Prim.que_bkw (f : QueSt → QueSt) (m : Mach) : ((Prim.que f).apply m).bkw = m.bkw := rfl
@[simp] theorem Prim.que_lhl (f : QueSt → QueSt) (m : Mach) : ((Prim.que f).apply m).lhl = m.lhl := rfl
@[simp] theorem Prim.que_arc (f : QueSt → QueSt) (m : Mach) : ((Prim.que f).apply m).arc = m.arc := rfl
@[simp] theorem Prim.que_bql (f : QueSt → QueSt) (m : Mach) : ((Prim.que f).apply m).bql = m.bql := rfl
@[simp] theorem Prim.que_snd (f : QueSt → QueSt) (m : Mach) : ((Prim.que f).apply m).snd = m.snd := rfl
@[simp] theorem Prim.que_fry (f : QueSt → QueSt) (m : Mach) : ((Prim.que f).apply m).fry = m.fry := rfl
@[simp] theorem Prim.que_fw (f : QueSt → QueSt) (m : Mach) : ((Prim.que f).apply m).fw = m.fw := rfl
@[simp] theorem Prim.que_chan (f : QueSt → QueSt) (m : Mach) : ((Prim.que f).apply m).chan = m.chan := rfl
@[simp] theorem Prim.que_rgl (f : QueSt → QueSt) (m : Mach) : ((Prim.que f).apply m).rgl = m.rgl := rfl
@[simp] theorem Prim.que_noc (f : QueSt → QueSt) (m : Mach) : ((Prim.que f).apply m).noc = m.noc := rfl
@[simp] theorem Prim.que_csw (f : QueSt → QueSt) (m : Mach) : ((Prim.que f).apply m).csw = m.csw := rfl
@[simp] theorem Prim.que_pow (f : QueSt → QueSt) (m : Mach) : ((Prim.que f).apply m).pow = m.pow := rfl
@[simp] theorem Prim.que_out (f : QueSt → QueSt) (m : Mach) : ((Prim.que f).apply m).out = m.out := rfl
@[simp] theorem Prim.que_freeCtr (f : QueSt → QueSt) (m : Mach) : ((Prim.que f).apply m).freeCtr = m.freeCtr := rfl
@[simp] theorem Prim.fry_sled (f : FrySt → FrySt) (m : Mach) : ((Prim.fry f).apply m).sled = m.sled := rfl
@[simp] theorem Prim.fry_regs (f : FrySt → FrySt) (m : Mach) : ((Prim.fry f).apply m).regs = m.regs := rfl
@[simp] theorem Prim.fry_dram (f : FrySt → FrySt) (m : Mach) : ((Prim.fry f).apply m).dram = m.dram := rfl
@[simp] theorem Prim.fry_pages (f : FrySt → FrySt) (m : Mach) : ((Prim.fry f).apply m).pages = m.pages := rfl
@[simp] theorem Prim.fry_lines (f : FrySt → FrySt) (m : Mach) : ((Prim.fry f).apply m).lines = m.lines := rfl
@[simp] theorem Prim.fry_dir (f : FrySt → FrySt) (m : Mach) : ((Prim.fry f).apply m).dir = m.dir := rfl
@[simp] theorem Prim.fry_grain (f : FrySt → FrySt) (m : Mach) : ((Prim.fry f).apply m).grain = m.grain := rfl
@[simp] theorem Prim.fry_keys (f : FrySt → FrySt) (m : Mach) : ((Prim.fry f).apply m).keys = m.keys := rfl
@[simp] theorem Prim.fry_host (f : FrySt → FrySt) (m : Mach) : ((Prim.fry f).apply m).host = m.host := rfl
@[simp] theorem Prim.fry_bkw (f : FrySt → FrySt) (m : Mach) : ((Prim.fry f).apply m).bkw = m.bkw := rfl
@[simp] theorem Prim.fry_lhl (f : FrySt → FrySt) (m : Mach) : ((Prim.fry f).apply m).lhl = m.lhl := rfl
@[simp] theorem Prim.fry_arc (f : FrySt → FrySt) (m : Mach) : ((Prim.fry f).apply m).arc = m.arc := rfl
@[simp] theorem Prim.fry_bql (f : FrySt → FrySt) (m : Mach) : ((Prim.fry f).apply m).bql = m.bql := rfl
@[simp] theorem Prim.fry_snd (f : FrySt → FrySt) (m : Mach) : ((Prim.fry f).apply m).snd = m.snd := rfl
@[simp] theorem Prim.fry_que (f : FrySt → FrySt) (m : Mach) : ((Prim.fry f).apply m).que = m.que := rfl
@[simp] theorem Prim.fry_fw (f : FrySt → FrySt) (m : Mach) : ((Prim.fry f).apply m).fw = m.fw := rfl
@[simp] theorem Prim.fry_chan (f : FrySt → FrySt) (m : Mach) : ((Prim.fry f).apply m).chan = m.chan := rfl
@[simp] theorem Prim.fry_rgl (f : FrySt → FrySt) (m : Mach) : ((Prim.fry f).apply m).rgl = m.rgl := rfl
@[simp] theorem Prim.fry_noc (f : FrySt → FrySt) (m : Mach) : ((Prim.fry f).apply m).noc = m.noc := rfl
@[simp] theorem Prim.fry_csw (f : FrySt → FrySt) (m : Mach) : ((Prim.fry f).apply m).csw = m.csw := rfl
@[simp] theorem Prim.fry_pow (f : FrySt → FrySt) (m : Mach) : ((Prim.fry f).apply m).pow = m.pow := rfl
@[simp] theorem Prim.fry_out (f : FrySt → FrySt) (m : Mach) : ((Prim.fry f).apply m).out = m.out := rfl
@[simp] theorem Prim.fry_freeCtr (f : FrySt → FrySt) (m : Mach) : ((Prim.fry f).apply m).freeCtr = m.freeCtr := rfl
@[simp] theorem Prim.fw_sled (f : FwSt → FwSt) (m : Mach) : ((Prim.fw f).apply m).sled = m.sled := rfl
@[simp] theorem Prim.fw_regs (f : FwSt → FwSt) (m : Mach) : ((Prim.fw f).apply m).regs = m.regs := rfl
@[simp] theorem Prim.fw_dram (f : FwSt → FwSt) (m : Mach) : ((Prim.fw f).apply m).dram = m.dram := rfl
@[simp] theorem Prim.fw_pages (f : FwSt → FwSt) (m : Mach) : ((Prim.fw f).apply m).pages = m.pages := rfl
@[simp] theorem Prim.fw_lines (f : FwSt → FwSt) (m : Mach) : ((Prim.fw f).apply m).lines = m.lines := rfl
@[simp] theorem Prim.fw_dir (f : FwSt → FwSt) (m : Mach) : ((Prim.fw f).apply m).dir = m.dir := rfl
@[simp] theorem Prim.fw_grain (f : FwSt → FwSt) (m : Mach) : ((Prim.fw f).apply m).grain = m.grain := rfl
@[simp] theorem Prim.fw_keys (f : FwSt → FwSt) (m : Mach) : ((Prim.fw f).apply m).keys = m.keys := rfl
@[simp] theorem Prim.fw_host (f : FwSt → FwSt) (m : Mach) : ((Prim.fw f).apply m).host = m.host := rfl
@[simp] theorem Prim.fw_bkw (f : FwSt → FwSt) (m : Mach) : ((Prim.fw f).apply m).bkw = m.bkw := rfl
@[simp] theorem Prim.fw_lhl (f : FwSt → FwSt) (m : Mach) : ((Prim.fw f).apply m).lhl = m.lhl := rfl
@[simp] theorem Prim.fw_arc (f : FwSt → FwSt) (m : Mach) : ((Prim.fw f).apply m).arc = m.arc := rfl
@[simp] theorem Prim.fw_bql (f : FwSt → FwSt) (m : Mach) : ((Prim.fw f).apply m).bql = m.bql := rfl
@[simp] theorem Prim.fw_snd (f : FwSt → FwSt) (m : Mach) : ((Prim.fw f).apply m).snd = m.snd := rfl
@[simp] theorem Prim.fw_que (f : FwSt → FwSt) (m : Mach) : ((Prim.fw f).apply m).que = m.que := rfl
@[simp] theorem Prim.fw_fry (f : FwSt → FwSt) (m : Mach) : ((Prim.fw f).apply m).fry = m.fry := rfl
@[simp] theorem Prim.fw_chan (f : FwSt → FwSt) (m : Mach) : ((Prim.fw f).apply m).chan = m.chan := rfl
@[simp] theorem Prim.fw_rgl (f : FwSt → FwSt) (m : Mach) : ((Prim.fw f).apply m).rgl = m.rgl := rfl
@[simp] theorem Prim.fw_noc (f : FwSt → FwSt) (m : Mach) : ((Prim.fw f).apply m).noc = m.noc := rfl
@[simp] theorem Prim.fw_csw (f : FwSt → FwSt) (m : Mach) : ((Prim.fw f).apply m).csw = m.csw := rfl
@[simp] theorem Prim.fw_pow (f : FwSt → FwSt) (m : Mach) : ((Prim.fw f).apply m).pow = m.pow := rfl
@[simp] theorem Prim.fw_out (f : FwSt → FwSt) (m : Mach) : ((Prim.fw f).apply m).out = m.out := rfl
@[simp] theorem Prim.fw_freeCtr (f : FwSt → FwSt) (m : Mach) : ((Prim.fw f).apply m).freeCtr = m.freeCtr := rfl
@[simp] theorem Prim.chan_sled (f : ChanSt → ChanSt) (m : Mach) : ((Prim.chan f).apply m).sled = m.sled := rfl
@[simp] theorem Prim.chan_regs (f : ChanSt → ChanSt) (m : Mach) : ((Prim.chan f).apply m).regs = m.regs := rfl
@[simp] theorem Prim.chan_dram (f : ChanSt → ChanSt) (m : Mach) : ((Prim.chan f).apply m).dram = m.dram := rfl
@[simp] theorem Prim.chan_pages (f : ChanSt → ChanSt) (m : Mach) : ((Prim.chan f).apply m).pages = m.pages := rfl
@[simp] theorem Prim.chan_lines (f : ChanSt → ChanSt) (m : Mach) : ((Prim.chan f).apply m).lines = m.lines := rfl
@[simp] theorem Prim.chan_dir (f : ChanSt → ChanSt) (m : Mach) : ((Prim.chan f).apply m).dir = m.dir := rfl
@[simp] theorem Prim.chan_grain (f : ChanSt → ChanSt) (m : Mach) : ((Prim.chan f).apply m).grain = m.grain := rfl
@[simp] theorem Prim.chan_keys (f : ChanSt → ChanSt) (m : Mach) : ((Prim.chan f).apply m).keys = m.keys := rfl
@[simp] theorem Prim.chan_host (f : ChanSt → ChanSt) (m : Mach) : ((Prim.chan f).apply m).host = m.host := rfl
@[simp] theorem Prim.chan_bkw (f : ChanSt → ChanSt) (m : Mach) : ((Prim.chan f).apply m).bkw = m.bkw := rfl
@[simp] theorem Prim.chan_lhl (f : ChanSt → ChanSt) (m : Mach) : ((Prim.chan f).apply m).lhl = m.lhl := rfl
@[simp] theorem Prim.chan_arc (f : ChanSt → ChanSt) (m : Mach) : ((Prim.chan f).apply m).arc = m.arc := rfl
@[simp] theorem Prim.chan_bql (f : ChanSt → ChanSt) (m : Mach) : ((Prim.chan f).apply m).bql = m.bql := rfl
@[simp] theorem Prim.chan_snd (f : ChanSt → ChanSt) (m : Mach) : ((Prim.chan f).apply m).snd = m.snd := rfl
@[simp] theorem Prim.chan_que (f : ChanSt → ChanSt) (m : Mach) : ((Prim.chan f).apply m).que = m.que := rfl
@[simp] theorem Prim.chan_fry (f : ChanSt → ChanSt) (m : Mach) : ((Prim.chan f).apply m).fry = m.fry := rfl
@[simp] theorem Prim.chan_fw (f : ChanSt → ChanSt) (m : Mach) : ((Prim.chan f).apply m).fw = m.fw := rfl
@[simp] theorem Prim.chan_rgl (f : ChanSt → ChanSt) (m : Mach) : ((Prim.chan f).apply m).rgl = m.rgl := rfl
@[simp] theorem Prim.chan_noc (f : ChanSt → ChanSt) (m : Mach) : ((Prim.chan f).apply m).noc = m.noc := rfl
@[simp] theorem Prim.chan_csw (f : ChanSt → ChanSt) (m : Mach) : ((Prim.chan f).apply m).csw = m.csw := rfl
@[simp] theorem Prim.chan_pow (f : ChanSt → ChanSt) (m : Mach) : ((Prim.chan f).apply m).pow = m.pow := rfl
@[simp] theorem Prim.chan_out (f : ChanSt → ChanSt) (m : Mach) : ((Prim.chan f).apply m).out = m.out := rfl
@[simp] theorem Prim.chan_freeCtr (f : ChanSt → ChanSt) (m : Mach) : ((Prim.chan f).apply m).freeCtr = m.freeCtr := rfl
@[simp] theorem Prim.rgl_sled (f : RglSt → RglSt) (m : Mach) : ((Prim.rgl f).apply m).sled = m.sled := rfl
@[simp] theorem Prim.rgl_regs (f : RglSt → RglSt) (m : Mach) : ((Prim.rgl f).apply m).regs = m.regs := rfl
@[simp] theorem Prim.rgl_dram (f : RglSt → RglSt) (m : Mach) : ((Prim.rgl f).apply m).dram = m.dram := rfl
@[simp] theorem Prim.rgl_pages (f : RglSt → RglSt) (m : Mach) : ((Prim.rgl f).apply m).pages = m.pages := rfl
@[simp] theorem Prim.rgl_lines (f : RglSt → RglSt) (m : Mach) : ((Prim.rgl f).apply m).lines = m.lines := rfl
@[simp] theorem Prim.rgl_dir (f : RglSt → RglSt) (m : Mach) : ((Prim.rgl f).apply m).dir = m.dir := rfl
@[simp] theorem Prim.rgl_grain (f : RglSt → RglSt) (m : Mach) : ((Prim.rgl f).apply m).grain = m.grain := rfl
@[simp] theorem Prim.rgl_keys (f : RglSt → RglSt) (m : Mach) : ((Prim.rgl f).apply m).keys = m.keys := rfl
@[simp] theorem Prim.rgl_host (f : RglSt → RglSt) (m : Mach) : ((Prim.rgl f).apply m).host = m.host := rfl
@[simp] theorem Prim.rgl_bkw (f : RglSt → RglSt) (m : Mach) : ((Prim.rgl f).apply m).bkw = m.bkw := rfl
@[simp] theorem Prim.rgl_lhl (f : RglSt → RglSt) (m : Mach) : ((Prim.rgl f).apply m).lhl = m.lhl := rfl
@[simp] theorem Prim.rgl_arc (f : RglSt → RglSt) (m : Mach) : ((Prim.rgl f).apply m).arc = m.arc := rfl
@[simp] theorem Prim.rgl_bql (f : RglSt → RglSt) (m : Mach) : ((Prim.rgl f).apply m).bql = m.bql := rfl
@[simp] theorem Prim.rgl_snd (f : RglSt → RglSt) (m : Mach) : ((Prim.rgl f).apply m).snd = m.snd := rfl
@[simp] theorem Prim.rgl_que (f : RglSt → RglSt) (m : Mach) : ((Prim.rgl f).apply m).que = m.que := rfl
@[simp] theorem Prim.rgl_fry (f : RglSt → RglSt) (m : Mach) : ((Prim.rgl f).apply m).fry = m.fry := rfl
@[simp] theorem Prim.rgl_fw (f : RglSt → RglSt) (m : Mach) : ((Prim.rgl f).apply m).fw = m.fw := rfl
@[simp] theorem Prim.rgl_chan (f : RglSt → RglSt) (m : Mach) : ((Prim.rgl f).apply m).chan = m.chan := rfl
@[simp] theorem Prim.rgl_noc (f : RglSt → RglSt) (m : Mach) : ((Prim.rgl f).apply m).noc = m.noc := rfl
@[simp] theorem Prim.rgl_csw (f : RglSt → RglSt) (m : Mach) : ((Prim.rgl f).apply m).csw = m.csw := rfl
@[simp] theorem Prim.rgl_pow (f : RglSt → RglSt) (m : Mach) : ((Prim.rgl f).apply m).pow = m.pow := rfl
@[simp] theorem Prim.rgl_out (f : RglSt → RglSt) (m : Mach) : ((Prim.rgl f).apply m).out = m.out := rfl
@[simp] theorem Prim.rgl_freeCtr (f : RglSt → RglSt) (m : Mach) : ((Prim.rgl f).apply m).freeCtr = m.freeCtr := rfl
@[simp] theorem Prim.noc_sled (f : NocSt → NocSt) (m : Mach) : ((Prim.noc f).apply m).sled = m.sled := rfl
@[simp] theorem Prim.noc_regs (f : NocSt → NocSt) (m : Mach) : ((Prim.noc f).apply m).regs = m.regs := rfl
@[simp] theorem Prim.noc_dram (f : NocSt → NocSt) (m : Mach) : ((Prim.noc f).apply m).dram = m.dram := rfl
@[simp] theorem Prim.noc_pages (f : NocSt → NocSt) (m : Mach) : ((Prim.noc f).apply m).pages = m.pages := rfl
@[simp] theorem Prim.noc_lines (f : NocSt → NocSt) (m : Mach) : ((Prim.noc f).apply m).lines = m.lines := rfl
@[simp] theorem Prim.noc_dir (f : NocSt → NocSt) (m : Mach) : ((Prim.noc f).apply m).dir = m.dir := rfl
@[simp] theorem Prim.noc_grain (f : NocSt → NocSt) (m : Mach) : ((Prim.noc f).apply m).grain = m.grain := rfl
@[simp] theorem Prim.noc_keys (f : NocSt → NocSt) (m : Mach) : ((Prim.noc f).apply m).keys = m.keys := rfl
@[simp] theorem Prim.noc_host (f : NocSt → NocSt) (m : Mach) : ((Prim.noc f).apply m).host = m.host := rfl
@[simp] theorem Prim.noc_bkw (f : NocSt → NocSt) (m : Mach) : ((Prim.noc f).apply m).bkw = m.bkw := rfl
@[simp] theorem Prim.noc_lhl (f : NocSt → NocSt) (m : Mach) : ((Prim.noc f).apply m).lhl = m.lhl := rfl
@[simp] theorem Prim.noc_arc (f : NocSt → NocSt) (m : Mach) : ((Prim.noc f).apply m).arc = m.arc := rfl
@[simp] theorem Prim.noc_bql (f : NocSt → NocSt) (m : Mach) : ((Prim.noc f).apply m).bql = m.bql := rfl
@[simp] theorem Prim.noc_snd (f : NocSt → NocSt) (m : Mach) : ((Prim.noc f).apply m).snd = m.snd := rfl
@[simp] theorem Prim.noc_que (f : NocSt → NocSt) (m : Mach) : ((Prim.noc f).apply m).que = m.que := rfl
@[simp] theorem Prim.noc_fry (f : NocSt → NocSt) (m : Mach) : ((Prim.noc f).apply m).fry = m.fry := rfl
@[simp] theorem Prim.noc_fw (f : NocSt → NocSt) (m : Mach) : ((Prim.noc f).apply m).fw = m.fw := rfl
@[simp] theorem Prim.noc_chan (f : NocSt → NocSt) (m : Mach) : ((Prim.noc f).apply m).chan = m.chan := rfl
@[simp] theorem Prim.noc_rgl (f : NocSt → NocSt) (m : Mach) : ((Prim.noc f).apply m).rgl = m.rgl := rfl
@[simp] theorem Prim.noc_csw (f : NocSt → NocSt) (m : Mach) : ((Prim.noc f).apply m).csw = m.csw := rfl
@[simp] theorem Prim.noc_pow (f : NocSt → NocSt) (m : Mach) : ((Prim.noc f).apply m).pow = m.pow := rfl
@[simp] theorem Prim.noc_out (f : NocSt → NocSt) (m : Mach) : ((Prim.noc f).apply m).out = m.out := rfl
@[simp] theorem Prim.noc_freeCtr (f : NocSt → NocSt) (m : Mach) : ((Prim.noc f).apply m).freeCtr = m.freeCtr := rfl
@[simp] theorem Prim.csw_sled (f : CswSt → CswSt) (m : Mach) : ((Prim.csw f).apply m).sled = m.sled := rfl
@[simp] theorem Prim.csw_regs (f : CswSt → CswSt) (m : Mach) : ((Prim.csw f).apply m).regs = m.regs := rfl
@[simp] theorem Prim.csw_dram (f : CswSt → CswSt) (m : Mach) : ((Prim.csw f).apply m).dram = m.dram := rfl
@[simp] theorem Prim.csw_pages (f : CswSt → CswSt) (m : Mach) : ((Prim.csw f).apply m).pages = m.pages := rfl
@[simp] theorem Prim.csw_lines (f : CswSt → CswSt) (m : Mach) : ((Prim.csw f).apply m).lines = m.lines := rfl
@[simp] theorem Prim.csw_dir (f : CswSt → CswSt) (m : Mach) : ((Prim.csw f).apply m).dir = m.dir := rfl
@[simp] theorem Prim.csw_grain (f : CswSt → CswSt) (m : Mach) : ((Prim.csw f).apply m).grain = m.grain := rfl
@[simp] theorem Prim.csw_keys (f : CswSt → CswSt) (m : Mach) : ((Prim.csw f).apply m).keys = m.keys := rfl
@[simp] theorem Prim.csw_host (f : CswSt → CswSt) (m : Mach) : ((Prim.csw f).apply m).host = m.host := rfl
@[simp] theorem Prim.csw_bkw (f : CswSt → CswSt) (m : Mach) : ((Prim.csw f).apply m).bkw = m.bkw := rfl
@[simp] theorem Prim.csw_lhl (f : CswSt → CswSt) (m : Mach) : ((Prim.csw f).apply m).lhl = m.lhl := rfl
@[simp] theorem Prim.csw_arc (f : CswSt → CswSt) (m : Mach) : ((Prim.csw f).apply m).arc = m.arc := rfl
@[simp] theorem Prim.csw_bql (f : CswSt → CswSt) (m : Mach) : ((Prim.csw f).apply m).bql = m.bql := rfl
@[simp] theorem Prim.csw_snd (f : CswSt → CswSt) (m : Mach) : ((Prim.csw f).apply m).snd = m.snd := rfl
@[simp] theorem Prim.csw_que (f : CswSt → CswSt) (m : Mach) : ((Prim.csw f).apply m).que = m.que := rfl
@[simp] theorem Prim.csw_fry (f : CswSt → CswSt) (m : Mach) : ((Prim.csw f).apply m).fry = m.fry := rfl
@[simp] theorem Prim.csw_fw (f : CswSt → CswSt) (m : Mach) : ((Prim.csw f).apply m).fw = m.fw := rfl
@[simp] theorem Prim.csw_chan (f : CswSt → CswSt) (m : Mach) : ((Prim.csw f).apply m).chan = m.chan := rfl
@[simp] theorem Prim.csw_rgl (f : CswSt → CswSt) (m : Mach) : ((Prim.csw f).apply m).rgl = m.rgl := rfl
@[simp] theorem Prim.csw_noc (f : CswSt → CswSt) (m : Mach) : ((Prim.csw f).apply m).noc = m.noc := rfl
@[simp] theorem Prim.csw_pow (f : CswSt → CswSt) (m : Mach) : ((Prim.csw f).apply m).pow = m.pow := rfl
@[simp] theorem Prim.csw_out (f : CswSt → CswSt) (m : Mach) : ((Prim.csw f).apply m).out = m.out := rfl
@[simp] theorem Prim.csw_freeCtr (f : CswSt → CswSt) (m : Mach) : ((Prim.csw f).apply m).freeCtr = m.freeCtr := rfl
@[simp] theorem Prim.pow_sled (f : PowSt → PowSt) (m : Mach) : ((Prim.pow f).apply m).sled = m.sled := rfl
@[simp] theorem Prim.pow_regs (f : PowSt → PowSt) (m : Mach) : ((Prim.pow f).apply m).regs = m.regs := rfl
@[simp] theorem Prim.pow_dram (f : PowSt → PowSt) (m : Mach) : ((Prim.pow f).apply m).dram = m.dram := rfl
@[simp] theorem Prim.pow_pages (f : PowSt → PowSt) (m : Mach) : ((Prim.pow f).apply m).pages = m.pages := rfl
@[simp] theorem Prim.pow_lines (f : PowSt → PowSt) (m : Mach) : ((Prim.pow f).apply m).lines = m.lines := rfl
@[simp] theorem Prim.pow_dir (f : PowSt → PowSt) (m : Mach) : ((Prim.pow f).apply m).dir = m.dir := rfl
@[simp] theorem Prim.pow_grain (f : PowSt → PowSt) (m : Mach) : ((Prim.pow f).apply m).grain = m.grain := rfl
@[simp] theorem Prim.pow_keys (f : PowSt → PowSt) (m : Mach) : ((Prim.pow f).apply m).keys = m.keys := rfl
@[simp] theorem Prim.pow_host (f : PowSt → PowSt) (m : Mach) : ((Prim.pow f).apply m).host = m.host := rfl
@[simp] theorem Prim.pow_bkw (f : PowSt → PowSt) (m : Mach) : ((Prim.pow f).apply m).bkw = m.bkw := rfl
@[simp] theorem Prim.pow_lhl (f : PowSt → PowSt) (m : Mach) : ((Prim.pow f).apply m).lhl = m.lhl := rfl
@[simp] theorem Prim.pow_arc (f : PowSt → PowSt) (m : Mach) : ((Prim.pow f).apply m).arc = m.arc := rfl
@[simp] theorem Prim.pow_bql (f : PowSt → PowSt) (m : Mach) : ((Prim.pow f).apply m).bql = m.bql := rfl
@[simp] theorem Prim.pow_snd (f : PowSt → PowSt) (m : Mach) : ((Prim.pow f).apply m).snd = m.snd := rfl
@[simp] theorem Prim.pow_que (f : PowSt → PowSt) (m : Mach) : ((Prim.pow f).apply m).que = m.que := rfl
@[simp] theorem Prim.pow_fry (f : PowSt → PowSt) (m : Mach) : ((Prim.pow f).apply m).fry = m.fry := rfl
@[simp] theorem Prim.pow_fw (f : PowSt → PowSt) (m : Mach) : ((Prim.pow f).apply m).fw = m.fw := rfl
@[simp] theorem Prim.pow_chan (f : PowSt → PowSt) (m : Mach) : ((Prim.pow f).apply m).chan = m.chan := rfl
@[simp] theorem Prim.pow_rgl (f : PowSt → PowSt) (m : Mach) : ((Prim.pow f).apply m).rgl = m.rgl := rfl
@[simp] theorem Prim.pow_noc (f : PowSt → PowSt) (m : Mach) : ((Prim.pow f).apply m).noc = m.noc := rfl
@[simp] theorem Prim.pow_csw (f : PowSt → PowSt) (m : Mach) : ((Prim.pow f).apply m).csw = m.csw := rfl
@[simp] theorem Prim.pow_out (f : PowSt → PowSt) (m : Mach) : ((Prim.pow f).apply m).out = m.out := rfl
@[simp] theorem Prim.pow_freeCtr (f : PowSt → PowSt) (m : Mach) : ((Prim.pow f).apply m).freeCtr = m.freeCtr := rfl
@[simp] theorem Prim.lines_lines (f : LineSt → LineSt) (m : Mach) : ((Prim.lines f).apply m).lines = f m.lines := rfl
@[simp] theorem Prim.dir_dir (f : DirSt → DirSt) (m : Mach) : ((Prim.dir f).apply m).dir = f m.dir := rfl
@[simp] theorem Prim.grain_grain (f : GrainSt → GrainSt) (m : Mach) : ((Prim.grain f).apply m).grain = f m.grain := rfl
@[simp] theorem Prim.keys_keys (f : KeySt → KeySt) (m : Mach) : ((Prim.keys f).apply m).keys = f m.keys := rfl
@[simp] theorem Prim.host_host (f : HostSt → HostSt) (m : Mach) : ((Prim.host f).apply m).host = f m.host := rfl
@[simp] theorem Prim.bkw_bkw (f : BkwSt → BkwSt) (m : Mach) : ((Prim.bkw f).apply m).bkw = f m.bkw := rfl
@[simp] theorem Prim.lhl_lhl (f : LhlSt → LhlSt) (m : Mach) : ((Prim.lhl f).apply m).lhl = f m.lhl := rfl
@[simp] theorem Prim.arc_arc (f : ArcSt → ArcSt) (m : Mach) : ((Prim.arc f).apply m).arc = f m.arc := rfl
@[simp] theorem Prim.bql_bql (f : BqlSt → BqlSt) (m : Mach) : ((Prim.bql f).apply m).bql = f m.bql := rfl
@[simp] theorem Prim.snd_snd (f : SndSt → SndSt) (m : Mach) : ((Prim.snd f).apply m).snd = f m.snd := rfl
@[simp] theorem Prim.que_que (f : QueSt → QueSt) (m : Mach) : ((Prim.que f).apply m).que = f m.que := rfl
@[simp] theorem Prim.fry_fry (f : FrySt → FrySt) (m : Mach) : ((Prim.fry f).apply m).fry = f m.fry := rfl
@[simp] theorem Prim.fw_fw (f : FwSt → FwSt) (m : Mach) : ((Prim.fw f).apply m).fw = f m.fw := rfl
@[simp] theorem Prim.chan_chan (f : ChanSt → ChanSt) (m : Mach) : ((Prim.chan f).apply m).chan = f m.chan := rfl
@[simp] theorem Prim.rgl_rgl (f : RglSt → RglSt) (m : Mach) : ((Prim.rgl f).apply m).rgl = f m.rgl := rfl
@[simp] theorem Prim.noc_noc (f : NocSt → NocSt) (m : Mach) : ((Prim.noc f).apply m).noc = f m.noc := rfl
@[simp] theorem Prim.csw_csw (f : CswSt → CswSt) (m : Mach) : ((Prim.csw f).apply m).csw = f m.csw := rfl
@[simp] theorem Prim.pow_pow (f : PowSt → PowSt) (m : Mach) : ((Prim.pow f).apply m).pow = f m.pow := rfl
@[simp] theorem Prim.reg_regs (f : Fld) (i v : Nat) (m : Mach) : ((Prim.reg f i v).apply m).regs = m.setReg f i v := rfl
@[simp] theorem Prim.poke_dram (a : Nat) (bs : List Byte) (m : Mach) : ((Prim.poke a bs).apply m).dram = Dram.write m.dram a bs := rfl
@[simp] theorem Prim.page_pages (pn : Nat) (p : PageSt) (m : Mach) : ((Prim.page pn p).apply m).pages = m.pages.set pn {} p := rfl
@[simp] theorem Prim.emit_out (o : Out) (m : Mach) : ((Prim.emit o).apply m).out = m.out ++ [o] := rfl
@[simp] theorem Prim.draw_freeCtr (m : Mach) : (Prim.draw.apply m).freeCtr = m.freeCtr + 1 := rfl

end Sys2Proof.Machine
end

