-- ==== Sys2Proof/Laws/Acts.lean ====
section
/-!
SUPPORT. What a program can change, said by a set of places: a register field by its number, every other part of the sled by a number of
its own. A program within a set leaves everything outside it as it was.
-/

namespace Sys2Proof.Machine

/-- The number of the place that a primitive changes. -/
def Prim.bit : Prim → Nat
  | .reg f _ _ => f.ctorIdx
  | .poke _ _ => 600
  | .page _ _ => 601
  | .emit _ => 602
  | .draw => 603
  | .resetRegs _ => 604
  | .wipe => 605
  | .lines _ => 606
  | .dir _ => 607
  | .grain _ => 608
  | .keys _ => 609
  | .host _ => 610
  | .bkw _ => 611
  | .lhl _ => 612
  | .arc _ => 613
  | .bql _ => 614
  | .snd _ => 615
  | .que _ => 616
  | .fry _ => 617
  | .fw _ => 618
  | .chan _ => 619
  | .rgl _ => 620
  | .noc _ => 621
  | .csw _ => 622
  | .pow _ => 623

/-- Every primitive that a program may run changes a place of the set `K`, the bits of a number. -/
def Act.Within (K : Nat) : Act → Prop
  | .skip => True
  | .prim p => K.testBit p.bit = true
  | .seq a b => a.Within K ∧ b.Within K
  | .read f => ∀ m, (f m).Within K

/-- One set of places lies in another. -/
def inside (K L : Nat) : Bool := K &&& L == K

theorem inside_bit {K L : Nat} (h : inside K L = true) {i : Nat} (hi : K.testBit i = true) : L.testBit i = true := by
  have e : K &&& L = K := by simpa [inside] using h
  rw [← e, Nat.testBit_and, Bool.and_eq_true] at hi
  exact hi.2

theorem inside_trans {J K L : Nat} (h : inside J K = true) (g : inside K L = true) : inside J L = true := by
  have e : J &&& K = J := by simpa [inside] using h
  have d : K &&& L = K := by simpa [inside] using g
  have : J &&& L = J := by
    rw [← e, Nat.and_assoc, d]
  simpa [inside] using this

theorem Act.Within.mono {K L : Nat} (h : inside K L = true) : ∀ {a : Act}, a.Within K → a.Within L := by
  intro a
  induction a with
  | skip => intro _; trivial
  | prim p => intro ha; exact inside_bit h ha
  | seq a b iha ihb => intro hab; exact ⟨iha hab.1, ihb hab.2⟩
  | read f ih => intro hf m; exact ih m (hf m)

theorem within_skip {K : Nat} : Act.skip.Within K := trivial
theorem within_seq {K : Nat} {a b : Act} (ha : a.Within K) (hb : b.Within K) : (Act.seq a b).Within K := ⟨ha, hb⟩
theorem within_read {K : Nat} {f : Mach → Act} (h : ∀ m, (f m).Within K) : (Act.read f).Within K := h
theorem within_all_nil {K : Nat} : (Act.all []).Within K := trivial
theorem within_all_one {K : Nat} {a : Act} (h : a.Within K) : (Act.all [a]).Within K := h
theorem within_all_cons {K : Nat} {a b : Act} {l : List Act} (ha : a.Within K) (hl : (Act.all (b :: l)).Within K) :
    (Act.all (a :: b :: l)).Within K := ⟨ha, hl⟩

theorem within_all {K : Nat} : ∀ {l : List Act}, (∀ a ∈ l, a.Within K) → (Act.all l).Within K
  | [], _ => trivial
  | [a], h => h a (List.mem_cons_self ..)
  | a :: _ :: _, h => ⟨h a (List.mem_cons_self ..), within_all fun c hc => h c (List.mem_cons_of_mem _ hc)⟩

theorem within_each {α : Type} {K : Nat} {l : List α} {f : α → Act} (h : ∀ x, (f x).Within K) : (Act.each l f).Within K := by
  refine within_all fun a ha => ?_
  obtain ⟨x, -, rfl⟩ := List.mem_map.mp ha
  exact h x

theorem within_poke {K : Nat} {a : Nat} {bs : List Byte} (h : K.testBit 600 = true) : (Act.prim (.poke a bs)).Within K := h
theorem within_page {K : Nat} {pn : Nat} {p : PageSt} (h : K.testBit 601 = true) : (Act.prim (.page pn p)).Within K := h
theorem within_draw {K : Nat}  (h : K.testBit 603 = true) : (Act.prim .draw).Within K := h
theorem within_resetRegs {K : Nat} {k : Nat → Bool} (h : K.testBit 604 = true) : (Act.prim (.resetRegs k)).Within K := h
theorem within_wipe {K : Nat}  (h : K.testBit 605 = true) : (Act.prim .wipe).Within K := h
theorem within_lines {K : Nat} {f : LineSt → LineSt} (h : K.testBit 606 = true) : (Act.prim (.lines f)).Within K := h
theorem within_dir {K : Nat} {f : DirSt → DirSt} (h : K.testBit 607 = true) : (Act.prim (.dir f)).Within K := h
theorem within_grain {K : Nat} {f : GrainSt → GrainSt} (h : K.testBit 608 = true) : (Act.prim (.grain f)).Within K := h
theorem within_keys {K : Nat} {f : KeySt → KeySt} (h : K.testBit 609 = true) : (Act.prim (.keys f)).Within K := h
theorem within_host {K : Nat} {f : HostSt → HostSt} (h : K.testBit 610 = true) : (Act.prim (.host f)).Within K := h
theorem within_bkw {K : Nat} {f : BkwSt → BkwSt} (h : K.testBit 611 = true) : (Act.prim (.bkw f)).Within K := h
theorem within_lhl {K : Nat} {f : LhlSt → LhlSt} (h : K.testBit 612 = true) : (Act.prim (.lhl f)).Within K := h
theorem within_arc {K : Nat} {f : ArcSt → ArcSt} (h : K.testBit 613 = true) : (Act.prim (.arc f)).Within K := h
theorem within_bql {K : Nat} {f : BqlSt → BqlSt} (h : K.testBit 614 = true) : (Act.prim (.bql f)).Within K := h
theorem within_snd {K : Nat} {f : SndSt → SndSt} (h : K.testBit 615 = true) : (Act.prim (.snd f)).Within K := h
theorem within_que {K : Nat} {f : QueSt → QueSt} (h : K.testBit 616 = true) : (Act.prim (.que f)).Within K := h
theorem within_fry {K : Nat} {f : FrySt → FrySt} (h : K.testBit 617 = true) : (Act.prim (.fry f)).Within K := h
theorem within_fw {K : Nat} {f : FwSt → FwSt} (h : K.testBit 618 = true) : (Act.prim (.fw f)).Within K := h
theorem within_chan {K : Nat} {f : ChanSt → ChanSt} (h : K.testBit 619 = true) : (Act.prim (.chan f)).Within K := h
theorem within_rgl {K : Nat} {f : RglSt → RglSt} (h : K.testBit 620 = true) : (Act.prim (.rgl f)).Within K := h
theorem within_noc {K : Nat} {f : NocSt → NocSt} (h : K.testBit 621 = true) : (Act.prim (.noc f)).Within K := h
theorem within_csw {K : Nat} {f : CswSt → CswSt} (h : K.testBit 622 = true) : (Act.prim (.csw f)).Within K := h
theorem within_pow {K : Nat} {f : PowSt → PowSt} (h : K.testBit 623 = true) : (Act.prim (.pow f)).Within K := h

theorem within_each_mem {α : Type} {K : Nat} {l : List α} {f : α → Act} (h : ∀ x ∈ l, (f x).Within K) : (Act.each l f).Within K := by
  refine within_all fun a ha => ?_
  obtain ⟨x, hx, rfl⟩ := List.mem_map.mp ha
  exact h x hx

theorem within_ite {K : Nat} {c : Prop} [Decidable c] {a b : Act} (ha : a.Within K) (hb : b.Within K) : (if c then a else b).Within K := by
  by_cases h : c
  · rw [if_pos h]; exact ha
  · rw [if_neg h]; exact hb

theorem within_ite_snd {α : Type} {K : Nat} {c : Prop} [Decidable c] {x y : α × Act} (hx : x.2.Within K) (hy : y.2.Within K) :
    (if c then x else y).2.Within K := by
  by_cases h : c
  · rw [if_pos h]; exact hx
  · rw [if_neg h]; exact hy

theorem within_of_snd {α : Type} {K : Nat} {x : α × Act} {e : α} {a : Act} (h : x = (e, a)) (hx : x.2.Within K) : a.Within K := by
  rw [h] at hx; exact hx

theorem within_when {K : Nat} {c : Bool} {a : Act} (h : a.Within K) : (Act.when c a).Within K := by
  cases c
  · exact trivial
  · exact h

theorem within_some? {α : Type} {K : Nat} {o : Option α} {f : α → Act} (h : ∀ x, (f x).Within K) : (Act.some? o f).Within K := by
  cases o with
  | none => exact trivial
  | some x => exact h x

theorem within_set {K : Nat} {f : Fld} {i v : Nat} (h : K.testBit f.ctorIdx = true) : (Act.set f i v).Within K := h
theorem within_inc {K : Nat} {f : Fld} {i n : Nat} (h : K.testBit f.ctorIdx = true) : (Act.inc f i n).Within K := fun _ => h
theorem within_sat {K : Nat} {f : Fld} {i n t : Nat} (h : K.testBit f.ctorIdx = true) : (Act.sat f i n t).Within K := fun _ => h
theorem within_wideBit {K : Nat} {f : Fld} {n : Nat} {b : Bool} (h : K.testBit f.ctorIdx = true) : (Act.wideBit f n b).Within K :=
  fun _ => h
theorem within_emit {K : Nat} {o : Out} (h : K.testBit 602 = true) : (Act.emit o).Within K := h
theorem within_free {K : Nat} {f : BitVec 64 → Act} (h : K.testBit 603 = true) (hf : ∀ v, (f v).Within K) : (Act.free f).Within K :=
  fun _ => ⟨h, hf _⟩
theorem within_rcd {K : Nat} {pn : Nat} {f : PageRec → PageRec} (h : K.testBit 601 = true) : (Act.rcd pn f).Within K := fun _ => h

theorem Prim.bit_lt (p : Prim) : p.bit < 624 := by
  cases p with
  | reg f i v => exact Nat.lt_trans f.ctorIdx_lt600 (by decide)
  | _ => exact Nat.le_of_ble_eq_true rfl

set_option exponentiation.threshold 700 in
theorem everywhere_bit {i : Nat} (h : i < 624) : Nat.testBit 0xffffffffffffffffffffffffffffffffffffffffffffffffffffffffffffffffffffffffffffffffffffffffffffffffffffffffffffffffffffffffffffffffffffffffffffffffffffffffffff i = true := by
  have e : 0xffffffffffffffffffffffffffffffffffffffffffffffffffffffffffffffffffffffffffffffffffffffffffffffffffffffffffffffffffffffffffffffffffffffffffffffffffffffffffff = 2 ^ 624 - 1 := by decide
  rw [e, Nat.testBit_two_pow_sub_one]
  exact decide_eq_true h

/-- Every program is within the set of all places. -/
theorem Act.within_everywhere (a : Act) : a.Within 0xffffffffffffffffffffffffffffffffffffffffffffffffffffffffffffffffffffffffffffffffffffffffffffffffffffffffffffffffffffffffffffffffffffffffffffffffffffffffffff := by
  induction a with
  | skip => trivial
  | prim p => exact everywhere_bit p.bit_lt
  | seq a b iha ihb => exact ⟨iha, ihb⟩
  | read f ih => exact fun m => ih m

/-! ### What stays -/

/-- A property of every primitive of the set is kept by a program within it. -/
theorem Act.Within.keeps {K : Nat} (P : Mach → Mach → Prop) (refl : ∀ m, P m m) (trans : ∀ a b c, P a b → P b c → P a c)
    (h : ∀ (p : Prim) (m : Mach), K.testBit p.bit = true → P m (p.apply m)) : ∀ {a : Act}, a.Within K → ∀ m, P m (a.run m) := by
  intro a
  induction a with
  | skip => intro _ m; exact refl m
  | prim p => intro ha m; exact h p m ha
  | seq a b iha ihb => intro hab m; exact trans _ _ _ (iha hab.1 m) (ihb hab.2 _)
  | read f ih => intro hf m; exact ih m (hf m) m

theorem Prim.apply_sled (p : Prim) (m : Mach) : (p.apply m).sled = m.sled := by cases p <;> rfl

@[simp] theorem Act.run_sled (a : Act) (m : Mach) : (a.run m).sled = m.sled :=
  Act.run_keeps (fun x => x.sled = m.sled) (fun p x h => by rw [Prim.apply_sled]; exact h) a m rfl

/-- No two entries of the register file share a number. -/
theorem Fld.key_inj {f g : Fld} {i j : Nat} (h : f.key i = g.key j) : f = g ∧ i = j := by
  have hf := f.ctorIdx_lt
  have hg := g.ctorIdx_lt
  unfold Fld.key at h
  exact ⟨Fld.eq_of_ctorIdx (by omega), by omega⟩

theorem Mach.get_reg_self (m : Mach) (f : Fld) (i v : Nat) : ((Prim.reg f i v).apply m).get f i = v % 2 ^ f.spec.width :=
  SMap.find?_set_self ..

theorem Mach.get_reg_ne (m : Mach) (f g : Fld) (i j v : Nat) (h : g ≠ f ∨ j ≠ i) :
    ((Prim.reg f i v).apply m).get g j = m.get g j := by
  unfold Mach.get
  rw [show ((Prim.reg f i v).apply m).regs = m.setReg f i v from rfl, Mach.setReg, SMap.find?_set_ne]
  · rfl
  · intro e
    obtain ⟨hf, hi⟩ := Fld.key_inj e
    rcases h with h | h
    · exact h hf
    · exact h hi

/-- A register entry after a write of one entry. -/
theorem Mach.get_reg (m : Mach) (f g : Fld) (i j v : Nat) :
    ((Prim.reg f i v).apply m).get g j = if g = f ∧ j = i then v % 2 ^ f.spec.width else m.get g j := by
  split
  · next h => obtain ⟨rfl, rfl⟩ := h; exact m.get_reg_self ..
  · next h =>
    refine m.get_reg_ne _ _ _ _ _ ?_
    by_cases hg : g = f
    · exact .inr fun hj => h ⟨hg, hj⟩
    · exact .inl hg

/-- Only the register file decides what a field reads as, beside the sled. -/
theorem Mach.get_congr {a b : Mach} (h : a.regs = b.regs) (hs : a.sled = b.sled) (f : Fld) (i : Nat) : a.get f i = b.get f i := by
  unfold Mach.get; rw [h, hs]

theorem Prim.get_other (p : Prim) (m : Mach) (f : Fld) (i : Nat) (h : p.bit ≠ f.ctorIdx) (hr : p.bit ≠ 604) :
    (p.apply m).get f i = m.get f i := by
  cases p with
  | reg g j v => exact m.get_reg_ne g f j i v (.inl fun e => h (by rw [e]; rfl))
  | resetRegs k => exact absurd rfl hr
  | _ => rfl

/-- A field outside the set reads as before. -/
theorem Act.Within.get {K : Nat} {a : Act} (ha : a.Within K) (f : Fld) (i : Nat) (m : Mach) (hf : K.testBit f.ctorIdx = false)
    (hr : K.testBit 604 = false) : (a.run m).get f i = m.get f i := by
  refine Eq.symm (ha.keeps (fun x y => x.get f i = y.get f i) (fun _ => rfl) (fun _ _ _ h k => h.trans k) ?_ m)
  intro p x hp
  refine (Prim.get_other p x f i ?_ ?_).symm
  · intro e; rw [e, hf] at hp; exact absurd hp (by decide)
  · intro e; rw [e, hr] at hp; exact absurd hp (by decide)

/-- The bytes of grain space are as before. -/
theorem Act.Within.dram {K : Nat} {a : Act} (ha : a.Within K) (m : Mach) (h1 : K.testBit 600 = false) (h2 : K.testBit 605 = false) :
    (a.run m).dram = m.dram := by
  refine Eq.symm (ha.keeps (fun x y => x.dram = y.dram) (fun _ => rfl) (fun _ _ _ h k => h.trans k) ?_ m)
  intro p x hp
  cases p with
  | poke => rw [show Prim.bit _ = 600 from rfl, h1] at hp; exact absurd hp (by decide)
  | wipe => rw [show Prim.bit _ = 605 from rfl, h2] at hp; exact absurd hp (by decide)
  | _ => rfl

/-- The page records are as before. -/
theorem Act.Within.pages {K : Nat} {a : Act} (ha : a.Within K) (m : Mach) (h1 : K.testBit 601 = false) (h2 : K.testBit 605 = false) :
    (a.run m).pages = m.pages := by
  refine Eq.symm (ha.keeps (fun x y => x.pages = y.pages) (fun _ => rfl) (fun _ _ _ h k => h.trans k) ?_ m)
  intro p x hp
  cases p with
  | page => rw [show Prim.bit _ = 601 from rfl, h1] at hp; exact absurd hp (by decide)
  | wipe => rw [show Prim.bit _ = 605 from rfl, h2] at hp; exact absurd hp (by decide)
  | _ => rfl

/-- The whole register file is as before when the set holds no field. -/
theorem Act.Within.regs {K : Nat} {a : Act} (ha : a.Within K) (m : Mach) (h1 : K % 2 ^ 600 = 0) (h2 : K.testBit 604 = false) :
    (a.run m).regs = m.regs := by
  refine Eq.symm (ha.keeps (fun x y => x.regs = y.regs) (fun _ => rfl) (fun _ _ _ h k => h.trans k) ?_ m)
  intro p x hp
  cases p with
  | reg f i v =>
    have hb : f.ctorIdx < 600 := f.ctorIdx_lt600
    have : (K % 2 ^ 600).testBit f.ctorIdx = true := by rw [Nat.testBit_mod_two_pow]; simp only [hb, decide_true, Bool.true_and]; exact hp
    rw [h1] at this
    simp at this
  | resetRegs => rw [show Prim.bit _ = 604 from rfl, h2] at hp; exact absurd hp (by decide)
  | _ => rfl

theorem Act.Within.out {K : Nat} {a : Act} (ha : a.Within K) (m : Mach) (h : K.testBit 602 = false) : (a.run m).out = m.out := by
  refine Eq.symm (ha.keeps (fun x y => x.out = y.out) (fun _ => rfl) (fun _ _ _ h k => h.trans k) ?_ m)
  intro p x hp
  cases p with
  | emit => rw [show Prim.bit _ = 602 from rfl, h] at hp; exact absurd hp (by decide)
  | _ => rfl

theorem Act.Within.freeCtr {K : Nat} {a : Act} (ha : a.Within K) (m : Mach) (h : K.testBit 603 = false) : (a.run m).freeCtr = m.freeCtr := by
  refine Eq.symm (ha.keeps (fun x y => x.freeCtr = y.freeCtr) (fun _ => rfl) (fun _ _ _ h k => h.trans k) ?_ m)
  intro p x hp
  cases p with
  | draw => rw [show Prim.bit _ = 603 from rfl, h] at hp; exact absurd hp (by decide)
  | _ => rfl

theorem Act.Within.lines {K : Nat} {a : Act} (ha : a.Within K) (m : Mach) (h : K.testBit 606 = false) : (a.run m).lines = m.lines := by
  refine Eq.symm (ha.keeps (fun x y => x.lines = y.lines) (fun _ => rfl) (fun _ _ _ h k => h.trans k) ?_ m)
  intro p x hp
  cases p with
  | lines => rw [show Prim.bit _ = 606 from rfl, h] at hp; exact absurd hp (by decide)
  | _ => rfl

theorem Act.Within.dir {K : Nat} {a : Act} (ha : a.Within K) (m : Mach) (h : K.testBit 607 = false) : (a.run m).dir = m.dir := by
  refine Eq.symm (ha.keeps (fun x y => x.dir = y.dir) (fun _ => rfl) (fun _ _ _ h k => h.trans k) ?_ m)
  intro p x hp
  cases p with
  | dir => rw [show Prim.bit _ = 607 from rfl, h] at hp; exact absurd hp (by decide)
  | _ => rfl

theorem Act.Within.grain {K : Nat} {a : Act} (ha : a.Within K) (m : Mach) (h : K.testBit 608 = false) : (a.run m).grain = m.grain := by
  refine Eq.symm (ha.keeps (fun x y => x.grain = y.grain) (fun _ => rfl) (fun _ _ _ h k => h.trans k) ?_ m)
  intro p x hp
  cases p with
  | grain => rw [show Prim.bit _ = 608 from rfl, h] at hp; exact absurd hp (by decide)
  | _ => rfl

theorem Act.Within.keys {K : Nat} {a : Act} (ha : a.Within K) (m : Mach) (h : K.testBit 609 = false) : (a.run m).keys = m.keys := by
  refine Eq.symm (ha.keeps (fun x y => x.keys = y.keys) (fun _ => rfl) (fun _ _ _ h k => h.trans k) ?_ m)
  intro p x hp
  cases p with
  | keys => rw [show Prim.bit _ = 609 from rfl, h] at hp; exact absurd hp (by decide)
  | _ => rfl

theorem Act.Within.host {K : Nat} {a : Act} (ha : a.Within K) (m : Mach) (h : K.testBit 610 = false) : (a.run m).host = m.host := by
  refine Eq.symm (ha.keeps (fun x y => x.host = y.host) (fun _ => rfl) (fun _ _ _ h k => h.trans k) ?_ m)
  intro p x hp
  cases p with
  | host => rw [show Prim.bit _ = 610 from rfl, h] at hp; exact absurd hp (by decide)
  | _ => rfl

theorem Act.Within.bkw {K : Nat} {a : Act} (ha : a.Within K) (m : Mach) (h : K.testBit 611 = false) : (a.run m).bkw = m.bkw := by
  refine Eq.symm (ha.keeps (fun x y => x.bkw = y.bkw) (fun _ => rfl) (fun _ _ _ h k => h.trans k) ?_ m)
  intro p x hp
  cases p with
  | bkw => rw [show Prim.bit _ = 611 from rfl, h] at hp; exact absurd hp (by decide)
  | _ => rfl

theorem Act.Within.lhl {K : Nat} {a : Act} (ha : a.Within K) (m : Mach) (h : K.testBit 612 = false) : (a.run m).lhl = m.lhl := by
  refine Eq.symm (ha.keeps (fun x y => x.lhl = y.lhl) (fun _ => rfl) (fun _ _ _ h k => h.trans k) ?_ m)
  intro p x hp
  cases p with
  | lhl => rw [show Prim.bit _ = 612 from rfl, h] at hp; exact absurd hp (by decide)
  | _ => rfl

theorem Act.Within.arc {K : Nat} {a : Act} (ha : a.Within K) (m : Mach) (h : K.testBit 613 = false) : (a.run m).arc = m.arc := by
  refine Eq.symm (ha.keeps (fun x y => x.arc = y.arc) (fun _ => rfl) (fun _ _ _ h k => h.trans k) ?_ m)
  intro p x hp
  cases p with
  | arc => rw [show Prim.bit _ = 613 from rfl, h] at hp; exact absurd hp (by decide)
  | _ => rfl

theorem Act.Within.bql {K : Nat} {a : Act} (ha : a.Within K) (m : Mach) (h : K.testBit 614 = false) : (a.run m).bql = m.bql := by
  refine Eq.symm (ha.keeps (fun x y => x.bql = y.bql) (fun _ => rfl) (fun _ _ _ h k => h.trans k) ?_ m)
  intro p x hp
  cases p with
  | bql => rw [show Prim.bit _ = 614 from rfl, h] at hp; exact absurd hp (by decide)
  | _ => rfl

theorem Act.Within.snd {K : Nat} {a : Act} (ha : a.Within K) (m : Mach) (h : K.testBit 615 = false) : (a.run m).snd = m.snd := by
  refine Eq.symm (ha.keeps (fun x y => x.snd = y.snd) (fun _ => rfl) (fun _ _ _ h k => h.trans k) ?_ m)
  intro p x hp
  cases p with
  | snd => rw [show Prim.bit _ = 615 from rfl, h] at hp; exact absurd hp (by decide)
  | _ => rfl

theorem Act.Within.que {K : Nat} {a : Act} (ha : a.Within K) (m : Mach) (h : K.testBit 616 = false) : (a.run m).que = m.que := by
  refine Eq.symm (ha.keeps (fun x y => x.que = y.que) (fun _ => rfl) (fun _ _ _ h k => h.trans k) ?_ m)
  intro p x hp
  cases p with
  | que => rw [show Prim.bit _ = 616 from rfl, h] at hp; exact absurd hp (by decide)
  | _ => rfl

theorem Act.Within.fry {K : Nat} {a : Act} (ha : a.Within K) (m : Mach) (h : K.testBit 617 = false) : (a.run m).fry = m.fry := by
  refine Eq.symm (ha.keeps (fun x y => x.fry = y.fry) (fun _ => rfl) (fun _ _ _ h k => h.trans k) ?_ m)
  intro p x hp
  cases p with
  | fry => rw [show Prim.bit _ = 617 from rfl, h] at hp; exact absurd hp (by decide)
  | _ => rfl

theorem Act.Within.fw {K : Nat} {a : Act} (ha : a.Within K) (m : Mach) (h : K.testBit 618 = false) : (a.run m).fw = m.fw := by
  refine Eq.symm (ha.keeps (fun x y => x.fw = y.fw) (fun _ => rfl) (fun _ _ _ h k => h.trans k) ?_ m)
  intro p x hp
  cases p with
  | fw => rw [show Prim.bit _ = 618 from rfl, h] at hp; exact absurd hp (by decide)
  | _ => rfl

theorem Act.Within.chan {K : Nat} {a : Act} (ha : a.Within K) (m : Mach) (h : K.testBit 619 = false) : (a.run m).chan = m.chan := by
  refine Eq.symm (ha.keeps (fun x y => x.chan = y.chan) (fun _ => rfl) (fun _ _ _ h k => h.trans k) ?_ m)
  intro p x hp
  cases p with
  | chan => rw [show Prim.bit _ = 619 from rfl, h] at hp; exact absurd hp (by decide)
  | _ => rfl

theorem Act.Within.rgl {K : Nat} {a : Act} (ha : a.Within K) (m : Mach) (h : K.testBit 620 = false) : (a.run m).rgl = m.rgl := by
  refine Eq.symm (ha.keeps (fun x y => x.rgl = y.rgl) (fun _ => rfl) (fun _ _ _ h k => h.trans k) ?_ m)
  intro p x hp
  cases p with
  | rgl => rw [show Prim.bit _ = 620 from rfl, h] at hp; exact absurd hp (by decide)
  | _ => rfl

theorem Act.Within.noc {K : Nat} {a : Act} (ha : a.Within K) (m : Mach) (h : K.testBit 621 = false) : (a.run m).noc = m.noc := by
  refine Eq.symm (ha.keeps (fun x y => x.noc = y.noc) (fun _ => rfl) (fun _ _ _ h k => h.trans k) ?_ m)
  intro p x hp
  cases p with
  | noc => rw [show Prim.bit _ = 621 from rfl, h] at hp; exact absurd hp (by decide)
  | _ => rfl

theorem Act.Within.csw {K : Nat} {a : Act} (ha : a.Within K) (m : Mach) (h : K.testBit 622 = false) : (a.run m).csw = m.csw := by
  refine Eq.symm (ha.keeps (fun x y => x.csw = y.csw) (fun _ => rfl) (fun _ _ _ h k => h.trans k) ?_ m)
  intro p x hp
  cases p with
  | csw => rw [show Prim.bit _ = 622 from rfl, h] at hp; exact absurd hp (by decide)
  | _ => rfl

theorem Act.Within.pow {K : Nat} {a : Act} (ha : a.Within K) (m : Mach) (h : K.testBit 623 = false) : (a.run m).pow = m.pow := by
  refine Eq.symm (ha.keeps (fun x y => x.pow = y.pow) (fun _ => rfl) (fun _ _ _ h k => h.trans k) ?_ m)
  intro p x hp
  cases p with
  | pow => rw [show Prim.bit _ = 623 from rfl, h] at hp; exact absurd hp (by decide)
  | _ => rfl

end Sys2Proof.Machine
end

