-- ==== Sys2Proof/Laws/Frames.lean ====
section
/-!
SUPPORT. From the set of places that a program can change to the frame that a claim states.
-/

namespace Sys2Proof.Machine

/-- The number of a part among the places of `Prim.bit`. -/
def Part.bit : Part → Nat
  | .dram => 600 | .pages => 601 | .out => 602 | .freeCtr => 603
  | .lines => 606 | .dir => 607 | .grain => 608 | .keys => 609 | .host => 610 | .bkw => 611 | .lhl => 612 | .arc => 613 | .bql => 614
  | .snd => 615 | .que => 616 | .fry => 617 | .fw => 618 | .chan => 619 | .rgl => 620 | .noc => 621 | .csw => 622 | .pow => 623

/-- The set of places that some fields and parts are. -/
def places (fs : List Fld) (ps : List Part) : Nat :=
  fs.foldr (fun f k => k ||| 1 <<< f.ctorIdx) (ps.foldr (fun p k => k ||| 1 <<< p.bit) 0)

theorem foldr_bit {α : Type} (g : α → Nat) (z : Nat) (i : Nat) : ∀ l : List α, (∀ x ∈ l, g x ≠ i) → z.testBit i = false →
    (l.foldr (fun x k => k ||| 1 <<< g x) z).testBit i = false
  | [], _, hz => hz
  | x :: l, h, hz => by
    rw [List.foldr_cons, Nat.testBit_or, foldr_bit g z i l (fun y hy => h y (List.mem_cons_of_mem _ hy)) hz, Nat.one_shiftLeft,
      Nat.testBit_two_pow]
    simpa using h x (List.mem_cons_self ..)

theorem places_bit (fs : List Fld) (ps : List Part) (i : Nat) (hf : ∀ f ∈ fs, f.ctorIdx ≠ i) (hp : ∀ p ∈ ps, p.bit ≠ i) :
    (places fs ps).testBit i = false :=
  foldr_bit _ _ i fs hf (foldr_bit _ _ i ps hp (Nat.zero_testBit i))

theorem outside_bit {K L : Nat} (h : inside K L = true) {i : Nat} (hi : L.testBit i = false) : K.testBit i = false := by
  cases hk : K.testBit i with
  | false => rfl
  | true => rw [inside_bit h hk] at hi; exact absurd hi (by decide)

theorem Part.bit_range (p : Part) : 600 ≤ p.bit ∧ p.bit ≠ 604 ∧ p.bit ≠ 605 := by cases p <;> decide

theorem Part.bit_inj {p q : Part} (h : p.bit = q.bit) : p = q := by
  cases p <;> cases q <;> first | rfl | exact absurd h (by decide)

/-- What a program within the places of some fields and parts leaves as it was. -/
theorem Act.Within.frame {K : Nat} {a : Act} (ha : a.Within K) (fs : List Fld) (ps : List Part) (h : inside K (places fs ps) = true)
    (m : Mach) : Mach.Frame fs ps m (a.run m) := by
  have low : ∀ i, i < 600 → ∀ p ∈ ps, p.bit ≠ i := fun i hi p _ e => absurd (e ▸ p.bit_range.1) (by omega)
  have no : ∀ i, i = 604 ∨ i = 605 → K.testBit i = false := fun i hi => outside_bit h (places_bit fs ps i
    (fun f _ e => absurd (e ▸ f.ctorIdx_lt600) (by omega))
    (fun p _ e => by rcases hi with rfl | rfl; exact p.bit_range.2.1 e; exact p.bit_range.2.2 e))
  have part : ∀ p : Part, p ∉ ps → K.testBit p.bit = false := fun p hp => outside_bit h (places_bit fs ps p.bit
    (fun f _ e => absurd (e ▸ f.ctorIdx_lt600) (by have := p.bit_range.1; omega))
    (fun q hq e => hp (Part.bit_inj e ▸ hq)))
  refine ⟨a.run_sled m, fun f i hf => ?_, fun p hp => ?_⟩
  · refine ha.get f i m (outside_bit h (places_bit fs ps _ (fun g hg e => ?_) (low _ f.ctorIdx_lt600))) (no 604 (.inl rfl))
    exact hf (Fld.eq_of_ctorIdx e ▸ hg)
  · have b := part p hp
    cases p with
    | dram => intro x; rw [ha.dram m b (no 605 (.inr rfl))]
    | pages => intro pn; unfold Mach.page; rw [ha.pages m b (no 605 (.inr rfl))]
    | out => exact ha.out m b
    | freeCtr => exact ha.freeCtr m b
    | lines => exact ha.lines m b
    | dir => exact ha.dir m b
    | grain => exact ha.grain m b
    | keys => exact ha.keys m b
    | host => exact ha.host m b
    | bkw => exact ha.bkw m b
    | lhl => exact ha.lhl m b
    | arc => exact ha.arc m b
    | bql => exact ha.bql m b
    | snd => exact ha.snd m b
    | que => exact ha.que m b
    | fry => exact ha.fry m b
    | fw => exact ha.fw m b
    | chan => exact ha.chan m b
    | rgl => exact ha.rgl m b
    | noc => exact ha.noc m b
    | csw => exact ha.csw m b
    | pow => exact ha.pow m b

/-- A command whose meaning runs a program completes as the program's end says, within the program's places. -/
theorem completes_of {c : Instr} {s : State} {a : Act} {K : Nat} {fs : List Fld} {ps : List Part} {post : Mach → Prop}
    (e : exec c s = s.act a) (ha : a.Within K) (h : inside K (places fs ps) = true) (hp : post (a.run s.mach)) :
    Completes c s fs ps post :=
  ⟨_, e, rfl, ha.frame fs ps h s.mach, hp⟩

/-- The same when, in this state, the program comes to what a smaller one does. -/
theorem completes_as {c : Instr} {s : State} {a b : Act} {K : Nat} {fs : List Fld} {ps : List Part} {post : Mach → Prop}
    (e : exec c s = s.act a) (h' : a.run s.mach = b.run s.mach) (hb : b.Within K) (h : inside K (places fs ps) = true)
    (hp : post (b.run s.mach)) : Completes c s fs ps post :=
  ⟨_, e, rfl, h' ▸ hb.frame fs ps h s.mach, h' ▸ hp⟩

/-- A field just set reads as it was set, where the value fits. -/
theorem Mach.get_set (f : Fld) (i v : Nat) (m : Mach) (h : v < 2 ^ f.spec.width) : ((Act.set f i v).run m).get f i = v := by
  rw [Act.run_set, Mach.get_reg_self, Nat.mod_eq_of_lt h]

end Sys2Proof.Machine
end

