-- ==== Sys2Proof/Laws/Idxs.lean ====
section
/-!
SUPPORT. Which entries of a field the register file lists: a program that does not write the field leaves them as they were.
-/

namespace Sys2Proof.Machine

open Sys2Proof (SMap)

variable {α : Type}

theorem SMap.filter_ins (q : Nat × α → Bool) (k : Nat) (v : α) (h : q (k, v) = false) : ∀ m : SMap α,
    List.filter q (SMap.ins k v m) = List.filter q m
  | [] => by rw [SMap.ins, List.filter_cons, h]; rfl
  | p :: m => by
    rw [SMap.ins]
    split
    · rw [List.filter_cons, h]; rfl
    · rw [List.filter_cons, List.filter_cons, SMap.filter_ins q k v h m]

theorem SMap.filter_erase (q : Nat × α → Bool) (k : Nat) (m : SMap α) (h : ∀ p, q p = true → p.1 ≠ k) :
    List.filter q (SMap.erase m k) = List.filter q m := by
  unfold SMap.erase
  rw [List.filter_filter]
  refine List.filter_congr fun p _ => ?_
  cases hq : q p with
  | false => rfl
  | true => simpa using h p hq

theorem SMap.filter_set [DecidableEq α] (q : Nat × α → Bool) (k : Nat) (d v : α) (m : SMap α) (h : ∀ p, q p = true → p.1 ≠ k) :
    List.filter q (SMap.set m k d v) = List.filter q m := by
  have hk : q (k, v) = false := by
    cases hq : q (k, v) with
    | false => rfl
    | true => exact absurd rfl (h _ hq)
  unfold SMap.set
  split
  · exact SMap.filter_erase q k m h
  · unfold SMap.put
    rw [SMap.filter_ins q k v hk, SMap.filter_erase q k m h]

/-- A primitive on other places leaves the listed entries of a field. -/
theorem Prim.idxs_other (p : Prim) (m : Mach) (f : Fld) (h : p.bit ≠ f.ctorIdx) (hr : p.bit ≠ 604) :
    (p.apply m).idxs f = m.idxs f := by
  cases p with
  | reg g j v =>
    unfold Mach.idxs
    refine congrArg _ (SMap.filter_set _ _ _ _ _ fun p hp e => h ?_)
    have hp : p.1 % 1024 = f.ctorIdx := by simpa using hp
    rw [e, Fld.key] at hp
    have := g.ctorIdx_lt
    show g.ctorIdx = f.ctorIdx
    omega
  | resetRegs k => exact absurd rfl hr
  | _ => rfl

/-- The listed entries of a field that a program does not write. -/
theorem Act.Within.idxs {K : Nat} {a : Act} (ha : a.Within K) (f : Fld) (m : Mach) (hf : K.testBit f.ctorIdx = false)
    (hr : K.testBit 604 = false) : (a.run m).idxs f = m.idxs f := by
  refine Eq.symm (ha.keeps (fun x y => x.idxs f = y.idxs f) (fun _ => rfl) (fun _ _ _ h k => h.trans k) ?_ m)
  intro p x hp
  refine (Prim.idxs_other p x f ?_ ?_).symm
  · intro e; rw [e, hf] at hp; exact absurd hp (by decide)
  · intro e; rw [e, hr] at hp; exact absurd hp (by decide)

end Sys2Proof.Machine
end

