-- ==== Sys2Proof/Laws/WithinAgents.lean ====
section
/-!
SUPPORT. What each program of Machine/Agents.lean can change: one lemma each, over the places of Laws/Acts.lean.
-/

namespace Sys2Proof.Machine

set_option linter.unusedTactic false
set_option linter.unreachableTactic false

theorem portErr_within (k bit : Nat) : (portErr k bit).Within 0x40080000000000000000000000000000000000000000000000 := by
  unfold portErr portFld
  refine within_read fun _ => ?_
  by_cases h : k < 256
  · simp only [h, ↓reduceIte]; exact within_set rfl
  · simp only [h, ↓reduceIte]; exact within_set rfl

theorem portReply_within (w : FerryPort) (status : Nat) (bs : List Byte) : (portReply w status bs).Within 0x4000000000000000000000000000000000000000000000000000000000000000000000000000000000000000000000000000000000000000000000000000000000000000000000000000000 := by
  unfold portReply
  repeat' (first
    | with_reducible exact within_skip
    | with_reducible refine within_read fun _ => ?_
    | with_reducible refine within_all_cons ?_ ?_
    | with_reducible refine within_all_one ?_
    | with_reducible refine within_seq ?_ ?_
    | with_reducible refine within_emit ?_
    | (dsimp only)
    | split
    | rfl)

theorem forget_within (a : Agent) (lo : Nat) (n : Nat) : (forget a lo n).Within 0x80000000000000000000000000000000000000000000000000000000000000000000000000000000000000000000000000000000000000000000000000000000000000000000000000000000 := by
  unfold forget
  repeat' (first
    | with_reducible exact within_skip
    | with_reducible refine within_read fun _ => ?_
    | with_reducible refine within_all_cons ?_ ?_
    | with_reducible refine within_all_one ?_
    | with_reducible refine within_seq ?_ ?_
    | with_reducible refine within_ite ?_ ?_
    | with_reducible refine within_dir ?_
    | (dsimp only)
    | split
    | rfl)

theorem settleBurst_within (b : Burst) : (settleBurst b).Within 0x20084000000000000000000000000000000000000000000000000000000000000000000000000000000000000000000000000000040080000000000000000000000000000000000000000000000 := by
  unfold settleBurst
  repeat' (first
    | with_reducible exact within_skip
    | with_reducible refine within_read fun _ => ?_
    | with_reducible refine within_all_cons ?_ ?_
    | with_reducible refine within_all_one ?_
    | with_reducible refine within_seq ?_ ?_
    | with_reducible refine within_ite ?_ ?_
    | with_reducible refine within_when ?_
    | with_reducible refine within_fry ?_
    | with_reducible refine within_some? fun _ => ?_
    | with_reducible refine (forget_within _ _ _).mono ?_
    | with_reducible refine (portErr_within _ _).mono ?_
    | with_reducible refine (portReply_within _ _ _).mono ?_
    | (dsimp only)
    | split
    | rfl)

theorem settle_within (w : FerryPort) : (settle w).Within 0x20084000000000000000000000000000000000000000000000000000000000000000000000000000000000000000000000000000040080000000000000000000000000000000000000000000000 := by
  unfold settle
  repeat' (first
    | with_reducible exact within_skip
    | with_reducible refine within_read fun _ => ?_
    | with_reducible refine within_all_cons ?_ ?_
    | with_reducible refine within_all_one ?_
    | with_reducible refine within_seq ?_ ?_
    | with_reducible refine within_each fun _ => ?_
    | with_reducible refine (settleBurst_within _).mono ?_
    | (dsimp only)
    | split
    | rfl)

theorem settleAtomic_within (ld : Nat) (tag : Nat) : (settleAtomic ld tag).Within 0x84000000000000000000000000000000000000000000000000000000000000000000000000000000000000000000000000000000000000000000000000000000000000000000000000000000 := by
  unfold settleAtomic
  repeat' (first
    | with_reducible exact within_skip
    | with_reducible refine within_read fun _ => ?_
    | with_reducible refine within_all_cons ?_ ?_
    | with_reducible refine within_all_one ?_
    | with_reducible refine within_seq ?_ ?_
    | with_reducible refine within_ite ?_ ?_
    | with_reducible refine within_emit ?_
    | with_reducible refine within_dir ?_
    | with_reducible refine within_each fun _ => ?_
    | (dsimp only)
    | split
    | rfl)

theorem noteAnswer_within (a : Agent) (p : RemReq → Bool) (v : LineVal) (failed : Bool) : (noteAnswer a p v failed).Within 0x20084000000000000000000000000000000000000000000000000000000000000000000000000000000000000000000000000000040080000000000000000000000000000000000000000000000 := by
  unfold noteAnswer
  repeat' (first
    | with_reducible exact within_skip
    | with_reducible refine within_read fun _ => ?_
    | with_reducible refine within_all_cons ?_ ?_
    | with_reducible refine within_all_one ?_
    | with_reducible refine within_seq ?_ ?_
    | with_reducible refine within_ite ?_ ?_
    | with_reducible refine within_dir ?_
    | with_reducible refine (settle_within _).mono ?_
    | with_reducible refine (settleAtomic_within _ _).mono ?_
    | (dsimp only)
    | split
    | rfl)

end Sys2Proof.Machine
end

