-- ==== Sys2Proof/Laws/WithinEventLogs.lean ====
section
/-!
SUPPORT. What each program of Machine/EventLogs.lean can change: one lemma each, over the places of Laws/Acts.lean.
-/

namespace Sys2Proof.Machine

set_option linter.unusedTactic false
set_option linter.unreachableTactic false

theorem Act.mbox_within (owner : Nat) (f : MboxSt → MboxSt) : (Act.mbox owner f).Within 0x400000000000000000000000000000000000000000000000000000000000000000000000000000000000000000000000000000000000000000000000000000000000000000000000000000000 := by
  unfold Act.mbox
  repeat' (first
    | with_reducible exact within_skip
    | with_reducible refine within_read fun _ => ?_
    | with_reducible refine within_all_cons ?_ ?_
    | with_reducible refine within_all_one ?_
    | with_reducible refine within_seq ?_ ?_
    | with_reducible refine within_set ?_
    | with_reducible refine within_host ?_
    | (dsimp only)
    | split
    | rfl)

theorem Act.evLog_within (owner : Nat) (l : EvLog) (f : EvLogSt → EvLogSt) : (Act.evLog owner l f).Within 0x400000000000000000000000000000000000000000000000000000000000000000000000000000000000000000000000000000000000000000000000000000000000000000000000000000000 := by
  unfold Act.evLog
  repeat' (first
    | with_reducible exact within_skip
    | with_reducible refine within_read fun _ => ?_
    | with_reducible refine within_all_cons ?_ ?_
    | with_reducible refine within_all_one ?_
    | with_reducible refine within_seq ?_ ?_
    | with_reducible refine within_set ?_
    | with_reducible refine within_host ?_
    | (dsimp only)
    | split
    | rfl)

theorem msixSend_within (owner : Nat) (vec : Nat) : (msixSend owner vec).Within 0x404000000000000000000000000000000000000000000000000000000000000000000000000000000000000000000000000000000000000000000000000000000000000000000000000000000 := by
  unfold msixSend
  repeat' (first
    | with_reducible exact within_skip
    | with_reducible refine within_read fun _ => ?_
    | with_reducible refine within_all_cons ?_ ?_
    | with_reducible refine within_all_one ?_
    | with_reducible refine within_seq ?_ ?_
    | with_reducible refine within_ite ?_ ?_
    | with_reducible refine within_emit ?_
    | with_reducible refine within_host ?_
    | (dsimp only)
    | split
    | rfl)

theorem evAdd_within (owner : Nat) (l : EvLog) (k : EvKind) (fields : List Nat) : (evAdd owner l k fields).Within 0x404000000000000000000000000000000000000000000000000000000000000000000000000000000000000000000000000000000000000000100000000000000000000000000000000000000 := by
  unfold evAdd
  repeat' (first
    | with_reducible exact within_skip
    | with_reducible refine within_read fun _ => ?_
    | with_reducible refine within_all_cons ?_ ?_
    | with_reducible refine within_all_one ?_
    | with_reducible refine within_seq ?_ ?_
    | with_reducible refine within_ite ?_ ?_
    | with_reducible refine within_when ?_
    | with_reducible refine within_inc ?_
    | with_reducible refine within_host ?_
    | with_reducible refine (msixSend_within _ _).mono ?_
    | with_reducible refine (Act.evLog_within _ _ _).mono ?_
    | (dsimp only)
    | split
    | rfl)

theorem evViewers_within (n : Nat) (l : EvLog) (k : EvKind) (fields : List Nat) : (evViewers n l k fields).Within 0x404000000000000000000000000000000000000000000000000000000000000000000000000000000000000000000000000000000000000000100000000000000000000000000000000000000 := by
  unfold evViewers
  repeat' (first
    | with_reducible exact within_skip
    | with_reducible refine within_read fun _ => ?_
    | with_reducible refine within_all_cons ?_ ?_
    | with_reducible refine within_all_one ?_
    | with_reducible refine within_seq ?_ ?_
    | with_reducible refine within_each fun _ => ?_
    | with_reducible refine (evAdd_within _ _ _ _).mono ?_
    | (dsimp only)
    | split
    | rfl)

theorem mediaEvent_within (n : Nat) (line : Nat) (c : PoisonCause) : (mediaEvent n line c).Within 0x404000000000000000000000000000000000000000000000000000000000000000000000000000000000000000000000000000000000000000100000000000000000000000000000000000000 := by
  unfold mediaEvent
  repeat' (first
    | with_reducible exact within_skip
    | with_reducible refine within_read fun _ => ?_
    | with_reducible refine within_all_cons ?_ ?_
    | with_reducible refine within_all_one ?_
    | with_reducible refine within_seq ?_ ?_
    | with_reducible refine within_each fun _ => ?_
    | with_reducible refine (evAdd_within _ _ _ _).mono ?_
    | (dsimp only)
    | split
    | rfl)

theorem sensorEvent_within (s : Nat) (old : Nat) (new : Nat) : (sensorEvent s old new).Within 0x4000000000000000000000000000000000000000000000000000000000000000000000000000000000000000000000000000000000000000000000000000000000000000000000000000000 := by
  unfold sensorEvent
  repeat' (first
    | with_reducible exact within_skip
    | with_reducible refine within_read fun _ => ?_
    | with_reducible refine within_all_cons ?_ ?_
    | with_reducible refine within_all_one ?_
    | with_reducible refine within_seq ?_ ?_
    | with_reducible refine within_when ?_
    | with_reducible refine within_emit ?_
    | (dsimp only)
    | split
    | rfl)

end Sys2Proof.Machine
end

