-- ==== Sys2Proof/Laws/WithinLighthouse.lean ====
section
/-!
SUPPORT. What each program of Machine/Lighthouse.lean can change: one lemma each, over the places of Laws/Acts.lean.
-/

namespace Sys2Proof.Machine

set_option linter.unusedTactic false
set_option linter.unreachableTactic false

theorem lhAppend_within (r : LhRec) : (lhAppend r).Within 0x1000000000000000000000000000000000000000000000000003000000000000000000000000000000000000000000000000000000000000000000000000000000000000000000000000000000 := by
  unfold lhAppend
  repeat' (first
    | with_reducible exact within_skip
    | with_reducible refine within_read fun _ => ?_
    | with_reducible refine within_all_cons ?_ ?_
    | with_reducible refine within_all_one ?_
    | with_reducible refine within_seq ?_ ?_
    | with_reducible refine within_when ?_
    | with_reducible refine within_set ?_
    | with_reducible refine within_lhl ?_
    | (dsimp only)
    | split
    | rfl)

theorem lhTake_within (e : LhEvent) : (lhTake e).Within 0x1000000000000000000000000000000000000000000000000013000000000000000000000000000000000000000000000000000000000000000000000000000000000000000000000000000000 := by
  unfold lhTake
  repeat' (first
    | with_reducible exact within_skip
    | with_reducible refine within_read fun _ => ?_
    | with_reducible refine within_all_cons ?_ ?_
    | with_reducible refine within_all_one ?_
    | with_reducible refine within_seq ?_ ?_
    | with_reducible refine within_ite ?_ ?_
    | with_reducible refine within_sat ?_
    | with_reducible refine within_lhl ?_
    | with_reducible refine (lhAppend_within _).mono ?_
    | (dsimp only)
    | split
    | rfl)

theorem lhEvent_within (e : LhEvent) : (lhEvent e).Within 0x1000000000000000000000000000000000000000000000000013000000000000000000000000000000000000000000000000000000000000000000000000000000000000000000000000000000 := by
  unfold lhEvent
  repeat' (first
    | with_reducible exact within_skip
    | with_reducible refine within_read fun _ => ?_
    | with_reducible refine within_all_cons ?_ ?_
    | with_reducible refine within_all_one ?_
    | with_reducible refine within_seq ?_ ?_
    | with_reducible refine within_ite ?_ ?_
    | with_reducible refine within_lhl ?_
    | with_reducible refine (lhTake_within _).mono ?_
    | (dsimp only)
    | split
    | rfl)

theorem lhLog_within (source : Nat) (code : Nat) (key : Nat) (data : Nat) (forced : Bool) : (lhLog source code key data forced).Within 0x1000000000000000000000000000000000000000000000000013000000000000000000000000000000000000000000000000000000000000000000000000000000000000000000000000000000 := by
  unfold lhLog
  repeat' (first
    | with_reducible exact within_skip
    | with_reducible refine within_read fun _ => ?_
    | with_reducible refine within_all_cons ?_ ?_
    | with_reducible refine within_all_one ?_
    | with_reducible refine within_seq ?_ ?_
    | with_reducible refine (lhEvent_within _).mono ?_
    | (dsimp only)
    | split
    | rfl)

theorem logRecord_within (source : Nat) (code : Nat) (key : Nat) (data : Nat) (forced : Bool) : (logRecord source code key data forced).Within 0x1000000000000000000000000000000000000000000000000013000000000000000000000000000000000000000000000000000000000000000000000000000000000000000000000000000000 := by
  unfold logRecord
  repeat' (first
    | with_reducible exact within_skip
    | with_reducible refine within_read fun _ => ?_
    | with_reducible refine within_all_cons ?_ ?_
    | with_reducible refine within_all_one ?_
    | with_reducible refine within_seq ?_ ?_
    | with_reducible refine (lhLog_within _ _ _ _ _).mono ?_
    | (dsimp only)
    | split
    | rfl)

theorem logClear_within (s : Session) (kind : Nat) (index : Nat) : (logClear s kind index).Within 0x1004000000000000000000000000000000000000000000000017000000000000000000000000000000000000000000000000000000000000000000000000000000001000000000000000000000 := by
  unfold logClear
  repeat' (first
    | with_reducible exact within_skip
    | with_reducible refine within_read fun _ => ?_
    | with_reducible refine within_all_cons ?_ ?_
    | with_reducible refine within_all_one ?_
    | with_reducible refine within_seq ?_ ?_
    | with_reducible refine within_ite ?_ ?_
    | with_reducible refine within_set ?_
    | with_reducible refine within_emit ?_
    | with_reducible refine within_inc ?_
    | with_reducible refine within_lhl ?_
    | with_reducible refine (lhLog_within _ _ _ _ _).mono ?_
    | with_reducible refine (lhAppend_within _).mono ?_
    | (dsimp only)
    | split
    | rfl)

theorem logClearComplete_within  : logClearComplete.Within 0x100400000000000000000000000000000000000000000000001f000000000000000000000000000000000000000000000000000000000000000000000000000000000000000000000000000000 := by
  unfold logClearComplete
  repeat' (first
    | with_reducible exact within_skip
    | with_reducible refine within_read fun _ => ?_
    | with_reducible refine within_all_cons ?_ ?_
    | with_reducible refine within_all_one ?_
    | with_reducible refine within_seq ?_ ?_
    | with_reducible refine within_ite ?_ ?_
    | with_reducible refine within_set ?_
    | with_reducible refine within_emit ?_
    | with_reducible refine within_sat ?_
    | with_reducible refine within_lhl ?_
    | with_reducible refine within_each fun _ => ?_
    | with_reducible refine within_some? fun _ => ?_
    | with_reducible refine (lhTake_within _).mono ?_
    | (dsimp only)
    | split
    | rfl)

end Sys2Proof.Machine
end

