-- ==== Sys2Proof/Laws/WithinBreakwater.lean ====
section
/-!
SUPPORT. What each program of Machine/Breakwater.lean can change: one lemma each, over the places of Laws/Acts.lean.
-/

namespace Sys2Proof.Machine

set_option linter.unusedTactic false
set_option linter.unreachableTactic false

theorem alertUpdate_within  : alertUpdate.Within 0x804000000000000000000000000000000000000000000000000000000000000000000000000000000000000000000000000000000000000000000000000000000000000000000000000000000 := by
  unfold alertUpdate
  repeat' (first
    | with_reducible exact within_skip
    | with_reducible refine within_read fun _ => ?_
    | with_reducible refine within_all_cons ?_ ?_
    | with_reducible refine within_all_one ?_
    | with_reducible refine within_seq ?_ ?_
    | with_reducible refine within_when ?_
    | with_reducible refine within_emit ?_
    | with_reducible refine within_bkw ?_
    | (dsimp only)
    | split
    | rfl)

theorem faultUpdate_within  : faultUpdate.Within 0x804000000000000000000000000000000000000000000000000000000800000000000000000000000000000000000000000000000000000000000000000000000000000000000000000000000 := by
  unfold faultUpdate
  repeat' (first
    | with_reducible exact within_skip
    | with_reducible refine within_read fun _ => ?_
    | with_reducible refine within_all_cons ?_ ?_
    | with_reducible refine within_all_one ?_
    | with_reducible refine within_seq ?_ ?_
    | with_reducible refine within_when ?_
    | with_reducible refine within_set ?_
    | with_reducible refine within_emit ?_
    | with_reducible refine within_bkw ?_
    | (dsimp only)
    | split
    | rfl)

theorem forward_within (id : Nat) (sev : Nat) (key : Nat) (data : Nat) (code : Nat) : (forward id sev key data code).Within 0x404000000000000000000000000000000000000000000000000000000000000000000000000000000000000000000000000000000000000000100000000000000000000000000000000000000 := by
  unfold forward
  repeat' (first
    | with_reducible exact within_skip
    | with_reducible refine within_read fun _ => ?_
    | with_reducible refine within_all_cons ?_ ?_
    | with_reducible refine within_all_one ?_
    | with_reducible refine within_seq ?_ ?_
    | with_reducible refine within_ite ?_ ?_
    | with_reducible refine within_when ?_
    | with_reducible refine within_each fun _ => ?_
    | with_reducible refine (evAdd_within _ _ _ _).mono ?_
    | (dsimp only)
    | split
    | rfl)

theorem answerAll_within  : answerAll.Within 0x44000000000000000000000000000000000000000000000000000000000000000000000000000000000000000000000000000000000000000000000000000000000000000000000000000000 := by
  unfold answerAll
  repeat' (first
    | with_reducible exact within_skip
    | with_reducible refine within_read fun _ => ?_
    | with_reducible refine within_all_cons ?_ ?_
    | with_reducible refine within_all_one ?_
    | with_reducible refine within_seq ?_ ?_
    | with_reducible refine within_emit ?_
    | with_reducible refine within_lines ?_
    | with_reducible refine within_each fun _ => ?_
    | (dsimp only)
    | split
    | rfl)

theorem goFatal_within (id : Nat) (key : Nat) (data : Nat) : (goFatal id key data).Within 0xc44000000000000000000000000000000000000000000000000000204800000000000000000000000000000000000000000000000000000000100000000000000000000000000000000000000 := by
  unfold goFatal
  repeat' (first
    | with_reducible exact within_skip
    | with_reducible refine within_read fun _ => ?_
    | with_reducible refine within_all_cons ?_ ?_
    | with_reducible refine within_all_one ?_
    | with_reducible refine within_seq ?_ ?_
    | with_reducible refine within_when ?_
    | with_reducible refine within_set ?_
    | with_reducible refine within_bkw ?_
    | with_reducible refine (faultUpdate_within).mono ?_
    | with_reducible refine (answerAll_within).mono ?_
    | with_reducible refine (forward_within _ _ _ _ _).mono ?_
    | (dsimp only)
    | split
    | rfl)

theorem takeAction_within (id : Nat) (action : Nat) (key : Nat) (data : Nat) : (takeAction id action key data).Within 0xc44000000000000000000000000000000000000000000000000000204800800000000000000000000000000000000000000000000000000000100000000000000000000000000000000000000 := by
  unfold takeAction
  repeat' (first
    | with_reducible exact within_skip
    | with_reducible refine within_read fun _ => ?_
    | with_reducible refine within_all_cons ?_ ?_
    | with_reducible refine within_all_one ?_
    | with_reducible refine within_seq ?_ ?_
    | with_reducible refine within_when ?_
    | with_reducible refine within_set ?_
    | with_reducible refine within_bkw ?_
    | with_reducible refine within_some? fun _ => ?_
    | with_reducible refine (goFatal_within _ _ _).mono ?_
    | (dsimp only)
    | split
    | rfl)

theorem react_within (id : Nat) (key : Nat) (data : Nat) (isolatedBefore : Bool) : (react id key data isolatedBefore).Within 0x1c4400000000000000000000000000000000000000000000001300e204800800000000000000000000000000000000000000000000000000000100000000000000000000000000000000000000 := by
  unfold react
  repeat' (first
    | with_reducible exact within_skip
    | with_reducible refine within_read fun _ => ?_
    | with_reducible refine within_all_cons ?_ ?_
    | with_reducible refine within_all_one ?_
    | with_reducible refine within_seq ?_ ?_
    | with_reducible refine within_ite ?_ ?_
    | with_reducible refine within_set ?_
    | with_reducible refine within_bkw ?_
    | with_reducible refine within_free ?_ fun _ => ?_
    | with_reducible refine (takeAction_within _ _ _ _).mono ?_
    | with_reducible refine (lhLog_within _ _ _ _ _).mono ?_
    | (dsimp only)
    | split
    | rfl)

theorem isolate_within (id : Nat) : (isolate id).Within 0x1800000000000000000000000000000000000000000000000013000000000000000000000000000000000000000000000000000000000000000000000000000000000000000000000000000000 := by
  unfold isolate
  repeat' (first
    | with_reducible exact within_skip
    | with_reducible refine within_read fun _ => ?_
    | with_reducible refine within_all_cons ?_ ?_
    | with_reducible refine within_all_one ?_
    | with_reducible refine within_seq ?_ ?_
    | with_reducible refine within_when ?_
    | with_reducible refine within_bkw ?_
    | with_reducible refine (lhLog_within _ _ _ _ _).mono ?_
    | (dsimp only)
    | split
    | rfl)

theorem returned_within (key : Nat × Nat) : (returned key).Within 0x1800000000000000000000000000000000000000000000000013000000000000000000000000000000000000000000000000000000000000000000000000000000000000000000000000000000 := by
  unfold returned
  repeat' (first
    | with_reducible exact within_skip
    | with_reducible refine within_read fun _ => ?_
    | with_reducible refine within_all_cons ?_ ?_
    | with_reducible refine within_all_one ?_
    | with_reducible refine within_seq ?_ ?_
    | with_reducible refine within_bkw ?_
    | with_reducible refine within_each fun _ => ?_
    | with_reducible refine (lhLog_within _ _ _ _ _).mono ?_
    | (dsimp only)
    | split
    | rfl)

theorem raise_within (id : Nat) (key : Nat) (data : Nat) : (raise id key data).Within 0x1c44000000000000000000000000000000000000000000000013e0ea04c00800000000000000000000000000000000000000000000000000000100000000000000000000000000000000000000 := by
  unfold raise
  repeat' (first
    | with_reducible exact within_skip
    | with_reducible refine within_read fun _ => ?_
    | with_reducible refine within_all_cons ?_ ?_
    | with_reducible refine within_all_one ?_
    | with_reducible refine within_seq ?_ ?_
    | with_reducible refine within_when ?_
    | with_reducible refine within_set ?_
    | with_reducible refine within_inc ?_
    | with_reducible refine within_wideBit ?_
    | with_reducible refine within_bkw ?_
    | with_reducible refine (lhLog_within _ _ _ _ _).mono ?_
    | with_reducible refine (faultUpdate_within).mono ?_
    | with_reducible refine (alertUpdate_within).mono ?_
    | with_reducible refine (forward_within _ _ _ _ _).mono ?_
    | with_reducible refine (isolate_within _).mono ?_
    | with_reducible refine (react_within _ _ _ _).mono ?_
    | with_reducible refine (goFatal_within _ _ _).mono ?_
    | (dsimp only)
    | split
    | rfl)

theorem raiseIslet_within (home : Nat) (cause : Nat) (key : Nat) : (raiseIslet home cause key).Within 0x1c44000000000000000000000000000000000000000000000013e0ea04c00800000000000000000000000000000000000000000000000000000100000000000000000000000000000000000000 := by
  unfold raiseIslet
  repeat' (first
    | with_reducible exact within_skip
    | with_reducible refine within_read fun _ => ?_
    | with_reducible refine within_all_cons ?_ ?_
    | with_reducible refine within_all_one ?_
    | with_reducible refine within_seq ?_ ?_
    | with_reducible refine (raise_within _ _ _).mono ?_
    | (dsimp only)
    | split
    | rfl)

end Sys2Proof.Machine
end

