-- ==== Sys2Proof/Laws/WithinCounting.lean ====
section
/-!
SUPPORT. What each program of Machine/Counting.lean can change: one lemma each, over the places of Laws/Acts.lean.
-/

namespace Sys2Proof.Machine

set_option linter.unusedTactic false
set_option linter.unreachableTactic false

theorem bumpSums_within (k : Nat) (n : Nat) : (bumpSums k n).Within 0x2000000000000000000000000000000000000000000000000000000000000000000000000000000000000000000000000000000000000 := by
  unfold bumpSums
  repeat' (first
    | with_reducible exact within_skip
    | with_reducible refine within_read fun _ => ?_
    | with_reducible refine within_all_cons ?_ ?_
    | with_reducible refine within_all_one ?_
    | with_reducible refine within_seq ?_ ?_
    | with_reducible refine within_set ?_
    | with_reducible refine within_each fun _ => ?_
    | (dsimp only)
    | split
    | rfl)

theorem bumpWord_within (k : Nat) (n : Nat) : (bumpWord k n).Within 0x2800000000000000000000000000000000000000000000000000000000000000000000000000000000000000000000000000000000000 := by
  unfold bumpWord
  repeat' (first
    | with_reducible exact within_skip
    | with_reducible refine within_read fun _ => ?_
    | with_reducible refine within_all_cons ?_ ?_
    | with_reducible refine within_all_one ?_
    | with_reducible refine within_seq ?_ ?_
    | with_reducible refine within_set ?_
    | with_reducible refine (bumpSums_within _ _).mono ?_
    | (dsimp only)
    | split
    | rfl)

theorem bump_within (k : Nat) (n : Nat) : (bump k n).Within 0x2800000000000000000000000000000000000000000000000000000000000000000000000000000000000000000000000000000000000 := by
  unfold bump
  repeat' (first
    | with_reducible exact within_skip
    | with_reducible refine within_read fun _ => ?_
    | with_reducible refine within_all_cons ?_ ?_
    | with_reducible refine within_all_one ?_
    | with_reducible refine within_seq ?_ ?_
    | with_reducible refine within_when ?_
    | with_reducible refine (bumpWord_within _ _).mono ?_
    | (dsimp only)
    | split
    | rfl)

theorem event_within (a : Att) (code : Nat) (arg : Nat) (n : Nat) : (event a code arg n).Within 0x2800000000000000000000000000000000000000000000000000000000000000000000000000000000000000000000000000000000000 := by
  unfold event
  repeat' (first
    | with_reducible exact within_skip
    | with_reducible refine within_read fun _ => ?_
    | with_reducible refine within_all_cons ?_ ?_
    | with_reducible refine within_all_one ?_
    | with_reducible refine within_seq ?_ ?_
    | with_reducible refine within_when ?_
    | with_reducible refine within_each fun _ => ?_
    | with_reducible refine (bump_within _ _).mono ?_
    | (dsimp only)
    | split
    | rfl)

theorem charge_within (c : Nat) (master : Nat) (lines : Nat) (write : Bool) : (charge c master lines write).Within 0x100000000000000000000000000000000000000000000002800000000000000000000000000000000800000000000000000000000000000000000000000000000000000000000000000000000000 := by
  unfold charge
  repeat' (first
    | with_reducible exact within_skip
    | with_reducible refine within_read fun _ => ?_
    | with_reducible refine within_all_cons ?_ ?_
    | with_reducible refine within_all_one ?_
    | with_reducible refine within_seq ?_ ?_
    | with_reducible refine within_ite ?_ ?_
    | with_reducible refine within_when ?_
    | with_reducible refine within_inc ?_
    | with_reducible refine within_rgl ?_
    | with_reducible refine (event_within _ _ _ _).mono ?_
    | (dsimp only)
    | split
    | rfl)

theorem chargeExtent_within (ga : Nat) (plots : Nat) (master : Nat) (write : Bool) : (chargeExtent ga plots master write).Within 0x100000000000000000000000000000000000000000000002800000000000000000000000000000000800000000000000000000000000000000000000000000000000000000000000000000000000 := by
  unfold chargeExtent
  repeat' (first
    | with_reducible exact within_skip
    | with_reducible refine within_read fun _ => ?_
    | with_reducible refine within_all_cons ?_ ?_
    | with_reducible refine within_all_one ?_
    | with_reducible refine within_seq ?_ ?_
    | with_reducible refine (charge_within _ _ _ _).mono ?_
    | (dsimp only)
    | split
    | rfl)

theorem eventAt_within (h : Nat) (code : Nat) (arg : Nat) (n : Nat) : (eventAt h code arg n).Within 0x2800000000000000000000000000000000000000000000000000000000000000000000000000000000000000000000000000000000000 := by
  unfold eventAt
  repeat' (first
    | with_reducible exact within_skip
    | with_reducible refine within_read fun _ => ?_
    | with_reducible refine within_all_cons ?_ ?_
    | with_reducible refine within_all_one ?_
    | with_reducible refine within_seq ?_ ?_
    | with_reducible refine (event_within _ _ _ _).mono ?_
    | (dsimp only)
    | split
    | rfl)

theorem stage_within (s : Nat) (r : SndRec) : (stage s r).Within 0x8000000000000000000000000000000000000000001800000000000000000000000000000000000000000000000000000000000000000000000000000000000000000000000000000000000000 := by
  unfold stage
  repeat' (first
    | with_reducible exact within_skip
    | with_reducible refine within_read fun _ => ?_
    | with_reducible refine within_all_cons ?_ ?_
    | with_reducible refine within_all_one ?_
    | with_reducible refine within_seq ?_ ?_
    | with_reducible refine within_ite ?_ ?_
    | with_reducible refine within_inc ?_
    | with_reducible refine within_snd ?_
    | (dsimp only)
    | split
    | rfl)

theorem responded_within (ld : Nat) : (responded ld).Within 0x8000000000000000000000000000000000000000002800000000000000000000000000000000000000000000000000000000000000000000000000000000000000000000000000000000000 := by
  unfold responded
  repeat' (first
    | with_reducible exact within_skip
    | with_reducible refine within_read fun _ => ?_
    | with_reducible refine within_all_cons ?_ ?_
    | with_reducible refine within_all_one ?_
    | with_reducible refine within_seq ?_ ?_
    | with_reducible refine within_free ?_ fun _ => ?_
    | with_reducible refine (event_within _ _ _ _).mono ?_
    | (dsimp only)
    | split
    | rfl)

theorem sample_within (ld : Nat) (op : Nat) (tier : Nat) (line : Nat) (atoll : Nat) (flags : Nat) (start : Nat) : (sample ld op tier line atoll flags start).Within 0x8008000000000000000000000000000000000000001802800000000000000000000000000000000000000000000000000000000000000000000000000000000000000000000000000000000000 := by
  unfold sample
  repeat' (first
    | with_reducible exact within_skip
    | with_reducible refine within_read fun _ => ?_
    | with_reducible refine within_all_cons ?_ ?_
    | with_reducible refine within_all_one ?_
    | with_reducible refine within_seq ?_ ?_
    | with_reducible refine within_when ?_
    | with_reducible refine within_snd ?_
    | with_reducible refine within_free ?_ fun _ => ?_
    | with_reducible refine within_each fun _ => ?_
    | with_reducible refine (event_within _ _ _ _).mono ?_
    | with_reducible refine (stage_within _ _).mono ?_
    | (dsimp only)
    | split
    | rfl)

theorem tagStages_within {K : Nat} (l : List Nat) (f : List (Nat × Nat) → Act) (h0 : ∀ y, (f y).Within K) (hK : inside 0x8000000000000000000000000000000000000000000000000000000000000000000000000000000000000000000000000000000000000000000000000000000000000000000000000000000 K = true) :
    (tagStages l f).Within K := by
  induction l generalizing f with
  | nil => exact h0 _
  | cons c cs ih => exact within_free (inside_bit hK rfl) fun _ => ih _ fun _ => h0 _

theorem tagOp_within (master : Nat) (kind : Nat) (addr : Nat) (atoll : Nat) (flags : Nat) (stages : List Nat) : (tagOp master kind addr atoll flags stages).Within 0x8008000000000000000000000000000000000000000000040000000000000000000000000000000000000000000000000000000000000000000000000000000000000000000000000000000000 := by
  unfold tagOp
  repeat' (first
    | with_reducible exact within_skip
    | with_reducible refine within_read fun _ => ?_
    | with_reducible refine within_all_cons ?_ ?_
    | with_reducible refine within_all_one ?_
    | with_reducible refine within_seq ?_ ?_
    | with_reducible refine within_ite ?_ ?_
    | with_reducible refine within_when ?_
    | with_reducible refine within_inc ?_
    | with_reducible refine within_snd ?_
    | with_reducible refine tagStages_within _ _  (fun _ => ?_) ?_
    | (dsimp only)
    | split
    | rfl)

end Sys2Proof.Machine
end

