-- ==== Sys2Proof/Laws/WithinGrainSpace.lean ====
section
/-!
SUPPORT. What each program of Machine/GrainSpace.lean can change: one lemma each, over the places of Laws/Acts.lean.
-/

namespace Sys2Proof.Machine

set_option linter.unusedTactic false
set_option linter.unreachableTactic false

theorem leftUpdate_within  : leftUpdate.Within 0x2000000000000000000008000000000000000000000000000000000000000000000000000000000000000000 := by
  unfold leftUpdate
  repeat' (first
    | with_reducible exact within_skip
    | with_reducible refine within_read fun _ => ?_
    | with_reducible refine within_all_cons ?_ ?_
    | with_reducible refine within_all_one ?_
    | with_reducible refine within_seq ?_ ?_
    | with_reducible refine within_when ?_
    | with_reducible refine within_set ?_
    | with_reducible refine within_each fun _ => ?_
    | (dsimp only)
    | split
    | rfl)

theorem quarEmpty_within (h : Nat) (b : Nat) : (quarEmpty h b).Within 0x1100000000000000000000000000000000000000000000000013000000000000000000000000000000000000000000000000000000000000000000000000000000000000000012000000000000 := by
  unfold quarEmpty
  repeat' (first
    | with_reducible exact within_skip
    | with_reducible refine within_read fun _ => ?_
    | with_reducible refine within_all_cons ?_ ?_
    | with_reducible refine within_all_one ?_
    | with_reducible refine within_seq ?_ ?_
    | with_reducible refine within_when ?_
    | with_reducible refine within_set ?_
    | with_reducible refine within_inc ?_
    | with_reducible refine within_grain ?_
    | with_reducible refine (lhLog_within _ _ _ _ _).mono ?_
    | (dsimp only)
    | split
    | rfl)

theorem plotField_bit (x : Nat) : Nat.testBit 0x1d44000000000000000000000000000000000000000000000013e0ea04c0080000200000000000000000000800000000000000000000000000010000000000000000000000001e000000000000 (plotField x).ctorIdx = true := by
  unfold plotField; split <;> rfl

theorem movePlots_within (h p n src dst : Nat) : (movePlots h p n src dst).Within 0x1d44000000000000000000000000000000000000000000000013e0ea04c0080000200000000000000000000800000000000000000000000000010000000000000000000000001e000000000000 := by
  unfold movePlots
  refine within_read fun _ => ?_
  dsimp only
  split
  · exact within_all_cons (within_grain rfl) (within_all_cons (within_set (plotField_bit _)) (within_all_cons (within_inc (plotField_bit _))
      (within_all_cons ((quarEmpty_within _ _).mono (by decide)) (within_all_one (leftUpdate_within.mono (by decide))))))
  · exact (raiseIslet_within _ _ _).mono (by decide)

theorem structMove_within (h : Nat) (b : Nat) : (structMove h b).Within 0x1d44000000000000000000000000000000000000000000000013e0ea04c0080000200000000000000000000800000000000000000000000000010000000000000000000000001e000000000000 := by
  unfold structMove
  repeat' (first
    | with_reducible exact within_skip
    | with_reducible refine within_read fun _ => ?_
    | with_reducible refine within_all_cons ?_ ?_
    | with_reducible refine within_all_one ?_
    | with_reducible refine within_seq ?_ ?_
    | with_reducible refine within_when ?_
    | with_reducible refine within_each fun _ => ?_
    | with_reducible refine within_some? fun _ => ?_
    | with_reducible refine (movePlots_within _ _ _ _ _).mono ?_
    | (dsimp only)
    | split
    | rfl)

theorem structLeave_within  : structLeave.Within 0x1d44000000000000000000000000000000000000000000000013e0ea04c0080000200000000000000000000800000000000000000000000000010000000000000000000000001e000000000000 := by
  unfold structLeave
  repeat' (first
    | with_reducible exact within_skip
    | with_reducible refine within_read fun _ => ?_
    | with_reducible refine within_all_cons ?_ ?_
    | with_reducible refine within_all_one ?_
    | with_reducible refine within_seq ?_ ?_
    | with_reducible refine within_when ?_
    | with_reducible refine within_each fun _ => ?_
    | with_reducible refine (structMove_within _ _).mono ?_
    | (dsimp only)
    | split
    | rfl)

theorem levelUpdate_within  : levelUpdate.Within 0x1504000000000000000000000000000000000000000000000013000000000000000000000000000000000000000000000000000000000000000100000000000000000000000000160000000000 := by
  unfold levelUpdate
  repeat' (first
    | with_reducible exact within_skip
    | with_reducible refine within_read fun _ => ?_
    | with_reducible refine within_all_cons ?_ ?_
    | with_reducible refine within_all_one ?_
    | with_reducible refine within_seq ?_ ?_
    | with_reducible refine within_ite ?_ ?_
    | with_reducible refine within_when ?_
    | with_reducible refine within_set ?_
    | with_reducible refine within_inc ?_
    | with_reducible refine within_host ?_
    | with_reducible refine within_grain ?_
    | with_reducible refine (lhLog_within _ _ _ _ _).mono ?_
    | with_reducible refine (evAdd_within _ _ _ _).mono ?_
    | (dsimp only)
    | split
    | rfl)

theorem tallyUpdate_within (h : Nat) : (tallyUpdate h).Within 0x15040000000000000000000000000000000000000000000000130000000000000000000000000000000000000000000000000000000000000001000000000000000000000000c01e0000000000 := by
  unfold tallyUpdate
  repeat' (first
    | with_reducible exact within_skip
    | with_reducible refine within_read fun _ => ?_
    | with_reducible refine within_all_cons ?_ ?_
    | with_reducible refine within_all_one ?_
    | with_reducible refine within_seq ?_ ?_
    | with_reducible refine within_when ?_
    | with_reducible refine within_set ?_
    | with_reducible refine (levelUpdate_within).mono ?_
    | (dsimp only)
    | split
    | rfl)

theorem tallyAll_within  : tallyAll.Within 0x15040000000000000000000000000000000000000000000000130000000000000000000000000000000000000000000000000000000000000001000000000000000000000000c01e0000000000 := by
  unfold tallyAll
  repeat' (first
    | with_reducible exact within_skip
    | with_reducible refine within_read fun _ => ?_
    | with_reducible refine within_all_cons ?_ ?_
    | with_reducible refine within_all_one ?_
    | with_reducible refine within_seq ?_ ?_
    | with_reducible refine within_each fun _ => ?_
    | with_reducible refine (tallyUpdate_within _).mono ?_
    | (dsimp only)
    | split
    | rfl)

theorem freeExtent_within (h : Nat) (ga : Nat) (n : Nat) : (freeExtent h ga n).Within 0x1d44000000000000000000000000000000000000000000000013e0ea04c008000020000000000000000000080000000000000000000000000001000000000000000000000000de1e0000000000 := by
  unfold freeExtent
  repeat' (first
    | with_reducible exact within_skip
    | with_reducible refine within_read fun _ => ?_
    | with_reducible refine within_all_cons ?_ ?_
    | with_reducible refine within_all_one ?_
    | with_reducible refine within_seq ?_ ?_
    | with_reducible refine within_when ?_
    | with_reducible refine (movePlots_within _ _ _ _ _).mono ?_
    | with_reducible refine (tallyUpdate_within _).mono ?_
    | (dsimp only)
    | split
    | rfl)

theorem retireExtent_within (h : Nat) (ga : Nat) (n : Nat) : (retireExtent h ga n).Within 0x100000000000000000000000000000000000000000000000000000000000000000000000000000000000000000000000000000000000000000000000000000000000000000000000000000000 := by
  unfold retireExtent
  repeat' (first
    | with_reducible exact within_skip
    | with_reducible refine within_read fun _ => ?_
    | with_reducible refine within_all_cons ?_ ?_
    | with_reducible refine within_all_one ?_
    | with_reducible refine within_seq ?_ ?_
    | with_reducible refine within_when ?_
    | with_reducible refine within_grain ?_
    | (dsimp only)
    | split
    | rfl)

theorem oldPlotsFree_within  : oldPlotsFree.Within 0x1d44000000000000000000000000000000000000000000000013e0ea04c008000020000000000000000000080000000000000000000000000001000000000000000000000000de1e0000000000 := by
  unfold oldPlotsFree
  repeat' (first
    | with_reducible exact within_skip
    | with_reducible refine within_read fun _ => ?_
    | with_reducible refine within_all_cons ?_ ?_
    | with_reducible refine within_all_one ?_
    | with_reducible refine within_seq ?_ ?_
    | with_reducible refine within_grain ?_
    | with_reducible refine within_each fun _ => ?_
    | with_reducible refine (freeExtent_within _ _ _).mono ?_
    | (dsimp only)
    | split
    | rfl)

theorem levelLeave_within (h : Nat) : (levelLeave h).Within 0x1504000000000000000000000000000000000000000000000013000000000000000000000000000000000000000000000000000000000000000100000000000000000000000080160000000000 := by
  unfold levelLeave
  repeat' (first
    | with_reducible exact within_skip
    | with_reducible refine within_read fun _ => ?_
    | with_reducible refine within_all_cons ?_ ?_
    | with_reducible refine within_all_one ?_
    | with_reducible refine within_seq ?_ ?_
    | with_reducible refine within_when ?_
    | with_reducible refine within_set ?_
    | with_reducible refine (levelUpdate_within).mono ?_
    | (dsimp only)
    | split
    | rfl)

theorem stripeTransfer_within  : stripeTransfer.Within 0x15040000000000000000000000000000000000000000000000130000000000000000000000000000000000000000000000000000000000000001000000000000000000000001e21e0000000000 := by
  unfold stripeTransfer
  repeat' (first
    | with_reducible exact within_skip
    | with_reducible refine within_read fun _ => ?_
    | with_reducible refine within_all_cons ?_ ?_
    | with_reducible refine within_all_one ?_
    | with_reducible refine within_seq ?_ ?_
    | with_reducible refine within_ite ?_ ?_
    | with_reducible refine within_when ?_
    | with_reducible refine within_set ?_
    | with_reducible refine within_inc ?_
    | with_reducible refine within_grain ?_
    | with_reducible refine (tallyUpdate_within _).mono ?_
    | (dsimp only)
    | split
    | rfl)

end Sys2Proof.Machine
end

