-- ==== Sys2Proof/Laws/WithinSealing.lean ====
section
/-!
SUPPORT. What each program of Machine/Sealing.lean can change: one lemma each, over the places of Laws/Acts.lean.
-/

namespace Sys2Proof.Machine

set_option linter.unusedTactic false
set_option linter.unreachableTactic false

theorem needBlock_within (n : Nat) (pn : Nat) (tag : Bool) : (needBlock n pn tag).Within 0x1d44000000000000000000000000000000000000000000000013e0ea04c008000020000000000000000000080000000000000000000000000001000000000000000000000000de1e0000000000 := by
  unfold needBlock
  repeat' (first
    | with_reducible exact within_skip
    | with_reducible refine within_read fun _ => ?_
    | with_reducible refine within_all_cons ?_ ?_
    | with_reducible refine within_all_one ?_
    | with_reducible refine within_seq ?_ ?_
    | with_reducible refine within_ite ?_ ?_
    | with_reducible refine within_grain ?_
    | with_reducible refine (movePlots_within _ _ _ _ _).mono ?_
    | with_reducible refine (tallyUpdate_within _).mono ?_
    | (dsimp only)
    | split
    | rfl)

theorem putPage_within (pn : Nat) (r : PageRec) (tags : List Nat) : (putPage pn r tags).Within 0x2000000000000000000000000000000000000000000000000000000000000000000000000000000000000000000000000000000000000000000000000000000000000000000000000000000 := by
  unfold putPage
  repeat' (first
    | with_reducible exact within_skip
    | with_reducible refine within_read fun _ => ?_
    | with_reducible refine within_all_cons ?_ ?_
    | with_reducible refine within_all_one ?_
    | with_reducible refine within_seq ?_ ?_
    | with_reducible refine within_page ?_
    | (dsimp only)
    | split
    | rfl)

theorem writeExtent_within (n : Nat) (pn : Nat) (ga : Nat) (r : PageRec) (nx : Bool) (ls : List LineVal) : (writeExtent n pn ga r nx ls).Within 0x1d47000000000000000000000000000000000000000002800013e0ea04c008000020000000000000000000080000000000000000000000000001000000000000000000000000de1e0000000000 := by
  unfold writeExtent
  repeat' (first
    | with_reducible exact within_skip
    | with_reducible refine within_read fun _ => ?_
    | with_reducible refine within_all_cons ?_ ?_
    | with_reducible refine within_all_one ?_
    | with_reducible refine within_seq ?_ ?_
    | with_reducible refine within_ite ?_ ?_
    | with_reducible refine within_when ?_
    | with_reducible refine within_poke ?_
    | with_reducible refine (needBlock_within _ _ _).mono ?_
    | with_reducible refine (eventAt_within _ _ _ _).mono ?_
    | with_reducible refine (putPage_within _ _ _).mono ?_
    | (dsimp only)
    | split
    | rfl)

theorem writeLine_within (n : Nat) (pn : Nat) (i : Nat) (code : Nat) (v : Line) : (writeLine n pn i code v).Within 0x1d47000000000000000000000000000000000000000002800013e0ea04c008000020000000000000000000080000000000000000000000000001000000000000000000000000de1e0000000000 := by
  unfold writeLine
  repeat' (first
    | with_reducible exact within_skip
    | with_reducible refine within_read fun _ => ?_
    | with_reducible refine within_all_cons ?_ ?_
    | with_reducible refine within_all_one ?_
    | with_reducible refine within_seq ?_ ?_
    | with_reducible refine within_ite ?_ ?_
    | with_reducible refine within_when ?_
    | with_reducible refine within_set ?_
    | with_reducible refine within_rcd ?_
    | with_reducible refine within_poke ?_
    | with_reducible refine (needBlock_within _ _ _).mono ?_
    | with_reducible refine (eventAt_within _ _ _ _).mono ?_
    | with_reducible refine (putPage_within _ _ _).mono ?_
    | (dsimp only)
    | split
    | rfl)

theorem poisonIndex_within (pn : Nat) : (poisonIndex pn).Within 0x400000000000000000000000000000000000000000000000000000000000000000000000000000000000000000000000000000000000000000000000000000000000000000000000000000000 := by
  unfold poisonIndex
  repeat' (first
    | with_reducible exact within_skip
    | with_reducible refine within_read fun _ => ?_
    | with_reducible refine within_all_cons ?_ ?_
    | with_reducible refine within_all_one ?_
    | with_reducible refine within_seq ?_ ?_
    | with_reducible refine within_ite ?_ ?_
    | with_reducible refine within_when ?_
    | with_reducible refine within_host ?_
    | (dsimp only)
    | split
    | rfl)

theorem markLines_within (n : Nat) (pn : Nat) (is : List Nat) (c : PoisonCause) : (markLines n pn is c).Within 0x407000000000000000000000000000000000000000002800000000000000000000000000000000000000000000000000000000000000000000100000000000000000000000000000000000000 := by
  unfold markLines
  repeat' (first
    | with_reducible exact within_skip
    | with_reducible refine within_read fun _ => ?_
    | with_reducible refine within_all_cons ?_ ?_
    | with_reducible refine within_all_one ?_
    | with_reducible refine within_seq ?_ ?_
    | with_reducible refine within_when ?_
    | with_reducible refine within_rcd ?_
    | with_reducible refine within_poke ?_
    | with_reducible refine within_each fun _ => ?_
    | with_reducible refine (putPage_within _ _ _).mono ?_
    | with_reducible refine (poisonIndex_within _).mono ?_
    | with_reducible refine (eventAt_within _ _ _ _).mono ?_
    | with_reducible refine (mediaEvent_within _ _ _).mono ?_
    | (dsimp only)
    | split
    | rfl)

theorem poisonLines_within (n : Nat) (pn : Nat) (is : List Nat) (c : PoisonCause) (cause : Nat) : (poisonLines n pn is c cause).Within 0x1c47000000000000000000000000000000000000000002800013e0ea04c00800000000000000000000000000000000000000000000000000000100000000000000000000000000000000000000 := by
  unfold poisonLines
  repeat' (first
    | with_reducible exact within_skip
    | with_reducible refine within_read fun _ => ?_
    | with_reducible refine within_all_cons ?_ ?_
    | with_reducible refine within_all_one ?_
    | with_reducible refine within_seq ?_ ?_
    | with_reducible refine within_each fun _ => ?_
    | with_reducible refine (markLines_within _ _ _ _).mono ?_
    | with_reducible refine (raiseIslet_within _ _ _).mono ?_
    | (dsimp only)
    | split
    | rfl)

theorem recordError_within (n : Nat) (pn : Nat) (c : PoisonCause) : (recordError n pn c).Within 0x1c46000000000000000000000000000000000000000000000013e0ea04c00800000000000000000000000000000000000000000000000000000100000000000000000000000000000000000000 := by
  unfold recordError
  repeat' (first
    | with_reducible exact within_skip
    | with_reducible refine within_read fun _ => ?_
    | with_reducible refine within_all_cons ?_ ?_
    | with_reducible refine within_all_one ?_
    | with_reducible refine within_seq ?_ ?_
    | with_reducible refine within_rcd ?_
    | with_reducible refine within_each fun _ => ?_
    | with_reducible refine (putPage_within _ _ _).mono ?_
    | with_reducible refine (poisonIndex_within _).mono ?_
    | with_reducible refine (mediaEvent_within _ _ _).mono ?_
    | with_reducible refine (raiseIslet_within _ _ _).mono ?_
    | (dsimp only)
    | split
    | rfl)

theorem epochStop_within (pn : Nat) : (epochStop pn).Within 0x1c44000000000000000000000000000000000000000000000013e0ea04c00800000000000000000000000000000000000000000000000000000100000000000002000000000000000000000000 := by
  unfold epochStop
  repeat' (first
    | with_reducible exact within_skip
    | with_reducible refine within_read fun _ => ?_
    | with_reducible refine within_all_cons ?_ ?_
    | with_reducible refine within_all_one ?_
    | with_reducible refine within_seq ?_ ?_
    | with_reducible refine within_inc ?_
    | with_reducible refine (raiseIslet_within _ _ _).mono ?_
    | (dsimp only)
    | split
    | rfl)

theorem writeRecord_within (n : Nat) (pn : Nat) : (writeRecord n pn).Within 0x1d47000000000000000000000000000000000000000000000013e0ea04c008000020000000000000000000080000000000000000000000000001000000000000000000000000de1e0000000000 := by
  unfold writeRecord
  repeat' (first
    | with_reducible exact within_skip
    | with_reducible refine within_read fun _ => ?_
    | with_reducible refine within_all_cons ?_ ?_
    | with_reducible refine within_all_one ?_
    | with_reducible refine within_seq ?_ ?_
    | with_reducible refine within_rcd ?_
    | with_reducible refine within_poke ?_
    | with_reducible refine within_page ?_
    | with_reducible refine (needBlock_within _ _ _).mono ?_
    | (dsimp only)
    | split
    | rfl)

end Sys2Proof.Machine
end

