-- ==== Sys2Proof/Laws/WithinDredger.lean ====
section
/-!
SUPPORT. What each program of Machine/Dredger.lean can change: one lemma each, over the places of Laws/Acts.lean.
-/

namespace Sys2Proof.Machine

set_option linter.unusedTactic false
set_option linter.unreachableTactic false

theorem touch_within (n : Nat) (pn : Nat) : (touch n pn).Within 0x2000000000000000000000000000000000000000000000000000000000000000000000000000000000000000000000000000000000000000000000000000000000000000000000000000000 := by
  unfold touch
  repeat' (first
    | with_reducible exact within_skip
    | with_reducible refine within_read fun _ => ?_
    | with_reducible refine within_all_cons ?_ ?_
    | with_reducible refine within_all_one ?_
    | with_reducible refine within_seq ?_ ?_
    | with_reducible refine within_rcd ?_
    | with_reducible refine within_page ?_
    | (dsimp only)
    | split
    | rfl)

theorem abandon_within (pn : Nat) : (abandon pn).Within 0x400000000000000 := by
  unfold abandon
  repeat' (first
    | with_reducible exact within_skip
    | with_reducible refine within_read fun _ => ?_
    | with_reducible refine within_all_cons ?_ ?_
    | with_reducible refine within_all_one ?_
    | with_reducible refine within_seq ?_ ?_
    | with_reducible refine within_inc ?_
    | (dsimp only)
    | split
    | rfl)

theorem moved_within (h : Nat) (pn : Nat) (kind : Nat) : (moved h pn kind).Within 0x950c0000000000000000000000000000000000000000028400130000000000000000000000000000000000000000000000000000000000000001000000000000000000000002c01e0000000000 := by
  unfold moved
  repeat' (first
    | with_reducible exact within_skip
    | with_reducible refine within_read fun _ => ?_
    | with_reducible refine within_all_cons ?_ ?_
    | with_reducible refine within_all_one ?_
    | with_reducible refine within_seq ?_ ?_
    | with_reducible refine within_inc ?_
    | with_reducible refine (tallyUpdate_within _).mono ?_
    | with_reducible refine (eventAt_within _ _ _ _).mono ?_
    | with_reducible refine (tagOp_within _ _ _ _ _ _).mono ?_
    | (dsimp only)
    | split
    | rfl)

theorem sink_within (n : Nat) (pn : Nat) : (sink n pn).Within 0x109d4f000000000000000000000000000000000000000002840013e0ea04c008000020000000000008000000080000000000000000000000000001000000000000020000000106de1e0000000000 := by
  unfold sink
  repeat' (first
    | with_reducible exact within_skip
    | with_reducible refine within_read fun _ => ?_
    | with_reducible refine within_all_cons ?_ ?_
    | with_reducible refine within_all_one ?_
    | with_reducible refine within_seq ?_ ?_
    | with_reducible refine within_ite ?_ ?_
    | with_reducible refine within_inc ?_
    | with_reducible refine within_rcd ?_
    | with_reducible refine (abandon_within _).mono ?_
    | with_reducible refine (epochStop_within _).mono ?_
    | with_reducible refine (poisonLines_within _ _ _ _ _).mono ?_
    | with_reducible refine (writeExtent_within _ _ _ _ _ _).mono ?_
    | with_reducible refine (retireExtent_within _ _ _).mono ?_
    | with_reducible refine (moved_within _ _ _).mono ?_
    | with_reducible refine (movePlots_within _ _ _ _ _).mono ?_
    | with_reducible refine (chargeExtent_within _ _ _ _).mono ?_
    | (dsimp only)
    | split
    | rfl)

theorem liftInto_within (n : Nat) (pn : Nat) (p : Nat) (mg : Option (Nat × LineVal)) : (liftInto n pn p mg).Within 0x101d47000000000000000000000000000000000000000002800013e0ea04c008000020000000000008000000080000000000000000000000000001000000000000000000000000de1e0000000000 := by
  unfold liftInto
  repeat' (first
    | with_reducible exact within_skip
    | with_reducible refine within_read fun _ => ?_
    | with_reducible refine within_all_cons ?_ ?_
    | with_reducible refine within_all_one ?_
    | with_reducible refine within_seq ?_ ?_
    | with_reducible refine within_rcd ?_
    | with_reducible refine (poisonLines_within _ _ _ _ _).mono ?_
    | with_reducible refine (movePlots_within _ _ _ _ _).mono ?_
    | with_reducible refine (chargeExtent_within _ _ _ _).mono ?_
    | with_reducible refine (writeExtent_within _ _ _ _ _ _).mono ?_
    | with_reducible refine (retireExtent_within _ _ _).mono ?_
    | (dsimp only)
    | split
    | rfl)

theorem liftWait_within (pn : Nat) (why : Nat) : (liftWait pn why).Within 0x100000000000000000000000000000000000000000000000000000000000000000000000000000000000000000000000000000000000000000000000000000000000000000000000000000000 := by
  unfold liftWait
  repeat' (first
    | with_reducible exact within_skip
    | with_reducible refine within_read fun _ => ?_
    | with_reducible refine within_all_cons ?_ ?_
    | with_reducible refine within_all_one ?_
    | with_reducible refine within_seq ?_ ?_
    | with_reducible refine within_ite ?_ ?_
    | with_reducible refine within_grain ?_
    | (dsimp only)
    | split
    | rfl)

theorem lift_within (n : Nat) (pn : Nat) (cause : LiftCause) : (lift n pn cause).Within 0x109d4f000000000000000000000000000000000000000002840013e0ea04c008000020000000000008000000080000000000000000000000000001000000000000020000000606de1e0000000000 := by
  unfold lift
  repeat' (first
    | with_reducible exact within_skip
    | with_reducible refine within_read fun _ => ?_
    | with_reducible refine within_all_cons ?_ ?_
    | with_reducible refine within_all_one ?_
    | with_reducible refine within_seq ?_ ?_
    | with_reducible refine within_ite ?_ ?_
    | with_reducible refine within_when ?_
    | with_reducible refine within_inc ?_
    | with_reducible refine within_grain ?_
    | with_reducible refine (abandon_within _).mono ?_
    | with_reducible refine (epochStop_within _).mono ?_
    | with_reducible refine (liftWait_within _ _).mono ?_
    | with_reducible refine (liftInto_within _ _ _ _).mono ?_
    | with_reducible refine (moved_within _ _ _).mono ?_
    | (dsimp only)
    | split
    | rfl)

theorem trim_within (pn : Nat) : (trim pn).Within 0x9d4e000000000000000000000000000000000000000002840013e0ea04c008000020000000000000000000080000000000000000000000000001000000000000000000000002de1e0000000000 := by
  unfold trim
  repeat' (first
    | with_reducible exact within_skip
    | with_reducible refine within_read fun _ => ?_
    | with_reducible refine within_all_cons ?_ ?_
    | with_reducible refine within_all_one ?_
    | with_reducible refine within_seq ?_ ?_
    | with_reducible refine within_ite ?_ ?_
    | with_reducible refine within_when ?_
    | with_reducible refine within_rcd ?_
    | with_reducible refine (movePlots_within _ _ _ _ _).mono ?_
    | with_reducible refine (moved_within _ _ _).mono ?_
    | (dsimp only)
    | split
    | rfl)

theorem relocateTo_within (pn : Nat) (p : Nat) : (relocateTo pn p).Within 0x109d4f000000000000000000000000000000000000000002840013e0ea04c008000020000000000008000000080000000000000000000000000001000000000000000000000006de1e0000000000 := by
  unfold relocateTo
  repeat' (first
    | with_reducible exact within_skip
    | with_reducible refine within_read fun _ => ?_
    | with_reducible refine within_all_cons ?_ ?_
    | with_reducible refine within_all_one ?_
    | with_reducible refine within_seq ?_ ?_
    | with_reducible refine within_ite ?_ ?_
    | with_reducible refine within_rcd ?_
    | with_reducible refine within_poke ?_
    | with_reducible refine (abandon_within _).mono ?_
    | with_reducible refine (movePlots_within _ _ _ _ _).mono ?_
    | with_reducible refine (chargeExtent_within _ _ _ _).mono ?_
    | with_reducible refine (retireExtent_within _ _ _).mono ?_
    | with_reducible refine (moved_within _ _ _).mono ?_
    | (dsimp only)
    | split
    | rfl)

theorem moveMapAt_within (tag : Bool) (key : Nat) (h : Nat) (ch : Nat) (b : Nat) : (moveMapAt tag key h ch b).Within 0x1d45000000000000000000000000000000000000000000000013e0ea04c008000020000000000000000000080000000000000000000000000001000000000000000000000000de1e0000000000 := by
  unfold moveMapAt
  repeat' (first
    | with_reducible exact within_skip
    | with_reducible refine within_read fun _ => ?_
    | with_reducible refine within_all_cons ?_ ?_
    | with_reducible refine within_all_one ?_
    | with_reducible refine within_seq ?_ ?_
    | with_reducible refine within_ite ?_ ?_
    | with_reducible refine within_poke ?_
    | with_reducible refine within_grain ?_
    | with_reducible refine within_some? fun _ => ?_
    | with_reducible refine (movePlots_within _ _ _ _ _).mono ?_
    | with_reducible refine (tallyUpdate_within _).mono ?_
    | (dsimp only)
    | split
    | rfl)

theorem moveMapBlock_within (n : Nat) (pn : Nat) (ch : Nat) (tag : Bool) : (moveMapBlock n pn ch tag).Within 0x1d45000000000000000000000000000000000000000000000013e0ea04c008000020000000000000000000080000000000000000000000000001000000000000000000000000de1e0000000000 := by
  unfold moveMapBlock
  repeat' (first
    | with_reducible exact within_skip
    | with_reducible refine within_read fun _ => ?_
    | with_reducible refine within_all_cons ?_ ?_
    | with_reducible refine within_all_one ?_
    | with_reducible refine within_seq ?_ ?_
    | with_reducible refine within_ite ?_ ?_
    | with_reducible refine within_when ?_
    | with_reducible refine within_some? fun _ => ?_
    | with_reducible refine (moveMapAt_within _ _ _ _ _).mono ?_
    | (dsimp only)
    | split
    | rfl)

theorem relocation_within (pn : Nat) (ch : Nat) : (relocation pn ch).Within 0x109d4f000000000000000000000000000000000000000002840013e0ea04c008000020000000000008000000080000000000000000000000000001000000000000000000000006de1e0000000000 := by
  unfold relocation
  repeat' (first
    | with_reducible exact within_skip
    | with_reducible refine within_read fun _ => ?_
    | with_reducible refine within_all_cons ?_ ?_
    | with_reducible refine within_all_one ?_
    | with_reducible refine within_seq ?_ ?_
    | with_reducible refine within_ite ?_ ?_
    | with_reducible refine within_when ?_
    | with_reducible refine within_rcd ?_
    | with_reducible refine (trim_within _).mono ?_
    | with_reducible refine (abandon_within _).mono ?_
    | with_reducible refine (relocateTo_within _ _).mono ?_
    | with_reducible refine (moveMapBlock_within _ _ _ _).mono ?_
    | (dsimp only)
    | split
    | rfl)

theorem resealPage_within (n : Nat) (pn : Nat) (mg : Option (Nat × LineVal)) : (resealPage n pn mg).Within 0x101d47000000000000000000000000000000000000000002800013e0ea04c008000020000000000008000000080000000000000000000000000001000000000000010000000000de1e0000000000 := by
  unfold resealPage
  repeat' (first
    | with_reducible exact within_skip
    | with_reducible refine within_read fun _ => ?_
    | with_reducible refine within_all_cons ?_ ?_
    | with_reducible refine within_all_one ?_
    | with_reducible refine within_seq ?_ ?_
    | with_reducible refine within_ite ?_ ?_
    | with_reducible refine within_set ?_
    | with_reducible refine within_inc ?_
    | with_reducible refine within_rcd ?_
    | with_reducible refine (poisonLines_within _ _ _ _ _).mono ?_
    | with_reducible refine (chargeExtent_within _ _ _ _).mono ?_
    | with_reducible refine (writeExtent_within _ _ _ _ _ _).mono ?_
    | (dsimp only)
    | split
    | rfl)

theorem compaction_within (h : Nat) : (compaction h).Within 0x109d4f000000000000000000000000000000000000000002840013e0ea04c008000020000000000008000000080000000000000000000000000001000000000000000000000006de1e0000000000 := by
  unfold compaction
  repeat' (first
    | with_reducible exact within_skip
    | with_reducible refine within_read fun _ => ?_
    | with_reducible refine within_all_cons ?_ ?_
    | with_reducible refine within_all_one ?_
    | with_reducible refine within_seq ?_ ?_
    | with_reducible refine within_ite ?_ ?_
    | with_reducible refine within_when ?_
    | with_reducible refine within_rcd ?_
    | with_reducible refine within_each fun _ => ?_
    | with_reducible refine within_some? fun _ => ?_
    | with_reducible refine (relocateTo_within _ _).mono ?_
    | (dsimp only)
    | split
    | rfl)

theorem quarantine_within (h : Nat) (p : Nat) (n : Nat) (src : Nat) (reason : Nat) : (quarantine h p n src reason).Within 0x1d44000000000000000000000000000000000000000000000013e0ea04c008000020000000000000000000080000000000000000000000000001000000000000000000000000de1e0000000000 := by
  unfold quarantine
  repeat' (first
    | with_reducible exact within_skip
    | with_reducible refine within_read fun _ => ?_
    | with_reducible refine within_all_cons ?_ ?_
    | with_reducible refine within_all_one ?_
    | with_reducible refine within_seq ?_ ?_
    | with_reducible refine (movePlots_within _ _ _ _ _).mono ?_
    | with_reducible refine (lhLog_within _ _ _ _ _).mono ?_
    | with_reducible refine (tallyUpdate_within _).mono ?_
    | (dsimp only)
    | split
    | rfl)

theorem unquarantine_within (h : Nat) (p : Nat) (n : Nat) : (unquarantine h p n).Within 0x1d44000000000000000000000000000000000000000000000013e0ea04c008000020000000000000000000080000000000000000000000000001000000000000000000000000de1e0000000000 := by
  unfold unquarantine
  repeat' (first
    | with_reducible exact within_skip
    | with_reducible refine within_read fun _ => ?_
    | with_reducible refine within_all_cons ?_ ?_
    | with_reducible refine within_all_one ?_
    | with_reducible refine within_seq ?_ ?_
    | with_reducible refine (movePlots_within _ _ _ _ _).mono ?_
    | with_reducible refine (lhLog_within _ _ _ _ _).mono ?_
    | with_reducible refine (tallyUpdate_within _).mono ?_
    | (dsimp only)
    | split
    | rfl)

theorem sweepPlot_within (h : Nat) (p : Nat) : (sweepPlot h p).Within 0x1d47000000000000000000000000000000000000000002800013e0ea04c008000020000000000000000000080000000000000000000000000001000000000000000000000000de1e0000000000 := by
  unfold sweepPlot
  repeat' (first
    | with_reducible exact within_skip
    | with_reducible refine within_read fun _ => ?_
    | with_reducible refine within_all_cons ?_ ?_
    | with_reducible refine within_all_one ?_
    | with_reducible refine within_seq ?_ ?_
    | with_reducible refine within_ite ?_ ?_
    | with_reducible refine within_when ?_
    | with_reducible refine within_rcd ?_
    | with_reducible refine within_grain ?_
    | with_reducible refine within_each fun _ => ?_
    | with_reducible refine within_some? fun _ => ?_
    | with_reducible refine (quarantine_within _ _ _ _ _).mono ?_
    | with_reducible refine (poisonLines_within _ _ _ _ _).mono ?_
    | with_reducible refine (unquarantine_within _ _ _).mono ?_
    | (dsimp only)
    | split
    | rfl)

theorem sweepVisit_within (h : Nat) : (sweepVisit h).Within 0x1d47000000000000000000000000000000000000000002800013e0ea04c008000020000000000000000000080000000000000000000000000001000000000000000000000000df1e0000000000 := by
  unfold sweepVisit
  repeat' (first
    | with_reducible exact within_skip
    | with_reducible refine within_read fun _ => ?_
    | with_reducible refine within_all_cons ?_ ?_
    | with_reducible refine within_all_one ?_
    | with_reducible refine within_seq ?_ ?_
    | with_reducible refine within_when ?_
    | with_reducible refine within_inc ?_
    | with_reducible refine within_rcd ?_
    | with_reducible refine within_each fun _ => ?_
    | with_reducible refine (raiseIslet_within _ _ _).mono ?_
    | with_reducible refine (sweepPlot_within _ _).mono ?_
    | (dsimp only)
    | split
    | rfl)

theorem sinkCmd_within (pn : Nat) : (sinkCmd pn).Within 0x109d4f000000000000000000000000000000000000000002840013e0ea04c008000020000000000008000000080000000000000000000000000001000000000000020000000106de1e0000000000 := by
  unfold sinkCmd
  repeat' (first
    | with_reducible exact within_skip
    | with_reducible refine within_read fun _ => ?_
    | with_reducible refine within_all_cons ?_ ?_
    | with_reducible refine within_all_one ?_
    | with_reducible refine within_seq ?_ ?_
    | with_reducible refine within_when ?_
    | with_reducible refine within_rcd ?_
    | with_reducible refine within_some? fun _ => ?_
    | with_reducible refine (sink_within _ _).mono ?_
    | (dsimp only)
    | split
    | rfl)

theorem liftCmd_within (pn : Nat) (cause : LiftCause) : (liftCmd pn cause).Within 0x109d4f000000000000000000000000000000000000000002840013e0ea04c008000020000000000008000000080000000000000000000000000001000000000000020000000606de1e0000000000 := by
  unfold liftCmd
  repeat' (first
    | with_reducible exact within_skip
    | with_reducible refine within_read fun _ => ?_
    | with_reducible refine within_all_cons ?_ ?_
    | with_reducible refine within_all_one ?_
    | with_reducible refine within_seq ?_ ?_
    | with_reducible refine within_when ?_
    | with_reducible refine within_some? fun _ => ?_
    | with_reducible refine (lift_within _ _ _).mono ?_
    | (dsimp only)
    | split
    | rfl)

theorem heatLift_within (pn : Nat) : (heatLift pn).Within 0x109d4f000000000000000000000000000000000000000002840013e0ea04c008000020000000000008000000080000000000000000000000000001000000000000020000000606de1e0000000000 := by
  unfold heatLift
  repeat' (first
    | with_reducible exact within_skip
    | with_reducible refine within_read fun _ => ?_
    | with_reducible refine within_all_cons ?_ ?_
    | with_reducible refine within_all_one ?_
    | with_reducible refine within_seq ?_ ?_
    | with_reducible refine within_when ?_
    | with_reducible refine within_rcd ?_
    | with_reducible refine within_page ?_
    | with_reducible refine within_some? fun _ => ?_
    | with_reducible refine (lift_within _ _ _).mono ?_
    | (dsimp only)
    | split
    | rfl)

end Sys2Proof.Machine
end

