-- ==== Sys2Proof/Laws/WithinOffshore.lean ====
section
/-!
SUPPORT. What each program of Machine/Offshore.lean can change: one lemma each, over the places of Laws/Acts.lean.
-/

namespace Sys2Proof.Machine

set_option linter.unusedTactic false
set_option linter.unreachableTactic false

theorem Act.newId_within {K : Nat} (f : Nat → Act) (h0 : ∀ y0, (f y0).Within K) (hK : inside 0x40000000000000000000000000000000000000000000000000000000000000000000000000000000000000000000000000000000000000000000000000000000000000000000000000000000 K = true) : (Act.newId f).Within K := by
  unfold Act.newId
  repeat' (first
    | with_reducible exact within_skip
    | ((with_reducible refine inside_trans ?_ hK); rfl)
    | ((with_reducible refine inside_bit hK ?_); rfl)
    | with_reducible exact h0 _
    | with_reducible refine within_read fun _ => ?_
    | with_reducible refine within_all_cons ?_ ?_
    | with_reducible refine within_all_one ?_
    | with_reducible refine within_seq ?_ ?_
    | with_reducible refine within_lines ?_
    | (dsimp only)
    | split)

theorem send_within (r : Nat) (x : Msg) : (send r x).Within 0x4004000000000000000000000000000000000000000000000000000000000000000000000000000000000000000000000000000000000000000000000000000000000000000000000000000000 := by
  unfold send
  repeat' (first
    | with_reducible exact within_skip
    | with_reducible refine within_read fun _ => ?_
    | with_reducible refine within_all_cons ?_ ?_
    | with_reducible refine within_all_one ?_
    | with_reducible refine within_seq ?_ ?_
    | with_reducible refine within_when ?_
    | with_reducible refine within_emit ?_
    | with_reducible refine within_bql ?_
    | (dsimp only)
    | split
    | rfl)

theorem flushPage_within (pn : Nat) : (flushPage pn).Within 0x40000000000000000000000000000000000000000000000000000000000000000000000000000000000000000000000000000000000000000000000000000000000000000000000000000000 := by
  unfold flushPage
  repeat' (first
    | with_reducible exact within_skip
    | with_reducible refine within_read fun _ => ?_
    | with_reducible refine within_all_cons ?_ ?_
    | with_reducible refine within_all_one ?_
    | with_reducible refine within_seq ?_ ?_
    | with_reducible refine within_lines ?_
    | (dsimp only)
    | split
    | rfl)

theorem putImage_within (n : Nat) (pn : Nat) (r : Nat) (tried : List Nat) (kind : JobKind) (epoch : Nat) (nx : Bool) (codes : List Nat) (ls : List LineVal) (slot : Nat) : (putImage n pn r tried kind epoch nx codes ls slot).Within 0x6244000000000000000000000000000000000000000000000000000000000000000000000000000000000000000000000000000000000000000000000000000000000000000000000000000000 := by
  unfold putImage
  repeat' (first
    | with_reducible exact within_skip
    | with_reducible refine within_read fun _ => ?_
    | with_reducible refine within_all_cons ?_ ?_
    | with_reducible refine within_all_one ?_
    | with_reducible refine within_seq ?_ ?_
    | with_reducible refine within_keys ?_
    | with_reducible refine within_arc ?_
    | with_reducible refine (send_within _ _).mono ?_
    | with_reducible refine Act.newId_within _  (fun _ => ?_) ?_
    | (dsimp only)
    | split
    | rfl)

theorem startPush_within (n : Nat) (pn : Nat) : (startPush n pn).Within 0x7e46000000000000000000000000000000000000000000000013e0ea04c00800000000000000000000000000000000000000000000000000000100000000000002000000000000000000000000 := by
  unfold startPush
  repeat' (first
    | with_reducible exact within_skip
    | with_reducible refine within_read fun _ => ?_
    | with_reducible refine within_all_cons ?_ ?_
    | with_reducible refine within_all_one ?_
    | with_reducible refine within_seq ?_ ?_
    | with_reducible refine within_ite ?_ ?_
    | with_reducible refine within_rcd ?_
    | with_reducible refine (flushPage_within _).mono ?_
    | with_reducible refine (epochStop_within _).mono ?_
    | with_reducible refine (putImage_within _ _ _ _ _ _ _ _ _ _).mono ?_
    | (dsimp only)
    | split
    | rfl)

theorem release_within (peer : Nat) (ga : Nat) (isn : Nat) : (release peer ga isn).Within 0x6044000000000000000000000000000000000000000000000000000000000000000000000000000000000000100000000000000000000000000000000000000000000000000000000000000000 := by
  unfold release
  repeat' (first
    | with_reducible exact within_skip
    | with_reducible refine within_read fun _ => ?_
    | with_reducible refine within_all_cons ?_ ?_
    | with_reducible refine within_all_one ?_
    | with_reducible refine within_seq ?_ ?_
    | with_reducible refine within_when ?_
    | with_reducible refine within_set ?_
    | with_reducible refine within_arc ?_
    | with_reducible refine (send_within _ _).mono ?_
    | with_reducible refine Act.newId_within _  (fun _ => ?_) ?_
    | (dsimp only)
    | split
    | rfl)

theorem pageDone_within (pn : Nat) (res : Nat) : (pageDone pn res).Within 0x10000000000000000000000000000000000000000000000000000000000000000000000000000000000000000000000000000000000000000000000000000000000000000000000000000000000 := by
  unfold pageDone
  repeat' (first
    | with_reducible exact within_skip
    | with_reducible refine within_read fun _ => ?_
    | with_reducible refine within_all_cons ?_ ?_
    | with_reducible refine within_all_one ?_
    | with_reducible refine within_seq ?_ ?_
    | with_reducible refine within_ite ?_ ?_
    | with_reducible refine within_que ?_
    | (dsimp only)
    | split
    | rfl)

theorem abandonPush_within (pn : Nat) : (abandonPush pn).Within 0x16046000000000000000000000000000000000000000000000000000000000000000000000000000000000000100000000000000000000000000000000000000000000000000000000000000000 := by
  unfold abandonPush
  repeat' (first
    | with_reducible exact within_skip
    | with_reducible refine within_read fun _ => ?_
    | with_reducible refine within_all_cons ?_ ?_
    | with_reducible refine within_all_one ?_
    | with_reducible refine within_seq ?_ ?_
    | with_reducible refine within_rcd ?_
    | with_reducible refine within_arc ?_
    | with_reducible refine within_each fun _ => ?_
    | with_reducible refine (release_within _ _ _).mono ?_
    | with_reducible refine (pageDone_within _ _).mono ?_
    | (dsimp only)
    | split
    | rfl)

theorem getImage_within (pn : Nat) (kind : JobKind) (slot : Nat) : (getImage pn kind slot).Within 0x6044000000000000000000000000000000000000000000000000000000000000000000000000000000000000000000000000000000000000000000000000000000000000000000000000000000 := by
  unfold getImage
  repeat' (first
    | with_reducible exact within_skip
    | with_reducible refine within_read fun _ => ?_
    | with_reducible refine within_all_cons ?_ ?_
    | with_reducible refine within_all_one ?_
    | with_reducible refine within_seq ?_ ?_
    | with_reducible refine within_rcd ?_
    | with_reducible refine within_arc ?_
    | with_reducible refine (send_within _ _).mono ?_
    | with_reducible refine Act.newId_within _  (fun _ => ?_) ?_
    | (dsimp only)
    | split
    | rfl)

theorem startRecall_within (pn : Nat) : (startRecall pn).Within 0x7c46000000000000000000000000000000000000000000000013e0ea04c00800000000000000000000000000000000000000000000000000000100000000000002000000000000000000000000 := by
  unfold startRecall
  repeat' (first
    | with_reducible exact within_skip
    | with_reducible refine within_read fun _ => ?_
    | with_reducible refine within_all_cons ?_ ?_
    | with_reducible refine within_all_one ?_
    | with_reducible refine within_seq ?_ ?_
    | with_reducible refine within_ite ?_ ?_
    | with_reducible refine within_when ?_
    | with_reducible refine within_rcd ?_
    | with_reducible refine (epochStop_within _).mono ?_
    | with_reducible refine (getImage_within _ _ _).mono ?_
    | (dsimp only)
    | split
    | rfl)

end Sys2Proof.Machine
end

