-- ==== Sys2Proof/Laws/WithinLines.lean ====
section
/-!
SUPPORT. What each program of Machine/Lines.lean can change: one lemma each, over the places of Laws/Acts.lean.
-/

namespace Sys2Proof.Machine

set_option linter.unusedTactic false
set_option linter.unreachableTactic false

theorem evictFor_within (line : Nat) : (evictFor line).Within 0x40000000000000000000000000000000000000000000000000000000000000000000000000000000000000000000000000000000000000000000000000000000000000000000000000000000 := by
  unfold evictFor
  repeat' (first
    | with_reducible exact within_skip
    | with_reducible refine within_read fun _ => ?_
    | with_reducible refine within_all_cons ?_ ?_
    | with_reducible refine within_all_one ?_
    | with_reducible refine within_seq ?_ ?_
    | with_reducible refine within_when ?_
    | with_reducible refine within_set ?_
    | with_reducible refine within_lines ?_
    | with_reducible refine within_some? fun _ => ?_
    | (dsimp only)
    | split
    | rfl)

theorem place_within (n : Nat) (line : Nat) (v : LineVal) (dirty : Bool) (mask : Nat) (master : Nat) : (place n line v dirty mask master).Within 0x40000000000000000000000000000000000000000000000000000000000000000000000000000000000000000000000000000000000000000000000000000000000000000000000001000000 := by
  unfold place
  repeat' (first
    | with_reducible exact within_skip
    | with_reducible refine within_read fun _ => ?_
    | with_reducible refine within_all_cons ?_ ?_
    | with_reducible refine within_all_one ?_
    | with_reducible refine within_seq ?_ ?_
    | with_reducible refine within_when ?_
    | with_reducible refine within_inc ?_
    | with_reducible refine within_lines ?_
    | with_reducible refine (evictFor_within _).mono ?_
    | (dsimp only)
    | split
    | rfl)

theorem placeWrite_within (n : Nat) (line : Nat) (hint : Nat) (v : LineVal) (mask : Nat) (master : Nat) : (placeWrite n line hint v mask master).Within 0x40000000000000000000000000000000000000000000000000000000000000000000000000000000000000000000000000000000000000000000000000000000000000000000000001000000 := by
  unfold placeWrite
  repeat' (first
    | with_reducible exact within_skip
    | with_reducible refine within_read fun _ => ?_
    | with_reducible refine within_all_cons ?_ ?_
    | with_reducible refine within_all_one ?_
    | with_reducible refine within_seq ?_ ?_
    | with_reducible refine within_ite ?_ ?_
    | with_reducible refine within_lines ?_
    | with_reducible refine (place_within _ _ _ _ _ _).mono ?_
    | (dsimp only)
    | split
    | rfl)

theorem useLine_within (line : Nat) : (useLine line).Within 0x40000000000000000000000000000000000000000000000000000000000000000000000000000000000000000000000000000000000000000000000000000000000000000000000000000000 := by
  unfold useLine
  repeat' (first
    | with_reducible exact within_skip
    | with_reducible refine within_read fun _ => ?_
    | with_reducible refine within_all_cons ?_ ?_
    | with_reducible refine within_all_one ?_
    | with_reducible refine within_seq ?_ ?_
    | with_reducible refine within_lines ?_
    | with_reducible refine within_some? fun _ => ?_
    | (dsimp only)
    | split
    | rfl)

theorem dropLine_within (line : Nat) : (dropLine line).Within 0x40000000000000000000000000000000000000000000000000000000000000000000000000000000000000000000000000000000000000000000000000000000000000000000000000000000 := by
  unfold dropLine
  repeat' (first
    | with_reducible exact within_skip
    | with_reducible refine within_read fun _ => ?_
    | with_reducible refine within_all_cons ?_ ?_
    | with_reducible refine within_all_one ?_
    | with_reducible refine within_seq ?_ ?_
    | with_reducible refine within_ite ?_ ?_
    | with_reducible refine within_lines ?_
    | with_reducible refine within_some? fun _ => ?_
    | (dsimp only)
    | split
    | rfl)

theorem toWb_within (line : Nat) (v : LineVal) (master : Nat) : (toWb line v master).Within 0x40000000000000000000000000000000000000000000000000000000000000000000000000000000000000000000000000000000000000000000000000000000000000000000000000000000 := by
  unfold toWb
  repeat' (first
    | with_reducible exact within_skip
    | with_reducible refine within_read fun _ => ?_
    | with_reducible refine within_all_cons ?_ ?_
    | with_reducible refine within_all_one ?_
    | with_reducible refine within_seq ?_ ?_
    | with_reducible refine within_lines ?_
    | (dsimp only)
    | split
    | rfl)

theorem setDir_within (line : Nat) (e : Option DirEnt) : (setDir line e).Within 0x80000000000000000000000000000000000000000000000000000000000000000000000000000000000000000000000000000000000000000000000000000000000000000000000000000000 := by
  unfold setDir
  repeat' (first
    | with_reducible exact within_skip
    | with_reducible refine within_read fun _ => ?_
    | with_reducible refine within_all_cons ?_ ?_
    | with_reducible refine within_all_one ?_
    | with_reducible refine within_seq ?_ ?_
    | with_reducible refine within_ite ?_ ?_
    | with_reducible refine within_dir ?_
    | (dsimp only)
    | split
    | rfl)

theorem dirStats_within (line : Nat) : (dirStats line).Within 0x7c00000000000000000000000000000 := by
  unfold dirStats
  repeat' (first
    | with_reducible exact within_skip
    | with_reducible refine within_read fun _ => ?_
    | with_reducible refine within_all_cons ?_ ?_
    | with_reducible refine within_all_one ?_
    | with_reducible refine within_seq ?_ ?_
    | with_reducible refine within_set ?_
    | (dsimp only)
    | split
    | rfl)

theorem sendSnoop_within (n : Nat) (line : Nat) (txid : Nat) (hd : Holder) (kind : Nat) : (sendSnoop n line txid hd kind).Within 0x4084000000000000000000000000000000000000000000000000000000000000000000000000000000000000000000000000000000000000000000000000000000000000000000000000000000 := by
  unfold sendSnoop
  repeat' (first
    | with_reducible exact within_skip
    | with_reducible refine within_read fun _ => ?_
    | with_reducible refine within_all_cons ?_ ?_
    | with_reducible refine within_all_one ?_
    | with_reducible refine within_seq ?_ ?_
    | with_reducible refine within_ite ?_ ?_
    | with_reducible refine within_emit ?_
    | with_reducible refine within_dir ?_
    | with_reducible refine within_each fun _ => ?_
    | with_reducible refine (send_within _ _).mono ?_
    | (dsimp only)
    | split
    | rfl)

theorem answer_within (r : Req) (v : LineVal) (grant : Nat) : (answer r v grant).Within 0x2c08c000000000000000000000000000000000000001802800000000000000000000000000000000000000000000000000000000040080000000000000000000000000000000000000000000000 := by
  unfold answer
  repeat' (first
    | with_reducible exact within_skip
    | with_reducible refine within_read fun _ => ?_
    | with_reducible refine within_all_cons ?_ ?_
    | with_reducible refine within_all_one ?_
    | with_reducible refine within_seq ?_ ?_
    | with_reducible refine within_ite ?_ ?_
    | with_reducible refine within_emit ?_
    | with_reducible refine (sample_within _ _ _ _ _ _ _).mono ?_
    | with_reducible refine (send_within _ _).mono ?_
    | with_reducible refine (noteAnswer_within _ _ _ _).mono ?_
    | (dsimp only)
    | split
    | rfl)

theorem openTxn_within (t : Txn) : (openTxn t).Within 0x40000000000000000000000000000000000000000000000000000000000000000000000000000000000000000000000000000000000000000000000000000000000000000000000000000000 := by
  unfold openTxn
  repeat' (first
    | with_reducible exact within_skip
    | with_reducible refine within_read fun _ => ?_
    | with_reducible refine within_all_cons ?_ ?_
    | with_reducible refine within_all_one ?_
    | with_reducible refine within_seq ?_ ?_
    | with_reducible refine within_lines ?_
    | (dsimp only)
    | split
    | rfl)

theorem handoverTry_within  : handoverTry.Within 0x6044000000000000000000000000000000000000000000000000000000000000000000000000000000000000000000000000000000000000000000000000000000000000000000000000000000 := by
  unfold handoverTry
  repeat' (first
    | with_reducible exact within_skip
    | with_reducible refine within_read fun _ => ?_
    | with_reducible refine within_all_cons ?_ ?_
    | with_reducible refine within_all_one ?_
    | with_reducible refine within_seq ?_ ?_
    | with_reducible refine within_ite ?_ ?_
    | with_reducible refine within_arc ?_
    | with_reducible refine within_each fun _ => ?_
    | with_reducible refine (send_within _ _).mono ?_
    | with_reducible refine Act.newId_within _  (fun _ => ?_) ?_
    | (dsimp only)
    | split
    | rfl)

theorem closeTxn_within (line : Nat) : (closeTxn line).Within 0x6044000000000000000000000000000000000000000000000000000000000000000000000000000000000000000000000000000000000000000000000007c00000000000000000000000000000 := by
  unfold closeTxn
  repeat' (first
    | with_reducible exact within_skip
    | with_reducible refine within_read fun _ => ?_
    | with_reducible refine within_all_cons ?_ ?_
    | with_reducible refine within_all_one ?_
    | with_reducible refine within_seq ?_ ?_
    | with_reducible refine within_lines ?_
    | with_reducible refine (dirStats_within _).mono ?_
    | with_reducible refine (handoverTry_within).mono ?_
    | (dsimp only)
    | split
    | rfl)

theorem wait_within (r : Req) (why : WaitWhy) : (wait r why).Within 0x40000000000000000000000000000000000000000002800000000000000000000000000000000000000000000000000000000000000000000000000007c00000000000000000000000000000 := by
  unfold wait
  repeat' (first
    | with_reducible exact within_skip
    | with_reducible refine within_read fun _ => ?_
    | with_reducible refine within_all_cons ?_ ?_
    | with_reducible refine within_all_one ?_
    | with_reducible refine within_seq ?_ ?_
    | with_reducible refine within_when ?_
    | with_reducible refine within_lines ?_
    | with_reducible refine (dirStats_within _).mono ?_
    | with_reducible refine (eventAt_within _ _ _ _).mono ?_
    | (dsimp only)
    | split
    | rfl)

theorem mirrorDirty_within (n : Nat) (pn : Nat) : (mirrorDirty n pn).Within 0x2000000000000000000000000000000000000000000000000000000000000000000000000000000080000000000000000000000000000000000000000000000000000000000000000000000 := by
  unfold mirrorDirty
  repeat' (first
    | with_reducible exact within_skip
    | with_reducible refine within_read fun _ => ?_
    | with_reducible refine within_all_cons ?_ ?_
    | with_reducible refine within_all_one ?_
    | with_reducible refine within_seq ?_ ?_
    | with_reducible refine within_when ?_
    | with_reducible refine within_inc ?_
    | with_reducible refine within_rcd ?_
    | (dsimp only)
    | split
    | rfl)

theorem sendMirWr_within (n : Nat) (peer : Nat) (txid : Nat) (line : Nat) (v : LineVal) (mask : Nat) : (sendMirWr n peer txid line v mask).Within 0x6004000000000000000000000000000000000000000000000000000000000000000000000000000000000000000000000000000000000000000000000000000000000000000000000000000000 := by
  unfold sendMirWr
  repeat' (first
    | with_reducible exact within_skip
    | with_reducible refine within_read fun _ => ?_
    | with_reducible refine within_all_cons ?_ ?_
    | with_reducible refine within_all_one ?_
    | with_reducible refine within_seq ?_ ?_
    | with_reducible refine within_arc ?_
    | with_reducible refine (send_within _ _).mono ?_
    | (dsimp only)
    | split
    | rfl)

theorem fill_within (n : Nat) (r : Req) (v : LineVal) : (fill n r v).Within 0x40000000000000000000000000000000000000000000000000000000000000000000000000000000000000000000000000000000000000000000000000000000000000000000000001000000 := by
  unfold fill
  repeat' (first
    | with_reducible exact within_skip
    | with_reducible refine within_read fun _ => ?_
    | with_reducible refine within_all_cons ?_ ?_
    | with_reducible refine within_all_one ?_
    | with_reducible refine within_seq ?_ ?_
    | with_reducible refine within_ite ?_ ?_
    | with_reducible refine within_when ?_
    | with_reducible refine (useLine_within _).mono ?_
    | with_reducible refine (place_within _ _ _ _ _ _).mono ?_
    | (dsimp only)
    | split
    | rfl)

theorem recordGrant_within (r : Req) (grant : Nat) : (recordGrant r grant).Within 0x80000000000000000000000000000000000000000000000000000000000000000000000000000000000000000000000000000000000000000000000000000000000000000000000000000000 := by
  unfold recordGrant
  repeat' (first
    | with_reducible exact within_skip
    | with_reducible refine within_read fun _ => ?_
    | with_reducible refine within_all_cons ?_ ?_
    | with_reducible refine within_all_one ?_
    | with_reducible refine within_seq ?_ ?_
    | with_reducible refine (setDir_within _ _).mono ?_
    | (dsimp only)
    | split
    | rfl)

theorem deliver_within (n : Nat) (r : Req) (v : LineVal) (g : Nat) : (deliver n r v g).Within 0x2e0ce000000000000000000000000000000000000001802800000000000000000000000000000000000080000000000000000000040080000000000000007c00000000000000000000001000000 := by
  unfold deliver
  repeat' (first
    | with_reducible exact within_skip
    | with_reducible refine within_read fun _ => ?_
    | with_reducible refine within_all_cons ?_ ?_
    | with_reducible refine within_all_one ?_
    | with_reducible refine within_seq ?_ ?_
    | with_reducible refine within_ite ?_ ?_
    | with_reducible refine within_when ?_
    | with_reducible refine within_some? fun _ => ?_
    | with_reducible refine (fill_within _ _ _).mono ?_
    | with_reducible refine (toWb_within _ _ _).mono ?_
    | with_reducible refine (dropLine_within _).mono ?_
    | with_reducible refine (mirrorDirty_within _ _).mono ?_
    | with_reducible refine (recordGrant_within _ _).mono ?_
    | with_reducible refine (answer_within _ _ _).mono ?_
    | with_reducible refine (openTxn_within _).mono ?_
    | with_reducible refine (closeTxn_within _).mono ?_
    | (dsimp only)
    | split
    | rfl)

theorem serve_within (n : Nat) (r : Req) (v : LineVal) : (serve n r v).Within 0x2e0ce000000000000000000000000000000000000001802800000000000000000000000000000000000080000000000000000000040080000000000000007c00000000000000000000001000000 := by
  unfold serve
  repeat' (first
    | with_reducible exact within_skip
    | with_reducible refine within_read fun _ => ?_
    | with_reducible refine within_all_cons ?_ ?_
    | with_reducible refine within_all_one ?_
    | with_reducible refine within_seq ?_ ?_
    | with_reducible refine within_arc ?_
    | with_reducible refine (deliver_within _ _ _ _).mono ?_
    | with_reducible refine (send_within _ _).mono ?_
    | with_reducible refine (openTxn_within _).mono ?_
    | with_reducible refine Act.newId_within _  (fun _ => ?_) ?_
    | (dsimp only)
    | split
    | rfl)

theorem closeWrite_within (n : Nat) (r : Req) : (closeWrite n r).Within 0x60c4000000000000000000000000000000000000000000000000000000000000000000000000000000000000000000000000000000000000000000000007c00000000000000000000000000000 := by
  unfold closeWrite
  repeat' (first
    | with_reducible exact within_skip
    | with_reducible refine within_read fun _ => ?_
    | with_reducible refine within_all_cons ?_ ?_
    | with_reducible refine within_all_one ?_
    | with_reducible refine within_seq ?_ ?_
    | with_reducible refine within_ite ?_ ?_
    | with_reducible refine (setDir_within _ _).mono ?_
    | with_reducible refine (send_within _ _).mono ?_
    | with_reducible refine (openTxn_within _).mono ?_
    | with_reducible refine (dirStats_within _).mono ?_
    | with_reducible refine (closeTxn_within _).mono ?_
    | with_reducible refine Act.newId_within _  (fun _ => ?_) ?_
    | (dsimp only)
    | split
    | rfl)

theorem applyWrite_within (n : Nat) (r : Req) (v : LineVal) (ans : LineVal) (mask : Nat) : (applyWrite n r v ans mask).Within 0x2e0ce000000000000000000000000000000000000001802800000000000000000000000000000000000080000000000000000000040080000000000000007c00000000000000000000001000000 := by
  unfold applyWrite
  repeat' (first
    | with_reducible exact within_skip
    | with_reducible refine within_read fun _ => ?_
    | with_reducible refine within_all_cons ?_ ?_
    | with_reducible refine within_all_one ?_
    | with_reducible refine within_seq ?_ ?_
    | with_reducible refine (placeWrite_within _ _ _ _ _ _).mono ?_
    | with_reducible refine (setDir_within _ _).mono ?_
    | with_reducible refine (mirrorDirty_within _ _).mono ?_
    | with_reducible refine (sendMirWr_within _ _ _ _ _ _).mono ?_
    | with_reducible refine (openTxn_within _).mono ?_
    | with_reducible refine (answer_within _ _ _).mono ?_
    | with_reducible refine (closeWrite_within _ _).mono ?_
    | with_reducible refine Act.newId_within _  (fun _ => ?_) ?_
    | (dsimp only)
    | split
    | rfl)

theorem mirrorAcked_within (n : Nat) (t : Txn) : (mirrorAcked n t).Within 0x2e0ce000000000000000000000000000000000000001802800000000000000000000000000000000000080000000000000000000040080000000000000007c00000000000000000000001000000 := by
  unfold mirrorAcked
  repeat' (first
    | with_reducible exact within_skip
    | with_reducible refine within_read fun _ => ?_
    | with_reducible refine within_all_cons ?_ ?_
    | with_reducible refine within_all_one ?_
    | with_reducible refine within_seq ?_ ?_
    | with_reducible refine within_ite ?_ ?_
    | with_reducible refine (answer_within _ _ _).mono ?_
    | with_reducible refine (closeWrite_within _ _).mono ?_
    | with_reducible refine (deliver_within _ _ _ _).mono ?_
    | (dsimp only)
    | split
    | rfl)

theorem mirrorPoison_within (n : Nat) (line : Nat) : (mirrorPoison n line).Within 0x6046000000000000000000000000000000000000000000000000000000000000000000000000000000080000000000000000000000000000000000000000000000000000000000000000000000 := by
  unfold mirrorPoison
  repeat' (first
    | with_reducible exact within_skip
    | with_reducible refine within_read fun _ => ?_
    | with_reducible refine within_all_cons ?_ ?_
    | with_reducible refine within_all_one ?_
    | with_reducible refine within_seq ?_ ?_
    | with_reducible refine within_some? fun _ => ?_
    | with_reducible refine (mirrorDirty_within _ _).mono ?_
    | with_reducible refine (sendMirWr_within _ _ _ _ _ _).mono ?_
    | with_reducible refine Act.newId_within _  (fun _ => ?_) ?_
    | (dsimp only)
    | split
    | rfl)

theorem mirrorLine_within (n : Nat) (line : Nat) (v : LineVal) (mask : Nat) : (mirrorLine n line v mask).Within 0x6046000000000000000000000000000000000000000000000000000000000000000000000000000000080000000000000000000000000000000000000000000000000000000000000000000000 := by
  unfold mirrorLine
  repeat' (first
    | with_reducible exact within_skip
    | with_reducible refine within_read fun _ => ?_
    | with_reducible refine within_all_cons ?_ ?_
    | with_reducible refine within_all_one ?_
    | with_reducible refine within_seq ?_ ?_
    | with_reducible refine within_some? fun _ => ?_
    | with_reducible refine (mirrorDirty_within _ _).mono ?_
    | with_reducible refine (sendMirWr_within _ _ _ _ _ _).mono ?_
    | with_reducible refine Act.newId_within _  (fun _ => ?_) ?_
    | (dsimp only)
    | split
    | rfl)

theorem readDram_within (r : Req) (k : AccKind) : (readDram r k).Within 0x40000000000000000000000000000000000000000000000000000000000000000000000000000000000000000000000000000000000000000000000000000000000000000000000000000000 := by
  unfold readDram
  repeat' (first
    | with_reducible exact within_skip
    | with_reducible refine within_read fun _ => ?_
    | with_reducible refine within_all_cons ?_ ?_
    | with_reducible refine within_all_one ?_
    | with_reducible refine within_seq ?_ ?_
    | with_reducible refine within_rcd ?_
    | with_reducible refine within_lines ?_
    | with_reducible refine Act.newId_within _  (fun _ => ?_) ?_
    | (dsimp only)
    | split
    | rfl)

theorem answerDead_within (r : Req) : (answerDead r).Within 0x2c08c000000000000000000000000000000000000001802800000000000000000000000000000000000000000000000000000000040080000000000000000000000000000000000000000000000 := by
  unfold answerDead
  repeat' (first
    | with_reducible exact within_skip
    | with_reducible refine within_read fun _ => ?_
    | with_reducible refine within_all_cons ?_ ?_
    | with_reducible refine within_all_one ?_
    | with_reducible refine within_seq ?_ ?_
    | with_reducible refine within_ite ?_ ?_
    | with_reducible refine (answer_within _ _ _).mono ?_
    | (dsimp only)
    | split
    | rfl)

theorem answerError_within (r : Req) : (answerError r).Within 0x2c08c000000000000000000000000000000000000001802800000000000000000000000000000000000000000000000000000000040080000000000800000000000000000000000000000000000 := by
  unfold answerError
  repeat' (first
    | with_reducible exact within_skip
    | with_reducible refine within_read fun _ => ?_
    | with_reducible refine within_all_cons ?_ ?_
    | with_reducible refine within_all_one ?_
    | with_reducible refine within_seq ?_ ?_
    | with_reducible refine within_when ?_
    | with_reducible refine within_inc ?_
    | with_reducible refine (answerDead_within _).mono ?_
    | (dsimp only)
    | split
    | rfl)

theorem fetch_within (n : Nat) (r : Req) (ph : Phase) : (fetch n r ph).Within 0x2fcce000000000000000000000000000000000000001802800013e0ea04c00800000000000000000000000000000000000000000040080000000100800007c00002000000400000400000000000 := by
  unfold fetch
  repeat' (first
    | with_reducible exact within_skip
    | with_reducible refine within_read fun _ => ?_
    | with_reducible refine within_all_cons ?_ ?_
    | with_reducible refine within_all_one ?_
    | with_reducible refine within_seq ?_ ?_
    | with_reducible refine within_ite ?_ ?_
    | with_reducible refine within_inc ?_
    | with_reducible refine within_rcd ?_
    | with_reducible refine (dropLine_within _).mono ?_
    | with_reducible refine (closeTxn_within _).mono ?_
    | with_reducible refine (answerError_within _).mono ?_
    | with_reducible refine (wait_within _ _).mono ?_
    | with_reducible refine (startRecall_within _).mono ?_
    | with_reducible refine (openTxn_within _).mono ?_
    | with_reducible refine (getImage_within _ _ _).mono ?_
    | with_reducible refine (readDram_within _ _).mono ?_
    | with_reducible refine (dirStats_within _).mono ?_
    | (dsimp only)
    | split
    | rfl)

theorem doAtom_within (n : Nat) (r : Req) (v : LineVal) : (doAtom n r v).Within 0x2e0ce000000000000000000000000000000000000001802800000000000000000000000000000000000080000000000000000000040080000000000000007c40000000000000000000001000000 := by
  unfold doAtom
  repeat' (first
    | with_reducible exact within_skip
    | with_reducible refine within_read fun _ => ?_
    | with_reducible refine within_all_cons ?_ ?_
    | with_reducible refine within_all_one ?_
    | with_reducible refine within_seq ?_ ?_
    | with_reducible refine within_inc ?_
    | with_reducible refine (applyWrite_within _ _ _ _ _).mono ?_
    | with_reducible refine (answer_within _ _ _).mono ?_
    | with_reducible refine (closeTxn_within _).mono ?_
    | (dsimp only)
    | split
    | rfl)

theorem partialHit_within (n : Nat) (r : Req) (v : LineVal) : (partialHit n r v).Within 0x2e0ce000000000000000000000000000000000000001802800000000000000000000000000000000000080000000000000000000040080000000000000007c00000000000000000400001000000 := by
  unfold partialHit
  repeat' (first
    | with_reducible exact within_skip
    | with_reducible refine within_read fun _ => ?_
    | with_reducible refine within_all_cons ?_ ?_
    | with_reducible refine within_all_one ?_
    | with_reducible refine within_seq ?_ ?_
    | with_reducible refine within_inc ?_
    | with_reducible refine (applyWrite_within _ _ _ _ _).mono ?_
    | with_reducible refine (answer_within _ _ _).mono ?_
    | with_reducible refine (closeTxn_within _).mono ?_
    | (dsimp only)
    | split
    | rfl)

theorem finish_within (n : Nat) (r : Req) : (finish n r).Within 0x2fcce000000000000000000000000000000000000001802800013e0ea04c00800000000000000000000080000000000000000000040080000000100800007c40002000000400000400001000000 := by
  unfold finish
  repeat' (first
    | with_reducible exact within_skip
    | with_reducible refine within_read fun _ => ?_
    | with_reducible refine within_all_cons ?_ ?_
    | with_reducible refine within_all_one ?_
    | with_reducible refine within_seq ?_ ?_
    | with_reducible refine within_ite ?_ ?_
    | with_reducible refine (setDir_within _ _).mono ?_
    | with_reducible refine (closeTxn_within _).mono ?_
    | with_reducible refine (applyWrite_within _ _ _ _ _).mono ?_
    | with_reducible refine (partialHit_within _ _ _).mono ?_
    | with_reducible refine (fetch_within _ _ _).mono ?_
    | with_reducible refine (place_within _ _ _ _ _ _).mono ?_
    | with_reducible refine (answer_within _ _ _).mono ?_
    | with_reducible refine (doAtom_within _ _ _).mono ?_
    | with_reducible refine (send_within _ _).mono ?_
    | with_reducible refine (openTxn_within _).mono ?_
    | with_reducible refine (serve_within _ _ _).mono ?_
    | (dsimp only)
    | split
    | rfl)

theorem advance_within (n : Nat) (r : Req) : (advance n r).Within 0x2fcce000000000000000000000000000000000000001802800013e0ea04c00800000000000000000000080000000000000000000040080000000100800007c50002000000400000400001000000 := by
  unfold advance
  repeat' (first
    | with_reducible exact within_skip
    | with_reducible refine within_read fun _ => ?_
    | with_reducible refine within_all_cons ?_ ?_
    | with_reducible refine within_all_one ?_
    | with_reducible refine within_seq ?_ ?_
    | with_reducible refine within_ite ?_ ?_
    | with_reducible refine within_inc ?_
    | with_reducible refine within_each fun _ => ?_
    | with_reducible refine within_some? fun _ => ?_
    | with_reducible refine (finish_within _ _).mono ?_
    | with_reducible refine (openTxn_within _).mono ?_
    | with_reducible refine (send_within _ _).mono ?_
    | with_reducible refine (dirStats_within _).mono ?_
    | with_reducible refine (setDir_within _ _).mono ?_
    | with_reducible refine (sendSnoop_within _ _ _ _ _).mono ?_
    | with_reducible refine (eventAt_within _ _ _ _).mono ?_
    | with_reducible refine Act.newId_within _  (fun _ => ?_) ?_
    | (dsimp only)
    | split
    | rfl)

theorem begin_within (r : Req) : (begin r).Within 0x2fcce000000000000000000000000000000000000001802800013e0ea04c00800000000000000000000080000000000000000000040080000000100800007c5c002000000400000400001000000 := by
  unfold begin
  repeat' (first
    | with_reducible exact within_skip
    | with_reducible refine within_read fun _ => ?_
    | with_reducible refine within_all_cons ?_ ?_
    | with_reducible refine within_all_one ?_
    | with_reducible refine within_seq ?_ ?_
    | with_reducible refine within_ite ?_ ?_
    | with_reducible refine within_when ?_
    | with_reducible refine within_set ?_
    | with_reducible refine within_inc ?_
    | with_reducible refine within_some? fun _ => ?_
    | with_reducible refine (answerDead_within _).mono ?_
    | with_reducible refine (wait_within _ _).mono ?_
    | with_reducible refine (answerError_within _).mono ?_
    | with_reducible refine (advance_within _ _).mono ?_
    | with_reducible refine (touch_within _ _).mono ?_
    | with_reducible refine (eventAt_within _ _ _ _).mono ?_
    | with_reducible refine Act.newId_within _  (fun _ => ?_) ?_
    | (dsimp only)
    | split
    | rfl)

theorem unwait_within (r : Req) : (unwait r).Within 0x40000000000000000000000000000000000000000000000000000000000000000000000000000000000000000000000000000000000000000000000000000000000000000000000000000000 := by
  unfold unwait
  repeat' (first
    | with_reducible exact within_skip
    | with_reducible refine within_read fun _ => ?_
    | with_reducible refine within_all_cons ?_ ?_
    | with_reducible refine within_all_one ?_
    | with_reducible refine within_seq ?_ ?_
    | with_reducible refine within_lines ?_
    | (dsimp only)
    | split
    | rfl)

theorem wakeN_within (line : Nat) : ∀ k, (wakeN line k).Within 0x2fcce000000000000000000000000000000000000001802800013e0ea04c00800000000000000000000080000000000000000000040080000000100800007c5c002000000400000400001000000
  | 0 => within_skip
  | k + 1 => by
    unfold wakeN
    repeat' (first
      | with_reducible exact within_skip
      | with_reducible exact wakeN_within line k
      | with_reducible refine within_read fun _ => ?_
      | with_reducible refine within_all_cons ?_ ?_
      | with_reducible refine within_all_one ?_
      | with_reducible refine within_seq ?_ ?_
      | with_reducible refine (unwait_within _).mono ?_
      | with_reducible refine (begin_within _).mono ?_
      | (dsimp only)
      | split
      | rfl)

theorem wake_within (line : Nat) : (wake line).Within 0x2fcce000000000000000000000000000000000000001802800013e0ea04c00800000000000000000000080000000000000000000040080000000100800007c5c002000000400000400001000000 := by
  unfold wake
  repeat' (first
    | with_reducible exact within_skip
    | with_reducible refine within_read fun _ => ?_
    | with_reducible refine within_all_cons ?_ ?_
    | with_reducible refine within_all_one ?_
    | with_reducible refine within_seq ?_ ?_
    | with_reducible refine (wakeN_within _ _).mono ?_
    | (dsimp only)
    | split
    | rfl)

theorem request_within (src : Agent) (kind : ReqOp) (line : Nat) (f : Req → Req) : (request src kind line f).Within 0x2fcce000000000000000000000000000000000000001802800013e0ea04c00800000000000000000000080000000000000000000040080000000100800007c5c002000000400000400001000000 := by
  unfold request
  repeat' (first
    | with_reducible exact within_skip
    | with_reducible refine within_read fun _ => ?_
    | with_reducible refine within_all_cons ?_ ?_
    | with_reducible refine within_all_one ?_
    | with_reducible refine within_seq ?_ ?_
    | with_reducible refine (begin_within _).mono ?_
    | with_reducible refine (wake_within _).mono ?_
    | with_reducible refine Act.newId_within _  (fun _ => ?_) ?_
    | (dsimp only)
    | split
    | rfl)

end Sys2Proof.Machine
end

