-- ==== Sys2Proof/Laws/WithinCoherence.lean ====
section
/-!
SUPPORT. What each program of Machine/Coherence.lean can change: one lemma each, over the places of Laws/Acts.lean.
-/

namespace Sys2Proof.Machine

set_option linter.unusedTactic false
set_option linter.unreachableTactic false

theorem protoErr_within (hd : Holder) : (protoErr hd).Within 0x1c44000000000000000000000000000000000000000000000013e0ea04c00800000000000000000000000000000000000000000000000000000100000000080000000000000000000000000000 := by
  unfold protoErr
  repeat' (first
    | with_reducible exact within_skip
    | with_reducible refine within_read fun _ => ?_
    | with_reducible refine within_all_cons ?_ ?_
    | with_reducible refine within_all_one ?_
    | with_reducible refine within_seq ?_ ?_
    | with_reducible refine within_inc ?_
    | with_reducible refine within_some? fun _ => ?_
    | with_reducible refine (raise_within _ _ _).mono ?_
    | (dsimp only)
    | split
    | rfl)

theorem fromPeer_within {K : Nat} (x : Msg) (a : Act) (h0 : a.Within K) (hK : inside 0x1c44000000000000000000000000000000000000000000000013e0ea04c00800000000000000000000000000000000000000000000000000000100000000080000000000000000000000000000 K = true) : (fromPeer x a).Within K := by
  unfold fromPeer
  repeat' (first
    | with_reducible exact within_skip
    | ((with_reducible refine inside_trans ?_ hK); rfl)
    | ((with_reducible refine inside_bit hK ?_); rfl)
    | with_reducible exact h0
    | with_reducible refine within_read fun _ => ?_
    | with_reducible refine within_all_cons ?_ ?_
    | with_reducible refine within_all_one ?_
    | with_reducible refine within_seq ?_ ?_
    | with_reducible refine within_ite ?_ ?_
    | with_reducible refine within_when ?_
    | with_reducible refine (protoErr_within _).mono ?_
    | (dsimp only)
    | split)

theorem dropCopies_within (line : Nat) : (dropCopies line).Within 0x40000000000000000000000000000000000000000000000000000000000000000000000000000000000000000000000000000000000000000000000000000000000000000000000000000000 := by
  unfold dropCopies
  repeat' (first
    | with_reducible exact within_skip
    | with_reducible refine within_read fun _ => ?_
    | with_reducible refine within_all_cons ?_ ?_
    | with_reducible refine within_all_one ?_
    | with_reducible refine within_seq ?_ ?_
    | with_reducible refine within_lines ?_
    | with_reducible refine (dropLine_within _).mono ?_
    | (dsimp only)
    | split
    | rfl)

theorem poisonNow_within (n : Nat) (line : Nat) (c : PoisonCause) : (poisonNow n line c).Within 0x6447000000000000000000000000000000000000000002800000000000000000000000000000000000080000000000000000000000000000000100000000000000000000000000000001000000 := by
  unfold poisonNow
  repeat' (first
    | with_reducible exact within_skip
    | with_reducible refine within_read fun _ => ?_
    | with_reducible refine within_all_cons ?_ ?_
    | with_reducible refine within_all_one ?_
    | with_reducible refine within_seq ?_ ?_
    | with_reducible refine within_ite ?_ ?_
    | with_reducible refine within_rcd ?_
    | with_reducible refine (dropCopies_within _).mono ?_
    | with_reducible refine (place_within _ _ _ _ _ _).mono ?_
    | with_reducible refine (markLines_within _ _ _ _).mono ?_
    | with_reducible refine (mirrorPoison_within _ _).mono ?_
    | (dsimp only)
    | split
    | rfl)

theorem loseLine_within (line : Nat) (hd : Holder) (peer : Option Nat) : (loseLine line hd peer).Within 0x2fccf000000000000000000000000000000000000001802800013e0ea04c00800000000000000000000080000000000000000000040080000000100800007d50002000000400000400001000000 := by
  unfold loseLine
  repeat' (first
    | with_reducible exact within_skip
    | with_reducible refine within_read fun _ => ?_
    | with_reducible refine within_all_cons ?_ ?_
    | with_reducible refine within_all_one ?_
    | with_reducible refine within_seq ?_ ?_
    | with_reducible refine within_ite ?_ ?_
    | with_reducible refine within_when ?_
    | with_reducible refine within_inc ?_
    | with_reducible refine within_some? fun _ => ?_
    | with_reducible refine (poisonNow_within _ _ _).mono ?_
    | with_reducible refine (raiseIslet_within _ _ _).mono ?_
    | with_reducible refine (lhLog_within _ _ _ _ _).mono ?_
    | with_reducible refine (setDir_within _ _).mono ?_
    | with_reducible refine (advance_within _ _).mono ?_
    | with_reducible refine Act.newId_within _  (fun _ => ?_) ?_
    | (dsimp only)
    | split
    | rfl)

theorem resumeCol_within (n : Nat) (t : Txn) : (resumeCol n t).Within 0x2fcce000000000000000000000000000000000000001802800013e0ea04c00800000000000000000000080000000000000000000040080000000100800007c50002000000400000400001000000 := by
  unfold resumeCol
  repeat' (first
    | with_reducible exact within_skip
    | with_reducible refine within_read fun _ => ?_
    | with_reducible refine within_all_cons ?_ ?_
    | with_reducible refine within_all_one ?_
    | with_reducible refine within_seq ?_ ?_
    | with_reducible refine within_ite ?_ ?_
    | with_reducible refine within_some? fun _ => ?_
    | with_reducible refine (deliver_within _ _ _ _).mono ?_
    | with_reducible refine (finish_within _ _).mono ?_
    | with_reducible refine (advance_within _ _).mono ?_
    | with_reducible refine (setDir_within _ _).mono ?_
    | (dsimp only)
    | split
    | rfl)

theorem collect_within (line : Nat) (hd : Holder) (upd : DirEnt → DirEnt) (t : Txn) : (collect line hd upd t).Within 0x2fcce000000000000000000000000000000000000001802800013e0ea04c00800000000000000000000080000000000000000000040080000000100800007c5c002000000400000400001000000 := by
  unfold collect
  repeat' (first
    | with_reducible exact within_skip
    | with_reducible refine within_read fun _ => ?_
    | with_reducible refine within_all_cons ?_ ?_
    | with_reducible refine within_all_one ?_
    | with_reducible refine within_seq ?_ ?_
    | with_reducible refine within_when ?_
    | with_reducible refine within_some? fun _ => ?_
    | with_reducible refine (setDir_within _ _).mono ?_
    | with_reducible refine (openTxn_within _).mono ?_
    | with_reducible refine (resumeCol_within _ _).mono ?_
    | with_reducible refine (wake_within _).mono ?_
    | (dsimp only)
    | split
    | rfl)

theorem ownerGone_within (line : Nat) (t : Txn) : (ownerGone line t).Within 0x2fcce000000000000000000000000000000000000001802800013e0ea04c00800000000000000000000080000000000000000000040080000000100800007c5c002000000400000400001000000 := by
  unfold ownerGone
  repeat' (first
    | with_reducible exact within_skip
    | with_reducible refine within_read fun _ => ?_
    | with_reducible refine within_all_cons ?_ ?_
    | with_reducible refine within_all_one ?_
    | with_reducible refine within_seq ?_ ?_
    | with_reducible refine within_some? fun _ => ?_
    | with_reducible refine (setDir_within _ _).mono ?_
    | with_reducible refine (finish_within _ _).mono ?_
    | with_reducible refine (wake_within _).mono ?_
    | (dsimp only)
    | split
    | rfl)

theorem takeData_within (n : Nat) (line : Nat) (v : LineVal) (keeps : Bool) (master : Nat) : (takeData n line v keeps master).Within 0x6046000000000000000000000000000000000000000000000000000000000000000000000000000000080000000000000000000000000000000000000000000000000000000000000001000000 := by
  unfold takeData
  repeat' (first
    | with_reducible exact within_skip
    | with_reducible refine within_read fun _ => ?_
    | with_reducible refine within_all_cons ?_ ?_
    | with_reducible refine within_all_one ?_
    | with_reducible refine within_seq ?_ ?_
    | with_reducible refine within_ite ?_ ?_
    | with_reducible refine (toWb_within _ _ _).mono ?_
    | with_reducible refine (place_within _ _ _ _ _ _).mono ?_
    | with_reducible refine (mirrorLine_within _ _ _ _).mono ?_
    | (dsimp only)
    | split
    | rfl)

theorem resolveLost_within (line : Nat) (t : Txn) : (resolveLost line t).Within 0x2fccf000000000000000000000000000000000000001802800013e0ea04c00800000000000000000000080000000000000000000040080000000100800007d5c002000000400000400001000000 := by
  unfold resolveLost
  repeat' (first
    | with_reducible exact within_skip
    | with_reducible refine within_read fun _ => ?_
    | with_reducible refine within_all_cons ?_ ?_
    | with_reducible refine within_all_one ?_
    | with_reducible refine within_seq ?_ ?_
    | with_reducible refine within_ite ?_ ?_
    | with_reducible refine within_each fun _ => ?_
    | with_reducible refine within_some? fun _ => ?_
    | with_reducible refine (loseLine_within _ _ _).mono ?_
    | with_reducible refine (resumeCol_within _ _).mono ?_
    | with_reducible refine (openTxn_within _).mono ?_
    | with_reducible refine (sendSnoop_within _ _ _ _ _).mono ?_
    | with_reducible refine (setDir_within _ _).mono ?_
    | with_reducible refine (closeTxn_within _).mono ?_
    | with_reducible refine (wake_within _).mono ?_
    | with_reducible refine Act.newId_within _  (fun _ => ?_) ?_
    | (dsimp only)
    | split
    | rfl)

theorem resolveData_within (n : Nat) (x : Msg) (t : Txn) : (resolveData n x t).Within 0x2fcce000000000000000000000000000000000000001802800013e0ea04c00800000000000000000000080000000000000000000040080000000100800007c5c002000000400000400001000000 := by
  unfold resolveData
  repeat' (first
    | with_reducible exact within_skip
    | with_reducible refine within_read fun _ => ?_
    | with_reducible refine within_all_cons ?_ ?_
    | with_reducible refine within_all_one ?_
    | with_reducible refine within_seq ?_ ?_
    | with_reducible refine within_ite ?_ ?_
    | with_reducible refine (takeData_within _ _ _ _ _).mono ?_
    | with_reducible refine (setDir_within _ _).mono ?_
    | with_reducible refine (closeTxn_within _).mono ?_
    | with_reducible refine (wake_within _).mono ?_
    | (dsimp only)
    | split
    | rfl)

theorem visitorAnswer_within (p : Nat) (line : Nat) (after : Nat) (isWb : Bool) : (visitorAnswer p line after isWb).Within 0x2fccf000000000000000000000000000000000000001802800013e0ea04c00800000000000000000000080000000000000000000040080000000100800007ddc002000000400000400001000000 := by
  unfold visitorAnswer
  repeat' (first
    | with_reducible exact within_skip
    | with_reducible refine within_read fun _ => ?_
    | with_reducible refine within_all_cons ?_ ?_
    | with_reducible refine within_all_one ?_
    | with_reducible refine within_seq ?_ ?_
    | with_reducible refine within_ite ?_ ?_
    | with_reducible refine (protoErr_within _).mono ?_
    | with_reducible refine (resolveLost_within _ _).mono ?_
    | with_reducible refine (openTxn_within _).mono ?_
    | with_reducible refine (collect_within _ _ _ _).mono ?_
    | with_reducible refine (ownerGone_within _ _).mono ?_
    | (dsimp only)
    | split
    | rfl)

theorem takeWb_within (x : Msg) : (takeWb x).Within 0x2fccf000000000000000000000000000000000000001802800013e0ea04c00800000000000000000000080000000000000000000040080000000100800007ddc002000000400000400001000000 := by
  unfold takeWb
  repeat' (first
    | with_reducible exact within_skip
    | with_reducible refine within_read fun _ => ?_
    | with_reducible refine within_all_cons ?_ ?_
    | with_reducible refine within_all_one ?_
    | with_reducible refine within_seq ?_ ?_
    | with_reducible refine within_when ?_
    | with_reducible refine within_some? fun _ => ?_
    | with_reducible refine (takeData_within _ _ _ _ _).mono ?_
    | with_reducible refine (setDir_within _ _).mono ?_
    | with_reducible refine (send_within _ _).mono ?_
    | with_reducible refine (openTxn_within _).mono ?_
    | with_reducible refine (visitorAnswer_within _ _ _ _).mono ?_
    | with_reducible refine (dirStats_within _).mono ?_
    | (dsimp only)
    | split
    | rfl)

theorem takeWbKeep_within (x : Msg) : (takeWbKeep x).Within 0x2fccf000000000000000000000000000000000000001802800013e0ea04c00800000000000000000000080000000000000000000040080000000100800007ddc002000000400000400001000000 := by
  unfold takeWbKeep
  repeat' (first
    | with_reducible exact within_skip
    | with_reducible refine within_read fun _ => ?_
    | with_reducible refine within_all_cons ?_ ?_
    | with_reducible refine within_all_one ?_
    | with_reducible refine within_seq ?_ ?_
    | with_reducible refine within_when ?_
    | with_reducible refine within_some? fun _ => ?_
    | with_reducible refine (takeData_within _ _ _ _ _).mono ?_
    | with_reducible refine (send_within _ _).mono ?_
    | with_reducible refine (openTxn_within _).mono ?_
    | with_reducible refine (visitorAnswer_within _ _ _ _).mono ?_
    | (dsimp only)
    | split
    | rfl)

theorem takeSnpData_within (x : Msg) : (takeSnpData x).Within 0x2fcce000000000000000000000000000000000000001802800013e0ea04c00800000000000000000000080000000000000000000040080000000100800007cdc002000000400000400001000000 := by
  unfold takeSnpData
  repeat' (first
    | with_reducible exact within_skip
    | with_reducible refine within_read fun _ => ?_
    | with_reducible refine within_all_cons ?_ ?_
    | with_reducible refine within_all_one ?_
    | with_reducible refine within_seq ?_ ?_
    | with_reducible refine within_ite ?_ ?_
    | with_reducible refine (resolveData_within _ _ _).mono ?_
    | with_reducible refine (takeData_within _ _ _ _ _).mono ?_
    | with_reducible refine (collect_within _ _ _ _).mono ?_
    | with_reducible refine (protoErr_within _).mono ?_
    | (dsimp only)
    | split
    | rfl)

theorem takeGntAck_within (x : Msg) : (takeGntAck x).Within 0x2fcce000000000000000000000000000000000000001802800013e0ea04c00800000000000000000000080000000000000000000040080000000100800007cdc002000000400000400001000000 := by
  unfold takeGntAck
  repeat' (first
    | with_reducible exact within_skip
    | with_reducible refine within_read fun _ => ?_
    | with_reducible refine within_all_cons ?_ ?_
    | with_reducible refine within_all_one ?_
    | with_reducible refine within_seq ?_ ?_
    | with_reducible refine within_ite ?_ ?_
    | with_reducible refine (protoErr_within _).mono ?_
    | with_reducible refine (closeTxn_within _).mono ?_
    | with_reducible refine (wake_within _).mono ?_
    | with_reducible refine (setDir_within _ _).mono ?_
    | (dsimp only)
    | split
    | rfl)

theorem takeFwdFail_within (x : Msg) : (takeFwdFail x).Within 0x5c44000000000000000000000000000000000000000000000013e0ea04c00800000000000000000000000000000000000000000000000000000100000008080000000000000000000000000000 := by
  unfold takeFwdFail
  repeat' (first
    | with_reducible exact within_skip
    | with_reducible refine within_read fun _ => ?_
    | with_reducible refine within_all_cons ?_ ?_
    | with_reducible refine within_all_one ?_
    | with_reducible refine within_seq ?_ ?_
    | with_reducible refine within_ite ?_ ?_
    | with_reducible refine within_inc ?_
    | with_reducible refine (openTxn_within _).mono ?_
    | with_reducible refine (send_within _ _).mono ?_
    | with_reducible refine (protoErr_within _).mono ?_
    | with_reducible refine Act.newId_within _  (fun _ => ?_) ?_
    | (dsimp only)
    | split
    | rfl)

theorem takeClnEvict_within (hd : Holder) (line : Nat) : (takeClnEvict hd line).Within 0x2fcce000000000000000000000000000000000000001802800013e0ea04c00800000000000000000000080000000000000000000040080000000100800007c5c002000000400000400001000000 := by
  unfold takeClnEvict
  repeat' (first
    | with_reducible exact within_skip
    | with_reducible refine within_read fun _ => ?_
    | with_reducible refine within_all_cons ?_ ?_
    | with_reducible refine within_all_one ?_
    | with_reducible refine within_seq ?_ ?_
    | with_reducible refine within_when ?_
    | with_reducible refine within_some? fun _ => ?_
    | with_reducible refine (setDir_within _ _).mono ?_
    | with_reducible refine (closeTxn_within _).mono ?_
    | with_reducible refine (dirStats_within _).mono ?_
    | with_reducible refine (wake_within _).mono ?_
    | (dsimp only)
    | split
    | rfl)

theorem clearBisnp_within (h : Nat) (line : Nat) : (clearBisnp h line).Within 0x80000000000000000000000000000000000000000000000000000000000000000000000000000000000000000000000000000000000000000000000000000000000000000000000000000000 := by
  unfold clearBisnp
  repeat' (first
    | with_reducible exact within_skip
    | with_reducible refine within_read fun _ => ?_
    | with_reducible refine within_all_cons ?_ ?_
    | with_reducible refine within_all_one ?_
    | with_reducible refine within_seq ?_ ?_
    | with_reducible refine within_dir ?_
    | (dsimp only)
    | split
    | rfl)

theorem headAnswered_within (h : Nat) (line : Nat) (s : Nat) : (headAnswered h line s).Within 0x2fcce000000000000000000000000000000000000001802800013e0ea04c00800000000000000000000080000000000000000000040080000000100800007c5c002000000400000400001000000 := by
  unfold headAnswered
  repeat' (first
    | with_reducible exact within_skip
    | with_reducible refine within_read fun _ => ?_
    | with_reducible refine within_all_cons ?_ ?_
    | with_reducible refine within_all_one ?_
    | with_reducible refine within_seq ?_ ?_
    | with_reducible refine within_ite ?_ ?_
    | with_reducible refine within_some? fun _ => ?_
    | with_reducible refine (collect_within _ _ _ _).mono ?_
    | with_reducible refine (setDir_within _ _).mono ?_
    | with_reducible refine (dirStats_within _).mono ?_
    | (dsimp only)
    | split
    | rfl)

theorem setVis_within (k : Nat) (e : VisEnt) : (setVis k e).Within 0x80000000000000000000000000000000000000000000000000000000000000000000000000000000000000000000000000000000000000000000000000000000000000000000000000000000 := by
  unfold setVis
  repeat' (first
    | with_reducible exact within_skip
    | with_reducible refine within_read fun _ => ?_
    | with_reducible refine within_all_cons ?_ ?_
    | with_reducible refine within_all_one ?_
    | with_reducible refine within_seq ?_ ?_
    | with_reducible refine within_ite ?_ ?_
    | with_reducible refine within_dir ?_
    | (dsimp only)
    | split
    | rfl)

theorem visAsk_within (k : Nat) (code : Nat) (tr : VTrans) (r : Req) : (visAsk k code tr r).Within 0x40c4000000000000000000000000000000000000000000000000000000000000000000000000000000000000000000000000000000000000000000000000000000000000000000000000000000 := by
  unfold visAsk
  repeat' (first
    | with_reducible exact within_skip
    | with_reducible refine within_read fun _ => ?_
    | with_reducible refine within_all_cons ?_ ?_
    | with_reducible refine within_all_one ?_
    | with_reducible refine within_seq ?_ ?_
    | with_reducible refine (setVis_within _ _).mono ?_
    | with_reducible refine (send_within _ _).mono ?_
    | with_reducible refine Act.newId_within _  (fun _ => ?_) ?_
    | (dsimp only)
    | split
    | rfl)

theorem visSnoopHeads_within (n : Nat) (k : Nat) (hs : List Nat) (kind : Nat) : (visSnoopHeads n k hs kind).Within 0x4084000000000000000000000000000000000000000000000000000000000000000000000000000000000000000000000000000000000000000000000000000000000000000000000000000000 := by
  unfold visSnoopHeads
  repeat' (first
    | with_reducible exact within_skip
    | with_reducible refine within_read fun _ => ?_
    | with_reducible refine within_all_cons ?_ ?_
    | with_reducible refine within_all_one ?_
    | with_reducible refine within_seq ?_ ?_
    | with_reducible refine within_each fun _ => ?_
    | with_reducible refine (sendSnoop_within _ _ _ _ _).mono ?_
    | (dsimp only)
    | split
    | rfl)

theorem visServe_within (n : Nat) (k : Nat) (r : Req) : (visServe n k r).Within 0x2c08c000000000000000000000000000000000000001802800000000000000000000000000000000000000000000000000000000040080000000000000000000000000000000000000000000000 := by
  unfold visServe
  repeat' (first
    | with_reducible exact within_skip
    | with_reducible refine within_read fun _ => ?_
    | with_reducible refine within_all_cons ?_ ?_
    | with_reducible refine within_all_one ?_
    | with_reducible refine within_seq ?_ ?_
    | with_reducible refine within_ite ?_ ?_
    | with_reducible refine (setVis_within _ _).mono ?_
    | with_reducible refine (answer_within _ _ _).mono ?_
    | (dsimp only)
    | split
    | rfl)

theorem visWrite_within (n : Nat) (k : Nat) (r : Req) : (visWrite n k r).Within 0x2c0cc000000000000000000000000000000000000001802800000000000000000000000000000000000000000000000000000000040080000000000000000000000000000000000400000000000 := by
  unfold visWrite
  repeat' (first
    | with_reducible exact within_skip
    | with_reducible refine within_read fun _ => ?_
    | with_reducible refine within_all_cons ?_ ?_
    | with_reducible refine within_all_one ?_
    | with_reducible refine within_seq ?_ ?_
    | with_reducible refine within_ite ?_ ?_
    | with_reducible refine within_inc ?_
    | with_reducible refine (answer_within _ _ _).mono ?_
    | with_reducible refine (setVis_within _ _).mono ?_
    | with_reducible refine (send_within _ _).mono ?_
    | with_reducible refine Act.newId_within _  (fun _ => ?_) ?_
    | (dsimp only)
    | split
    | rfl)

theorem visEvict_within (k : Nat) : (visEvict k).Within 0x40c4000000000000000000000000000000000000000000000000000000000000000000000000000000000000000000000000000000000000000000000000000000000000000000000000000000 := by
  unfold visEvict
  repeat' (first
    | with_reducible exact within_skip
    | with_reducible refine within_read fun _ => ?_
    | with_reducible refine within_all_cons ?_ ?_
    | with_reducible refine within_all_one ?_
    | with_reducible refine within_seq ?_ ?_
    | with_reducible refine (setVis_within _ _).mono ?_
    | with_reducible refine (send_within _ _).mono ?_
    | with_reducible refine Act.newId_within _  (fun _ => ?_) ?_
    | (dsimp only)
    | split
    | rfl)

theorem visStep_within (n : Nat) (k : Nat) (r : Req) : (visStep n k r).Within 0x2c0cc000000000000000000000000000000000000001802800000000000000000000000000000000000000000000000000000000040080000000000000000000000000000000000400000000000 := by
  unfold visStep
  repeat' (first
    | with_reducible exact within_skip
    | with_reducible refine within_read fun _ => ?_
    | with_reducible refine within_all_cons ?_ ?_
    | with_reducible refine within_all_one ?_
    | with_reducible refine within_seq ?_ ?_
    | with_reducible refine within_ite ?_ ?_
    | with_reducible refine (setVis_within _ _).mono ?_
    | with_reducible refine (visAsk_within _ _ _ _).mono ?_
    | with_reducible refine (visServe_within _ _ _).mono ?_
    | with_reducible refine (visSnoopHeads_within _ _ _ _).mono ?_
    | with_reducible refine (visEvict_within _).mono ?_
    | with_reducible refine (visWrite_within _ _ _).mono ?_
    | (dsimp only)
    | split
    | rfl)

theorem visWakeN_within (n k : Nat) : ∀ f, (visWakeN n k f).Within 0x2c0cc000000000000000000000000000000000000001802800000000000000000000000000000000000000000000000000000000040080000000000000000000000000000000000400000000000
  | 0 => within_skip
  | f + 1 => by
    unfold visWakeN
    repeat' (first
      | with_reducible exact within_skip
      | with_reducible exact visWakeN_within n k f
      | with_reducible refine within_read fun _ => ?_
      | with_reducible refine within_all_cons ?_ ?_
      | with_reducible refine within_all_one ?_
      | with_reducible refine within_seq ?_ ?_
      | with_reducible refine within_ite ?_ ?_
      | with_reducible refine (setVis_within _ _).mono ?_
      | with_reducible refine (visStep_within _ _ _).mono ?_
      | (dsimp only)
      | split
      | rfl)

theorem visWake_within (k : Nat) : (visWake k).Within 0x2c0cc000000000000000000000000000000000000001802800000000000000000000000000000000000000000000000000000000040080000000000000000000000000000000000400000000000 := by
  unfold visWake
  repeat' (first
    | with_reducible exact within_skip
    | with_reducible refine within_read fun _ => ?_
    | with_reducible refine within_all_cons ?_ ?_
    | with_reducible refine within_all_one ?_
    | with_reducible refine within_seq ?_ ?_
    | with_reducible refine (visWakeN_within _ _ _).mono ?_
    | (dsimp only)
    | split
    | rfl)

theorem visFail_within (k : Nat) : (visFail k).Within 0x2c08c000000000000000000000000000000000000001802800000000000000000000000000000000000000000000000000000000040080000000000000000000000000000000000000000000000 := by
  unfold visFail
  repeat' (first
    | with_reducible exact within_skip
    | with_reducible refine within_read fun _ => ?_
    | with_reducible refine within_all_cons ?_ ?_
    | with_reducible refine within_all_one ?_
    | with_reducible refine within_seq ?_ ?_
    | with_reducible refine within_each fun _ => ?_
    | with_reducible refine (setVis_within _ _).mono ?_
    | with_reducible refine (answerDead_within _).mono ?_
    | (dsimp only)
    | split
    | rfl)

theorem visStable_within (k : Nat) (x : Msg) : (visStable k x).Within 0x5cc4000000000000000000000000000000000000000000000013e0ea04c00800000000000000000000000000000000000000000000000000000100000000080000000000000000000000000000 := by
  unfold visStable
  repeat' (first
    | with_reducible exact within_skip
    | with_reducible refine within_read fun _ => ?_
    | with_reducible refine within_all_cons ?_ ?_
    | with_reducible refine within_all_one ?_
    | with_reducible refine within_seq ?_ ?_
    | with_reducible refine within_ite ?_ ?_
    | with_reducible refine (send_within _ _).mono ?_
    | with_reducible refine (setVis_within _ _).mono ?_
    | with_reducible refine (protoErr_within _).mono ?_
    | (dsimp only)
    | split
    | rfl)

theorem visTransient_within (k : Nat) (x : Msg) (tr : VTrans) : (visTransient k x tr).Within 0x5cc4000000000000000000000000000000000000000000000013e0ea04c00800000000000000000000000000000000000000000000000000000100000000080000000000000000000000000000 := by
  unfold visTransient
  repeat' (first
    | with_reducible exact within_skip
    | with_reducible refine within_read fun _ => ?_
    | with_reducible refine within_all_cons ?_ ?_
    | with_reducible refine within_all_one ?_
    | with_reducible refine within_seq ?_ ?_
    | with_reducible refine within_ite ?_ ?_
    | with_reducible refine (send_within _ _).mono ?_
    | with_reducible refine (setVis_within _ _).mono ?_
    | with_reducible refine (protoErr_within _).mono ?_
    | (dsimp only)
    | split
    | rfl)

theorem visSnoop_within (k : Nat) (x : Msg) (asked : Bool) : (visSnoop k x asked).Within 0x5cc4000000000000000000000000000000000000000000000013e0ea04c00800000000000000000000000000000000000000000000000000000100000000080000000000000000000000000000 := by
  unfold visSnoop
  repeat' (first
    | with_reducible exact within_skip
    | with_reducible refine within_read fun _ => ?_
    | with_reducible refine within_all_cons ?_ ?_
    | with_reducible refine within_all_one ?_
    | with_reducible refine within_seq ?_ ?_
    | with_reducible refine within_ite ?_ ?_
    | with_reducible refine (setVis_within _ _).mono ?_
    | with_reducible refine (send_within _ _).mono ?_
    | with_reducible refine (visTransient_within _ _ _).mono ?_
    | with_reducible refine (visStable_within _ _).mono ?_
    | with_reducible refine (visSnoopHeads_within _ _ _ _).mono ?_
    | (dsimp only)
    | split
    | rfl)

theorem visResume_within (k : Nat) : (visResume k).Within 0x2dccc000000000000000000000000000000000000001802800013e0ea04c00800000000000000000000000000000000000000000040080000000100000000080000000000000000400000000000 := by
  unfold visResume
  repeat' (first
    | with_reducible exact within_skip
    | with_reducible refine within_read fun _ => ?_
    | with_reducible refine within_all_cons ?_ ?_
    | with_reducible refine within_all_one ?_
    | with_reducible refine within_seq ?_ ?_
    | with_reducible refine within_some? fun _ => ?_
    | with_reducible refine (setVis_within _ _).mono ?_
    | with_reducible refine (visStep_within _ _ _).mono ?_
    | with_reducible refine (visSnoop_within _ _ _).mono ?_
    | with_reducible refine (visWake_within _).mono ?_
    | (dsimp only)
    | split
    | rfl)

theorem visHeadAnswered_within (h : Nat) (k : Nat) (s : Nat) : (visHeadAnswered h k s).Within 0x2dccc000000000000000000000000000000000000001802800013e0ea04c00800000000000000000000000000000000000000000040080000000100000000080000000000000000400000000000 := by
  unfold visHeadAnswered
  repeat' (first
    | with_reducible exact within_skip
    | with_reducible refine within_read fun _ => ?_
    | with_reducible refine within_all_cons ?_ ?_
    | with_reducible refine within_all_one ?_
    | with_reducible refine within_seq ?_ ?_
    | with_reducible refine within_when ?_
    | with_reducible refine (setVis_within _ _).mono ?_
    | with_reducible refine (visResume_within _).mono ?_
    | (dsimp only)
    | split
    | rfl)

theorem birsp_within (h : Nat) (line : Nat) (s : Nat) : (birsp h line s).Within 0x2fcce000000000000000000000000000000000000001802800013e0ea04c00800000000000000000000080000000000000000000040080000000100800007cdc002000000400000400001000000 := by
  unfold birsp
  repeat' (first
    | with_reducible exact within_skip
    | with_reducible refine within_read fun _ => ?_
    | with_reducible refine within_all_cons ?_ ?_
    | with_reducible refine within_all_one ?_
    | with_reducible refine within_seq ?_ ?_
    | with_reducible refine within_ite ?_ ?_
    | with_reducible refine within_some? fun _ => ?_
    | with_reducible refine (protoErr_within _).mono ?_
    | with_reducible refine (clearBisnp_within _ _).mono ?_
    | with_reducible refine (openTxn_within _).mono ?_
    | with_reducible refine (headAnswered_within _ _ _).mono ?_
    | with_reducible refine (visHeadAnswered_within _ _ _).mono ?_
    | (dsimp only)
    | split
    | rfl)

theorem biConflict_within (h : Nat) (line : Nat) : (biConflict h line).Within 0x4000000000000000000000000000000000000000000000000000000000000000000000000000000000000000000000000000000000000000000000000020000000000000000000000000000 := by
  unfold biConflict
  repeat' (first
    | with_reducible exact within_skip
    | with_reducible refine within_read fun _ => ?_
    | with_reducible refine within_all_cons ?_ ?_
    | with_reducible refine within_all_one ?_
    | with_reducible refine within_seq ?_ ?_
    | with_reducible refine within_emit ?_
    | with_reducible refine within_inc ?_
    | (dsimp only)
    | split
    | rfl)

theorem answerBisnps_within (h : Nat) (ld : Nat → Bool) : (answerBisnps h ld).Within 0x2fcce000000000000000000000000000000000000001802800013e0ea04c00800000000000000000000080000000000000000000040080000000100800007cdc002000000400000400001000000 := by
  unfold answerBisnps
  repeat' (first
    | with_reducible exact within_skip
    | with_reducible refine within_read fun _ => ?_
    | with_reducible refine within_all_cons ?_ ?_
    | with_reducible refine within_all_one ?_
    | with_reducible refine within_seq ?_ ?_
    | with_reducible refine within_each fun _ => ?_
    | with_reducible refine (birsp_within _ _ _).mono ?_
    | (dsimp only)
    | split
    | rfl)

theorem loseHead_within (h : Nat) : (loseHead h).Within 0x2fccf000000000000000000000000000000000000001802800013e0ea04c00800000000000000000000080000000000000000000040080000000100800007ddc002000000400000400001000000 := by
  unfold loseHead
  repeat' (first
    | with_reducible exact within_skip
    | with_reducible refine within_read fun _ => ?_
    | with_reducible refine within_all_cons ?_ ?_
    | with_reducible refine within_all_one ?_
    | with_reducible refine within_seq ?_ ?_
    | with_reducible refine within_dir ?_
    | with_reducible refine within_each fun _ => ?_
    | with_reducible refine (answerBisnps_within _ _).mono ?_
    | with_reducible refine (loseLine_within _ _ _).mono ?_
    | (dsimp only)
    | split
    | rfl)

theorem remoteDone_within (r : RemReq) (v : LineVal) (failed : Bool) : (remoteDone r v failed).Within 0x20084000000000000000000000000000000000000000000000000000000000000000000000000000000000000000000000000000040080000000000000000000000000000000000000000000000 := by
  unfold remoteDone
  repeat' (first
    | with_reducible exact within_skip
    | with_reducible refine within_read fun _ => ?_
    | with_reducible refine within_all_cons ?_ ?_
    | with_reducible refine within_all_one ?_
    | with_reducible refine within_seq ?_ ?_
    | with_reducible refine (noteAnswer_within _ _ _ _).mono ?_
    | (dsimp only)
    | split
    | rfl)

theorem visData_within (x : Msg) : (visData x).Within 0x2dccc000000000000000000000000000000000000001802800013e0ea04c00800000000000000000000000000000000000000000040080000000100000000080000000000000000400000000000 := by
  unfold visData
  repeat' (first
    | with_reducible exact within_skip
    | with_reducible refine within_read fun _ => ?_
    | with_reducible refine within_all_cons ?_ ?_
    | with_reducible refine within_all_one ?_
    | with_reducible refine within_seq ?_ ?_
    | with_reducible refine within_ite ?_ ?_
    | with_reducible refine (send_within _ _).mono ?_
    | with_reducible refine (remoteDone_within _ _ _).mono ?_
    | with_reducible refine (setVis_within _ _).mono ?_
    | with_reducible refine (visWake_within _).mono ?_
    | with_reducible refine (protoErr_within _).mono ?_
    | (dsimp only)
    | split
    | rfl)

theorem visCmpErr_within (x : Msg) : (visCmpErr x).Within 0x2dccc000000000000000000000000000000000000001802800013e0ea04c00800000000000000000000000000000000000000000040080000000100000000080000000000000000000000000000 := by
  unfold visCmpErr
  repeat' (first
    | with_reducible exact within_skip
    | with_reducible refine within_read fun _ => ?_
    | with_reducible refine within_all_cons ?_ ?_
    | with_reducible refine within_all_one ?_
    | with_reducible refine within_seq ?_ ?_
    | with_reducible refine (remoteDone_within _ _ _).mono ?_
    | with_reducible refine (setVis_within _ _).mono ?_
    | with_reducible refine (visFail_within _).mono ?_
    | with_reducible refine (protoErr_within _).mono ?_
    | (dsimp only)
    | split
    | rfl)

theorem visWbAck_within (x : Msg) : (visWbAck x).Within 0x2dccc000000000000000000000000000000000000001802800013e0ea04c00800000000000000000000000000000000000000000040080000000100000000080000000000000000400000000000 := by
  unfold visWbAck
  repeat' (first
    | with_reducible exact within_skip
    | with_reducible refine within_read fun _ => ?_
    | with_reducible refine within_all_cons ?_ ?_
    | with_reducible refine within_all_one ?_
    | with_reducible refine within_seq ?_ ?_
    | with_reducible refine within_ite ?_ ?_
    | with_reducible refine (setVis_within _ _).mono ?_
    | with_reducible refine (answer_within _ _ _).mono ?_
    | with_reducible refine (visWake_within _).mono ?_
    | with_reducible refine (protoErr_within _).mono ?_
    | (dsimp only)
    | split
    | rfl)

theorem fwdAcked_within (k : Nat) : (fwdAcked k).Within 0x2c0cc000000000000000000000000000000000000001802800000000000000000000000000000000000000000000000000000000040080000000000000000000000000000000000400000000000 := by
  unfold fwdAcked
  repeat' (first
    | with_reducible exact within_skip
    | with_reducible refine within_read fun _ => ?_
    | with_reducible refine within_all_cons ?_ ?_
    | with_reducible refine within_all_one ?_
    | with_reducible refine within_seq ?_ ?_
    | with_reducible refine within_when ?_
    | with_reducible refine (setVis_within _ _).mono ?_
    | with_reducible refine (visWake_within _).mono ?_
    | (dsimp only)
    | split
    | rfl)

theorem fwdUndelivered_within (k : Nat) (txid : Nat) : (fwdUndelivered k txid).Within 0x2c0cc000000000000000000000000000000000000001802800000000000000000000000000000000000000000000000000000000040080000000000000000000000000000000000400000000000 := by
  unfold fwdUndelivered
  repeat' (first
    | with_reducible exact within_skip
    | with_reducible refine within_read fun _ => ?_
    | with_reducible refine within_all_cons ?_ ?_
    | with_reducible refine within_all_one ?_
    | with_reducible refine within_seq ?_ ?_
    | with_reducible refine within_when ?_
    | with_reducible refine (setVis_within _ _).mono ?_
    | with_reducible refine (send_within _ _).mono ?_
    | with_reducible refine (visWake_within _).mono ?_
    | (dsimp only)
    | split
    | rfl)

theorem homeReq_within (x : Msg) (k : ReqOp) (f : Req → Req) : (homeReq x k f).Within 0x2fcce000000000000000000000000000000000000001802800013e0ea04c00800000000000000000000080000000000000000000040080000000100800007c5c002000000400000400001000000 := by
  unfold homeReq
  repeat' (first
    | with_reducible exact within_skip
    | with_reducible refine within_read fun _ => ?_
    | with_reducible refine within_all_cons ?_ ?_
    | with_reducible refine within_all_one ?_
    | with_reducible refine within_seq ?_ ?_
    | with_reducible refine within_when ?_
    | with_reducible refine (request_within _ _ _ _).mono ?_
    | (dsimp only)
    | split
    | rfl)

theorem homeAtom_within (x : Msg) : (homeAtom x).Within 0x2fcce000000000000000000000000000000000000001802800013e0ea04c00800000000000000000000080000000000000000000040080000000100800007c5c002000000400000400001000000 := by
  unfold homeAtom
  repeat' (first
    | with_reducible exact within_skip
    | with_reducible refine within_read fun _ => ?_
    | with_reducible refine within_all_cons ?_ ?_
    | with_reducible refine within_all_one ?_
    | with_reducible refine within_seq ?_ ?_
    | with_reducible refine within_ite ?_ ?_
    | with_reducible refine within_when ?_
    | with_reducible refine within_free ?_ fun _ => ?_
    | with_reducible refine (homeReq_within _ _ _).mono ?_
    | with_reducible refine (send_within _ _).mono ?_
    | (dsimp only)
    | split
    | rfl)

theorem snooped_within (x : Msg) : (snooped x).Within 0x5cc4000000000000000000000000000000000000000000000013e0ea04c00800000000000000000000000000000000000000000000000000000100000000080000000000000000000000000000 := by
  unfold snooped
  repeat' (first
    | with_reducible exact within_skip
    | with_reducible refine within_read fun _ => ?_
    | with_reducible refine within_all_cons ?_ ?_
    | with_reducible refine within_all_one ?_
    | with_reducible refine within_seq ?_ ?_
    | with_reducible refine (visSnoop_within _ _ _).mono ?_
    | (dsimp only)
    | split
    | rfl)

theorem visitorEviction_within (home : Nat) (line : Nat) : (visitorEviction home line).Within 0x2c0cc000000000000000000000000000000000000001802800000000000000000000000000000000000000000000000000000000040080000000000000000000000000000000000400000000000 := by
  unfold visitorEviction
  repeat' (first
    | with_reducible exact within_skip
    | with_reducible refine within_read fun _ => ?_
    | with_reducible refine within_all_cons ?_ ?_
    | with_reducible refine within_all_one ?_
    | with_reducible refine within_seq ?_ ?_
    | with_reducible refine within_when ?_
    | with_reducible refine (visStep_within _ _ _).mono ?_
    | with_reducible refine Act.newId_within _  (fun _ => ?_) ?_
    | (dsimp only)
    | split
    | rfl)

end Sys2Proof.Machine
end

