-- ==== Sys2Proof/Laws/WithinKeys.lean ====
section
/-!
SUPPORT. What each program of Machine/Keys.lean can change: one lemma each, over the places of Laws/Acts.lean.
-/

namespace Sys2Proof.Machine

set_option linter.unusedTactic false
set_option linter.unreachableTactic false

theorem recordKcv_within (n : Nat) : (recordKcv n).Within 0x200000000000000000000000000000000000000000000000000000000000000000000000000000000000000000000000000000000000000000000000000000000000000000000000000000000 := by
  unfold recordKcv
  repeat' (first
    | with_reducible exact within_skip
    | with_reducible refine within_read fun _ => ?_
    | with_reducible refine within_all_cons ?_ ?_
    | with_reducible refine within_all_one ?_
    | with_reducible refine within_seq ?_ ?_
    | with_reducible refine within_keys ?_
    | with_reducible refine within_each fun _ => ?_
    | with_reducible refine within_some? fun _ => ?_
    | (dsimp only)
    | split
    | rfl)

theorem tdlUpdate_within  : tdlUpdate.Within 0x20000000000000000000040000 := by
  unfold tdlUpdate
  repeat' (first
    | with_reducible exact within_skip
    | with_reducible refine within_read fun _ => ?_
    | with_reducible refine within_all_cons ?_ ?_
    | with_reducible refine within_all_one ?_
    | with_reducible refine within_seq ?_ ?_
    | with_reducible refine within_ite ?_ ?_
    | with_reducible refine within_when ?_
    | with_reducible refine within_set ?_
    | with_reducible refine within_each fun _ => ?_
    | (dsimp only)
    | split
    | rfl)

theorem keysUpdate_within  : keysUpdate.Within 0x20000000000000000000840000 := by
  unfold keysUpdate
  repeat' (first
    | with_reducible exact within_skip
    | with_reducible refine within_read fun _ => ?_
    | with_reducible refine within_all_cons ?_ ?_
    | with_reducible refine within_all_one ?_
    | with_reducible refine within_seq ?_ ?_
    | with_reducible refine within_set ?_
    | with_reducible refine within_each fun _ => ?_
    | with_reducible refine (tdlUpdate_within).mono ?_
    | (dsimp only)
    | split
    | rfl)

theorem slotBit_within (kind : Nat) (i : Nat) (v : Bool) : (slotBit kind i v).Within 0x38400000000000000000000 := by
  unfold slotBit
  repeat' (first
    | with_reducible exact within_skip
    | with_reducible refine within_read fun _ => ?_
    | with_reducible refine within_all_cons ?_ ?_
    | with_reducible refine within_all_one ?_
    | with_reducible refine within_seq ?_ ?_
    | with_reducible refine within_set ?_
    | with_reducible refine within_wideBit ?_
    | (dsimp only)
    | split
    | rfl)

theorem putKey_within (kind : Nat) (i : Nat) (k : List Byte) : (putKey kind i k).Within 0x200000000000000000000000000000000000000000000000000000000000000000000000000000000000000000000000000000000000000000000000000000000038400000000000000000000 := by
  unfold putKey
  repeat' (first
    | with_reducible exact within_skip
    | with_reducible refine within_read fun _ => ?_
    | with_reducible refine within_all_cons ?_ ?_
    | with_reducible refine within_all_one ?_
    | with_reducible refine within_seq ?_ ?_
    | with_reducible refine within_keys ?_
    | with_reducible refine (slotBit_within _ _ _).mono ?_
    | (dsimp only)
    | split
    | rfl)

theorem zeroSlot_within (kind : Nat) (i : Nat) : (zeroSlot kind i).Within 0x20000000000000000000000000000000000000000000000000000000000000000000000000000000000000000000000000000000000000000000000000000000003c400000000000000000000 := by
  unfold zeroSlot
  repeat' (first
    | with_reducible exact within_skip
    | with_reducible refine within_read fun _ => ?_
    | with_reducible refine within_all_cons ?_ ?_
    | with_reducible refine within_all_one ?_
    | with_reducible refine within_seq ?_ ?_
    | with_reducible refine within_when ?_
    | with_reducible refine within_inc ?_
    | with_reducible refine within_keys ?_
    | with_reducible refine (slotBit_within _ _ _).mono ?_
    | (dsimp only)
    | split
    | rfl)

theorem keyAnswer_within (s : Session) (op : Nat) (st : Nat) (kcv : List Nat) : (keyAnswer s op st kcv).Within 0x4000000000000000000000000000000000000000000000000000000000000000000000000000000000000000000000000000000000000000000000000000000001000000000000000000000 := by
  unfold keyAnswer
  repeat' (first
    | with_reducible exact within_skip
    | with_reducible refine within_read fun _ => ?_
    | with_reducible refine within_all_cons ?_ ?_
    | with_reducible refine within_all_one ?_
    | with_reducible refine within_seq ?_ ?_
    | with_reducible refine within_when ?_
    | with_reducible refine within_emit ?_
    | with_reducible refine within_inc ?_
    | (dsimp only)
    | split
    | rfl)

theorem keySet_within (s : Session) (kind : Nat) (index : Nat) (k : List Byte) : (keySet s kind index k).Within 0x204000000000000000000000000000000000000000000000000000000000000000000000000000000000000000000000000000000000000000000000000000020039400000000000000840000 := by
  unfold keySet
  repeat' (first
    | with_reducible exact within_skip
    | with_reducible refine within_read fun _ => ?_
    | with_reducible refine within_all_cons ?_ ?_
    | with_reducible refine within_all_one ?_
    | with_reducible refine within_seq ?_ ?_
    | with_reducible refine within_ite ?_ ?_
    | with_reducible refine within_when ?_
    | with_reducible refine (putKey_within _ _ _).mono ?_
    | with_reducible refine (keysUpdate_within).mono ?_
    | with_reducible refine (keyAnswer_within _ _ _ _).mono ?_
    | (dsimp only)
    | split
    | rfl)

theorem keyZero_within (s : Session) (kind : Nat) (index : Nat) : (keyZero s kind index).Within 0x20400000000000000000000000000000000000000000000000000000000000000000000000000000000000000000000000000000000000000000000000000002003d400000000000000840000 := by
  unfold keyZero
  repeat' (first
    | with_reducible exact within_skip
    | with_reducible refine within_read fun _ => ?_
    | with_reducible refine within_all_cons ?_ ?_
    | with_reducible refine within_all_one ?_
    | with_reducible refine within_seq ?_ ?_
    | with_reducible refine within_when ?_
    | with_reducible refine (zeroSlot_within _ _).mono ?_
    | with_reducible refine (keysUpdate_within).mono ?_
    | with_reducible refine (keyAnswer_within _ _ _ _).mono ?_
    | (dsimp only)
    | split
    | rfl)

theorem keyStatus_within (s : Session) (kind : Nat) (index : Nat) : (keyStatus s kind index).Within 0x4000000000000000000000000000000000000000000000000000000000000000000000000000000000000000000000000000000000000000000000000000000001000000000000000000000 := by
  unfold keyStatus
  repeat' (first
    | with_reducible exact within_skip
    | with_reducible refine within_read fun _ => ?_
    | with_reducible refine within_all_cons ?_ ?_
    | with_reducible refine within_all_one ?_
    | with_reducible refine within_seq ?_ ?_
    | with_reducible refine within_ite ?_ ?_
    | with_reducible refine (keyAnswer_within _ _ _ _).mono ?_
    | (dsimp only)
    | split
    | rfl)

theorem keyMaterialWrite_within (off : Nat) (size : Nat) : (keyMaterialWrite off size).Within 0x2000000000000000000000 := by
  unfold keyMaterialWrite
  repeat' (first
    | with_reducible exact within_skip
    | with_reducible refine within_read fun _ => ?_
    | with_reducible refine within_all_cons ?_ ?_
    | with_reducible refine within_all_one ?_
    | with_reducible refine within_seq ?_ ?_
    | with_reducible refine within_when ?_
    | with_reducible refine within_inc ?_
    | (dsimp only)
    | split
    | rfl)

theorem rotStart_within (s : Nat) (n : Nat) (auto : Bool) : (rotStart s n auto).Within 0x200000000000000000000000000000000000000000000000000000000000000000000000000000000000000000000000000000000000000000000000000000be40000000000000000000c0000 := by
  unfold rotStart
  repeat' (first
    | with_reducible exact within_skip
    | with_reducible refine within_read fun _ => ?_
    | with_reducible refine within_all_cons ?_ ?_
    | with_reducible refine within_all_one ?_
    | with_reducible refine within_seq ?_ ?_
    | with_reducible refine within_set ?_
    | with_reducible refine within_keys ?_
    | with_reducible refine (tdlUpdate_within).mono ?_
    | (dsimp only)
    | split
    | rfl)

theorem tdlSlotStart_within (s : Nat) (n : Nat) : (tdlSlotStart s n).Within 0x200000000000000000000000000000000000000000000000000000000000000000000000000000000000000000000000000000000000000000000000000000be40000000000000000000c0000 := by
  unfold tdlSlotStart
  repeat' (first
    | with_reducible exact within_skip
    | with_reducible refine within_read fun _ => ?_
    | with_reducible refine within_all_cons ?_ ?_
    | with_reducible refine within_all_one ?_
    | with_reducible refine within_seq ?_ ?_
    | with_reducible refine within_ite ?_ ?_
    | with_reducible refine within_when ?_
    | with_reducible refine within_set ?_
    | with_reducible refine (rotStart_within _ _ _).mono ?_
    | (dsimp only)
    | split
    | rfl)

theorem needNextKey_within (n : Nat) : (needNextKey n).Within 0x1604000000000000000000000000000000000000000000000013000000000000000000000000000000000000000000000000000000000000000100000000000000000000000000000000000000 := by
  unfold needNextKey
  repeat' (first
    | with_reducible exact within_skip
    | with_reducible refine within_read fun _ => ?_
    | with_reducible refine within_all_cons ?_ ?_
    | with_reducible refine within_all_one ?_
    | with_reducible refine within_seq ?_ ?_
    | with_reducible refine within_keys ?_
    | with_reducible refine (lhLog_within _ _ _ _ _).mono ?_
    | with_reducible refine (evViewers_within _ _ _ _).mono ?_
    | (dsimp only)
    | split
    | rfl)

theorem rotationAutoStart_within (n : Nat) : (rotationAutoStart n).Within 0x1604000000000000000000000000000000000000000000000013000000000000000000000000000000000000000000000000000000000000000100000000000be40000000000000000000c0000 := by
  unfold rotationAutoStart
  repeat' (first
    | with_reducible exact within_skip
    | with_reducible refine within_read fun _ => ?_
    | with_reducible refine within_all_cons ?_ ?_
    | with_reducible refine within_all_one ?_
    | with_reducible refine within_seq ?_ ?_
    | with_reducible refine within_ite ?_ ?_
    | with_reducible refine within_when ?_
    | with_reducible refine within_keys ?_
    | with_reducible refine within_free ?_ fun _ => ?_
    | with_reducible refine (needNextKey_within _).mono ?_
    | with_reducible refine (rotStart_within _ _ _).mono ?_
    | (dsimp only)
    | split
    | rfl)

theorem nextKeyReminder_within (n : Nat) : (nextKeyReminder n).Within 0x1604000000000000000000000000000000000000000000000013000000000000000000000000000000000000000000000000000000000000000100000000000000000000000000000000000000 := by
  unfold nextKeyReminder
  repeat' (first
    | with_reducible exact within_skip
    | with_reducible refine within_read fun _ => ?_
    | with_reducible refine within_all_cons ?_ ?_
    | with_reducible refine within_all_one ?_
    | with_reducible refine within_seq ?_ ?_
    | with_reducible refine within_when ?_
    | with_reducible refine (needNextKey_within _).mono ?_
    | (dsimp only)
    | split
    | rfl)

theorem tdlSlotPause_within (which : Option Nat) (v : Bool) : (tdlSlotPause which v).Within 0x30040000000000000000040000 := by
  unfold tdlSlotPause
  repeat' (first
    | with_reducible exact within_skip
    | with_reducible refine within_read fun _ => ?_
    | with_reducible refine within_all_cons ?_ ?_
    | with_reducible refine within_all_one ?_
    | with_reducible refine within_seq ?_ ?_
    | with_reducible refine within_when ?_
    | with_reducible refine within_set ?_
    | with_reducible refine (tdlUpdate_within).mono ?_
    | (dsimp only)
    | split
    | rfl)

theorem tdlAdvance_within (s : Nat) : (tdlAdvance s).Within 0x300000000000000000000080000 := by
  unfold tdlAdvance
  repeat' (first
    | with_reducible exact within_skip
    | with_reducible refine within_read fun _ => ?_
    | with_reducible refine within_all_cons ?_ ?_
    | with_reducible refine within_all_one ?_
    | with_reducible refine within_seq ?_ ?_
    | with_reducible refine within_when ?_
    | with_reducible refine within_set ?_
    | (dsimp only)
    | split
    | rfl)

theorem tdlMark_within (s : Nat) (r : Nat) : (tdlMark s r).Within 0x200000000000000000000000000000000000000000000000000000000000000000000000000000000000000000000000000000000000000000000000000000300800000000000000000080000 := by
  unfold tdlMark
  repeat' (first
    | with_reducible exact within_skip
    | with_reducible refine within_read fun _ => ?_
    | with_reducible refine within_all_cons ?_ ?_
    | with_reducible refine within_all_one ?_
    | with_reducible refine within_seq ?_ ?_
    | with_reducible refine within_ite ?_ ?_
    | with_reducible refine within_when ?_
    | with_reducible refine within_set ?_
    | with_reducible refine within_inc ?_
    | with_reducible refine within_keys ?_
    | with_reducible refine (tdlAdvance_within _).mono ?_
    | (dsimp only)
    | split
    | rfl)

theorem tdlPass_within (s : Nat) (r : Nat) : (tdlPass s r).Within 0x200000000000000000000000000000000000000000000000000000000000000000000000000000000000000000000000000000000000000000000000000000400000000000000000000000000 := by
  unfold tdlPass
  repeat' (first
    | with_reducible exact within_skip
    | with_reducible refine within_read fun _ => ?_
    | with_reducible refine within_all_cons ?_ ?_
    | with_reducible refine within_all_one ?_
    | with_reducible refine within_seq ?_ ?_
    | with_reducible refine within_ite ?_ ?_
    | with_reducible refine within_inc ?_
    | with_reducible refine within_keys ?_
    | (dsimp only)
    | split
    | rfl)

theorem rotatePage_within (s : Nat) (n : Nat) (pn : Nat) : (rotatePage s n pn).Within 0x109f4f000000000000000000000000000000000000000002840013e0ea04c008000020000000000008000000080000000000000000000000000001000000000003008000000000de1e0000080000 := by
  unfold rotatePage
  repeat' (first
    | with_reducible exact within_skip
    | with_reducible refine within_read fun _ => ?_
    | with_reducible refine within_all_cons ?_ ?_
    | with_reducible refine within_all_one ?_
    | with_reducible refine within_seq ?_ ?_
    | with_reducible refine within_ite ?_ ?_
    | with_reducible refine within_rcd ?_
    | with_reducible refine within_page ?_
    | with_reducible refine (tdlMark_within _ _).mono ?_
    | with_reducible refine (poisonLines_within _ _ _ _ _).mono ?_
    | with_reducible refine (chargeExtent_within _ _ _ _).mono ?_
    | with_reducible refine (writeExtent_within _ _ _ _ _ _).mono ?_
    | with_reducible refine (tagOp_within _ _ _ _ _ _).mono ?_
    | (dsimp only)
    | split
    | rfl)

theorem tidelinePageRotate_within (s : Nat) : (tidelinePageRotate s).Within 0x109f4f000000000000000000000000000000000000000002840013e0ea04c008000020000000000008000000080000000000000000000000000001000000000007008000000000de1e0000080000 := by
  unfold tidelinePageRotate
  repeat' (first
    | with_reducible exact within_skip
    | with_reducible refine within_read fun _ => ?_
    | with_reducible refine within_all_cons ?_ ?_
    | with_reducible refine within_all_one ?_
    | with_reducible refine within_seq ?_ ?_
    | with_reducible refine within_ite ?_ ?_
    | with_reducible refine within_when ?_
    | with_reducible refine within_rcd ?_
    | with_reducible refine within_some? fun _ => ?_
    | with_reducible refine (tdlAdvance_within _).mono ?_
    | with_reducible refine (tdlPass_within _ _).mono ?_
    | with_reducible refine (rotatePage_within _ _ _).mono ?_
    | (dsimp only)
    | split
    | rfl)

theorem imageRewrite_within (s : Nat) : (imageRewrite s).Within 0x6246000000000000000000000000000000000000000000000000000000000000000000000000000000000000000000000000000000000000000000000000000700000000000000000000080000 := by
  unfold imageRewrite
  repeat' (first
    | with_reducible exact within_skip
    | with_reducible refine within_read fun _ => ?_
    | with_reducible refine within_all_cons ?_ ?_
    | with_reducible refine within_all_one ?_
    | with_reducible refine within_seq ?_ ?_
    | with_reducible refine within_ite ?_ ?_
    | with_reducible refine within_when ?_
    | with_reducible refine within_rcd ?_
    | with_reducible refine within_some? fun _ => ?_
    | with_reducible refine (tdlAdvance_within _).mono ?_
    | with_reducible refine (tdlPass_within _ _).mono ?_
    | with_reducible refine (getImage_within _ _ _).mono ?_
    | (dsimp only)
    | split
    | rfl)

theorem kcvAdvance_within (n : Nat) (tags : Bool) : (kcvAdvance n tags).Within 0x200000000000000000000000000000000000000000000000000000000000000000000000000000000000000000000000000000000000000000000000000000000000000000000000000000000 := by
  unfold kcvAdvance
  repeat' (first
    | with_reducible exact within_skip
    | with_reducible refine within_read fun _ => ?_
    | with_reducible refine within_all_cons ?_ ?_
    | with_reducible refine within_all_one ?_
    | with_reducible refine within_seq ?_ ?_
    | with_reducible refine within_ite ?_ ?_
    | with_reducible refine within_keys ?_
    | (dsimp only)
    | split
    | rfl)

theorem rotationFinish_within (s : Nat) : (rotationFinish s).Within 0x120000000000000000000000000000000000000000000000001300000000000000000000000000000000000000000000000000000000000000000000000000032003c4000000000000008d4000 := by
  unfold rotationFinish
  repeat' (first
    | with_reducible exact within_skip
    | with_reducible refine within_read fun _ => ?_
    | with_reducible refine within_all_cons ?_ ?_
    | with_reducible refine within_all_one ?_
    | with_reducible refine within_seq ?_ ?_
    | with_reducible refine within_ite ?_ ?_
    | with_reducible refine within_when ?_
    | with_reducible refine within_set ?_
    | with_reducible refine within_keys ?_
    | with_reducible refine (tdlAdvance_within _).mono ?_
    | with_reducible refine (kcvAdvance_within _ _).mono ?_
    | with_reducible refine (zeroSlot_within _ _).mono ?_
    | with_reducible refine (lhLog_within _ _ _ _ _).mono ?_
    | with_reducible refine (keysUpdate_within).mono ?_
    | (dsimp only)
    | split
    | rfl)

theorem rotationStop_within (n : Nat) : (rotationStop n).Within 0x200000000000000000000000000000000000000000000000000000000000000000000000000000000000000000000000000000000000000000000000000000020000000000000000000040000 := by
  unfold rotationStop
  repeat' (first
    | with_reducible exact within_skip
    | with_reducible refine within_read fun _ => ?_
    | with_reducible refine within_all_cons ?_ ?_
    | with_reducible refine within_all_one ?_
    | with_reducible refine within_seq ?_ ?_
    | with_reducible refine within_set ?_
    | with_reducible refine within_keys ?_
    | with_reducible refine within_some? fun _ => ?_
    | (dsimp only)
    | split
    | rfl)

end Sys2Proof.Machine
end

