-- ==== Sys2Proof/Laws/WithinLineOps.lean ====
section
/-!
SUPPORT. What each program of Machine/LineOps.lean can change: one lemma each, over the places of Laws/Acts.lean.
-/

namespace Sys2Proof.Machine

set_option linter.unusedTactic false
set_option linter.unreachableTactic false

theorem noteAsk_within (r : RemReq) : (noteAsk r).Within 0x80000000000000000000000000000000000000000000000000000000000000000000000000000000000000000000000000000000000000000000000000000000000000000000000000000000 := by
  unfold noteAsk
  repeat' (first
    | with_reducible exact within_skip
    | with_reducible refine within_read fun _ => ?_
    | with_reducible refine within_all_cons ?_ ?_
    | with_reducible refine within_all_one ?_
    | with_reducible refine within_seq ?_ ?_
    | with_reducible refine within_dir ?_
    | (dsimp only)
    | split
    | rfl)

theorem ask_within (a : Agent) (tag : Nat) (line : Nat) (kind : ReqOp) (f : Req → Req) : (ask a tag line kind f).Within 0x2fcce000000000000000000000000000000000000001802800013e0ea04c00800000000000000000000080000000000000000000040080000000100800007c5c002000000400000400001000000 := by
  unfold ask
  repeat' (first
    | with_reducible exact within_skip
    | with_reducible refine within_read fun _ => ?_
    | with_reducible refine within_all_cons ?_ ?_
    | with_reducible refine within_all_one ?_
    | with_reducible refine within_seq ?_ ?_
    | with_reducible refine within_ite ?_ ?_
    | with_reducible refine (noteAsk_within _).mono ?_
    | with_reducible refine (begin_within _).mono ?_
    | with_reducible refine (wake_within _).mono ?_
    | with_reducible refine (send_within _ _).mono ?_
    | with_reducible refine Act.newId_within _  (fun _ => ?_) ?_
    | (dsimp only)
    | split
    | rfl)

theorem askWrite_within (a : Agent) (tag : Nat) (line : Nat) (data : LineVal) (mask : Nat) (hint : Nat) (peer : Nat) : (askWrite a tag line data mask hint peer).Within 0x2fcce000000000000000000000000000000000000001802800013e0ea04c00800000000000000000000080000000000000000000040080000000100800007c5c002000000600000400001000000 := by
  unfold askWrite
  repeat' (first
    | with_reducible exact within_skip
    | with_reducible refine within_read fun _ => ?_
    | with_reducible refine within_all_cons ?_ ?_
    | with_reducible refine within_all_one ?_
    | with_reducible refine within_seq ?_ ?_
    | with_reducible refine within_ite ?_ ?_
    | with_reducible refine within_when ?_
    | with_reducible refine within_inc ?_
    | with_reducible refine (ask_within _ _ _ _ _).mono ?_
    | (dsimp only)
    | split
    | rfl)

end Sys2Proof.Machine
end

