-- ==== Sys2Proof/Laws/WithinTiers.lean ====
section
/-!
SUPPORT. What each program of Machine/Tiers.lean can change: one lemma each, over the places of Laws/Acts.lean.
-/

namespace Sys2Proof.Machine

set_option linter.unusedTactic false
set_option linter.unreachableTactic false

theorem heatPeriodAdvance_within  : heatPeriodAdvance.Within 0xc000000000000000 := by
  unfold heatPeriodAdvance
  repeat' (first
    | with_reducible exact within_skip
    | with_reducible refine within_read fun _ => ?_
    | with_reducible refine within_all_cons ?_ ?_
    | with_reducible refine within_all_one ?_
    | with_reducible refine within_seq ?_ ?_
    | with_reducible refine within_ite ?_ ?_
    | with_reducible refine within_when ?_
    | with_reducible refine within_inc ?_
    | (dsimp only)
    | split
    | rfl)

theorem scanStep_within (pn : Nat) : (scanStep pn).Within 0x8100000000000000000000000000000000000000001800000000000000000000000000000000000000000000000000000000000000000000000000000000000000000000000000000000000000 := by
  unfold scanStep
  repeat' (first
    | with_reducible exact within_skip
    | with_reducible refine within_read fun _ => ?_
    | with_reducible refine within_all_cons ?_ ?_
    | with_reducible refine within_all_one ?_
    | with_reducible refine within_seq ?_ ?_
    | with_reducible refine within_ite ?_ ?_
    | with_reducible refine within_set ?_
    | with_reducible refine within_grain ?_
    | with_reducible refine (stage_within _ _).mono ?_
    | (dsimp only)
    | split
    | rfl)

theorem ageing_within (pn : Nat) : (ageing pn).Within 0x2000000000000000000000000000000000000000000000000000000000000000000000000000000000000000000000000000000000000000000000000000000000000000000000000000000 := by
  unfold ageing
  repeat' (first
    | with_reducible exact within_skip
    | with_reducible refine within_read fun _ => ?_
    | with_reducible refine within_all_cons ?_ ?_
    | with_reducible refine within_all_one ?_
    | with_reducible refine within_seq ?_ ?_
    | with_reducible refine within_when ?_
    | with_reducible refine within_rcd ?_
    | (dsimp only)
    | split
    | rfl)

theorem placeDecision_within (n : Nat) (pn : Nat) : (placeDecision n pn).Within 0x10ff4f000000000000000000000000000000000000000002840013e0ea04c008000020000000000008000000080000000000000000000000000001000000000000020000000706de1e0000000000 := by
  unfold placeDecision
  repeat' (first
    | with_reducible exact within_skip
    | with_reducible refine within_read fun _ => ?_
    | with_reducible refine within_all_cons ?_ ?_
    | with_reducible refine within_all_one ?_
    | with_reducible refine within_seq ?_ ?_
    | with_reducible refine within_ite ?_ ?_
    | with_reducible refine within_when ?_
    | with_reducible refine within_rcd ?_
    | with_reducible refine within_grain ?_
    | with_reducible refine (sink_within _ _).mono ?_
    | with_reducible refine (lift_within _ _ _).mono ?_
    | with_reducible refine (startPush_within _ _).mono ?_
    | (dsimp only)
    | split
    | rfl)

theorem coldScanVisit_within (pn : Nat) : (coldScanVisit pn).Within 0x10ff4f000000000000000000000000000000000000001802840013e0ea04c008000020000000000008000000080000000000000000000000000001000000000000020000000706de1e0000000000 := by
  unfold coldScanVisit
  repeat' (first
    | with_reducible exact within_skip
    | with_reducible refine within_read fun _ => ?_
    | with_reducible refine within_all_cons ?_ ?_
    | with_reducible refine within_all_one ?_
    | with_reducible refine within_seq ?_ ?_
    | with_reducible refine within_when ?_
    | with_reducible refine within_rcd ?_
    | with_reducible refine within_page ?_
    | with_reducible refine within_some? fun _ => ?_
    | with_reducible refine (scanStep_within _).mono ?_
    | with_reducible refine (ageing_within _).mono ?_
    | with_reducible refine (placeDecision_within _ _).mono ?_
    | (dsimp only)
    | split
    | rfl)

theorem pageRecall_within (pn : Nat) : (pageRecall pn).Within 0x7c46000000000000000000000000000000000000000000000013e0ea04c00800000000000000000000000000000000000000000000000000000100000000000002000000000000000000000000 := by
  unfold pageRecall
  repeat' (first
    | with_reducible exact within_skip
    | with_reducible refine within_read fun _ => ?_
    | with_reducible refine within_all_cons ?_ ?_
    | with_reducible refine within_all_one ?_
    | with_reducible refine within_seq ?_ ?_
    | with_reducible refine within_when ?_
    | with_reducible refine (startRecall_within _).mono ?_
    | (dsimp only)
    | split
    | rfl)

theorem offerView_within (v : Nat) : (offerView v).Within 0x404000000000000000000000000000000000000000000000000000000000000000000000000000000000000000000000000000000000000000100000000000000000000000000000000000000 := by
  unfold offerView
  repeat' (first
    | with_reducible exact within_skip
    | with_reducible refine within_read fun _ => ?_
    | with_reducible refine within_all_cons ?_ ?_
    | with_reducible refine within_all_one ?_
    | with_reducible refine within_seq ?_ ?_
    | with_reducible refine within_when ?_
    | with_reducible refine within_host ?_
    | with_reducible refine within_some? fun _ => ?_
    | with_reducible refine (evAdd_within _ _ _ _).mono ?_
    | (dsimp only)
    | split
    | rfl)

theorem addCapacityOffer_within  : addCapacityOffer.Within 0x504000000000000000000000000000000000000000000000000000000000000000000000000000000000000000000000000000000000000000100000000000000000000000000000000000000 := by
  unfold addCapacityOffer
  repeat' (first
    | with_reducible exact within_skip
    | with_reducible refine within_read fun _ => ?_
    | with_reducible refine within_all_cons ?_ ?_
    | with_reducible refine within_all_one ?_
    | with_reducible refine within_seq ?_ ?_
    | with_reducible refine within_when ?_
    | with_reducible refine within_grain ?_
    | with_reducible refine within_each fun _ => ?_
    | with_reducible refine (offerView_within _).mono ?_
    | (dsimp only)
    | split
    | rfl)

theorem releaseOut_within  : releaseOut.Within 0x300000000000 := by
  unfold releaseOut
  repeat' (first
    | with_reducible exact within_skip
    | with_reducible refine within_read fun _ => ?_
    | with_reducible refine within_all_cons ?_ ?_
    | with_reducible refine within_all_one ?_
    | with_reducible refine within_seq ?_ ?_
    | with_reducible refine within_set ?_
    | (dsimp only)
    | split
    | rfl)

theorem requestRelease_within (e : Extent) : (requestRelease e).Within 0x2fcce000000000000000000000000000000000000001802800013e0ea04c00800000000000000000000080000000000000000000040080000000100800007c5c002000000400000700001000000 := by
  unfold requestRelease
  repeat' (first
    | with_reducible exact within_skip
    | with_reducible refine within_read fun _ => ?_
    | with_reducible refine within_all_cons ?_ ?_
    | with_reducible refine within_all_one ?_
    | with_reducible refine within_seq ?_ ?_
    | with_reducible refine within_ite ?_ ?_
    | with_reducible refine within_host ?_
    | with_reducible refine (ask_within _ _ _ _ _).mono ?_
    | with_reducible refine (evAdd_within _ _ _ _).mono ?_
    | with_reducible refine (releaseOut_within).mono ?_
    | (dsimp only)
    | split
    | rfl)

theorem releaseLoop_within  : ∀ k, (releaseLoop  k).Within 0x2fcce000000000000000000000000000000000000001802800013e0ea04c00800000000000000000000080000000000000000000040080000000100800007c5c002000000400000700001000000
  | 0 => within_skip
  | k + 1 => by
    unfold releaseLoop
    repeat' (first
      | with_reducible exact within_skip
      | with_reducible exact releaseLoop_within  k
      | with_reducible refine within_read fun _ => ?_
      | with_reducible refine within_all_cons ?_ ?_
      | with_reducible refine within_all_one ?_
      | with_reducible refine within_seq ?_ ?_
      | with_reducible refine within_when ?_
      | with_reducible refine within_some? fun _ => ?_
      | with_reducible refine (requestRelease_within _).mono ?_
      | (dsimp only)
      | split
      | rfl)

theorem releaseRequestEval_within  : releaseRequestEval.Within 0x2fcce000000000000000000000000000000000000001802800013e0ea04c00800000000000000000000080000000000000000000040080000000100800007c5c002000000400000700001000000 := by
  unfold releaseRequestEval
  repeat' (first
    | with_reducible exact within_skip
    | with_reducible refine within_read fun _ => ?_
    | with_reducible refine within_all_cons ?_ ?_
    | with_reducible refine within_all_one ?_
    | with_reducible refine within_seq ?_ ?_
    | with_reducible refine within_when ?_
    | with_reducible refine (releaseLoop_within _).mono ?_
    | (dsimp only)
    | split
    | rfl)

theorem revocation_within (ld : Nat) (start : Nat) : (revocation ld start).Within 0x1c44000000000000000000000000000000000000000000000013e0ea04c00800000000000000000000000000000000000000000000000000000100000000000000000000000000300000000000 := by
  unfold revocation
  repeat' (first
    | with_reducible exact within_skip
    | with_reducible refine within_read fun _ => ?_
    | with_reducible refine within_all_cons ?_ ?_
    | with_reducible refine within_all_one ?_
    | with_reducible refine within_seq ?_ ?_
    | with_reducible refine within_ite ?_ ?_
    | with_reducible refine within_host ?_
    | with_reducible refine within_some? fun _ => ?_
    | with_reducible refine (releaseOut_within).mono ?_
    | with_reducible refine (evAdd_within _ _ _ _).mono ?_
    | with_reducible refine (raise_within _ _ _).mono ?_
    | (dsimp only)
    | split
    | rfl)

theorem exhaustionRecord_within  : exhaustionRecord.Within 0x1100000000000000000000000000000000000000000000000013000000000000000000000000000000000000000000000000000000000000000000000000000000000000000000000000000000 := by
  unfold exhaustionRecord
  repeat' (first
    | with_reducible exact within_skip
    | with_reducible refine within_read fun _ => ?_
    | with_reducible refine within_all_cons ?_ ?_
    | with_reducible refine within_all_one ?_
    | with_reducible refine within_seq ?_ ?_
    | with_reducible refine within_grain ?_
    | with_reducible refine within_each fun _ => ?_
    | with_reducible refine (lhLog_within _ _ _ _ _).mono ?_
    | (dsimp only)
    | split
    | rfl)

theorem grnElasticEnWrite_within (v : Bool) : (grnElasticEnWrite v).Within 0x900000000 := by
  unfold grnElasticEnWrite
  repeat' (first
    | with_reducible exact within_skip
    | with_reducible refine within_read fun _ => ?_
    | with_reducible refine within_all_cons ?_ ?_
    | with_reducible refine within_all_one ?_
    | with_reducible refine within_seq ?_ ?_
    | with_reducible refine within_ite ?_ ?_
    | with_reducible refine within_set ?_
    | (dsimp only)
    | split
    | rfl)

theorem grnLatch_within (p : Path) (h : Nat) : (grnLatch p h).Within 0x100000000000000000000000000000000000000000000000000000000000000000000000000000000000000000000000000000000000000000000000000000000000000000000000000000000 := by
  unfold grnLatch
  repeat' (first
    | with_reducible exact within_skip
    | with_reducible refine within_read fun _ => ?_
    | with_reducible refine within_all_cons ?_ ?_
    | with_reducible refine within_all_one ?_
    | with_reducible refine within_seq ?_ ?_
    | with_reducible refine within_grain ?_
    | (dsimp only)
    | split
    | rfl)

theorem grnFreeRead_within (p : Path) (h : Nat) : (grnFreeRead p h).Within 0x104000000000000000000000000000000000000000000000000000000000000000000000000000000000000000000000000000000000000000000000000000000000000000000000000000000 := by
  unfold grnFreeRead
  repeat' (first
    | with_reducible exact within_skip
    | with_reducible refine within_read fun _ => ?_
    | with_reducible refine within_all_cons ?_ ?_
    | with_reducible refine within_all_one ?_
    | with_reducible refine within_seq ?_ ?_
    | with_reducible refine within_when ?_
    | with_reducible refine within_set ?_
    | with_reducible refine within_emit ?_
    | with_reducible refine (grnLatch_within _ _).mono ?_
    | (dsimp only)
    | split
    | rfl)

end Sys2Proof.Machine
end

