-- ==== Sys2Proof/Laws/WithinAtolls.lean ====
section
/-!
SUPPORT. What each program of Machine/Atolls.lean can change: one lemma each, over the places of Laws/Acts.lean.
-/

namespace Sys2Proof.Machine

set_option linter.unusedTactic false
set_option linter.unreachableTactic false

theorem becomeLive_within (n : Nat) : (becomeLive n).Within 0x17040000000000000000000000000000000000000000000000130000000000000000000000000000000000000000000000000000000000000001000000000000200000000000c01e0002c40004 := by
  unfold becomeLive
  repeat' (first
    | with_reducible exact within_skip
    | with_reducible refine within_read fun _ => ?_
    | with_reducible refine within_all_cons ?_ ?_
    | with_reducible refine within_all_one ?_
    | with_reducible refine within_seq ?_ ?_
    | with_reducible refine within_set ?_
    | with_reducible refine (recordKcv_within _).mono ?_
    | with_reducible refine (tallyAll_within).mono ?_
    | with_reducible refine (keysUpdate_within).mono ?_
    | (dsimp only)
    | split
    | rfl)

theorem unpinTo_within (n h share : Nat) : ∀ k, (unpinTo n h share k).Within 0x40000000000000000000000000000000000000000000000000000000000000000000000000000000000000000000000000000000000000000000000000000000000000000000000000000000
  | 0 => within_skip
  | k + 1 => by
    unfold unpinTo
    repeat' (first
      | with_reducible exact within_skip
      | with_reducible exact unpinTo_within n h share k
      | with_reducible refine within_read fun _ => ?_
      | with_reducible refine within_all_cons ?_ ?_
      | with_reducible refine within_all_one ?_
      | with_reducible refine within_seq ?_ ?_
      | with_reducible refine within_when ?_
      | with_reducible refine within_lines ?_
      | with_reducible refine within_some? fun _ => ?_
      | (dsimp only)
      | split
      | rfl)

theorem unpin_within (n : Nat) : (unpin n).Within 0x40000000000000000000000000000000000000000000000000000000000000000000000000000000000000000000000000000000000000000000000000000000000000000000000000000000 := by
  unfold unpin
  repeat' (first
    | with_reducible exact within_skip
    | with_reducible refine within_read fun _ => ?_
    | with_reducible refine within_all_cons ?_ ?_
    | with_reducible refine within_all_one ?_
    | with_reducible refine within_seq ?_ ?_
    | with_reducible refine within_ite ?_ ?_
    | with_reducible refine within_each fun _ => ?_
    | with_reducible refine (unpinTo_within _ _ _ _).mono ?_
    | (dsimp only)
    | split
    | rfl)

theorem visitorsWriteBack_within (n : Nat) : (visitorsWriteBack n).Within 0x2fcce000000000000000000000000000000000000001802800013e0ea04c00800000000000000000000080000000000000000000040080000000100800007c50002000000400000400001000000 := by
  unfold visitorsWriteBack
  repeat' (first
    | with_reducible exact within_skip
    | with_reducible refine within_read fun _ => ?_
    | with_reducible refine within_all_cons ?_ ?_
    | with_reducible refine within_all_one ?_
    | with_reducible refine within_seq ?_ ?_
    | with_reducible refine within_each fun _ => ?_
    | with_reducible refine (advance_within _ _).mono ?_
    | with_reducible refine (visEvict_within _).mono ?_
    | with_reducible refine Act.newId_within _  (fun _ => ?_) ?_
    | (dsimp only)
    | split
    | rfl)

theorem liveEffects_within (n : Nat) (b : Mach) : (liveEffects n b).Within 0x2ffce000000000000000000000000000000000000001802800013e0ea04c00800000000000000000000080000000000000000000040080000000100800007c500220000004000c05e0001840000 := by
  unfold liveEffects
  repeat' (first
    | with_reducible exact within_skip
    | with_reducible refine within_read fun _ => ?_
    | with_reducible refine within_all_cons ?_ ?_
    | with_reducible refine within_all_one ?_
    | with_reducible refine within_seq ?_ ?_
    | with_reducible refine within_when ?_
    | with_reducible refine within_keys ?_
    | with_reducible refine within_each fun _ => ?_
    | with_reducible refine (unpin_within _).mono ?_
    | with_reducible refine (visitorsWriteBack_within _).mono ?_
    | with_reducible refine (startRecall_within _).mono ?_
    | with_reducible refine (recordKcv_within _).mono ?_
    | with_reducible refine (keysUpdate_within).mono ?_
    | with_reducible refine (tallyAll_within).mono ?_
    | (dsimp only)
    | split
    | rfl)

theorem dropLines_within (p : Nat → Bool) : (dropLines p).Within 0x40000000000000000000000000000000000000000000000000000000000000000000000000000000000000000000000000000000000000000000000000000000000000000000000000000000 := by
  unfold dropLines
  repeat' (first
    | with_reducible exact within_skip
    | with_reducible refine within_read fun _ => ?_
    | with_reducible refine within_all_cons ?_ ?_
    | with_reducible refine within_all_one ?_
    | with_reducible refine within_seq ?_ ?_
    | with_reducible refine within_lines ?_
    | (dsimp only)
    | split
    | rfl)

theorem forgetPage_within (pn : Nat) : (forgetPage pn).Within 0x17d46000000000000000000000000000000000000000000000013e0ea04c008000020000000000000000000081000000000000000000000000001000000000000000000000000de1e0000000000 := by
  unfold forgetPage
  repeat' (first
    | with_reducible exact within_skip
    | with_reducible refine within_read fun _ => ?_
    | with_reducible refine within_all_cons ?_ ?_
    | with_reducible refine within_all_one ?_
    | with_reducible refine within_seq ?_ ?_
    | with_reducible refine within_when ?_
    | with_reducible refine within_rcd ?_
    | with_reducible refine within_page ?_
    | with_reducible refine within_host ?_
    | with_reducible refine within_grain ?_
    | with_reducible refine (dropLines_within _).mono ?_
    | with_reducible refine (abandonPush_within _).mono ?_
    | with_reducible refine (release_within _ _ _).mono ?_
    | with_reducible refine (freeExtent_within _ _ _).mono ?_
    | (dsimp only)
    | split
    | rfl)

theorem freeMaps_within (n : Nat) : (freeMaps n).Within 0x1d44000000000000000000000000000000000000000000000013e0ea04c0080000200000000000000000000800000000000000000000000000010000000000000000000000001e000000000000 := by
  unfold freeMaps
  repeat' (first
    | with_reducible exact within_skip
    | with_reducible refine within_read fun _ => ?_
    | with_reducible refine within_all_cons ?_ ?_
    | with_reducible refine within_all_one ?_
    | with_reducible refine within_seq ?_ ?_
    | with_reducible refine within_grain ?_
    | with_reducible refine within_each fun _ => ?_
    | with_reducible refine (movePlots_within _ _ _ _ _).mono ?_
    | (dsimp only)
    | split
    | rfl)

theorem dropAtoll_within (n : Nat) : (dropAtoll n).Within 0x2c0cc000000000000000000000000000000000000001802800000000000000000000000000000000000000000000000000000000040080000000000000000000000000000000000000000000000 := by
  unfold dropAtoll
  repeat' (first
    | with_reducible exact within_skip
    | with_reducible refine within_read fun _ => ?_
    | with_reducible refine within_all_cons ?_ ?_
    | with_reducible refine within_all_one ?_
    | with_reducible refine within_seq ?_ ?_
    | with_reducible refine within_lines ?_
    | with_reducible refine within_dir ?_
    | with_reducible refine within_each fun _ => ?_
    | with_reducible refine (answerDead_within _).mono ?_
    | with_reducible refine (dropLines_within _).mono ?_
    | with_reducible refine (visEvict_within _).mono ?_
    | (dsimp only)
    | split
    | rfl)

theorem dropRanges_within (x : Nat) : (dropRanges x).Within 0x20000000000000000000000000000000000000000000000000000000000000000000000000000000000000000000000000000000000000000000000000000000000000000000000000000000000 := by
  unfold dropRanges
  repeat' (first
    | with_reducible exact within_skip
    | with_reducible refine within_read fun _ => ?_
    | with_reducible refine within_all_cons ?_ ?_
    | with_reducible refine within_all_one ?_
    | with_reducible refine within_seq ?_ ?_
    | with_reducible refine within_fry ?_
    | (dsimp only)
    | split
    | rfl)

theorem retireStart_within (n : Nat) : (retireStart n).Within 0x2e2ce000000000000000000000000000000000000001802800000000000000000000000000000000000000000100000000000000040080000000000000000000020000000000000000000040000 := by
  unfold retireStart
  repeat' (first
    | with_reducible exact within_skip
    | with_reducible refine within_read fun _ => ?_
    | with_reducible refine within_all_cons ?_ ?_
    | with_reducible refine within_all_one ?_
    | with_reducible refine within_seq ?_ ?_
    | with_reducible refine within_rcd ?_
    | with_reducible refine within_page ?_
    | with_reducible refine within_each fun _ => ?_
    | with_reducible refine (dropAtoll_within _).mono ?_
    | with_reducible refine (rotationStop_within _).mono ?_
    | with_reducible refine (dropRanges_within _).mono ?_
    | with_reducible refine (release_within _ _ _).mono ?_
    | (dsimp only)
    | split
    | rfl)

theorem retireEnd_within (n : Nat) : (retireEnd n).Within 0x17f46000000000000000000000000000000000000000000000013e0ea04c0080000200000000000000000000810000000000000000000000000010000000000002003c4000000de1e0002840104 := by
  unfold retireEnd
  repeat' (first
    | with_reducible exact within_skip
    | with_reducible refine within_read fun _ => ?_
    | with_reducible refine within_all_cons ?_ ?_
    | with_reducible refine within_all_one ?_
    | with_reducible refine within_seq ?_ ?_
    | with_reducible refine within_set ?_
    | with_reducible refine within_keys ?_
    | with_reducible refine within_arc ?_
    | with_reducible refine within_each fun _ => ?_
    | with_reducible refine (forgetPage_within _).mono ?_
    | with_reducible refine (freeMaps_within _).mono ?_
    | with_reducible refine (zeroSlot_within _ _).mono ?_
    | with_reducible refine (tallyAll_within).mono ?_
    | with_reducible refine (keysUpdate_within).mono ?_
    | with_reducible refine (lhLog_within _ _ _ _ _).mono ?_
    | (dsimp only)
    | split
    | rfl)

theorem entryRefuse_within (n : Nat) (codes : List Nat) : (entryRefuse n codes).Within 0x400000 := by
  unfold entryRefuse
  repeat' (first
    | with_reducible exact within_skip
    | with_reducible refine within_read fun _ => ?_
    | with_reducible refine within_all_cons ?_ ?_
    | with_reducible refine within_all_one ?_
    | with_reducible refine within_seq ?_ ?_
    | with_reducible refine within_set ?_
    | (dsimp only)
    | split
    | rfl)

theorem bindRemote_within (n : Nat) : (bindRemote n).Within 0x6044000000000000000000000000000000000000000000000000000000000000000000000000000000000000000000000000000000000000000000000000000000000000000000000000400000 := by
  unfold bindRemote
  repeat' (first
    | with_reducible exact within_skip
    | with_reducible refine within_read fun _ => ?_
    | with_reducible refine within_all_cons ?_ ?_
    | with_reducible refine within_all_one ?_
    | with_reducible refine within_seq ?_ ?_
    | with_reducible refine within_ite ?_ ?_
    | with_reducible refine within_arc ?_
    | with_reducible refine (send_within _ _).mono ?_
    | with_reducible refine (entryRefuse_within _ _).mono ?_
    | with_reducible refine Act.newId_within _  (fun _ => ?_) ?_
    | (dsimp only)
    | split
    | rfl)

theorem entryWrite_within {K : Nat} (n : Nat) (l : List (Fld × Nat)) (h0 : ∀ x ∈ l, K.testBit x.1.ctorIdx = true)
    (hK : inside 0x2ffce000000000000000000000000000000000000001802800013e0ea04c00800000000000000000000080000100000000000000040080000000100800007c500220000004000c05e0003c40004 K = true) : (entryWrite n l).Within K := by
  unfold entryWrite
  refine within_read fun m => ?_
  dsimp only
  have hput : (Act.each (l.filter fun x => x.1 != .ATL_STATE) fun x => .set x.1 n x.2).Within K :=
    within_each_mem fun x hx => within_set (h0 x (List.mem_of_mem_filter hx))
  repeat' (first
    | with_reducible exact within_skip
    | with_reducible exact hput
    | with_reducible refine within_all_cons ?_ ?_
    | with_reducible refine within_all_one ?_
    | with_reducible refine within_seq ?_ ?_
    | with_reducible refine within_when ?_
    | with_reducible refine within_ite ?_ ?_
    | with_reducible refine within_set ?_
    | with_reducible refine (entryRefuse_within _ _).mono ?_
    | with_reducible refine (bindRemote_within _).mono ?_
    | with_reducible refine (becomeLive_within _).mono ?_
    | with_reducible refine (retireStart_within _).mono ?_
    | with_reducible refine (liveEffects_within _ _).mono ?_
    | split
    | ((with_reducible refine inside_trans ?_ hK); rfl)
    | ((with_reducible refine inside_bit hK ?_); rfl))

theorem atlFields_bit (off : Nat) : ∀ x ∈ atlFields off, Nat.testBit 0x2ffce000000000000000000000000000000000000001802800013e0ea04c00800000000000000000000080000100000000000000040080000000100800007c500220000004000c05e0003c7feff x.1.ctorIdx = true := by
  unfold atlFields
  split <;> decide

theorem atollEntryWrite_within (n off value : Nat) : (atollEntryWrite n off value).Within 0x2ffce000000000000000000000000000000000000001802800013e0ea04c00800000000000000000000080000100000000000000040080000000100800007c500220000004000c05e0003c7feff := by
  refine within_read fun _ => within_when (entryWrite_within _ _ (fun x hx => ?_) (by decide))
  obtain ⟨y, hy, rfl⟩ := List.mem_map.mp hx
  exact atlFields_bit off y hy

theorem atollBuild_within (n : Nat) : (atollBuild n).Within 0x2ffce000000000000000000000000000000000000001802800013e0ea04c00800000000000000000000080000100000000000000040080000000100800007c500220000004000c05e0003c40004 :=
  entryWrite_within _ _ (by simp only [List.mem_cons, List.not_mem_nil, or_false]; rintro x rfl; rfl) (by decide)

theorem atollUnbuild_within (n : Nat) : (atollUnbuild n).Within 0x2ffce000000000000000000000000000000000000001802800013e0ea04c00800000000000000000000080000100000000000000040080000000100800007c500220000004000c05e0003c40004 :=
  entryWrite_within _ _ (by simp only [List.mem_cons, List.not_mem_nil, or_false]; rintro x rfl; rfl) (by decide)

theorem atollAdmit_within (n : Nat) : (atollAdmit n).Within 0x2ffce000000000000000000000000000000000000001802800013e0ea04c00800000000000000000000080000100000000000000040080000000100800007c500220000004000c05e0003c40004 :=
  entryWrite_within _ _ (by simp only [List.mem_cons, List.not_mem_nil, or_false]; rintro x rfl; rfl) (by decide)

theorem atollRetire_within (n : Nat) : (atollRetire n).Within 0x2ffce000000000000000000000000000000000000001802800013e0ea04c00800000000000000000000080000100000000000000040080000000100800007c500220000004000c05e0003c40004 :=
  entryWrite_within _ _ (by simp only [List.mem_cons, List.not_mem_nil, or_false]; rintro x rfl; rfl) (by decide)

theorem atollLiveChange_within (n : Nat) (f : AtlField) (value : Nat) : (atollLiveChange n f value).Within 0x2ffce000000000000000000000000000000000000001802800013e0ea04c00800000000000000000000080000100000000000000040080000000100800007c500220000004000c05e0003c7feff := by
  refine within_read fun _ => within_when (entryWrite_within _ _ ?_ (by decide))
  simp only [List.mem_cons, List.not_mem_nil, or_false]
  rintro x rfl
  cases f <;> dsimp only [atlField] <;> rfl

theorem atollRetireComplete_within (n : Nat) : (atollRetireComplete n).Within 0x17f46000000000000000000000000000000000000000000000013e0ea04c0080000200000000000000000000810000000000000000000000000010000000000002003c4000000de1e0002840104 := by
  unfold atollRetireComplete
  repeat' (first
    | with_reducible exact within_skip
    | with_reducible refine within_read fun _ => ?_
    | with_reducible refine within_all_cons ?_ ?_
    | with_reducible refine within_all_one ?_
    | with_reducible refine within_seq ?_ ?_
    | with_reducible refine within_when ?_
    | with_reducible refine (retireEnd_within _).mono ?_
    | (dsimp only)
    | split
    | rfl)

theorem regionsChanged_within (ld : Nat) (n : Nat) : (regionsChanged ld n).Within 0x404000000000000000000000000000000000000000000000000000000000000000000000000000000000000000000000000000000000000000100000000000000000000000000000000000000 := by
  unfold regionsChanged
  repeat' (first
    | with_reducible exact within_skip
    | with_reducible refine within_read fun _ => ?_
    | with_reducible refine within_all_cons ?_ ?_
    | with_reducible refine within_all_one ?_
    | with_reducible refine within_seq ?_ ?_
    | with_reducible refine within_when ?_
    | with_reducible refine (evAdd_within _ _ _ _).mono ?_
    | (dsimp only)
    | split
    | rfl)

theorem viewClose_within (v : Nat) : (viewClose v).Within 0x2008400000000000000000000000000000000000000000000000000000000000000000000000000000000000000000000000000000000000000000000000000000000000000000000004c000000 := by
  unfold viewClose
  repeat' (first
    | with_reducible exact within_skip
    | with_reducible refine within_read fun _ => ?_
    | with_reducible refine within_all_cons ?_ ?_
    | with_reducible refine within_all_one ?_
    | with_reducible refine within_seq ?_ ?_
    | with_reducible refine within_when ?_
    | with_reducible refine within_set ?_
    | with_reducible refine within_emit ?_
    | with_reducible refine within_dir ?_
    | with_reducible refine within_each fun _ => ?_
    | with_reducible refine (dropRanges_within _).mono ?_
    | (dsimp only)
    | split
    | rfl)

theorem slotWrite_within {K : Nat} (n : Nat) (l : List (Fld × Nat)) (h0 : ∀ x ∈ l, K.testBit x.1.ctorIdx = true)
    (hK : inside 0x2048400000000000000000000000000000000000000000000000000000000000000000000000000000000000000000000000000000000000000010000000000000000000000000000004c000000 K = true) : (slotWrite n l).Within K := by
  unfold slotWrite
  refine within_read fun m => ?_
  dsimp only
  have hput : (Act.each l fun x => .set x.1 n x.2).Within K :=
    within_each_mem fun x hx => within_set (h0 x hx)
  repeat' (first
    | with_reducible exact within_skip
    | with_reducible exact hput
    | with_reducible refine within_all_cons ?_ ?_
    | with_reducible refine within_all_one ?_
    | with_reducible refine within_seq ?_ ?_
    | with_reducible refine within_when ?_
    | with_reducible refine within_ite ?_ ?_
    | with_reducible refine within_set ?_
    | with_reducible refine (viewClose_within _).mono ?_
    | with_reducible refine (regionsChanged_within _ _).mono ?_
    | split
    | ((with_reducible refine inside_trans ?_ hK); rfl)
    | ((with_reducible refine inside_bit hK ?_); rfl))

theorem viewOpen_within (v ld n base : Nat) : (viewOpen v ld n base).Within 0x204840000000000000000000000000000000000000000000000000000000000000000000000000000000000000000000000000000000000000001000000000000000000000000000000fc000000 := by
  refine slotWrite_within _ _ ?_ (by decide)
  simp only [List.mem_cons, List.not_mem_nil, or_false]
  rintro x (rfl | rfl | rfl | rfl) <;> dsimp only <;> rfl

theorem viewCloseCmd_within (v : Nat) : (viewCloseCmd v).Within 0x204840000000000000000000000000000000000000000000000000000000000000000000000000000000000000000000000000000000000000001000000000000000000000000000000fc000000 := by
  refine slotWrite_within _ _ ?_ (by decide)
  simp only [List.mem_cons, List.not_mem_nil, or_false]
  rintro x rfl
  rfl

theorem releaseRange_within (ld : Nat) (base : Nat) (len : Nat) : (releaseRange ld base len).Within 0x17d46000000000000000000000000000000000000000000000013e0ea04c008000020000000000000000000081000000000000000000000000001000000000000000000000000de1e0000000000 := by
  unfold releaseRange
  repeat' (first
    | with_reducible exact within_skip
    | with_reducible refine within_read fun _ => ?_
    | with_reducible refine within_all_cons ?_ ?_
    | with_reducible refine within_all_one ?_
    | with_reducible refine within_seq ?_ ?_
    | with_reducible refine within_each fun _ => ?_
    | with_reducible refine (forgetPage_within _).mono ?_
    | (dsimp only)
    | split
    | rfl)

theorem cutExtents_within (ld : Nat) (base : Nat) (len : Nat) : (cutExtents ld base len).Within 0x400000000000000000000000000000000000000000000000000000000000000000000000000000000000000000000000000000000000000000000000000000000000000000000300000000000 := by
  unfold cutExtents
  repeat' (first
    | with_reducible exact within_skip
    | with_reducible refine within_read fun _ => ?_
    | with_reducible refine within_all_cons ?_ ?_
    | with_reducible refine within_all_one ?_
    | with_reducible refine within_seq ?_ ?_
    | with_reducible refine within_ite ?_ ?_
    | with_reducible refine within_host ?_
    | with_reducible refine (releaseOut_within).mono ?_
    | (dsimp only)
    | split
    | rfl)

theorem viewCloseComplete_within (v : Nat) : (viewCloseComplete v).Within 0x17d46000000000000000000000000000000000000000000000013e0ea04c008000020000000000000000000081000000000000000000000000001000000000000000000000000de3e0008000000 := by
  unfold viewCloseComplete
  repeat' (first
    | with_reducible exact within_skip
    | with_reducible refine within_read fun _ => ?_
    | with_reducible refine within_all_cons ?_ ?_
    | with_reducible refine within_all_one ?_
    | with_reducible refine within_seq ?_ ?_
    | with_reducible refine within_when ?_
    | with_reducible refine within_set ?_
    | with_reducible refine within_each fun _ => ?_
    | with_reducible refine (forgetPage_within _).mono ?_
    | with_reducible refine (cutExtents_within _ _ _).mono ?_
    | with_reducible refine (regionsChanged_within _ _).mono ?_
    | (dsimp only)
    | split
    | rfl)

end Sys2Proof.Machine
end

