-- ==== Sys2Proof/Laws/WithinStorage.lean ====
section
/-!
SUPPORT. What each program of Machine/Storage.lean can change: one lemma each, over the places of Laws/Acts.lean.
-/

namespace Sys2Proof.Machine

set_option linter.unusedTactic false
set_option linter.unreachableTactic false

theorem noteRow_within (ga : Nat) (n : Nat) : (noteRow ga n).Within 0x80000000000000000000000000000000000000000000000000000000000000000000000000000000000000000000000000000000000000000000000000000000000000000000000000000000000 := by
  unfold noteRow
  repeat' (first
    | with_reducible exact within_skip
    | with_reducible refine within_read fun _ => ?_
    | with_reducible refine within_all_cons ?_ ?_
    | with_reducible refine within_all_one ?_
    | with_reducible refine within_seq ?_ ?_
    | with_reducible refine within_chan ?_
    | (dsimp only)
    | split
    | rfl)

theorem eccCount_within (ga : Nat) (e : Ecc) : (eccCount ga e).Within 0x81c44000000000000000000000000000000000000000000000013e0ea04c008000018000c0000000000000000000000000000000000000000000100000000000000000000000000000000000000 := by
  unfold eccCount
  repeat' (first
    | with_reducible exact within_skip
    | with_reducible refine within_read fun _ => ?_
    | with_reducible refine within_all_cons ?_ ?_
    | with_reducible refine within_all_one ?_
    | with_reducible refine within_seq ?_ ?_
    | with_reducible refine within_inc ?_
    | with_reducible refine (noteRow_within _ _).mono ?_
    | with_reducible refine (raise_within _ _ _).mono ?_
    | (dsimp only)
    | split
    | rfl)

theorem poisonRead_within (n : Nat) (pn : Nat) (is : List Nat) (c : PoisonCause) : (poisonRead n pn is c).Within 0x7c47000000000000000000000000000000000000000002800013e0ea04c00800000000000000000000080000000000000000000000000000000100000000000000000000000000000000000000 := by
  unfold poisonRead
  repeat' (first
    | with_reducible exact within_skip
    | with_reducible refine within_read fun _ => ?_
    | with_reducible refine within_all_cons ?_ ?_
    | with_reducible refine within_all_one ?_
    | with_reducible refine within_seq ?_ ?_
    | with_reducible refine within_each fun _ => ?_
    | with_reducible refine (poisonLines_within _ _ _ _ _).mono ?_
    | with_reducible refine (mirrorPoison_within _ _).mono ?_
    | (dsimp only)
    | split
    | rfl)

theorem lineReturned_within {K : Nat} (n : Nat) (line : Nat) (ga : Nat) (e : Ecc) (c : PoisonCause) (k : LineVal → Act)
    (h0 : ∀ y0, (k y0).Within K) (hK : inside 0x87c47000000000000000000000000000000000000000002800013e0ea04c008000018000c0000000000080000000000000000000000000000000100000000000000000000000000000000000000 K = true) : (lineReturned n line ga e c k).Within K := by
  unfold lineReturned
  refine within_read fun m => ?_
  dsimp only
  generalize Mach.storedLine _ _ _ _ = x
  cases e <;> cases x <;> dsimp only
  all_goals
    repeat' (first
    | with_reducible exact within_skip
    | ((with_reducible refine inside_trans ?_ hK); rfl)
    | ((with_reducible refine inside_bit hK ?_); rfl)
    | with_reducible exact h0 _
    | with_reducible refine within_read fun _ => ?_
    | with_reducible refine within_all_cons ?_ ?_
    | with_reducible refine within_all_one ?_
    | with_reducible refine within_seq ?_ ?_
    | with_reducible refine within_when ?_
    | with_reducible refine within_rcd ?_
    | with_reducible refine (eccCount_within _ _).mono ?_
    | with_reducible refine (eventAt_within _ _ _ _).mono ?_
    | with_reducible refine (recordError_within _ _ _).mono ?_
    | with_reducible refine (mirrorPoison_within _ _).mono ?_
    | with_reducible refine (poisonRead_within _ _ _ _).mono ?_
    | (dsimp only)
    | split)

theorem filled_within (n : Nat) (t : Txn) (v : LineVal) : (filled n t v).Within 0x2e0ce000000000000000000000000000000000000001802800000000000000000000000000000000000080000000000000000000040080000000000000007c40000000000000000400001000000 := by
  unfold filled
  repeat' (first
    | with_reducible exact within_skip
    | with_reducible refine within_read fun _ => ?_
    | with_reducible refine within_all_cons ?_ ?_
    | with_reducible refine within_all_one ?_
    | with_reducible refine within_seq ?_ ?_
    | with_reducible refine (doAtom_within _ _ _).mono ?_
    | with_reducible refine (partialHit_within _ _ _).mono ?_
    | with_reducible refine (serve_within _ _ _).mono ?_
    | (dsimp only)
    | split
    | rfl)

theorem dramDataReturn_within (acc : Nat) (e : Ecc) : (dramDataReturn acc e).Within 0xafccf000000000000000000000000000000000000001802800013e0ea04c008000018000c0000000000080000000000000000000040080000000100800007c5c002000000400000400001000000 := by
  unfold dramDataReturn
  repeat' (first
    | with_reducible exact within_skip
    | with_reducible refine within_read fun _ => ?_
    | with_reducible refine within_all_cons ?_ ?_
    | with_reducible refine within_all_one ?_
    | with_reducible refine within_seq ?_ ?_
    | with_reducible refine within_ite ?_ ?_
    | with_reducible refine within_rcd ?_
    | with_reducible refine within_lines ?_
    | with_reducible refine (eccCount_within _ _).mono ?_
    | with_reducible refine (filled_within _ _ _).mono ?_
    | with_reducible refine (fetch_within _ _ _).mono ?_
    | with_reducible refine lineReturned_within _ _ _ _ _ _  (fun _ => ?_) ?_
    | with_reducible refine (wake_within _).mono ?_
    | (dsimp only)
    | split
    | rfl)

theorem merged_within (line : Nat) (v : LineVal) : (merged line v).Within 0x40000000000000000000000000000000000000000000000000000000000000000000000000000000000000000000000000000000000000000000000000000000000000000000400000000000 := by
  unfold merged
  repeat' (first
    | with_reducible exact within_skip
    | with_reducible refine within_read fun _ => ?_
    | with_reducible refine within_all_cons ?_ ?_
    | with_reducible refine within_all_one ?_
    | with_reducible refine within_seq ?_ ?_
    | with_reducible refine within_when ?_
    | with_reducible refine within_inc ?_
    | with_reducible refine within_lines ?_
    | with_reducible refine within_some? fun _ => ?_
    | with_reducible refine (dropLine_within _).mono ?_
    | (dsimp only)
    | split
    | rfl)

theorem partialMerge_within (acc : Nat) (e : Ecc) : (partialMerge acc e).Within 0xafccf000000000000000000000000000000000000001802800013e0ea04c008000018000c0000000000080000000000000000000040080000000100800007c5c002000000400000400001000000 := by
  unfold partialMerge
  repeat' (first
    | with_reducible exact within_skip
    | with_reducible refine within_read fun _ => ?_
    | with_reducible refine within_all_cons ?_ ?_
    | with_reducible refine within_all_one ?_
    | with_reducible refine within_seq ?_ ?_
    | with_reducible refine within_lines ?_
    | with_reducible refine within_some? fun _ => ?_
    | with_reducible refine lineReturned_within _ _ _ _ _ _  (fun _ => ?_) ?_
    | with_reducible refine (merged_within _ _).mono ?_
    | with_reducible refine (closeTxn_within _).mono ?_
    | with_reducible refine (wake_within _).mono ?_
    | (dsimp only)
    | split
    | rfl)

theorem dropWb_within (e : WbEnt) : (dropWb e).Within 0x40000000000000000000000000000000000000000000000000000000000000000000000000000000000000000000000000000000000000000000000000000000000000000000000000000000 := by
  unfold dropWb
  repeat' (first
    | with_reducible exact within_skip
    | with_reducible refine within_read fun _ => ?_
    | with_reducible refine within_all_cons ?_ ?_
    | with_reducible refine within_all_one ?_
    | with_reducible refine within_seq ?_ ?_
    | with_reducible refine within_lines ?_
    | (dsimp only)
    | split
    | rfl)

theorem unlist_within (pn : Nat) : (unlist pn).Within 0x400000000000000000000000000000000000000000000000000000000000000000000000000000000000000000000000000000000000000000000000000000000000000000000000000000000 := by
  unfold unlist
  repeat' (first
    | with_reducible exact within_skip
    | with_reducible refine within_read fun _ => ?_
    | with_reducible refine within_all_cons ?_ ?_
    | with_reducible refine within_all_one ?_
    | with_reducible refine within_seq ?_ ?_
    | with_reducible refine within_when ?_
    | with_reducible refine within_rcd ?_
    | with_reducible refine within_host ?_
    | (dsimp only)
    | split
    | rfl)

theorem dropWriteBack_within (n : Nat) (pn : Nat) (i : Nat) (e : WbEnt) : (dropWriteBack n pn i e).Within 0x7c47000000000000000000000000000000000000000002800013e0ea04c00800000000000000000000080000000000000000000000000000000100000000000000000000000000400000000000 := by
  unfold dropWriteBack
  repeat' (first
    | with_reducible exact within_skip
    | with_reducible refine within_read fun _ => ?_
    | with_reducible refine within_all_cons ?_ ?_
    | with_reducible refine within_all_one ?_
    | with_reducible refine within_seq ?_ ?_
    | with_reducible refine within_inc ?_
    | with_reducible refine (dropWb_within _).mono ?_
    | with_reducible refine (poisonLines_within _ _ _ _ _).mono ?_
    | with_reducible refine (mirrorPoison_within _ _).mono ?_
    | (dsimp only)
    | split
    | rfl)

theorem exhaustion_within  : exhaustion.Within 0x100000000000000000000000000000000000000000000000000000000000000000000000000000000000000000000000000000000000000000000000000000000000000000000000000000000 := by
  unfold exhaustion
  repeat' (first
    | with_reducible exact within_skip
    | with_reducible refine within_read fun _ => ?_
    | with_reducible refine within_all_cons ?_ ?_
    | with_reducible refine within_all_one ?_
    | with_reducible refine within_seq ?_ ?_
    | with_reducible refine within_grain ?_
    | (dsimp only)
    | split
    | rfl)

theorem denied_within (n : Nat) (pn : Nat) (i : Nat) (e : WbEnt) : (denied n pn i e).Within 0x7d47000000000000000000000000000000000000000002800013e0ea04c00800000000000000000000080000000000000000000000000000000100000000000000000000000000400000000000 := by
  unfold denied
  repeat' (first
    | with_reducible exact within_skip
    | with_reducible refine within_read fun _ => ?_
    | with_reducible refine within_all_cons ?_ ?_
    | with_reducible refine within_all_one ?_
    | with_reducible refine within_seq ?_ ?_
    | with_reducible refine within_when ?_
    | with_reducible refine (exhaustion_within).mono ?_
    | with_reducible refine (dropWriteBack_within _ _ _ _).mono ?_
    | (dsimp only)
    | split
    | rfl)

theorem firstExtent_within (n : Nat) (pn : Nat) (i : Nat) (e : WbEnt) (v : Line) : (firstExtent n pn i e v).Within 0x107d47000000000000000000000000000000000000000002800013e0ea04c008000020000000000008000800080000000000000000000000000001000000000000020000000000de5e0000000000 := by
  unfold firstExtent
  repeat' (first
    | with_reducible exact within_skip
    | with_reducible refine within_read fun _ => ?_
    | with_reducible refine within_all_cons ?_ ?_
    | with_reducible refine within_all_one ?_
    | with_reducible refine within_seq ?_ ?_
    | with_reducible refine within_ite ?_ ?_
    | with_reducible refine within_set ?_
    | with_reducible refine within_rcd ?_
    | with_reducible refine (epochStop_within _).mono ?_
    | with_reducible refine (dropWriteBack_within _ _ _ _).mono ?_
    | with_reducible refine (denied_within _ _ _ _).mono ?_
    | with_reducible refine (movePlots_within _ _ _ _ _).mono ?_
    | with_reducible refine (writeExtent_within _ _ _ _ _ _).mono ?_
    | with_reducible refine (chargeExtent_within _ _ _ _).mono ?_
    | with_reducible refine (tallyUpdate_within _).mono ?_
    | with_reducible refine (dropWb_within _).mono ?_
    | with_reducible refine (unlist_within _).mono ?_
    | (dsimp only)
    | split
    | rfl)

theorem growthLift_within (n : Nat) (pn : Nat) (i : Nat) (e : WbEnt) (v : Line) : (growthLift n pn i e v).Within 0x10fd4f000000000000000000000000000000000000000002840013e0ea04c008000020000000000008000800080000000000000000000000000001000000000000020000000202de5e0000000000 := by
  unfold growthLift
  repeat' (first
    | with_reducible exact within_skip
    | with_reducible refine within_read fun _ => ?_
    | with_reducible refine within_all_cons ?_ ?_
    | with_reducible refine within_all_one ?_
    | with_reducible refine within_seq ?_ ?_
    | with_reducible refine within_ite ?_ ?_
    | with_reducible refine within_inc ?_
    | with_reducible refine within_grain ?_
    | with_reducible refine (epochStop_within _).mono ?_
    | with_reducible refine (dropWriteBack_within _ _ _ _).mono ?_
    | with_reducible refine (denied_within _ _ _ _).mono ?_
    | with_reducible refine (liftWait_within _ _).mono ?_
    | with_reducible refine (liftInto_within _ _ _ _).mono ?_
    | with_reducible refine (dropWb_within _).mono ?_
    | with_reducible refine (moved_within _ _ _).mono ?_
    | with_reducible refine (unlist_within _).mono ?_
    | (dsimp only)
    | split
    | rfl)

theorem inSlot_within (n : Nat) (pn : Nat) (i : Nat) (code : Nat) (e : WbEnt) (v : Line) : (inSlot n pn i code e v).Within 0x10fd4f000000000000000000000000000000000000000002840013e0ea04c008000020000000000008000800080000000000000000000000000001000000000000030000000000de5e0000000000 := by
  unfold inSlot
  repeat' (first
    | with_reducible exact within_skip
    | with_reducible refine within_read fun _ => ?_
    | with_reducible refine within_all_cons ?_ ?_
    | with_reducible refine within_all_one ?_
    | with_reducible refine within_seq ?_ ?_
    | with_reducible refine within_ite ?_ ?_
    | with_reducible refine within_rcd ?_
    | with_reducible refine (epochStop_within _).mono ?_
    | with_reducible refine (dropWriteBack_within _ _ _ _).mono ?_
    | with_reducible refine (resealPage_within _ _ _).mono ?_
    | with_reducible refine (dropWb_within _).mono ?_
    | with_reducible refine (tagOp_within _ _ _ _ _ _).mono ?_
    | with_reducible refine (unlist_within _).mono ?_
    | with_reducible refine (writeLine_within _ _ _ _ _).mono ?_
    | with_reducible refine (charge_within _ _ _ _).mono ?_
    | (dsimp only)
    | split
    | rfl)

theorem storeValue_within (n : Nat) (pn : Nat) (i : Nat) (e : WbEnt) (v : Line) : (storeValue n pn i e v).Within 0x10fd4f000000000000000000000000000000000000000002840013e0ea04c008000020000000000008000800080000000000000000000000000001000000000000030000000202de5e0000000000 := by
  unfold storeValue
  repeat' (first
    | with_reducible exact within_skip
    | with_reducible refine within_read fun _ => ?_
    | with_reducible refine within_all_cons ?_ ?_
    | with_reducible refine within_all_one ?_
    | with_reducible refine within_seq ?_ ?_
    | with_reducible refine within_ite ?_ ?_
    | with_reducible refine within_rcd ?_
    | with_reducible refine (dropWb_within _).mono ?_
    | with_reducible refine (inSlot_within _ _ _ _ _ _).mono ?_
    | with_reducible refine (firstExtent_within _ _ _ _ _).mono ?_
    | with_reducible refine (growthLift_within _ _ _ _ _).mono ?_
    | (dsimp only)
    | split
    | rfl)

theorem writeBack_within (line : Nat) : (writeBack line).Within 0x11fd4f000000000000000000000000000000000000000002840013e0ea04c008000020000000000008000800081000000000000000000000000001000000000000030000000202de5e0000000000 := by
  unfold writeBack
  repeat' (first
    | with_reducible exact within_skip
    | with_reducible refine within_read fun _ => ?_
    | with_reducible refine within_all_cons ?_ ?_
    | with_reducible refine within_all_one ?_
    | with_reducible refine within_seq ?_ ?_
    | with_reducible refine within_ite ?_ ?_
    | with_reducible refine within_when ?_
    | with_reducible refine within_inc ?_
    | with_reducible refine within_rcd ?_
    | with_reducible refine (dropWb_within _).mono ?_
    | with_reducible refine (dropWriteBack_within _ _ _ _).mono ?_
    | with_reducible refine (epochStop_within _).mono ?_
    | with_reducible refine (denied_within _ _ _ _).mono ?_
    | with_reducible refine (abandonPush_within _).mono ?_
    | with_reducible refine (startRecall_within _).mono ?_
    | with_reducible refine (eventAt_within _ _ _ _).mono ?_
    | with_reducible refine (markLines_within _ _ _ _).mono ?_
    | with_reducible refine (storeValue_within _ _ _ _ _).mono ?_
    | (dsimp only)
    | split
    | rfl)

theorem reseal_within (line : Nat) : (reseal line).Within 0x11fd4f000000000000000000000000000000000000000002840013e0ea04c008000020000000000008000800081000000000000000000000000001000000000000030000000202de5e0000000000 := by
  unfold reseal
  repeat' (first
    | with_reducible exact within_skip
    | with_reducible refine within_read fun _ => ?_
    | with_reducible refine within_all_cons ?_ ?_
    | with_reducible refine within_all_one ?_
    | with_reducible refine within_seq ?_ ?_
    | with_reducible refine within_when ?_
    | with_reducible refine within_some? fun _ => ?_
    | with_reducible refine (writeBack_within _).mono ?_
    | (dsimp only)
    | split
    | rfl)

theorem liftBlockFound_within (pn : Nat) : (liftBlockFound pn).Within 0x11fd4f000000000000000000000000000000000000000002840013e0ea04c008000020000000000008000800081000000000000000000000000001000000000000030000000606de5e0000000000 := by
  unfold liftBlockFound
  repeat' (first
    | with_reducible exact within_skip
    | with_reducible refine within_read fun _ => ?_
    | with_reducible refine within_all_cons ?_ ?_
    | with_reducible refine within_all_one ?_
    | with_reducible refine within_seq ?_ ?_
    | with_reducible refine within_ite ?_ ?_
    | with_reducible refine within_rcd ?_
    | with_reducible refine within_grain ?_
    | with_reducible refine within_some? fun _ => ?_
    | with_reducible refine (writeBack_within _).mono ?_
    | with_reducible refine (lift_within _ _ _).mono ?_
    | (dsimp only)
    | split
    | rfl)

theorem resumePage_within (pn : Nat) (why : WaitWhy) : (resumePage pn why).Within 0x2fcce000000000000000000000000000000000000001802800013e0ea04c00800000000000000000000080000000000000000000040080000000100800007c5c002000000400000400001000000 := by
  unfold resumePage
  repeat' (first
    | with_reducible exact within_skip
    | with_reducible refine within_read fun _ => ?_
    | with_reducible refine within_all_cons ?_ ?_
    | with_reducible refine within_all_one ?_
    | with_reducible refine within_seq ?_ ?_
    | with_reducible refine within_each fun _ => ?_
    | with_reducible refine (unwait_within _).mono ?_
    | with_reducible refine (begin_within _).mono ?_
    | with_reducible refine (wake_within _).mono ?_
    | (dsimp only)
    | split
    | rfl)

theorem lockedRequestResume_within (pn : Nat) : (lockedRequestResume pn).Within 0x2fcce000000000000000000000000000000000000001802800013e0ea04c00800000000000000000000080000000000000000000040080000000100800007c5c002000000400000400001000000 := by
  unfold lockedRequestResume
  repeat' (first
    | with_reducible exact within_skip
    | with_reducible refine within_read fun _ => ?_
    | with_reducible refine within_all_cons ?_ ?_
    | with_reducible refine within_all_one ?_
    | with_reducible refine within_seq ?_ ?_
    | with_reducible refine within_when ?_
    | with_reducible refine within_rcd ?_
    | with_reducible refine (resumePage_within _ _).mono ?_
    | (dsimp only)
    | split
    | rfl)

theorem patienceExpire_within (id : Nat) : (patienceExpire id).Within 0x2c0cc000000000000000000000000000000000000001802800000000000000000000000000000000000000000000000000000000040080000000000000000000000000000000000000000000000 := by
  unfold patienceExpire
  repeat' (first
    | with_reducible exact within_skip
    | with_reducible refine within_read fun _ => ?_
    | with_reducible refine within_all_cons ?_ ?_
    | with_reducible refine within_all_one ?_
    | with_reducible refine within_seq ?_ ?_
    | with_reducible refine within_ite ?_ ?_
    | with_reducible refine within_lines ?_
    | with_reducible refine within_each fun _ => ?_
    | with_reducible refine (answerDead_within _).mono ?_
    | with_reducible refine (openTxn_within _).mono ?_
    | with_reducible refine (setVis_within _ _).mono ?_
    | (dsimp only)
    | split
    | rfl)

end Sys2Proof.Machine
end

