-- ==== Sys2Proof/Laws/WithinArchipelago.lean ====
section
/-!
SUPPORT. What each program of Machine/Archipelago.lean can change: one lemma each, over the places of Laws/Acts.lean.
-/

namespace Sys2Proof.Machine

set_option linter.unusedTactic false
set_option linter.unreachableTactic false

theorem svcReply_within (x : Msg) (st : Nat) (body : List Byte) : (svcReply x st body).Within 0x4004000000000000000000000000000000000000000000000000000000000000000000000000000000000000000000000000000000000000000000000000000000000000000000000000000000 := by
  unfold svcReply
  repeat' (first
    | with_reducible exact within_skip
    | with_reducible refine within_read fun _ => ?_
    | with_reducible refine within_all_cons ?_ ?_
    | with_reducible refine within_all_one ?_
    | with_reducible refine within_seq ?_ ?_
    | with_reducible refine (send_within _ _).mono ?_
    | (dsimp only)
    | split
    | rfl)

theorem svcFrom_within {K : Nat} (x : Msg) (a : Act) (h0 : a.Within K) (hK : inside 0x1c44000000000000000000000000000000000000000000000013e0ea04c00800000000000000000000000000000000000000000000000000000100000000080000000000000000000000000000 K = true) : (svcFrom x a).Within K := by
  unfold svcFrom
  repeat' (first
    | with_reducible exact within_skip
    | ((with_reducible refine inside_trans ?_ hK); rfl)
    | ((with_reducible refine inside_bit hK ?_); rfl)
    | with_reducible exact h0
    | with_reducible refine within_read fun _ => ?_
    | with_reducible refine within_all_cons ?_ ?_
    | with_reducible refine within_all_one ?_
    | with_reducible refine within_seq ?_ ?_
    | with_reducible refine within_ite ?_ ?_
    | with_reducible refine within_when ?_
    | with_reducible refine (protoErr_within _).mono ?_
    | (dsimp only)
    | split)

theorem svcIn_within {K : Nat} (x : Msg) (a : Act) (h0 : a.Within K) (hK : inside 0x5c44000000000000000000000000000000000000000000000013e0ea04c00800000000000000000000000000000000000000000000000000000100000000080000000000000000000000000000 K = true) : (svcIn x a).Within K := by
  unfold svcIn
  repeat' (first
    | with_reducible exact within_skip
    | ((with_reducible refine inside_trans ?_ hK); rfl)
    | ((with_reducible refine inside_bit hK ?_); rfl)
    | with_reducible exact h0
    | with_reducible refine within_read fun _ => ?_
    | with_reducible refine within_all_cons ?_ ?_
    | with_reducible refine within_all_one ?_
    | with_reducible refine within_seq ?_ ?_
    | with_reducible refine within_ite ?_ ?_
    | with_reducible refine svcFrom_within _ _  ?_ ?_
    | with_reducible refine (svcReply_within _ _ _).mono ?_
    | (dsimp only)
    | split)

theorem svcSend_within (peer : Nat) (code : Nat) (line : Nat) (arg : Nat) (body : List Byte) : (svcSend peer code line arg body).Within 0x6044000000000000000000000000000000000000000000000000000000000000000000000000000000000000000000000000000000000000000000000000000000000000000000000000000000 := by
  unfold svcSend
  repeat' (first
    | with_reducible exact within_skip
    | with_reducible refine within_read fun _ => ?_
    | with_reducible refine within_all_cons ?_ ?_
    | with_reducible refine within_all_one ?_
    | with_reducible refine within_seq ?_ ?_
    | with_reducible refine within_arc ?_
    | with_reducible refine (send_within _ _).mono ?_
    | with_reducible refine Act.newId_within _  (fun _ => ?_) ?_
    | (dsimp only)
    | split
    | rfl)

theorem endJob_within (j : ImgJob) : (endJob j).Within 0x2000000000000000000000000000000000000000000000000000000000000000000000000000000000000000000000000000000000000000000000000000000000000000000000000000000000 := by
  unfold endJob
  repeat' (first
    | with_reducible exact within_skip
    | with_reducible refine within_read fun _ => ?_
    | with_reducible refine within_all_cons ?_ ?_
    | with_reducible refine within_all_one ?_
    | with_reducible refine within_seq ?_ ?_
    | with_reducible refine within_arc ?_
    | (dsimp only)
    | split
    | rfl)

theorem resumeAll_within (pn : Nat) : (resumeAll pn).Within 0x2fcce000000000000000000000000000000000000001802800013e0ea04c00800000000000000000000080000000000000000000040080000000100800007c5c002000000400000400001000000 := by
  unfold resumeAll
  repeat' (first
    | with_reducible exact within_skip
    | with_reducible refine within_read fun _ => ?_
    | with_reducible refine within_all_cons ?_ ?_
    | with_reducible refine within_all_one ?_
    | with_reducible refine within_seq ?_ ?_
    | with_reducible refine (resumePage_within _ _).mono ?_
    | (dsimp only)
    | split
    | rfl)

theorem setPair_within (n : Nat) (f : Pair → Pair) : (setPair n f).Within 0x2000000000000000000000000000000000000000000000000000000000000000000000000000000000000000000000000000000000000000000000000000000000000000000000000000000000 := by
  unfold setPair
  repeat' (first
    | with_reducible exact within_skip
    | with_reducible refine within_read fun _ => ?_
    | with_reducible refine within_all_cons ?_ ?_
    | with_reducible refine within_all_one ?_
    | with_reducible refine within_seq ?_ ?_
    | with_reducible refine within_ite ?_ ?_
    | with_reducible refine within_arc ?_
    | (dsimp only)
    | split
    | rfl)

theorem losePage_within (n : Nat) (pn : Nat) (mismatch : Bool) : (losePage n pn mismatch).Within 0x3fcce000000000000000000000000000000000000001802800013e0ea04c00800000000000000000000080000000000000000000040080000000100800007c5c002000000400000400001000000 := by
  unfold losePage
  repeat' (first
    | with_reducible exact within_skip
    | with_reducible refine within_read fun _ => ?_
    | with_reducible refine within_all_cons ?_ ?_
    | with_reducible refine within_all_one ?_
    | with_reducible refine within_seq ?_ ?_
    | with_reducible refine within_when ?_
    | with_reducible refine within_rcd ?_
    | with_reducible refine within_arc ?_
    | with_reducible refine within_each fun _ => ?_
    | with_reducible refine (send_within _ _).mono ?_
    | with_reducible refine (putPage_within _ _ _).mono ?_
    | with_reducible refine (poisonIndex_within _).mono ?_
    | with_reducible refine (mediaEvent_within _ _ _).mono ?_
    | with_reducible refine (raiseIslet_within _ _ _).mono ?_
    | with_reducible refine (resumeAll_within _).mono ?_
    | with_reducible refine (pageDone_within _ _).mono ?_
    | with_reducible refine Act.newId_within _  (fun _ => ?_) ?_
    | (dsimp only)
    | split
    | rfl)

theorem dropMember_within (r : Nat) : (dropMember r).Within 0x4000000000000000000000000000000000000000000000000000000000000000 := by
  unfold dropMember
  repeat' (first
    | with_reducible exact within_skip
    | with_reducible refine within_read fun _ => ?_
    | with_reducible refine within_all_cons ?_ ?_
    | with_reducible refine within_all_one ?_
    | with_reducible refine within_seq ?_ ?_
    | with_reducible refine within_set ?_
    | (dsimp only)
    | split
    | rfl)

theorem leaveCheck_within  : leaveCheck.Within 0x6044000000000000000000000000000000000000000000000000000000000000000000000000000000000000005000000000000000000000000000000000000000000000000000000000000000 := by
  unfold leaveCheck
  repeat' (first
    | with_reducible exact within_skip
    | with_reducible refine within_read fun _ => ?_
    | with_reducible refine within_all_cons ?_ ?_
    | with_reducible refine within_all_one ?_
    | with_reducible refine within_seq ?_ ?_
    | with_reducible refine within_ite ?_ ?_
    | with_reducible refine within_when ?_
    | with_reducible refine within_set ?_
    | with_reducible refine within_arc ?_
    | with_reducible refine within_each fun _ => ?_
    | with_reducible refine (send_within _ _).mono ?_
    | with_reducible refine (dropMember_within _).mono ?_
    | with_reducible refine (svcSend_within _ _ _ _ _).mono ?_
    | (dsimp only)
    | split
    | rfl)

theorem arcLeave_within  : arcLeave.Within 0x7c46000000000000000000000000000000000000000000000013e0ea04c00800000000000000000000000000005000000000000000000000000100000000000002000000000000000000000000 := by
  unfold arcLeave
  repeat' (first
    | with_reducible exact within_skip
    | with_reducible refine within_read fun _ => ?_
    | with_reducible refine within_all_cons ?_ ?_
    | with_reducible refine within_all_one ?_
    | with_reducible refine within_seq ?_ ?_
    | with_reducible refine within_when ?_
    | with_reducible refine within_set ?_
    | with_reducible refine within_rcd ?_
    | with_reducible refine within_arc ?_
    | with_reducible refine within_each fun _ => ?_
    | with_reducible refine (startRecall_within _).mono ?_
    | with_reducible refine (leaveCheck_within).mono ?_
    | (dsimp only)
    | split
    | rfl)

theorem takeLeave_within (x : Msg) : (takeLeave x).Within 0x7c46000000000000000000000000000000000000000000000013e0ea04c00800000000000000000000000000005000000000000000000000000100000000000002000000000000000000000000 := by
  unfold takeLeave
  repeat' (first
    | with_reducible exact within_skip
    | with_reducible refine within_read fun _ => ?_
    | with_reducible refine within_all_cons ?_ ?_
    | with_reducible refine within_all_one ?_
    | with_reducible refine within_seq ?_ ?_
    | with_reducible refine within_arc ?_
    | with_reducible refine within_each fun _ => ?_
    | with_reducible refine (startRecall_within _).mono ?_
    | with_reducible refine (leaveCheck_within).mono ?_
    | (dsimp only)
    | split
    | rfl)

theorem addGroups_within (h : Nat) (k : Nat) : (addGroups h k).Within 0x3d44000000000000000000000000000000000000000000000013e0ea04c0080000200000000000000000000800000000000000000000000000010000000000000000000000001e000000000000 := by
  unfold addGroups
  repeat' (first
    | with_reducible exact within_skip
    | with_reducible refine within_read fun _ => ?_
    | with_reducible refine within_all_cons ?_ ?_
    | with_reducible refine within_all_one ?_
    | with_reducible refine within_seq ?_ ?_
    | with_reducible refine within_arc ?_
    | with_reducible refine within_free ?_ fun _ => ?_
    | with_reducible refine within_each fun _ => ?_
    | with_reducible refine (movePlots_within _ _ _ _ _).mono ?_
    | (dsimp only)
    | split
    | rfl)

theorem dropGroups_within (h : Nat) (keep : Nat) : (dropGroups h keep).Within 0x3d44000000000000000000000000000000000000000000000013e0ea04c0080000200000000000000000000800000000000000000000000000010000000000000000000000001e000000000000 := by
  unfold dropGroups
  repeat' (first
    | with_reducible exact within_skip
    | with_reducible refine within_read fun _ => ?_
    | with_reducible refine within_all_cons ?_ ?_
    | with_reducible refine within_all_one ?_
    | with_reducible refine within_seq ?_ ?_
    | with_reducible refine within_arc ?_
    | with_reducible refine within_each fun _ => ?_
    | with_reducible refine (movePlots_within _ _ _ _ _).mono ?_
    | (dsimp only)
    | split
    | rfl)

theorem arcHoldGroupsWrite_within (v : Nat) : (arcHoldGroupsWrite v).Within 0x3d44000000000000000000000000000000000000000000000013e0ea04c008000020000000000000000000080220000000000000000000000001000000000000000000000000de1e0000000000 := by
  unfold arcHoldGroupsWrite
  repeat' (first
    | with_reducible exact within_skip
    | with_reducible refine within_read fun _ => ?_
    | with_reducible refine within_all_cons ?_ ?_
    | with_reducible refine within_all_one ?_
    | with_reducible refine within_seq ?_ ?_
    | with_reducible refine within_ite ?_ ?_
    | with_reducible refine within_when ?_
    | with_reducible refine within_set ?_
    | with_reducible refine within_each fun _ => ?_
    | with_reducible refine (addGroups_within _ _).mono ?_
    | with_reducible refine (dropGroups_within _ _).mono ?_
    | with_reducible refine (tallyUpdate_within _).mono ?_
    | (dsimp only)
    | split
    | rfl)

theorem holdCounts_within  : holdCounts.Within 0xc0000000000000000000000000000000000000000000000000000000000000000 := by
  unfold holdCounts
  repeat' (first
    | with_reducible exact within_skip
    | with_reducible refine within_read fun _ => ?_
    | with_reducible refine within_all_cons ?_ ?_
    | with_reducible refine within_all_one ?_
    | with_reducible refine within_seq ?_ ?_
    | with_reducible refine within_set ?_
    | (dsimp only)
    | split
    | rfl)

theorem takeImgPut_within (x : Msg) : (takeImgPut x).Within 0x10fd4d000000000000000000000000000000000000000002840013e0ea04c008000020000000000008000000080c00000000000000000000000001000000000000000000000000de1e0000000000 := by
  unfold takeImgPut
  repeat' (first
    | with_reducible exact within_skip
    | with_reducible refine within_read fun _ => ?_
    | with_reducible refine within_all_cons ?_ ?_
    | with_reducible refine within_all_one ?_
    | with_reducible refine within_seq ?_ ?_
    | with_reducible refine within_ite ?_ ?_
    | with_reducible refine within_poke ?_
    | with_reducible refine within_arc ?_
    | with_reducible refine (svcReply_within _ _ _).mono ?_
    | with_reducible refine (movePlots_within _ _ _ _ _).mono ?_
    | with_reducible refine (chargeExtent_within _ _ _ _).mono ?_
    | with_reducible refine (holdCounts_within).mono ?_
    | with_reducible refine (tallyUpdate_within _).mono ?_
    | with_reducible refine (tagOp_within _ _ _ _ _ _).mono ?_
    | (dsimp only)
    | split
    | rfl)

theorem freeHeld_within (h : Held) : (freeHeld h).Within 0x7d44000000000000000000000000000000000000000000000013e0ea04c008000020000000000000000000080c50000000000000000000000001000000000000000000000000de1e0000000000 := by
  unfold freeHeld
  repeat' (first
    | with_reducible exact within_skip
    | with_reducible refine within_read fun _ => ?_
    | with_reducible refine within_all_cons ?_ ?_
    | with_reducible refine within_all_one ?_
    | with_reducible refine within_seq ?_ ?_
    | with_reducible refine within_arc ?_
    | with_reducible refine (movePlots_within _ _ _ _ _).mono ?_
    | with_reducible refine (holdCounts_within).mono ?_
    | with_reducible refine (tallyUpdate_within _).mono ?_
    | with_reducible refine (leaveCheck_within).mono ?_
    | (dsimp only)
    | split
    | rfl)

theorem takeImgGet_within (x : Msg) : (takeImgGet x).Within 0x4004000000000000000000000000000000000000000000000000000000000000000000000000000000000000000000000000000000000000000000000000000000000000000000000000000000 := by
  unfold takeImgGet
  repeat' (first
    | with_reducible exact within_skip
    | with_reducible refine within_read fun _ => ?_
    | with_reducible refine within_all_cons ?_ ?_
    | with_reducible refine within_all_one ?_
    | with_reducible refine within_seq ?_ ?_
    | with_reducible refine (send_within _ _).mono ?_
    | (dsimp only)
    | split
    | rfl)

theorem takeImgRelease_within (x : Msg) : (takeImgRelease x).Within 0x7d44000000000000000000000000000000000000000000000013e0ea04c008000020000000000000000000080c50000000000000000000000001000000000000000000000000de1e0000000000 := by
  unfold takeImgRelease
  repeat' (first
    | with_reducible exact within_skip
    | with_reducible refine within_read fun _ => ?_
    | with_reducible refine within_all_cons ?_ ?_
    | with_reducible refine within_all_one ?_
    | with_reducible refine within_seq ?_ ?_
    | with_reducible refine (svcReply_within _ _ _).mono ?_
    | with_reducible refine (freeHeld_within _).mono ?_
    | (dsimp only)
    | split
    | rfl)

theorem takeImgEvict_within (x : Msg) : (takeImgEvict x).Within 0x7c46000000000000000000000000000000000000000000000013e0ea04c00800000000000000000000000000000000000000000000000000000100000000000002000000000000000000000000 := by
  unfold takeImgEvict
  repeat' (first
    | with_reducible exact within_skip
    | with_reducible refine within_read fun _ => ?_
    | with_reducible refine within_all_cons ?_ ?_
    | with_reducible refine within_all_one ?_
    | with_reducible refine within_seq ?_ ?_
    | with_reducible refine within_rcd ?_
    | with_reducible refine (svcReply_within _ _ _).mono ?_
    | with_reducible refine (startRecall_within _).mono ?_
    | (dsimp only)
    | split
    | rfl)

theorem evictHeld_within (p : Held → Bool) : (evictHeld p).Within 0x6044000000000000000000000000000000000000000000000000000000000000000000000000000000000000000000000000000000000000000000000000000000000000000000000000000000 := by
  unfold evictHeld
  repeat' (first
    | with_reducible exact within_skip
    | with_reducible refine within_read fun _ => ?_
    | with_reducible refine within_all_cons ?_ ?_
    | with_reducible refine within_all_one ?_
    | with_reducible refine within_seq ?_ ?_
    | with_reducible refine within_each fun _ => ?_
    | with_reducible refine (svcSend_within _ _ _ _ _).mono ?_
    | (dsimp only)
    | split
    | rfl)

theorem commitPush_within (n : Nat) (j : ImgJob) (ga : Nat) : (commitPush n j ga).Within 0x3ffce000000000000000000000000000000000000001802840013e0ea04c00800000000000000000000080000100000000000000040080000000100800007c5c3028000004800c05e0001080000 := by
  unfold commitPush
  repeat' (first
    | with_reducible exact within_skip
    | with_reducible refine within_read fun _ => ?_
    | with_reducible refine within_all_cons ?_ ?_
    | with_reducible refine within_all_one ?_
    | with_reducible refine within_seq ?_ ?_
    | with_reducible refine within_ite ?_ ?_
    | with_reducible refine within_inc ?_
    | with_reducible refine within_rcd ?_
    | with_reducible refine within_page ?_
    | with_reducible refine within_arc ?_
    | with_reducible refine within_some? fun _ => ?_
    | with_reducible refine (endJob_within _).mono ?_
    | with_reducible refine (release_within _ _ _).mono ?_
    | with_reducible refine (tdlMark_within _ _).mono ?_
    | with_reducible refine (tagOp_within _ _ _ _ _ _).mono ?_
    | with_reducible refine (retireExtent_within _ _ _).mono ?_
    | with_reducible refine (tallyUpdate_within _).mono ?_
    | with_reducible refine (resumeAll_within _).mono ?_
    | with_reducible refine (pageDone_within _ _).mono ?_
    | (dsimp only)
    | split
    | rfl)

theorem nextHolder_within (n : Nat) (j : ImgJob) : (nextHolder n j).Within 0x3fece000000000000000000000000000000000000001802800013e0ea04c00800000000000000000000080000000000000000000040080000000100800007c5c002000000400000400001000000 := by
  unfold nextHolder
  repeat' (first
    | with_reducible exact within_skip
    | with_reducible refine within_read fun _ => ?_
    | with_reducible refine within_all_cons ?_ ?_
    | with_reducible refine within_all_one ?_
    | with_reducible refine within_seq ?_ ?_
    | with_reducible refine within_ite ?_ ?_
    | with_reducible refine within_rcd ?_
    | with_reducible refine (endJob_within _).mono ?_
    | with_reducible refine (resumeAll_within _).mono ?_
    | with_reducible refine (pageDone_within _ _).mono ?_
    | with_reducible refine (getImage_within _ _ _).mono ?_
    | with_reducible refine (putImage_within _ _ _ _ _ _ _ _ _ _).mono ?_
    | (dsimp only)
    | split
    | rfl)

theorem recallInto_within (n : Nat) (pn : Nat) (j : ImgJob) (ls : List LineVal) (size : List Nat) : (recallInto n pn j ls size).Within 0x13fdcf000000000000000000000000000000000000001802840013e0ea04c00800002000000000000800080008105000000000000040080000000100800007c5c0020000005000de5e0001000000 := by
  unfold recallInto
  repeat' (first
    | with_reducible exact within_skip
    | with_reducible refine within_read fun _ => ?_
    | with_reducible refine within_all_cons ?_ ?_
    | with_reducible refine within_all_one ?_
    | with_reducible refine within_seq ?_ ?_
    | with_reducible refine within_ite ?_ ?_
    | with_reducible refine within_inc ?_
    | with_reducible refine within_rcd ?_
    | with_reducible refine within_each fun _ => ?_
    | with_reducible refine (writeExtent_within _ _ _ _ _ _).mono ?_
    | with_reducible refine (chargeExtent_within _ _ _ _).mono ?_
    | with_reducible refine (poisonIndex_within _).mono ?_
    | with_reducible refine (mediaEvent_within _ _ _).mono ?_
    | with_reducible refine (raiseIslet_within _ _ _).mono ?_
    | with_reducible refine (endJob_within _).mono ?_
    | with_reducible refine (release_within _ _ _).mono ?_
    | with_reducible refine (tallyUpdate_within _).mono ?_
    | with_reducible refine (tagOp_within _ _ _ _ _ _).mono ?_
    | with_reducible refine (resumeAll_within _).mono ?_
    | with_reducible refine (pageDone_within _ _).mono ?_
    | with_reducible refine (leaveCheck_within).mono ?_
    | with_reducible refine (movePlots_within _ _ _ _ _).mono ?_
    | with_reducible refine (denied_within _ _ _ _).mono ?_
    | (dsimp only)
    | split
    | rfl)

theorem remoteRead_within (n : Nat) (j : ImgJob) (ls : List LineVal) : (remoteRead n j ls).Within 0x2fcce000000000000000000000000000000000000001802800013e0ea04c00800000000000000000000080000000000000000000040080000000100800007c5c002000000400000400001000000 := by
  unfold remoteRead
  repeat' (first
    | with_reducible exact within_skip
    | with_reducible refine within_read fun _ => ?_
    | with_reducible refine within_all_cons ?_ ?_
    | with_reducible refine within_all_one ?_
    | with_reducible refine within_seq ?_ ?_
    | with_reducible refine within_some? fun _ => ?_
    | with_reducible refine (endJob_within _).mono ?_
    | with_reducible refine (filled_within _ _ _).mono ?_
    | with_reducible refine (merged_within _ _).mono ?_
    | with_reducible refine (wake_within _).mono ?_
    | (dsimp only)
    | split
    | rfl)

theorem takeImgData_within (x : Msg) : (takeImgData x).Within 0x13ffcf000000000000000000000000000000000000001802840013e0ea04c00800002000000000000800080008105000000000000040080000000100800007c5c0020000005000de5e0001000000 := by
  unfold takeImgData
  repeat' (first
    | with_reducible exact within_skip
    | with_reducible refine within_read fun _ => ?_
    | with_reducible refine within_all_cons ?_ ?_
    | with_reducible refine within_all_one ?_
    | with_reducible refine within_seq ?_ ?_
    | with_reducible refine within_ite ?_ ?_
    | with_reducible refine within_when ?_
    | with_reducible refine within_rcd ?_
    | with_reducible refine within_some? fun _ => ?_
    | with_reducible refine (endJob_within _).mono ?_
    | with_reducible refine (losePage_within _ _ _).mono ?_
    | with_reducible refine (filled_within _ _ _).mono ?_
    | with_reducible refine (wake_within _).mono ?_
    | with_reducible refine (recallInto_within _ _ _ _ _).mono ?_
    | with_reducible refine (remoteRead_within _ _ _).mono ?_
    | with_reducible refine (resumeAll_within _).mono ?_
    | with_reducible refine (putImage_within _ _ _ _ _ _ _ _ _ _).mono ?_
    | (dsimp only)
    | split
    | rfl)

theorem sendPair_within (p : Pair) : (sendPair p).Within 0x6044000000000000000000000000000000000000000000000000000000000000000000000000000000000000000000000000000000000000000000000000000000000000000000000000000000 := by
  unfold sendPair
  repeat' (first
    | with_reducible exact within_skip
    | with_reducible refine within_read fun _ => ?_
    | with_reducible refine within_all_cons ?_ ?_
    | with_reducible refine within_all_one ?_
    | with_reducible refine within_seq ?_ ?_
    | with_reducible refine (svcSend_within _ _ _ _ _).mono ?_
    | (dsimp only)
    | split
    | rfl)

theorem pairUp_within (r : Nat) : (pairUp r).Within 0x6044000000000000000000000000000000000000000000000000000000000000000000000000000000000000000000000000000000000000000000000000000000000000000000000000000000 := by
  unfold pairUp
  repeat' (first
    | with_reducible exact within_skip
    | with_reducible refine within_read fun _ => ?_
    | with_reducible refine within_all_cons ?_ ?_
    | with_reducible refine within_all_one ?_
    | with_reducible refine within_seq ?_ ?_
    | with_reducible refine within_each fun _ => ?_
    | with_reducible refine (sendPair_within _).mono ?_
    | (dsimp only)
    | split
    | rfl)

theorem sendMirPage_within (n : Nat) (pn : Nat) (peer : Nat) : (sendMirPage n pn peer).Within 0x7e46000000000000000000000000000000000000000000000013e0ea04c00800000000000000000000000000000000000000000000000000000100000000000002000000000000000000000000 := by
  unfold sendMirPage
  repeat' (first
    | with_reducible exact within_skip
    | with_reducible refine within_read fun _ => ?_
    | with_reducible refine within_all_cons ?_ ?_
    | with_reducible refine within_all_one ?_
    | with_reducible refine within_seq ?_ ?_
    | with_reducible refine within_ite ?_ ?_
    | with_reducible refine within_rcd ?_
    | with_reducible refine within_keys ?_
    | with_reducible refine (startRecall_within _).mono ?_
    | with_reducible refine (svcSend_within _ _ _ _ _).mono ?_
    | (dsimp only)
    | split
    | rfl)

theorem resync_within (n : Nat) : (resync n).Within 0x7e46000000000000000000000000000000000000000000000013e0ea04c008000000000000000000000c0000000000000000000000000000000100000000000002000000000000000000000000 := by
  unfold resync
  repeat' (first
    | with_reducible exact within_skip
    | with_reducible refine within_read fun _ => ?_
    | with_reducible refine within_all_cons ?_ ?_
    | with_reducible refine within_all_one ?_
    | with_reducible refine within_seq ?_ ?_
    | with_reducible refine within_when ?_
    | with_reducible refine within_set ?_
    | with_reducible refine within_some? fun _ => ?_
    | with_reducible refine (sendMirPage_within _ _ _).mono ?_
    | with_reducible refine (svcSend_within _ _ _ _ _).mono ?_
    | (dsimp only)
    | split
    | rfl)

theorem pairDone_within (n : Nat) : (pairDone n).Within 0x7e46000000000000000000000000000000000000000000000013e0ea04c008000000000000000000000d0000000000000000000000000000000100000000000002000000000000000000300100 := by
  unfold pairDone
  repeat' (first
    | with_reducible exact within_skip
    | with_reducible refine within_read fun _ => ?_
    | with_reducible refine within_all_cons ?_ ?_
    | with_reducible refine within_all_one ?_
    | with_reducible refine within_seq ?_ ?_
    | with_reducible refine within_when ?_
    | with_reducible refine within_set ?_
    | with_reducible refine within_rcd ?_
    | with_reducible refine within_each fun _ => ?_
    | with_reducible refine within_some? fun _ => ?_
    | with_reducible refine (setPair_within _ _).mono ?_
    | with_reducible refine (resync_within _).mono ?_
    | (dsimp only)
    | split
    | rfl)

theorem becomeCopy_within (n : Nat) (p : Pair) : (becomeCopy n p).Within 0x60460000000000000000000000000000000000000000000000000000000000000000000000000000000f0000000000000000000000000000000000000000000000000000000000000000300100 := by
  unfold becomeCopy
  repeat' (first
    | with_reducible exact within_skip
    | with_reducible refine within_read fun _ => ?_
    | with_reducible refine within_all_cons ?_ ?_
    | with_reducible refine within_all_one ?_
    | with_reducible refine within_seq ?_ ?_
    | with_reducible refine within_when ?_
    | with_reducible refine within_set ?_
    | with_reducible refine within_rcd ?_
    | with_reducible refine within_each fun _ => ?_
    | with_reducible refine (setPair_within _ _).mono ?_
    | with_reducible refine (svcSend_within _ _ _ _ _).mono ?_
    | (dsimp only)
    | split
    | rfl)

theorem takePair_within (x : Msg) : (takePair x).Within 0x77460000000000000000000000000000000000000000000000130000000000000000000000000000000f00000000000000000000000000000001000000000000200000000000c01e0002f40104 := by
  unfold takePair
  repeat' (first
    | with_reducible exact within_skip
    | with_reducible refine within_read fun _ => ?_
    | with_reducible refine within_all_cons ?_ ?_
    | with_reducible refine within_all_one ?_
    | with_reducible refine within_seq ?_ ?_
    | with_reducible refine within_ite ?_ ?_
    | with_reducible refine within_when ?_
    | with_reducible refine (svcReply_within _ _ _).mono ?_
    | with_reducible refine (becomeLive_within _).mono ?_
    | with_reducible refine (becomeCopy_within _ _).mono ?_
    | (dsimp only)
    | split
    | rfl)

theorem takeMirWr_within (x : Msg) : (takeMirWr x).Within 0x2fccf000000000000000000000000000000000000001802800013e0ea04c00800000000000000000000080000000000000000000040080000000100800007c5c002000000400000400001000000 := by
  unfold takeMirWr
  repeat' (first
    | with_reducible exact within_skip
    | with_reducible refine within_read fun _ => ?_
    | with_reducible refine within_all_cons ?_ ?_
    | with_reducible refine within_all_one ?_
    | with_reducible refine within_seq ?_ ?_
    | with_reducible refine within_ite ?_ ?_
    | with_reducible refine within_arc ?_
    | with_reducible refine (svcReply_within _ _ _).mono ?_
    | with_reducible refine (poisonNow_within _ _ _).mono ?_
    | with_reducible refine (place_within _ _ _ _ _ _).mono ?_
    | with_reducible refine (request_within _ _ _ _).mono ?_
    | (dsimp only)
    | split
    | rfl)

theorem ownAway_within (n : Nat) (pn : Nat) (is : List Nat) : (ownAway n pn is).Within 0x2043000000000000000000000000000000000000000000000000000000000000000000000000000000000000000000000000000000000000000000000000000000000000000000000000000000 := by
  unfold ownAway
  repeat' (first
    | with_reducible exact within_skip
    | with_reducible refine within_read fun _ => ?_
    | with_reducible refine within_all_cons ?_ ?_
    | with_reducible refine within_all_one ?_
    | with_reducible refine within_seq ?_ ?_
    | with_reducible refine within_when ?_
    | with_reducible refine within_rcd ?_
    | with_reducible refine within_arc ?_
    | with_reducible refine within_poke ?_
    | with_reducible refine within_each fun _ => ?_
    | with_reducible refine (dropCopies_within _).mono ?_
    | with_reducible refine (putPage_within _ _ _).mono ?_
    | (dsimp only)
    | split
    | rfl)

theorem takeMirOwn_within (x : Msg) : (takeMirOwn x).Within 0x6047000000000000000000000000000000000000000000000000000000000000000000000000000000000000000000000000000000000000000000000000000000000000000000000000000000 := by
  unfold takeMirOwn
  repeat' (first
    | with_reducible exact within_skip
    | with_reducible refine within_read fun _ => ?_
    | with_reducible refine within_all_cons ?_ ?_
    | with_reducible refine within_all_one ?_
    | with_reducible refine within_seq ?_ ?_
    | with_reducible refine (svcReply_within _ _ _).mono ?_
    | with_reducible refine (ownAway_within _ _ _).mono ?_
    | (dsimp only)
    | split
    | rfl)

theorem replacePage_within {K : Nat} (n : Nat) (pn : Nat) (img : Image) (mask : Nat) (k : Bool → Act) (h0 : ∀ y0, (k y0).Within K) (hK : inside 0x7d47000000000000000000000000000000000000000002800013e0ea04c008000020000000000000000000081000000000000000000000000001000000000000000000000000de1e0000000000 K = true) : (replacePage n pn img mask k).Within K := by
  unfold replacePage
  repeat' (first
    | with_reducible exact within_skip
    | ((with_reducible refine inside_trans ?_ hK); rfl)
    | ((with_reducible refine inside_bit hK ?_); rfl)
    | with_reducible exact h0 _
    | with_reducible refine within_read fun _ => ?_
    | with_reducible refine within_all_cons ?_ ?_
    | with_reducible refine within_all_one ?_
    | with_reducible refine within_seq ?_ ?_
    | with_reducible refine within_ite ?_ ?_
    | with_reducible refine within_when ?_
    | with_reducible refine within_rcd ?_
    | with_reducible refine within_arc ?_
    | with_reducible refine (dropLines_within _).mono ?_
    | with_reducible refine (writeExtent_within _ _ _ _ _ _).mono ?_
    | with_reducible refine (release_within _ _ _).mono ?_
    | with_reducible refine (retireExtent_within _ _ _).mono ?_
    | with_reducible refine (tallyUpdate_within _).mono ?_
    | with_reducible refine (ownAway_within _ _ _).mono ?_
    | with_reducible refine (movePlots_within _ _ _ _ _).mono ?_
    | (dsimp only)
    | split)

theorem takeMirPage_within (x : Msg) : (takeMirPage x).Within 0x13fdcf000000000000000000000000000000000000001802800013e0ea04c00800002000000000000800080008105000000000000040080000000100800007c5c0020000004000de5e0001000000 := by
  unfold takeMirPage
  repeat' (first
    | with_reducible exact within_skip
    | with_reducible refine within_read fun _ => ?_
    | with_reducible refine within_all_cons ?_ ?_
    | with_reducible refine within_all_one ?_
    | with_reducible refine within_seq ?_ ?_
    | with_reducible refine within_ite ?_ ?_
    | with_reducible refine within_when ?_
    | with_reducible refine within_rcd ?_
    | with_reducible refine within_each fun _ => ?_
    | with_reducible refine (svcReply_within _ _ _).mono ?_
    | with_reducible refine replacePage_within _ _ _ _ _  (fun _ => ?_) ?_
    | with_reducible refine (chargeExtent_within _ _ _ _).mono ?_
    | with_reducible refine (endJob_within _).mono ?_
    | with_reducible refine (resumeAll_within _).mono ?_
    | with_reducible refine (pageDone_within _ _).mono ?_
    | with_reducible refine (leaveCheck_within).mono ?_
    | (dsimp only)
    | split
    | rfl)

theorem takeMirFetch_within (x : Msg) : (takeMirFetch x).Within 0x7e46000000000000000000000000000000000000000000000013e0ea04c00800000000000000000000000000000000000000000000000000000100000000000002000000000000000000000000 := by
  unfold takeMirFetch
  repeat' (first
    | with_reducible exact within_skip
    | with_reducible refine within_read fun _ => ?_
    | with_reducible refine within_all_cons ?_ ?_
    | with_reducible refine within_all_one ?_
    | with_reducible refine within_seq ?_ ?_
    | with_reducible refine within_ite ?_ ?_
    | with_reducible refine within_rcd ?_
    | with_reducible refine (svcReply_within _ _ _).mono ?_
    | with_reducible refine (sendMirPage_within _ _ _).mono ?_
    | (dsimp only)
    | split
    | rfl)

theorem visitorsBecomeHome_within (n : Nat) : (visitorsBecomeHome n).Within 0x2fcce000000000000000000000000000000000000001802800013e0ea04c00800000000000000000000080000000000000000000040080000000100800007c5c002000000400000400001000000 := by
  unfold visitorsBecomeHome
  repeat' (first
    | with_reducible exact within_skip
    | with_reducible refine within_read fun _ => ?_
    | with_reducible refine within_all_cons ?_ ?_
    | with_reducible refine within_all_one ?_
    | with_reducible refine within_seq ?_ ?_
    | with_reducible refine within_ite ?_ ?_
    | with_reducible refine within_when ?_
    | with_reducible refine within_dir ?_
    | with_reducible refine within_each fun _ => ?_
    | with_reducible refine (place_within _ _ _ _ _ _).mono ?_
    | with_reducible refine (setDir_within _ _).mono ?_
    | with_reducible refine (begin_within _).mono ?_
    | with_reducible refine (wake_within _).mono ?_
    | with_reducible refine (answer_within _ _ _).mono ?_
    | (dsimp only)
    | split
    | rfl)

theorem promote_within (n : Nat) : (promote n).Within 0x2fcce000000000000000000000000000000000000001802800013e0ea04c00800000000000000000000090000000000000000000040080000000100800007c5c002000000400000400001000000 := by
  unfold promote
  repeat' (first
    | with_reducible exact within_skip
    | with_reducible refine within_read fun _ => ?_
    | with_reducible refine within_all_cons ?_ ?_
    | with_reducible refine within_all_one ?_
    | with_reducible refine within_seq ?_ ?_
    | with_reducible refine within_set ?_
    | with_reducible refine within_arc ?_
    | with_reducible refine within_each fun _ => ?_
    | with_reducible refine (setPair_within _ _).mono ?_
    | with_reducible refine (poisonIndex_within _).mono ?_
    | with_reducible refine (mediaEvent_within _ _ _).mono ?_
    | with_reducible refine (visitorsBecomeHome_within _).mono ?_
    | (dsimp only)
    | split
    | rfl)

theorem fence_within (n : Nat) : (fence n).Within 0x2e48c000000000000000000000000000000000000001802800000000000000000000000000000000000020000000000000000000040080000000100000000000000000000000000000000000000 := by
  unfold fence
  repeat' (first
    | with_reducible exact within_skip
    | with_reducible refine within_read fun _ => ?_
    | with_reducible refine within_all_cons ?_ ?_
    | with_reducible refine within_all_one ?_
    | with_reducible refine within_seq ?_ ?_
    | with_reducible refine within_set ?_
    | with_reducible refine within_each fun _ => ?_
    | with_reducible refine (setPair_within _ _).mono ?_
    | with_reducible refine (evViewers_within _ _ _ _).mono ?_
    | with_reducible refine (visFail_within _).mono ?_
    | (dsimp only)
    | split
    | rfl)

theorem mirrorRelease_within (r : Nat) : (mirrorRelease r).Within 0x2fcce000000000000000000000000000000000000001802800013e0ea04c00800000000000000000000080000000000000000000040080000000100800007c5c002000000400000400001000000 := by
  unfold mirrorRelease
  repeat' (first
    | with_reducible exact within_skip
    | with_reducible refine within_read fun _ => ?_
    | with_reducible refine within_all_cons ?_ ?_
    | with_reducible refine within_all_one ?_
    | with_reducible refine within_seq ?_ ?_
    | with_reducible refine within_each fun _ => ?_
    | with_reducible refine within_some? fun _ => ?_
    | with_reducible refine (mirrorAcked_within _ _).mono ?_
    | with_reducible refine (wake_within _).mono ?_
    | (dsimp only)
    | split
    | rfl)

theorem sendClaim_within (p : Pair) : (sendClaim p).Within 0x6044000000000000000000000000000000000000000000000000000000000000000000000000000000000000000000000000000000000000000000000000000000000000000000000000000000 := by
  unfold sendClaim
  repeat' (first
    | with_reducible exact within_skip
    | with_reducible refine within_read fun _ => ?_
    | with_reducible refine within_all_cons ?_ ?_
    | with_reducible refine within_all_one ?_
    | with_reducible refine within_seq ?_ ?_
    | with_reducible refine (setPair_within _ _).mono ?_
    | with_reducible refine (svcSend_within _ _ _ _ _).mono ?_
    | (dsimp only)
    | split
    | rfl)

theorem grantClaims_within (r : Nat) : (grantClaims r).Within 0x6004000000000000000000000000000000000000000000000000000000000000000000000000000000000c00000000000000000000000000000000000000000000000000000000000000000000 := by
  unfold grantClaims
  repeat' (first
    | with_reducible exact within_skip
    | with_reducible refine within_read fun _ => ?_
    | with_reducible refine within_all_cons ?_ ?_
    | with_reducible refine within_all_one ?_
    | with_reducible refine within_seq ?_ ?_
    | with_reducible refine within_set ?_
    | with_reducible refine within_arc ?_
    | with_reducible refine within_each fun _ => ?_
    | with_reducible refine (send_within _ _).mono ?_
    | (dsimp only)
    | split
    | rfl)

theorem pairsLost_within (r : Nat) : (pairsLost r).Within 0x2fcce000000000000000000000000000000000000001802800013e0ea04c008000000000000000000000a0c00000000000000000040080000000100800007c5c002000000400000400001200000 := by
  unfold pairsLost
  repeat' (first
    | with_reducible exact within_skip
    | with_reducible refine within_read fun _ => ?_
    | with_reducible refine within_all_cons ?_ ?_
    | with_reducible refine within_all_one ?_
    | with_reducible refine within_seq ?_ ?_
    | with_reducible refine within_when ?_
    | with_reducible refine within_set ?_
    | with_reducible refine within_each fun _ => ?_
    | with_reducible refine (setPair_within _ _).mono ?_
    | with_reducible refine (fence_within _).mono ?_
    | with_reducible refine (sendClaim_within _).mono ?_
    | with_reducible refine (mirrorRelease_within _).mono ?_
    | with_reducible refine (grantClaims_within _).mono ?_
    | (dsimp only)
    | split
    | rfl)

theorem takeClaim_within (x : Msg) : (takeClaim x).Within 0x6004000000000000000000000000000000000000000000000000000000000000000000000000000000000c00000000000000000000000000000000000000000000000000000000000000000000 := by
  unfold takeClaim
  repeat' (first
    | with_reducible exact within_skip
    | with_reducible refine within_read fun _ => ?_
    | with_reducible refine within_all_cons ?_ ?_
    | with_reducible refine within_all_one ?_
    | with_reducible refine within_seq ?_ ?_
    | with_reducible refine within_ite ?_ ?_
    | with_reducible refine within_set ?_
    | with_reducible refine within_arc ?_
    | with_reducible refine (svcReply_within _ _ _).mono ?_
    | (dsimp only)
    | split
    | rfl)

theorem takeHeal_within (x : Msg) : (takeHeal x).Within 0x6004000000000000000000000000000000000000000000000000000000000000000000000000000000000c00000000000000000000000000000000000000000000000000000000000000000000 := by
  unfold takeHeal
  repeat' (first
    | with_reducible exact within_skip
    | with_reducible refine within_read fun _ => ?_
    | with_reducible refine within_all_cons ?_ ?_
    | with_reducible refine within_all_one ?_
    | with_reducible refine within_seq ?_ ?_
    | with_reducible refine within_ite ?_ ?_
    | with_reducible refine within_set ?_
    | with_reducible refine within_arc ?_
    | with_reducible refine (svcReply_within _ _ _).mono ?_
    | (dsimp only)
    | split
    | rfl)

theorem claimWaitExpiry_within (a : Nat) (b : Nat) : (claimWaitExpiry a b).Within 0x6004000000000000000000000000000000000000000000000000000000000000000000000000000000000000000000000000000000000000000000000000000000000000000000000000000000 := by
  unfold claimWaitExpiry
  repeat' (first
    | with_reducible exact within_skip
    | with_reducible refine within_read fun _ => ?_
    | with_reducible refine within_all_cons ?_ ?_
    | with_reducible refine within_all_one ?_
    | with_reducible refine within_seq ?_ ?_
    | with_reducible refine within_arc ?_
    | with_reducible refine within_each fun _ => ?_
    | with_reducible refine (send_within _ _).mono ?_
    | (dsimp only)
    | split
    | rfl)

theorem claimTimeout_within (n : Nat) : (claimTimeout n).Within 0x2e48c000000000000000000000000000000000000001802800000000000000000000000000000000000020000000000000000000040080000000100000000000000000000000000000000000000 := by
  unfold claimTimeout
  repeat' (first
    | with_reducible exact within_skip
    | with_reducible refine within_read fun _ => ?_
    | with_reducible refine within_all_cons ?_ ?_
    | with_reducible refine within_all_one ?_
    | with_reducible refine within_seq ?_ ?_
    | with_reducible refine within_when ?_
    | with_reducible refine (fence_within _).mono ?_
    | (dsimp only)
    | split
    | rfl)

theorem ownedToPoison_within (n : Nat) : (ownedToPoison n).Within 0x2404000000000000000000000000000000000000000000000000000000000000000000000000000000000000000000000000000000000000000100000000000000000000000000000000000000 := by
  unfold ownedToPoison
  repeat' (first
    | with_reducible exact within_skip
    | with_reducible refine within_read fun _ => ?_
    | with_reducible refine within_all_cons ?_ ?_
    | with_reducible refine within_all_one ?_
    | with_reducible refine within_seq ?_ ?_
    | with_reducible refine within_arc ?_
    | with_reducible refine within_each fun _ => ?_
    | with_reducible refine (poisonIndex_within _).mono ?_
    | with_reducible refine (mediaEvent_within _ _ _).mono ?_
    | (dsimp only)
    | split
    | rfl)

theorem unpair_within (n : Nat) : (unpair n).Within 0x2fcce000000000000000000000000000000000000001802800013e0ea04c008000000000000000000000f0000000000000000000040080000000100800007c5c002000000400000400001300100 := by
  unfold unpair
  repeat' (first
    | with_reducible exact within_skip
    | with_reducible refine within_read fun _ => ?_
    | with_reducible refine within_all_cons ?_ ?_
    | with_reducible refine within_all_one ?_
    | with_reducible refine within_seq ?_ ?_
    | with_reducible refine within_set ?_
    | with_reducible refine within_rcd ?_
    | with_reducible refine within_arc ?_
    | with_reducible refine within_each fun _ => ?_
    | with_reducible refine (ownedToPoison_within _).mono ?_
    | with_reducible refine (mirrorRelease_within _).mono ?_
    | (dsimp only)
    | split
    | rfl)

theorem pairCommand_within {K : Nat} (n : Nat) (peer : Nat) (mode : Nat) (role : Nat) (run : Act) (h0 : run.Within K) (hK : inside 0xf0002000000000000000000000000000000000000000000000000000000000000000 K = true) : (pairCommand n peer mode role run).Within K := by
  unfold pairCommand
  repeat' (first
    | with_reducible exact within_skip
    | ((with_reducible refine inside_trans ?_ hK); rfl)
    | ((with_reducible refine inside_bit hK ?_); rfl)
    | with_reducible exact h0
    | with_reducible refine within_read fun _ => ?_
    | with_reducible refine within_all_cons ?_ ?_
    | with_reducible refine within_all_one ?_
    | with_reducible refine within_seq ?_ ?_
    | with_reducible refine within_ite ?_ ?_
    | with_reducible refine within_when ?_
    | with_reducible refine within_set ?_
    | (dsimp only)
    | split)

theorem makePair_within (n : Nat) (peer : Nat) (mode : Nat) (role : Nat) : (makePair n peer mode role).Within 0x6044000000000000000000000000000000000000000000000000000000000000000000000000000000000200000000000000000000000000000000000000000000000000000000000000000000 := by
  unfold makePair
  repeat' (first
    | with_reducible exact within_skip
    | with_reducible refine within_read fun _ => ?_
    | with_reducible refine within_all_cons ?_ ?_
    | with_reducible refine within_all_one ?_
    | with_reducible refine within_seq ?_ ?_
    | with_reducible refine within_ite ?_ ?_
    | with_reducible refine within_set ?_
    | with_reducible refine within_arc ?_
    | with_reducible refine (sendPair_within _).mono ?_
    | (dsimp only)
    | split
    | rfl)

theorem pairUnpair_within (n : Nat) (peer : Nat) (role : Nat) : (pairUnpair n peer role).Within 0x2fcce000000000000000000000000000000000000001802800013e0ea04c008000000000000000000000f02f0002000000000000040080000000100800007c5c002000000400000400001300100 := by
  unfold pairUnpair
  repeat' (first
    | with_reducible exact within_skip
    | with_reducible refine within_read fun _ => ?_
    | with_reducible refine within_all_cons ?_ ?_
    | with_reducible refine within_all_one ?_
    | with_reducible refine within_seq ?_ ?_
    | with_reducible refine within_set ?_
    | with_reducible refine pairCommand_within _ _ _ _ _  ?_ ?_
    | with_reducible refine (unpair_within _).mono ?_
    | (dsimp only)
    | split
    | rfl)

theorem pairMirror_within (n : Nat) (peer : Nat) (role : Nat) : (pairMirror n peer role).Within 0x60440000000000000000000000000000000000000000000000000000000000000000000000000000000002f0002000000000000000000000000000000000000000000000000000000000000000 := by
  unfold pairMirror
  repeat' (first
    | with_reducible exact within_skip
    | with_reducible refine within_read fun _ => ?_
    | with_reducible refine within_all_cons ?_ ?_
    | with_reducible refine within_all_one ?_
    | with_reducible refine within_seq ?_ ?_
    | with_reducible refine pairCommand_within _ _ _ _ _  ?_ ?_
    | with_reducible refine (makePair_within _ _ _ _).mono ?_
    | (dsimp only)
    | split
    | rfl)

theorem pairDualHome_within (n : Nat) (peer : Nat) (role : Nat) : (pairDualHome n peer role).Within 0x60440000000000000000000000000000000000000000000000000000000000000000000000000000000002f0002000000000000000000000000000000000000000000000000000000000000000 := by
  unfold pairDualHome
  repeat' (first
    | with_reducible exact within_skip
    | with_reducible refine within_read fun _ => ?_
    | with_reducible refine within_all_cons ?_ ?_
    | with_reducible refine within_all_one ?_
    | with_reducible refine within_seq ?_ ?_
    | with_reducible refine pairCommand_within _ _ _ _ _  ?_ ?_
    | with_reducible refine (makePair_within _ _ _ _).mono ?_
    | (dsimp only)
    | split
    | rfl)

theorem pairPromote_within (n : Nat) (peer : Nat) (role : Nat) : (pairPromote n peer role).Within 0x2fcce000000000000000000000000000000000000001802800013e0ea04c008000000000000000000000902f0002000000000000040080000000100800007c5c002000000400000400001000000 := by
  unfold pairPromote
  repeat' (first
    | with_reducible exact within_skip
    | with_reducible refine within_read fun _ => ?_
    | with_reducible refine within_all_cons ?_ ?_
    | with_reducible refine within_all_one ?_
    | with_reducible refine within_seq ?_ ?_
    | with_reducible refine within_ite ?_ ?_
    | with_reducible refine within_set ?_
    | with_reducible refine pairCommand_within _ _ _ _ _  ?_ ?_
    | with_reducible refine (promote_within _).mono ?_
    | (dsimp only)
    | split
    | rfl)

theorem pairHandover_within (n : Nat) (peer : Nat) (role : Nat) : (pairHandover n peer role).Within 0x60440000000000000000000000000000000000000000000000000000000000000000000000000000000002f0002000000000000000000000000000000000000000000000000000000000000000 := by
  unfold pairHandover
  repeat' (first
    | with_reducible exact within_skip
    | with_reducible refine within_read fun _ => ?_
    | with_reducible refine within_all_cons ?_ ?_
    | with_reducible refine within_all_one ?_
    | with_reducible refine within_seq ?_ ?_
    | with_reducible refine within_ite ?_ ?_
    | with_reducible refine within_set ?_
    | with_reducible refine pairCommand_within _ _ _ _ _  ?_ ?_
    | with_reducible refine (setPair_within _ _).mono ?_
    | with_reducible refine (handoverTry_within).mono ?_
    | (dsimp only)
    | split
    | rfl)

theorem takeHandover_within (x : Msg) : (takeHandover x).Within 0x6086000000000000000000000000000000000000000000000000000000000000000000000000000000010000000000000000000000000000000000000000000000000000000000000000000000 := by
  unfold takeHandover
  repeat' (first
    | with_reducible exact within_skip
    | with_reducible refine within_read fun _ => ?_
    | with_reducible refine within_all_cons ?_ ?_
    | with_reducible refine within_all_one ?_
    | with_reducible refine within_seq ?_ ?_
    | with_reducible refine within_ite ?_ ?_
    | with_reducible refine within_set ?_
    | with_reducible refine within_rcd ?_
    | with_reducible refine within_arc ?_
    | with_reducible refine within_each fun _ => ?_
    | with_reducible refine (svcReply_within _ _ _).mono ?_
    | with_reducible refine (setDir_within _ _).mono ?_
    | with_reducible refine (setPair_within _ _).mono ?_
    | (dsimp only)
    | split
    | rfl)

theorem handedOver_within (n : Nat) : (handedOver n).Within 0x3fdce000000000000000000000000000000000000001802800013e0ea04c0080000200000000000000001c2081000000000000000400800000001000000000000200000000000de5e0002b40100 := by
  unfold handedOver
  repeat' (first
    | with_reducible exact within_skip
    | with_reducible refine within_read fun _ => ?_
    | with_reducible refine within_all_cons ?_ ?_
    | with_reducible refine within_all_one ?_
    | with_reducible refine within_seq ?_ ?_
    | with_reducible refine within_ite ?_ ?_
    | with_reducible refine within_set ?_
    | with_reducible refine within_dir ?_
    | with_reducible refine within_lines ?_
    | with_reducible refine within_arc ?_
    | with_reducible refine within_each fun _ => ?_
    | with_reducible refine within_some? fun _ => ?_
    | with_reducible refine (setVis_within _ _).mono ?_
    | with_reducible refine (dropLines_within _).mono ?_
    | with_reducible refine (forgetPage_within _).mono ?_
    | with_reducible refine (freeMaps_within _).mono ?_
    | with_reducible refine (tallyAll_within).mono ?_
    | with_reducible refine (keysUpdate_within).mono ?_
    | with_reducible refine (setPair_within _ _).mono ?_
    | with_reducible refine (visStep_within _ _ _).mono ?_
    | with_reducible refine (visWake_within _).mono ?_
    | (dsimp only)
    | split
    | rfl)

theorem takeRmtBind_within (x : Msg) : (takeRmtBind x).Within 0x6004000000000000000000000000000000000000000000000000000000000000000000000000000000000000000000000000000000000000000000000000000000000000000000000000000000 := by
  unfold takeRmtBind
  repeat' (first
    | with_reducible exact within_skip
    | with_reducible refine within_read fun _ => ?_
    | with_reducible refine within_all_cons ?_ ?_
    | with_reducible refine within_all_one ?_
    | with_reducible refine within_seq ?_ ?_
    | with_reducible refine within_ite ?_ ?_
    | with_reducible refine within_arc ?_
    | with_reducible refine (svcReply_within _ _ _).mono ?_
    | (dsimp only)
    | split
    | rfl)

theorem bindAnswer_within (n : Nat) (st : Nat) (body : List Byte) : (bindAnswer n st body).Within 0x17040000000000000000000000000000000000000000000000130000000000000000000000000000000000000000000000000000000000000001000000000000200000000000c01e0002c40804 := by
  unfold bindAnswer
  repeat' (first
    | with_reducible exact within_skip
    | with_reducible refine within_read fun _ => ?_
    | with_reducible refine within_all_cons ?_ ?_
    | with_reducible refine within_all_one ?_
    | with_reducible refine within_seq ?_ ?_
    | with_reducible refine within_ite ?_ ?_
    | with_reducible refine within_when ?_
    | with_reducible refine within_set ?_
    | with_reducible refine (entryRefuse_within _ _).mono ?_
    | with_reducible refine (becomeLive_within _).mono ?_
    | (dsimp only)
    | split
    | rfl)

theorem sendJoin_within (r : Nat) : (sendJoin r).Within 0x6044000000000000000000000000000000000000000000000000000000000000000000000000000000000000000000000000000000000000000000000000000000000000000000000000000000 := by
  unfold sendJoin
  repeat' (first
    | with_reducible exact within_skip
    | with_reducible refine within_read fun _ => ?_
    | with_reducible refine within_all_cons ?_ ?_
    | with_reducible refine within_all_one ?_
    | with_reducible refine within_seq ?_ ?_
    | with_reducible refine within_when ?_
    | with_reducible refine (svcSend_within _ _ _ _ _).mono ?_
    | (dsimp only)
    | split
    | rfl)

theorem joined_within (r : Nat) (ident : Nat) (gsn : Nat) : (joined r ident gsn).Within 0x3fdce000000000000000000000000000000000000001802800013e0ea04c008000020000000000000000830080c5000000000000040080000000100800007c5c0020000004000de5e0001000000 := by
  unfold joined
  repeat' (first
    | with_reducible exact within_skip
    | with_reducible refine within_read fun _ => ?_
    | with_reducible refine within_all_cons ?_ ?_
    | with_reducible refine within_all_one ?_
    | with_reducible refine within_seq ?_ ?_
    | with_reducible refine within_ite ?_ ?_
    | with_reducible refine within_when ?_
    | with_reducible refine within_set ?_
    | with_reducible refine within_arc ?_
    | with_reducible refine within_each fun _ => ?_
    | with_reducible refine within_some? fun _ => ?_
    | with_reducible refine (freeHeld_within _).mono ?_
    | with_reducible refine (losePage_within _ _ _).mono ?_
    | with_reducible refine (startRecall_within _).mono ?_
    | with_reducible refine (send_within _ _).mono ?_
    | with_reducible refine (pairUp_within _).mono ?_
    | (dsimp only)
    | split
    | rfl)

theorem takeJoin_within (x : Msg) : (takeJoin x).Within 0x3fdce000000000000000000000000000000000000001802800013e0ea04c008000020000000000000000830080c5000000000000040080000000100800007c5c0020000004000de5e0001000000 := by
  unfold takeJoin
  repeat' (first
    | with_reducible exact within_skip
    | with_reducible refine within_read fun _ => ?_
    | with_reducible refine within_all_cons ?_ ?_
    | with_reducible refine within_all_one ?_
    | with_reducible refine within_seq ?_ ?_
    | with_reducible refine (svcReply_within _ _ _).mono ?_
    | with_reducible refine (joined_within _ _ _).mono ?_
    | (dsimp only)
    | split
    | rfl)

theorem arcEnWrite_within (v : Bool) : (arcEnWrite v).Within 0x6044000000000000000000000000000000000000000000000000000000000000000000000000000000000000002800000000000000000000000000000000000000000000000000000000000000 := by
  unfold arcEnWrite
  repeat' (first
    | with_reducible exact within_skip
    | with_reducible refine within_read fun _ => ?_
    | with_reducible refine within_all_cons ?_ ?_
    | with_reducible refine within_all_one ?_
    | with_reducible refine within_seq ?_ ?_
    | with_reducible refine within_ite ?_ ?_
    | with_reducible refine within_when ?_
    | with_reducible refine within_set ?_
    | with_reducible refine within_arc ?_
    | with_reducible refine within_each fun _ => ?_
    | with_reducible refine (sendJoin_within _).mono ?_
    | (dsimp only)
    | split
    | rfl)

theorem forgetPeer_within (r : Nat) : (forgetPeer r).Within 0x3fdce000000000000000000000000000000000000001802800013e0ea04c008000020000000000000000830081c5000000000000040080000000100800007c5c0020000004000de5e0001000000 := by
  unfold forgetPeer
  repeat' (first
    | with_reducible exact within_skip
    | with_reducible refine within_read fun _ => ?_
    | with_reducible refine within_all_cons ?_ ?_
    | with_reducible refine within_all_one ?_
    | with_reducible refine within_seq ?_ ?_
    | with_reducible refine within_set ?_
    | with_reducible refine within_arc ?_
    | with_reducible refine within_each fun _ => ?_
    | with_reducible refine within_some? fun _ => ?_
    | with_reducible refine (losePage_within _ _ _).mono ?_
    | with_reducible refine (freeHeld_within _).mono ?_
    | (dsimp only)
    | split
    | rfl)

theorem arcForget_within (mask : Nat) : (arcForget mask).Within 0x3fdce000000000000000000000000000000000000001802800013e0ea04c008000020000000000000000830081c7000000000000040080000000100800007c5c0020000004000de5e0001000000 := by
  unfold arcForget
  repeat' (first
    | with_reducible exact within_skip
    | with_reducible refine within_read fun _ => ?_
    | with_reducible refine within_all_cons ?_ ?_
    | with_reducible refine within_all_one ?_
    | with_reducible refine within_seq ?_ ?_
    | with_reducible refine within_ite ?_ ?_
    | with_reducible refine within_when ?_
    | with_reducible refine within_set ?_
    | with_reducible refine within_each fun _ => ?_
    | with_reducible refine (forgetPeer_within _).mono ?_
    | (dsimp only)
    | split
    | rfl)

theorem cutJob_within (j : ImgJob) : (cutJob j).Within 0x3fcce000000000000000000000000000000000000001802800013e0ea04c00800000000000000000000080000100000000000000040080000000100800007c5c002000000400000400001000000 := by
  unfold cutJob
  repeat' (first
    | with_reducible exact within_skip
    | with_reducible refine within_read fun _ => ?_
    | with_reducible refine within_all_cons ?_ ?_
    | with_reducible refine within_all_one ?_
    | with_reducible refine within_seq ?_ ?_
    | with_reducible refine within_rcd ?_
    | with_reducible refine within_each fun _ => ?_
    | with_reducible refine within_some? fun _ => ?_
    | with_reducible refine (endJob_within _).mono ?_
    | with_reducible refine (release_within _ _ _).mono ?_
    | with_reducible refine (resumeAll_within _).mono ?_
    | with_reducible refine (pageDone_within _ _).mono ?_
    | with_reducible refine (answerDead_within _).mono ?_
    | with_reducible refine (closeTxn_within _).mono ?_
    | with_reducible refine (wake_within _).mono ?_
    | with_reducible refine (unwait_within _).mono ?_
    | with_reducible refine (losePage_within _ _ _).mono ?_
    | (dsimp only)
    | split
    | rfl)

theorem peerFlushed_within (r : Nat) : (peerFlushed r).Within 0x3fcce000000000000000000000000000000000000001802800013e0ea04c00800000000000000000000080000104000000000000040080000000100800007c5c002000000400000400001000000 := by
  unfold peerFlushed
  repeat' (first
    | with_reducible exact within_skip
    | with_reducible refine within_read fun _ => ?_
    | with_reducible refine within_all_cons ?_ ?_
    | with_reducible refine within_all_one ?_
    | with_reducible refine within_seq ?_ ?_
    | with_reducible refine within_ite ?_ ?_
    | with_reducible refine within_arc ?_
    | with_reducible refine within_each fun _ => ?_
    | with_reducible refine (cutJob_within _).mono ?_
    | with_reducible refine (dropMember_within _).mono ?_
    | with_reducible refine (pageDone_within _ _).mono ?_
    | with_reducible refine (setPair_within _ _).mono ?_
    | (dsimp only)
    | split
    | rfl)

theorem svcAnswered_within (s : SvcReq) (x : Msg) : (svcAnswered s x).Within 0x3ffce000000000000000000000000000000000000001802800013e0ea04c008000020000000000000000ff2081c5000000000000040080000000100800007c5c0220000004000de5e0003f40904 := by
  unfold svcAnswered
  repeat' (first
    | with_reducible exact within_skip
    | with_reducible refine within_read fun _ => ?_
    | with_reducible refine within_all_cons ?_ ?_
    | with_reducible refine within_all_one ?_
    | with_reducible refine within_seq ?_ ?_
    | with_reducible refine within_ite ?_ ?_
    | with_reducible refine within_when ?_
    | with_reducible refine within_set ?_
    | with_reducible refine within_rcd ?_
    | with_reducible refine within_arc ?_
    | with_reducible refine within_each fun _ => ?_
    | with_reducible refine within_some? fun _ => ?_
    | with_reducible refine (joined_within _ _ _).mono ?_
    | with_reducible refine (dropMember_within _).mono ?_
    | with_reducible refine (leaveCheck_within).mono ?_
    | with_reducible refine (mirrorAcked_within _ _).mono ?_
    | with_reducible refine (wake_within _).mono ?_
    | with_reducible refine (pageDone_within _ _).mono ?_
    | with_reducible refine (resync_within _).mono ?_
    | with_reducible refine (endJob_within _).mono ?_
    | with_reducible refine (putPage_within _ _ _).mono ?_
    | with_reducible refine (poisonIndex_within _).mono ?_
    | with_reducible refine (mediaEvent_within _ _ _).mono ?_
    | with_reducible refine (resumeAll_within _).mono ?_
    | with_reducible refine (pairDone_within _).mono ?_
    | with_reducible refine (promote_within _).mono ?_
    | with_reducible refine (setPair_within _ _).mono ?_
    | with_reducible refine (fence_within _).mono ?_
    | with_reducible refine (handedOver_within _).mono ?_
    | with_reducible refine (bindAnswer_within _ _ _).mono ?_
    | (dsimp only)
    | split
    | rfl)

theorem takeSvcAck_within (x : Msg) : (takeSvcAck x).Within 0x3ffce000000000000000000000000000000000000001802840013e0ea04c008000020000000000000000ff2081c5000000000000040080000000100800007cdc3228000004800de5e0003fc0904 := by
  unfold takeSvcAck
  repeat' (first
    | with_reducible exact within_skip
    | with_reducible refine within_read fun _ => ?_
    | with_reducible refine within_all_cons ?_ ?_
    | with_reducible refine within_all_one ?_
    | with_reducible refine within_seq ?_ ?_
    | with_reducible refine within_ite ?_ ?_
    | with_reducible refine within_set ?_
    | with_reducible refine within_arc ?_
    | with_reducible refine within_some? fun _ => ?_
    | with_reducible refine (commitPush_within _ _ _).mono ?_
    | with_reducible refine (nextHolder_within _ _).mono ?_
    | with_reducible refine (svcAnswered_within _ _).mono ?_
    | with_reducible refine (protoErr_within _).mono ?_
    | (dsimp only)
    | split
    | rfl)

end Sys2Proof.Machine
end

