-- ==== Sys2Proof/Laws/WithinBells.lean ====
section
/-!
SUPPORT. What each program of Machine/Bells.lean can change: one lemma each, over the places of Laws/Acts.lean.
-/

namespace Sys2Proof.Machine

set_option linter.unusedTactic false
set_option linter.unreachableTactic false

theorem bellIgnored_within (q : Nat) : (bellIgnored q).Within 0x4000000000000000000000000000000000000000000000 := by
  unfold bellIgnored
  repeat' (first
    | with_reducible exact within_skip
    | with_reducible refine within_read fun _ => ?_
    | with_reducible refine within_all_cons ?_ ?_
    | with_reducible refine within_all_one ?_
    | with_reducible refine within_seq ?_ ?_
    | with_reducible refine within_inc ?_
    | (dsimp only)
    | split
    | rfl)

theorem bellHalf_within (owner : Nat) (q : Nat) (high : Bool) (v : Nat) : (bellHalf owner q high v).Within 0x2800000000000000000000000000000000000000000000000000000000000004120000000000000000000000000000000000000000000 := by
  unfold bellHalf
  repeat' (first
    | with_reducible exact within_skip
    | with_reducible refine within_read fun _ => ?_
    | with_reducible refine within_all_cons ?_ ?_
    | with_reducible refine within_all_one ?_
    | with_reducible refine within_seq ?_ ?_
    | with_reducible refine within_ite ?_ ?_
    | with_reducible refine within_set ?_
    | with_reducible refine (bellIgnored_within _).mono ?_
    | with_reducible refine (event_within _ _ _ _).mono ?_
    | (dsimp only)
    | split
    | rfl)

theorem bellWriteOne_within (owner q v enables : Nat) : (bellWriteOne owner q v enables).Within 0x2800000000000000000000000000000000000000000000000000000000000004120000000000000000000000000000000000000000000 := by
  refine within_each (α := Bool) fun high => within_ite ?_ ?_
  · exact (bellHalf_within _ _ _ _).mono rfl
  · exact within_when ((bellIgnored_within _).mono rfl)

theorem bellLineWrite_within (ld : Nat) (off : Nat) (data : Line) (mask : Nat) : (bellLineWrite ld off data mask).Within 0x2800000000000000000000000000000000000000000000000000000000000004120000000000000000000000000000000000000000000 := by
  unfold bellLineWrite
  repeat' (first
    | with_reducible exact within_skip
    | with_reducible refine within_read fun _ => ?_
    | with_reducible refine within_all_cons ?_ ?_
    | with_reducible refine within_all_one ?_
    | with_reducible refine within_seq ?_ ?_
    | with_reducible refine within_each fun _ => ?_
    | with_reducible refine (bellWriteOne_within _ _ _ _).mono ?_
    | (dsimp only)
    | split
    | rfl)

theorem qpMgmtBell_within (q : Nat) (write : Option Nat) : (qpMgmtBell q write).Within 0x4000000000000000000000000000000000000000002800000000000000000000000000000000000000000000000000000000000004120000000000000000000000000000000000000000000 := by
  unfold qpMgmtBell
  repeat' (first
    | with_reducible exact within_skip
    | with_reducible refine within_read fun _ => ?_
    | with_reducible refine within_all_cons ?_ ?_
    | with_reducible refine within_all_one ?_
    | with_reducible refine within_seq ?_ ?_
    | with_reducible refine within_ite ?_ ?_
    | with_reducible refine within_when ?_
    | with_reducible refine within_set ?_
    | with_reducible refine within_emit ?_
    | with_reducible refine (bellWriteOne_within _ _ _ _).mono ?_
    | (dsimp only)
    | split
    | rfl)

end Sys2Proof.Machine
end

