-- ==== Sys2Proof/Laws/WithinBoesque.lean ====
section
/-!
SUPPORT. What each program of Machine/Boesque.lean can change: one lemma each, over the places of Laws/Acts.lean.
-/

namespace Sys2Proof.Machine

set_option linter.unusedTactic false
set_option linter.unreachableTactic false

theorem Act.blink_within (l : Nat) (f : BqlLink → BqlLink) : (Act.blink l f).Within 0x4000000000000000000000000000000000000000000000000000000000000000000000000000000000000000000000000000000000000000000000000000000000000000000000000000000000 := by
  unfold Act.blink
  repeat' (first
    | with_reducible exact within_skip
    | with_reducible refine within_read fun _ => ?_
    | with_reducible refine within_all_cons ?_ ?_
    | with_reducible refine within_all_one ?_
    | with_reducible refine within_seq ?_ ?_
    | with_reducible refine within_set ?_
    | with_reducible refine within_bql ?_
    | (dsimp only)
    | split
    | rfl)

theorem portSettle_within (p : Nat) : (portSettle p).Within 0x400000000000000000000000000000000000000000000000000000 := by
  unfold portSettle
  repeat' (first
    | with_reducible exact within_skip
    | with_reducible refine within_read fun _ => ?_
    | with_reducible refine within_all_cons ?_ ?_
    | with_reducible refine within_all_one ?_
    | with_reducible refine within_seq ?_ ?_
    | with_reducible refine within_set ?_
    | (dsimp only)
    | split
    | rfl)

theorem portPower_within (p : Nat) : (portPower p).Within 0xe00000000000000000000000000000000000000000000000000000 := by
  unfold portPower
  repeat' (first
    | with_reducible exact within_skip
    | with_reducible refine within_read fun _ => ?_
    | with_reducible refine within_all_cons ?_ ?_
    | with_reducible refine within_all_one ?_
    | with_reducible refine within_seq ?_ ?_
    | with_reducible refine within_when ?_
    | with_reducible refine within_set ?_
    | (dsimp only)
    | split
    | rfl)

theorem replayUsed_within (p : Nat) : (replayUsed p).Within 0x10000000000000000000000000000000000000000000000000000000 := by
  unfold replayUsed
  repeat' (first
    | with_reducible exact within_skip
    | with_reducible refine within_read fun _ => ?_
    | with_reducible refine within_all_cons ?_ ?_
    | with_reducible refine within_all_one ?_
    | with_reducible refine within_seq ?_ ?_
    | with_reducible refine within_set ?_
    | (dsimp only)
    | split
    | rfl)

theorem noteAck_within (l : Nat) : (noteAck l).Within 0x4000000000000000000000000000000000000000000000000000000000000000000000000000000000000000000000000000000000000000000000000000000000000000000000000000000000 := by
  unfold noteAck
  repeat' (first
    | with_reducible exact within_skip
    | with_reducible refine within_read fun _ => ?_
    | with_reducible refine within_all_cons ?_ ?_
    | with_reducible refine within_all_one ?_
    | with_reducible refine within_seq ?_ ?_
    | with_reducible refine (Act.blink_within _ _).mono ?_
    | (dsimp only)
    | split
    | rfl)

theorem sendCtl_within (l : Nat) (kind : Nat) (fields : List Nat) : (sendCtl l kind fields).Within 0x4004000000000000000000000000000000000000000002800000000000000000000000000000000000000000000000000000000000000000000000000000000000000000000000000000000000 := by
  unfold sendCtl
  repeat' (first
    | with_reducible exact within_skip
    | with_reducible refine within_read fun _ => ?_
    | with_reducible refine within_all_cons ?_ ?_
    | with_reducible refine within_all_one ?_
    | with_reducible refine within_seq ?_ ?_
    | with_reducible refine within_emit ?_
    | with_reducible refine (event_within _ _ _ _).mono ?_
    | with_reducible refine (noteAck_within _).mono ?_
    | (dsimp only)
    | split
    | rfl)

theorem sendPkt_within (l : Nat) (retx : Bool) (k : Pkt) : (sendPkt l retx k).Within 0x4004000000000000000000000000000000000000000002800000000000000000000000000000000000000000000000200000000000000000000000000000000000000000000000000000000000 := by
  unfold sendPkt
  repeat' (first
    | with_reducible exact within_skip
    | with_reducible refine within_read fun _ => ?_
    | with_reducible refine within_all_cons ?_ ?_
    | with_reducible refine within_all_one ?_
    | with_reducible refine within_seq ?_ ?_
    | with_reducible refine within_ite ?_ ?_
    | with_reducible refine within_when ?_
    | with_reducible refine within_emit ?_
    | with_reducible refine within_inc ?_
    | with_reducible refine (noteAck_within _).mono ?_
    | with_reducible refine (event_within _ _ _ _).mono ?_
    | (dsimp only)
    | split
    | rfl)

theorem newRound_within (l : Nat) : (newRound l).Within 0x4008000000000000000000000000000000000000000000000000000000000000000000000000000000000000000000000000000000000000000000000000000000000000000000000000000000 := by
  unfold newRound
  repeat' (first
    | with_reducible exact within_skip
    | with_reducible refine within_read fun _ => ?_
    | with_reducible refine within_all_cons ?_ ?_
    | with_reducible refine within_all_one ?_
    | with_reducible refine within_seq ?_ ?_
    | with_reducible refine within_free ?_ fun _ => ?_
    | with_reducible refine (Act.blink_within _ _).mono ?_
    | (dsimp only)
    | split
    | rfl)

theorem freeTo_within (l : Nat) (n : Nat) : (freeTo l n).Within 0x2c0cc000000000000000000000000000000000000001802800000000000000000000000000000000000000000000000040010000040080000000000000000000000000000000000400000000000 := by
  unfold freeTo
  repeat' (first
    | with_reducible exact within_skip
    | with_reducible refine within_read fun _ => ?_
    | with_reducible refine within_all_cons ?_ ?_
    | with_reducible refine within_all_one ?_
    | with_reducible refine within_seq ?_ ?_
    | with_reducible refine within_when ?_
    | with_reducible refine within_set ?_
    | with_reducible refine within_each fun _ => ?_
    | with_reducible refine (replayUsed_within _).mono ?_
    | with_reducible refine (fwdAcked_within _).mono ?_
    | with_reducible refine (Act.blink_within _ _).mono ?_
    | (dsimp only)
    | split
    | rfl)

theorem replay_within (l : Nat) : (replay l).Within 0x4004000000000000000000000000000000000000000002800000000000000000000000000000000000000000000000200000000000000000000000000000000000000000000000000000000000 := by
  unfold replay
  repeat' (first
    | with_reducible exact within_skip
    | with_reducible refine within_read fun _ => ?_
    | with_reducible refine within_all_cons ?_ ?_
    | with_reducible refine within_all_one ?_
    | with_reducible refine within_seq ?_ ?_
    | with_reducible refine within_each fun _ => ?_
    | with_reducible refine (sendPkt_within _ _ _).mono ?_
    | (dsimp only)
    | split
    | rfl)

theorem settleMode_within (l : Nat) (h : Hello) : (settleMode l h).Within 0x400000000000000000000000000000000000000000000000000000000000000000000000000000000000000000000001e000000000000000000000000000000000000000000000000000000000 := by
  unfold settleMode
  repeat' (first
    | with_reducible exact within_skip
    | with_reducible refine within_read fun _ => ?_
    | with_reducible refine within_all_cons ?_ ?_
    | with_reducible refine within_all_one ?_
    | with_reducible refine within_seq ?_ ?_
    | with_reducible refine within_set ?_
    | with_reducible refine (Act.blink_within _ _).mono ?_
    | (dsimp only)
    | split
    | rfl)

theorem resumeSession_within (l : Nat) (h : Hello) : (resumeSession l h).Within 0x2f8cc00000000000000000000000000000000000000180280001300000000000000000000000000000000000000000025e110000040080000000000000000000000000000000000400000000000 := by
  unfold resumeSession
  repeat' (first
    | with_reducible exact within_skip
    | with_reducible refine within_read fun _ => ?_
    | with_reducible refine within_all_cons ?_ ?_
    | with_reducible refine within_all_one ?_
    | with_reducible refine within_seq ?_ ?_
    | with_reducible refine within_set ?_
    | with_reducible refine (settleMode_within _ _).mono ?_
    | with_reducible refine (freeTo_within _ _).mono ?_
    | with_reducible refine (replay_within _).mono ?_
    | with_reducible refine (returned_within _).mono ?_
    | with_reducible refine (pairUp_within _).mono ?_
    | (dsimp only)
    | split
    | rfl)

theorem peerDelivered_within (l : Nat) (h : Hello) : (peerDelivered l h).Within 0x10000000000000000000000000000000000000000000000000130000000000000000000000000000000000000000c0000000000000000000000000000000000000000000000000000000000000 := by
  unfold peerDelivered
  repeat' (first
    | with_reducible exact within_skip
    | with_reducible refine within_read fun _ => ?_
    | with_reducible refine within_all_cons ?_ ?_
    | with_reducible refine within_all_one ?_
    | with_reducible refine within_seq ?_ ?_
    | with_reducible refine within_when ?_
    | with_reducible refine within_set ?_
    | with_reducible refine (lhLog_within _ _ _ _ _).mono ?_
    | (dsimp only)
    | split
    | rfl)

theorem newSession_within (l : Nat) (h : Hello) : (newSession l h).Within 0x78440000000000000000000000000000000000000000000000130000000000000000000000000000000000000000c00ff100000000000000000000000000000000000000000000000000000000 := by
  unfold newSession
  repeat' (first
    | with_reducible exact within_skip
    | with_reducible refine within_read fun _ => ?_
    | with_reducible refine within_all_cons ?_ ?_
    | with_reducible refine within_all_one ?_
    | with_reducible refine within_seq ?_ ?_
    | with_reducible refine within_ite ?_ ?_
    | with_reducible refine within_set ?_
    | with_reducible refine (settleMode_within _ _).mono ?_
    | with_reducible refine (peerDelivered_within _ _).mono ?_
    | with_reducible refine (returned_within _).mono ?_
    | with_reducible refine (sendJoin_within _).mono ?_
    | with_reducible refine (Act.blink_within _ _).mono ?_
    | (dsimp only)
    | split
    | rfl)

theorem reclaimTxn_within (r : Nat) (t : Txn) : (reclaimTxn r t).Within 0x2fccf000000000000000000000000000000000000001802800013e0ea04c00800000000000000000000080000000000000000000040080000000100800007d5c002000000400000400001000000 := by
  unfold reclaimTxn
  repeat' (first
    | with_reducible exact within_skip
    | with_reducible refine within_read fun _ => ?_
    | with_reducible refine within_all_cons ?_ ?_
    | with_reducible refine within_all_one ?_
    | with_reducible refine within_seq ?_ ?_
    | with_reducible refine within_ite ?_ ?_
    | with_reducible refine within_when ?_
    | with_reducible refine within_some? fun _ => ?_
    | with_reducible refine (openTxn_within _).mono ?_
    | with_reducible refine (send_within _ _).mono ?_
    | with_reducible refine (resolveLost_within _ _).mono ?_
    | with_reducible refine (loseLine_within _ _ _).mono ?_
    | with_reducible refine (collect_within _ _ _ _).mono ?_
    | with_reducible refine (closeTxn_within _).mono ?_
    | with_reducible refine (wake_within _).mono ?_
    | with_reducible refine (ask_within _ _ _ _ _).mono ?_
    | with_reducible refine Act.newId_within _  (fun _ => ?_) ?_
    | (dsimp only)
    | split
    | rfl)

theorem reclaimHome_within (r : Nat) : (reclaimHome r).Within 0x2fccf000000000000000000000000000000000000001802800013e0ea04c00800000000000000000000080000000000000000000040080000000100800007d5c002000000400000400001000000 := by
  unfold reclaimHome
  repeat' (first
    | with_reducible exact within_skip
    | with_reducible refine within_read fun _ => ?_
    | with_reducible refine within_all_cons ?_ ?_
    | with_reducible refine within_all_one ?_
    | with_reducible refine within_seq ?_ ?_
    | with_reducible refine within_ite ?_ ?_
    | with_reducible refine within_lines ?_
    | with_reducible refine within_each fun _ => ?_
    | with_reducible refine (reclaimTxn_within _ _).mono ?_
    | with_reducible refine (loseLine_within _ _ _).mono ?_
    | (dsimp only)
    | split
    | rfl)

theorem reclaimVisitor_within (r : Nat) : (reclaimVisitor r).Within 0x2c08c000000000000000000000000000000000000001802800000000000000000000000000000000000000000000000000000000040080000000000000000000000000000000000000000000000 := by
  unfold reclaimVisitor
  repeat' (first
    | with_reducible exact within_skip
    | with_reducible refine within_read fun _ => ?_
    | with_reducible refine within_all_cons ?_ ?_
    | with_reducible refine within_all_one ?_
    | with_reducible refine within_seq ?_ ?_
    | with_reducible refine within_each fun _ => ?_
    | with_reducible refine (answerDead_within _).mono ?_
    | with_reducible refine (setVis_within _ _).mono ?_
    | with_reducible refine (visSnoopHeads_within _ _ _ _).mono ?_
    | with_reducible refine (remoteDone_within _ _ _).mono ?_
    | (dsimp only)
    | split
    | rfl)

theorem flush_within (l : Nat) : (flush l).Within 0x3fccf000000000000000000000000000000000000001802800013e0ea04c008000000000000000000000800001040b8000110000040080000000100800007d5c002000000400000400001000000 := by
  unfold flush
  repeat' (first
    | with_reducible exact within_skip
    | with_reducible refine within_read fun _ => ?_
    | with_reducible refine within_all_cons ?_ ?_
    | with_reducible refine within_all_one ?_
    | with_reducible refine within_seq ?_ ?_
    | with_reducible refine within_when ?_
    | with_reducible refine within_set ?_
    | with_reducible refine within_inc ?_
    | with_reducible refine within_bql ?_
    | with_reducible refine within_each fun _ => ?_
    | with_reducible refine (lhLog_within _ _ _ _ _).mono ?_
    | with_reducible refine (replayUsed_within _).mono ?_
    | with_reducible refine (fwdUndelivered_within _ _).mono ?_
    | with_reducible refine (reclaimHome_within _).mono ?_
    | with_reducible refine (reclaimVisitor_within _).mono ?_
    | with_reducible refine (peerFlushed_within _).mono ?_
    | with_reducible refine (Act.blink_within _ _).mono ?_
    | (dsimp only)
    | split
    | rfl)

theorem declareLoss_within (l : Nat) : (declareLoss l).Within 0x3fccf000000000000000000000000000000000000001802800013e0ea04c008000000000000000000000a0c001040bc000110000040080000000100800007d5c002000000400000400001200000 := by
  unfold declareLoss
  repeat' (first
    | with_reducible exact within_skip
    | with_reducible refine within_read fun _ => ?_
    | with_reducible refine within_all_cons ?_ ?_
    | with_reducible refine within_all_one ?_
    | with_reducible refine within_seq ?_ ?_
    | with_reducible refine within_when ?_
    | with_reducible refine within_set ?_
    | with_reducible refine within_inc ?_
    | with_reducible refine within_bkw ?_
    | with_reducible refine (newRound_within _).mono ?_
    | with_reducible refine (raise_within _ _ _).mono ?_
    | with_reducible refine (pairsLost_within _).mono ?_
    | with_reducible refine (flush_within _).mono ?_
    | with_reducible refine (Act.blink_within _ _).mono ?_
    | (dsimp only)
    | split
    | rfl)

theorem linkLoss_within (l : Nat) : (linkLoss l).Within 0x3fccf000000000000000000000000000000000000001802800013e0ea04c008000000000000000000000a0c001040bc000110000040080000000100800007d5c002000000400000400001200000 := by
  unfold linkLoss
  repeat' (first
    | with_reducible exact within_skip
    | with_reducible refine within_read fun _ => ?_
    | with_reducible refine within_all_cons ?_ ?_
    | with_reducible refine within_all_one ?_
    | with_reducible refine within_seq ?_ ?_
    | with_reducible refine (declareLoss_within _).mono ?_
    | (dsimp only)
    | split
    | rfl)

theorem graceExpiry_within (l : Nat) : (graceExpiry l).Within 0x3fccf000000000000000000000000000000000000001802800013e0ea04c008000000000000000000000800001040b8000110000040080000000100800007d5c002000000400000400001000000 := by
  unfold graceExpiry
  repeat' (first
    | with_reducible exact within_skip
    | with_reducible refine within_read fun _ => ?_
    | with_reducible refine within_all_cons ?_ ?_
    | with_reducible refine within_all_one ?_
    | with_reducible refine within_seq ?_ ?_
    | with_reducible refine within_when ?_
    | with_reducible refine (flush_within _).mono ?_
    | (dsimp only)
    | split
    | rfl)

theorem flushComplete_within (l : Nat) : (flushComplete l).Within 0x4008000000000000000000000000000000000000000000000000000000000000000000000000000000000000000000000100e00000000000000000000000000000000000000000000000000000 := by
  unfold flushComplete
  repeat' (first
    | with_reducible exact within_skip
    | with_reducible refine within_read fun _ => ?_
    | with_reducible refine within_all_cons ?_ ?_
    | with_reducible refine within_all_one ?_
    | with_reducible refine within_seq ?_ ?_
    | with_reducible refine within_when ?_
    | with_reducible refine within_set ?_
    | with_reducible refine (newRound_within _).mono ?_
    | with_reducible refine (portPower_within _).mono ?_
    | (dsimp only)
    | split
    | rfl)

theorem landingStall_within (l : Nat) : (landingStall l).Within 0x3fccf000000000000000000000000000000000000001802800013e0ea04c008000000000000000000000a0c001040bc000110000040080000000100800007d5c002000000400000400001200000 := by
  unfold landingStall
  repeat' (first
    | with_reducible exact within_skip
    | with_reducible refine within_read fun _ => ?_
    | with_reducible refine within_all_cons ?_ ?_
    | with_reducible refine within_all_one ?_
    | with_reducible refine within_seq ?_ ?_
    | with_reducible refine within_when ?_
    | with_reducible refine (declareLoss_within _).mono ?_
    | (dsimp only)
    | split
    | rfl)

theorem helloDone_within (l : Nat) : (helloDone l).Within 0x3fccf000000000000000000000000000000000000001802800013e0ea04c008000000000000000000000800001040f82ff110000040080000000100800007d5c002000000400000400001000000 := by
  unfold helloDone
  repeat' (first
    | with_reducible exact within_skip
    | with_reducible refine within_read fun _ => ?_
    | with_reducible refine within_all_cons ?_ ?_
    | with_reducible refine within_all_one ?_
    | with_reducible refine within_seq ?_ ?_
    | with_reducible refine within_ite ?_ ?_
    | with_reducible refine within_when ?_
    | with_reducible refine within_some? fun _ => ?_
    | with_reducible refine (resumeSession_within _ _).mono ?_
    | with_reducible refine (flush_within _).mono ?_
    | with_reducible refine (newSession_within _ _).mono ?_
    | (dsimp only)
    | split
    | rfl)

theorem hello_within (l : Nat) (h : Hello) : (hello l h).Within 0x3fccf000000000000000000000000000000000000001802800013e0ea04c008000000000000000000000800001041f82ff910000040080000000100800007d5c002000000400000400001000000 := by
  unfold hello
  repeat' (first
    | with_reducible exact within_skip
    | with_reducible refine within_read fun _ => ?_
    | with_reducible refine within_all_cons ?_ ?_
    | with_reducible refine within_all_one ?_
    | with_reducible refine within_seq ?_ ?_
    | with_reducible refine within_ite ?_ ?_
    | with_reducible refine within_when ?_
    | with_reducible refine within_set ?_
    | with_reducible refine within_inc ?_
    | with_reducible refine (lhLog_within _ _ _ _ _).mono ?_
    | with_reducible refine (flush_within _).mono ?_
    | with_reducible refine (helloDone_within _).mono ?_
    | with_reducible refine (Act.blink_within _ _).mono ?_
    | (dsimp only)
    | split
    | rfl)

theorem helloTimer_within (l : Nat) : (helloTimer l).Within 0x3fccf000000000000000000000000000000000000001802800013e0ea04c008000000000000000000000800001040f82ff110000040080000000100800007d5c002000000400000400001000000 := by
  unfold helloTimer
  repeat' (first
    | with_reducible exact within_skip
    | with_reducible refine within_read fun _ => ?_
    | with_reducible refine within_all_cons ?_ ?_
    | with_reducible refine within_all_one ?_
    | with_reducible refine within_seq ?_ ?_
    | with_reducible refine within_when ?_
    | with_reducible refine within_emit ?_
    | with_reducible refine (event_within _ _ _ _).mono ?_
    | with_reducible refine (helloDone_within _).mono ?_
    | with_reducible refine (Act.blink_within _ _).mono ?_
    | (dsimp only)
    | split
    | rfl)

theorem bqlRefused_within  : bqlRefused.Within 0x800000000000000000000000000000000000000000000000000 := by
  unfold bqlRefused
  repeat' (first
    | with_reducible exact within_skip
    | with_reducible refine within_read fun _ => ?_
    | with_reducible refine within_all_cons ?_ ?_
    | with_reducible refine within_all_one ?_
    | with_reducible refine within_seq ?_ ?_
    | with_reducible refine within_set ?_
    | (dsimp only)
    | split
    | rfl)

theorem bqlDone_within {K : Nat} (a : Act) (h0 : a.Within K) (hK : inside 0x800000000000000000000000000000000000000000000000000 K = true) : (bqlDone a).Within K := by
  unfold bqlDone
  repeat' (first
    | with_reducible exact within_skip
    | ((with_reducible refine inside_trans ?_ hK); rfl)
    | ((with_reducible refine inside_bit hK ?_); rfl)
    | with_reducible exact h0
    | with_reducible refine within_read fun _ => ?_
    | with_reducible refine within_all_cons ?_ ?_
    | with_reducible refine within_all_one ?_
    | with_reducible refine within_seq ?_ ?_
    | with_reducible refine within_set ?_
    | (dsimp only)
    | split)

theorem portEnable_within (p : Nat) (v : Bool) : (portEnable p v).Within 0x4000000000000000000000000000000000000000000000000000000000000000000000000000000000000000000000000000e40800000000000000000000000000000000000000000000000000 := by
  unfold portEnable
  repeat' (first
    | with_reducible exact within_skip
    | with_reducible refine within_read fun _ => ?_
    | with_reducible refine within_all_cons ?_ ?_
    | with_reducible refine within_all_one ?_
    | with_reducible refine within_seq ?_ ?_
    | with_reducible refine within_ite ?_ ?_
    | with_reducible refine within_when ?_
    | with_reducible refine within_set ?_
    | with_reducible refine within_bql ?_
    | with_reducible refine bqlDone_within _  ?_ ?_
    | with_reducible refine (portSettle_within _).mono ?_
    | with_reducible refine (portPower_within _).mono ?_
    | (dsimp only)
    | split
    | rfl)

theorem linkEnable_within (l : Nat) (v : Bool) : (linkEnable l v).Within 0x3fccf000000000000000000000000000000000000001802800013e0ea04c008000000000000000000000800001040b8000150e00840080000000100800007d5c002000000400000400001000000 := by
  unfold linkEnable
  repeat' (first
    | with_reducible exact within_skip
    | with_reducible refine within_read fun _ => ?_
    | with_reducible refine within_all_cons ?_ ?_
    | with_reducible refine within_all_one ?_
    | with_reducible refine within_seq ?_ ?_
    | with_reducible refine within_ite ?_ ?_
    | with_reducible refine within_when ?_
    | with_reducible refine within_set ?_
    | with_reducible refine bqlDone_within _  ?_ ?_
    | with_reducible refine (bqlRefused_within).mono ?_
    | with_reducible refine (newRound_within _).mono ?_
    | with_reducible refine (portPower_within _).mono ?_
    | with_reducible refine (flush_within _).mono ?_
    | (dsimp only)
    | split
    | rfl)

theorem anTxWrite_within (l : Nat) (v : Nat) : (anTxWrite l v).Within 0x80000800000000000000000000000000000000000000000000000000 := by
  unfold anTxWrite
  repeat' (first
    | with_reducible exact within_skip
    | with_reducible refine within_read fun _ => ?_
    | with_reducible refine within_all_cons ?_ ?_
    | with_reducible refine within_all_one ?_
    | with_reducible refine within_seq ?_ ?_
    | with_reducible refine within_when ?_
    | with_reducible refine within_set ?_
    | with_reducible refine bqlDone_within _  ?_ ?_
    | (dsimp only)
    | split
    | rfl)

theorem packetSend_within (l : Nat) (cls : Nat) (prio : Nat) (n : Nat) : (packetSend l cls prio n).Within 0x4004000000000000000000000000000000000000000002800000000000000000000000000000000000000000000000220010000000000000000000000000000000000000000000000000000000 := by
  unfold packetSend
  repeat' (first
    | with_reducible exact within_skip
    | with_reducible refine within_read fun _ => ?_
    | with_reducible refine within_all_cons ?_ ?_
    | with_reducible refine within_all_one ?_
    | with_reducible refine within_seq ?_ ?_
    | with_reducible refine within_ite ?_ ?_
    | with_reducible refine within_when ?_
    | with_reducible refine within_set ?_
    | with_reducible refine within_inc ?_
    | with_reducible refine within_bql ?_
    | with_reducible refine (replayUsed_within _).mono ?_
    | with_reducible refine (sendPkt_within _ _ _).mono ?_
    | with_reducible refine (Act.blink_within _ _).mono ?_
    | (dsimp only)
    | split
    | rfl)

theorem acked_within (l : Nat) (n : Nat) : (acked l n).Within 0x2c0cc000000000000000000000000000000000000001802800000000000000000000000000000000000000000000000040010000040080000000000000000000000000000000000400000000000 := by
  unfold acked
  repeat' (first
    | with_reducible exact within_skip
    | with_reducible refine within_read fun _ => ?_
    | with_reducible refine within_all_cons ?_ ?_
    | with_reducible refine within_all_one ?_
    | with_reducible refine within_seq ?_ ?_
    | with_reducible refine within_when ?_
    | with_reducible refine (freeTo_within _ _).mono ?_
    | (dsimp only)
    | split
    | rfl)

theorem onLive_within {K : Nat} (l : Nat) (a : Act) (h0 : a.Within K) (_hK : inside 0x0 K = true) : (onLive l a).Within K := by
  unfold onLive
  repeat' (first
    | with_reducible exact within_skip
    | ((with_reducible refine inside_trans ?_ hK); rfl)
    | ((with_reducible refine inside_bit hK ?_); rfl)
    | with_reducible exact h0
    | with_reducible refine within_read fun _ => ?_
    | with_reducible refine within_all_cons ?_ ?_
    | with_reducible refine within_all_one ?_
    | with_reducible refine within_seq ?_ ?_
    | with_reducible refine within_when ?_
    | (dsimp only)
    | split)

theorem takeAck_within (l : Nat) (n : Nat) : (takeAck l n).Within 0x2c0cc000000000000000000000000000000000000001802800000000000000000000000000000000000000000000000040010000040080000000000000000000000000000000000400000000000 := by
  unfold takeAck
  repeat' (first
    | with_reducible exact within_skip
    | with_reducible refine within_read fun _ => ?_
    | with_reducible refine within_all_cons ?_ ?_
    | with_reducible refine within_all_one ?_
    | with_reducible refine within_seq ?_ ?_
    | with_reducible refine onLive_within _ _  ?_ ?_
    | with_reducible refine (acked_within _ _).mono ?_
    | (dsimp only)
    | split
    | rfl)

theorem takeKeepalive_within (l : Nat) (n : Nat) : (takeKeepalive l n).Within 0x2c0cc000000000000000000000000000000000000001802800000000000000000000000000000000000000000000000040010000040080000000000000000000000000000000000400000000000 := by
  unfold takeKeepalive
  repeat' (first
    | with_reducible exact within_skip
    | with_reducible refine within_read fun _ => ?_
    | with_reducible refine within_all_cons ?_ ?_
    | with_reducible refine within_all_one ?_
    | with_reducible refine within_seq ?_ ?_
    | with_reducible refine onLive_within _ _  ?_ ?_
    | with_reducible refine (acked_within _ _).mono ?_
    | (dsimp only)
    | split
    | rfl)

theorem takeNak_within (l : Nat) (n : Nat) : (takeNak l n).Within 0x2dccc000000000000000000000000000000000000001802800013e0ea04c00800000000000000000000000000000000a40010000040080000000100000000080000000000000000400000000000 := by
  unfold takeNak
  repeat' (first
    | with_reducible exact within_skip
    | with_reducible refine within_read fun _ => ?_
    | with_reducible refine within_all_cons ?_ ?_
    | with_reducible refine within_all_one ?_
    | with_reducible refine within_seq ?_ ?_
    | with_reducible refine within_ite ?_ ?_
    | with_reducible refine within_when ?_
    | with_reducible refine within_inc ?_
    | with_reducible refine onLive_within _ _  ?_ ?_
    | with_reducible refine (protoErr_within _).mono ?_
    | with_reducible refine (freeTo_within _ _).mono ?_
    | with_reducible refine (replay_within _).mono ?_
    | (dsimp only)
    | split
    | rfl)

theorem replayTimeout_within (l : Nat) : (replayTimeout l).Within 0x4004000000000000000000000000000000000000000002800000000000000000000000000000000000000000000001200000000000000000000000000000000000000000000000000000000000 := by
  unfold replayTimeout
  repeat' (first
    | with_reducible exact within_skip
    | with_reducible refine within_read fun _ => ?_
    | with_reducible refine within_all_cons ?_ ?_
    | with_reducible refine within_all_one ?_
    | with_reducible refine within_seq ?_ ?_
    | with_reducible refine within_when ?_
    | with_reducible refine within_inc ?_
    | with_reducible refine (replay_within _).mono ?_
    | (dsimp only)
    | split
    | rfl)

theorem keepaliveTimer_within (l : Nat) : (keepaliveTimer l).Within 0x4004000000000000000000000000000000000000000002800000000000000000000000000000000000000000000000000000000000000000000000000000000000000000000000000000000000 := by
  unfold keepaliveTimer
  repeat' (first
    | with_reducible exact within_skip
    | with_reducible refine within_read fun _ => ?_
    | with_reducible refine within_all_cons ?_ ?_
    | with_reducible refine within_all_one ?_
    | with_reducible refine within_seq ?_ ?_
    | with_reducible refine within_when ?_
    | with_reducible refine (sendCtl_within _ _ _).mono ?_
    | (dsimp only)
    | split
    | rfl)

theorem ackTimer_within (l : Nat) : (ackTimer l).Within 0x4004000000000000000000000000000000000000000002800000000000000000000000000000000000000000000000000000000000000000000000000000000000000000000000000000000000 := by
  unfold ackTimer
  repeat' (first
    | with_reducible exact within_skip
    | with_reducible refine within_read fun _ => ?_
    | with_reducible refine within_all_cons ?_ ?_
    | with_reducible refine within_all_one ?_
    | with_reducible refine within_seq ?_ ?_
    | with_reducible refine within_when ?_
    | with_reducible refine (sendCtl_within _ _ _).mono ?_
    | (dsimp only)
    | split
    | rfl)

theorem sendNak_within (l : Nat) (reason : Nat) : (sendNak l reason).Within 0x4004000000000000000000000000000000000000000002800000000000000000000000000000000000000000000000400000000000000000000000000000000000000000000000000000000000 := by
  unfold sendNak
  repeat' (first
    | with_reducible exact within_skip
    | with_reducible refine within_read fun _ => ?_
    | with_reducible refine within_all_cons ?_ ?_
    | with_reducible refine within_all_one ?_
    | with_reducible refine within_seq ?_ ?_
    | with_reducible refine within_inc ?_
    | with_reducible refine (sendCtl_within _ _ _).mono ?_
    | (dsimp only)
    | split
    | rfl)

theorem nakRepeat_within (l : Nat) : (nakRepeat l).Within 0x4004000000000000000000000000000000000000000002800000000000000000000000000000000000000000000000400000000000000000000000000000000000000000000000000000000000 := by
  unfold nakRepeat
  repeat' (first
    | with_reducible exact within_skip
    | with_reducible refine within_read fun _ => ?_
    | with_reducible refine within_all_cons ?_ ?_
    | with_reducible refine within_all_one ?_
    | with_reducible refine within_seq ?_ ?_
    | with_reducible refine within_ite ?_ ?_
    | with_reducible refine within_when ?_
    | with_reducible refine (sendNak_within _ _).mono ?_
    | with_reducible refine (Act.blink_within _ _).mono ?_
    | (dsimp only)
    | split
    | rfl)

theorem takeMsg_within (x : Msg) : (takeMsg x).Within 0x13ffcf000000000000000000000000000000000000001802840013e0ea04c008000020000000000008000ffe081c500000000000004008000000010080000fddc3228000005800de5e0003fc0904 := by
  unfold takeMsg
  repeat' (first
    | with_reducible exact within_skip
    | with_reducible refine within_read fun _ => ?_
    | with_reducible refine within_all_cons ?_ ?_
    | with_reducible refine within_all_one ?_
    | with_reducible refine within_seq ?_ ?_
    | with_reducible refine within_ite ?_ ?_
    | with_reducible refine fromPeer_within _ _  ?_ ?_
    | with_reducible refine (homeReq_within _ _ _).mono ?_
    | with_reducible refine (homeAtom_within _).mono ?_
    | with_reducible refine (snooped_within _).mono ?_
    | with_reducible refine (visitorAnswer_within _ _ _ _).mono ?_
    | with_reducible refine (visData_within _).mono ?_
    | with_reducible refine (visCmpErr_within _).mono ?_
    | with_reducible refine (takeGntAck_within _).mono ?_
    | with_reducible refine (takeClnEvict_within _ _).mono ?_
    | with_reducible refine (visWbAck_within _).mono ?_
    | with_reducible refine (takeFwdFail_within _).mono ?_
    | with_reducible refine (takeWb_within _).mono ?_
    | with_reducible refine (takeWbKeep_within _).mono ?_
    | with_reducible refine (takeSnpData_within _).mono ?_
    | with_reducible refine svcIn_within _ _  ?_ ?_
    | with_reducible refine (takeJoin_within _).mono ?_
    | with_reducible refine (takeLeave_within _).mono ?_
    | with_reducible refine (takeImgPut_within _).mono ?_
    | with_reducible refine (takeImgGet_within _).mono ?_
    | with_reducible refine (takeImgRelease_within _).mono ?_
    | with_reducible refine (takeImgEvict_within _).mono ?_
    | with_reducible refine svcFrom_within _ _  ?_ ?_
    | with_reducible refine (takeImgData_within _).mono ?_
    | with_reducible refine (takeMirWr_within _).mono ?_
    | with_reducible refine (takeMirOwn_within _).mono ?_
    | with_reducible refine (takeMirPage_within _).mono ?_
    | with_reducible refine (takeMirFetch_within _).mono ?_
    | with_reducible refine (takePair_within _).mono ?_
    | with_reducible refine (takeClaim_within _).mono ?_
    | with_reducible refine (takeHeal_within _).mono ?_
    | with_reducible refine (takeHandover_within _).mono ?_
    | with_reducible refine (takeRmtBind_within _).mono ?_
    | with_reducible refine (takeSvcAck_within _).mono ?_
    | with_reducible refine (protoErr_within _).mono ?_
    | (dsimp only)
    | split
    | rfl)

theorem endReq_within (x : Msg) : (endReq x).Within 0x4000000000000000000000000000000000000000000000000000000000000000000000000000000000000000000000000000000000000000000000000000000000000000000000000000000000 := by
  unfold endReq
  repeat' (first
    | with_reducible exact within_skip
    | with_reducible refine within_read fun _ => ?_
    | with_reducible refine within_all_cons ?_ ?_
    | with_reducible refine within_all_one ?_
    | with_reducible refine within_seq ?_ ?_
    | with_reducible refine within_ite ?_ ?_
    | with_reducible refine within_when ?_
    | with_reducible refine within_some? fun _ => ?_
    | with_reducible refine (Act.blink_within _ _).mono ?_
    | (dsimp only)
    | split
    | rfl)

theorem land_within (l : Nat) (f : Frame) : (land l f).Within 0x13ffcf000000000000000000000000000000000000001802840013e0ea04c008000020000000000008000ffe081c500008000000004008000000010080000fddc3228000005800de5e0003fc0904 := by
  unfold land
  repeat' (first
    | with_reducible exact within_skip
    | with_reducible refine within_read fun _ => ?_
    | with_reducible refine within_all_cons ?_ ?_
    | with_reducible refine within_all_one ?_
    | with_reducible refine within_seq ?_ ?_
    | with_reducible refine within_ite ?_ ?_
    | with_reducible refine within_when ?_
    | with_reducible refine within_inc ?_
    | with_reducible refine within_each fun _ => ?_
    | with_reducible refine (event_within _ _ _ _).mono ?_
    | with_reducible refine (protoErr_within _).mono ?_
    | with_reducible refine (endReq_within _).mono ?_
    | with_reducible refine (takeMsg_within _).mono ?_
    | with_reducible refine (sendCtl_within _ _ _).mono ?_
    | with_reducible refine (Act.blink_within _ _).mono ?_
    | (dsimp only)
    | split
    | rfl)

theorem landing_within (l : Nat) (f : Frame) : (landing l f).Within 0x13ffcf000000000000000000000000000000000000001802840013e0ea04c008000020000000000008000ffe081c500248002000004008000000010080000fddc3228000005800de5e0003fc0904 := by
  unfold landing
  repeat' (first
    | with_reducible exact within_skip
    | with_reducible refine within_read fun _ => ?_
    | with_reducible refine within_all_cons ?_ ?_
    | with_reducible refine within_all_one ?_
    | with_reducible refine within_seq ?_ ?_
    | with_reducible refine within_ite ?_ ?_
    | with_reducible refine within_when ?_
    | with_reducible refine within_inc ?_
    | with_reducible refine (land_within _ _).mono ?_
    | with_reducible refine (raise_within _ _ _).mono ?_
    | with_reducible refine (sendNak_within _ _).mono ?_
    | with_reducible refine (sendCtl_within _ _ _).mono ?_
    | with_reducible refine (Act.blink_within _ _).mono ?_
    | (dsimp only)
    | split
    | rfl)

theorem frameReceive_within (p : Nat) (f : Frame) : (frameReceive p f).Within 0x13ffcf000000000000000000000000000000000000001802840013e0ea04c008000020000000000008000ffe081c50025c003600004008000000010080000fddc3228000005800de5e0003fc0904 := by
  unfold frameReceive
  repeat' (first
    | with_reducible exact within_skip
    | with_reducible refine within_read fun _ => ?_
    | with_reducible refine within_all_cons ?_ ?_
    | with_reducible refine within_all_one ?_
    | with_reducible refine within_seq ?_ ?_
    | with_reducible refine within_ite ?_ ?_
    | with_reducible refine within_when ?_
    | with_reducible refine within_inc ?_
    | with_reducible refine onLive_within _ _  ?_ ?_
    | with_reducible refine (acked_within _ _).mono ?_
    | with_reducible refine (event_within _ _ _ _).mono ?_
    | with_reducible refine (landing_within _ _).mono ?_
    | (dsimp only)
    | split
    | rfl)

theorem applyReneg_within (l : Nat) (rate : Nat) (phy : Bool) : (applyReneg l rate phy).Within 0x4008000000000000000000000000000000000000000000000000000000000000000000000000000000000000000000008100400000000000000000000000000000000000000000000000000000 := by
  unfold applyReneg
  repeat' (first
    | with_reducible exact within_skip
    | with_reducible refine within_read fun _ => ?_
    | with_reducible refine within_all_cons ?_ ?_
    | with_reducible refine within_all_one ?_
    | with_reducible refine within_seq ?_ ?_
    | with_reducible refine within_ite ?_ ?_
    | with_reducible refine within_set ?_
    | with_reducible refine within_bql ?_
    | with_reducible refine (portSettle_within _).mono ?_
    | with_reducible refine (newRound_within _).mono ?_
    | (dsimp only)
    | split
    | rfl)

theorem answerReneg_within (l : Nat) (ident : Nat) (rate : Nat) (phy : Bool) : (answerReneg l ident rate phy).Within 0x400c000000000000000000000000000000000000000002800000000000000000000000000000000000000000000000008100400000000000000000000000000000000000000000000000000000 := by
  unfold answerReneg
  repeat' (first
    | with_reducible exact within_skip
    | with_reducible refine within_read fun _ => ?_
    | with_reducible refine within_all_cons ?_ ?_
    | with_reducible refine within_all_one ?_
    | with_reducible refine within_seq ?_ ?_
    | with_reducible refine within_ite ?_ ?_
    | with_reducible refine within_when ?_
    | with_reducible refine (sendCtl_within _ _ _).mono ?_
    | with_reducible refine (applyReneg_within _ _ _).mono ?_
    | (dsimp only)
    | split
    | rfl)

theorem takeReneg_within (l : Nat) (pid : Nat) (rate : Nat) (phy : Bool) (ident : Nat) : (takeReneg l pid rate phy ident).Within 0x400c000000000000000000000000000000000000000002800000000000000000000000000000000000000000000200008100400000000000000000000000000000000000000000000000000000 := by
  unfold takeReneg
  repeat' (first
    | with_reducible exact within_skip
    | with_reducible refine within_read fun _ => ?_
    | with_reducible refine within_all_cons ?_ ?_
    | with_reducible refine within_all_one ?_
    | with_reducible refine within_seq ?_ ?_
    | with_reducible refine within_ite ?_ ?_
    | with_reducible refine within_when ?_
    | with_reducible refine within_inc ?_
    | with_reducible refine (answerReneg_within _ _ _ _).mono ?_
    | with_reducible refine (sendCtl_within _ _ _).mono ?_
    | with_reducible refine (Act.blink_within _ _).mono ?_
    | (dsimp only)
    | split
    | rfl)

theorem takeRenegAns_within (l : Nat) (pid : Nat) (result : Nat) : (takeRenegAns l pid result).Within 0x4008000000000000000000000000000000000000000000000000000000000000000000000000000000000000000000008100400000000000000000000000000000000000000000000000000000 := by
  unfold takeRenegAns
  repeat' (first
    | with_reducible exact within_skip
    | with_reducible refine within_read fun _ => ?_
    | with_reducible refine within_all_cons ?_ ?_
    | with_reducible refine within_all_one ?_
    | with_reducible refine within_seq ?_ ?_
    | with_reducible refine within_when ?_
    | with_reducible refine within_some? fun _ => ?_
    | with_reducible refine (applyReneg_within _ _ _).mono ?_
    | with_reducible refine (Act.blink_within _ _).mono ?_
    | (dsimp only)
    | split
    | rfl)

theorem sendReneg_within (l : Nat) (q : Proposal) : (sendReneg l q).Within 0x4004000000000000000000000000000000000000000002800000000000000000000000000000000000000000000000000000000000000000000000000000000000000000000000000000000000 := by
  unfold sendReneg
  repeat' (first
    | with_reducible exact within_skip
    | with_reducible refine within_read fun _ => ?_
    | with_reducible refine within_all_cons ?_ ?_
    | with_reducible refine within_all_one ?_
    | with_reducible refine within_seq ?_ ?_
    | with_reducible refine (sendCtl_within _ _ _).mono ?_
    | (dsimp only)
    | split
    | rfl)

theorem renegRetry_within (l : Nat) : (renegRetry l).Within 0x4004000000000000000000000000000000000000000002800000000000000000000000000000000000000000000200000000000000000000000000000000000000000000000000000000000000 := by
  unfold renegRetry
  repeat' (first
    | with_reducible exact within_skip
    | with_reducible refine within_read fun _ => ?_
    | with_reducible refine within_all_cons ?_ ?_
    | with_reducible refine within_all_one ?_
    | with_reducible refine within_seq ?_ ?_
    | with_reducible refine within_ite ?_ ?_
    | with_reducible refine within_inc ?_
    | with_reducible refine within_some? fun _ => ?_
    | with_reducible refine (sendReneg_within _ _).mono ?_
    | with_reducible refine (Act.blink_within _ _).mono ?_
    | (dsimp only)
    | split
    | rfl)

theorem portLaneChange_within (p : Nat) (lanes : Nat) : (portLaneChange p lanes).Within 0x4004000000000000000000000000000000000000000002800000000000000000000000000000000000000000000000000000c00000000000000000000000000000000000000000000000000000 := by
  unfold portLaneChange
  repeat' (first
    | with_reducible exact within_skip
    | with_reducible refine within_read fun _ => ?_
    | with_reducible refine within_all_cons ?_ ?_
    | with_reducible refine within_all_one ?_
    | with_reducible refine within_seq ?_ ?_
    | with_reducible refine within_ite ?_ ?_
    | with_reducible refine within_when ?_
    | with_reducible refine within_set ?_
    | with_reducible refine within_each fun _ => ?_
    | with_reducible refine (portSettle_within _).mono ?_
    | with_reducible refine (sendReneg_within _ _).mono ?_
    | with_reducible refine (Act.blink_within _ _).mono ?_
    | (dsimp only)
    | split
    | rfl)

end Sys2Proof.Machine
end

