-- ==== Sys2Proof/Laws/WithinHostRequests.lean ====
section
/-!
SUPPORT. What each program of Machine/HostRequests.lean can change: one lemma each, over the places of Laws/Acts.lean.
-/

namespace Sys2Proof.Machine

set_option linter.unusedTactic false
set_option linter.unreachableTactic false

theorem accept_within {K : Nat} (ld : Nat) (cxl : Bool) (a : Act) (h0 : a.Within K) (hK : inside 0x2800000000000000000000000000000000000000000000000000000000000000000000000000000000000000000000000000000000000 K = true) : (accept ld cxl a).Within K := by
  unfold accept
  repeat' (first
    | with_reducible exact within_skip
    | ((with_reducible refine inside_trans ?_ hK); rfl)
    | ((with_reducible refine inside_bit hK ?_); rfl)
    | with_reducible exact h0
    | with_reducible refine within_read fun _ => ?_
    | with_reducible refine within_all_cons ?_ ?_
    | with_reducible refine within_all_one ?_
    | with_reducible refine within_seq ?_ ?_
    | with_reducible refine within_when ?_
    | with_reducible refine (event_within _ _ _ _).mono ?_
    | (dsimp only)
    | split)

theorem unmapped_within (ld : Nat) : (unmapped ld).Within 0x1c44000000000000000000000000000000000000000000000013e0ea04c00800000000000000000000000000000000000000000000000000000180000000000000000000000000000000000000 := by
  unfold unmapped
  repeat' (first
    | with_reducible exact within_skip
    | with_reducible refine within_read fun _ => ?_
    | with_reducible refine within_all_cons ?_ ?_
    | with_reducible refine within_all_one ?_
    | with_reducible refine within_seq ?_ ?_
    | with_reducible refine within_inc ?_
    | with_reducible refine (raise_within _ _ _).mono ?_
    | (dsimp only)
    | split
    | rfl)

theorem remoteReq_within (n : Nat) (home : Nat) (line : Nat) (src : Agent) (kind : ReqOp) (f : Req → Req) : (remoteReq n home line src kind f).Within 0x2c0cc000000000000000000000000000000000000001802800000000000000000000000000000000000000000000000000000000040080000000000000000000000000000000000400000000000 := by
  unfold remoteReq
  repeat' (first
    | with_reducible exact within_skip
    | with_reducible refine within_read fun _ => ?_
    | with_reducible refine within_all_cons ?_ ?_
    | with_reducible refine within_all_one ?_
    | with_reducible refine within_seq ?_ ?_
    | with_reducible refine within_ite ?_ ?_
    | with_reducible refine (visStep_within _ _ _).mono ?_
    | with_reducible refine (visWake_within _).mono ?_
    | with_reducible refine (answerDead_within _).mono ?_
    | with_reducible refine Act.newId_within _  (fun _ => ?_) ?_
    | (dsimp only)
    | split
    | rfl)

theorem hostRead_within (ld : Nat) (dpa : Nat) (tag : Nat) (sop : Nat) (ms : MetaState) : (hostRead ld dpa tag sop ms).Within 0x2fcce000000000000000000000000000000000000001802800013e0ea04c00800000000000000000000080000000000000000000040080000000180800007c5c002000000400000400001000000 := by
  unfold hostRead
  repeat' (first
    | with_reducible exact within_skip
    | with_reducible refine within_read fun _ => ?_
    | with_reducible refine within_all_cons ?_ ?_
    | with_reducible refine within_all_one ?_
    | with_reducible refine within_seq ?_ ?_
    | with_reducible refine within_ite ?_ ?_
    | with_reducible refine within_emit ?_
    | with_reducible refine accept_within _ _ _  ?_ ?_
    | with_reducible refine (unmapped_within _).mono ?_
    | with_reducible refine (sample_within _ _ _ _ _ _ _).mono ?_
    | with_reducible refine (responded_within _).mono ?_
    | with_reducible refine (remoteReq_within _ _ _ _ _ _).mono ?_
    | with_reducible refine (request_within _ _ _ _).mono ?_
    | (dsimp only)
    | split
    | rfl)

theorem wbDir_within (line : Nat) (h : Nat) (ms : MetaState) : (wbDir line h ms).Within 0x80000000000000000000000000000000000000000000000000000000000000000000000000000000000000000000000000000000000000000000000000000000000000000000000000000000 := by
  unfold wbDir
  repeat' (first
    | with_reducible exact within_skip
    | with_reducible refine within_read fun _ => ?_
    | with_reducible refine within_all_cons ?_ ?_
    | with_reducible refine within_all_one ?_
    | with_reducible refine within_seq ?_ ?_
    | with_reducible refine within_some? fun _ => ?_
    | with_reducible refine (setDir_within _ _).mono ?_
    | (dsimp only)
    | split
    | rfl)

theorem wbPartial_within (n : Nat) (line : Nat) (data : Line) (mask : Nat) (master : Nat) : (wbPartial n line data mask master).Within 0x2fcce000000000000000000000000000000000000001802800013e0ea04c00800000000000000000000000000000000000000000040080000000100800007c00002000000400000400001000000 := by
  unfold wbPartial
  repeat' (first
    | with_reducible exact within_skip
    | with_reducible refine within_read fun _ => ?_
    | with_reducible refine within_all_cons ?_ ?_
    | with_reducible refine within_all_one ?_
    | with_reducible refine within_seq ?_ ?_
    | with_reducible refine within_ite ?_ ?_
    | with_reducible refine within_rcd ?_
    | with_reducible refine (place_within _ _ _ _ _ _).mono ?_
    | with_reducible refine (fetch_within _ _ _).mono ?_
    | with_reducible refine (getImage_within _ _ _).mono ?_
    | with_reducible refine (readDram_within _ _).mono ?_
    | with_reducible refine Act.newId_within _  (fun _ => ?_) ?_
    | (dsimp only)
    | split
    | rfl)

theorem holderWrite_within (n : Nat) (ld : Nat) (tag : Nat) (line : Nat) (sop : Nat) (ms : MetaState) (data : Line) (mask : Nat) : (holderWrite n ld tag line sop ms data mask).Within 0x2fcce000000000000000000000000000000000000001802800013e0ea04c00800000000000000000000080000000000000000000040080000000100800007c5c002000000400000400001000000 := by
  unfold holderWrite
  repeat' (first
    | with_reducible exact within_skip
    | with_reducible refine within_read fun _ => ?_
    | with_reducible refine within_all_cons ?_ ?_
    | with_reducible refine within_all_one ?_
    | with_reducible refine within_seq ?_ ?_
    | with_reducible refine within_ite ?_ ?_
    | with_reducible refine within_emit ?_
    | with_reducible refine within_inc ?_
    | with_reducible refine (takeData_within _ _ _ _ _).mono ?_
    | with_reducible refine (wbPartial_within _ _ _ _ _).mono ?_
    | with_reducible refine (mirrorLine_within _ _ _ _).mono ?_
    | with_reducible refine (wbDir_within _ _ _).mono ?_
    | with_reducible refine (dirStats_within _).mono ?_
    | with_reducible refine (sample_within _ _ _ _ _ _ _).mono ?_
    | with_reducible refine (wake_within _).mono ?_
    | (dsimp only)
    | split
    | rfl)

theorem visHolderWrite_within (n : Nat) (ld : Nat) (tag : Nat) (k : Nat) (sop : Nat) (ms : MetaState) (data : Line) (mask : Nat) : (visHolderWrite n ld tag k sop ms data mask).Within 0x808c000000000000000000000000000000000000001802800000000000000000000000000000000000000000000000000000000000000000000000000000000000000000000000000000000000 := by
  unfold visHolderWrite
  repeat' (first
    | with_reducible exact within_skip
    | with_reducible refine within_read fun _ => ?_
    | with_reducible refine within_all_cons ?_ ?_
    | with_reducible refine within_all_one ?_
    | with_reducible refine within_seq ?_ ?_
    | with_reducible refine within_ite ?_ ?_
    | with_reducible refine within_emit ?_
    | with_reducible refine (setVis_within _ _).mono ?_
    | with_reducible refine (sample_within _ _ _ _ _ _ _).mono ?_
    | (dsimp only)
    | split
    | rfl)

theorem hostWrite_within (ld : Nat) (dpa : Nat) (tag : Nat) (sop : Nat) (ms : MetaState) (data : Line) (mask : Nat) : (hostWrite ld dpa tag sop ms data mask).Within 0x2fcce000000000000000000000000000000000000001802800013e0ea04c00800000000000000000000080000000000000000000040084120000180800007c5c002000000400000400001000000 := by
  unfold hostWrite
  repeat' (first
    | with_reducible exact within_skip
    | with_reducible refine within_read fun _ => ?_
    | with_reducible refine within_all_cons ?_ ?_
    | with_reducible refine within_all_one ?_
    | with_reducible refine within_seq ?_ ?_
    | with_reducible refine within_ite ?_ ?_
    | with_reducible refine within_emit ?_
    | with_reducible refine accept_within _ _ _  ?_ ?_
    | with_reducible refine (unmapped_within _).mono ?_
    | with_reducible refine (sample_within _ _ _ _ _ _ _).mono ?_
    | with_reducible refine (bellLineWrite_within _ _ _ _).mono ?_
    | with_reducible refine (responded_within _).mono ?_
    | with_reducible refine (visHolderWrite_within _ _ _ _ _ _ _ _).mono ?_
    | with_reducible refine (remoteReq_within _ _ _ _ _ _).mono ?_
    | with_reducible refine (holderWrite_within _ _ _ _ _ _ _ _).mono ?_
    | with_reducible refine (request_within _ _ _ _).mono ?_
    | (dsimp only)
    | split
    | rfl)

theorem headWriteBack_within (ld : Nat) (dpa : Nat) (tag : Nat) (ms : MetaState) (data : Line) (mask : Nat) : (headWriteBack ld dpa tag ms data mask).Within 0x2fcce000000000000000000000000000000000000001802800013e0ea04c00800000000000000000000080000000000000000000040084120000180800007c5c002000000400000400001000000 := by
  unfold headWriteBack
  repeat' (first
    | with_reducible exact within_skip
    | with_reducible refine within_read fun _ => ?_
    | with_reducible refine within_all_cons ?_ ?_
    | with_reducible refine within_all_one ?_
    | with_reducible refine within_seq ?_ ?_
    | with_reducible refine within_ite ?_ ?_
    | with_reducible refine within_when ?_
    | with_reducible refine within_some? fun _ => ?_
    | with_reducible refine (hostWrite_within _ _ _ _ _ _ _).mono ?_
    | (dsimp only)
    | split
    | rfl)

theorem memClnEvct_within (ld : Nat) (dpa : Nat) (tag : Nat) : (memClnEvct ld dpa tag).Within 0x2fcce000000000000000000000000000000000000001802800013e0ea04c00800000000000000000000080000000000000000000040080000000180800007c5c002000000400000400001000000 := by
  unfold memClnEvct
  repeat' (first
    | with_reducible exact within_skip
    | with_reducible refine within_read fun _ => ?_
    | with_reducible refine within_all_cons ?_ ?_
    | with_reducible refine within_all_one ?_
    | with_reducible refine within_seq ?_ ?_
    | with_reducible refine within_when ?_
    | with_reducible refine within_emit ?_
    | with_reducible refine accept_within _ _ _  ?_ ?_
    | with_reducible refine (unmapped_within _).mono ?_
    | with_reducible refine (sample_within _ _ _ _ _ _ _).mono ?_
    | with_reducible refine (setVis_within _ _).mono ?_
    | with_reducible refine (takeClnEvict_within _ _).mono ?_
    | (dsimp only)
    | split
    | rfl)

theorem pcieAtomicop_within (ld : Nat) (off : Nat) (tag : Nat) (op : PcieAtomic) (a : Nat) (b : Nat) : (pcieAtomicop ld off tag op a b).Within 0x2fcce000000000000000000000000000000000000001802800013e0ea04c00800000000000000000000080000000000000000000040080000000180800007c5c002000000400000400001000000 := by
  unfold pcieAtomicop
  repeat' (first
    | with_reducible exact within_skip
    | with_reducible refine within_read fun _ => ?_
    | with_reducible refine within_all_cons ?_ ?_
    | with_reducible refine within_all_one ?_
    | with_reducible refine within_seq ?_ ?_
    | with_reducible refine within_ite ?_ ?_
    | with_reducible refine within_emit ?_
    | with_reducible refine accept_within _ _ _  ?_ ?_
    | with_reducible refine (responded_within _).mono ?_
    | with_reducible refine (unmapped_within _).mono ?_
    | with_reducible refine (sample_within _ _ _ _ _ _ _).mono ?_
    | with_reducible refine (ask_within _ _ _ _ _).mono ?_
    | with_reducible refine (request_within _ _ _ _).mono ?_
    | (dsimp only)
    | split
    | rfl)

theorem flitSlot_within (h : Nat) (units : Nat) (reqs : Nat) (replay : Bool) (mapped : Bool) : (flitSlot h units reqs replay mapped).Within 0x400000000000000000000000000000000000000000000002800000000000000000000000000000000000000000000000000000000000000000000001000000000000000000000000000000000000 := by
  unfold flitSlot
  repeat' (first
    | with_reducible exact within_skip
    | with_reducible refine within_read fun _ => ?_
    | with_reducible refine within_all_cons ?_ ?_
    | with_reducible refine within_all_one ?_
    | with_reducible refine within_seq ?_ ?_
    | with_reducible refine within_ite ?_ ?_
    | with_reducible refine within_when ?_
    | with_reducible refine within_set ?_
    | with_reducible refine within_csw ?_
    | with_reducible refine (event_within _ _ _ _).mono ?_
    | (dsimp only)
    | split
    | rfl)

end Sys2Proof.Machine
end

