-- ==== Sys2Proof/Laws/WithinFerry.lean ====
section
/-!
SUPPORT. What each program of Machine/Ferry.lean can change: one lemma each, over the places of Laws/Acts.lean.
-/

namespace Sys2Proof.Machine

set_option linter.unusedTactic false
set_option linter.unreachableTactic false

theorem ferrySet_within {K : Nat} (k : Nat) (ld slot : Fld) (v : Nat) (h0 : K.testBit ld.ctorIdx = true)
    (h1 : K.testBit slot.ctorIdx = true) : (ferrySet k ld slot v).Within K := by
  unfold ferrySet portFld
  by_cases h : k < 256
  · simp only [h, ↓reduceIte]; exact within_set h0
  · simp only [h, ↓reduceIte]; exact within_set h1

theorem setCursor_within (k v : Nat) : (setCursor k v).Within 0x20000000000000000000000000000000000000000000000000000000000000000000000000000000000000000000000000000000008010000000000000000000000000000000000000000000000 :=
  within_read fun _ => within_seq (ferrySet_within _ _ _ _ rfl rfl) (within_fry rfl)

theorem burstRefuse_within (k bit : Nat) : (burstRefuse k bit).Within 0x240480000000000000000000000000000000000000000000000 := by
  unfold burstRefuse portFld
  by_cases h : k < 256
  · simp only [h, ↓reduceIte]; exact within_seq ((portErr_within k bit).mono (by decide)) (within_inc rfl)
  · simp only [h, ↓reduceIte]; exact within_seq ((portErr_within k bit).mono (by decide)) (within_inc rfl)

theorem burstTake_within (w : FerryPort) (k : Nat) (write : Bool) (n lines : Nat) : (burstTake w k write n lines).Within 0x20000000000000000000000000000000000000000000000000000000000000000000000000000000000000000000000000000000188310000000000000000000000000000000000000000000000 := by
  unfold burstTake portFld
  refine within_read fun _ => ?_
  refine within_all_cons (ferrySet_within _ _ _ _ rfl rfl) (within_all_cons ?_ (within_all_one (within_fry rfl)))
  by_cases h : k < 256 <;> cases write <;> simp only [h, ↓reduceIte, Bool.false_eq_true] <;> exact within_inc rfl

theorem unmappedLine_within (w : FerryPort) (tag : Nat) : (unmappedLine w tag).Within 0x80000000000000000000000000000000000000000000000000000000000000000000000000000000000000000000000000000000000000000000000000000000000000000000000000000000 := by
  unfold unmappedLine
  repeat' (first
    | with_reducible exact within_skip
    | with_reducible refine within_read fun _ => ?_
    | with_reducible refine within_all_cons ?_ ?_
    | with_reducible refine within_all_one ?_
    | with_reducible refine within_seq ?_ ?_
    | with_reducible refine (noteAsk_within _).mono ?_
    | (dsimp only)
    | split
    | rfl)

theorem burstWrite_within (w : FerryPort) (k : Nat) (id : Nat) (c : Nat) (bs : List (Byte × Bool)) : (burstWrite w k id c bs).Within 0x2fcce000000000000000000000000000000000000001802800013e0ea04c00800000000000000000000080000000000000000000040080000000100800007c5c002000000600000400001000000 := by
  unfold burstWrite
  repeat' (first
    | with_reducible exact within_skip
    | with_reducible refine within_read fun _ => ?_
    | with_reducible refine within_all_cons ?_ ?_
    | with_reducible refine within_all_one ?_
    | with_reducible refine within_seq ?_ ?_
    | with_reducible refine within_each fun _ => ?_
    | with_reducible refine (unmappedLine_within _ _).mono ?_
    | with_reducible refine (askWrite_within _ _ _ _ _ _ _).mono ?_
    | (dsimp only)
    | split
    | rfl)

theorem burstRead_within (w : FerryPort) (k : Nat) (id : Nat) (c : Nat) (n : Nat) : (burstRead w k id c n).Within 0x2fcce000000000000000000000000000000000000001802800013e0ea04c00800000000000000000000080000000000000000000040080000000100800007c5c002000000400000400001000000 := by
  unfold burstRead
  repeat' (first
    | with_reducible exact within_skip
    | with_reducible refine within_read fun _ => ?_
    | with_reducible refine within_all_cons ?_ ?_
    | with_reducible refine within_all_one ?_
    | with_reducible refine within_seq ?_ ?_
    | with_reducible refine within_each fun _ => ?_
    | with_reducible refine (unmappedLine_within _ _).mono ?_
    | with_reducible refine (ask_within _ _ _ _ _).mono ?_
    | (dsimp only)
    | split
    | rfl)

theorem burst_within (w : FerryPort) (k : Nat) (wr : Option (List (Byte × Bool))) (len : Nat) : (burst w k wr len).Within 0x2fcce000000000000000000000000000000000000001802800013e0ea04c008000000000000000000000800000000000000000003c8790000000100800007c5c002000000600000400001000000 := by
  unfold burst
  repeat' (first
    | with_reducible exact within_skip
    | with_reducible refine within_read fun _ => ?_
    | with_reducible refine within_all_cons ?_ ?_
    | with_reducible refine within_all_one ?_
    | with_reducible refine within_seq ?_ ?_
    | with_reducible refine within_when ?_
    | with_reducible refine (burstRefuse_within _ _).mono ?_
    | with_reducible refine (portReply_within _ _ _).mono ?_
    | with_reducible refine (burstTake_within _ _ _ _ _).mono ?_
    | with_reducible refine (burstWrite_within _ _ _ _ _).mono ?_
    | with_reducible refine (settle_within _).mono ?_
    | with_reducible refine (burstRead_within _ _ _ _ _).mono ?_
    | (dsimp only)
    | split
    | rfl)

theorem ferryBurst_within (w : FerryPort) (wr : Option (List (Byte × Bool))) (len : Nat) : (ferryBurst w wr len).Within 0x2fcce000000000000000000000000000000000000001802800013e0ea04c008000000000000000000000800000000000000000003c8790000000100800007c5c002000000600000400001000000 := by
  unfold ferryBurst
  repeat' (first
    | with_reducible exact within_skip
    | with_reducible refine within_read fun _ => ?_
    | with_reducible refine within_all_cons ?_ ?_
    | with_reducible refine within_all_one ?_
    | with_reducible refine within_seq ?_ ?_
    | with_reducible refine within_ite ?_ ?_
    | with_reducible refine within_emit ?_
    | with_reducible refine accept_within _ _ _  ?_ ?_
    | with_reducible refine (burst_within _ _ _ _).mono ?_
    | with_reducible refine (event_within _ _ _ _).mono ?_
    | (dsimp only)
    | split
    | rfl)

theorem ferryWriteBurst_within (w : FerryPort) (data : List Byte) (en : List Bool) : (ferryWriteBurst w data en).Within 0x2fcce000000000000000000000000000000000000001802800013e0ea04c008000000000000000000000800000000000000000003c8790000000100800007c5c002000000600000400001000000 := by
  unfold ferryWriteBurst
  repeat' (first
    | with_reducible exact within_skip
    | with_reducible refine within_read fun _ => ?_
    | with_reducible refine within_all_cons ?_ ?_
    | with_reducible refine within_all_one ?_
    | with_reducible refine within_seq ?_ ?_
    | with_reducible refine within_when ?_
    | with_reducible refine (ferryBurst_within _ _ _).mono ?_
    | (dsimp only)
    | split
    | rfl)

theorem ferryCursorWrite_within (w : FerryPort) (v : Nat) (size : Nat) : (ferryCursorWrite w v size).Within 0x20000000000000000000000000000000000000000000002800000000000000000000000000000000000000000000000000000000008410000000000000000000000000000000000000000000000 := by
  unfold ferryCursorWrite
  repeat' (first
    | with_reducible exact within_skip
    | with_reducible refine within_read fun _ => ?_
    | with_reducible refine within_all_cons ?_ ?_
    | with_reducible refine within_all_one ?_
    | with_reducible refine within_seq ?_ ?_
    | with_reducible refine within_ite ?_ ?_
    | with_reducible refine within_set ?_
    | with_reducible refine within_inc ?_
    | with_reducible refine within_some? fun _ => ?_
    | with_reducible refine accept_within _ _ _  ?_ ?_
    | with_reducible refine (setCursor_within _ _).mono ?_
    | (dsimp only)
    | split
    | rfl)

theorem ferryMgmtAccess_within (write : Bool) : (ferryMgmtAccess write).Within 0x4000000000000000000000000000000000000000000000000000000000000000000000000000000000000000000000000000000800000000000000000000000000000000000000000000000 := by
  unfold ferryMgmtAccess
  repeat' (first
    | with_reducible exact within_skip
    | with_reducible refine within_read fun _ => ?_
    | with_reducible refine within_all_cons ?_ ?_
    | with_reducible refine within_all_one ?_
    | with_reducible refine within_seq ?_ ?_
    | with_reducible refine within_when ?_
    | with_reducible refine within_set ?_
    | with_reducible refine within_emit ?_
    | with_reducible refine within_inc ?_
    | (dsimp only)
    | split
    | rfl)

theorem ferryAtomicop_within (ld : Nat) (tag : Nat) : (ferryAtomicop ld tag).Within 0xc000000000000000000000000000000000000000002800000000000000000000000000000000000000000000000000000000000000000000000000000000000000000000000000000000000 := by
  unfold ferryAtomicop
  repeat' (first
    | with_reducible exact within_skip
    | with_reducible refine within_read fun _ => ?_
    | with_reducible refine within_all_cons ?_ ?_
    | with_reducible refine within_all_one ?_
    | with_reducible refine within_seq ?_ ?_
    | with_reducible refine within_emit ?_
    | with_reducible refine accept_within _ _ _  ?_ ?_
    | with_reducible refine (responded_within _).mono ?_
    | (dsimp only)
    | split
    | rfl)

theorem ferryReset_within (ld : Nat) : (ferryReset ld).Within 0x200000000000000000000000000000000000000000000000000000000000000000000000000000000000000000000000000000000007f0000000000000000000000000000000000000000000000 := by
  refine within_seq (within_each_mem fun f hf => ?_) (within_fry rfl)
  simp only [ferryPage, List.mem_cons, List.not_mem_nil, or_false] at hf
  rcases hf with h | h | h | h | h | h | h <;> subst h <;> exact within_set rfl

theorem ferryLdGone_within (ld : Nat) : (ferryLdGone ld).Within 0x200000000000000000000000000000000000000000000000000000000000000000000000000000000000000000000000000000000007f0000000000000000000000000000000000000000000000 := by
  unfold ferryLdGone
  repeat' (first
    | with_reducible exact within_skip
    | with_reducible refine within_read fun _ => ?_
    | with_reducible refine within_all_cons ?_ ?_
    | with_reducible refine within_all_one ?_
    | with_reducible refine within_seq ?_ ?_
    | with_reducible refine within_fry ?_
    | with_reducible refine within_each fun _ => ?_
    | with_reducible refine (ferryReset_within _).mono ?_
    | (dsimp only)
    | split
    | rfl)

end Sys2Proof.Machine
end

