-- ==== Sys2Proof/Laws/WithinQueues.lean ====
section
/-!
SUPPORT. What each program of Machine/Queues.lean can change: one lemma each, over the places of Laws/Acts.lean.
-/

namespace Sys2Proof.Machine

set_option linter.unusedTactic false
set_option linter.unreachableTactic false

theorem setDesc_within (seq : Nat) (f : Desc → Desc) : (setDesc seq f).Within 0x10000000000000000000000000000000000000000000000000000000000000000000000000000000000000000000000000000000000000000000000000000000000000000000000000000000000 := by
  unfold setDesc
  repeat' (first
    | with_reducible exact within_skip
    | with_reducible refine within_read fun _ => ?_
    | with_reducible refine within_all_cons ?_ ?_
    | with_reducible refine within_all_one ?_
    | with_reducible refine within_seq ?_ ?_
    | with_reducible refine within_ite ?_ ?_
    | with_reducible refine within_que ?_
    | (dsimp only)
    | split
    | rfl)

theorem forgetDesc_within (d : Desc) : (forgetDesc d).Within 0x80000000000000000000000000000000000000000000000000000000000000000000000000000000000000000000000000000000000000000000000000000000000000000000000000000000 := by
  unfold forgetDesc
  repeat' (first
    | with_reducible exact within_skip
    | with_reducible refine within_read fun _ => ?_
    | with_reducible refine within_all_cons ?_ ?_
    | with_reducible refine within_all_one ?_
    | with_reducible refine within_seq ?_ ?_
    | with_reducible refine (forget_within _ _ _).mono ?_
    | (dsimp only)
    | split
    | rfl)

theorem qpCounts_within (q : Nat) : (qpCounts q).Within 0x400040000000000000000000000000000000000000000 := by
  unfold qpCounts
  repeat' (first
    | with_reducible exact within_skip
    | with_reducible refine within_read fun _ => ?_
    | with_reducible refine within_all_cons ?_ ?_
    | with_reducible refine within_all_one ?_
    | with_reducible refine within_seq ?_ ?_
    | with_reducible refine within_set ?_
    | (dsimp only)
    | split
    | rfl)

theorem qpSignal_within (q : Nat) : (qpSignal q).Within 0x10404000000000000000000000000000000000000000000000000000000000000000000000000000000000000000000000000000000000000000000000000000000000000000000000000000000 := by
  unfold qpSignal
  repeat' (first
    | with_reducible exact within_skip
    | with_reducible refine within_read fun _ => ?_
    | with_reducible refine within_all_cons ?_ ?_
    | with_reducible refine within_all_one ?_
    | with_reducible refine within_seq ?_ ?_
    | with_reducible refine within_when ?_
    | with_reducible refine within_que ?_
    | with_reducible refine (msixSend_within _ _).mono ?_
    | (dsimp only)
    | split
    | rfl)

theorem qpWritten_within (q : Nat) (irq : Bool) : (qpWritten q irq).Within 0x10404000000000000000000000000000000000000000000000000000000000000000000000000000000000000000000000000000000000000000000000000000000000000000000000000000000 := by
  unfold qpWritten
  repeat' (first
    | with_reducible exact within_skip
    | with_reducible refine within_read fun _ => ?_
    | with_reducible refine within_all_cons ?_ ?_
    | with_reducible refine within_all_one ?_
    | with_reducible refine within_seq ?_ ?_
    | with_reducible refine within_ite ?_ ?_
    | with_reducible refine within_when ?_
    | with_reducible refine within_que ?_
    | with_reducible refine (qpSignal_within _).mono ?_
    | (dsimp only)
    | split
    | rfl)

theorem irqCoalesceTimeout_within (q : Nat) : (irqCoalesceTimeout q).Within 0x10404000000000000000000000000000000000000000000000000000000000000000000000000000000000000000000000000000000000000000000000000000000000000000000000000000000 := by
  unfold irqCoalesceTimeout
  repeat' (first
    | with_reducible exact within_skip
    | with_reducible refine within_read fun _ => ?_
    | with_reducible refine within_all_cons ?_ ?_
    | with_reducible refine within_all_one ?_
    | with_reducible refine within_seq ?_ ?_
    | with_reducible refine within_when ?_
    | with_reducible refine (qpSignal_within _).mono ?_
    | (dsimp only)
    | split
    | rfl)

theorem msixVectorUnmask_within (owner : Nat) (vec : Nat) : (msixVectorUnmask owner vec).Within 0x404000000000000000000000000000000000000000000000000000000000000000000000000000000000000000000000000000000000000000000000000000000000000000000000000000000 := by
  unfold msixVectorUnmask
  repeat' (first
    | with_reducible exact within_skip
    | with_reducible refine within_read fun _ => ?_
    | with_reducible refine within_all_cons ?_ ?_
    | with_reducible refine within_all_one ?_
    | with_reducible refine within_seq ?_ ?_
    | with_reducible refine within_when ?_
    | with_reducible refine within_host ?_
    | with_reducible refine (msixSend_within _ _).mono ?_
    | (dsimp only)
    | split
    | rfl)

theorem qpFail_within (q : Nat) (code : Nat) : (qpFail q code).Within 0x10484000000000000000000000000000000000000000000000000000000000000000000000000000000000000000000000000000000000000280000000000000000000000000000000000000000 := by
  unfold qpFail
  repeat' (first
    | with_reducible exact within_skip
    | with_reducible refine within_read fun _ => ?_
    | with_reducible refine within_all_cons ?_ ?_
    | with_reducible refine within_all_one ?_
    | with_reducible refine within_seq ?_ ?_
    | with_reducible refine within_when ?_
    | with_reducible refine within_set ?_
    | with_reducible refine (forget_within _ _ _).mono ?_
    | with_reducible refine (qpSignal_within _).mono ?_
    | (dsimp only)
    | split
    | rfl)

theorem busMasterEnableClear_within (owner : Nat) : (busMasterEnableClear owner).Within 0x10484000000000000000000000000000000000000000000000000000000000000000000000000000000000000000000000000000000000000280000000000000000000000000000000000000000 := by
  unfold busMasterEnableClear
  repeat' (first
    | with_reducible exact within_skip
    | with_reducible refine within_read fun _ => ?_
    | with_reducible refine within_all_cons ?_ ?_
    | with_reducible refine within_all_one ?_
    | with_reducible refine within_seq ?_ ?_
    | with_reducible refine within_host ?_
    | with_reducible refine within_each fun _ => ?_
    | with_reducible refine (qpFail_within _ _).mono ?_
    | (dsimp only)
    | split
    | rfl)

theorem qpEnable_within (q : Nat) : (qpEnable q).Within 0x100000000000000000000000000000000000000000000000000000000000000000000000000000000000000000000000000000000000003e03a0000000000000000000000000000000000000000 := by
  unfold qpEnable
  repeat' (first
    | with_reducible exact within_skip
    | with_reducible refine within_read fun _ => ?_
    | with_reducible refine within_all_cons ?_ ?_
    | with_reducible refine within_all_one ?_
    | with_reducible refine within_seq ?_ ?_
    | with_reducible refine within_ite ?_ ?_
    | with_reducible refine within_when ?_
    | with_reducible refine within_set ?_
    | with_reducible refine within_que ?_
    | (dsimp only)
    | split
    | rfl)

theorem abortDesc_within (d : Desc) : (abortDesc d).Within 0x10080000000000000000000000000000000000000000000000000000000000000000000000000000000000000000000000000000000000000000000000000000000000000000000000000000000 := by
  unfold abortDesc
  repeat' (first
    | with_reducible exact within_skip
    | with_reducible refine within_read fun _ => ?_
    | with_reducible refine within_all_cons ?_ ?_
    | with_reducible refine within_all_one ?_
    | with_reducible refine within_seq ?_ ?_
    | with_reducible refine within_when ?_
    | with_reducible refine (forgetDesc_within _).mono ?_
    | with_reducible refine (setDesc_within _ _).mono ?_
    | (dsimp only)
    | split
    | rfl)

theorem qpDrain_within (q : Nat) : (qpDrain q).Within 0x100800000000000000000000000000000000000000000000000000000000000000000000000000000000000000000000000000000000000000a0000000000000000000000000000000000000000 := by
  unfold qpDrain
  repeat' (first
    | with_reducible exact within_skip
    | with_reducible refine within_read fun _ => ?_
    | with_reducible refine within_all_cons ?_ ?_
    | with_reducible refine within_all_one ?_
    | with_reducible refine within_seq ?_ ?_
    | with_reducible refine within_set ?_
    | with_reducible refine within_each fun _ => ?_
    | with_reducible refine (forget_within _ _ _).mono ?_
    | with_reducible refine (abortDesc_within _).mono ?_
    | (dsimp only)
    | split
    | rfl)

theorem qpDisable_within (q : Nat) : (qpDisable q).Within 0x100800000000000000000000000000000000000000000000000000000000000000000000000000000000000000000000000000000000000001a0000000000000000000000000000000000000000 := by
  unfold qpDisable
  repeat' (first
    | with_reducible exact within_skip
    | with_reducible refine within_read fun _ => ?_
    | with_reducible refine within_all_cons ?_ ?_
    | with_reducible refine within_all_one ?_
    | with_reducible refine within_seq ?_ ?_
    | with_reducible refine within_when ?_
    | with_reducible refine within_set ?_
    | with_reducible refine (qpDrain_within _).mono ?_
    | (dsimp only)
    | split
    | rfl)

theorem ownerDrain_within (owner : Nat) : (ownerDrain owner).Within 0x100800000000000000000000000000000000000000000000000000000000000000000000000000000000000000000000000000000000000000a0000000000000000000000000000000000000000 := by
  unfold ownerDrain
  repeat' (first
    | with_reducible exact within_skip
    | with_reducible refine within_read fun _ => ?_
    | with_reducible refine within_all_cons ?_ ?_
    | with_reducible refine within_all_one ?_
    | with_reducible refine within_seq ?_ ?_
    | with_reducible refine within_each fun _ => ?_
    | with_reducible refine (qpDrain_within _).mono ?_
    | (dsimp only)
    | split
    | rfl)

theorem qpDrained_within (q : Nat) : (qpDrained q).Within 0x80000000000000000000000000000000000000000 := by
  unfold qpDrained
  repeat' (first
    | with_reducible exact within_skip
    | with_reducible refine within_read fun _ => ?_
    | with_reducible refine within_all_cons ?_ ?_
    | with_reducible refine within_all_one ?_
    | with_reducible refine within_seq ?_ ?_
    | with_reducible refine within_when ?_
    | with_reducible refine within_set ?_
    | (dsimp only)
    | split
    | rfl)

theorem qpControlPageWrite_within (ld : Nat) (q : Nat) (value : Nat) : (qpControlPageWrite ld q value).Within 0x100800000000000000000000000000000000000000000000000000000000000000000000000000000000000000000000000000000000003e03a0000000000000000000000000000000000000000 := by
  unfold qpControlPageWrite
  repeat' (first
    | with_reducible exact within_skip
    | with_reducible refine within_read fun _ => ?_
    | with_reducible refine within_all_cons ?_ ?_
    | with_reducible refine within_all_one ?_
    | with_reducible refine within_seq ?_ ?_
    | with_reducible refine within_ite ?_ ?_
    | with_reducible refine within_when ?_
    | with_reducible refine (qpEnable_within _).mono ?_
    | with_reducible refine (qpDisable_within _).mono ?_
    | (dsimp only)
    | split
    | rfl)

theorem fetched_within (q : Nat) (bs : List Byte) : (fetched q bs).Within 0x10000000000000000000000000000000000000000000002800000000000000000000000000000000000000000000000000000000000000c40040000000000000000000000000000000000000000 := by
  unfold fetched
  repeat' (first
    | with_reducible exact within_skip
    | with_reducible refine within_read fun _ => ?_
    | with_reducible refine within_all_cons ?_ ?_
    | with_reducible refine within_all_one ?_
    | with_reducible refine within_seq ?_ ?_
    | with_reducible refine within_set ?_
    | with_reducible refine within_inc ?_
    | with_reducible refine within_que ?_
    | with_reducible refine (qpCounts_within _).mono ?_
    | with_reducible refine (event_within _ _ _ _).mono ?_
    | (dsimp only)
    | split
    | rfl)

theorem fetchTake_within (q : Nat) : (fetchTake q).Within 0x10484000000000000000000000000000000000000000002800000000000000000000000000000000000000000000000000000000000000c402c0000000000000000000000000000000000000000 := by
  unfold fetchTake
  repeat' (first
    | with_reducible exact within_skip
    | with_reducible refine within_read fun _ => ?_
    | with_reducible refine within_all_cons ?_ ?_
    | with_reducible refine within_all_one ?_
    | with_reducible refine within_seq ?_ ?_
    | with_reducible refine within_when ?_
    | with_reducible refine (forget_within _ _ _).mono ?_
    | with_reducible refine (fetched_within _ _).mono ?_
    | with_reducible refine (qpFail_within _ _).mono ?_
    | (dsimp only)
    | split
    | rfl)

theorem descriptorFetch_within (q : Nat) (host : HostRead) : (descriptorFetch q host).Within 0x3fcce000000000000000000000000000000000000001802800013e0ea04c00800000000000000000000080000000000000000000040080c402c0100800007c5c002000000400000400001000000 := by
  unfold descriptorFetch
  repeat' (first
    | with_reducible exact within_skip
    | with_reducible refine within_read fun _ => ?_
    | with_reducible refine within_all_cons ?_ ?_
    | with_reducible refine within_all_one ?_
    | with_reducible refine within_seq ?_ ?_
    | with_reducible refine within_ite ?_ ?_
    | with_reducible refine within_when ?_
    | with_reducible refine (fetched_within _ _).mono ?_
    | with_reducible refine (qpFail_within _ _).mono ?_
    | with_reducible refine (ask_within _ _ _ _ _).mono ?_
    | with_reducible refine (fetchTake_within _).mono ?_
    | (dsimp only)
    | split
    | rfl)

theorem cqAdvance_within (q : Nat) : (cqAdvance q).Within 0x280000000000000000000000000000000000000000000 := by
  unfold cqAdvance
  repeat' (first
    | with_reducible exact within_skip
    | with_reducible refine within_read fun _ => ?_
    | with_reducible refine within_all_cons ?_ ?_
    | with_reducible refine within_all_one ?_
    | with_reducible refine within_seq ?_ ?_
    | with_reducible refine within_when ?_
    | with_reducible refine within_set ?_
    | (dsimp only)
    | split
    | rfl)

theorem dropDesc_within (d : Desc) : (dropDesc d).Within 0x10080000000000000000000000000000000000000000000000000000000000000000000000000000000000000000000000000000000000400040000000000000000000000000000000000000000 := by
  unfold dropDesc
  repeat' (first
    | with_reducible exact within_skip
    | with_reducible refine within_read fun _ => ?_
    | with_reducible refine within_all_cons ?_ ?_
    | with_reducible refine within_all_one ?_
    | with_reducible refine within_seq ?_ ?_
    | with_reducible refine within_que ?_
    | with_reducible refine (forgetDesc_within _).mono ?_
    | with_reducible refine (qpCounts_within _).mono ?_
    | (dsimp only)
    | split
    | rfl)

theorem entryWritten_within (d : Desc) : (entryWritten d).Within 0x10484000000000000000000000000000000000000000002800000000000000000000000000000000000000000000000000000000000001400040000000000000000000000000000000000000000 := by
  unfold entryWritten
  repeat' (first
    | with_reducible exact within_skip
    | with_reducible refine within_read fun _ => ?_
    | with_reducible refine within_all_cons ?_ ?_
    | with_reducible refine within_all_one ?_
    | with_reducible refine within_seq ?_ ?_
    | with_reducible refine within_inc ?_
    | with_reducible refine (dropDesc_within _).mono ?_
    | with_reducible refine (event_within _ _ _ _).mono ?_
    | with_reducible refine (qpWritten_within _ _).mono ?_
    | (dsimp only)
    | split
    | rfl)

theorem entryDiscarded_within (d : Desc) : (entryDiscarded d).Within 0x104840000000000000000000000000000000000000000000000000000000000000000000000000000000000000000000000000000000024002c0000000000000000000000000000000000000000 := by
  unfold entryDiscarded
  repeat' (first
    | with_reducible exact within_skip
    | with_reducible refine within_read fun _ => ?_
    | with_reducible refine within_all_cons ?_ ?_
    | with_reducible refine within_all_one ?_
    | with_reducible refine within_seq ?_ ?_
    | with_reducible refine within_inc ?_
    | with_reducible refine (dropDesc_within _).mono ?_
    | with_reducible refine (qpFail_within _ _).mono ?_
    | (dsimp only)
    | split
    | rfl)

theorem entryTake_within (d : Desc) : (entryTake d).Within 0x104840000000000000000000000000000000000000000028000000000000000000000000000000000000000000000000000000000000034002c0000000000000000000000000000000000000000 := by
  unfold entryTake
  repeat' (first
    | with_reducible exact within_skip
    | with_reducible refine within_read fun _ => ?_
    | with_reducible refine within_all_cons ?_ ?_
    | with_reducible refine within_all_one ?_
    | with_reducible refine within_seq ?_ ?_
    | with_reducible refine within_ite ?_ ?_
    | with_reducible refine within_when ?_
    | with_reducible refine (entryWritten_within _).mono ?_
    | with_reducible refine (entryDiscarded_within _).mono ?_
    | (dsimp only)
    | split
    | rfl)

theorem descriptorComplete_within (q : Nat) (idx : Nat) (hostOk : Bool) : (descriptorComplete q idx hostOk).Within 0x3fcce000000000000000000000000000000000000001802800013e0ea04c008000000000000000000000800000000000000000000400836802c0100800007c5c002000000600000400001000000 := by
  unfold descriptorComplete
  repeat' (first
    | with_reducible exact within_skip
    | with_reducible refine within_read fun _ => ?_
    | with_reducible refine within_all_cons ?_ ?_
    | with_reducible refine within_all_one ?_
    | with_reducible refine within_seq ?_ ?_
    | with_reducible refine within_ite ?_ ?_
    | with_reducible refine within_emit ?_
    | with_reducible refine within_some? fun _ => ?_
    | with_reducible refine (entryTake_within _).mono ?_
    | with_reducible refine (cqAdvance_within _).mono ?_
    | with_reducible refine (entryWritten_within _).mono ?_
    | with_reducible refine (entryDiscarded_within _).mono ?_
    | with_reducible refine (setDesc_within _ _).mono ?_
    | with_reducible refine (askWrite_within _ _ _ _ _ _ _).mono ?_
    | (dsimp only)
    | split
    | rfl)

end Sys2Proof.Machine
end

