-- ==== Sys2Proof/Laws/WithinHostPorts.lean ====
section
/-!
SUPPORT. What each program of Machine/HostPorts.lean can change: one lemma each, over the places of Laws/Acts.lean.
-/

namespace Sys2Proof.Machine

set_option linter.unusedTactic false
set_option linter.unreachableTactic false

theorem hbrRefused_within  : hbrRefused.Within 0x40000000000000000000000000000000 := by
  unfold hbrRefused
  repeat' (first
    | with_reducible exact within_skip
    | with_reducible refine within_read fun _ => ?_
    | with_reducible refine within_all_cons ?_ ?_
    | with_reducible refine within_all_one ?_
    | with_reducible refine within_seq ?_ ?_
    | with_reducible refine within_set ?_
    | (dsimp only)
    | split
    | rfl)

theorem hbrDone_within {K : Nat} (a : Act) (h0 : a.Within K) (hK : inside 0x40000000000000000000000000000000 K = true) : (hbrDone a).Within K := by
  unfold hbrDone
  repeat' (first
    | with_reducible exact within_skip
    | ((with_reducible refine inside_trans ?_ hK); rfl)
    | ((with_reducible refine inside_bit hK ?_); rfl)
    | with_reducible exact h0
    | with_reducible refine within_read fun _ => ?_
    | with_reducible refine within_all_cons ?_ ?_
    | with_reducible refine within_all_one ?_
    | with_reducible refine within_seq ?_ ?_
    | with_reducible refine within_set ?_
    | (dsimp only)
    | split)

theorem commonUpdate_within (g : Nat) : (commonUpdate g).Within 0x1000000000000000000000000000000000 := by
  unfold commonUpdate
  repeat' (first
    | with_reducible exact within_skip
    | with_reducible refine within_read fun _ => ?_
    | with_reducible refine within_all_cons ?_ ?_
    | with_reducible refine within_all_one ?_
    | with_reducible refine within_seq ?_ ?_
    | with_reducible refine within_set ?_
    | (dsimp only)
    | split
    | rfl)

theorem hbrGrpBifurWrite_within (g : Nat) (v : Nat) : (hbrGrpBifurWrite g v).Within 0x140000000000000000000000000000000 := by
  unfold hbrGrpBifurWrite
  repeat' (first
    | with_reducible exact within_skip
    | with_reducible refine within_read fun _ => ?_
    | with_reducible refine within_all_cons ?_ ?_
    | with_reducible refine within_all_one ?_
    | with_reducible refine within_seq ?_ ?_
    | with_reducible refine within_ite ?_ ?_
    | with_reducible refine within_when ?_
    | with_reducible refine within_set ?_
    | with_reducible refine (hbrRefused_within).mono ?_
    | with_reducible refine hbrDone_within _  ?_ ?_
    | (dsimp only)
    | split
    | rfl)

theorem hbrHeadResvWrite_within (h : Nat) (v : Nat) : (hbrHeadResvWrite h v).Within 0x3040000000000000000000000000000000 := by
  unfold hbrHeadResvWrite
  repeat' (first
    | with_reducible exact within_skip
    | with_reducible refine within_read fun _ => ?_
    | with_reducible refine within_all_cons ?_ ?_
    | with_reducible refine within_all_one ?_
    | with_reducible refine within_seq ?_ ?_
    | with_reducible refine within_ite ?_ ?_
    | with_reducible refine within_when ?_
    | with_reducible refine within_set ?_
    | with_reducible refine (hbrRefused_within).mono ?_
    | with_reducible refine hbrDone_within _  ?_ ?_
    | with_reducible refine (commonUpdate_within _).mono ?_
    | (dsimp only)
    | split
    | rfl)

theorem hbrLdWrite_within (n : Nat) (valid : Bool) (head : Nat) (ldid : Nat) : (hbrLdWrite n valid head ldid).Within 0x200000000000000000000000000000000000000000000000000000000000000000000000000000000000000000000000000000000007f000000000e000040000000000000000000000000000000 := by
  unfold hbrLdWrite
  repeat' (first
    | with_reducible exact within_skip
    | with_reducible refine within_read fun _ => ?_
    | with_reducible refine within_all_cons ?_ ?_
    | with_reducible refine within_all_one ?_
    | with_reducible refine within_seq ?_ ?_
    | with_reducible refine within_ite ?_ ?_
    | with_reducible refine within_when ?_
    | with_reducible refine within_set ?_
    | with_reducible refine (hbrRefused_within).mono ?_
    | with_reducible refine hbrDone_within _  ?_ ?_
    | with_reducible refine (ferryLdGone_within _).mono ?_
    | (dsimp only)
    | split
    | rfl)

theorem hbrMgmtHeadWrite_within (h : Nat) : (hbrMgmtHeadWrite h).Within 0x50000000000000000000000000000000 := by
  unfold hbrMgmtHeadWrite
  repeat' (first
    | with_reducible exact within_skip
    | with_reducible refine within_read fun _ => ?_
    | with_reducible refine within_all_cons ?_ ?_
    | with_reducible refine within_all_one ?_
    | with_reducible refine within_seq ?_ ?_
    | with_reducible refine within_ite ?_ ?_
    | with_reducible refine within_set ?_
    | with_reducible refine (hbrRefused_within).mono ?_
    | with_reducible refine hbrDone_within _  ?_ ?_
    | (dsimp only)
    | split
    | rfl)

theorem orphanReqs_within (h : Nat) (ldp : Nat → Bool) : (orphanReqs h ldp).Within 0xc0000000000000000000000000000000000000000000000000000000000000000000000000000000000000000000000000000000000000000000800000000000000000000000000000000000 := by
  unfold orphanReqs
  repeat' (first
    | with_reducible exact within_skip
    | with_reducible refine within_read fun _ => ?_
    | with_reducible refine within_all_cons ?_ ?_
    | with_reducible refine within_all_one ?_
    | with_reducible refine within_seq ?_ ?_
    | with_reducible refine within_ite ?_ ?_
    | with_reducible refine within_inc ?_
    | with_reducible refine within_lines ?_
    | with_reducible refine within_dir ?_
    | (dsimp only)
    | split
    | rfl)

theorem ldReset_within (ld : Nat) : (ldReset ld).Within 0x304800000000000000000000000000000000000000000000000000000000000000000000000000000000000000000000000000000007f00000a0000000000000000000000000000000000000000 := by
  unfold ldReset
  repeat' (first
    | with_reducible exact within_skip
    | with_reducible refine within_read fun _ => ?_
    | with_reducible refine within_all_cons ?_ ?_
    | with_reducible refine within_all_one ?_
    | with_reducible refine within_seq ?_ ?_
    | with_reducible refine within_host ?_
    | with_reducible refine (ownerDrain_within _).mono ?_
    | with_reducible refine (ferryReset_within _).mono ?_
    | (dsimp only)
    | split
    | rfl)

theorem mgmtLinkDown_within  : mgmtLinkDown.Within 0x104800000000000000000000000000000000000000000000000000000000000000000000000000000000000000000000000000000000000000a0000000000000000000000000000000000000000 := by
  unfold mgmtLinkDown
  repeat' (first
    | with_reducible exact within_skip
    | with_reducible refine within_read fun _ => ?_
    | with_reducible refine within_all_cons ?_ ?_
    | with_reducible refine within_all_one ?_
    | with_reducible refine within_seq ?_ ?_
    | with_reducible refine within_host ?_
    | with_reducible refine (ownerDrain_within _).mono ?_
    | with_reducible refine (Act.mbox_within _ _).mono ?_
    | (dsimp only)
    | split
    | rfl)

theorem headDown_within (h : Nat) : (headDown h).Within 0x13f8000000000000000000000000000000000 := by
  refine within_each_mem fun f hf => ?_
  simp only [List.mem_cons, List.not_mem_nil, or_false] at hf
  rcases hf with h | h | h | h | h | h | h | h <;> subst h <;> exact within_set rfl

theorem linkGone_within (h : Nat) : (linkGone h).Within 0x3fccf000000000000000000000000000000000000001802800013e0ea04c008000000000000000000000800000000000000000000407f00000a0101bf8007ddc002000000400000400001000000 := by
  unfold linkGone
  repeat' (first
    | with_reducible exact within_skip
    | with_reducible refine within_read fun _ => ?_
    | with_reducible refine within_all_cons ?_ ?_
    | with_reducible refine within_all_one ?_
    | with_reducible refine within_seq ?_ ?_
    | with_reducible refine within_when ?_
    | with_reducible refine within_host ?_
    | with_reducible refine within_each fun _ => ?_
    | with_reducible refine (orphanReqs_within _ _).mono ?_
    | with_reducible refine (loseHead_within _).mono ?_
    | with_reducible refine (headDown_within _).mono ?_
    | with_reducible refine (ldReset_within _).mono ?_
    | with_reducible refine (mgmtLinkDown_within).mono ?_
    | (dsimp only)
    | split
    | rfl)

theorem linkDown_within (h : Nat) : (linkDown h).Within 0x3fccf000000000000000000000000000000000000001802800013e0ea04c008000000000000000000000800000000000000000000407f00000a0101bf8007ddc002000000400000400001000000 := by
  unfold linkDown
  repeat' (first
    | with_reducible exact within_skip
    | with_reducible refine within_read fun _ => ?_
    | with_reducible refine within_all_cons ?_ ?_
    | with_reducible refine within_all_one ?_
    | with_reducible refine within_seq ?_ ?_
    | with_reducible refine within_when ?_
    | with_reducible refine (linkGone_within _).mono ?_
    | (dsimp only)
    | split
    | rfl)

theorem flr_within (ld : Nat) : (flr ld).Within 0x3fccf000000000000000000000000000000000000001802800013e0ea04c008000000000000000000000800000000000000000000407f00000a0100800007ddc002000000400000400001000000 := by
  unfold flr
  repeat' (first
    | with_reducible exact within_skip
    | with_reducible refine within_read fun _ => ?_
    | with_reducible refine within_all_cons ?_ ?_
    | with_reducible refine within_all_one ?_
    | with_reducible refine within_seq ?_ ?_
    | with_reducible refine within_when ?_
    | with_reducible refine within_each fun _ => ?_
    | with_reducible refine (orphanReqs_within _ _).mono ?_
    | with_reducible refine (answerBisnps_within _ _).mono ?_
    | with_reducible refine (loseLine_within _ _ _).mono ?_
    | with_reducible refine (ldReset_within _).mono ?_
    | (dsimp only)
    | split
    | rfl)

theorem linkUp_within (h : Nat) (flit : Nat) : (linkUp h flit).Within 0x400000000000000000000000000000000000000000000000000000000000000000000000000000000000000000000000000000000000000000000200000000000000000000000000000000000 := by
  unfold linkUp
  repeat' (first
    | with_reducible exact within_skip
    | with_reducible refine within_read fun _ => ?_
    | with_reducible refine within_all_cons ?_ ?_
    | with_reducible refine within_all_one ?_
    | with_reducible refine within_seq ?_ ?_
    | with_reducible refine within_ite ?_ ?_
    | with_reducible refine within_set ?_
    | with_reducible refine within_host ?_
    | (dsimp only)
    | split
    | rfl)

theorem settled_within (h : Nat) : (settled h).Within 0x1c44000000000000000000000000000000000000000000000013e0ea04c00800000000000000000000000000000000000000000000000000000100000000000000000000000000000000000000 := by
  unfold settled
  repeat' (first
    | with_reducible exact within_skip
    | with_reducible refine within_read fun _ => ?_
    | with_reducible refine within_all_cons ?_ ?_
    | with_reducible refine within_all_one ?_
    | with_reducible refine within_seq ?_ ?_
    | with_reducible refine within_when ?_
    | with_reducible refine within_set ?_
    | with_reducible refine (raise_within _ _ _).mono ?_
    | with_reducible refine (evAdd_within _ _ _ _).mono ?_
    | (dsimp only)
    | split
    | rfl)

theorem headEnterL0_within (h : Nat) (width : Nat) (rate : Nat) (flit : Nat) : (headEnterL0 h width rate flit).Within 0x1c44000000000000000000000000000000000000000000000013e0ea04c008000000000000000000000000000000000000000000000000000001003b8000000000000000000000000000000000 := by
  unfold headEnterL0
  repeat' (first
    | with_reducible exact within_skip
    | with_reducible refine within_read fun _ => ?_
    | with_reducible refine within_all_cons ?_ ?_
    | with_reducible refine within_all_one ?_
    | with_reducible refine within_seq ?_ ?_
    | with_reducible refine within_ite ?_ ?_
    | with_reducible refine within_when ?_
    | with_reducible refine within_set ?_
    | with_reducible refine (linkUp_within _ _).mono ?_
    | with_reducible refine (settled_within _).mono ?_
    | (dsimp only)
    | split
    | rfl)

theorem headRetrain_within (h : Nat) (c : RetrainCause) : (headRetrain h c).Within 0x580000000000000000000000000000000000 := by
  unfold headRetrain
  repeat' (first
    | with_reducible exact within_skip
    | with_reducible refine within_read fun _ => ?_
    | with_reducible refine within_all_cons ?_ ?_
    | with_reducible refine within_all_one ?_
    | with_reducible refine within_seq ?_ ?_
    | with_reducible refine within_when ?_
    | with_reducible refine within_set ?_
    | with_reducible refine within_inc ?_
    | (dsimp only)
    | split
    | rfl)

theorem hbrGrpEnWrite_within (g : Nat) (v : Bool) : (hbrGrpEnWrite g v).Within 0x3fccf000000000000000000000000000000000000001802800013e0ea04c008000000000000000000000800000000000000000000407f00000a0101bf9a47ddc002000000400000400001000000 := by
  unfold hbrGrpEnWrite
  repeat' (first
    | with_reducible exact within_skip
    | with_reducible refine within_read fun _ => ?_
    | with_reducible refine within_all_cons ?_ ?_
    | with_reducible refine within_all_one ?_
    | with_reducible refine within_seq ?_ ?_
    | with_reducible refine within_ite ?_ ?_
    | with_reducible refine within_when ?_
    | with_reducible refine within_set ?_
    | with_reducible refine within_host ?_
    | with_reducible refine within_each fun _ => ?_
    | with_reducible refine hbrDone_within _  ?_ ?_
    | with_reducible refine (commonUpdate_within _).mono ?_
    | with_reducible refine (linkDown_within _).mono ?_
    | (dsimp only)
    | split
    | rfl)

theorem setIde_within (h : Nat) (bits : Nat) (active : Bool) : (setIde h bits active).Within 0x400000000000000000000000000000000000000000000000000000000000000000000000000000000000000000000000000000000000000000000040000000000000000000000000000000000 := by
  unfold setIde
  repeat' (first
    | with_reducible exact within_skip
    | with_reducible refine within_read fun _ => ?_
    | with_reducible refine within_all_cons ?_ ?_
    | with_reducible refine within_all_one ?_
    | with_reducible refine within_seq ?_ ?_
    | with_reducible refine within_set ?_
    | with_reducible refine within_host ?_
    | (dsimp only)
    | split
    | rfl)

theorem ideKm_within (h : Nat) (op : IdeOp) : (ideKm h op).Within 0x404000000000000000000000000000000000000000000000000000000000000000000000000000000000000000000000000000000000000000000040000000000000000000000000000000000 := by
  unfold ideKm
  repeat' (first
    | with_reducible exact within_skip
    | with_reducible refine within_read fun _ => ?_
    | with_reducible refine within_all_cons ?_ ?_
    | with_reducible refine within_all_one ?_
    | with_reducible refine within_seq ?_ ?_
    | with_reducible refine within_ite ?_ ?_
    | with_reducible refine within_when ?_
    | with_reducible refine within_set ?_
    | with_reducible refine within_emit ?_
    | with_reducible refine (setIde_within _ _ _).mono ?_
    | (dsimp only)
    | split
    | rfl)

end Sys2Proof.Machine
end

