-- ==== Sys2Proof/Laws/WithinMailbox.lean ====
section
/-!
SUPPORT. What each program of Machine/Mailbox.lean can change: one lemma each, over the places of Laws/Acts.lean.
-/

namespace Sys2Proof.Machine

set_option linter.unusedTactic false
set_option linter.unreachableTactic false

theorem mbAnswer_within (mb : Mbox) (op : Nat) (code : Nat) (pl : List Nat) : (mbAnswer mb op code pl).Within 0x4000000000000000000000000000000000000000000000000000000000000000000000000000000000000000000000000000000000000000000000000000000000000000000000000000000 := by
  unfold mbAnswer
  repeat' (first
    | with_reducible exact within_skip
    | with_reducible refine within_read fun _ => ?_
    | with_reducible refine within_all_cons ?_ ?_
    | with_reducible refine within_all_one ?_
    | with_reducible refine within_seq ?_ ?_
    | with_reducible refine within_emit ?_
    | (dsimp only)
    | split
    | rfl)

theorem mbCmd_within {K : Nat} (mb : Mbox) (op : Nat) (a : Act) (h0 : a.Within K) (hK : inside 0x4000000000000000000000000000000000000000000000000000000000000000000000000000000000000000000000000000000000000000000000000000000000000000000000000000000 K = true) : (mbCmd mb op a).Within K := by
  unfold mbCmd
  repeat' (first
    | with_reducible exact within_skip
    | ((with_reducible refine inside_trans ?_ hK); rfl)
    | ((with_reducible refine inside_bit hK ?_); rfl)
    | with_reducible exact h0
    | with_reducible refine within_read fun _ => ?_
    | with_reducible refine within_all_cons ?_ ?_
    | with_reducible refine within_all_one ?_
    | with_reducible refine within_seq ?_ ?_
    | with_reducible refine within_ite ?_ ?_
    | with_reducible refine within_when ?_
    | with_reducible refine (mbAnswer_within _ _ _ _).mono ?_
    | (dsimp only)
    | split)

theorem ldCmd_within {K : Nat} (mb : Mbox) (op : Nat) (f : Nat → Act) (h0 : ∀ y0, (f y0).Within K) (hK : inside 0x4000000000000000000000000000000000000000000000000000000000000000000000000000000000000000000000000000000000000000000000000000000000000000000000000000000 K = true) : (ldCmd mb op f).Within K := by
  unfold ldCmd
  repeat' (first
    | with_reducible exact within_skip
    | ((with_reducible refine inside_trans ?_ hK); rfl)
    | ((with_reducible refine inside_bit hK ?_); rfl)
    | with_reducible exact h0 _
    | with_reducible refine within_read fun _ => ?_
    | with_reducible refine within_all_cons ?_ ?_
    | with_reducible refine within_all_one ?_
    | with_reducible refine within_seq ?_ ?_
    | with_reducible refine within_ite ?_ ?_
    | with_reducible refine mbCmd_within _ _ _  ?_ ?_
    | with_reducible refine (mbAnswer_within _ _ _ _).mono ?_
    | (dsimp only)
    | split)

theorem fmCmd_within {K : Nat} (op : Nat) (a : Act) (h0 : a.Within K) (hK : inside 0x4000000000000000000000000000000000000000000000000000000000000000000000000000000000000000000000000000000000000000000000000000000000000000000000000000000 K = true) : (fmCmd op a).Within K := by
  unfold fmCmd
  repeat' (first
    | with_reducible exact within_skip
    | ((with_reducible refine inside_trans ?_ hK); rfl)
    | ((with_reducible refine inside_bit hK ?_); rfl)
    | with_reducible exact h0
    | with_reducible refine within_read fun _ => ?_
    | with_reducible refine within_all_cons ?_ ?_
    | with_reducible refine within_all_one ?_
    | with_reducible refine within_seq ?_ ?_
    | with_reducible refine mbCmd_within _ _ _  ?_ ?_
    | (dsimp only)
    | split)

theorem answerFree_within (mb : Mbox) (op : Nat) (pl : List Nat) (w : Nat) : (answerFree mb op pl w).Within 0xc000000000000000000000000000000000000000000000000000000000000000000000000000000000000000000000000000000000000000000000000000000000000000000000000000000 := by
  unfold answerFree
  repeat' (first
    | with_reducible exact within_skip
    | with_reducible refine within_read fun _ => ?_
    | with_reducible refine within_all_cons ?_ ?_
    | with_reducible refine within_all_one ?_
    | with_reducible refine within_seq ?_ ?_
    | with_reducible refine within_free ?_ fun _ => ?_
    | with_reducible refine (mbAnswer_within _ _ _ _).mono ?_
    | (dsimp only)
    | split
    | rfl)

theorem identify_within (mb : Mbox) : (identify mb).Within 0x4000000000000000000000000000000000000000000000000000000000000000000000000000000000000000000000000000000000000000000000000000000000000000000000000000000 := by
  unfold identify
  repeat' (first
    | with_reducible exact within_skip
    | with_reducible refine within_read fun _ => ?_
    | with_reducible refine within_all_cons ?_ ?_
    | with_reducible refine within_all_one ?_
    | with_reducible refine within_seq ?_ ?_
    | with_reducible refine mbCmd_within _ _ _  ?_ ?_
    | with_reducible refine (mbAnswer_within _ _ _ _).mono ?_
    | (dsimp only)
    | split
    | rfl)

theorem backgroundStatus_within (mb : Mbox) : (backgroundStatus mb).Within 0x4000000000000000000000000000000000000000000000000000000000000000000000000000000000000000000000000000000000000000000000000000000000000000000000000000000 := by
  unfold backgroundStatus
  repeat' (first
    | with_reducible exact within_skip
    | with_reducible refine within_read fun _ => ?_
    | with_reducible refine within_all_cons ?_ ?_
    | with_reducible refine within_all_one ?_
    | with_reducible refine within_seq ?_ ?_
    | with_reducible refine within_ite ?_ ?_
    | with_reducible refine mbCmd_within _ _ _  ?_ ?_
    | with_reducible refine (mbAnswer_within _ _ _ _).mono ?_
    | (dsimp only)
    | split
    | rfl)

theorem responseLimit_within (mb : Mbox) : (responseLimit mb).Within 0x4000000000000000000000000000000000000000000000000000000000000000000000000000000000000000000000000000000000000000000000000000000000000000000000000000000 := by
  unfold responseLimit
  repeat' (first
    | with_reducible exact within_skip
    | with_reducible refine within_read fun _ => ?_
    | with_reducible refine within_all_cons ?_ ?_
    | with_reducible refine within_all_one ?_
    | with_reducible refine within_seq ?_ ?_
    | with_reducible refine mbCmd_within _ _ _  ?_ ?_
    | with_reducible refine (mbAnswer_within _ _ _ _).mono ?_
    | (dsimp only)
    | split
    | rfl)

theorem getTimestamp_within (mb : Mbox) : (getTimestamp mb).Within 0x4000000000000000000000000000000000000000000000000000000000000000000000000000000000000000000000000000000000000000000000000000000000000000000000000000000 := by
  unfold getTimestamp
  repeat' (first
    | with_reducible exact within_skip
    | with_reducible refine within_read fun _ => ?_
    | with_reducible refine within_all_cons ?_ ?_
    | with_reducible refine within_all_one ?_
    | with_reducible refine within_seq ?_ ?_
    | with_reducible refine mbCmd_within _ _ _  ?_ ?_
    | with_reducible refine (mbAnswer_within _ _ _ _).mono ?_
    | (dsimp only)
    | split
    | rfl)

theorem setTimestamp_within (mb : Mbox) (t : Nat) : (setTimestamp mb t).Within 0x404000000000000000000000000000000000000000000000000000000000000000000000000000000000000000000000000000000000000000000000000000000000000000000000000000000 := by
  unfold setTimestamp
  repeat' (first
    | with_reducible exact within_skip
    | with_reducible refine within_read fun _ => ?_
    | with_reducible refine within_all_cons ?_ ?_
    | with_reducible refine within_all_one ?_
    | with_reducible refine within_seq ?_ ?_
    | with_reducible refine mbCmd_within _ _ _  ?_ ?_
    | with_reducible refine (mbAnswer_within _ _ _ _).mono ?_
    | with_reducible refine (Act.mbox_within _ _).mono ?_
    | (dsimp only)
    | split
    | rfl)

theorem getEvents_within (mb : Mbox) (l : EvLog) : (getEvents mb l).Within 0x4000000000000000000000000000000000000000000000000000000000000000000000000000000000000000000000000000000000000000000000000000000000000000000000000000000 := by
  unfold getEvents
  repeat' (first
    | with_reducible exact within_skip
    | with_reducible refine within_read fun _ => ?_
    | with_reducible refine within_all_cons ?_ ?_
    | with_reducible refine within_all_one ?_
    | with_reducible refine within_seq ?_ ?_
    | with_reducible refine within_ite ?_ ?_
    | with_reducible refine mbCmd_within _ _ _  ?_ ?_
    | with_reducible refine (mbAnswer_within _ _ _ _).mono ?_
    | (dsimp only)
    | split
    | rfl)

theorem clearEvents_within (mb : Mbox) (l : EvLog) (all_ : Bool) (hs : List Nat) : (clearEvents mb l all_ hs).Within 0x404000000000000000000000000000000000000000000000000000000000000000000000000000000000000000000000000000000000000000000000000000000000000000000000000000000 := by
  unfold clearEvents
  repeat' (first
    | with_reducible exact within_skip
    | with_reducible refine within_read fun _ => ?_
    | with_reducible refine within_all_cons ?_ ?_
    | with_reducible refine within_all_one ?_
    | with_reducible refine within_seq ?_ ?_
    | with_reducible refine within_ite ?_ ?_
    | with_reducible refine mbCmd_within _ _ _  ?_ ?_
    | with_reducible refine (mbAnswer_within _ _ _ _).mono ?_
    | with_reducible refine (Act.evLog_within _ _ _).mono ?_
    | (dsimp only)
    | split
    | rfl)

theorem getPolicy_within (mb : Mbox) : (getPolicy mb).Within 0x4000000000000000000000000000000000000000000000000000000000000000000000000000000000000000000000000000000000000000000000000000000000000000000000000000000 := by
  unfold getPolicy
  repeat' (first
    | with_reducible exact within_skip
    | with_reducible refine within_read fun _ => ?_
    | with_reducible refine within_all_cons ?_ ?_
    | with_reducible refine within_all_one ?_
    | with_reducible refine within_seq ?_ ?_
    | with_reducible refine within_ite ?_ ?_
    | with_reducible refine mbCmd_within _ _ _  ?_ ?_
    | with_reducible refine (mbAnswer_within _ _ _ _).mono ?_
    | (dsimp only)
    | split
    | rfl)

theorem setPolicy_within (mb : Mbox) (pol : List Nat) : (setPolicy mb pol).Within 0x404000000000000000000000000000000000000000000000000000000000000000000000000000000000000000000000000000000000000000000000000000000000000000000000000000000 := by
  unfold setPolicy
  repeat' (first
    | with_reducible exact within_skip
    | with_reducible refine within_read fun _ => ?_
    | with_reducible refine within_all_cons ?_ ?_
    | with_reducible refine within_all_one ?_
    | with_reducible refine within_seq ?_ ?_
    | with_reducible refine within_ite ?_ ?_
    | with_reducible refine mbCmd_within _ _ _  ?_ ?_
    | with_reducible refine (mbAnswer_within _ _ _ _).mono ?_
    | with_reducible refine (Act.mbox_within _ _).mono ?_
    | (dsimp only)
    | split
    | rfl)

theorem fwCmd_within {K : Nat} (mb : Mbox) (op : Nat) (a : Act) (h0 : a.Within K) (hK : inside 0x4000000000000000000000000000000000000000000000000000000000000000000000000000000000000000000000000000000000000000000000000000000000000000000000000000000 K = true) : (fwCmd mb op a).Within K := by
  unfold fwCmd
  repeat' (first
    | with_reducible exact within_skip
    | ((with_reducible refine inside_trans ?_ hK); rfl)
    | ((with_reducible refine inside_bit hK ?_); rfl)
    | with_reducible exact h0
    | with_reducible refine within_read fun _ => ?_
    | with_reducible refine within_all_cons ?_ ?_
    | with_reducible refine within_all_one ?_
    | with_reducible refine within_seq ?_ ?_
    | with_reducible refine within_ite ?_ ?_
    | with_reducible refine within_when ?_
    | with_reducible refine mbCmd_within _ _ _  ?_ ?_
    | (dsimp only)
    | split)

theorem getFwInfo_within (mb : Mbox) : (getFwInfo mb).Within 0x4000000000000000000000000000000000000000000000000000000000000000000000000000000000000000000000000000000000000000000000000000000000000000000000000000000 := by
  unfold getFwInfo
  repeat' (first
    | with_reducible exact within_skip
    | with_reducible refine within_read fun _ => ?_
    | with_reducible refine within_all_cons ?_ ?_
    | with_reducible refine within_all_one ?_
    | with_reducible refine within_seq ?_ ?_
    | with_reducible refine fwCmd_within _ _ _  ?_ ?_
    | with_reducible refine (mbAnswer_within _ _ _ _).mono ?_
    | (dsimp only)
    | split
    | rfl)

theorem transferFw_within (mb : Mbox) (k : Nat) (i : FwImage) : (transferFw mb k i).Within 0x40004000000000000000000000000000000000000000000000000000000000000000000000000000000000000000000000000000000000000000000000000000000000000000000000000000000 := by
  unfold transferFw
  repeat' (first
    | with_reducible exact within_skip
    | with_reducible refine within_read fun _ => ?_
    | with_reducible refine within_all_cons ?_ ?_
    | with_reducible refine within_all_one ?_
    | with_reducible refine within_seq ?_ ?_
    | with_reducible refine within_ite ?_ ?_
    | with_reducible refine within_fw ?_
    | with_reducible refine fwCmd_within _ _ _  ?_ ?_
    | with_reducible refine (mbAnswer_within _ _ _ _).mono ?_
    | (dsimp only)
    | split
    | rfl)

theorem rolesNow_within (roles : List (Nat × Nat)) : (rolesNow roles).Within 0x1800000000000000000000000000000000000000000000000000000000000000000000000000000000000000000000000000000000000000000000000000000000 := by
  unfold rolesNow
  repeat' (first
    | with_reducible exact within_skip
    | with_reducible refine within_read fun _ => ?_
    | with_reducible refine within_all_cons ?_ ?_
    | with_reducible refine within_all_one ?_
    | with_reducible refine within_seq ?_ ?_
    | with_reducible refine within_set ?_
    | with_reducible refine within_each fun _ => ?_
    | (dsimp only)
    | split
    | rfl)

theorem activateCfg_within (mb : Mbox) : (activateCfg mb).Within 0x40004000000000000000000001800000000000000000000000000000000000000000000000000000000000000000000000000000000000000000000000000000000000000000000000000000000 := by
  unfold activateCfg
  repeat' (first
    | with_reducible exact within_skip
    | with_reducible refine within_read fun _ => ?_
    | with_reducible refine within_all_cons ?_ ?_
    | with_reducible refine within_all_one ?_
    | with_reducible refine within_seq ?_ ?_
    | with_reducible refine within_ite ?_ ?_
    | with_reducible refine within_fw ?_
    | with_reducible refine (mbAnswer_within _ _ _ _).mono ?_
    | with_reducible refine (rolesNow_within _).mono ?_
    | (dsimp only)
    | split
    | rfl)

theorem activateImage_within (mb : Mbox) (k : Nat) (ok : Bool) : (activateImage mb k ok).Within 0x40004000000000000000000000007800000000000000000000000000000000000000000000000000000000000000000000000000000000000000000000000000000000000000000000000000000 := by
  unfold activateImage
  repeat' (first
    | with_reducible exact within_skip
    | with_reducible refine within_read fun _ => ?_
    | with_reducible refine within_all_cons ?_ ?_
    | with_reducible refine within_all_one ?_
    | with_reducible refine within_seq ?_ ?_
    | with_reducible refine within_ite ?_ ?_
    | with_reducible refine within_when ?_
    | with_reducible refine within_set ?_
    | with_reducible refine within_fw ?_
    | with_reducible refine (mbAnswer_within _ _ _ _).mono ?_
    | (dsimp only)
    | split
    | rfl)

theorem activateFw_within (mb : Mbox) (k : Nat) (online : Bool) (ok : Bool) : (activateFw mb k online ok).Within 0x40004000000000000000000001807800000000000000000000000000000000000000000000000000000000000000000000000000000000000000000000000000000000000000000000000000000 := by
  unfold activateFw
  repeat' (first
    | with_reducible exact within_skip
    | with_reducible refine within_read fun _ => ?_
    | with_reducible refine within_all_cons ?_ ?_
    | with_reducible refine within_all_one ?_
    | with_reducible refine within_seq ?_ ?_
    | with_reducible refine within_ite ?_ ?_
    | with_reducible refine fwCmd_within _ _ _  ?_ ?_
    | with_reducible refine (mbAnswer_within _ _ _ _).mono ?_
    | with_reducible refine (activateCfg_within _).mono ?_
    | with_reducible refine (activateImage_within _ _ _).mono ?_
    | (dsimp only)
    | split
    | rfl)

theorem celBytes_within {K : Nat} (ops : List Nat) (k : List Byte → Act) (h0 : ∀ y, (k y).Within K) (hK : inside 0x8000000000000000000000000000000000000000000000000000000000000000000000000000000000000000000000000000000000000000000000000000000000000000000000000000000 K = true) :
    (celBytes ops k).Within K := by
  induction ops generalizing k with
  | nil => exact h0 _
  | cons o os ih => exact within_free (inside_bit hK rfl) fun _ => ih _ fun _ => h0 _

theorem supportedLogs_within (mb : Mbox) : (supportedLogs mb).Within 0x4000000000000000000000000000000000000000000000000000000000000000000000000000000000000000000000000000000000000000000000000000000000000000000000000000000 := by
  unfold supportedLogs
  repeat' (first
    | with_reducible exact within_skip
    | with_reducible refine within_read fun _ => ?_
    | with_reducible refine within_all_cons ?_ ?_
    | with_reducible refine within_all_one ?_
    | with_reducible refine within_seq ?_ ?_
    | with_reducible refine within_ite ?_ ?_
    | with_reducible refine mbCmd_within _ _ _  ?_ ?_
    | with_reducible refine (mbAnswer_within _ _ _ _).mono ?_
    | (dsimp only)
    | split
    | rfl)

theorem getLog_within (mb : Mbox) (l : LogId) (off : Nat) (len : Nat) : (getLog mb l off len).Within 0xc000000000000000000000000000000000000000000000000000000000000000000000000000000000000000000000000000000000000000000000000000000000000000000000000000000 := by
  unfold getLog
  repeat' (first
    | with_reducible exact within_skip
    | with_reducible refine within_read fun _ => ?_
    | with_reducible refine within_all_cons ?_ ?_
    | with_reducible refine within_all_one ?_
    | with_reducible refine within_seq ?_ ?_
    | with_reducible refine within_ite ?_ ?_
    | with_reducible refine mbCmd_within _ _ _  ?_ ?_
    | with_reducible refine (mbAnswer_within _ _ _ _).mono ?_
    | with_reducible refine celBytes_within _ _  (fun _ => ?_) ?_
    | (dsimp only)
    | split
    | rfl)

theorem supportedFeatures_within (mb : Mbox) : (supportedFeatures mb).Within 0x4000000000000000000000000000000000000000000000000000000000000000000000000000000000000000000000000000000000000000000000000000000000000000000000000000000 := by
  unfold supportedFeatures
  repeat' (first
    | with_reducible exact within_skip
    | with_reducible refine within_read fun _ => ?_
    | with_reducible refine within_all_cons ?_ ?_
    | with_reducible refine within_all_one ?_
    | with_reducible refine within_seq ?_ ?_
    | with_reducible refine mbCmd_within _ _ _  ?_ ?_
    | with_reducible refine (mbAnswer_within _ _ _ _).mono ?_
    | (dsimp only)
    | split
    | rfl)

theorem getFeature_within (mb : Mbox) (k : Nat) : (getFeature mb k).Within 0x4000000000000000000000000000000000000000000000000000000000000000000000000000000000000000000000000000000000000000000000000000000000000000000000000000000 := by
  unfold getFeature
  repeat' (first
    | with_reducible exact within_skip
    | with_reducible refine within_read fun _ => ?_
    | with_reducible refine within_all_cons ?_ ?_
    | with_reducible refine within_all_one ?_
    | with_reducible refine within_seq ?_ ?_
    | with_reducible refine within_ite ?_ ?_
    | with_reducible refine mbCmd_within _ _ _  ?_ ?_
    | with_reducible refine (mbAnswer_within _ _ _ _).mono ?_
    | (dsimp only)
    | split
    | rfl)

theorem setFeature_within (mb : Mbox) (k : Nat) (v : Nat) : (setFeature mb k v).Within 0x404000000000000000000000000000000000000000000000000000000000000000000000000000000000000000000000000000000000000000000000000000000000000000000000000000000 := by
  unfold setFeature
  repeat' (first
    | with_reducible exact within_skip
    | with_reducible refine within_read fun _ => ?_
    | with_reducible refine within_all_cons ?_ ?_
    | with_reducible refine within_all_one ?_
    | with_reducible refine within_seq ?_ ?_
    | with_reducible refine within_ite ?_ ?_
    | with_reducible refine within_host ?_
    | with_reducible refine mbCmd_within _ _ _  ?_ ?_
    | with_reducible refine (mbAnswer_within _ _ _ _).mono ?_
    | (dsimp only)
    | split
    | rfl)

theorem identifyMemory_within (mb : Mbox) : (identifyMemory mb).Within 0x4000000000000000000000000000000000000000000000000000000000000000000000000000000000000000000000000000000000000000000000000000000000000000000000000000000 := by
  unfold identifyMemory
  repeat' (first
    | with_reducible exact within_skip
    | with_reducible refine within_read fun _ => ?_
    | with_reducible refine within_all_cons ?_ ?_
    | with_reducible refine within_all_one ?_
    | with_reducible refine within_seq ?_ ?_
    | with_reducible refine ldCmd_within _ _ _  (fun _ => ?_) ?_
    | with_reducible refine (mbAnswer_within _ _ _ _).mono ?_
    | (dsimp only)
    | split
    | rfl)

theorem partitionInfo_within (mb : Mbox) : (partitionInfo mb).Within 0x4000000000000000000000000000000000000000000000000000000000000000000000000000000000000000000000000000000000000000000000000000000000000000000000000000000 := by
  unfold partitionInfo
  repeat' (first
    | with_reducible exact within_skip
    | with_reducible refine within_read fun _ => ?_
    | with_reducible refine within_all_cons ?_ ?_
    | with_reducible refine within_all_one ?_
    | with_reducible refine within_seq ?_ ?_
    | with_reducible refine ldCmd_within _ _ _  (fun _ => ?_) ?_
    | with_reducible refine (mbAnswer_within _ _ _ _).mono ?_
    | (dsimp only)
    | split
    | rfl)

theorem poisonList_within (mb : Mbox) (dpa : Nat) (len : Nat) : (poisonList mb dpa len).Within 0x4000000000000000000000000000000000000000000000000000000000000000000000000000000000000000000000000000000000000000000000000000000000000000000000000000000 := by
  unfold poisonList
  repeat' (first
    | with_reducible exact within_skip
    | with_reducible refine within_read fun _ => ?_
    | with_reducible refine within_all_cons ?_ ?_
    | with_reducible refine within_all_one ?_
    | with_reducible refine within_seq ?_ ?_
    | with_reducible refine ldCmd_within _ _ _  (fun _ => ?_) ?_
    | with_reducible refine (mbAnswer_within _ _ _ _).mono ?_
    | (dsimp only)
    | split
    | rfl)

theorem injectPoison_within (mb : Mbox) (dpa : Nat) : (injectPoison mb dpa).Within 0x407000000000000000000000000000000000000000002800000000000000000000000000000000000000000000000000000000000000000000100000000000000000000000000000000000000 := by
  unfold injectPoison
  repeat' (first
    | with_reducible exact within_skip
    | with_reducible refine within_read fun _ => ?_
    | with_reducible refine within_all_cons ?_ ?_
    | with_reducible refine within_all_one ?_
    | with_reducible refine within_seq ?_ ?_
    | with_reducible refine within_ite ?_ ?_
    | with_reducible refine ldCmd_within _ _ _  (fun _ => ?_) ?_
    | with_reducible refine (mbAnswer_within _ _ _ _).mono ?_
    | with_reducible refine (markLines_within _ _ _ _).mono ?_
    | (dsimp only)
    | split
    | rfl)

theorem clearPoison_within (mb : Mbox) (dpa : Nat) (data : Line) : (clearPoison mb dpa data).Within 0x2fcce000000000000000000000000000000000000001802800013e0ea04c00800000000000000000000080000000000000000000040080000000100800007c5c002000000400000400001000000 := by
  unfold clearPoison
  repeat' (first
    | with_reducible exact within_skip
    | with_reducible refine within_read fun _ => ?_
    | with_reducible refine within_all_cons ?_ ?_
    | with_reducible refine within_all_one ?_
    | with_reducible refine within_seq ?_ ?_
    | with_reducible refine within_ite ?_ ?_
    | with_reducible refine ldCmd_within _ _ _  (fun _ => ?_) ?_
    | with_reducible refine (mbAnswer_within _ _ _ _).mono ?_
    | with_reducible refine (request_within _ _ _ _).mono ?_
    | with_reducible refine (ask_within _ _ _ _ _).mono ?_
    | (dsimp only)
    | split
    | rfl)

theorem scanCaps_within (mb : Mbox) (dpa : Nat) (len : Nat) : (scanCaps mb dpa len).Within 0xc000000000000000000000000000000000000000000000000000000000000000000000000000000000000000000000000000000000000000000000000000000000000000000000000000000 := by
  unfold scanCaps
  repeat' (first
    | with_reducible exact within_skip
    | with_reducible refine within_read fun _ => ?_
    | with_reducible refine within_all_cons ?_ ?_
    | with_reducible refine within_all_one ?_
    | with_reducible refine within_seq ?_ ?_
    | with_reducible refine within_ite ?_ ?_
    | with_reducible refine ldCmd_within _ _ _  (fun _ => ?_) ?_
    | with_reducible refine (mbAnswer_within _ _ _ _).mono ?_
    | with_reducible refine (answerFree_within _ _ _ _).mono ?_
    | (dsimp only)
    | split
    | rfl)

theorem scanMedia_within (mb : Mbox) (dpa : Nat) (len : Nat) : (scanMedia mb dpa len).Within 0x404000000000000000000000000000000000000000000000000000000000000000000000000000000000000000000000000000000000000000000000000000000000000000000000000000000 := by
  unfold scanMedia
  repeat' (first
    | with_reducible exact within_skip
    | with_reducible refine within_read fun _ => ?_
    | with_reducible refine within_all_cons ?_ ?_
    | with_reducible refine within_all_one ?_
    | with_reducible refine within_seq ?_ ?_
    | with_reducible refine within_rcd ?_
    | with_reducible refine ldCmd_within _ _ _  (fun _ => ?_) ?_
    | with_reducible refine (mbAnswer_within _ _ _ _).mono ?_
    | with_reducible refine (Act.mbox_within _ _).mono ?_
    | (dsimp only)
    | split
    | rfl)

theorem scanResults_within (mb : Mbox) : (scanResults mb).Within 0x4000000000000000000000000000000000000000000000000000000000000000000000000000000000000000000000000000000000000000000000000000000000000000000000000000000 := by
  unfold scanResults
  repeat' (first
    | with_reducible exact within_skip
    | with_reducible refine within_read fun _ => ?_
    | with_reducible refine within_all_cons ?_ ?_
    | with_reducible refine within_all_one ?_
    | with_reducible refine within_seq ?_ ?_
    | with_reducible refine ldCmd_within _ _ _  (fun _ => ?_) ?_
    | with_reducible refine (mbAnswer_within _ _ _ _).mono ?_
    | (dsimp only)
    | split
    | rfl)

theorem dcConfig_within (mb : Mbox) : (dcConfig mb).Within 0x4000000000000000000000000000000000000000000000000000000000000000000000000000000000000000000000000000000000000000000000000000000000000000000000000000000 := by
  unfold dcConfig
  repeat' (first
    | with_reducible exact within_skip
    | with_reducible refine within_read fun _ => ?_
    | with_reducible refine within_all_cons ?_ ?_
    | with_reducible refine within_all_one ?_
    | with_reducible refine within_seq ?_ ?_
    | with_reducible refine ldCmd_within _ _ _  (fun _ => ?_) ?_
    | with_reducible refine (mbAnswer_within _ _ _ _).mono ?_
    | (dsimp only)
    | split
    | rfl)

theorem dcExtents_within (mb : Mbox) : (dcExtents mb).Within 0x4000000000000000000000000000000000000000000000000000000000000000000000000000000000000000000000000000000000000000000000000000000000000000000000000000000 := by
  unfold dcExtents
  repeat' (first
    | with_reducible exact within_skip
    | with_reducible refine within_read fun _ => ?_
    | with_reducible refine within_all_cons ?_ ?_
    | with_reducible refine within_all_one ?_
    | with_reducible refine within_seq ?_ ?_
    | with_reducible refine ldCmd_within _ _ _  (fun _ => ?_) ?_
    | with_reducible refine (mbAnswer_within _ _ _ _).mono ?_
    | (dsimp only)
    | split
    | rfl)

theorem addResponse_within (mb : Mbox) (xs : List Range) : (addResponse mb xs).Within 0x404000000000000000000000000000000000000000000000000000000000000000000000000000000000000000000000000000000000000000000000000000000000000000000000000000000 := by
  unfold addResponse
  repeat' (first
    | with_reducible exact within_skip
    | with_reducible refine within_read fun _ => ?_
    | with_reducible refine within_all_cons ?_ ?_
    | with_reducible refine within_all_one ?_
    | with_reducible refine within_seq ?_ ?_
    | with_reducible refine within_ite ?_ ?_
    | with_reducible refine within_host ?_
    | with_reducible refine ldCmd_within _ _ _  (fun _ => ?_) ?_
    | with_reducible refine (mbAnswer_within _ _ _ _).mono ?_
    | (dsimp only)
    | split
    | rfl)

theorem releaseDc_within (mb : Mbox) (xs : List Range) : (releaseDc mb xs).Within 0x17d46000000000000000000000000000000000000000000000013e0ea04c008000020000000000000000000081000000000000000000000000001000000000000000000000000de3e0000000000 := by
  unfold releaseDc
  repeat' (first
    | with_reducible exact within_skip
    | with_reducible refine within_read fun _ => ?_
    | with_reducible refine within_all_cons ?_ ?_
    | with_reducible refine within_all_one ?_
    | with_reducible refine within_seq ?_ ?_
    | with_reducible refine within_ite ?_ ?_
    | with_reducible refine within_each fun _ => ?_
    | with_reducible refine ldCmd_within _ _ _  (fun _ => ?_) ?_
    | with_reducible refine (releaseRange_within _ _ _).mono ?_
    | with_reducible refine (cutExtents_within _ _ _).mono ?_
    | with_reducible refine (mbAnswer_within _ _ _ _).mono ?_
    | (dsimp only)
    | split
    | rfl)

theorem fmLdInfo_within (h : Nat) : (fmLdInfo h).Within 0x4000000000000000000000000000000000000000000000000000000000000000000000000000000000000000000000000000000000000000000000000000000000000000000000000000000 := by
  unfold fmLdInfo
  repeat' (first
    | with_reducible exact within_skip
    | with_reducible refine within_read fun _ => ?_
    | with_reducible refine within_all_cons ?_ ?_
    | with_reducible refine within_all_one ?_
    | with_reducible refine within_seq ?_ ?_
    | with_reducible refine within_ite ?_ ?_
    | with_reducible refine fmCmd_within _ _  ?_ ?_
    | with_reducible refine (mbAnswer_within _ _ _ _).mono ?_
    | (dsimp only)
    | split
    | rfl)

theorem fmLdAllocs_within (first : Nat) (count : Nat) : (fmLdAllocs first count).Within 0x4000000000000000000000000000000000000000000000000000000000000000000000000000000000000000000000000000000000000000000000000000000000000000000000000000000 := by
  unfold fmLdAllocs
  repeat' (first
    | with_reducible exact within_skip
    | with_reducible refine within_read fun _ => ?_
    | with_reducible refine within_all_cons ?_ ?_
    | with_reducible refine within_all_one ?_
    | with_reducible refine within_seq ?_ ?_
    | with_reducible refine fmCmd_within _ _  ?_ ?_
    | with_reducible refine (mbAnswer_within _ _ _ _).mono ?_
    | (dsimp only)
    | split
    | rfl)

theorem fmSetAllocs_within (first : Nat) (caps : List Nat) : (fmSetAllocs first caps).Within 0x4000000000000000000000000000000000000000000000000000000000000000000000000000000000000000000000000000000000000000010000000000000000000000000000000000000 := by
  unfold fmSetAllocs
  repeat' (first
    | with_reducible exact within_skip
    | with_reducible refine within_read fun _ => ?_
    | with_reducible refine within_all_cons ?_ ?_
    | with_reducible refine within_all_one ?_
    | with_reducible refine within_seq ?_ ?_
    | with_reducible refine within_ite ?_ ?_
    | with_reducible refine within_set ?_
    | with_reducible refine within_each fun _ => ?_
    | with_reducible refine fmCmd_within _ _  ?_ ?_
    | with_reducible refine (mbAnswer_within _ _ _ _).mono ?_
    | (dsimp only)
    | split
    | rfl)

theorem fmQosControl_within  : fmQosControl.Within 0x4000000000000000000000000000000000000000000000000000000000000000000000000000000000000000000000000000000000000000000000000000000000000000000000000000000 := by
  unfold fmQosControl
  repeat' (first
    | with_reducible exact within_skip
    | with_reducible refine within_read fun _ => ?_
    | with_reducible refine within_all_cons ?_ ?_
    | with_reducible refine within_all_one ?_
    | with_reducible refine within_seq ?_ ?_
    | with_reducible refine fmCmd_within _ _  ?_ ?_
    | with_reducible refine (mbAnswer_within _ _ _ _).mono ?_
    | (dsimp only)
    | split
    | rfl)

theorem fmQosStatus_within  : fmQosStatus.Within 0x4000000000000000000000000000000000000000000000000000000000000000000000000000000000000000000000000000000000000000000000000000000000000000000000000000000 := by
  unfold fmQosStatus
  repeat' (first
    | with_reducible exact within_skip
    | with_reducible refine within_read fun _ => ?_
    | with_reducible refine within_all_cons ?_ ?_
    | with_reducible refine within_all_one ?_
    | with_reducible refine within_seq ?_ ?_
    | with_reducible refine fmCmd_within _ _  ?_ ?_
    | with_reducible refine (mbAnswer_within _ _ _ _).mono ?_
    | (dsimp only)
    | split
    | rfl)

theorem fmHeads_within  : fmHeads.Within 0x4000000000000000000000000000000000000000000000000000000000000000000000000000000000000000000000000000000000000000000000000000000000000000000000000000000 := by
  unfold fmHeads
  repeat' (first
    | with_reducible exact within_skip
    | with_reducible refine within_read fun _ => ?_
    | with_reducible refine within_all_cons ?_ ?_
    | with_reducible refine within_all_one ?_
    | with_reducible refine within_seq ?_ ?_
    | with_reducible refine fmCmd_within _ _  ?_ ?_
    | with_reducible refine (mbAnswer_within _ _ _ _).mono ?_
    | (dsimp only)
    | split
    | rfl)

theorem fmHeadInfo_within (h : Nat) : (fmHeadInfo h).Within 0x4000000000000000000000000000000000000000000000000000000000000000000000000000000000000000000000000000000000000000000000000000000000000000000000000000000 := by
  unfold fmHeadInfo
  repeat' (first
    | with_reducible exact within_skip
    | with_reducible refine within_read fun _ => ?_
    | with_reducible refine within_all_cons ?_ ?_
    | with_reducible refine within_all_one ?_
    | with_reducible refine within_seq ?_ ?_
    | with_reducible refine within_ite ?_ ?_
    | with_reducible refine fmCmd_within _ _  ?_ ?_
    | with_reducible refine (mbAnswer_within _ _ _ _).mono ?_
    | (dsimp only)
    | split
    | rfl)

theorem fmDcdInfo_within  : fmDcdInfo.Within 0x4000000000000000000000000000000000000000000000000000000000000000000000000000000000000000000000000000000000000000000000000000000000000000000000000000000 := by
  unfold fmDcdInfo
  repeat' (first
    | with_reducible exact within_skip
    | with_reducible refine within_read fun _ => ?_
    | with_reducible refine within_all_cons ?_ ?_
    | with_reducible refine within_all_one ?_
    | with_reducible refine within_seq ?_ ?_
    | with_reducible refine fmCmd_within _ _  ?_ ?_
    | with_reducible refine (mbAnswer_within _ _ _ _).mono ?_
    | (dsimp only)
    | split
    | rfl)

theorem fmRegions_within (n : Nat) : (fmRegions n).Within 0x4000000000000000000000000000000000000000000000000000000000000000000000000000000000000000000000000000000000000000000000000000000000000000000000000000000 := by
  unfold fmRegions
  repeat' (first
    | with_reducible exact within_skip
    | with_reducible refine within_read fun _ => ?_
    | with_reducible refine within_all_cons ?_ ?_
    | with_reducible refine within_all_one ?_
    | with_reducible refine within_seq ?_ ?_
    | with_reducible refine within_ite ?_ ?_
    | with_reducible refine fmCmd_within _ _  ?_ ?_
    | with_reducible refine (mbAnswer_within _ _ _ _).mono ?_
    | (dsimp only)
    | split
    | rfl)

theorem fmExtents_within (n : Nat) : (fmExtents n).Within 0x4000000000000000000000000000000000000000000000000000000000000000000000000000000000000000000000000000000000000000000000000000000000000000000000000000000 := by
  unfold fmExtents
  repeat' (first
    | with_reducible exact within_skip
    | with_reducible refine within_read fun _ => ?_
    | with_reducible refine within_all_cons ?_ ?_
    | with_reducible refine within_all_one ?_
    | with_reducible refine within_seq ?_ ?_
    | with_reducible refine within_ite ?_ ?_
    | with_reducible refine fmCmd_within _ _  ?_ ?_
    | with_reducible refine (mbAnswer_within _ _ _ _).mono ?_
    | (dsimp only)
    | split
    | rfl)

theorem fmRelease_within (n : Nat) (x : Range) : (fmRelease n x).Within 0x2fcce000000000000000000000000000000000000001802800013e0ea04c00800000000000000000000080000000000000000000040080000000100800007c5c002000000400000700001000000 := by
  unfold fmRelease
  repeat' (first
    | with_reducible exact within_skip
    | with_reducible refine within_read fun _ => ?_
    | with_reducible refine within_all_cons ?_ ?_
    | with_reducible refine within_all_one ?_
    | with_reducible refine within_seq ?_ ?_
    | with_reducible refine within_ite ?_ ?_
    | with_reducible refine within_host ?_
    | with_reducible refine fmCmd_within _ _  ?_ ?_
    | with_reducible refine (mbAnswer_within _ _ _ _).mono ?_
    | with_reducible refine (requestRelease_within _).mono ?_
    | (dsimp only)
    | split
    | rfl)

theorem unsupportedOp_within (mb : Mbox) (op : Nat) : (unsupportedOp mb op).Within 0x4000000000000000000000000000000000000000000000000000000000000000000000000000000000000000000000000000000000000000000000000000000000000000000000000000000 := by
  unfold unsupportedOp
  repeat' (first
    | with_reducible exact within_skip
    | with_reducible refine within_read fun _ => ?_
    | with_reducible refine within_all_cons ?_ ?_
    | with_reducible refine within_all_one ?_
    | with_reducible refine within_seq ?_ ?_
    | with_reducible refine within_when ?_
    | with_reducible refine (mbAnswer_within _ _ _ _).mono ?_
    | (dsimp only)
    | split
    | rfl)

end Sys2Proof.Machine
end

