-- ==== Sys2Proof/Laws/WithinRegulation.lean ====
section
/-!
SUPPORT. What each program of Machine/Regulation.lean can change: one lemma each, over the places of Laws/Acts.lean.
-/

namespace Sys2Proof.Machine

set_option linter.unusedTactic false
set_option linter.unreachableTactic false

theorem liveUpdate_within (c : Nat) : (liveUpdate c).Within 0x24000000000000000000000000000000000000000000000000000000000000000000000000000 := by
  unfold liveUpdate
  repeat' (first
    | with_reducible exact within_skip
    | with_reducible refine within_read fun _ => ?_
    | with_reducible refine within_all_cons ?_ ?_
    | with_reducible refine within_all_one ?_
    | with_reducible refine within_seq ?_ ?_
    | with_reducible refine within_when ?_
    | with_reducible refine within_set ?_
    | (dsimp only)
    | split
    | rfl)

theorem liveAll_within  : liveAll.Within 0x24000000000000000000000000000000000000000000000000000000000000000000000000000 := by
  unfold liveAll
  repeat' (first
    | with_reducible exact within_skip
    | with_reducible refine within_read fun _ => ?_
    | with_reducible refine within_all_cons ?_ ?_
    | with_reducible refine within_all_one ?_
    | with_reducible refine within_seq ?_ ?_
    | with_reducible refine within_each fun _ => ?_
    | with_reducible refine (liveUpdate_within _).mono ?_
    | (dsimp only)
    | split
    | rfl)

theorem applyShrink_within (c : Nat) : (applyShrink c).Within 0x1000000000000000000000000000000000000000000000000013000000000000000000000000418000000000000000000000000000000000000000000000000000000000000000000000000000 := by
  unfold applyShrink
  repeat' (first
    | with_reducible exact within_skip
    | with_reducible refine within_read fun _ => ?_
    | with_reducible refine within_all_cons ?_ ?_
    | with_reducible refine within_all_one ?_
    | with_reducible refine within_seq ?_ ?_
    | with_reducible refine within_ite ?_ ?_
    | with_reducible refine within_when ?_
    | with_reducible refine within_set ?_
    | with_reducible refine within_each fun _ => ?_
    | with_reducible refine (lhLog_within _ _ _ _ _).mono ?_
    | (dsimp only)
    | split
    | rfl)

theorem rebuild_within (c : Nat) : (rebuild c).Within 0x80600000000000000000000000000000000000000000000000000000000000000000000000000 := by
  unfold rebuild
  repeat' (first
    | with_reducible exact within_skip
    | with_reducible refine within_read fun _ => ?_
    | with_reducible refine within_all_cons ?_ ?_
    | with_reducible refine within_all_one ?_
    | with_reducible refine within_seq ?_ ?_
    | with_reducible refine within_when ?_
    | with_reducible refine within_set ?_
    | with_reducible refine within_each fun _ => ?_
    | (dsimp only)
    | split
    | rfl)

theorem applySet_within (c : Nat) (l : List Share) : (applySet c l).Within 0x101000000000000000000000000000000000000000000000000013000000000000000000000000498600000000000000000000000000000000000000000000000000000000000000000000000000 := by
  unfold applySet
  repeat' (first
    | with_reducible exact within_skip
    | with_reducible refine within_read fun _ => ?_
    | with_reducible refine within_all_cons ?_ ?_
    | with_reducible refine within_all_one ?_
    | with_reducible refine within_seq ?_ ?_
    | with_reducible refine within_set ?_
    | with_reducible refine within_rgl ?_
    | with_reducible refine within_each fun _ => ?_
    | with_reducible refine (rebuild_within _).mono ?_
    | with_reducible refine (applyShrink_within _).mono ?_
    | (dsimp only)
    | split
    | rfl)

theorem rglCommit_within  : rglCommit.Within 0x100000000000000000000000000000000000000000000000000000000000000000000000000000000003400000000000000000000000000000000000000000000000000000000000000000000000 := by
  unfold rglCommit
  repeat' (first
    | with_reducible exact within_skip
    | with_reducible refine within_read fun _ => ?_
    | with_reducible refine within_all_cons ?_ ?_
    | with_reducible refine within_all_one ?_
    | with_reducible refine within_seq ?_ ?_
    | with_reducible refine within_set ?_
    | with_reducible refine within_rgl ?_
    | (dsimp only)
    | split
    | rfl)

theorem applyResetSet_within  : applyResetSet.Within 0x1010000000000000000000000000000000000000000000000000130000000000000000000000004be600000000000000000000000000000000000000000000000000000000000000000000000000 := by
  unfold applyResetSet
  repeat' (first
    | with_reducible exact within_skip
    | with_reducible refine within_read fun _ => ?_
    | with_reducible refine within_all_cons ?_ ?_
    | with_reducible refine within_all_one ?_
    | with_reducible refine within_seq ?_ ?_
    | with_reducible refine within_set ?_
    | with_reducible refine within_each fun _ => ?_
    | with_reducible refine (liveUpdate_within _).mono ?_
    | with_reducible refine (applySet_within _ _).mono ?_
    | (dsimp only)
    | split
    | rfl)

theorem endFrame_within (c : Nat) (k : Nat) : (endFrame c k).Within 0x1c44000000000000000000000000000000000000000000000013e0ea04c00800000000000001b01008000000000000000000000000000000000100000000000000000000000000000000000000 := by
  unfold endFrame
  repeat' (first
    | with_reducible exact within_skip
    | with_reducible refine within_read fun _ => ?_
    | with_reducible refine within_all_cons ?_ ?_
    | with_reducible refine within_all_one ?_
    | with_reducible refine within_seq ?_ ?_
    | with_reducible refine within_when ?_
    | with_reducible refine within_set ?_
    | with_reducible refine within_inc ?_
    | with_reducible refine within_sat ?_
    | with_reducible refine (raise_within _ _ _).mono ?_
    | (dsimp only)
    | split
    | rfl)

theorem frameBoundary_within (c : Nat) : (frameBoundary c).Within 0x101c44000000000000000000000000000000000000000000000013e0ea04c00800000000000001f9960c400000000000000000000000000000000100000000000000000000000000000000000000 := by
  unfold frameBoundary
  repeat' (first
    | with_reducible exact within_skip
    | with_reducible refine within_read fun _ => ?_
    | with_reducible refine within_all_cons ?_ ?_
    | with_reducible refine within_all_one ?_
    | with_reducible refine within_seq ?_ ?_
    | with_reducible refine within_ite ?_ ?_
    | with_reducible refine within_when ?_
    | with_reducible refine within_set ?_
    | with_reducible refine within_inc ?_
    | with_reducible refine within_rgl ?_
    | with_reducible refine within_each fun _ => ?_
    | with_reducible refine (endFrame_within _ _).mono ?_
    | with_reducible refine (applySet_within _ _).mono ?_
    | with_reducible refine (applyShrink_within _).mono ?_
    | (dsimp only)
    | split
    | rfl)

theorem rglEnWrite_within (v : Bool) : (rglEnWrite v).Within 0x900000000000000000000000000000000000000000000000000000000000000000000000 := by
  unfold rglEnWrite
  repeat' (first
    | with_reducible exact within_skip
    | with_reducible refine within_read fun _ => ?_
    | with_reducible refine within_all_cons ?_ ?_
    | with_reducible refine within_all_one ?_
    | with_reducible refine within_seq ?_ ?_
    | with_reducible refine within_set ?_
    | (dsimp only)
    | split
    | rfl)

theorem windowIssue_within (c : Nat) (w : Nat) : (windowIssue c w).Within 0x100040000000000000000000000000000000000000000002800000000000000000000000000000040800000000000000000000000000000000000000000000000000000000000000000000000000 := by
  unfold windowIssue
  repeat' (first
    | with_reducible exact within_skip
    | with_reducible refine within_read fun _ => ?_
    | with_reducible refine within_all_cons ?_ ?_
    | with_reducible refine within_all_one ?_
    | with_reducible refine within_seq ?_ ?_
    | with_reducible refine within_ite ?_ ?_
    | with_reducible refine within_when ?_
    | with_reducible refine within_set ?_
    | with_reducible refine within_lines ?_
    | with_reducible refine within_some? fun _ => ?_
    | with_reducible refine (charge_within _ _ _ _).mono ?_
    | with_reducible refine (event_within _ _ _ _).mono ?_
    | (dsimp only)
    | split
    | rfl)

theorem spreadAgain_within  : spreadAgain.Within 0x10000000000000000000000000000000000000000000000000130000000000000000000000004bc600000000000000000000000000000000000000000000000000000000000000000000000000 := by
  unfold spreadAgain
  repeat' (first
    | with_reducible exact within_skip
    | with_reducible refine within_read fun _ => ?_
    | with_reducible refine within_all_cons ?_ ?_
    | with_reducible refine within_all_one ?_
    | with_reducible refine within_seq ?_ ?_
    | with_reducible refine within_set ?_
    | with_reducible refine within_each fun _ => ?_
    | with_reducible refine (liveUpdate_within _).mono ?_
    | with_reducible refine (rebuild_within _).mono ?_
    | with_reducible refine (applyShrink_within _).mono ?_
    | (dsimp only)
    | split
    | rfl)

theorem leaveService_within (c : Nat) : (leaveService c).Within 0x1010000000000000000000000000000000000000000000000000130000000000000000000004004bc600000000000000000000000000000000000000000000000000000000000000000000000000 := by
  unfold leaveService
  repeat' (first
    | with_reducible exact within_skip
    | with_reducible refine within_read fun _ => ?_
    | with_reducible refine within_all_cons ?_ ?_
    | with_reducible refine within_all_one ?_
    | with_reducible refine within_seq ?_ ?_
    | with_reducible refine within_when ?_
    | with_reducible refine within_set ?_
    | with_reducible refine within_rgl ?_
    | with_reducible refine (spreadAgain_within).mono ?_
    | (dsimp only)
    | split
    | rfl)

theorem channelLeaveService_within (c : Nat) : (channelLeaveService c).Within 0x1010000000000000000000000000000000000000000000000000130000000000000000000004004bc600000000000000000000000000000000000000000000000000000000000000000000000000 := by
  unfold channelLeaveService
  repeat' (first
    | with_reducible exact within_skip
    | with_reducible refine within_read fun _ => ?_
    | with_reducible refine within_all_cons ?_ ?_
    | with_reducible refine within_all_one ?_
    | with_reducible refine within_seq ?_ ?_
    | with_reducible refine within_when ?_
    | with_reducible refine (leaveService_within _).mono ?_
    | (dsimp only)
    | split
    | rfl)

end Sys2Proof.Machine
end

