-- ==== Sys2Proof/Laws/WithinStrait.lean ====
section
/-!
SUPPORT. What each program of Machine/Strait.lean can change: one lemma each, over the places of Laws/Acts.lean.
-/

namespace Sys2Proof.Machine

set_option linter.unusedTactic false
set_option linter.unreachableTactic false

theorem paceRetarget_within  : paceRetarget.Within 0x200000000000000000000000000000000000000000000000000000000000000000240000000000000000000000000000000000000000000000000000000000000000000000000000000000000000 := by
  unfold paceRetarget
  repeat' (first
    | with_reducible exact within_skip
    | with_reducible refine within_read fun _ => ?_
    | with_reducible refine within_all_cons ?_ ?_
    | with_reducible refine within_all_one ?_
    | with_reducible refine within_seq ?_ ?_
    | with_reducible refine within_when ?_
    | with_reducible refine within_set ?_
    | with_reducible refine within_noc ?_
    | with_reducible refine within_some? fun _ => ?_
    | (dsimp only)
    | split
    | rfl)

theorem paceTargetChange_within  : paceTargetChange.Within 0x200000000000000000000000000000000000000000000000000000000000000000240000000000000000000000000000000000000000000000000000000000000000000000000000000000000000 := by
  unfold paceTargetChange
  repeat' (first
    | with_reducible exact within_skip
    | with_reducible refine within_read fun _ => ?_
    | with_reducible refine within_all_cons ?_ ?_
    | with_reducible refine within_all_one ?_
    | with_reducible refine within_seq ?_ ?_
    | with_reducible refine within_when ?_
    | with_reducible refine (paceRetarget_within).mono ?_
    | (dsimp only)
    | split
    | rfl)

theorem changeDone_within  : changeDone.Within 0x800000000000000000000000000000000000080000000000000000000000000000000000000000000000000000000000000000000000000000000000000000000000000000000000000000000000 := by
  unfold changeDone
  repeat' (first
    | with_reducible exact within_skip
    | with_reducible refine within_read fun _ => ?_
    | with_reducible refine within_all_cons ?_ ?_
    | with_reducible refine within_all_one ?_
    | with_reducible refine within_seq ?_ ?_
    | with_reducible refine within_when ?_
    | with_reducible refine within_set ?_
    | with_reducible refine within_pow ?_
    | with_reducible refine within_some? fun _ => ?_
    | (dsimp only)
    | split
    | rfl)

theorem paceMeasure_within (gauges : List (Nat × Nat)) : (paceMeasure gauges).Within 0x800000000000000000000000000000000000080000000000000000000000030001020000000000000000000000000000000000000000000000000000000000000000000000000000000000000000 := by
  refine within_read fun _ => within_when (within_all_cons (within_each fun g => within_set ?_) (within_all_cons (within_set rfl)
    (within_all_cons (within_set rfl) (within_all_one (changeDone_within.mono (by decide))))))
  split <;> rfl

theorem paceLoop_within (ack : Bool) : (paceLoop ack).Within 0x601c44000000000000000000000000000000000000000000000013e0ea04c00804280000000000000000000000000000000000000000000000000100000000000000000000000000000000000000 := by
  unfold paceLoop
  repeat' (first
    | with_reducible exact within_skip
    | with_reducible refine within_read fun _ => ?_
    | with_reducible refine within_all_cons ?_ ?_
    | with_reducible refine within_all_one ?_
    | with_reducible refine within_seq ?_ ?_
    | with_reducible refine within_ite ?_ ?_
    | with_reducible refine within_when ?_
    | with_reducible refine within_set ?_
    | with_reducible refine within_inc ?_
    | with_reducible refine within_noc ?_
    | with_reducible refine within_csw ?_
    | with_reducible refine (raise_within _ _ _).mono ?_
    | (dsimp only)
    | split
    | rfl)

theorem endDown_within (e : Nat × Nat) (b : Bool) : (endDown e b).Within 0x8000000000000000000000000000000000000000000000000000000000000000000000000000000000000000000000 := by
  unfold endDown
  repeat' (first
    | with_reducible exact within_skip
    | with_reducible refine within_read fun _ => ?_
    | with_reducible refine within_all_cons ?_ ?_
    | with_reducible refine within_all_one ?_
    | with_reducible refine within_seq ?_ ?_
    | with_reducible refine within_set ?_
    | (dsimp only)
    | split
    | rfl)

theorem straitDown_within (s : Nat) (b : Bool) : (straitDown s b).Within 0x8000000000000000000000000000000000000000000000000000000000000000000000000000000000000000000000 := by
  unfold straitDown
  repeat' (first
    | with_reducible exact within_skip
    | with_reducible refine within_read fun _ => ?_
    | with_reducible refine within_all_cons ?_ ?_
    | with_reducible refine within_all_one ?_
    | with_reducible refine within_seq ?_ ?_
    | with_reducible refine (endDown_within _ _).mono ?_
    | (dsimp only)
    | split
    | rfl)

theorem creditAudit_within (s : Nat) (held : Nat) (inFlight : Nat) (occupied : Nat) (returning : Nat) : (creditAudit s held inFlight occupied returning).Within 0x1c44000000000000000000000000000000000000000000000013e0ea04cc8800000000000000000000000000000000000000000000000000000100000000000000000000000000000000000000 := by
  unfold creditAudit
  repeat' (first
    | with_reducible exact within_skip
    | with_reducible refine within_read fun _ => ?_
    | with_reducible refine within_all_cons ?_ ?_
    | with_reducible refine within_all_one ?_
    | with_reducible refine within_seq ?_ ?_
    | with_reducible refine within_when ?_
    | with_reducible refine within_inc ?_
    | with_reducible refine (raise_within _ _ _).mono ?_
    | with_reducible refine (straitDown_within _ _).mono ?_
    | (dsimp only)
    | split
    | rfl)

theorem nocRefused_within  : nocRefused.Within 0x100000000000000000000000000000000000000000000000000000000000000000000000000000000000000000 := by
  unfold nocRefused
  repeat' (first
    | with_reducible exact within_skip
    | with_reducible refine within_read fun _ => ?_
    | with_reducible refine within_all_cons ?_ ?_
    | with_reducible refine within_all_one ?_
    | with_reducible refine within_seq ?_ ?_
    | with_reducible refine within_set ?_
    | (dsimp only)
    | split
    | rfl)

theorem markers_within (l : List (Nat × Nat × Nat)) : (markers l).Within 0x4000000000000000000000000000000000000000000000000000000000000000000000000000000000000000000000000000000000000000000000000000000000000000000000000000000 := by
  unfold markers
  repeat' (first
    | with_reducible exact within_skip
    | with_reducible refine within_read fun _ => ?_
    | with_reducible refine within_all_cons ?_ ?_
    | with_reducible refine within_all_one ?_
    | with_reducible refine within_seq ?_ ?_
    | with_reducible refine within_emit ?_
    | with_reducible refine within_each fun _ => ?_
    | (dsimp only)
    | split
    | rfl)

theorem routerReconfigure_within (r : Nat) : (routerReconfigure r).Within 0x200004000000000000000000000000000000000000000000000000000000000020100000000000000000000000000000000000000000000000000000000000000000000000000000000000000000 := by
  unfold routerReconfigure
  repeat' (first
    | with_reducible exact within_skip
    | with_reducible refine within_read fun _ => ?_
    | with_reducible refine within_all_cons ?_ ?_
    | with_reducible refine within_all_one ?_
    | with_reducible refine within_seq ?_ ?_
    | with_reducible refine within_ite ?_ ?_
    | with_reducible refine within_when ?_
    | with_reducible refine within_set ?_
    | with_reducible refine within_emit ?_
    | with_reducible refine within_noc ?_
    | with_reducible refine (nocRefused_within).mono ?_
    | with_reducible refine (markers_within _).mono ?_
    | (dsimp only)
    | split
    | rfl)

theorem altRouteTimeout_within (src : Nat) (dst : Nat) (cls : Nat) : (altRouteTimeout src dst cls).Within 0x200004000000000000000000000000000000000000000000000000000000000008000000000000000000000000000000000000000000000000000000000000000000000000000000000000000000 := by
  unfold altRouteTimeout
  repeat' (first
    | with_reducible exact within_skip
    | with_reducible refine within_read fun _ => ?_
    | with_reducible refine within_all_cons ?_ ?_
    | with_reducible refine within_all_one ?_
    | with_reducible refine within_seq ?_ ?_
    | with_reducible refine within_when ?_
    | with_reducible refine within_inc ?_
    | with_reducible refine within_noc ?_
    | with_reducible refine within_some? fun _ => ?_
    | with_reducible refine (markers_within _).mono ?_
    | (dsimp only)
    | split
    | rfl)

theorem tableRoute_within (src : Nat) (dst : Nat) (cls : Nat) : (tableRoute src dst cls).Within 0x200000000000000000000000000000000000000000000000000000000000000000000000000000000000000000000000000000000000000000000000000000000000000000000000000000000000 := by
  unfold tableRoute
  repeat' (first
    | with_reducible exact within_skip
    | with_reducible refine within_read fun _ => ?_
    | with_reducible refine within_all_cons ?_ ?_
    | with_reducible refine within_all_one ?_
    | with_reducible refine within_seq ?_ ?_
    | with_reducible refine within_noc ?_
    | (dsimp only)
    | split
    | rfl)

theorem routeMarkerEcho_within (src : Nat) (dst : Nat) (cls : Nat) : (routeMarkerEcho src dst cls).Within 0x200000000000000000000000000000000000000000000000000000000000000000000000000000000000000000000000000000000000000000000000000000000000000000000000000000000000 := by
  unfold routeMarkerEcho
  repeat' (first
    | with_reducible exact within_skip
    | with_reducible refine within_read fun _ => ?_
    | with_reducible refine within_all_cons ?_ ?_
    | with_reducible refine within_all_one ?_
    | with_reducible refine within_seq ?_ ?_
    | with_reducible refine (tableRoute_within _ _ _).mono ?_
    | (dsimp only)
    | split
    | rfl)

theorem routeMarkerTimeout_within (src : Nat) (dst : Nat) (cls : Nat) : (routeMarkerTimeout src dst cls).Within 0x200000000000000000000000000000000000000000000000000000000000000000000000000000000000000000000000000000000000000000000000000000000000000000000000000000000000 := by
  unfold routeMarkerTimeout
  repeat' (first
    | with_reducible exact within_skip
    | with_reducible refine within_read fun _ => ?_
    | with_reducible refine within_all_cons ?_ ?_
    | with_reducible refine within_all_one ?_
    | with_reducible refine within_seq ?_ ?_
    | with_reducible refine (tableRoute_within _ _ _).mono ?_
    | (dsimp only)
    | split
    | rfl)

theorem packetAbsorb_within (r : Nat) (port : Nat) (cls : Nat) (tag : Nat) : (packetAbsorb r port cls tag).Within 0x2fcce000000000000000000000000000000000000001802800013e0ea04c00810000000000000000000080000000000000000000040080000000100800007c5c002000000400000400001000000 := by
  unfold packetAbsorb
  repeat' (first
    | with_reducible exact within_skip
    | with_reducible refine within_read fun _ => ?_
    | with_reducible refine within_all_cons ?_ ?_
    | with_reducible refine within_all_one ?_
    | with_reducible refine within_seq ?_ ?_
    | with_reducible refine within_ite ?_ ?_
    | with_reducible refine within_when ?_
    | with_reducible refine within_emit ?_
    | with_reducible refine within_inc ?_
    | with_reducible refine within_lines ?_
    | with_reducible refine within_some? fun _ => ?_
    | with_reducible refine (answerError_within _).mono ?_
    | with_reducible refine (closeTxn_within _).mono ?_
    | with_reducible refine (wake_within _).mono ?_
    | (dsimp only)
    | split
    | rfl)

end Sys2Proof.Machine
end

