-- ==== Sys2Proof/Laws/WithinCauseway.lean ====
section
/-!
SUPPORT. What each program of Machine/Causeway.lean can change: one lemma each, over the places of Laws/Acts.lean.
-/

namespace Sys2Proof.Machine

set_option linter.unusedTactic false
set_option linter.unreachableTactic false

theorem resetAll_within (kept : Fld → Bool) : (resetAll kept).Within 0x10000000000000000000000000000000000000000000000000000000000000000000000000000000000000000000000000000000000000000000000000000000000000000000000000000000 := by
  unfold resetAll
  repeat' (first
    | with_reducible exact within_skip
    | with_reducible refine within_read fun _ => ?_
    | with_reducible refine within_all_cons ?_ ?_
    | with_reducible refine within_all_one ?_
    | with_reducible refine within_seq ?_ ?_
    | with_reducible refine within_resetRegs ?_
    | (dsimp only)
    | split
    | rfl)

theorem coreLost_within  : coreLost.Within 0xbfe7e0000000000000000000000000000000000000000000000000000000000000000000000000000000000000000000000000000000000000000000000000000000000000000000000000000000 := by
  unfold coreLost
  repeat' (first
    | with_reducible exact within_skip
    | with_reducible refine within_read fun _ => ?_
    | with_reducible refine within_all_cons ?_ ?_
    | with_reducible refine within_all_one ?_
    | with_reducible refine within_seq ?_ ?_
    | with_reducible refine within_wipe ?_
    | with_reducible refine within_lines ?_
    | with_reducible refine within_dir ?_
    | with_reducible refine within_grain ?_
    | with_reducible refine within_keys ?_
    | with_reducible refine within_host ?_
    | with_reducible refine within_arc ?_
    | with_reducible refine within_bql ?_
    | with_reducible refine within_snd ?_
    | with_reducible refine within_que ?_
    | with_reducible refine within_fry ?_
    | with_reducible refine within_fw ?_
    | with_reducible refine within_chan ?_
    | with_reducible refine within_rgl ?_
    | with_reducible refine within_noc ?_
    | with_reducible refine within_pow ?_
    | (dsimp only)
    | split
    | rfl)

theorem goOff_within  : goOff.Within 0xbfeff0000000000000000000000000000000000000000000000000000000000000000000000000000000000000000000000000000000000000000000000000000000000000000000000000000000 := by
  unfold goOff
  repeat' (first
    | with_reducible exact within_skip
    | with_reducible refine within_read fun _ => ?_
    | with_reducible refine within_all_cons ?_ ?_
    | with_reducible refine within_all_one ?_
    | with_reducible refine within_seq ?_ ?_
    | with_reducible refine within_bkw ?_
    | with_reducible refine (resetAll_within _).mono ?_
    | with_reducible refine (coreLost_within).mono ?_
    | (dsimp only)
    | split
    | rfl)

theorem bkwLost_within  : bkwLost.Within 0x804000000000000000000000000000000000000000000000000000000000000000000000000000000000000000000000000000000000000000000000000000000000000000000000000000000 := by
  unfold bkwLost
  repeat' (first
    | with_reducible exact within_skip
    | with_reducible refine within_read fun _ => ?_
    | with_reducible refine within_all_cons ?_ ?_
    | with_reducible refine within_all_one ?_
    | with_reducible refine within_seq ?_ ?_
    | with_reducible refine within_when ?_
    | with_reducible refine within_emit ?_
    | with_reducible refine within_bkw ?_
    | (dsimp only)
    | split
    | rfl)

theorem loadConfig_within  : loadConfig.Within 0x1800000000000000000000000000000000000000000000000000000000000000000000000000000000000000000000000010000000000000000000000000000000 := by
  unfold loadConfig
  repeat' (first
    | with_reducible exact within_skip
    | with_reducible refine within_read fun _ => ?_
    | with_reducible refine within_all_cons ?_ ?_
    | with_reducible refine within_all_one ?_
    | with_reducible refine within_seq ?_ ?_
    | with_reducible refine within_set ?_
    | with_reducible refine within_some? fun _ => ?_
    | with_reducible refine (rolesNow_within _).mono ?_
    | (dsimp only)
    | split
    | rfl)

theorem coldStart_within  : coldStart.Within 0xbffff4000000000000000000001800000000000000000000000000000000000000000000000000000000000000000000000000000000000000000000000010000000000000000000000000000000 := by
  unfold coldStart
  repeat' (first
    | with_reducible exact within_skip
    | with_reducible refine within_read fun _ => ?_
    | with_reducible refine within_all_cons ?_ ?_
    | with_reducible refine within_all_one ?_
    | with_reducible refine within_seq ?_ ?_
    | with_reducible refine within_lhl ?_
    | with_reducible refine (resetAll_within _).mono ?_
    | with_reducible refine (coreLost_within).mono ?_
    | with_reducible refine (bkwLost_within).mono ?_
    | with_reducible refine (loadConfig_within).mono ?_
    | (dsimp only)
    | split
    | rfl)

theorem logAtReset_within  : logAtReset.Within 0x100000000000000000000000000000000000000000000000001f000000000000000000000000000000000000000000000000000000000000000000000000000000000000000000000000000000 := by
  unfold logAtReset
  repeat' (first
    | with_reducible exact within_skip
    | with_reducible refine within_read fun _ => ?_
    | with_reducible refine within_all_cons ?_ ?_
    | with_reducible refine within_all_one ?_
    | with_reducible refine within_seq ?_ ?_
    | with_reducible refine within_ite ?_ ?_
    | with_reducible refine within_set ?_
    | with_reducible refine within_lhl ?_
    | (dsimp only)
    | split
    | rfl)

theorem insertion_within  : insertion.Within 0x400000000000000000000000000000800000000100008000000000000000000000000000000000000000000000000000000000000000000000000000000000000000000000000000000000000000 := by
  unfold insertion
  repeat' (first
    | with_reducible exact within_skip
    | with_reducible refine within_read fun _ => ?_
    | with_reducible refine within_all_cons ?_ ?_
    | with_reducible refine within_all_one ?_
    | with_reducible refine within_seq ?_ ?_
    | with_reducible refine within_ite ?_ ?_
    | with_reducible refine within_set ?_
    | with_reducible refine within_csw ?_
    | (dsimp only)
    | split
    | rfl)

theorem pgRelease_within  : pgRelease.Within 0x4000000000000000000000000000000040000010000000000000000000000000000000000000000000000000000000000000000000000000000000000000000000000000000000000000000 := by
  unfold pgRelease
  repeat' (first
    | with_reducible exact within_skip
    | with_reducible refine within_read fun _ => ?_
    | with_reducible refine within_all_cons ?_ ?_
    | with_reducible refine within_all_one ?_
    | with_reducible refine within_seq ?_ ?_
    | with_reducible refine within_when ?_
    | with_reducible refine within_set ?_
    | with_reducible refine within_emit ?_
    | (dsimp only)
    | split
    | rfl)

theorem fetOff_within  : fetOff.Within 0xffeff4000000000000000000000000000000040000010000000000000000000000000000000000000000000000000000000000000000000000000000000000000000000000000000000000000000 := by
  unfold fetOff
  repeat' (first
    | with_reducible exact within_skip
    | with_reducible refine within_read fun _ => ?_
    | with_reducible refine within_all_cons ?_ ?_
    | with_reducible refine within_all_one ?_
    | with_reducible refine within_seq ?_ ?_
    | with_reducible refine within_emit ?_
    | with_reducible refine within_csw ?_
    | with_reducible refine within_each fun _ => ?_
    | with_reducible refine (pgRelease_within).mono ?_
    | with_reducible refine (goOff_within).mono ?_
    | (dsimp only)
    | split
    | rfl)

theorem powerOnReset_within  : powerOnReset.Within 0xfffffc00000000000000000000180080000006810301800000001f000000000000000000000000000000000000000000000000000000000000000000000010000000000000000000000000000000 := by
  unfold powerOnReset
  repeat' (first
    | with_reducible exact within_skip
    | with_reducible refine within_read fun _ => ?_
    | with_reducible refine within_all_cons ?_ ?_
    | with_reducible refine within_all_one ?_
    | with_reducible refine within_seq ?_ ?_
    | with_reducible refine within_when ?_
    | with_reducible refine within_set ?_
    | with_reducible refine within_keys ?_
    | with_reducible refine within_fw ?_
    | with_reducible refine within_csw ?_
    | with_reducible refine within_free ?_ fun _ => ?_
    | with_reducible refine within_some? fun _ => ?_
    | with_reducible refine (fetOff_within).mono ?_
    | with_reducible refine (logAtReset_within).mono ?_
    | with_reducible refine (resetAll_within _).mono ?_
    | with_reducible refine (coreLost_within).mono ?_
    | with_reducible refine (bkwLost_within).mono ?_
    | with_reducible refine (loadConfig_within).mono ?_
    | with_reducible refine (insertion_within).mono ?_
    | (dsimp only)
    | split
    | rfl)

theorem reefPowerOnReset_within  : reefPowerOnReset.Within 0xfffffc00000000000000000000180080000006810301800000001f000000000000000000000000000000000000000000000000000000000000000000000010000000000000000000000000000000 := by
  unfold reefPowerOnReset
  repeat' (first
    | with_reducible exact within_skip
    | with_reducible refine within_read fun _ => ?_
    | with_reducible refine within_all_cons ?_ ?_
    | with_reducible refine within_all_one ?_
    | with_reducible refine within_seq ?_ ?_
    | with_reducible refine (powerOnReset_within).mono ?_
    | (dsimp only)
    | split
    | rfl)

theorem presenceDetect_within  : presenceDetect.Within 0x400000000000000000000000000000800000000100008000000000000000000000000000000000000000000000000000000000000000000000000000000000000000000000000000000000000000 := by
  unfold presenceDetect
  repeat' (first
    | with_reducible exact within_skip
    | with_reducible refine within_read fun _ => ?_
    | with_reducible refine within_all_cons ?_ ?_
    | with_reducible refine within_all_one ?_
    | with_reducible refine within_seq ?_ ?_
    | with_reducible refine within_when ?_
    | with_reducible refine within_csw ?_
    | with_reducible refine (insertion_within).mono ?_
    | (dsimp only)
    | split
    | rfl)

theorem presenceLoss_within  : presenceLoss.Within 0xffeff4000000000000000000000000000000040100018000000010000000000000000000000000000000000000000000000000000000000000000000000000000000000000000000000000000000 := by
  unfold presenceLoss
  repeat' (first
    | with_reducible exact within_skip
    | with_reducible refine within_read fun _ => ?_
    | with_reducible refine within_all_cons ?_ ?_
    | with_reducible refine within_all_one ?_
    | with_reducible refine within_seq ?_ ?_
    | with_reducible refine within_when ?_
    | with_reducible refine within_set ?_
    | with_reducible refine within_csw ?_
    | with_reducible refine (fetOff_within).mono ?_
    | with_reducible refine (bkwLost_within).mono ?_
    | (dsimp only)
    | split
    | rfl)

theorem softStart_within  : softStart.Within 0xbffff4000000000000000000001800800000000000008000000000000000000000000000000000000000000000000000000000000000000000000000000010000000000000000000000000000000 := by
  unfold softStart
  repeat' (first
    | with_reducible exact within_skip
    | with_reducible refine within_read fun _ => ?_
    | with_reducible refine within_all_cons ?_ ?_
    | with_reducible refine within_all_one ?_
    | with_reducible refine within_seq ?_ ?_
    | with_reducible refine within_set ?_
    | with_reducible refine within_emit ?_
    | with_reducible refine (coldStart_within).mono ?_
    | (dsimp only)
    | split
    | rfl)

theorem insertionDelayEnd_within  : insertionDelayEnd.Within 0xbffff4000000000000000000001800800000000000008000000000000000000000000000000000000000000000000000000000000000000000000000000010000000000000000000000000000000 := by
  unfold insertionDelayEnd
  repeat' (first
    | with_reducible exact within_skip
    | with_reducible refine within_read fun _ => ?_
    | with_reducible refine within_all_cons ?_ ?_
    | with_reducible refine within_all_one ?_
    | with_reducible refine within_seq ?_ ?_
    | with_reducible refine within_ite ?_ ?_
    | with_reducible refine within_when ?_
    | with_reducible refine within_set ?_
    | with_reducible refine (softStart_within).mono ?_
    | (dsimp only)
    | split
    | rfl)

theorem softStartDone_within  : softStartDone.Within 0x400004000000000000000000000000000000000000008000000000000000000000000000000000000000000000000000000000000000000000000000000000000000000000000000000000000000 := by
  unfold softStartDone
  repeat' (first
    | with_reducible exact within_skip
    | with_reducible refine within_read fun _ => ?_
    | with_reducible refine within_all_cons ?_ ?_
    | with_reducible refine within_all_one ?_
    | with_reducible refine within_seq ?_ ?_
    | with_reducible refine within_when ?_
    | with_reducible refine within_set ?_
    | with_reducible refine within_emit ?_
    | with_reducible refine within_csw ?_
    | (dsimp only)
    | split
    | rfl)

theorem setProfile_within (p : Nat) : (setProfile p).Within 0x200000000000000000000000000000000000002000000000000000000000000000240000000000024000000000000000000000000000000000000000000000000000000000000000000000000000 := by
  unfold setProfile
  repeat' (first
    | with_reducible exact within_skip
    | with_reducible refine within_read fun _ => ?_
    | with_reducible refine within_all_cons ?_ ?_
    | with_reducible refine within_all_one ?_
    | with_reducible refine within_seq ?_ ?_
    | with_reducible refine within_when ?_
    | with_reducible refine within_set ?_
    | with_reducible refine (liveAll_within).mono ?_
    | with_reducible refine (paceRetarget_within).mono ?_
    | (dsimp only)
    | split
    | rfl)

theorem profileFall_within  : profileFall.Within 0x200000000000000000000000000000000000002000000000000000000000000000240000000000024000000000000000000000000000000000000000000000000000000000000000000000000000 := by
  unfold profileFall
  repeat' (first
    | with_reducible exact within_skip
    | with_reducible refine within_read fun _ => ?_
    | with_reducible refine within_all_cons ?_ ?_
    | with_reducible refine within_all_one ?_
    | with_reducible refine within_seq ?_ ?_
    | with_reducible refine within_when ?_
    | with_reducible refine (setProfile_within _).mono ?_
    | (dsimp only)
    | split
    | rfl)

theorem profileRise_within  : profileRise.Within 0x200000000000000000000000000000000000002000000000000000000000000000240000000000024000000000000000000000000000000000000000000000000000000000000000000000000000 := by
  unfold profileRise
  repeat' (first
    | with_reducible exact within_skip
    | with_reducible refine within_read fun _ => ?_
    | with_reducible refine within_all_cons ?_ ?_
    | with_reducible refine within_all_one ?_
    | with_reducible refine within_seq ?_ ?_
    | with_reducible refine within_when ?_
    | with_reducible refine (setProfile_within _).mono ?_
    | (dsimp only)
    | split
    | rfl)

theorem inputMeasure_within (vin : Nat) (iin : Nat) (held : Bool) : (inputMeasure vin iin held).Within 0x200000000000000000000000000000000000002000300000000000000000000000240000000000024000000000000000000000000000000000000000000000000000000000000000000000000000 := by
  unfold inputMeasure
  repeat' (first
    | with_reducible exact within_skip
    | with_reducible refine within_read fun _ => ?_
    | with_reducible refine within_all_cons ?_ ?_
    | with_reducible refine within_all_one ?_
    | with_reducible refine within_seq ?_ ?_
    | with_reducible refine within_when ?_
    | with_reducible refine within_set ?_
    | with_reducible refine (profileFall_within).mono ?_
    | with_reducible refine (profileRise_within).mono ?_
    | (dsimp only)
    | split
    | rfl)

theorem grantWrite_within (w : Nat) : (grantWrite w).Within 0x2000000000000000000000000000000000000030000c0000000000000000000000240000000000024000000000000000000000000000000000000000000000000000000000000000000000000000 := by
  unfold grantWrite
  repeat' (first
    | with_reducible exact within_skip
    | with_reducible refine within_read fun _ => ?_
    | with_reducible refine within_all_cons ?_ ?_
    | with_reducible refine within_all_one ?_
    | with_reducible refine within_seq ?_ ?_
    | with_reducible refine within_ite ?_ ?_
    | with_reducible refine within_set ?_
    | with_reducible refine (profileFall_within).mono ?_
    | (dsimp only)
    | split
    | rfl)

theorem brakeAssert_within  : brakeAssert.Within 0x601c44000000000000000000000000000000002000020000000013e0ea04c00800240000000000024000000000000000000000000000000000000100000000000000000000000000000000000000 := by
  unfold brakeAssert
  repeat' (first
    | with_reducible exact within_skip
    | with_reducible refine within_read fun _ => ?_
    | with_reducible refine within_all_cons ?_ ?_
    | with_reducible refine within_all_one ?_
    | with_reducible refine within_seq ?_ ?_
    | with_reducible refine within_when ?_
    | with_reducible refine within_set ?_
    | with_reducible refine within_csw ?_
    | with_reducible refine (raise_within _ _ _).mono ?_
    | with_reducible refine (profileFall_within).mono ?_
    | (dsimp only)
    | split
    | rfl)

theorem brakeRelease_within  : brakeRelease.Within 0x20000000000000000000000000000000000000000000000000000000000000000000000000000000000000000000000000000000000000000 := by
  unfold brakeRelease
  repeat' (first
    | with_reducible exact within_skip
    | with_reducible refine within_read fun _ => ?_
    | with_reducible refine within_all_cons ?_ ?_
    | with_reducible refine within_all_one ?_
    | with_reducible refine within_seq ?_ ?_
    | with_reducible refine within_set ?_
    | (dsimp only)
    | split
    | rfl)

theorem railOn_within (r : Nat) : (railOn r).Within 0x4000000000000000000000000000000000000000000000000000000000000000000000000000000000000000000000000000000000000000000000000000000000000000000000000000000 := by
  unfold railOn
  repeat' (first
    | with_reducible exact within_skip
    | with_reducible refine within_read fun _ => ?_
    | with_reducible refine within_all_cons ?_ ?_
    | with_reducible refine within_all_one ?_
    | with_reducible refine within_seq ?_ ?_
    | with_reducible refine within_when ?_
    | with_reducible refine within_emit ?_
    | (dsimp only)
    | split
    | rfl)

theorem pgOutAssert_within (faultTimer : Bool) : (pgOutAssert faultTimer).Within 0x600004000000000000000000000000000000002400010000000000000000000000240000000000024000000000000000000000000000000000000000000000000000000000000000000000000000 := by
  unfold pgOutAssert
  repeat' (first
    | with_reducible exact within_skip
    | with_reducible refine within_read fun _ => ?_
    | with_reducible refine within_all_cons ?_ ?_
    | with_reducible refine within_all_one ?_
    | with_reducible refine within_seq ?_ ?_
    | with_reducible refine within_ite ?_ ?_
    | with_reducible refine within_when ?_
    | with_reducible refine within_set ?_
    | with_reducible refine within_emit ?_
    | with_reducible refine within_inc ?_
    | with_reducible refine within_csw ?_
    | with_reducible refine (railOn_within _).mono ?_
    | with_reducible refine (profileFall_within).mono ?_
    | (dsimp only)
    | split
    | rfl)

theorem domainsUp_within  : domainsUp.Within 0x4400000000000000000000000000000000000000000000000000000000000000000000000800000000000000000000000000600000000000000000001800000000000000000000000000000000 := by
  unfold domainsUp
  repeat' (first
    | with_reducible exact within_skip
    | with_reducible refine within_read fun _ => ?_
    | with_reducible refine within_all_cons ?_ ?_
    | with_reducible refine within_all_one ?_
    | with_reducible refine within_seq ?_ ?_
    | with_reducible refine within_set ?_
    | with_reducible refine within_host ?_
    | with_reducible refine within_bql ?_
    | with_reducible refine within_each fun _ => ?_
    | with_reducible refine (commonUpdate_within _).mono ?_
    | with_reducible refine (portSettle_within _).mono ?_
    | (dsimp only)
    | split
    | rfl)

theorem railPowerGood_within (r : Nat) : (railPowerGood r).Within 0x404404000000000000000000000000800000000000000000000000000000000000000000000800000000000000000000000000600000000000000000001800000000000000000000000000000000 := by
  unfold railPowerGood
  repeat' (first
    | with_reducible exact within_skip
    | with_reducible refine within_read fun _ => ?_
    | with_reducible refine within_all_cons ?_ ?_
    | with_reducible refine within_all_one ?_
    | with_reducible refine within_seq ?_ ?_
    | with_reducible refine within_when ?_
    | with_reducible refine within_set ?_
    | with_reducible refine within_csw ?_
    | with_reducible refine (railOn_within _).mono ?_
    | with_reducible refine (domainsUp_within).mono ?_
    | (dsimp only)
    | split
    | rfl)

theorem fetModelUpdate_within (direct : Int) (p : Nat) : (fetModelUpdate direct p).Within 0xfffffc000000000000000000001800800000000000c08000000000000000000000000000000000000000000000000000000000000000000000000000000010000000000000000000000000000000 := by
  unfold fetModelUpdate
  repeat' (first
    | with_reducible exact within_skip
    | with_reducible refine within_read fun _ => ?_
    | with_reducible refine within_all_cons ?_ ?_
    | with_reducible refine within_all_one ?_
    | with_reducible refine within_seq ?_ ?_
    | with_reducible refine within_ite ?_ ?_
    | with_reducible refine within_when ?_
    | with_reducible refine within_set ?_
    | with_reducible refine within_csw ?_
    | with_reducible refine within_free ?_ fun _ => ?_
    | with_reducible refine (sensorEvent_within _ _ _).mono ?_
    | with_reducible refine (softStart_within).mono ?_
    | (dsimp only)
    | split
    | rfl)

theorem ledgerWrite_within  : ledgerWrite.Within 0x400000000000000000000000000000000000000000000000000000000000000000000000000000000000000000000000000000000000000000000000000000000000000000000000000000000000 := by
  unfold ledgerWrite
  repeat' (first
    | with_reducible exact within_skip
    | with_reducible refine within_read fun _ => ?_
    | with_reducible refine within_all_cons ?_ ?_
    | with_reducible refine within_all_one ?_
    | with_reducible refine within_seq ?_ ?_
    | with_reducible refine within_csw ?_
    | (dsimp only)
    | split
    | rfl)

theorem trip_within (kind : Nat) (onMs : Nat) : (trip kind onMs).Within 0xffeff400000000000000000000000000000004033c018000000000000000000000000000000000000000000000000000000000000000000000000000000000000000000000000000000000000000 := by
  unfold trip
  repeat' (first
    | with_reducible exact within_skip
    | with_reducible refine within_read fun _ => ?_
    | with_reducible refine within_all_cons ?_ ?_
    | with_reducible refine within_all_one ?_
    | with_reducible refine within_seq ?_ ?_
    | with_reducible refine within_ite ?_ ?_
    | with_reducible refine within_when ?_
    | with_reducible refine within_set ?_
    | with_reducible refine within_csw ?_
    | with_reducible refine (ledgerWrite_within).mono ?_
    | with_reducible refine (fetOff_within).mono ?_
    | (dsimp only)
    | split
    | rfl)

theorem offTimeEnd_within  : offTimeEnd.Within 0x400000000000000000000000000000000000000110008000000000000000000000000000000000000000000000000000000000000000000000000000000000000000000000000000000000000000 := by
  unfold offTimeEnd
  repeat' (first
    | with_reducible exact within_skip
    | with_reducible refine within_read fun _ => ?_
    | with_reducible refine within_all_cons ?_ ?_
    | with_reducible refine within_all_one ?_
    | with_reducible refine within_seq ?_ ?_
    | with_reducible refine within_when ?_
    | with_reducible refine within_set ?_
    | with_reducible refine within_csw ?_
    | with_reducible refine (ledgerWrite_within).mono ?_
    | (dsimp only)
    | split
    | rfl)

theorem ledgerClear_within  : ledgerClear.Within 0x40000000000000000000000000000000000000000c000000000000000000000000000000000000000000000000000000000000000000000000000000000000000000000000000000000000000000 := by
  unfold ledgerClear
  repeat' (first
    | with_reducible exact within_skip
    | with_reducible refine within_read fun _ => ?_
    | with_reducible refine within_all_cons ?_ ?_
    | with_reducible refine within_all_one ?_
    | with_reducible refine within_seq ?_ ?_
    | with_reducible refine within_set ?_
    | with_reducible refine (ledgerWrite_within).mono ?_
    | (dsimp only)
    | split
    | rfl)

theorem healthyMark_within  : healthyMark.Within 0x40000000000000000000000000000000000004000c000000000000000000000000000000000000000000000000000000000000000000000000000000000000000000000000000000000000000000 := by
  unfold healthyMark
  repeat' (first
    | with_reducible exact within_skip
    | with_reducible refine within_read fun _ => ?_
    | with_reducible refine within_all_cons ?_ ?_
    | with_reducible refine within_all_one ?_
    | with_reducible refine within_seq ?_ ?_
    | with_reducible refine within_when ?_
    | with_reducible refine within_set ?_
    | with_reducible refine (ledgerClear_within).mono ?_
    | (dsimp only)
    | split
    | rfl)

theorem cswLedgerClear_within  : cswLedgerClear.Within 0x40000000000000000000000000000000000000000c088000000000000000000000000000000000000000000000000000000000000000000000000000000000000000000000000000000000000000 := by
  unfold cswLedgerClear
  repeat' (first
    | with_reducible exact within_skip
    | with_reducible refine within_read fun _ => ?_
    | with_reducible refine within_all_cons ?_ ?_
    | with_reducible refine within_all_one ?_
    | with_reducible refine within_seq ?_ ?_
    | with_reducible refine within_ite ?_ ?_
    | with_reducible refine within_when ?_
    | with_reducible refine within_set ?_
    | with_reducible refine (ledgerClear_within).mono ?_
    | (dsimp only)
    | split
    | rfl)

theorem cswPowerCycle_within  : cswPowerCycle.Within 0xffeff4000000000000000000000000000000040000098000000000000000000000000000000000000000000000000000000000000000000000000000000000000000000000000000000000000000 := by
  unfold cswPowerCycle
  repeat' (first
    | with_reducible exact within_skip
    | with_reducible refine within_read fun _ => ?_
    | with_reducible refine within_all_cons ?_ ?_
    | with_reducible refine within_all_one ?_
    | with_reducible refine within_seq ?_ ?_
    | with_reducible refine within_ite ?_ ?_
    | with_reducible refine within_when ?_
    | with_reducible refine within_set ?_
    | with_reducible refine within_csw ?_
    | with_reducible refine (fetOff_within).mono ?_
    | (dsimp only)
    | split
    | rfl)

theorem powerCycleRestart_within  : powerCycleRestart.Within 0xfffffc00000000000000000000180080000006810301800000001f000000000000000000000000000000000000000000000000000000000000000000000010000000000000000000000000000000 := by
  unfold powerCycleRestart
  repeat' (first
    | with_reducible exact within_skip
    | with_reducible refine within_read fun _ => ?_
    | with_reducible refine within_all_cons ?_ ?_
    | with_reducible refine within_all_one ?_
    | with_reducible refine within_seq ?_ ?_
    | with_reducible refine within_when ?_
    | with_reducible refine (powerOnReset_within).mono ?_
    | (dsimp only)
    | split
    | rfl)

theorem energyCheckpoint_within (controller : Nat) (reef : Nat) : (energyCheckpoint controller reef).Within 0x401c44000000000000000000000000000000018000000000000013e0ea04c00800000000000000000000000000000000000000000000000000000100000000000000000000000000000000000000 := by
  unfold energyCheckpoint
  repeat' (first
    | with_reducible exact within_skip
    | with_reducible refine within_read fun _ => ?_
    | with_reducible refine within_all_cons ?_ ?_
    | with_reducible refine within_all_one ?_
    | with_reducible refine within_seq ?_ ?_
    | with_reducible refine within_when ?_
    | with_reducible refine within_set ?_
    | with_reducible refine within_inc ?_
    | with_reducible refine within_csw ?_
    | with_reducible refine (raise_within _ _ _).mono ?_
    | (dsimp only)
    | split
    | rfl)

end Sys2Proof.Machine
end

