-- ==== Sys2Proof/Laws/WithinChannels.lean ====
section
/-!
SUPPORT. What each program of Machine/Channels.lean can change: one lemma each, over the places of Laws/Acts.lean.
-/

namespace Sys2Proof.Machine

set_option linter.unusedTactic false
set_option linter.unreachableTactic false

theorem drmRefused_within  : drmRefused.Within 0x8000000000000000000000000000000000000000000000000000000000000000000000000000000 := by
  unfold drmRefused
  repeat' (first
    | with_reducible exact within_skip
    | with_reducible refine within_read fun _ => ?_
    | with_reducible refine within_all_cons ?_ ?_
    | with_reducible refine within_all_one ?_
    | with_reducible refine within_seq ?_ ?_
    | with_reducible refine within_set ?_
    | (dsimp only)
    | split
    | rfl)

theorem drmDone_within  : drmDone.Within 0x8000000000000000000000000000000000000000000000000000000000000000000000000000000 := by
  unfold drmDone
  repeat' (first
    | with_reducible exact within_skip
    | with_reducible refine within_read fun _ => ?_
    | with_reducible refine within_all_cons ?_ ?_
    | with_reducible refine within_all_one ?_
    | with_reducible refine within_seq ?_ ?_
    | with_reducible refine within_set ?_
    | (dsimp only)
    | split
    | rfl)

theorem closeDimm_within (d : Nat) : (closeDimm d).Within 0x12000000000000 := by
  unfold closeDimm
  repeat' (first
    | with_reducible exact within_skip
    | with_reducible refine within_read fun _ => ?_
    | with_reducible refine within_all_cons ?_ ?_
    | with_reducible refine within_all_one ?_
    | with_reducible refine within_seq ?_ ?_
    | with_reducible refine within_when ?_
    | with_reducible refine within_set ?_
    | with_reducible refine within_inc ?_
    | with_reducible refine within_free ?_ fun _ => ?_
    | with_reducible refine within_each fun _ => ?_
    | (dsimp only)
    | split
    | rfl)

theorem evacuate_within (d : Nat) : (evacuate d).Within 0x87d44000000000000000000000000000000000000000000000013e0ea04c0080000201000000000000000000c0000000000000000000000000001000000000000000000000000de1e0000000000 := by
  unfold evacuate
  repeat' (first
    | with_reducible exact within_skip
    | with_reducible refine within_read fun _ => ?_
    | with_reducible refine within_all_cons ?_ ?_
    | with_reducible refine within_all_one ?_
    | with_reducible refine within_seq ?_ ?_
    | with_reducible refine within_set ?_
    | with_reducible refine within_chan ?_
    | with_reducible refine (closeDimm_within _).mono ?_
    | with_reducible refine (structLeave_within).mono ?_
    | with_reducible refine (evictHeld_within _).mono ?_
    | with_reducible refine (leftUpdate_within).mono ?_
    | with_reducible refine (tallyAll_within).mono ?_
    | (dsimp only)
    | split
    | rfl)

theorem dimmRetire_within (d : Nat) : (dimmRetire d).Within 0x87d44000000000000000000000000000000000000000000000013e0ea04c0080000201000000800000000000c0000000000000000000000000001000000000000000000000000de1e0000000000 := by
  unfold dimmRetire
  repeat' (first
    | with_reducible exact within_skip
    | with_reducible refine within_read fun _ => ?_
    | with_reducible refine within_all_cons ?_ ?_
    | with_reducible refine within_all_one ?_
    | with_reducible refine within_seq ?_ ?_
    | with_reducible refine within_ite ?_ ?_
    | with_reducible refine within_when ?_
    | with_reducible refine within_set ?_
    | with_reducible refine (drmDone_within).mono ?_
    | with_reducible refine (evacuate_within _).mono ?_
    | with_reducible refine (drmRefused_within).mono ?_
    | (dsimp only)
    | split
    | rfl)

theorem evacuationComplete_within (d : Nat) : (evacuationComplete d).Within 0x181d44000000000000000000000000000000000000000000000013e0ea04c008000020100004004bc60000000c0000000000000000000000000001000000000000000000000000de1e0000000000 := by
  unfold evacuationComplete
  repeat' (first
    | with_reducible exact within_skip
    | with_reducible refine within_read fun _ => ?_
    | with_reducible refine within_all_cons ?_ ?_
    | with_reducible refine within_all_one ?_
    | with_reducible refine within_seq ?_ ?_
    | with_reducible refine within_when ?_
    | with_reducible refine within_set ?_
    | with_reducible refine within_emit ?_
    | with_reducible refine within_chan ?_
    | with_reducible refine (structLeave_within).mono ?_
    | with_reducible refine (leaveService_within _).mono ?_
    | with_reducible refine (tallyAll_within).mono ?_
    | (dsimp only)
    | split
    | rfl)

theorem channelPowerDown_within (c : Nat) : (channelPowerDown c).Within 0x101004000000000000000000000000000000000000000000000013000000000000000000001c084bc600000000000000000000000000000000000000000000000000000000000000000000000000 := by
  unfold channelPowerDown
  repeat' (first
    | with_reducible exact within_skip
    | with_reducible refine within_read fun _ => ?_
    | with_reducible refine within_all_cons ?_ ?_
    | with_reducible refine within_all_one ?_
    | with_reducible refine within_seq ?_ ?_
    | with_reducible refine within_ite ?_ ?_
    | with_reducible refine within_set ?_
    | with_reducible refine within_emit ?_
    | with_reducible refine within_each fun _ => ?_
    | with_reducible refine (drmDone_within).mono ?_
    | with_reducible refine (leaveService_within _).mono ?_
    | with_reducible refine (drmRefused_within).mono ?_
    | (dsimp only)
    | split
    | rfl)

theorem dimmTempPoll_within (d : Nat) (t : Int) (cool : Bool) : (dimmTempPoll d t cool).Within 0x81c44000000000000000000000000000000000000000000000013e0ea04c00800000400002000024000000000000000000000000000000000000100000000000000000000000000000000000000 := by
  unfold dimmTempPoll
  repeat' (first
    | with_reducible exact within_skip
    | with_reducible refine within_read fun _ => ?_
    | with_reducible refine within_all_cons ?_ ?_
    | with_reducible refine within_all_one ?_
    | with_reducible refine within_seq ?_ ?_
    | with_reducible refine within_ite ?_ ?_
    | with_reducible refine within_when ?_
    | with_reducible refine within_set ?_
    | with_reducible refine within_chan ?_
    | with_reducible refine (sensorEvent_within _ _ _).mono ?_
    | with_reducible refine (liveUpdate_within _).mono ?_
    | with_reducible refine (raise_within _ _ _).mono ?_
    | (dsimp only)
    | split
    | rfl)

theorem setLane_within (i : Nat) (w : Nat) : (setLane i w).Within 0x80000000000000000000000000000000000000000000000000000000000000000000000000000000000000000000000000000000000000000000000000000000000000000000000000000000000 := by
  unfold setLane
  repeat' (first
    | with_reducible exact within_skip
    | with_reducible refine within_read fun _ => ?_
    | with_reducible refine within_all_cons ?_ ?_
    | with_reducible refine within_all_one ?_
    | with_reducible refine within_seq ?_ ?_
    | with_reducible refine within_chan ?_
    | (dsimp only)
    | split
    | rfl)

theorem takeShadow_within (c : Nat) (k : Nat) : (takeShadow c k).Within 0x80000000000000000000000000000000000000000000000000000000000000000000000010000000000000000000000000000000000000000000000000000000000000000000000000000000000 := by
  unfold takeShadow
  repeat' (first
    | with_reducible exact within_skip
    | with_reducible refine within_read fun _ => ?_
    | with_reducible refine within_all_cons ?_ ?_
    | with_reducible refine within_all_one ?_
    | with_reducible refine within_seq ?_ ?_
    | with_reducible refine within_ite ?_ ?_
    | with_reducible refine within_when ?_
    | with_reducible refine within_set ?_
    | with_reducible refine within_chan ?_
    | with_reducible refine within_each fun _ => ?_
    | with_reducible refine (setLane_within _ _).mono ?_
    | (dsimp only)
    | split
    | rfl)

theorem refresh_within (c : Nat) (rank : Nat) : (refresh c rank).Within 0x80004000000000000000000000000000000000000000002800000000000000000000000010000000000000000000000000000000000000000000000000000000000000000000000000000000000 := by
  unfold refresh
  repeat' (first
    | with_reducible exact within_skip
    | with_reducible refine within_read fun _ => ?_
    | with_reducible refine within_all_cons ?_ ?_
    | with_reducible refine within_all_one ?_
    | with_reducible refine within_seq ?_ ?_
    | with_reducible refine within_when ?_
    | with_reducible refine within_emit ?_
    | with_reducible refine (event_within _ _ _ _).mono ?_
    | with_reducible refine (takeShadow_within _ _).mono ?_
    | (dsimp only)
    | split
    | rfl)

theorem shadowStart_within (c : Nat) : (shadowStart c).Within 0x80000000000000000000000000000000000000000000000000000000000000000000000010000000000000000000000000000000000000000000000000000000000000000000000000000000000 := by
  unfold shadowStart
  repeat' (first
    | with_reducible exact within_skip
    | with_reducible refine within_read fun _ => ?_
    | with_reducible refine within_all_cons ?_ ?_
    | with_reducible refine within_all_one ?_
    | with_reducible refine within_seq ?_ ?_
    | with_reducible refine within_when ?_
    | with_reducible refine within_set ?_
    | with_reducible refine within_chan ?_
    | (dsimp only)
    | split
    | rfl)

theorem shadowGo_within (c : Nat) : (shadowGo c).Within 0x80000000000000000000000000000000000000000000000000000000000000000000000010008000000000000000000000000000000000000000000000000000000000000000000000000000000 := by
  unfold shadowGo
  repeat' (first
    | with_reducible exact within_skip
    | with_reducible refine within_read fun _ => ?_
    | with_reducible refine within_all_cons ?_ ?_
    | with_reducible refine within_all_one ?_
    | with_reducible refine within_seq ?_ ?_
    | with_reducible refine within_ite ?_ ?_
    | with_reducible refine within_when ?_
    | with_reducible refine (drmRefused_within).mono ?_
    | with_reducible refine (drmDone_within).mono ?_
    | with_reducible refine (shadowStart_within _).mono ?_
    | (dsimp only)
    | split
    | rfl)

theorem mpCommand_within (c : Nat) (cmd : Nat) (byPilot : Bool) : (mpCommand c cmd byPilot).Within 0x10000c00000000000000000000000000000000000000000280000000000000000000000c000008000800000000000000000000000000000000000000000000000000000000000000000000000000 := by
  unfold mpCommand
  repeat' (first
    | with_reducible exact within_skip
    | with_reducible refine within_read fun _ => ?_
    | with_reducible refine within_all_cons ?_ ?_
    | with_reducible refine within_all_one ?_
    | with_reducible refine within_seq ?_ ?_
    | with_reducible refine within_ite ?_ ?_
    | with_reducible refine within_when ?_
    | with_reducible refine within_set ?_
    | with_reducible refine within_emit ?_
    | with_reducible refine within_free ?_ fun _ => ?_
    | with_reducible refine (drmDone_within).mono ?_
    | with_reducible refine (charge_within _ _ _ _).mono ?_
    | with_reducible refine (drmRefused_within).mono ?_
    | (dsimp only)
    | split
    | rfl)

theorem putShadow_within (c : Nat) (k : Nat) (ws : List Nat) : (putShadow c k ws).Within 0x80000000000000000000000000000000000000000000000000000000000000000000000000000000000000000000000000000000000000000000000000000000000000000000000000000000000 := by
  unfold putShadow
  repeat' (first
    | with_reducible exact within_skip
    | with_reducible refine within_read fun _ => ?_
    | with_reducible refine within_all_cons ?_ ?_
    | with_reducible refine within_all_one ?_
    | with_reducible refine within_seq ?_ ?_
    | with_reducible refine within_chan ?_
    | (dsimp only)
    | split
    | rfl)

theorem freeWords_within {K : Nat} (n : Nat) (f : List Nat → Act) (h0 : ∀ y, (f y).Within K) (hK : inside 0x8000000000000000000000000000000000000000000000000000000000000000000000000000000000000000000000000000000000000000000000000000000000000000000000000000000 K = true) :
    (freeWords n f).Within K := by
  induction n generalizing f with
  | zero => exact h0 _
  | succ n ih => exact within_free (inside_bit hK rfl) fun _ => ih _ fun _ => h0 _

theorem recallWrite_within (c : Nat) (k : Nat) : (recallWrite c k).Within 0x80000000000000000000000000000000000000000000000000000000000000000000000000000000000000000000000000000000000000000000000000000000000000000000000000000000000 := by
  unfold recallWrite
  repeat' (first
    | with_reducible exact within_skip
    | with_reducible refine within_read fun _ => ?_
    | with_reducible refine within_all_cons ?_ ?_
    | with_reducible refine within_all_one ?_
    | with_reducible refine within_seq ?_ ?_
    | with_reducible refine within_ite ?_ ?_
    | with_reducible refine within_when ?_
    | with_reducible refine within_chan ?_
    | (dsimp only)
    | split
    | rfl)

theorem driftUpdate_within (c : Nat) (k : Nat) (wr : List Nat) : (driftUpdate c k wr).Within 0x181c4c000000000000000000000000000000000000000002800013e0ea04c00800000000010000000800000000000000000000000000000000000100000000000000000000000000000000000000 := by
  unfold driftUpdate
  repeat' (first
    | with_reducible exact within_skip
    | with_reducible refine within_read fun _ => ?_
    | with_reducible refine within_all_cons ?_ ?_
    | with_reducible refine within_all_one ?_
    | with_reducible refine within_seq ?_ ?_
    | with_reducible refine within_ite ?_ ?_
    | with_reducible refine within_when ?_
    | with_reducible refine within_set ?_
    | with_reducible refine within_emit ?_
    | with_reducible refine (charge_within _ _ _ _).mono ?_
    | with_reducible refine freeWords_within _ _  (fun _ => ?_) ?_
    | with_reducible refine (putShadow_within _ _ _).mono ?_
    | with_reducible refine (raise_within _ _ _).mono ?_
    | with_reducible refine (shadowStart_within _).mono ?_
    | with_reducible refine (recallWrite_within _ _).mono ?_
    | (dsimp only)
    | split
    | rfl)

theorem burstLost_within (g : Nat) : (burstLost g).Within 0x1c47000000000000000000000000000000000000000002800013e0ea04c00800000000000000000000000000000000000000000000000000000100000000000000000000000000000000000000 := by
  unfold burstLost
  repeat' (first
    | with_reducible exact within_skip
    | with_reducible refine within_read fun _ => ?_
    | with_reducible refine within_all_cons ?_ ?_
    | with_reducible refine within_all_one ?_
    | with_reducible refine within_seq ?_ ?_
    | with_reducible refine within_when ?_
    | with_reducible refine within_rcd ?_
    | with_reducible refine within_each fun _ => ?_
    | with_reducible refine within_some? fun _ => ?_
    | with_reducible refine (poisonLines_within _ _ _ _ _).mono ?_
    | with_reducible refine (recordError_within _ _ _).mono ?_
    | (dsimp only)
    | split
    | rfl)

theorem quarBlock_within (b : Nat) : (quarBlock b).Within 0x15040000000000000000000000000000000000000000000000130000000000000000000000000000000000000000000000000000000000000001000000000000000000000000d21e0000000000 := by
  unfold quarBlock
  repeat' (first
    | with_reducible exact within_skip
    | with_reducible refine within_read fun _ => ?_
    | with_reducible refine within_all_cons ?_ ?_
    | with_reducible refine within_all_one ?_
    | with_reducible refine within_seq ?_ ?_
    | with_reducible refine within_when ?_
    | with_reducible refine within_grain ?_
    | with_reducible refine (quarEmpty_within _ _).mono ?_
    | with_reducible refine (tallyUpdate_within _).mono ?_
    | (dsimp only)
    | split
    | rfl)

theorem scrubRead_within (c : Nat) (ga : Nat) (e : Ecc) : (scrubRead c ga e).Within 0x189d4f000000000000000000000000000000000000000002840013e0ea04c008000018001c00000008000000000000000000000000000000000001000000000000000000000000d21e0000000000 := by
  unfold scrubRead
  repeat' (first
    | with_reducible exact within_skip
    | with_reducible refine within_read fun _ => ?_
    | with_reducible refine within_all_cons ?_ ?_
    | with_reducible refine within_all_one ?_
    | with_reducible refine within_seq ?_ ?_
    | with_reducible refine within_when ?_
    | with_reducible refine within_emit ?_
    | with_reducible refine within_inc ?_
    | with_reducible refine (charge_within _ _ _ _).mono ?_
    | with_reducible refine (tagOp_within _ _ _ _ _ _).mono ?_
    | with_reducible refine (eccCount_within _ _).mono ?_
    | with_reducible refine (burstLost_within _).mono ?_
    | with_reducible refine (quarBlock_within _).mono ?_
    | (dsimp only)
    | split
    | rfl)

theorem moveOut_within (pn : Nat) : (moveOut pn).Within 0x109d4f000000000000000000000000000000000000000002840013e0ea04c008000020000000000008000000080000000000000000000000000001000000000000000000000006de1e0000000000 := by
  unfold moveOut
  repeat' (first
    | with_reducible exact within_skip
    | with_reducible refine within_read fun _ => ?_
    | with_reducible refine within_all_cons ?_ ?_
    | with_reducible refine within_all_one ?_
    | with_reducible refine within_seq ?_ ?_
    | with_reducible refine within_ite ?_ ?_
    | with_reducible refine within_when ?_
    | with_reducible refine within_rcd ?_
    | with_reducible refine within_some? fun _ => ?_
    | with_reducible refine (trim_within _).mono ?_
    | with_reducible refine (abandon_within _).mono ?_
    | with_reducible refine (relocateTo_within _ _).mono ?_
    | (dsimp only)
    | split
    | rfl)

theorem emptyRow_within (key : Nat) (bs : List Nat) : (emptyRow key bs).Within 0x18fd4f000000000000000000000000000000000000000002840013e0ea04c008000020000000000008000000080000000000000000000000000001000000000000000000000006de1e0000000000 := by
  unfold emptyRow
  repeat' (first
    | with_reducible exact within_skip
    | with_reducible refine within_read fun _ => ?_
    | with_reducible refine within_all_cons ?_ ?_
    | with_reducible refine within_all_one ?_
    | with_reducible refine within_seq ?_ ?_
    | with_reducible refine within_ite ?_ ?_
    | with_reducible refine within_rcd ?_
    | with_reducible refine within_chan ?_
    | with_reducible refine within_each fun _ => ?_
    | with_reducible refine within_some? fun _ => ?_
    | with_reducible refine (moveOut_within _).mono ?_
    | with_reducible refine (moveMapAt_within _ _ _ _ _).mono ?_
    | with_reducible refine (structLeave_within).mono ?_
    | with_reducible refine (evictHeld_within _).mono ?_
    | with_reducible refine (oldPlotsFree_within).mono ?_
    | (dsimp only)
    | split
    | rfl)

theorem quarRow_within (bs : List Nat) : (quarRow bs).Within 0x15040000000000000000000000000000000000000000000000130000000000000000000000000000000000000000000000000000000000000001000000000000000000000000d21e0000000000 := by
  unfold quarRow
  repeat' (first
    | with_reducible exact within_skip
    | with_reducible refine within_read fun _ => ?_
    | with_reducible refine within_all_cons ?_ ?_
    | with_reducible refine within_all_one ?_
    | with_reducible refine within_seq ?_ ?_
    | with_reducible refine within_each fun _ => ?_
    | with_reducible refine (quarBlock_within _).mono ?_
    | (dsimp only)
    | split
    | rfl)

theorem repaired_within (key : Nat) (bs : List Nat) : (repaired key bs).Within 0x81d44000000000000000000000000000000000000000000000013e0ea04c008000020000000000000000000080000000000000000000000000001000000000000000000000000de1e0000000000 := by
  unfold repaired
  repeat' (first
    | with_reducible exact within_skip
    | with_reducible refine within_read fun _ => ?_
    | with_reducible refine within_all_cons ?_ ?_
    | with_reducible refine within_all_one ?_
    | with_reducible refine within_seq ?_ ?_
    | with_reducible refine within_ite ?_ ?_
    | with_reducible refine within_when ?_
    | with_reducible refine within_grain ?_
    | with_reducible refine within_chan ?_
    | with_reducible refine within_each fun _ => ?_
    | with_reducible refine (unquarantine_within _ _ _).mono ?_
    | (dsimp only)
    | split
    | rfl)

theorem rowRepair_within (c : Nat) (ga : Nat) (ok : Bool) : (rowRepair c ga ok).Within 0x18fd4f000000000000000000000000000000000000000002840013e0ea04c008000020006000000008000000080000000000000000000000000001000000000000000000000006de1e0000000000 := by
  unfold rowRepair
  repeat' (first
    | with_reducible exact within_skip
    | with_reducible refine within_read fun _ => ?_
    | with_reducible refine within_all_cons ?_ ?_
    | with_reducible refine within_all_one ?_
    | with_reducible refine within_seq ?_ ?_
    | with_reducible refine within_ite ?_ ?_
    | with_reducible refine within_when ?_
    | with_reducible refine within_set ?_
    | with_reducible refine within_emit ?_
    | with_reducible refine within_inc ?_
    | with_reducible refine within_chan ?_
    | with_reducible refine (emptyRow_within _ _).mono ?_
    | with_reducible refine (quarRow_within _).mono ?_
    | with_reducible refine (raise_within _ _ _).mono ?_
    | with_reducible refine (repaired_within _ _).mono ?_
    | (dsimp only)
    | split
    | rfl)

end Sys2Proof.Machine
end

