-- ==== Sys2Proof/Laws/WithinDescriptors.lean ====
section
/-!
SUPPORT. What each program of Machine/Descriptors.lean can change: one lemma each, over the places of Laws/Acts.lean.
-/

namespace Sys2Proof.Machine

set_option linter.unusedTactic false
set_option linter.unreachableTactic false

theorem failDesc_within (seq : Nat) (st : Nat) (det : Nat) : (failDesc seq st det).Within 0x10000000000000000000000000000000000000000000000000000000000000000000000000000000000000000000000000000000000000000000000000000000000000000000000000000000000 := by
  unfold failDesc
  repeat' (first
    | with_reducible exact within_skip
    | with_reducible refine within_read fun _ => ?_
    | with_reducible refine within_all_cons ?_ ?_
    | with_reducible refine within_all_one ?_
    | with_reducible refine within_seq ?_ ?_
    | with_reducible refine within_ite ?_ ?_
    | with_reducible refine (setDesc_within _ _).mono ?_
    | (dsimp only)
    | split
    | rfl)

theorem finishDesc_within (seq : Nat) : (finishDesc seq).Within 0x18088000000000000000000000000000000000000000000040000000000000000000000000000000000000000000000000000000000000000000000000000000000000000000000000000000000 := by
  unfold finishDesc
  repeat' (first
    | with_reducible exact within_skip
    | with_reducible refine within_read fun _ => ?_
    | with_reducible refine within_all_cons ?_ ?_
    | with_reducible refine within_all_one ?_
    | with_reducible refine within_seq ?_ ?_
    | with_reducible refine within_some? fun _ => ?_
    | with_reducible refine (setDesc_within _ _).mono ?_
    | with_reducible refine (forgetDesc_within _).mono ?_
    | with_reducible refine (tagOp_within _ _ _ _ _ _).mono ?_
    | (dsimp only)
    | split
    | rfl)

theorem failEnd_within (seq : Nat) (st : Nat) (det : Nat) : (failEnd seq st det).Within 0x18088000000000000000000000000000000000000000000040000000000000000000000000000000000000000000000000000000000000000000000000000000000000000000000000000000000 := by
  unfold failEnd
  repeat' (first
    | with_reducible exact within_skip
    | with_reducible refine within_read fun _ => ?_
    | with_reducible refine within_all_cons ?_ ?_
    | with_reducible refine within_all_one ?_
    | with_reducible refine within_seq ?_ ?_
    | with_reducible refine (failDesc_within _ _ _).mono ?_
    | with_reducible refine (finishDesc_within _).mono ?_
    | (dsimp only)
    | split
    | rfl)

theorem askReads_within (d : Desc) (role : Nat) (ls : List (Piece × Nat)) : (askReads d role ls).Within 0x2fcce000000000000000000000000000000000000001802800013e0ea04c00800000000000000000000080000000000000000000040080000000100800007c5c002000000400000400001000000 := by
  unfold askReads
  repeat' (first
    | with_reducible exact within_skip
    | with_reducible refine within_read fun _ => ?_
    | with_reducible refine within_all_cons ?_ ?_
    | with_reducible refine within_all_one ?_
    | with_reducible refine within_seq ?_ ?_
    | with_reducible refine within_each fun _ => ?_
    | with_reducible refine (ask_within _ _ _ _ _).mono ?_
    | (dsimp only)
    | split
    | rfl)

theorem writePiece_within (d : Desc) (k : Nat) (line : Nat) (p : Piece) (bs : List (Option Byte)) : (writePiece d k line p bs).Within 0x2fcce000000000000000000000000000000000000001802800013e0ea04c00800000000000000000000080000000000000000000040080000000100800007c5c002000000600000400001000000 := by
  unfold writePiece
  repeat' (first
    | with_reducible exact within_skip
    | with_reducible refine within_read fun _ => ?_
    | with_reducible refine within_all_cons ?_ ?_
    | with_reducible refine within_all_one ?_
    | with_reducible refine within_seq ?_ ?_
    | with_reducible refine within_ite ?_ ?_
    | with_reducible refine within_when ?_
    | with_reducible refine (askWrite_within _ _ _ _ _ _ _).mono ?_
    | (dsimp only)
    | split
    | rfl)

theorem writeChunk_within (d : Desc) (bs : List (Option Byte)) : (writeChunk d bs).Within 0x2fcce000000000000000000000000000000000000001802800013e0ea04c00800000000000000000000080000000000000000000040080000000100800007c5c002000000600000400001000000 := by
  unfold writeChunk
  repeat' (first
    | with_reducible exact within_skip
    | with_reducible refine within_read fun _ => ?_
    | with_reducible refine within_all_cons ?_ ?_
    | with_reducible refine within_all_one ?_
    | with_reducible refine within_seq ?_ ?_
    | with_reducible refine within_ite ?_ ?_
    | with_reducible refine within_emit ?_
    | with_reducible refine within_each fun _ => ?_
    | with_reducible refine (writePiece_within _ _ _ _ _).mono ?_
    | (dsimp only)
    | split
    | rfl)

theorem chunkEnd_within (d : Desc) (done : Nat) (fail : Option (Nat × Nat × Nat)) (stops : Bool) : (chunkEnd d done fail stops).Within 0x18088000000000000000000000000000000000000000002840000000000000000000000000000000000000000000000000000000000000000000000000000000000000000000000000000000000 := by
  unfold chunkEnd
  repeat' (first
    | with_reducible exact within_skip
    | with_reducible refine within_read fun _ => ?_
    | with_reducible refine within_all_cons ?_ ?_
    | with_reducible refine within_all_one ?_
    | with_reducible refine within_seq ?_ ?_
    | with_reducible refine within_ite ?_ ?_
    | with_reducible refine within_when ?_
    | with_reducible refine within_some? fun _ => ?_
    | with_reducible refine (event_within _ _ _ _).mono ?_
    | with_reducible refine (failDesc_within _ _ _).mono ?_
    | with_reducible refine (forgetDesc_within _).mono ?_
    | with_reducible refine (setDesc_within _ _).mono ?_
    | with_reducible refine (finishDesc_within _).mono ?_
    | (dsimp only)
    | split
    | rfl)

theorem writesTake_within (d : Desc) (src : Option (Nat × Nat × Nat)) : (writesTake d src).Within 0x18088000000000000000000000000000000000000000002840000000000000000000000000000000000000000000000000000000000000000000000000000000000000000000000000000000000 := by
  unfold writesTake
  repeat' (first
    | with_reducible exact within_skip
    | with_reducible refine within_read fun _ => ?_
    | with_reducible refine within_all_cons ?_ ?_
    | with_reducible refine within_all_one ?_
    | with_reducible refine within_seq ?_ ?_
    | with_reducible refine within_when ?_
    | with_reducible refine (chunkEnd_within _ _ _ _).mono ?_
    | (dsimp only)
    | split
    | rfl)

theorem startWrites_within (seq : Nat) (bs : List (Option Byte)) : (startWrites seq bs).Within 0x3fcce000000000000000000000000000000000000001802840013e0ea04c00800000000000000000000080000000000000000000040080000000100800007c5c002000000600000400001000000 := by
  unfold startWrites
  repeat' (first
    | with_reducible exact within_skip
    | with_reducible refine within_read fun _ => ?_
    | with_reducible refine within_all_cons ?_ ?_
    | with_reducible refine within_all_one ?_
    | with_reducible refine within_seq ?_ ?_
    | with_reducible refine within_some? fun _ => ?_
    | with_reducible refine (setDesc_within _ _).mono ?_
    | with_reducible refine (writeChunk_within _ _).mono ?_
    | with_reducible refine (writesTake_within _ _).mono ?_
    | (dsimp only)
    | split
    | rfl)

theorem hostStop_within (d : Desc) (det : Nat) : (hostStop d det).Within 0x18088000000000000000000000000000000000000000002840000000000000000000000000000000000000000000000000000000000000000000000000000000000000000000000000000000000 := by
  unfold hostStop
  repeat' (first
    | with_reducible exact within_skip
    | with_reducible refine within_read fun _ => ?_
    | with_reducible refine within_all_cons ?_ ?_
    | with_reducible refine within_all_one ?_
    | with_reducible refine within_seq ?_ ?_
    | with_reducible refine (chunkEnd_within _ _ _ _).mono ?_
    | (dsimp only)
    | split
    | rfl)

theorem compareChunk_within (d : Desc) (a : List (Option Byte)) (b : List (Option Byte)) : (compareChunk d a b).Within 0x18088000000000000000000000000000000000000000002840000000000000000000000000000000000000000000000000000000000000000000000000000000000000000000000000000000000 := by
  unfold compareChunk
  repeat' (first
    | with_reducible exact within_skip
    | with_reducible refine within_read fun _ => ?_
    | with_reducible refine within_all_cons ?_ ?_
    | with_reducible refine within_all_one ?_
    | with_reducible refine within_seq ?_ ?_
    | with_reducible refine (event_within _ _ _ _).mono ?_
    | with_reducible refine (failDesc_within _ _ _).mono ?_
    | with_reducible refine (setDesc_within _ _).mono ?_
    | with_reducible refine (finishDesc_within _).mono ?_
    | with_reducible refine (chunkEnd_within _ _ _ _).mono ?_
    | (dsimp only)
    | split
    | rfl)

theorem readsTake_within (seq : Nat) (h : HostRead) : (readsTake seq h).Within 0x3fcce000000000000000000000000000000000000001802840013e0ea04c00800000000000000000000080000000000000000000040080000000100800007c5c002000000600000400001000000 := by
  unfold readsTake
  repeat' (first
    | with_reducible exact within_skip
    | with_reducible refine within_read fun _ => ?_
    | with_reducible refine within_all_cons ?_ ?_
    | with_reducible refine within_all_one ?_
    | with_reducible refine within_seq ?_ ?_
    | with_reducible refine within_ite ?_ ?_
    | with_reducible refine within_when ?_
    | with_reducible refine within_some? fun _ => ?_
    | with_reducible refine (hostStop_within _ _).mono ?_
    | with_reducible refine (compareChunk_within _ _ _).mono ?_
    | with_reducible refine (startWrites_within _ _).mono ?_
    | (dsimp only)
    | split
    | rfl)

theorem dataStep_within (seq : Nat) (h : HostRead) : (dataStep seq h).Within 0x3fcce000000000000000000000000000000000000001802840013e0ea04c00800000000000000000000080000000000000000000040080000000100800007c5c002000000600000400001000000 := by
  unfold dataStep
  repeat' (first
    | with_reducible exact within_skip
    | with_reducible refine within_read fun _ => ?_
    | with_reducible refine within_all_cons ?_ ?_
    | with_reducible refine within_all_one ?_
    | with_reducible refine within_seq ?_ ?_
    | with_reducible refine within_ite ?_ ?_
    | with_reducible refine within_when ?_
    | with_reducible refine within_some? fun _ => ?_
    | with_reducible refine (setDesc_within _ _).mono ?_
    | with_reducible refine (askReads_within _ _ _).mono ?_
    | with_reducible refine (readsTake_within _ _).mono ?_
    | with_reducible refine (startWrites_within _ _).mono ?_
    | with_reducible refine (writesTake_within _ _).mono ?_
    | (dsimp only)
    | split
    | rfl)

theorem Mach.movePage_within (m : Mach) (n : Nat) (pn : Nat) (target : Tier) : (Mach.movePage m n pn target).2.Within 0x10fd4f000000000000000000000000000000000000000002840013e0ea04c008000020000000000008000000080000000000000000000000000001000000000000020000000706de1e0000000000 := by
  unfold Mach.movePage
  repeat' (first
    | with_reducible exact within_skip
    | with_reducible refine within_read fun _ => ?_
    | with_reducible refine within_all_cons ?_ ?_
    | with_reducible refine within_all_one ?_
    | with_reducible refine within_seq ?_ ?_
    | with_reducible refine within_ite ?_ ?_
    | with_reducible refine within_rcd ?_
    | with_reducible refine (epochStop_within _).mono ?_
    | with_reducible refine (startRecall_within _).mono ?_
    | with_reducible refine (sink_within _ _).mono ?_
    | with_reducible refine (abandon_within _).mono ?_
    | with_reducible refine (lift_within _ _ _).mono ?_
    | with_reducible refine within_ite_snd ?_ ?_
    | (dsimp only)
    | split
    | rfl)

theorem Mach.moveTierPage_within (m : Mach) (n : Nat) (pn : Nat) (b : Nat) : (Mach.moveTierPage m n pn b).2.Within 0x10fd4f000000000000000000000000000000000000000002840013e0ea04c008000020000000000008000000080000000000000000000000000001000000000000020000000706de1e0000000000 := by
  unfold Mach.moveTierPage
  repeat' (first
    | with_reducible exact within_skip
    | with_reducible refine within_read fun _ => ?_
    | with_reducible refine within_all_cons ?_ ?_
    | with_reducible refine within_all_one ?_
    | with_reducible refine within_seq ?_ ?_
    | with_reducible refine within_ite ?_ ?_
    | with_reducible refine within_rcd ?_
    | with_reducible refine (Mach.movePage_within _ _ _ _).mono ?_
    | with_reducible refine within_ite_snd ?_ ?_
    | (dsimp only)
    | split
    | rfl)

theorem Mach.pinPage_within (m : Mach) (n : Nat) (pn : Nat) (b : Nat) : (Mach.pinPage m n pn b).2.Within 0x10fd4f000000000000000000000000000000000000000002840013e0ea04c008000020000000000008000000080000000000000000000000000001000000000000020000000706de1e0000000000 := by
  unfold Mach.pinPage
  repeat' (first
    | with_reducible exact within_skip
    | with_reducible refine within_read fun _ => ?_
    | with_reducible refine within_all_cons ?_ ?_
    | with_reducible refine within_all_one ?_
    | with_reducible refine within_seq ?_ ?_
    | with_reducible refine within_ite ?_ ?_
    | with_reducible refine within_rcd ?_
    | with_reducible refine (Mach.movePage_within _ _ _ _).mono ?_
    | with_reducible refine within_ite_snd ?_ ?_
    | refine within_of_snd (by assumption) ?_
    | (dsimp only)
    | split
    | rfl)

theorem Mach.pushPage_within (m : Mach) (n : Nat) (pn : Nat) : (Mach.pushPage m n pn).2.Within 0x7e46000000000000000000000000000000000000000000000013e0ea04c00800000000000000000000000000000000000000000000000000000100000000000002000000000000000000000000 := by
  unfold Mach.pushPage
  repeat' (first
    | with_reducible exact within_skip
    | with_reducible refine within_read fun _ => ?_
    | with_reducible refine within_all_cons ?_ ?_
    | with_reducible refine within_all_one ?_
    | with_reducible refine within_seq ?_ ?_
    | with_reducible refine within_ite ?_ ?_
    | with_reducible refine within_rcd ?_
    | with_reducible refine (flushPage_within _).mono ?_
    | with_reducible refine (epochStop_within _).mono ?_
    | with_reducible refine (startPush_within _ _).mono ?_
    | with_reducible refine within_ite_snd ?_ ?_
    | (dsimp only)
    | split
    | rfl)

theorem Mach.recallPage_within (m : Mach) (n : Nat) (pn : Nat) : (Mach.recallPage m n pn).2.Within 0x7c46000000000000000000000000000000000000000000000013e0ea04c00800000000000000000000000000000000000000000000000000000100000000000002000000000000000000000000 := by
  unfold Mach.recallPage
  repeat' (first
    | with_reducible exact within_skip
    | with_reducible refine within_read fun _ => ?_
    | with_reducible refine within_all_cons ?_ ?_
    | with_reducible refine within_all_one ?_
    | with_reducible refine within_seq ?_ ?_
    | with_reducible refine within_ite ?_ ?_
    | with_reducible refine within_rcd ?_
    | with_reducible refine (epochStop_within _).mono ?_
    | with_reducible refine (startRecall_within _).mono ?_
    | with_reducible refine within_ite_snd ?_ ?_
    | (dsimp only)
    | split
    | rfl)

theorem Mach.syncPage_within (m : Mach) (n : Nat) (pn : Nat) (sent : Bool) : (Mach.syncPage m n pn sent).2.Within 0x7e46000000000000000000000000000000000000000000000013e0ea04c00800000000000000000000000000000000000000000000000000000100000000000002000000000000000000000000 := by
  unfold Mach.syncPage
  repeat' (first
    | with_reducible exact within_skip
    | with_reducible refine within_read fun _ => ?_
    | with_reducible refine within_all_cons ?_ ?_
    | with_reducible refine within_all_one ?_
    | with_reducible refine within_seq ?_ ?_
    | with_reducible refine within_ite ?_ ?_
    | with_reducible refine within_rcd ?_
    | with_reducible refine (sendMirPage_within _ _ _).mono ?_
    | with_reducible refine within_ite_snd ?_ ?_
    | (dsimp only)
    | split
    | rfl)

theorem Mach.pageTurn_within (m : Mach) (d : Desc) : (Mach.pageTurn m d).2.Within 0x10ff4f000000000000000000000000000000000000000002840013e0ea04c008000020000000000008000000080000000000000000000000000001000000000000020000000706de1e0000000000 := by
  unfold Mach.pageTurn
  repeat' (first
    | with_reducible exact within_skip
    | with_reducible refine within_read fun _ => ?_
    | with_reducible refine within_all_cons ?_ ?_
    | with_reducible refine within_all_one ?_
    | with_reducible refine within_seq ?_ ?_
    | with_reducible refine within_ite ?_ ?_
    | with_reducible refine within_rcd ?_
    | with_reducible refine (Mach.moveTierPage_within _ _ _ _).mono ?_
    | with_reducible refine (Mach.pinPage_within _ _ _ _).mono ?_
    | with_reducible refine (Mach.pushPage_within _ _ _).mono ?_
    | with_reducible refine (Mach.recallPage_within _ _ _).mono ?_
    | with_reducible refine (Mach.syncPage_within _ _ _ _).mono ?_
    | with_reducible refine within_ite_snd ?_ ?_
    | (dsimp only)
    | split
    | rfl)

theorem nextPage_within (seq : Nat) (count : Nat) : (nextPage seq count).Within 0x10000000000000000000000000000000000000000000000000000000000000000000000000000000000000000000000000000000000000000000000000000000000000000000000000000000000 := by
  unfold nextPage
  repeat' (first
    | with_reducible exact within_skip
    | with_reducible refine within_read fun _ => ?_
    | with_reducible refine within_all_cons ?_ ?_
    | with_reducible refine within_all_one ?_
    | with_reducible refine within_seq ?_ ?_
    | with_reducible refine (setDesc_within _ _).mono ?_
    | (dsimp only)
    | split
    | rfl)

theorem failPage_within (d : Desc) (st : Nat) : (failPage d st).Within 0x10000000000000000000000000000000000000000000000000000000000000000000000000000000000000000000000000000000000000000000000000000000000000000000000000000000000 := by
  unfold failPage
  repeat' (first
    | with_reducible exact within_skip
    | with_reducible refine within_read fun _ => ?_
    | with_reducible refine within_all_cons ?_ ?_
    | with_reducible refine within_all_one ?_
    | with_reducible refine within_seq ?_ ?_
    | with_reducible refine within_ite ?_ ?_
    | with_reducible refine (failDesc_within _ _ _).mono ?_
    | with_reducible refine (nextPage_within _ _).mono ?_
    | (dsimp only)
    | split
    | rfl)

theorem pageLoop_within (seq : Nat) : ∀ k, (pageLoop seq k).Within 0x11ffcf000000000000000000000000000000000000000002840013e0ea04c008000020000000000008000000080000000000000000000000000001000000000000020000000706de1e0000000000
  | 0 => within_skip
  | k + 1 => by
    unfold pageLoop
    repeat' (first
      | with_reducible exact within_skip
      | with_reducible exact pageLoop_within seq k
      | with_reducible refine within_read fun _ => ?_
      | with_reducible refine within_all_cons ?_ ?_
      | with_reducible refine within_all_one ?_
      | with_reducible refine within_seq ?_ ?_
      | with_reducible refine within_ite ?_ ?_
      | with_reducible refine (finishDesc_within _).mono ?_
      | with_reducible refine (failPage_within _ _).mono ?_
      | with_reducible refine (nextPage_within _ _).mono ?_
      | with_reducible refine (setDesc_within _ _).mono ?_
      | with_reducible refine (Mach.pageTurn_within _ _).mono ?_
      | refine within_of_snd (by assumption) ?_
      | (dsimp only)
      | split
      | rfl)

theorem pageStep_within (d : Desc) : (pageStep d).Within 0x11ffcf000000000000000000000000000000000000000002840013e0ea04c008000020000000000008000000080000000000000000000000000001000000000000020000000706de1e0000000000 := by
  unfold pageStep
  repeat' (first
    | with_reducible exact within_skip
    | with_reducible refine within_read fun _ => ?_
    | with_reducible refine within_all_cons ?_ ?_
    | with_reducible refine within_all_one ?_
    | with_reducible refine within_seq ?_ ?_
    | with_reducible refine (pageLoop_within _ _).mono ?_
    | (dsimp only)
    | split
    | rfl)

theorem atomFail_within (d : Desc) (st : Nat) : (atomFail d st).Within 0x18088000000000000000000000000000000000000000000040000000000000000000000000000000000000000000000000000000000000000000000000000000000000000000000000000000000 := by
  unfold atomFail
  repeat' (first
    | with_reducible exact within_skip
    | with_reducible refine within_read fun _ => ?_
    | with_reducible refine within_all_cons ?_ ?_
    | with_reducible refine within_all_one ?_
    | with_reducible refine within_seq ?_ ?_
    | with_reducible refine (failEnd_within _ _ _).mono ?_
    | (dsimp only)
    | split
    | rfl)

theorem atomNext_within (d : Desc) : (atomNext d).Within 0x18088000000000000000000000000000000000000000000040000000000000000000000000000000000000000000000000000000000000000000000000000000000000000000000000000000000 := by
  unfold atomNext
  repeat' (first
    | with_reducible exact within_skip
    | with_reducible refine within_read fun _ => ?_
    | with_reducible refine within_all_cons ?_ ?_
    | with_reducible refine within_all_one ?_
    | with_reducible refine within_seq ?_ ?_
    | with_reducible refine within_when ?_
    | with_reducible refine (forgetDesc_within _).mono ?_
    | with_reducible refine (setDesc_within _ _).mono ?_
    | with_reducible refine (finishDesc_within _).mono ?_
    | (dsimp only)
    | split
    | rfl)

theorem atomWritten_within (d : Desc) : (atomWritten d).Within 0x18088000000000000000000000000000000000000000000040000000000000000000000000000000000000000000000000000000000000000000000000000000000000000000000000000000000 := by
  unfold atomWritten
  repeat' (first
    | with_reducible exact within_skip
    | with_reducible refine within_read fun _ => ?_
    | with_reducible refine within_all_cons ?_ ?_
    | with_reducible refine within_all_one ?_
    | with_reducible refine within_seq ?_ ?_
    | with_reducible refine within_ite ?_ ?_
    | with_reducible refine within_when ?_
    | with_reducible refine (atomFail_within _ _).mono ?_
    | with_reducible refine (atomNext_within _).mono ?_
    | (dsimp only)
    | split
    | rfl)

theorem atomTake_within (d : Desc) (e : List Byte) : (atomTake d e).Within 0x3fcce000000000000000000000000000000000000001802840013e0ea04c00800000000000000000000080000000000000000000040080000000100800007c5c002000000600000400001000000 := by
  unfold atomTake
  repeat' (first
    | with_reducible exact within_skip
    | with_reducible refine within_read fun _ => ?_
    | with_reducible refine within_all_cons ?_ ?_
    | with_reducible refine within_all_one ?_
    | with_reducible refine within_seq ?_ ?_
    | with_reducible refine within_ite ?_ ?_
    | with_reducible refine within_when ?_
    | with_reducible refine within_emit ?_
    | with_reducible refine within_each fun _ => ?_
    | with_reducible refine (atomFail_within _ _).mono ?_
    | with_reducible refine (atomNext_within _).mono ?_
    | with_reducible refine (setDesc_within _ _).mono ?_
    | with_reducible refine (writePiece_within _ _ _ _ _).mono ?_
    | with_reducible refine (atomWritten_within _).mono ?_
    | (dsimp only)
    | split
    | rfl)

theorem atomStart_within (d : Desc) (e : List Byte) : (atomStart d e).Within 0x3fcce000000000000000000000000000000000000001802840013e0ea04c00800000000000000000000080000000000000000000040080000000100800007c5c002000000600000400001000000 := by
  unfold atomStart
  repeat' (first
    | with_reducible exact within_skip
    | with_reducible refine within_read fun _ => ?_
    | with_reducible refine within_all_cons ?_ ?_
    | with_reducible refine within_all_one ?_
    | with_reducible refine within_seq ?_ ?_
    | with_reducible refine within_ite ?_ ?_
    | with_reducible refine (atomFail_within _ _).mono ?_
    | with_reducible refine (setDesc_within _ _).mono ?_
    | with_reducible refine (ask_within _ _ _ _ _).mono ?_
    | with_reducible refine (atomTake_within _ _).mono ?_
    | (dsimp only)
    | split
    | rfl)

theorem atomEntry_within (d : Desc) : (atomEntry d).Within 0x3fcce000000000000000000000000000000000000001802840013e0ea04c00800000000000000000000080000000000000000000040080000000100800007c5c002000000600000400001000000 := by
  unfold atomEntry
  repeat' (first
    | with_reducible exact within_skip
    | with_reducible refine within_read fun _ => ?_
    | with_reducible refine within_all_cons ?_ ?_
    | with_reducible refine within_all_one ?_
    | with_reducible refine within_seq ?_ ?_
    | with_reducible refine within_ite ?_ ?_
    | with_reducible refine within_when ?_
    | with_reducible refine (atomFail_within _ _).mono ?_
    | with_reducible refine (atomStart_within _ _).mono ?_
    | (dsimp only)
    | split
    | rfl)

theorem atomicStep_within (d : Desc) (h : HostRead) : (atomicStep d h).Within 0x3fcce000000000000000000000000000000000000001802840013e0ea04c00800000000000000000000080000000000000000000040080000000100800007c5c002000000600000400001000000 := by
  unfold atomicStep
  repeat' (first
    | with_reducible exact within_skip
    | with_reducible refine within_read fun _ => ?_
    | with_reducible refine within_all_cons ?_ ?_
    | with_reducible refine within_all_one ?_
    | with_reducible refine within_seq ?_ ?_
    | with_reducible refine within_ite ?_ ?_
    | with_reducible refine (atomFail_within _ _).mono ?_
    | with_reducible refine (atomStart_within _ _).mono ?_
    | with_reducible refine (setDesc_within _ _).mono ?_
    | with_reducible refine (askReads_within _ _ _).mono ?_
    | with_reducible refine (atomEntry_within _).mono ?_
    | with_reducible refine (atomTake_within _ _).mono ?_
    | with_reducible refine (atomWritten_within _).mono ?_
    | (dsimp only)
    | split
    | rfl)

theorem rotateStep_within (d : Desc) : (rotateStep d).Within 0x18288000000000000000000000000000000000000000000040000000000000000000000000000000000000000000000000000000000000000000000000000000be40000000000000000000c0000 := by
  unfold rotateStep
  repeat' (first
    | with_reducible exact within_skip
    | with_reducible refine within_read fun _ => ?_
    | with_reducible refine within_all_cons ?_ ?_
    | with_reducible refine within_all_one ?_
    | with_reducible refine within_seq ?_ ?_
    | with_reducible refine within_ite ?_ ?_
    | with_reducible refine within_when ?_
    | with_reducible refine within_free ?_ fun _ => ?_
    | with_reducible refine within_some? fun _ => ?_
    | with_reducible refine (failEnd_within _ _ _).mono ?_
    | with_reducible refine (rotStart_within _ _ _).mono ?_
    | with_reducible refine (setDesc_within _ _).mono ?_
    | with_reducible refine (finishDesc_within _).mono ?_
    | (dsimp only)
    | split
    | rfl)

theorem outTake_within (d : Desc) : (outTake d).Within 0x18088000000000000000000000000000000000000000000040000000000000000000000000000000000000000000000000000000000000000000000000000000000000000000000000000000000 := by
  unfold outTake
  repeat' (first
    | with_reducible exact within_skip
    | with_reducible refine within_read fun _ => ?_
    | with_reducible refine within_all_cons ?_ ?_
    | with_reducible refine within_all_one ?_
    | with_reducible refine within_seq ?_ ?_
    | with_reducible refine within_when ?_
    | with_reducible refine within_some? fun _ => ?_
    | with_reducible refine (failDesc_within _ _ _).mono ?_
    | with_reducible refine (finishDesc_within _).mono ?_
    | (dsimp only)
    | split
    | rfl)

theorem outWrite_within (d : Desc) (bs : List Byte) (result : Nat) (stop : Option (Nat × Nat × Nat)) : (outWrite d bs result stop).Within 0x3fcce000000000000000000000000000000000000001802840013e0ea04c00800000000000000000000080000000000000000000040080000000100800007c5c002000000600000400001000000 := by
  unfold outWrite
  repeat' (first
    | with_reducible exact within_skip
    | with_reducible refine within_read fun _ => ?_
    | with_reducible refine within_all_cons ?_ ?_
    | with_reducible refine within_all_one ?_
    | with_reducible refine within_seq ?_ ?_
    | with_reducible refine within_ite ?_ ?_
    | with_reducible refine within_when ?_
    | with_reducible refine within_emit ?_
    | with_reducible refine within_each fun _ => ?_
    | with_reducible refine within_some? fun _ => ?_
    | with_reducible refine (setDesc_within _ _).mono ?_
    | with_reducible refine (writePiece_within _ _ _ _ _).mono ?_
    | with_reducible refine (event_within _ _ _ _).mono ?_
    | with_reducible refine (outTake_within _).mono ?_
    | (dsimp only)
    | split
    | rfl)

theorem unstage_within (x : Staged) : (unstage x).Within 0x8000000000000000000000000000000000000000000800000000000000000000000000000000000000000000000000000000000000000000000000000000000000000000000000000000000000 := by
  unfold unstage
  repeat' (first
    | with_reducible exact within_skip
    | with_reducible refine within_read fun _ => ?_
    | with_reducible refine within_all_cons ?_ ?_
    | with_reducible refine within_all_one ?_
    | with_reducible refine within_seq ?_ ?_
    | with_reducible refine within_set ?_
    | with_reducible refine within_snd ?_
    | (dsimp only)
    | split
    | rfl)

theorem drainStep_within (d : Desc) : (drainStep d).Within 0x3fcce000000000000000000000000000000000000001802840013e0ea04c00800000000000000000000080000000000000000000040080000000100800007c5c002000000600000400001000000 := by
  unfold drainStep
  repeat' (first
    | with_reducible exact within_skip
    | with_reducible refine within_read fun _ => ?_
    | with_reducible refine within_all_cons ?_ ?_
    | with_reducible refine within_all_one ?_
    | with_reducible refine within_seq ?_ ?_
    | with_reducible refine within_ite ?_ ?_
    | with_reducible refine within_each fun _ => ?_
    | with_reducible refine (outTake_within _).mono ?_
    | with_reducible refine (unstage_within _).mono ?_
    | with_reducible refine (outWrite_within _ _ _ _).mono ?_
    | (dsimp only)
    | split
    | rfl)

theorem summaryStep_within (d : Desc) : (summaryStep d).Within 0x3fcce000000000000000000000000000000000000001802840013e0ea04c00800000000000000000000080000000000000000000040080000000100800007c5c002000000600000400001000000 := by
  unfold summaryStep
  repeat' (first
    | with_reducible exact within_skip
    | with_reducible refine within_read fun _ => ?_
    | with_reducible refine within_all_cons ?_ ?_
    | with_reducible refine within_all_one ?_
    | with_reducible refine within_seq ?_ ?_
    | with_reducible refine within_ite ?_ ?_
    | with_reducible refine (outTake_within _).mono ?_
    | with_reducible refine (failEnd_within _ _ _).mono ?_
    | with_reducible refine (outWrite_within _ _ _ _).mono ?_
    | (dsimp only)
    | split
    | rfl)

theorem recordsStep_within (d : Desc) : (recordsStep d).Within 0x3fcce000000000000000000000000000000000000001802840013e0ea04c00800000000000000000000080000000000000000000040080000000100800007c5c002000000600000400001000000 := by
  unfold recordsStep
  repeat' (first
    | with_reducible exact within_skip
    | with_reducible refine within_read fun _ => ?_
    | with_reducible refine within_all_cons ?_ ?_
    | with_reducible refine within_all_one ?_
    | with_reducible refine within_seq ?_ ?_
    | with_reducible refine within_ite ?_ ?_
    | with_reducible refine (outTake_within _).mono ?_
    | with_reducible refine (outWrite_within _ _ _ _).mono ?_
    | (dsimp only)
    | split
    | rfl)

theorem turnDesc_within (d : Desc) (h : HostRead) : (turnDesc d h).Within 0x13ffcf000000000000000000000000000000000000001802840013e0ea04c00800002000000000000800080008000000000000000040080000000100800007c5cbe60000006706de5e00010c0000 := by
  unfold turnDesc
  repeat' (first
    | with_reducible exact within_skip
    | with_reducible refine within_read fun _ => ?_
    | with_reducible refine within_all_cons ?_ ?_
    | with_reducible refine within_all_one ?_
    | with_reducible refine within_seq ?_ ?_
    | with_reducible refine within_ite ?_ ?_
    | with_reducible refine (dataStep_within _ _).mono ?_
    | with_reducible refine (atomicStep_within _ _).mono ?_
    | with_reducible refine (rotateStep_within _).mono ?_
    | with_reducible refine (drainStep_within _).mono ?_
    | with_reducible refine (summaryStep_within _).mono ?_
    | with_reducible refine (recordsStep_within _).mono ?_
    | with_reducible refine (pageStep_within _).mono ?_
    | with_reducible refine (finishDesc_within _).mono ?_
    | (dsimp only)
    | split
    | rfl)

theorem runDesc_within (d : Desc) (h : HostRead) : (runDesc d h).Within 0x13ffcf000000000000000000000000000000000000001802840013e0ea04c00800002000000000000800080008000000000000000040080000000100800007c5cbe60000006706de5e00010c0000 := by
  unfold runDesc
  repeat' (first
    | with_reducible exact within_skip
    | with_reducible refine within_read fun _ => ?_
    | with_reducible refine within_all_cons ?_ ?_
    | with_reducible refine within_all_one ?_
    | with_reducible refine within_seq ?_ ?_
    | with_reducible refine within_ite ?_ ?_
    | with_reducible refine (turnDesc_within _ _).mono ?_
    | with_reducible refine (setDesc_within _ _).mono ?_
    | with_reducible refine (failEnd_within _ _ _).mono ?_
    | (dsimp only)
    | split
    | rfl)

theorem opTurn_within (q : Nat) (idx : Nat) (mine : Desc → Bool) (h : HostRead) : (opTurn q idx mine h).Within 0x13ffcf000000000000000000000000000000000000001802840013e0ea04c00800002000000000000800080008000000000000000040080000000100800007c5cbe60000006706de5e00010c0000 := by
  unfold opTurn
  repeat' (first
    | with_reducible exact within_skip
    | with_reducible refine within_read fun _ => ?_
    | with_reducible refine within_all_cons ?_ ?_
    | with_reducible refine within_all_one ?_
    | with_reducible refine within_seq ?_ ?_
    | with_reducible refine within_some? fun _ => ?_
    | with_reducible refine (runDesc_within _ _).mono ?_
    | (dsimp only)
    | split
    | rfl)

theorem descriptorTurn_within (k : Nat) (h : HostRead) : (descriptorTurn k h).Within 0x13ffcf000000000000000000000000000000000000001802840013e0ea04c00800002000000000000800080008000000000000000040080000000100800007c5cbe60000006706de5e00010c0000 := by
  unfold descriptorTurn
  repeat' (first
    | with_reducible exact within_skip
    | with_reducible refine within_read fun _ => ?_
    | with_reducible refine within_all_cons ?_ ?_
    | with_reducible refine within_all_one ?_
    | with_reducible refine within_seq ?_ ?_
    | with_reducible refine within_que ?_
    | with_reducible refine within_some? fun _ => ?_
    | with_reducible refine (runDesc_within _ _).mono ?_
    | (dsimp only)
    | split
    | rfl)

end Sys2Proof.Machine
end

