-- ==== Sys2Proof/Laws/WithinFlags.lean ====
section
/-!
SUPPORT. What each program of Machine/Flags.lean can change: one lemma each, over the places of Laws/Acts.lean.
-/

namespace Sys2Proof.Machine

set_option linter.unusedTactic false
set_option linter.unreachableTactic false

theorem markWrite_within (b : Blk) (q v : Nat) : (markWrite b q v).Within 0x20000800000080000000100000008000000100000000008000000800000002000000000000800000000100000000040002000080000001000000800000000 := by
  unfold markWrite refusedBit
  cases b <;> simp only [Act.some?] <;> first | exact within_skip | exact within_set rfl

end Sys2Proof.Machine
end

