-- ==== Sys2Proof/Laws/WithinSoundings.lean ====
section
/-!
SUPPORT. What each program of Machine/Soundings.lean can change: one lemma each, over the places of Laws/Acts.lean.
-/

namespace Sys2Proof.Machine

set_option linter.unusedTactic false
set_option linter.unreachableTactic false

theorem attFails_within (key : Nat × Nat) : (attFails key).Within 0x2800000000000000000000000000000000000000000000000000000000000000000000000000000000000000000000000000000000000 := by
  unfold attFails
  repeat' (first
    | with_reducible exact within_skip
    | with_reducible refine within_read fun _ => ?_
    | with_reducible refine within_all_cons ?_ ?_
    | with_reducible refine within_all_one ?_
    | with_reducible refine within_seq ?_ ?_
    | with_reducible refine within_when ?_
    | with_reducible refine within_set ?_
    | with_reducible refine within_each fun _ => ?_
    | with_reducible refine within_some? fun _ => ?_
    | (dsimp only)
    | split
    | rfl)

theorem snapshot_within  : snapshot.Within 0x4000000000000000000000000000000000000000005001d00000000000000000000000000000000000000000000000000000000000000000000000000000000000000000000000000000000 := by
  unfold snapshot
  repeat' (first
    | with_reducible exact within_skip
    | with_reducible refine within_read fun _ => ?_
    | with_reducible refine within_all_cons ?_ ?_
    | with_reducible refine within_all_one ?_
    | with_reducible refine within_seq ?_ ?_
    | with_reducible refine within_ite ?_ ?_
    | with_reducible refine within_set ?_
    | with_reducible refine within_emit ?_
    | with_reducible refine within_inc ?_
    | with_reducible refine within_each fun _ => ?_
    | (dsimp only)
    | split
    | rfl)

theorem zeroWords_within : zeroWords.Within 0x7804000000000000000000000000000000000000000000000000000000000000000000000000000000000000000000000000000000000 := by
  refine within_read fun _ => within_seq (within_each_mem fun f hf => within_each fun _ => ?_) (within_set rfl)
  simp only [List.mem_cons, List.not_mem_nil, or_false] at hf
  rcases hf with h | h | h | h <;> subst h <;> exact within_set rfl

theorem counterClear_within  : counterClear.Within 0x7804100000000000000000000000000000000000000000000000000000000000000000000000000000000000000000000000000000000 := by
  unfold counterClear
  repeat' (first
    | with_reducible exact within_skip
    | with_reducible refine within_read fun _ => ?_
    | with_reducible refine within_all_cons ?_ ?_
    | with_reducible refine within_all_one ?_
    | with_reducible refine within_seq ?_ ?_
    | with_reducible refine within_set ?_
    | with_reducible refine (zeroWords_within).mono ?_
    | (dsimp only)
    | split
    | rfl)

theorem sumAudit_within  : sumAudit.Within 0x1c44000000000000000000000000000000000000000002000013e0ea04c00800000000000000000000000000000000000000000000000000000100000000000000000000000000000000000000 := by
  unfold sumAudit
  repeat' (first
    | with_reducible exact within_skip
    | with_reducible refine within_read fun _ => ?_
    | with_reducible refine within_all_cons ?_ ?_
    | with_reducible refine within_all_one ?_
    | with_reducible refine within_seq ?_ ?_
    | with_reducible refine within_set ?_
    | with_reducible refine within_each fun _ => ?_
    | with_reducible refine (raise_within _ _ _).mono ?_
    | (dsimp only)
    | split
    | rfl)

theorem damageWord_within (k : Nat) : (damageWord k).Within 0x2800000000000000000000000000000000000000000000000000000000000000000000000000000000000000000000000000000000000 := by
  unfold damageWord
  repeat' (first
    | with_reducible exact within_skip
    | with_reducible refine within_read fun _ => ?_
    | with_reducible refine within_all_cons ?_ ?_
    | with_reducible refine within_all_one ?_
    | with_reducible refine within_seq ?_ ?_
    | with_reducible refine within_set ?_
    | with_reducible refine within_each fun _ => ?_
    | (dsimp only)
    | split
    | rfl)

theorem counterDamage_within (sum : Bool) (n : Nat) : (counterDamage sum n).Within 0x1c44000000000000000000000000000000000000000002800013e0ea04c00800000000000000000000000000000000000000000000000000000100000000000000000000000000000000000000 := by
  unfold counterDamage
  repeat' (first
    | with_reducible exact within_skip
    | with_reducible refine within_read fun _ => ?_
    | with_reducible refine within_all_cons ?_ ?_
    | with_reducible refine within_all_one ?_
    | with_reducible refine within_seq ?_ ?_
    | with_reducible refine within_ite ?_ ?_
    | with_reducible refine within_when ?_
    | with_reducible refine within_set ?_
    | with_reducible refine (raise_within _ _ _).mono ?_
    | with_reducible refine (damageWord_within _).mono ?_
    | (dsimp only)
    | split
    | rfl)

end Sys2Proof.Machine
end

