-- ==== Sys2Proof/Laws/WithinPower.lean ====
section
/-!
SUPPORT. What each program of Machine/Power.lean can change: one lemma each, over the places of Laws/Acts.lean.
-/

namespace Sys2Proof.Machine

set_option linter.unusedTactic false
set_option linter.unreachableTactic false

theorem restore_within (img : SMap Nat) (p : Fld → Bool)  : (restore img p).Within 0xffffffffffffffffffffffffffffffffffffffffffffffffffffffffffffffffffffffffffffffffffffffffffffffffffffffffffffffffffffffffffffffffffffffffffffffffffffffffffff :=
  Act.within_everywhere _

theorem reefRefused_within  : reefRefused.Within 0x800000000000000000000000000000000000000000000000000000000000000000000000000000000000000000000000000000000000000000000000 := by
  unfold reefRefused
  repeat' (first
    | with_reducible exact within_skip
    | with_reducible refine within_read fun _ => ?_
    | with_reducible refine within_all_cons ?_ ?_
    | with_reducible refine within_all_one ?_
    | with_reducible refine within_seq ?_ ?_
    | with_reducible refine within_set ?_
    | (dsimp only)
    | split
    | rfl)

theorem reefTaken_within (t : Nat) : (reefTaken t).Within 0xd00000000000000000000000000000000000000000000000000000000000000000000000000000000000000000000000000000000000000000000000 := by
  unfold reefTaken
  repeat' (first
    | with_reducible exact within_skip
    | with_reducible refine within_read fun _ => ?_
    | with_reducible refine within_all_cons ?_ ?_
    | with_reducible refine within_all_one ?_
    | with_reducible refine within_seq ?_ ?_
    | with_reducible refine within_set ?_
    | (dsimp only)
    | split
    | rfl)

theorem changeTo_within (t : Nat) : (changeTo t).Within 0xa00000000000000000000000000000000000080000000000000000000000000000240000000000000000000000000000000000000000000000000000000000000000000000000000000000000000 := by
  unfold changeTo
  repeat' (first
    | with_reducible exact within_skip
    | with_reducible refine within_read fun _ => ?_
    | with_reducible refine within_all_cons ?_ ?_
    | with_reducible refine within_all_one ?_
    | with_reducible refine within_seq ?_ ?_
    | with_reducible refine within_set ?_
    | with_reducible refine within_pow ?_
    | with_reducible refine (paceRetarget_within).mono ?_
    | with_reducible refine (changeDone_within).mono ?_
    | (dsimp only)
    | split
    | rfl)

theorem coreSlept_within  : coreSlept.Within 0x3fe5c0000000000000000000000000000000000000000000000000000000000000000000000000000000000000000000000000000000000000000000000000000000000000000000000000000000 := by
  unfold coreSlept
  repeat' (first
    | with_reducible exact within_skip
    | with_reducible refine within_read fun _ => ?_
    | with_reducible refine within_all_cons ?_ ?_
    | with_reducible refine within_all_one ?_
    | with_reducible refine within_seq ?_ ?_
    | with_reducible refine within_lines ?_
    | with_reducible refine within_dir ?_
    | with_reducible refine within_snd ?_
    | with_reducible refine within_que ?_
    | with_reducible refine within_fry ?_
    | with_reducible refine within_bql ?_
    | with_reducible refine within_grain ?_
    | with_reducible refine within_host ?_
    | with_reducible refine within_arc ?_
    | with_reducible refine within_fw ?_
    | with_reducible refine within_chan ?_
    | with_reducible refine within_rgl ?_
    | with_reducible refine within_noc ?_
    | (dsimp only)
    | split
    | rfl)

theorem coreRails_within  : coreRails.Within 0x4000000000000000000000000000010000000000000000000000000000000000000000000000000000000000000000000000000000000000000000000000000000000000000000000000000 := by
  unfold coreRails
  repeat' (first
    | with_reducible exact within_skip
    | with_reducible refine within_read fun _ => ?_
    | with_reducible refine within_all_cons ?_ ?_
    | with_reducible refine within_all_one ?_
    | with_reducible refine within_seq ?_ ?_
    | with_reducible refine within_set ?_
    | with_reducible refine (railOn_within _).mono ?_
    | (dsimp only)
    | split
    | rfl)

theorem channelsWake_within  : channelsWake.Within 0x4000000000000000000000000000000000000000000000000000000000000000000000000000000000000000000000000000000000000000000000000000000000000000000000000000000 := by
  unfold channelsWake
  repeat' (first
    | with_reducible exact within_skip
    | with_reducible refine within_read fun _ => ?_
    | with_reducible refine within_all_cons ?_ ?_
    | with_reducible refine within_all_one ?_
    | with_reducible refine within_seq ?_ ?_
    | with_reducible refine within_emit ?_
    | with_reducible refine within_each fun _ => ?_
    | (dsimp only)
    | split
    | rfl)

theorem exitStart_within (cause : Nat) : (exitStart cause).Within 0xffffffffffffffffffffffffffffffffffffffffffffffffffffffffffffffffffffffffffffffffffffffffffffffffffffffffffffffffffffffffffffffffffffffffffffffffffffffffffff := by
  unfold exitStart
  repeat' (first
    | with_reducible exact within_skip
    | with_reducible refine within_read fun _ => ?_
    | with_reducible refine within_all_cons ?_ ?_
    | with_reducible refine within_all_one ?_
    | with_reducible refine within_seq ?_ ?_
    | with_reducible refine within_set ?_
    | with_reducible refine within_pow ?_
    | with_reducible refine (coreRails_within).mono ?_
    | with_reducible refine (resetAll_within _).mono ?_
    | with_reducible refine (coreSlept_within).mono ?_
    | with_reducible refine (restore_within _ _).mono ?_
    | with_reducible refine (channelsWake_within).mono ?_
    | (dsimp only)
    | split
    | rfl)

theorem reefGo_within (t : Nat) : (reefGo t).Within 0xffffffffffffffffffffffffffffffffffffffffffffffffffffffffffffffffffffffffffffffffffffffffffffffffffffffffffffffffffffffffffffffffffffffffffffffffffffffffffff := by
  unfold reefGo
  repeat' (first
    | with_reducible exact within_skip
    | with_reducible refine within_read fun _ => ?_
    | with_reducible refine within_all_cons ?_ ?_
    | with_reducible refine within_all_one ?_
    | with_reducible refine within_seq ?_ ?_
    | with_reducible refine within_ite ?_ ?_
    | with_reducible refine within_pow ?_
    | with_reducible refine (reefRefused_within).mono ?_
    | with_reducible refine (reefTaken_within _).mono ?_
    | with_reducible refine (exitStart_within _).mono ?_
    | with_reducible refine (changeTo_within _).mono ?_
    | (dsimp only)
    | split
    | rfl)

theorem hostWake_within (g : Nat) (_l1Exit : Bool) : (hostWake g _l1Exit).Within 0xffffffffffffffffffffffffffffffffffffffffffffffffffffffffffffffffffffffffffffffffffffffffffffffffffffffffffffffffffffffffffffffffffffffffffffffffffffffffffff := by
  unfold hostWake
  repeat' (first
    | with_reducible exact within_skip
    | with_reducible refine within_read fun _ => ?_
    | with_reducible refine within_all_cons ?_ ?_
    | with_reducible refine within_all_one ?_
    | with_reducible refine within_seq ?_ ?_
    | with_reducible refine within_ite ?_ ?_
    | with_reducible refine within_when ?_
    | with_reducible refine within_pow ?_
    | with_reducible refine (exitStart_within _).mono ?_
    | (dsimp only)
    | split
    | rfl)

theorem lhUnlisted_within  : lhUnlisted.Within 0x1008000000000000000000000000000000000000000000000013000000000000000000000000000000000000000000000000000000000000000000000000000000000000000000000000000000 := by
  unfold lhUnlisted
  repeat' (first
    | with_reducible exact within_skip
    | with_reducible refine within_read fun _ => ?_
    | with_reducible refine within_all_cons ?_ ?_
    | with_reducible refine within_all_one ?_
    | with_reducible refine within_seq ?_ ?_
    | with_reducible refine within_free ?_ fun _ => ?_
    | with_reducible refine (lhLog_within _ _ _ _ _).mono ?_
    | (dsimp only)
    | split
    | rfl)

theorem resume_within  : resume.Within 0x204400000000000000000000000000000000002000000000000000000000000000240000000800024000000000000000000000600000000000000000001800000020000000000000000000840000 := by
  unfold resume
  repeat' (first
    | with_reducible exact within_skip
    | with_reducible refine within_read fun _ => ?_
    | with_reducible refine within_all_cons ?_ ?_
    | with_reducible refine within_all_one ?_
    | with_reducible refine within_seq ?_ ?_
    | with_reducible refine (domainsUp_within).mono ?_
    | with_reducible refine (keysUpdate_within).mono ?_
    | with_reducible refine (profileFall_within).mono ?_
    | with_reducible refine (paceRetarget_within).mono ?_
    | (dsimp only)
    | split
    | rfl)

theorem ebbExitComplete_within (us : Nat) : (ebbExitComplete us).Within 0xffffffffffffffffffffffffffffffffffffffffffffffffffffffffffffffffffffffffffffffffffffffffffffffffffffffffffffffffffffffffffffffffffffffffffffffffffffffffffff := by
  unfold ebbExitComplete
  repeat' (first
    | with_reducible exact within_skip
    | with_reducible refine within_read fun _ => ?_
    | with_reducible refine within_all_cons ?_ ?_
    | with_reducible refine within_all_one ?_
    | with_reducible refine within_seq ?_ ?_
    | with_reducible refine within_when ?_
    | with_reducible refine within_set ?_
    | with_reducible refine within_inc ?_
    | with_reducible refine within_pow ?_
    | with_reducible refine within_some? fun _ => ?_
    | with_reducible refine (resume_within).mono ?_
    | with_reducible refine (zeroWords_within).mono ?_
    | with_reducible refine (lhUnlisted_within).mono ?_
    | with_reducible refine (reefGo_within _).mono ?_
    | (dsimp only)
    | split
    | rfl)

theorem reefGoActive_within  : reefGoActive.Within 0xffffffffffffffffffffffffffffffffffffffffffffffffffffffffffffffffffffffffffffffffffffffffffffffffffffffffffffffffffffffffffffffffffffffffffffffffffffffffffff := by
  unfold reefGoActive
  repeat' (first
    | with_reducible exact within_skip
    | with_reducible refine within_read fun _ => ?_
    | with_reducible refine within_all_cons ?_ ?_
    | with_reducible refine within_all_one ?_
    | with_reducible refine within_seq ?_ ?_
    | with_reducible refine (reefGo_within _).mono ?_
    | (dsimp only)
    | split
    | rfl)

theorem reefGoSlack_within  : reefGoSlack.Within 0xffffffffffffffffffffffffffffffffffffffffffffffffffffffffffffffffffffffffffffffffffffffffffffffffffffffffffffffffffffffffffffffffffffffffffffffffffffffffffff := by
  unfold reefGoSlack
  repeat' (first
    | with_reducible exact within_skip
    | with_reducible refine within_read fun _ => ?_
    | with_reducible refine within_all_cons ?_ ?_
    | with_reducible refine within_all_one ?_
    | with_reducible refine within_seq ?_ ?_
    | with_reducible refine (reefGo_within _).mono ?_
    | (dsimp only)
    | split
    | rfl)

theorem reefGoEbb_within  : reefGoEbb.Within 0x800000000000000000000000000000000000d80000000000000000000000000000000000000000000000000000000000000000000000000000000000000000000020000000000000000000040000 := by
  unfold reefGoEbb
  repeat' (first
    | with_reducible exact within_skip
    | with_reducible refine within_read fun _ => ?_
    | with_reducible refine within_all_cons ?_ ?_
    | with_reducible refine within_all_one ?_
    | with_reducible refine within_seq ?_ ?_
    | with_reducible refine within_ite ?_ ?_
    | with_reducible refine within_set ?_
    | with_reducible refine within_pow ?_
    | with_reducible refine (reefRefused_within).mono ?_
    | with_reducible refine (reefTaken_within _).mono ?_
    | with_reducible refine (tdlUpdate_within).mono ?_
    | (dsimp only)
    | split
    | rfl)

theorem reefGoTo_within (t : Nat) : (reefGoTo t).Within 0xffffffffffffffffffffffffffffffffffffffffffffffffffffffffffffffffffffffffffffffffffffffffffffffffffffffffffffffffffffffffffffffffffffffffffffffffffffffffffff := by
  unfold reefGoTo
  repeat' (first
    | with_reducible exact within_skip
    | with_reducible refine within_read fun _ => ?_
    | with_reducible refine within_all_cons ?_ ?_
    | with_reducible refine within_all_one ?_
    | with_reducible refine within_seq ?_ ?_
    | with_reducible refine (reefGoActive_within).mono ?_
    | with_reducible refine (reefGoSlack_within).mono ?_
    | with_reducible refine (reefGoEbb_within).mono ?_
    | with_reducible refine (reefRefused_within).mono ?_
    | (dsimp only)
    | split
    | rfl)

theorem drainWb_within (e : WbEnt) : (drainWb e).Within 0x7d47000000000000000000000000000000000000000002800013e0ea04c00800000000000000000000080000000000000000000000000000000100000000000000000000000000400000000000 := by
  unfold drainWb
  repeat' (first
    | with_reducible exact within_skip
    | with_reducible refine within_read fun _ => ?_
    | with_reducible refine within_all_cons ?_ ?_
    | with_reducible refine within_all_one ?_
    | with_reducible refine within_seq ?_ ?_
    | with_reducible refine within_when ?_
    | with_reducible refine (dropWb_within _).mono ?_
    | with_reducible refine (denied_within _ _ _ _).mono ?_
    | (dsimp only)
    | split
    | rfl)

theorem homesFlush_within  : homesFlush.Within 0x11fd4f000000000000000000000000000000000000000002840013e0ea04c008000020000000000008000800081000000000000000000000000001000000000000030000000202de5e0000000000 := by
  unfold homesFlush
  repeat' (first
    | with_reducible exact within_skip
    | with_reducible refine within_read fun _ => ?_
    | with_reducible refine within_all_cons ?_ ?_
    | with_reducible refine within_all_one ?_
    | with_reducible refine within_seq ?_ ?_
    | with_reducible refine within_lines ?_
    | with_reducible refine within_each fun _ => ?_
    | with_reducible refine within_some? fun _ => ?_
    | with_reducible refine (toWb_within _ _ _).mono ?_
    | with_reducible refine (writeBack_within _).mono ?_
    | with_reducible refine (drainWb_within _).mono ?_
    | with_reducible refine (oldPlotsFree_within).mono ?_
    | with_reducible refine (writeRecord_within _ _).mono ?_
    | with_reducible refine (tallyUpdate_within _).mono ?_
    | (dsimp only)
    | split
    | rfl)

theorem coreDown_within  : coreDown.Within 0x3fccf000000000000000000000000000000000000001802800013e0ea04c008000000000008000000000800000000000000002000407f00000a0101bf8807ddc002000000400000400001000000 := by
  unfold coreDown
  repeat' (first
    | with_reducible exact within_skip
    | with_reducible refine within_read fun _ => ?_
    | with_reducible refine within_all_cons ?_ ?_
    | with_reducible refine within_all_one ?_
    | with_reducible refine within_seq ?_ ?_
    | with_reducible refine within_set ?_
    | with_reducible refine within_emit ?_
    | with_reducible refine within_each fun _ => ?_
    | with_reducible refine (linkGone_within _).mono ?_
    | (dsimp only)
    | split
    | rfl)

theorem ebbEntryComplete_within (us : Nat) : (ebbEntryComplete us).Within 0xffffffffffffffffffffffffffffffffffffffffffffffffffffffffffffffffffffffffffffffffffffffffffffffffffffffffffffffffffffffffffffffffffffffffffffffffffffffffffff := by
  unfold ebbEntryComplete
  repeat' (first
    | with_reducible exact within_skip
    | with_reducible refine within_read fun _ => ?_
    | with_reducible refine within_all_cons ?_ ?_
    | with_reducible refine within_all_one ?_
    | with_reducible refine within_seq ?_ ?_
    | with_reducible refine within_when ?_
    | with_reducible refine within_set ?_
    | with_reducible refine within_emit ?_
    | with_reducible refine within_inc ?_
    | with_reducible refine within_pow ?_
    | with_reducible refine within_each fun _ => ?_
    | with_reducible refine (homesFlush_within).mono ?_
    | with_reducible refine (coreDown_within).mono ?_
    | with_reducible refine (lhUnlisted_within).mono ?_
    | with_reducible refine (exitStart_within _).mono ?_
    | (dsimp only)
    | split
    | rfl)

theorem startRecord_within  : startRecord.Within 0x1000000000000000000000000000000000000000000000000013000000000000000000000000000000000000000000000000000000000000000000000000000000000000000000000000000000 := by
  unfold startRecord
  repeat' (first
    | with_reducible exact within_skip
    | with_reducible refine within_read fun _ => ?_
    | with_reducible refine within_all_cons ?_ ?_
    | with_reducible refine within_all_one ?_
    | with_reducible refine within_seq ?_ ?_
    | with_reducible refine within_when ?_
    | with_reducible refine (lhLog_within _ _ _ _ _).mono ?_
    | (dsimp only)
    | split
    | rfl)

theorem warmStart_within  : warmStart.Within 0xffffffffffffffffffffffffffffffffffffffffffffffffffffffffffffffffffffffffffffffffffffffffffffffffffffffffffffffffffffffffffffffffffffffffffffffffffffffffffff := by
  unfold warmStart
  repeat' (first
    | with_reducible exact within_skip
    | with_reducible refine within_read fun _ => ?_
    | with_reducible refine within_all_cons ?_ ?_
    | with_reducible refine within_all_one ?_
    | with_reducible refine within_seq ?_ ?_
    | with_reducible refine within_when ?_
    | with_reducible refine within_set ?_
    | with_reducible refine within_inc ?_
    | with_reducible refine within_keys ?_
    | with_reducible refine within_fw ?_
    | with_reducible refine within_pow ?_
    | with_reducible refine within_free ?_ fun _ => ?_
    | with_reducible refine within_each fun _ => ?_
    | with_reducible refine (logAtReset_within).mono ?_
    | with_reducible refine (resetAll_within _).mono ?_
    | with_reducible refine (coreSlept_within).mono ?_
    | with_reducible refine (bkwLost_within).mono ?_
    | with_reducible refine (restore_within _ _).mono ?_
    | with_reducible refine (coreRails_within).mono ?_
    | with_reducible refine (channelsWake_within).mono ?_
    | with_reducible refine (grantWrite_within _).mono ?_
    | with_reducible refine (resume_within).mono ?_
    | with_reducible refine (zeroWords_within).mono ?_
    | with_reducible refine (startRecord_within).mono ?_
    | with_reducible refine (raise_within _ _ _).mono ?_
    | (dsimp only)
    | split
    | rfl)

theorem reefBrownOut_within (copyOk : Bool) (recallOk : Bool) : (reefBrownOut copyOk recallOk).Within 0xffffffffffffffffffffffffffffffffffffffffffffffffffffffffffffffffffffffffffffffffffffffffffffffffffffffffffffffffffffffffffffffffffffffffffffffffffffffffffff := by
  unfold reefBrownOut
  repeat' (first
    | with_reducible exact within_skip
    | with_reducible refine within_read fun _ => ?_
    | with_reducible refine within_all_cons ?_ ?_
    | with_reducible refine within_all_one ?_
    | with_reducible refine within_seq ?_ ?_
    | with_reducible refine within_ite ?_ ?_
    | with_reducible refine within_set ?_
    | with_reducible refine (warmStart_within).mono ?_
    | with_reducible refine (powerOnReset_within).mono ?_
    | with_reducible refine (raise_within _ _ _).mono ?_
    | (dsimp only)
    | split
    | rfl)

end Sys2Proof.Machine
end

