-- ==== Sys2Proof/Laws/WithinReaction.lean ====
section
/-!
SUPPORT. What each program of Machine/Reaction.lean can change: one lemma each, over the places of Laws/Acts.lean.
-/

namespace Sys2Proof.Machine

set_option linter.unusedTactic false
set_option linter.unreachableTactic false

theorem homeFails_within (h : Nat) : (homeFails h).Within 0x2c0cc000000000000000000000000000000000000001802800000000000000000000000000000000000000000000000000000000040080000000000800000000000000000000000000000000000 := by
  unfold homeFails
  repeat' (first
    | with_reducible exact within_skip
    | with_reducible refine within_read fun _ => ?_
    | with_reducible refine within_all_cons ?_ ?_
    | with_reducible refine within_all_one ?_
    | with_reducible refine within_seq ?_ ?_
    | with_reducible refine within_lines ?_
    | with_reducible refine within_each fun _ => ?_
    | with_reducible refine (answerError_within _).mono ?_
    | (dsimp only)
    | split
    | rfl)

theorem chanFails_within (c : Nat) : (chanFails c).Within 0x12fcce000000000000000000000000000000000000001802800013e0ea04c008000000000004004bc600080000000000000000000040080000000100800007c5c002000000400000400001000000 := by
  unfold chanFails
  repeat' (first
    | with_reducible exact within_skip
    | with_reducible refine within_read fun _ => ?_
    | with_reducible refine within_all_cons ?_ ?_
    | with_reducible refine within_all_one ?_
    | with_reducible refine within_seq ?_ ?_
    | with_reducible refine within_when ?_
    | with_reducible refine within_inc ?_
    | with_reducible refine within_lines ?_
    | with_reducible refine within_each fun _ => ?_
    | with_reducible refine (answerError_within _).mono ?_
    | with_reducible refine (closeTxn_within _).mono ?_
    | with_reducible refine (wake_within _).mono ?_
    | with_reducible refine (dropLine_within _).mono ?_
    | with_reducible refine (leaveService_within _).mono ?_
    | (dsimp only)
    | split
    | rfl)

theorem queueFails_within (k : Nat) : (queueFails k).Within 0x10080000000000000000000000000000000000000000000000000000000000000000000000000000000000000000000000000000000000000000000000000000000000000000000000000000000 := by
  unfold queueFails
  repeat' (first
    | with_reducible exact within_skip
    | with_reducible refine within_read fun _ => ?_
    | with_reducible refine within_all_cons ?_ ?_
    | with_reducible refine within_all_one ?_
    | with_reducible refine within_seq ?_ ?_
    | with_reducible refine within_each fun _ => ?_
    | with_reducible refine (forgetDesc_within _).mono ?_
    | with_reducible refine (setDesc_within _ _).mono ?_
    | (dsimp only)
    | split
    | rfl)

theorem routerDown_within (r : Nat) (b : Bool) : (routerDown r b).Within 0x9000000000000000000000000000000000000000000000000000000000000000000000000000000000000000000000 := by
  unfold routerDown
  repeat' (first
    | with_reducible exact within_skip
    | with_reducible refine within_read fun _ => ?_
    | with_reducible refine within_all_cons ?_ ?_
    | with_reducible refine within_all_one ?_
    | with_reducible refine within_seq ?_ ?_
    | with_reducible refine within_ite ?_ ?_
    | with_reducible refine within_set ?_
    | with_reducible refine within_each fun _ => ?_
    | with_reducible refine (endDown_within _ _).mono ?_
    | (dsimp only)
    | split
    | rfl)

theorem blockStops_within (id : Nat) : (blockStops id).Within 0x13fccf000000000000000000000000000000000000001802800013e0ea04c098000000000004004bc6000a0c001040bc0001100000407f00000a0101bf8007ddc002000800400000400001200000 := by
  unfold blockStops
  repeat' (first
    | with_reducible exact within_skip
    | with_reducible refine within_read fun _ => ?_
    | with_reducible refine within_all_cons ?_ ?_
    | with_reducible refine within_all_one ?_
    | with_reducible refine within_seq ?_ ?_
    | with_reducible refine within_ite ?_ ?_
    | with_reducible refine within_set ?_
    | with_reducible refine within_each fun _ => ?_
    | with_reducible refine within_some? fun _ => ?_
    | with_reducible refine (attFails_within _).mono ?_
    | with_reducible refine (homeFails_within _).mono ?_
    | with_reducible refine (linkGone_within _).mono ?_
    | with_reducible refine (chanFails_within _).mono ?_
    | with_reducible refine (declareLoss_within _).mono ?_
    | with_reducible refine (queueFails_within _).mono ?_
    | with_reducible refine (straitDown_within _ _).mono ?_
    | with_reducible refine (routerDown_within _ _).mono ?_
    | (dsimp only)
    | split
    | rfl)

theorem stopsDue_within  : stopsDue.Within 0x13fccf000000000000000000000000000000000000001802800013e0ea04c098000000000004004bc6000a0c001040bc0001100000407f00000a0101bf8007ddc002000800400000400001200000 := by
  unfold stopsDue
  repeat' (first
    | with_reducible exact within_skip
    | with_reducible refine within_read fun _ => ?_
    | with_reducible refine within_all_cons ?_ ?_
    | with_reducible refine within_all_one ?_
    | with_reducible refine within_seq ?_ ?_
    | with_reducible refine within_bkw ?_
    | with_reducible refine within_each fun _ => ?_
    | with_reducible refine (blockStops_within _).mono ?_
    | (dsimp only)
    | split
    | rfl)

theorem detect_within (id : Nat) (key : Nat) (data : Nat) : (detect id key data).Within 0x13fccf000000000000000000000000000000000000001802800013e0ea04c098000000000004004bc6000a0c001040bc0001100000407f00000a0101bf8007ddc002000800400000400001200000 := by
  unfold detect
  repeat' (first
    | with_reducible exact within_skip
    | with_reducible refine within_read fun _ => ?_
    | with_reducible refine within_all_cons ?_ ?_
    | with_reducible refine within_all_one ?_
    | with_reducible refine within_seq ?_ ?_
    | with_reducible refine (raise_within _ _ _).mono ?_
    | with_reducible refine (stopsDue_within).mono ?_
    | (dsimp only)
    | split
    | rfl)

theorem tick_within  : tick.Within 0x13fccf000000000000000000000000000008000000001802800013e0ea04c098000000000004004bc6000a0c001040bc0001100000407f00000a0101bf8007ddc002000800400000400001200000 := by
  unfold tick
  repeat' (first
    | with_reducible exact within_skip
    | with_reducible refine within_read fun _ => ?_
    | with_reducible refine within_all_cons ?_ ?_
    | with_reducible refine within_all_one ?_
    | with_reducible refine within_seq ?_ ?_
    | with_reducible refine within_inc ?_
    | with_reducible refine (stopsDue_within).mono ?_
    | (dsimp only)
    | split
    | rfl)

theorem lineLost_within (line : Nat) : (lineLost line).Within 0x6447000000000000000000000000000000000000000002800000000000000000000000000000000000080000000000000000000000000000000100000000000000000000000000000000000000 := by
  unfold lineLost
  repeat' (first
    | with_reducible exact within_skip
    | with_reducible refine within_read fun _ => ?_
    | with_reducible refine within_all_cons ?_ ?_
    | with_reducible refine within_all_one ?_
    | with_reducible refine within_seq ?_ ?_
    | with_reducible refine within_some? fun _ => ?_
    | with_reducible refine (dropLine_within _).mono ?_
    | with_reducible refine (markLines_within _ _ _ _).mono ?_
    | with_reducible refine (mirrorPoison_within _ _).mono ?_
    | (dsimp only)
    | split
    | rfl)

theorem sourceDetect_within (id : Nat) (key : Nat) (data : Nat) : (sourceDetect id key data).Within 0x1bfccf000000000000000000000000000000000000001802800013e0ea04c098000018000c04004bc6000a0c001040bc0001100003c87f00000a0101bf8007ddc002000800600000400001200000 := by
  unfold sourceDetect
  repeat' (first
    | with_reducible exact within_skip
    | with_reducible refine within_read fun _ => ?_
    | with_reducible refine within_all_cons ?_ ?_
    | with_reducible refine within_all_one ?_
    | with_reducible refine within_seq ?_ ?_
    | with_reducible refine within_ite ?_ ?_
    | with_reducible refine within_when ?_
    | with_reducible refine (detect_within _ _ _).mono ?_
    | with_reducible refine (lineLost_within _).mono ?_
    | with_reducible refine (recordError_within _ _ _).mono ?_
    | with_reducible refine (burst_within _ _ _ _).mono ?_
    | with_reducible refine (eccCount_within _ _).mono ?_
    | with_reducible refine (burstLost_within _).mono ?_
    | with_reducible refine (declareLoss_within _).mono ?_
    | with_reducible refine (stopsDue_within).mono ?_
    | (dsimp only)
    | split
    | rfl)

theorem bisnpTimeout_within (h : Nat) : (bisnpTimeout h).Within 0x13fccf000000000000000000000000000000000000001802800013e0ea04c098000000000004004bc6000a0c001040bc0001100000407f00000a0101bf8007ddc002000800400000400001200000 := by
  unfold bisnpTimeout
  repeat' (first
    | with_reducible exact within_skip
    | with_reducible refine within_read fun _ => ?_
    | with_reducible refine within_all_cons ?_ ?_
    | with_reducible refine within_all_one ?_
    | with_reducible refine within_seq ?_ ?_
    | with_reducible refine within_when ?_
    | with_reducible refine (detect_within _ _ _).mono ?_
    | (dsimp only)
    | split
    | rfl)

theorem freeSlot_within (k : Nat) : (freeSlot k).Within 0x80000000000000000000000000000000000000000000000000000e000000000000000000000000000000000000000000000000000000000000000000000000000000000000000000000000000 := by
  unfold freeSlot
  repeat' (first
    | with_reducible exact within_skip
    | with_reducible refine within_read fun _ => ?_
    | with_reducible refine within_all_cons ?_ ?_
    | with_reducible refine within_all_one ?_
    | with_reducible refine within_seq ?_ ?_
    | with_reducible refine within_set ?_
    | with_reducible refine within_bkw ?_
    | (dsimp only)
    | split
    | rfl)

theorem reactionTimeout_within (k : Nat) : (reactionTimeout k).Within 0xc4400000000000000000000000000000000000000000000000000f204800000000000000000000000000000000000000000000000000000000100000000000000000000000000000000000000 := by
  unfold reactionTimeout
  repeat' (first
    | with_reducible exact within_skip
    | with_reducible refine within_read fun _ => ?_
    | with_reducible refine within_all_cons ?_ ?_
    | with_reducible refine within_all_one ?_
    | with_reducible refine within_seq ?_ ?_
    | with_reducible refine within_when ?_
    | with_reducible refine within_inc ?_
    | with_reducible refine (freeSlot_within _).mono ?_
    | with_reducible refine (goFatal_within _ _ _).mono ?_
    | (dsimp only)
    | split
    | rfl)

theorem linkReset_within (id : Nat) : (linkReset id).Within 0x3fccf000000000000000000000000000000000000001802800013e0ea04c008000000000000000000000800001040b8000110000040080000000100800007d5c002000000400000400001000000 := by
  unfold linkReset
  repeat' (first
    | with_reducible exact within_skip
    | with_reducible refine within_read fun _ => ?_
    | with_reducible refine within_all_cons ?_ ?_
    | with_reducible refine within_all_one ?_
    | with_reducible refine within_seq ?_ ?_
    | with_reducible refine within_when ?_
    | with_reducible refine within_bkw ?_
    | with_reducible refine (flush_within _).mono ?_
    | (dsimp only)
    | split
    | rfl)

theorem bkwAck_within (id : Nat) (action : Nat) (late : Bool) : (bkwAck id action late).Within 0x3fccf000000000000000000000000000000000000001802800013e0eabcc008000000000000000000000800001040b8000110000040080000000100800007d5c002000000400000400001000000 := by
  unfold bkwAck
  repeat' (first
    | with_reducible exact within_skip
    | with_reducible refine within_read fun _ => ?_
    | with_reducible refine within_all_cons ?_ ?_
    | with_reducible refine within_all_one ?_
    | with_reducible refine within_seq ?_ ?_
    | with_reducible refine within_ite ?_ ?_
    | with_reducible refine within_when ?_
    | with_reducible refine within_set ?_
    | with_reducible refine (freeSlot_within _).mono ?_
    | with_reducible refine (takeAction_within _ _ _ _).mono ?_
    | with_reducible refine (linkReset_within _).mono ?_
    | (dsimp only)
    | split
    | rfl)

theorem blockStarts_within (id : Nat) : (blockStarts id).Within 0x10000000000000000000000000000000000000000000000000130000000090000000000004004bc600000000000000000000000000000000000000000000000000000000000000000000000000 := by
  unfold blockStarts
  repeat' (first
    | with_reducible exact within_skip
    | with_reducible refine within_read fun _ => ?_
    | with_reducible refine within_all_cons ?_ ?_
    | with_reducible refine within_all_one ?_
    | with_reducible refine within_seq ?_ ?_
    | with_reducible refine within_when ?_
    | with_reducible refine within_set ?_
    | with_reducible refine (spreadAgain_within).mono ?_
    | with_reducible refine (straitDown_within _ _).mono ?_
    | with_reducible refine (routerDown_within _ _).mono ?_
    | (dsimp only)
    | split
    | rfl)

theorem resetSelfTestDone_within (id : Nat) (pass : Bool) : (resetSelfTestDone id pass).Within 0x18000000000000000000000000000000000000000000000000130000000090000000000004004bc600000000000000000000000000000000000000000000000000000000000000000000000000 := by
  unfold resetSelfTestDone
  repeat' (first
    | with_reducible exact within_skip
    | with_reducible refine within_read fun _ => ?_
    | with_reducible refine within_all_cons ?_ ?_
    | with_reducible refine within_all_one ?_
    | with_reducible refine within_seq ?_ ?_
    | with_reducible refine within_ite ?_ ?_
    | with_reducible refine within_when ?_
    | with_reducible refine within_bkw ?_
    | with_reducible refine (returned_within _).mono ?_
    | with_reducible refine (blockStarts_within _).mono ?_
    | with_reducible refine (lhLog_within _ _ _ _ _).mono ?_
    | (dsimp only)
    | split
    | rfl)

theorem copyDirectory_within (h : Nat) (sets : List Nat) : (copyDirectory h sets).Within 0x80000000000000000000000000000000000000000000000000000000000000000000000000000000000000000000000000000000000000000000000000200000000000000000000000000000 := by
  unfold copyDirectory
  repeat' (first
    | with_reducible exact within_skip
    | with_reducible refine within_read fun _ => ?_
    | with_reducible refine within_all_cons ?_ ?_
    | with_reducible refine within_all_one ?_
    | with_reducible refine within_seq ?_ ?_
    | with_reducible refine within_set ?_
    | with_reducible refine within_dir ?_
    | (dsimp only)
    | split
    | rfl)

theorem copyLost_within (line : Nat) : (copyLost line).Within 0x6447000000000000000000000000000000000000000002800000000000000000000000000000000000080000000000000000000000000000000100000000000000000000000000000000000000 := by
  unfold copyLost
  repeat' (first
    | with_reducible exact within_skip
    | with_reducible refine within_read fun _ => ?_
    | with_reducible refine within_all_cons ?_ ?_
    | with_reducible refine within_all_one ?_
    | with_reducible refine within_seq ?_ ?_
    | with_reducible refine within_when ?_
    | with_reducible refine within_lines ?_
    | with_reducible refine within_some? fun _ => ?_
    | with_reducible refine (dropLine_within _).mono ?_
    | with_reducible refine (markLines_within _ _ _ _).mono ?_
    | with_reducible refine (mirrorPoison_within _ _).mono ?_
    | (dsimp only)
    | split
    | rfl)

theorem nextTakeover_within  : nextTakeover.Within 0x800000000000000000000000000000000000000000000000000000200000800000000000000000000000000000000000000000000000000000000000000000000000000000000000000000000 := by
  unfold nextTakeover
  repeat' (first
    | with_reducible exact within_skip
    | with_reducible refine within_read fun _ => ?_
    | with_reducible refine within_all_cons ?_ ?_
    | with_reducible refine within_all_one ?_
    | with_reducible refine within_seq ?_ ?_
    | with_reducible refine within_ite ?_ ?_
    | with_reducible refine within_set ?_
    | with_reducible refine within_bkw ?_
    | with_reducible refine within_free ?_ fun _ => ?_
    | with_reducible refine within_some? fun _ => ?_
    | (dsimp only)
    | split
    | rfl)

theorem resumeHome_within (h : Nat) : (resumeHome h).Within 0x2fcce000000000000000000000000000000000000001802800013e0ea04c00800000000000000000000080000000000000000000040080000000100800007c5c002000000400000400001000000 := by
  unfold resumeHome
  repeat' (first
    | with_reducible exact within_skip
    | with_reducible refine within_read fun _ => ?_
    | with_reducible refine within_all_cons ?_ ?_
    | with_reducible refine within_all_one ?_
    | with_reducible refine within_seq ?_ ?_
    | with_reducible refine within_each fun _ => ?_
    | with_reducible refine (unwait_within _).mono ?_
    | with_reducible refine (begin_within _).mono ?_
    | with_reducible refine (wake_within _).mono ?_
    | (dsimp only)
    | split
    | rfl)

theorem spareTakeover_within (inst : Nat) (lost : TakeoverLoss) : (spareTakeover inst lost).Within 0x2fdcf000000000000000000000000000000000000001802800013e0ef04c00f00000000000000000000080000000000000000000040080000000100800007e5c0020000004000c05e0001000000 := by
  unfold spareTakeover
  repeat' (first
    | with_reducible exact within_skip
    | with_reducible refine within_read fun _ => ?_
    | with_reducible refine within_all_cons ?_ ?_
    | with_reducible refine within_all_one ?_
    | with_reducible refine within_seq ?_ ?_
    | with_reducible refine within_ite ?_ ?_
    | with_reducible refine within_when ?_
    | with_reducible refine within_set ?_
    | with_reducible refine within_bkw ?_
    | with_reducible refine within_free ?_ fun _ => ?_
    | with_reducible refine within_each fun _ => ?_
    | with_reducible refine within_some? fun _ => ?_
    | with_reducible refine (goFatal_within _ _ _).mono ?_
    | with_reducible refine (copyDirectory_within _ _).mono ?_
    | with_reducible refine (recordError_within _ _ _).mono ?_
    | with_reducible refine (copyLost_within _).mono ?_
    | with_reducible refine (tallyUpdate_within _).mono ?_
    | with_reducible refine (lhLog_within _ _ _ _ _).mono ?_
    | with_reducible refine (forward_within _ _ _ _ _).mono ?_
    | with_reducible refine (nextTakeover_within).mono ?_
    | with_reducible refine (resumeHome_within _).mono ?_
    | (dsimp only)
    | split
    | rfl)

theorem faultPulseEnd_within  : faultPulseEnd.Within 0x804000000000000000000000000000000000000000000000000000000800000000000000000000000000000000000000000000000000000000000000000000000000000000000000000000000 := by
  unfold faultPulseEnd
  repeat' (first
    | with_reducible exact within_skip
    | with_reducible refine within_read fun _ => ?_
    | with_reducible refine within_all_cons ?_ ?_
    | with_reducible refine within_all_one ?_
    | with_reducible refine within_seq ?_ ?_
    | with_reducible refine within_bkw ?_
    | with_reducible refine (faultUpdate_within).mono ?_
    | (dsimp only)
    | split
    | rfl)

theorem forceSource_within (id : Nat) : (forceSource id).Within 0x800008000000000000000000000000000000000000000000000000000000000000000000000000000000000000000000000000 := by
  unfold forceSource
  repeat' (first
    | with_reducible exact within_skip
    | with_reducible refine within_read fun _ => ?_
    | with_reducible refine within_all_cons ?_ ?_
    | with_reducible refine within_all_one ?_
    | with_reducible refine within_seq ?_ ?_
    | with_reducible refine within_ite ?_ ?_
    | with_reducible refine within_when ?_
    | with_reducible refine within_set ?_
    | with_reducible refine within_wideBit ?_
    | (dsimp only)
    | split
    | rfl)

end Sys2Proof.Machine
end

