-- ==== Sys2Proof/Laws/WithinStartup.lean ====
section
/-!
SUPPORT. What each program of Machine/Startup.lean can change: one lemma each, over the places of Laws/Acts.lean.
-/

namespace Sys2Proof.Machine

set_option linter.unusedTactic false
set_option linter.unreachableTactic false

theorem startFails_within (err : Nat) (step : Nat) (pop : Nat) (slot : Nat) : (startFails err step pop slot).Within 0x1000000000000000000000000001800000000000000000000013000000000000000000000004000000000000000000000000000000000000000000000000000000000000000000000000000000 := by
  unfold startFails
  repeat' (first
    | with_reducible exact within_skip
    | with_reducible refine within_read fun _ => ?_
    | with_reducible refine within_all_cons ?_ ?_
    | with_reducible refine within_all_one ?_
    | with_reducible refine within_seq ?_ ?_
    | with_reducible refine within_set ?_
    | with_reducible refine (lhLog_within _ _ _ _ _).mono ?_
    | (dsimp only)
    | split
    | rfl)

theorem firmwareRuns_within (k : Nat) (fallback : Nat) : (firmwareRuns k fallback).Within 0x40000000000000000000000000006800000000000000000000000000000000000000000000000000000000000000000000000000000000000000000000000000000000000000000000000000000 := by
  unfold firmwareRuns
  repeat' (first
    | with_reducible exact within_skip
    | with_reducible refine within_read fun _ => ?_
    | with_reducible refine within_all_cons ?_ ?_
    | with_reducible refine within_all_one ?_
    | with_reducible refine within_seq ?_ ?_
    | with_reducible refine within_set ?_
    | with_reducible refine within_fw ?_
    | (dsimp only)
    | split
    | rfl)

theorem tripRecord_within  : tripRecord.Within 0x401000000000000000000000000000000000000000000000000013000000000000000000000000000000000000000000000000000000000000000000000000000000000000000000000000000000 := by
  unfold tripRecord
  repeat' (first
    | with_reducible exact within_skip
    | with_reducible refine within_read fun _ => ?_
    | with_reducible refine within_all_cons ?_ ?_
    | with_reducible refine within_all_one ?_
    | with_reducible refine within_seq ?_ ?_
    | with_reducible refine within_when ?_
    | with_reducible refine within_csw ?_
    | with_reducible refine (lhLog_within _ _ _ _ _).mono ?_
    | (dsimp only)
    | split
    | rfl)

theorem firmwareBoot_within  : firmwareBoot.Within 0x441000000000000000000000000007800000000000000000000013000000000000000000000004000000000000000000000000000000000000000000000000000000000800000000000000000000 := by
  unfold firmwareBoot
  repeat' (first
    | with_reducible exact within_skip
    | with_reducible refine within_read fun _ => ?_
    | with_reducible refine within_all_cons ?_ ?_
    | with_reducible refine within_all_one ?_
    | with_reducible refine within_seq ?_ ?_
    | with_reducible refine within_ite ?_ ?_
    | with_reducible refine within_when ?_
    | with_reducible refine within_set ?_
    | with_reducible refine within_fw ?_
    | with_reducible refine (tripRecord_within).mono ?_
    | with_reducible refine (firmwareRuns_within _ _).mono ?_
    | with_reducible refine (startFails_within _ _ _ _).mono ?_
    | (dsimp only)
    | split
    | rfl)

theorem showDimm_within (ds : List (Option Dimm)) (odd : List Nat) (st : Nat) (d : Nat) : (showDimm ds odd st d).Within 0x3b0000000000000000000000000000000000000000000000000000000000000000000000000000000000000 := by
  unfold showDimm
  repeat' (first
    | with_reducible exact within_skip
    | with_reducible refine within_read fun _ => ?_
    | with_reducible refine within_all_cons ?_ ?_
    | with_reducible refine within_all_one ?_
    | with_reducible refine within_seq ?_ ?_
    | with_reducible refine within_ite ?_ ?_
    | with_reducible refine within_set ?_
    | (dsimp only)
    | split
    | rfl)

theorem trainChan_within (recalled : Nat) (c : Nat) : (trainChan recalled c).Within 0x8000c000000000000000000000000000000000000000000000000000000000000000000004000000000000000000000000000000000000000000000000000000000000000000000000000000000 := by
  unfold trainChan
  repeat' (first
    | with_reducible exact within_skip
    | with_reducible refine within_read fun _ => ?_
    | with_reducible refine within_all_cons ?_ ?_
    | with_reducible refine within_all_one ?_
    | with_reducible refine within_seq ?_ ?_
    | with_reducible refine within_ite ?_ ?_
    | with_reducible refine within_set ?_
    | with_reducible refine within_emit ?_
    | with_reducible refine within_chan ?_
    | with_reducible refine within_draw ?_
    | with_reducible refine within_free ?_ fun _ => ?_
    | (dsimp only)
    | split
    | rfl)

theorem hardRepairs_within  : hardRepairs.Within 0x80004000000000000000000000000000000000000000000000000000000000000000000000000000000000000000000000000000000000000000000000000000000000000000000000000000000 := by
  unfold hardRepairs
  repeat' (first
    | with_reducible exact within_skip
    | with_reducible refine within_read fun _ => ?_
    | with_reducible refine within_all_cons ?_ ?_
    | with_reducible refine within_all_one ?_
    | with_reducible refine within_seq ?_ ?_
    | with_reducible refine within_emit ?_
    | with_reducible refine within_chan ?_
    | with_reducible refine within_each fun _ => ?_
    | (dsimp only)
    | split
    | rfl)

theorem bringUp_within (ds : List (Option Dimm)) (trained : Nat) (recalled : Nat) : (bringUp ds trained recalled).Within 0x8000c000000000000000000000000000000000000000000000000000000000000000013a24502000000000000000000000000000000000000000000000000000000000000000000000000000000 := by
  unfold bringUp
  repeat' (first
    | with_reducible exact within_skip
    | with_reducible refine within_read fun _ => ?_
    | with_reducible refine within_all_cons ?_ ?_
    | with_reducible refine within_all_one ?_
    | with_reducible refine within_seq ?_ ?_
    | with_reducible refine within_ite ?_ ?_
    | with_reducible refine within_set ?_
    | with_reducible refine within_chan ?_
    | with_reducible refine within_each fun _ => ?_
    | with_reducible refine (hardRepairs_within).mono ?_
    | with_reducible refine (trainChan_within _ _).mono ?_
    | (dsimp only)
    | split
    | rfl)

theorem holdRetired_within (d : Nat) : (holdRetired d).Within 0x80000000000000000000000000000000000000000000000000000000000000000000000000000000000000000000000000000000000000000000000000000000000000000000012000000000000 := by
  unfold holdRetired
  repeat' (first
    | with_reducible exact within_skip
    | with_reducible refine within_read fun _ => ?_
    | with_reducible refine within_all_cons ?_ ?_
    | with_reducible refine within_all_one ?_
    | with_reducible refine within_seq ?_ ?_
    | with_reducible refine within_set ?_
    | with_reducible refine within_chan ?_
    | with_reducible refine (closeDimm_within _).mono ?_
    | (dsimp only)
    | split
    | rfl)

theorem initGrain_within (nonce : Nat) : (initGrain nonce).Within 0x181fe4000000000000000000000000000000000000000000000013e0ea04c008000020000000004be6000000080000000000000000000000000001000000000000000002000001fe1e0000000000 := by
  unfold initGrain
  repeat' (first
    | with_reducible exact within_skip
    | with_reducible refine within_read fun _ => ?_
    | with_reducible refine within_all_cons ?_ ?_
    | with_reducible refine within_all_one ?_
    | with_reducible refine within_seq ?_ ?_
    | with_reducible refine within_when ?_
    | with_reducible refine within_set ?_
    | with_reducible refine within_wipe ?_
    | with_reducible refine within_lines ?_
    | with_reducible refine within_dir ?_
    | with_reducible refine within_grain ?_
    | with_reducible refine within_keys ?_
    | with_reducible refine within_each fun _ => ?_
    | with_reducible refine (structMove_within _ _).mono ?_
    | with_reducible refine (holdRetired_within _).mono ?_
    | with_reducible refine (applyResetSet_within).mono ?_
    | with_reducible refine (tallyAll_within).mono ?_
    | (dsimp only)
    | split
    | rfl)

theorem enterService_within  : enterService.Within 0x1000000000000000000000000000040000000000000000000013000000000000000000000000000000000000000000000000000000000000000000000000000000000000000000000000000000 := by
  unfold enterService
  repeat' (first
    | with_reducible exact within_skip
    | with_reducible refine within_read fun _ => ?_
    | with_reducible refine within_all_cons ?_ ?_
    | with_reducible refine within_all_one ?_
    | with_reducible refine within_seq ?_ ?_
    | with_reducible refine within_ite ?_ ?_
    | with_reducible refine within_set ?_
    | with_reducible refine (lhLog_within _ _ _ _ _).mono ?_
    | (dsimp only)
    | split
    | rfl)

theorem startMemory_within (ds : List (Option Dimm)) (trained : Nat) (recalled : Nat) (bootMs : Nat) (nonce : Nat) : (startMemory ds trained recalled bootMs nonce).Within 0x181fec000000000000000000000019840000000000000000000013e0ea04c00800002013a245064be6000000080000000000000000000000000001000000000000000002000001fe1e0000000000 := by
  unfold startMemory
  repeat' (first
    | with_reducible exact within_skip
    | with_reducible refine within_read fun _ => ?_
    | with_reducible refine within_all_cons ?_ ?_
    | with_reducible refine within_all_one ?_
    | with_reducible refine within_seq ?_ ?_
    | with_reducible refine within_ite ?_ ?_
    | with_reducible refine within_set ?_
    | with_reducible refine (bringUp_within _ _ _).mono ?_
    | with_reducible refine (initGrain_within _).mono ?_
    | with_reducible refine (startRecord_within).mono ?_
    | with_reducible refine (enterService_within).mono ?_
    | with_reducible refine (startFails_within _ _ _ _).mono ?_
    | (dsimp only)
    | split
    | rfl)

theorem memoryActive_within (ds : List (Option Dimm)) (spdOk : Bool) (trained : Nat) (recalled : Nat) (bootMs : Nat) (nonce : Nat) : (memoryActive ds spdOk trained recalled bootMs nonce).Within 0x381fec000000000000000000000019840000002800000000000013e0ea04c008002423b3a245064be6000000080000000000000000000000000001000000000000000002000001fe1e0000000000 := by
  unfold memoryActive
  repeat' (first
    | with_reducible exact within_skip
    | with_reducible refine within_read fun _ => ?_
    | with_reducible refine within_all_cons ?_ ?_
    | with_reducible refine within_all_one ?_
    | with_reducible refine within_seq ?_ ?_
    | with_reducible refine within_ite ?_ ?_
    | with_reducible refine within_when ?_
    | with_reducible refine within_set ?_
    | with_reducible refine within_each fun _ => ?_
    | with_reducible refine (profileFall_within).mono ?_
    | with_reducible refine (paceRetarget_within).mono ?_
    | with_reducible refine (showDimm_within _ _ _ _).mono ?_
    | with_reducible refine (startFails_within _ _ _ _).mono ?_
    | with_reducible refine (startMemory_within _ _ _ _ _).mono ?_
    | (dsimp only)
    | split
    | rfl)

theorem serviceChange_within (to' : Nat) (cause : Nat) : (serviceChange to' cause).Within 0x1000000000000000000000000000040000000000000000000013000000000000000000000000000000000000000000000000000000000000000000000000000000000000000000000000000000 := by
  unfold serviceChange
  repeat' (first
    | with_reducible exact within_skip
    | with_reducible refine within_read fun _ => ?_
    | with_reducible refine within_all_cons ?_ ?_
    | with_reducible refine within_all_one ?_
    | with_reducible refine within_seq ?_ ?_
    | with_reducible refine within_set ?_
    | with_reducible refine (lhLog_within _ _ _ _ _).mono ?_
    | (dsimp only)
    | split
    | rfl)

theorem serviceRequest_within (to' : Nat) : (serviceRequest to').Within 0x181fec0000000000000000000000002e0000000000000000000013e0ea04c008000020000000004be6000000080000000000000000000000000001000000000000000002000001fe1e0000000000 := by
  unfold serviceRequest
  repeat' (first
    | with_reducible exact within_skip
    | with_reducible refine within_read fun _ => ?_
    | with_reducible refine within_all_cons ?_ ?_
    | with_reducible refine within_all_one ?_
    | with_reducible refine within_seq ?_ ?_
    | with_reducible refine within_ite ?_ ?_
    | with_reducible refine within_when ?_
    | with_reducible refine within_set ?_
    | with_reducible refine within_free ?_ fun _ => ?_
    | with_reducible refine (serviceChange_within _ _).mono ?_
    | with_reducible refine (initGrain_within _).mono ?_
    | (dsimp only)
    | split
    | rfl)

theorem serviceNormal_within  : serviceNormal.Within 0x181fec0000000000000000000000002e0000000000000000000013e0ea04c008000020000000004be6000000080000000000000000000000000001000000000000000002000001fe1e0000000000 := by
  unfold serviceNormal
  repeat' (first
    | with_reducible exact within_skip
    | with_reducible refine within_read fun _ => ?_
    | with_reducible refine within_all_cons ?_ ?_
    | with_reducible refine within_all_one ?_
    | with_reducible refine within_seq ?_ ?_
    | with_reducible refine (serviceRequest_within _).mono ?_
    | (dsimp only)
    | split
    | rfl)

theorem serviceRecovery_within  : serviceRecovery.Within 0x181fec0000000000000000000000002e0000000000000000000013e0ea04c008000020000000004be6000000080000000000000000000000000001000000000000000002000001fe1e0000000000 := by
  unfold serviceRecovery
  repeat' (first
    | with_reducible exact within_skip
    | with_reducible refine within_read fun _ => ?_
    | with_reducible refine within_all_cons ?_ ?_
    | with_reducible refine within_all_one ?_
    | with_reducible refine within_seq ?_ ?_
    | with_reducible refine (serviceRequest_within _).mono ?_
    | (dsimp only)
    | split
    | rfl)

theorem serviceTest_within  : serviceTest.Within 0x181fec0000000000000000000000002e0000000000000000000013e0ea04c008000020000000004be6000000080000000000000000000000000001000000000000000002000001fe1e0000000000 := by
  unfold serviceTest
  repeat' (first
    | with_reducible exact within_skip
    | with_reducible refine within_read fun _ => ?_
    | with_reducible refine within_all_cons ?_ ?_
    | with_reducible refine within_all_one ?_
    | with_reducible refine within_seq ?_ ?_
    | with_reducible refine (serviceRequest_within _).mono ?_
    | (dsimp only)
    | split
    | rfl)

theorem pilotWatchdog_within (third : Bool) : (pilotWatchdog third).Within 0x1c44000000000000000000000000040000000000000000000013e0ea04c00800000000000000000000000000000000000000000000000000000100000000000000000000000000000000000000 := by
  unfold pilotWatchdog
  repeat' (first
    | with_reducible exact within_skip
    | with_reducible refine within_read fun _ => ?_
    | with_reducible refine within_all_cons ?_ ?_
    | with_reducible refine within_all_one ?_
    | with_reducible refine within_seq ?_ ?_
    | with_reducible refine within_when ?_
    | with_reducible refine (raise_within _ _ _).mono ?_
    | with_reducible refine (serviceChange_within _ _).mono ?_
    | (dsimp only)
    | split
    | rfl)

theorem svnRaise_within  : svnRaise.Within 0x20000000000000000000000000000000000000000000000000000000000000000000000000000000000000000000000000000000000000000000000000000000 := by
  unfold svnRaise
  repeat' (first
    | with_reducible exact within_skip
    | with_reducible refine within_read fun _ => ?_
    | with_reducible refine within_all_cons ?_ ?_
    | with_reducible refine within_all_one ?_
    | with_reducible refine within_seq ?_ ?_
    | with_reducible refine within_set ?_
    | (dsimp only)
    | split
    | rfl)

theorem svnCommit_within  : svnCommit.Within 0x20020000000000000000000000000000000000000000000000000000000000000000000000000000000000000000000000000000000000000000000000000000 := by
  unfold svnCommit
  repeat' (first
    | with_reducible exact within_skip
    | with_reducible refine within_read fun _ => ?_
    | with_reducible refine within_all_cons ?_ ?_
    | with_reducible refine within_all_one ?_
    | with_reducible refine within_seq ?_ ?_
    | with_reducible refine within_when ?_
    | with_reducible refine within_set ?_
    | with_reducible refine (svnRaise_within).mono ?_
    | (dsimp only)
    | split
    | rfl)

theorem svnAutoRaise_within  : svnAutoRaise.Within 0x20000000000000000000000000000000000000000000000000000000000000000000000000000000000000000000000000000000000000000000000000000000 := by
  unfold svnAutoRaise
  repeat' (first
    | with_reducible exact within_skip
    | with_reducible refine within_read fun _ => ?_
    | with_reducible refine within_all_cons ?_ ?_
    | with_reducible refine within_all_one ?_
    | with_reducible refine within_seq ?_ ?_
    | with_reducible refine within_when ?_
    | with_reducible refine (svnRaise_within).mono ?_
    | (dsimp only)
    | split
    | rfl)

theorem bistRun_within (failing : List Nat) : (bistRun failing).Within 0x100c000000000000000000000400020000000000000000000013000000000000000000000000000000000000000000000000000000000000000000000000000000000000000000000000000000 := by
  unfold bistRun
  repeat' (first
    | with_reducible exact within_skip
    | with_reducible refine within_read fun _ => ?_
    | with_reducible refine within_all_cons ?_ ?_
    | with_reducible refine within_all_one ?_
    | with_reducible refine within_seq ?_ ?_
    | with_reducible refine within_ite ?_ ?_
    | with_reducible refine within_set ?_
    | with_reducible refine within_emit ?_
    | with_reducible refine within_each fun _ => ?_
    | with_reducible refine (lhUnlisted_within).mono ?_
    | (dsimp only)
    | split
    | rfl)

theorem testEn_within (s : Session) (index : Nat) (v : Bool) : (testEn s index v).Within 0x4000000000000000000000000400000000000000000000000000000000000000000000000000000000000000000000000000000000000000000000000000000001000000000000000000000 := by
  unfold testEn
  repeat' (first
    | with_reducible exact within_skip
    | with_reducible refine within_read fun _ => ?_
    | with_reducible refine within_all_cons ?_ ?_
    | with_reducible refine within_all_one ?_
    | with_reducible refine within_seq ?_ ?_
    | with_reducible refine within_when ?_
    | with_reducible refine within_set ?_
    | with_reducible refine (keyAnswer_within _ _ _ _).mono ?_
    | (dsimp only)
    | split
    | rfl)

theorem spdmAnswer_within (r : SpdmReq) (fields : List Nat) : (spdmAnswer r fields).Within 0x4000000000000000000000000000000000000000000000000000000000000000000000000000000000000000000000000000000000000000000000000000000000000000000000000000000 := by
  unfold spdmAnswer
  repeat' (first
    | with_reducible exact within_skip
    | with_reducible refine within_read fun _ => ?_
    | with_reducible refine within_all_cons ?_ ?_
    | with_reducible refine within_all_one ?_
    | with_reducible refine within_seq ?_ ?_
    | with_reducible refine within_emit ?_
    | (dsimp only)
    | split
    | rfl)

theorem spdmError_within (code : Nat) : (spdmError code).Within 0x4000000000000000000000000000000000000000000000000000000000000000000000000000000000000000000000000000000000000000000000000000000000000000000000000000000 := by
  unfold spdmError
  repeat' (first
    | with_reducible exact within_skip
    | with_reducible refine within_read fun _ => ?_
    | with_reducible refine within_all_cons ?_ ?_
    | with_reducible refine within_all_one ?_
    | with_reducible refine within_seq ?_ ?_
    | with_reducible refine within_emit ?_
    | (dsimp only)
    | split
    | rfl)

theorem spdmRequest_within (r : SpdmReq) : (spdmRequest r).Within 0x40004000000000000000000000000000000000000000000000000000000000000000000000000000000000000000000000000000000000000000000000000000000000000000000000000000000 := by
  unfold spdmRequest
  repeat' (first
    | with_reducible exact within_skip
    | with_reducible refine within_read fun _ => ?_
    | with_reducible refine within_all_cons ?_ ?_
    | with_reducible refine within_all_one ?_
    | with_reducible refine within_seq ?_ ?_
    | with_reducible refine within_ite ?_ ?_
    | with_reducible refine within_when ?_
    | with_reducible refine within_set ?_
    | with_reducible refine within_fw ?_
    | with_reducible refine (spdmAnswer_within _ _).mono ?_
    | with_reducible refine (spdmError_within _).mono ?_
    | (dsimp only)
    | split
    | rfl)

theorem pldmRequest_within (r : PldmReq) : (pldmRequest r).Within 0x4000000000000000000000000000000000000000000000000000000000000000000000000000000000000000000000000000000000000000000000000000000000000000000000000000000 := by
  unfold pldmRequest
  repeat' (first
    | with_reducible exact within_skip
    | with_reducible refine within_read fun _ => ?_
    | with_reducible refine within_all_cons ?_ ?_
    | with_reducible refine within_all_one ?_
    | with_reducible refine within_seq ?_ ?_
    | with_reducible refine within_when ?_
    | with_reducible refine within_emit ?_
    | (dsimp only)
    | split
    | rfl)

theorem mctpControl_within (op : MctpOp) : (mctpControl op).Within 0x40004000000000000000000000000000000000000000000000000000000000000000000000000000000000000000000000000000000000000000000000000000000000000000000000000000000 := by
  unfold mctpControl
  repeat' (first
    | with_reducible exact within_skip
    | with_reducible refine within_read fun _ => ?_
    | with_reducible refine within_all_cons ?_ ?_
    | with_reducible refine within_all_one ?_
    | with_reducible refine within_seq ?_ ?_
    | with_reducible refine within_ite ?_ ?_
    | with_reducible refine within_set ?_
    | with_reducible refine within_emit ?_
    | with_reducible refine within_fw ?_
    | (dsimp only)
    | split
    | rfl)

theorem entdaa_within  : entdaa.Within 0x40000000000000000000000000000000000000000000000000000000000000000000000000000000000000000000000000000000000000000000000000000000000000000000000000000000000 := by
  unfold entdaa
  repeat' (first
    | with_reducible exact within_skip
    | with_reducible refine within_read fun _ => ?_
    | with_reducible refine within_all_cons ?_ ?_
    | with_reducible refine within_all_one ?_
    | with_reducible refine within_seq ?_ ?_
    | with_reducible refine within_fw ?_
    | (dsimp only)
    | split
    | rfl)

theorem tapInstruction_within (ir : TapIr) : (tapInstruction ir).Within 0x4000c000000000000000000000000000000000000000000000000000000000000000000000000000000000000000000000000000000000000000000000000000000000000000000000000000000 := by
  unfold tapInstruction
  repeat' (first
    | with_reducible exact within_skip
    | with_reducible refine within_read fun _ => ?_
    | with_reducible refine within_all_cons ?_ ?_
    | with_reducible refine within_all_one ?_
    | with_reducible refine within_seq ?_ ?_
    | with_reducible refine within_ite ?_ ?_
    | with_reducible refine within_emit ?_
    | with_reducible refine within_fw ?_
    | with_reducible refine within_free ?_ fun _ => ?_
    | (dsimp only)
    | split
    | rfl)

theorem sledIdSample_within (v : Nat) : (sledIdSample v).Within 0x4100c000000000000000000000000000000000000000000000013000000000000000000000000000000000000000000000000000000000000000000000000000000000000000000000000000000 := by
  unfold sledIdSample
  repeat' (first
    | with_reducible exact within_skip
    | with_reducible refine within_read fun _ => ?_
    | with_reducible refine within_all_cons ?_ ?_
    | with_reducible refine within_all_one ?_
    | with_reducible refine within_seq ?_ ?_
    | with_reducible refine within_when ?_
    | with_reducible refine within_emit ?_
    | with_reducible refine within_fw ?_
    | with_reducible refine (lhUnlisted_within).mono ?_
    | (dsimp only)
    | split
    | rfl)

theorem locateChange_within (low : Bool) : (locateChange low).Within 0x40004000000000000000000000000000000000000000000000000000000000000000000000000000000000000000000000000000000000000000000000000000000000000000000000000000000 := by
  unfold locateChange
  repeat' (first
    | with_reducible exact within_skip
    | with_reducible refine within_read fun _ => ?_
    | with_reducible refine within_all_cons ?_ ?_
    | with_reducible refine within_all_one ?_
    | with_reducible refine within_seq ?_ ?_
    | with_reducible refine within_emit ?_
    | with_reducible refine within_fw ?_
    | (dsimp only)
    | split
    | rfl)

theorem junctionTempSample_within (t : Nat) : (junctionTempSample t).Within 0x240004000000000000000000000000000000002000000000000000000000000000240000000000024000000000000000000000000000000000000000000000000000000000000000000000000000 := by
  unfold junctionTempSample
  repeat' (first
    | with_reducible exact within_skip
    | with_reducible refine within_read fun _ => ?_
    | with_reducible refine within_all_cons ?_ ?_
    | with_reducible refine within_all_one ?_
    | with_reducible refine within_seq ?_ ?_
    | with_reducible refine within_fw ?_
    | with_reducible refine (sensorEvent_within _ _ _).mono ?_
    | with_reducible refine (profileFall_within).mono ?_
    | (dsimp only)
    | split
    | rfl)

end Sys2Proof.Machine
end

