-- ==== Sys2Proof/Laws/WithinSetup.lean ====
section
/-!
SUPPORT. What each program of Machine/Setup.lean can change: one lemma each, over the places of Laws/Acts.lean.
-/

namespace Sys2Proof.Machine

set_option linter.unusedTactic false
set_option linter.unreachableTactic false

theorem wordReadEffect_within (p : Path) (a : Nat) : (wordReadEffect p a).Within 0x108000000000000000000000000000000000000000000000000000000000000000000000000000000000000000000000000000000000000000000000000000000000000000000000000000000 := by
  unfold wordReadEffect
  repeat' (first
    | with_reducible exact within_skip
    | with_reducible refine within_read fun _ => ?_
    | with_reducible refine within_all_cons ?_ ?_
    | with_reducible refine within_all_one ?_
    | with_reducible refine within_seq ?_ ?_
    | with_reducible refine within_when ?_
    | with_reducible refine within_draw ?_
    | with_reducible refine within_each fun _ => ?_
    | with_reducible refine (grnLatch_within _ _).mono ?_
    | (dsimp only)
    | split
    | rfl)

theorem laneWrite_within (f : Fld) (i v : Nat)  : (laneWrite f i v).Within 0xffffffffffffffffffffffffffffffffffffffffffffffffffffffffffffffffffffffffffffffffffffffffffffffffffffffffffffffffffffffffffffffffffffffffffffffffffffffffffff :=
  Act.within_everywhere _

theorem pairOrder_within (atoll : Nat) (peer : Nat) (mode : Nat) (role : Nat) : (pairOrder atoll peer mode role).Within 0x2fcce000000000000000000000000000000000000001802800013e0ea04c008000000000000000000000f02f0002000000000000040080000000100800007c5c002000000400000400001300100 := by
  unfold pairOrder
  repeat' (first
    | with_reducible exact within_skip
    | with_reducible refine within_read fun _ => ?_
    | with_reducible refine within_all_cons ?_ ?_
    | with_reducible refine within_all_one ?_
    | with_reducible refine within_seq ?_ ?_
    | with_reducible refine (pairUnpair_within _ _ _).mono ?_
    | with_reducible refine (pairMirror_within _ _ _).mono ?_
    | with_reducible refine (pairDualHome_within _ _ _).mono ?_
    | with_reducible refine (pairPromote_within _ _ _).mono ?_
    | with_reducible refine (pairHandover_within _ _ _).mono ?_
    | (dsimp only)
    | split
    | rfl)

theorem startsAct_within (l : List Put) (f : Fld) (i v : Nat)  : (startsAct l f i v).Within 0xffffffffffffffffffffffffffffffffffffffffffffffffffffffffffffffffffffffffffffffffffffffffffffffffffffffffffffffffffffffffffffffffffffffffffffffffffffffffffff :=
  Act.within_everywhere _

theorem putAct_within (bytes : Nat) (f : Fld) (i v : Nat)  : (putAct bytes f i v).Within 0xffffffffffffffffffffffffffffffffffffffffffffffffffffffffffffffffffffffffffffffffffffffffffffffffffffffffffffffffffffffffffffffffffffffffffffffffffffffffffff :=
  Act.within_everywhere _

theorem wordApply_within (b : Blk) (bytes : Nat) (l : List Put)  : (wordApply b bytes l).Within 0xffffffffffffffffffffffffffffffffffffffffffffffffffffffffffffffffffffffffffffffffffffffffffffffffffffffffffffffffffffffffffffffffffffffffffffffffffffffffffff :=
  Act.within_everywhere _

theorem wordRefusal_within (b : Blk) (l : List Put)  : (wordRefusal b l).Within 0xffffffffffffffffffffffffffffffffffffffffffffffffffffffffffffffffffffffffffffffffffffffffffffffffffffffffffffffffffffffffffffffffffffffffffffffffffffffffffff :=
  Act.within_everywhere _

theorem blockWrite_within (b : Blk) (w : WordWrite)  : (blockWrite b w).Within 0xffffffffffffffffffffffffffffffffffffffffffffffffffffffffffffffffffffffffffffffffffffffffffffffffffffffffffffffffffffffffffffffffffffffffffffffffffffffffffff :=
  Act.within_everywhere _

theorem wordWrite_within (p : Path) (w : WordWrite)  : (wordWrite p w).Within 0xffffffffffffffffffffffffffffffffffffffffffffffffffffffffffffffffffffffffffffffffffffffffffffffffffffffffffffffffffffffffffffffffffffffffffffffffffffffffffff :=
  Act.within_everywhere _

theorem registerWrite_within (p : Path) (addr size value : Nat)  : (registerWrite p addr size value).Within 0xffffffffffffffffffffffffffffffffffffffffffffffffffffffffffffffffffffffffffffffffffffffffffffffffffffffffffffffffffffffffffffffffffffffffffffffffffffffffffff :=
  Act.within_everywhere _

theorem mctpRead_within (e : Nat) : ∀ l c bs, (mctpRead e l c bs).Within 0x10c000000000000000000000000000000000000000000000000000000000000000000000000000000000000000000000000000000000000000000000000000000000000000000000000000000
  | [], _, _ => within_emit rfl
  | (a, n) :: l, c, bs => by
    unfold mctpRead
    repeat' (first
      | with_reducible exact within_skip
      | with_reducible exact mctpRead_within e l _ _
      | with_reducible refine within_read fun _ => ?_
      | with_reducible refine within_all_cons ?_ ?_
      | with_reducible refine within_all_one ?_
      | with_reducible refine within_seq ?_ ?_
      | with_reducible refine within_ite ?_ ?_
      | with_reducible refine within_when ?_
      | with_reducible refine within_emit ?_
      | with_reducible refine (wordReadEffect_within _ _).mono ?_
      | (dsimp only)
      | split
      | rfl)

theorem mctpWrite_within (e : Nat) (x0 : List WordWrite) (x1 : Nat) : (mctpWrite e x0 x1).Within 0xffffffffffffffffffffffffffffffffffffffffffffffffffffffffffffffffffffffffffffffffffffffffffffffffffffffffffffffffffffffffffffffffffffffffffffffffffffffffffff :=
  Act.within_everywhere _

theorem mctpSetupAccess_within (e : Nat) (write : Bool) (off len : Nat) (data : List Byte)  : (mctpSetupAccess e write off len data).Within 0xffffffffffffffffffffffffffffffffffffffffffffffffffffffffffffffffffffffffffffffffffffffffffffffffffffffffffffffffffffffffffffffffffffffffffffffffffffffffffff :=
  Act.within_everywhere _

theorem setupLock_within  : setupLock.Within 0x30000000000000000000000000000000000000000000000000000000000000000000000000000000000000000000000000000000000000000000000000000 := by
  unfold setupLock
  repeat' (first
    | with_reducible exact within_skip
    | with_reducible refine within_read fun _ => ?_
    | with_reducible refine within_all_cons ?_ ?_
    | with_reducible refine within_all_one ?_
    | with_reducible refine within_seq ?_ ?_
    | with_reducible refine within_set ?_
    | (dsimp only)
    | split
    | rfl)

end Sys2Proof.Machine
end

