-- ==== Sys2Proof/WellFormed.lean ====
section
/-!
DEFINITION. Which commands are well formed: their operands name what the larger sled has, and the shapes that the manual gives them.
A meaning takes any operands; a command that names something absent changes nothing, or is refused as the manual says.
-/

namespace Sys2Proof

/-- A head (Table 0.2). -/
def headOk (h : Nat) : Bool := decide (h < 64)
/-- A logical device (Table 0.2). -/
def ldOk (n : Nat) : Bool := decide (n < 256)
/-- An atoll (Table 0.2). -/
def atollOk (n : Nat) : Bool := decide (n < 4096)
/-- A view slot (Table 0.2). -/
def viewOk (v : Nat) : Bool := decide (v < 16384)
/-- A port group (Table 0.2). -/
def groupOk (g : Nat) : Bool := decide (g < 16)
/-- A queue pair (Table 0.2). -/
def qpOk (q : Nat) : Bool := decide (q < 8192)
/-- A queue islet (Table 1.4). -/
def isletOk (k : Nat) : Bool := decide (k < 4)
/-- A home (Table 1.4). -/
def homeOk (h : Nat) : Bool := decide (h < 32)
/-- A channel (Table 0.2). -/
def chanOk (c : Nat) : Bool := decide (c < 16)
/-- A DIMM slot (Table 0.2). -/
def dimmOk (d : Nat) : Bool := decide (d < 32)
/-- A Boesque link slot (R260). -/
def linkOk (l : Nat) : Bool := decide (l < 16)
/-- A Boesque port (R258). -/
def portOk (p : Nat) : Bool := decide (p < 2)
/-- A rotation slot (R171). -/
def rotOk (s : Nat) : Bool := decide (s < 8)
/-- A line of global DPA, of 45 bits (R34). -/
def lineOk (l : Nat) : Bool := decide (l < 2 ^ 39)
/-- A page of global DPA. -/
def pageOk (p : Nat) : Bool := decide (p < 2 ^ 33)
/-- An LD DPA (R35). -/
def dpaOk (a : Nat) : Bool := decide (a < 2 ^ 45)
/-- A range of DPA that is not empty. -/
def rangeOk (r : Range) : Bool := decide (0 < r.len ∧ r.base + r.len ≤ 2 ^ 45)

/-- The EID of a path is a byte. -/
def Path.ok : Path → Bool
  | .mf => true
  | .mctp e => decide (e < 256)

/-- A session's roles are three bits, and only mutual authentication gives any (R446). -/
def Session.ok (s : Session) : Bool := decide (s.roles < 8) && (s.mutualAuth || s.roles == 0)

/-- A message's sleds and codes have the widths of Table 12.4. -/
def Msg.ok (x : Msg) : Bool := decide (x.src < 8 ∧ x.home < 8 ∧ x.code < 256) && lineOk x.line

/-- The LD of a mailbox exists. -/
def Mbox.ok : Mbox → Bool
  | .ld n => ldOk n
  | .mgmt => true
  | .fmapi => true

/-- The user of a Ferry port exists. -/
def FerryPort.ok : FerryPort → Bool
  | .ld n => ldOk n
  | .mctp e => decide (e < 256)

/-- A frame's header fields have their widths, and its messages are well formed (Table 12.4). -/
def Frame.ok (f : Frame) : Bool := decide (f.cls < 8 ∧ f.src < 8 ∧ f.dst < 8 ∧ f.seq < 2 ^ 32) && f.msgs.all Msg.ok

/-- A HELLO names a sled and a port (Table 12.8). -/
def Hello.ok (h : Hello) : Bool := decide (h.sled < 8 ∧ h.port < 2)

/-- An AtomicOp has one of the operand sizes of PCIe (R195). -/
def PcieAtomic.ok : PcieAtomic → Bool
  | .fetchAdd b => b == 32 || b == 64
  | .swap b => b == 32 || b == 64
  | .cas b => b == 32 || b == 64 || b == 128

/-- A command is well formed. -/
def Instr.wf : Instr → Bool
  | .registerWrite p addr size _ => p.ok && decide (addr < 2 ^ 26) && decide (size = 4 ∨ size = 8)
  | .mctpSetupAccess _ _ off len _ => decide (off % 8 = 0 ∧ off < 2 ^ 26) && decide (len % 4 = 0 ∧ 4 ≤ len ∧ len ≤ 256)
  | .setupLock => true
  | .viewOpen v ld atoll _ => viewOk v && ldOk ld && atollOk atoll
  | .viewClose v => viewOk v
  | .viewCloseComplete v => viewOk v
  | .atollEntryWrite n _ _ => atollOk n
  | .atollBuild n => atollOk n
  | .atollUnbuild n => atollOk n
  | .atollAdmit n => atollOk n
  | .atollLiveChange n _ _ => atollOk n
  | .atollRetire n => atollOk n
  | .atollRetireComplete n => atollOk n
  | .addCapacityOffer => true
  | .flitSlot h _ _ _ _ => headOk h
  | .memrd ld dpa _ _ => ldOk ld && dpaOk dpa
  | .memrddata ld dpa _ _ => ldOk ld && dpaOk dpa
  | .dramDataReturn _ _ => true
  | .lockedRequestResume pn => pageOk pn
  | .memwr ld dpa _ _ _ => ldOk ld && dpaOk dpa
  | .memwrptl ld dpa _ _ _ mask => ldOk ld && dpaOk dpa && decide (mask < 2 ^ 64)
  | .partialMerge _ _ => true
  | .writeBack line => lineOk line
  | .patienceExpire _ => true
  | .stripeTransfer => true
  | .trim pn => pageOk pn
  | .sink pn => pageOk pn
  | .lift pn _ => pageOk pn
  | .liftBlockFound pn => pageOk pn
  | .relocation pn _ => pageOk pn
  | .oldPlotsFree => true
  | .compaction h => homeOk h
  | .sweepVisit h => homeOk h
  | .levelLeave h => homeOk h
  | .releaseRequestEval => true
  | .revocation ld _ => ldOk ld
  | .exhaustionRecord => true
  | .grnElasticEnWrite _ => true
  | .grnFreeRead p h => p.ok && homeOk h
  | .heatPeriodAdvance => true
  | .coldScanVisit pn => pageOk pn
  | .heatLift pn => pageOk pn
  | .pageRecall pn => pageOk pn
  | .keySet s _ _ _ => s.ok
  | .keyZero s _ _ => s.ok
  | .keyStatus s _ _ => s.ok
  | .keyMaterialWrite _ _ => true
  | .reseal line => lineOk line
  | .rotationAutoStart atoll => atollOk atoll
  | .nextKeyReminder atoll => atollOk atoll
  | .tdlSlotStart slot atoll => rotOk slot && atollOk atoll
  | .tdlSlotPause _ _ => true
  | .tidelinePageRotate slot => rotOk slot
  | .imageRewrite slot => rotOk slot
  | .rotationFinish slot => rotOk slot
  | .rdCur m => m.ok
  | .rdShd m => m.ok
  | .rdOwn m => m.ok
  | .wrLine m => m.ok
  | .wrPtl m => m.ok
  | .atom m => m.ok
  | .snpInv m => m.ok
  | .snpShd m => m.ok
  | .fwdShd m => m.ok
  | .fwdOwn m => m.ok
  | .snpResolve m => m.ok
  | .ackI m => m.ok
  | .ackS m => m.ok
  | .ackWb m => m.ok
  | .cmp m => m.ok
  | .cmpErr m => m.ok
  | .gntAck m => m.ok
  | .clnEvict m => m.ok
  | .wbAck m => m.ok
  | .fwdFail m => m.ok
  | .data m => m.ok
  | .wb m => m.ok
  | .wbKeep m => m.ok
  | .snpData m => m.ok
  | .fwdData m => m.ok
  | .visitorEviction _ line => lineOk line
  | .memclnevct ld dpa _ => ldOk ld && dpaOk dpa
  | .headWriteBack ld dpa _ _ _ mask => ldOk ld && dpaOk dpa && decide (mask < 2 ^ 64)
  | .birspi h line => headOk h && lineOk line
  | .birsps h line => headOk h && lineOk line
  | .birspe h line => headOk h && lineOk line
  | .biconflict h line => headOk h && lineOk line
  | .bisnpTimeout h => headOk h
  | .pcieAtomicop ld _ _ op _ _ => ldOk ld && op.ok
  | .hbrGrpBifurWrite g _ => groupOk g
  | .hbrGrpEnWrite g _ => groupOk g
  | .hbrLdWrite n _ head _ => ldOk n && headOk head
  | .hbrMgmtHeadWrite h => headOk h
  | .hbrHeadResvWrite h _ => headOk h
  | .headEnterL0 h _ _ _ => headOk h
  | .headRetrain h _ => headOk h
  | .linkDown h => headOk h
  | .flr ld => ldOk ld
  | .cxlReset ld => ldOk ld
  | .mgmtLinkDown => true
  | .identify mb => mb.ok
  | .backgroundOperationStatus mb => mb.ok
  | .getResponseMessageLimit mb => mb.ok
  | .getEventRecords mb _ => mb.ok
  | .clearEventRecords mb _ _ _ => mb.ok
  | .getEventInterruptPolicy mb => mb.ok
  | .setEventInterruptPolicy mb _ => mb.ok
  | .getFwInfo mb => mb.ok
  | .transferFw mb slot _ => mb.ok && decide (1 ≤ slot ∧ slot ≤ 3)
  | .activateFw mb slot _ _ => mb.ok && decide (1 ≤ slot ∧ slot ≤ 3)
  | .getTimestamp mb => mb.ok
  | .setTimestamp mb _ => mb.ok
  | .getSupportedLogs mb => mb.ok
  | .getLog mb _ _ _ => mb.ok
  | .getSupportedFeatures mb => mb.ok
  | .getFeature mb _ => mb.ok
  | .setFeature mb _ _ => mb.ok
  | .identifyMemoryDevice mb => mb.ok
  | .getPartitionInfo mb => mb.ok
  | .getPoisonList mb dpa _ => mb.ok && dpaOk dpa
  | .injectPoison mb dpa => mb.ok && dpaOk dpa
  | .clearPoison mb dpa _ => mb.ok && dpaOk dpa
  | .getScanMediaCapabilities mb dpa _ => mb.ok && dpaOk dpa
  | .scanMedia mb dpa _ => mb.ok && dpaOk dpa
  | .getScanMediaResults mb => mb.ok
  | .getDynamicCapacityConfiguration mb => mb.ok
  | .getDynamicCapacityExtentList mb => mb.ok
  | .addDynamicCapacityResponse mb exts => mb.ok && exts.all rangeOk
  | .releaseDynamicCapacity mb exts => mb.ok && exts.all rangeOk
  | .getLdInfo h => headOk h
  | .getLdAllocations _ _ => true
  | .setLdAllocations _ _ => true
  | .getQosControl => true
  | .getQosStatus => true
  | .getMultiHeadedInfo => true
  | .getHeadInfo h => headOk h
  | .getDcdInfo => true
  | .getHostDcRegionConfiguration ld => ldOk ld
  | .getDcRegionExtentLists ld => ldOk ld
  | .initiateDynamicCapacityRelease ld ext => ldOk ld && rangeOk ext
  | .mailboxUnsupported mb _ => mb.ok
  | .qpEnable q => qpOk q
  | .qpDisable q => qpOk q
  | .qpDrained q => qpOk q
  | .qpControlPageWrite ld q _ => ldOk ld && qpOk q
  | .bellWrite ld dpa _ mask => ldOk ld && dpaOk dpa && decide (mask < 2 ^ 64)
  | .bellRead ld dpa _ => ldOk ld && dpaOk dpa
  | .qpMgmtBell q _ => qpOk q
  | .descriptorFetch q _ => qpOk q
  | .descriptorTurn islet _ => isletOk islet
  | .descriptorComplete q _ _ => qpOk q
  | .nop q _ => qpOk q
  | .fence q _ => qpOk q
  | .copy q _ _ => qpOk q
  | .fill q _ => qpOk q
  | .zero q _ => qpOk q
  | .compare q _ _ => qpOk q
  | .moveTier q _ => qpOk q
  | .pin q _ => qpOk q
  | .unpin q _ => qpOk q
  | .hintHeat q _ => qpOk q
  | .offshorePush q _ => qpOk q
  | .recall q _ => qpOk q
  | .atomic q _ _ => qpOk q
  | .sealRotate q _ => qpOk q
  | .mirrorSync q _ => qpOk q
  | .sampleDrain q _ => qpOk q
  | .statsSummary q _ => qpOk q
  | .statsRecords q _ => qpOk q
  | .invalidOpcode q _ => qpOk q
  | .irqCoalesceTimeout q => qpOk q
  | .ferryWriteBurst w _ _ => w.ok
  | .ferryReadBurst w _ => w.ok
  | .ferryCursorWrite w _ _ => w.ok
  | .ferryMgmtAccess _ => true
  | .ferryAtomicop ld _ => ldOk ld
  | .portEnable p _ => portOk p
  | .linkEnable l _ => linkOk l
  | .anTxWrite l _ => linkOk l
  | .frameReceive p f => portOk p && f.ok
  | .packetSend l cls _ _ => linkOk l && decide (cls < 5)
  | .hello l h => linkOk l && h.ok
  | .ack l _ => linkOk l
  | .nak l _ _ => linkOk l
  | .keepalive l _ => linkOk l
  | .reneg l _ _ _ _ => linkOk l
  | .renegAns l _ _ => linkOk l
  | .helloTimer l => linkOk l
  | .keepaliveTimer l => linkOk l
  | .ackTimer l => linkOk l
  | .nakRepeat l => linkOk l
  | .replayTimeout l => linkOk l
  | .landingStallTimeout l => linkOk l
  | .renegRetry l => linkOk l
  | .portLaneChange p _ => portOk p
  | .linkLoss l => linkOk l
  | .graceExpiry l => linkOk l
  | .flushComplete l => linkOk l
  | .join m => m.ok
  | .leave m => m.ok
  | .imgPut m => m.ok
  | .imgGet m => m.ok
  | .imgRelease m => m.ok
  | .imgEvict m => m.ok
  | .imgData m => m.ok
  | .mirWr m => m.ok
  | .mirOwn m => m.ok
  | .mirPage m => m.ok
  | .mirFetch m => m.ok
  | .pair m => m.ok
  | .claim m => m.ok
  | .heal m => m.ok
  | .handover m => m.ok
  | .rmtBind m => m.ok
  | .svcAck m => m.ok
  | .arcEnWrite _ => true
  | .arcHoldGroupsWrite _ => true
  | .pairUnpair atoll peer role => atollOk atoll && decide (peer < 8) && decide (role < 2)
  | .pairMirror atoll peer role => atollOk atoll && decide (peer < 8) && decide (role < 2)
  | .pairDualHome atoll peer role => atollOk atoll && decide (peer < 8) && decide (role < 2)
  | .pairPromote atoll peer role => atollOk atoll && decide (peer < 8) && decide (role < 2)
  | .pairHandover atoll peer role => atollOk atoll && decide (peer < 8) && decide (role < 2)
  | .arcLeave => true
  | .arcForget _ => true
  | .claimWaitExpiry _ _ => true
  | .claimTimeout atoll => atollOk atoll
  | .dimmRetire d => dimmOk d
  | .evacuationComplete d => dimmOk d
  | .windowIssue c _ => chanOk c
  | .frameBoundary c => chanOk c
  | .rglCommit => true
  | .rglEnWrite _ => true
  | .channelLeaveService c => chanOk c
  | .dimmTempPoll d _ _ => dimmOk d
  | .refresh c rank => chanOk c && decide (rank < 16)
  | .mpCommand c _ _ => chanOk c
  | .driftUpdate c _ _ => chanOk c
  | .shadowGo c => chanOk c
  | .scrubRead c _ _ => chanOk c
  | .rowRepair c _ _ => chanOk c
  | .channelPowerDown c => chanOk c
  | .paceMeasure _ => true
  | .paceLoop _ => true
  | .paceTargetChange => true
  | .creditAudit _ _ _ _ _ => true
  | .routerReconfigure _ => true
  | .altRouteTimeout _ _ _ => true
  | .routeMarkerEcho _ _ _ => true
  | .routeMarkerTimeout _ _ _ => true
  | .packetAbsorb _ _ _ _ => true
  | .sourceDetect id _ _ => decide (id < 65536)
  | .reactionTimeout _ => true
  | .bkwAck id _ _ => decide (id < 65536)
  | .spareTakeover _ _ => true
  | .faultPulseEnd => true
  | .forceSource id => decide (id < 65536)
  | .logRecord _ _ _ _ _ => true
  | .logClear s _ _ => s.ok
  | .logClearComplete => true
  | .snapshot => true
  | .counterClear => true
  | .sumAudit => true
  | .counterDamage _ _ => true
  | .presenceDetect => true
  | .presenceLoss => true
  | .insertionDelayEnd => true
  | .softStartDone => true
  | .pgOutAssert _ => true
  | .railPowerGood rail => decide (1 ≤ rail ∧ rail ≤ 6)
  | .inputMeasure _ _ _ => true
  | .fetModelUpdate _ _ => true
  | .trip kind _ => decide (1 ≤ kind ∧ kind ≤ 7)
  | .offTimeEnd => true
  | .healthyMark => true
  | .cswLedgerClear => true
  | .cswPowerCycle => true
  | .powerCycleRestart => true
  | .grantWrite _ => true
  | .brakeAssert => true
  | .brakeRelease => true
  | .energyCheckpoint _ _ => true
  | .reefGoActive => true
  | .reefGoSlack => true
  | .reefGoEbb => true
  | .ebbEntryComplete _ => true
  | .hostWake g _ => groupOk g
  | .ebbExitComplete _ => true
  | .reefBrownOut _ _ => true
  | .reefPowerOnReset => true
  | .firmwareBoot => true
  | .memoryActive _ _ _ _ _ _ => true
  | .serviceNormal => true
  | .serviceRecovery => true
  | .serviceTest => true
  | .pilotWatchdog _ => true
  | .svnCommit => true
  | .svnAutoRaise => true
  | .bistRun _ => true
  | .testEnSet s _ => s.ok
  | .testEnClear s _ => s.ok
  | .spdmRequest _ => true
  | .pldmRequest _ => true
  | .tapInstruction _ => true
  | .sledIdSample _ => true
  | .locateChange _ => true
  | .resetSelfTestDone id _ => decide (id < 65536)
  | .busMasterEnableClear _ => true
  | .msixVectorUnmask _ _ => true
  | .ideKm h _ => headOk h
  | .junctionTempSample _ => true
  | .mctpControl _ => true
  | .entdaa => true

end Sys2Proof
end

