-- ==== Sys2Proof/Tests/Slice0.lean ====
section
/-!
SUPPORT. Tests.
-/

namespace Sys2Proof.Tests
theorem test_reset_pending : Machine.State.reset.pending = [] := by decide
end Sys2Proof.Tests
end

section
/-!
PROOF. O35, the home index of a page within its home (R102).
-/

namespace Sys2Proof.Machine

/-- A sled has one home per value of a home index (R56). -/
theorem Sled.homes_eq_two_pow (s : Sled) : s.homes = 2 ^ s.homeBits := by
  cases s <;> rfl

/-- The model divides by the homes of the sled; since these are a power of two, R102 may say it as a shift. -/
theorem Mach.pageK_eq_shiftRight (m : Mach) (n pn : Nat) :
    m.pageK n pn = (pn - m.atollPage n) >>> m.sled.homeBits := by
  rw [Mach.pageK, Sled.homes_eq_two_pow, Nat.shiftRight_eq_div_pow]

/-- Settles O35: the shift is by the bits of a home index, which are 5 on the DX32 and 4 on the DX16. -/
theorem homeIndexOfPage : Obligations.HomeIndexOfPage := by
  intro m n pn
  constructor
  all_goals
    intro hsled
    rw [m.pageK_eq_shiftRight, hsled]
    rfl

/-- A sled of either kind meets a premise of O35: here atoll 3 starts at page 1024, and page 1101 is 77 past it. -/
theorem homeIndexOfPage_witness :
    ((Act.set .ATL_BASE 3 2).run { sled := .dx32 }).pageK 3 1101 = 2 ∧
    ((Act.set .ATL_BASE 3 2).run { sled := .dx16 }).pageK 3 1101 = 4 := by
  have hbase (m : Mach) : ((Act.set .ATL_BASE 3 2).run m).atollPage 3 = 1024 := by
    rw [Mach.atollPage, Mach.get_set _ _ _ _ (by decide)]
  constructor
  · rw [(homeIndexOfPage _ 3 1101).1 rfl, hbase]
    rfl
  · rw [(homeIndexOfPage _ 3 1101).2 rfl, hbase]
    rfl

end Sys2Proof.Machine
end

section
/-!
PROOF. O36, the DRAM guarantee of a master on a channel (R310).
-/

namespace Sys2Proof.Bits

/-- The model reads a bit as `Nat.testBit` does. -/
theorem bit_eq_testBit (x n : Nat) : bit x n = x.testBit n := by
  rw [bit, Nat.testBit_eq_decide_div_mod_eq]
  rfl

/-- Bits past the positions that are asked for do not count. -/
theorem ones_mod_two_pow (x n : Nat) : ones (x % 2 ^ n) n = (List.range n).filter (x.testBit ·) := by
  refine List.filter_congr fun c hc => ?_
  rw [bit_eq_testBit, Nat.testBit_mod_two_pow, decide_eq_true (List.mem_range.mp hc), Bool.true_and]

end Sys2Proof.Bits

namespace Sys2Proof.Machine

/-- A share of a set has the fields of its master; of the channel field it keeps the bits of the sled's channels. -/
theorem fields_of_mem_setFrom {sl : Sled} {g : Fld → Nat → Nat} {x : Share} (h : x ∈ setFrom sl g) :
    x.guar = g .RGL_M_GUAR x.master ∧ x.chans = g .RGL_M_CHANSET x.master % 2 ^ sl.chans ∧
      x.tags = (g .RGL_M_TAGS x.master == 1) := by
  obtain ⟨k, -, rfl⟩ := List.mem_map.mp h
  exact ⟨rfl, rfl, rfl⟩

/-- The in-service channels of a staged share are those that its master's channel field names. -/
theorem Mach.shareChans_of_mem_staged {m : Mach} {x : Share} (h : x ∈ m.staged) :
    m.shareChans x = (List.range m.sled.chans).filter fun c =>
      (m.get .RGL_M_CHANSET x.master).testBit c && m.flag .DRM_C_INSERVICE c := by
  obtain ⟨-, hchans, -⟩ := fields_of_mem_setFrom h
  rw [Mach.shareChans, hchans, Bits.ones_mod_two_pow, List.filter_filter]
  exact List.filter_congr fun _ _ => Bool.and_comm ..

theorem Mach.mem_shareChans_of_mem_staged {m : Mach} {x : Share} (h : x ∈ m.staged) (c : Nat) :
    c ∈ m.shareChans x ↔
      c < m.sled.chans ∧ (m.get .RGL_M_CHANSET x.master).testBit c = true ∧ m.get .DRM_C_INSERVICE c = 1 := by
  simp [Mach.shareChans_of_mem_staged h, Mach.flag]

/-- Settles O36: the channels that a staged share divides by are the in-service ones of its master's channel field. -/
theorem dramGuarantee : Obligations.DramGuarantee := by
  intro m x c n total hx hn htotal
  obtain ⟨hguar, -, htags⟩ := fields_of_mem_setFrom hx
  have hlen : (m.shareChans x).length = n := by rw [Mach.shareChans_of_mem_staged hx, hn]
  have htot : (if x.tags then x.guar * 100 * 9 / 8 else x.guar * 100) = total := by
    simp only [htotal, hguar, htags, beq_iff_eq]
  simp only [Mach.shareD, htot, hlen, List.contains_iff_mem, Mach.mem_shareChans_of_mem_staged hx]

/-- A DX32 with its reset guarantees and these channels in service. -/
def dx32InService (cs : List Nat) : Mach :=
  (Act.each cs fun c => .set .DRM_C_INSERVICE c 1).run { sled := .dx32 }

/-- The share of Boesque 64 at reset, which carries tags. -/
def boesque64Share : Share := { master := 64, guar := 250, chans := 0xFFFF, tags := true, senior := true }

/-- The share of the Dredger at reset, without tags. -/
def dredgerShare : Share := { master := 70, guar := 40, chans := 0xFFFF, tags := false, senior := true }

/-- Two staged masters meet the premises of O36 and have the values of Table 14.3, on 16 channels and on the 15 that the retirement
of channel 9 leaves. -/
theorem dramGuarantee_witness :
    (dx32InService (List.range 16)).shareD dredgerShare 5 = 250 ∧
    (dx32InService (List.range 16)).shareD boesque64Share 5 = 1757 ∧
    (dx32InService ((List.range 16).erase 9)).shareD boesque64Share 5 = 1875 ∧
    (dx32InService ((List.range 16).erase 9)).shareD boesque64Share 9 = 0 :=
  ⟨(dramGuarantee _ _ 5 16 4000 (by decide) (by decide) (by decide)).trans (by decide),
    (dramGuarantee _ _ 5 16 28125 (by decide) (by decide) (by decide)).trans (by decide),
    (dramGuarantee _ _ 5 15 28125 (by decide) (by decide) (by decide)).trans (by decide),
    (dramGuarantee _ _ 9 15 28125 (by decide) (by decide) (by decide)).trans (by decide)⟩

end Sys2Proof.Machine
end

section
/-!
PROOF. O1, O32, O33, O34: steps, and the canonical form that every step keeps.
-/

namespace Sys2Proof

/-! ### Maps -/

/-- Entries that a file drops are entries that read as unlisted ones do. -/
theorem SMap.find?_filter {α : Type} (q : Nat → Bool) (m : SMap α) (k : Nat) :
    SMap.find? (List.filter (fun p => q p.1) m) k = if q k then m.find? k else none := by
  induction m with
  | nil => simp
  | cons p m ih =>
    by_cases hp : q p.1
    · rw [List.filter_cons_of_pos (p := fun p : Nat × α => q p.1) hp, SMap.find?_cons, SMap.find?_cons, ih]
      by_cases hk : p.1 = k
      · rw [if_pos hk, if_pos (hk ▸ hp), if_pos hk]
      · rw [if_neg hk, if_neg hk]
    · rw [List.filter_cons_of_neg (p := fun p : Nat × α => q p.1) hp, ih, SMap.find?_cons]
      by_cases hk : p.1 = k
      · rw [if_neg (hk ▸ hp), if_neg (hk ▸ hp)]
      · rw [if_neg hk]

/-- Giving a key its default removes it, so a key whose entry is listed has another value. -/
theorem SMap.find?_set_ne_default {α : Type} [DecidableEq α] (m : SMap α) (k : Nat) (d v : α) : (m.set k d v).find? k ≠ some d := by
  unfold SMap.set
  split
  · rw [SMap.find?_erase_self]; exact nofun
  · next h => rw [SMap.find?_put_self]; exact fun e => h (Option.some.inj e)

end Sys2Proof

namespace Sys2Proof.Machine

/-! ### What a step is -/

/-- Settles O1: the definition of a step, at a queue that is not empty. -/
theorem stepRunsFrontCommand : Obligations.StepRunsFrontCommand := by
  intro c rest s h
  rw [step, h]
  rfl

theorem step_of_pending_nil {s : State} (h : s.pending = []) : step s = s.act tick := by
  rw [step, h]

/-- Every command of the table runs a program. -/
theorem exec_eq_act (c : Instr) (s : State) : ∃ a, exec c s = s.act a := by
  cases c <;> exact ⟨_, rfl⟩

/-- Every step runs a program on the sled and takes the front of the queue. -/
theorem step_eq_next (s : State) : ∃ a, step s = .next { mach := Act.run a s.mach, pending := s.pending.tail } := by
  cases h : s.pending with
  | nil => exact ⟨tick, by rw [step_of_pending_nil h, State.act_next, h]; rfl⟩
  | cons c rest =>
    obtain ⟨a, ha⟩ := exec_eq_act c { s with pending := rest }
    exact ⟨a, by rw [stepRunsFrontCommand c rest s h, ha]; rfl⟩

/-! ### Reset values -/

theorem Fld.rst_lt (f : Fld) : f.spec.rst < 2 ^ f.spec.width := by
  cases f <;> decide

theorem getD_lt {b : Nat} : ∀ (l : List Nat) (i : Nat), 0 < b → (∀ x ∈ l, x < b) → l.getD i 0 < b
  | [], _, h0, _ => h0
  | x :: _, 0, _, h => h x (List.mem_cons_self ..)
  | _ :: l, i + 1, h0, h => getD_lt l i h0 fun y hy => h y (List.mem_cons_of_mem _ hy)

theorem bkwDefault_lt (cu : Nat) : (bkwDefault cu).getD 0 < 2 ^ 2 := by
  have h : ∀ l ∈ bkwSevTable, ∀ x ∈ l, x < 2 ^ 2 := by decide
  unfold bkwDefault
  rw [← List.getD_eq_getElem?_getD]
  refine getD_lt _ _ (by decide) ?_
  rw [List.getD_eq_getElem?_getD]
  cases hl : bkwSevTable[cu / 16]? with
  | none => exact fun x hx => absurd hx List.not_mem_nil
  | some l => exact h l (List.mem_of_getElem? hl)

theorem bkwAutoOf_lt (cu : Nat) : (bkwAutoOf cu).getD 0 < 2 ^ 2 := by
  have h : ∀ p ∈ bkwAuto, p.2 < 2 ^ 2 := by decide
  unfold bkwAutoOf
  cases hp : bkwAuto.find? fun p => p.1 == cu with
  | none => decide
  | some p => exact h p (List.mem_of_find?_eq_some hp)

/-- The reset value of every entry of every field fits the field (R470). -/
theorem Fld.reset_lt (sl : Sled) (i : Nat) (f : Fld) : Fld.reset sl i f < 2 ^ f.spec.width := by
  unfold Fld.reset
  split
  case h_1 | h_2 | h_3 => split_ifs <;> decide
  case h_4 | h_13 | h_14 | h_17 => split_ifs <;> decide
  case h_5 | h_9 => decide
  case h_6 => exact getD_lt _ _ (by decide) (by decide)
  case h_7 => exact Nat.mod_lt i (by decide : 0 < 8)
  case h_8 => exact Nat.mod_lt _ (by decide)
  case h_10 => exact bkwDefault_lt i
  case h_11 => cases (bkwAutoOf i).isSome <;> decide
  case h_12 => exact bkwAutoOf_lt i
  case h_15 => exact Config.identity.isLt
  case h_16 => exact (Config.serial i).isLt
  case h_18 => exact Nat.mod_lt _ (by decide)
  case h_19 => exact (Config.roleDigest i).isLt
  case h_20 => exact Nat.mod_lt _ (by decide)
  case h_21 => exact f.rst_lt

/-! ### The canonical form -/

theorem Prim.fits_reg {m : Mach} (h : m.fits) (f : Fld) (i v : Nat) : ((Prim.reg f i v).apply m).fits := by
  intro g j
  rw [Mach.get_reg]
  split
  · next e => rw [e.1]; exact Nat.mod_lt _ (Nat.two_pow_pos _)
  · exact h g j

theorem Prim.sparse_reg {m : Mach} (h : m.sparse) (f : Fld) (i v : Nat) : ((Prim.reg f i v).apply m).sparse := by
  intro g j
  rw [Prim.reg_regs, Prim.reg_sled, Mach.setReg]
  by_cases e : g.key j = f.key i
  · obtain ⟨rfl, rfl⟩ := Fld.key_inj e
    exact SMap.find?_set_ne_default _ _ (Fld.reset m.sled j g) _
  · rw [SMap.find?_set_ne _ _ _ _ _ e]
    exact h g j

theorem Prim.fits_resetRegs {m : Mach} (h : m.fits) (keep : Nat → Bool) : ((Prim.resetRegs keep).apply m).fits := by
  intro f i
  change (SMap.find? (List.filter (fun p => keep p.1) m.regs) _).getD _ < _
  rw [SMap.find?_filter]
  split
  · exact h f i
  · exact f.reset_lt _ _

theorem Prim.sparse_resetRegs {m : Mach} (h : m.sparse) (keep : Nat → Bool) : ((Prim.resetRegs keep).apply m).sparse := by
  intro f i
  change SMap.find? (List.filter (fun p => keep p.1) m.regs) _ ≠ _
  rw [SMap.find?_filter]
  split
  · exact h f i
  · exact nofun

/-- Every primitive keeps the canonical form: those of the register file, of grain space and of the page records by what a write
of one entry does, every other by touching none of the three. -/
theorem Prim.canonical_apply (p : Prim) {m : Mach} (h : m.Canonical) : (p.apply m).Canonical := by
  obtain ⟨hdram, hregs, hpages, hfits, hsparse⟩ := h
  cases p with
  | reg f i v => exact ⟨hdram, SMap.sorted_set _ _ _ _ hregs, hpages, fits_reg hfits f i v, sparse_reg hsparse f i v⟩
  | resetRegs keep =>
    exact ⟨hdram, SMap.sorted_filter _ _ hregs, hpages, fits_resetRegs hfits keep, sparse_resetRegs hsparse keep⟩
  | poke a bs =>
    rw [Dram.wf, Bool.and_eq_true] at hdram
    obtain ⟨hsorted, hnonzero⟩ := hdram
    exact ⟨Bool.and_eq_true _ _ ▸ ⟨Dram.write_sorted bs _ a hsorted, Dram.write_all bs _ a hnonzero⟩, hregs, hpages, hfits, hsparse⟩
  | page pn q =>
    rw [Mach.pagesWf, Bool.and_eq_true] at hpages
    obtain ⟨hsorted, hlisted⟩ := hpages
    exact ⟨hdram, hregs, Bool.and_eq_true _ _ ▸ ⟨SMap.sorted_set _ _ _ _ hsorted, SMap.all_set _ _ _ _ hlisted⟩, hfits, hsparse⟩
  | wipe => exact ⟨rfl, hregs, rfl, hfits, hsparse⟩
  | _ => exact ⟨hdram, hregs, hpages, hfits, hsparse⟩

theorem Act.canonical_run (a : Act) {m : Mach} (h : m.Canonical) : (a.run m).Canonical :=
  a.run_keeps Mach.Canonical (fun p _ hm => p.canonical_apply hm) m h

/-- Settles O33: nothing is listed at reset, so each field reads its reset value. -/
theorem resetIsCanonical : Obligations.ResetIsCanonical :=
  ⟨rfl, rfl, rfl, fun f i => f.reset_lt _ i, fun _ _ => nofun⟩

/-- Settles O34: a step runs a program, and every primitive of a program keeps the form. -/
theorem stepKeepsCanonical : Obligations.StepKeepsCanonical := by
  intro s h
  obtain ⟨a, ha⟩ := step_eq_next s
  exact ⟨_, ha, a.canonical_run h, a.run_sled s.mach, rfl⟩

/-- The premise of O34 holds at reset, and there a step with the lock of setup space waiting answers a sled in canonical form. -/
theorem stepKeepsCanonical_witness :
    ∃ t, step { State.reset with pending := [.setupLock] } = .next t ∧ t.mach.Canonical ∧ t.pending = [] := by
  obtain ⟨t, ht, hcanonical, -, hpending⟩ := stepKeepsCanonical { State.reset with pending := [.setupLock] } resetIsCanonical
  exact ⟨t, ht, hcanonical, hpending⟩

/-! ### The idle step -/

/-- With no block to stop, a tick is one nanosecond; the list of blocks to stop is emptied, as it was. -/
theorem tick_run_of_none_stopping {m : Mach} (h : m.bkw.stopping = []) : tick.run m = (Act.inc .REEF_TIME 0 1).run m := by
  have hbkw : ((Act.inc .REEF_TIME 0 1).run m).bkw = m.bkw := rfl
  simp only [tick, stopsDue, Act.run_seq, Act.run_read, hbkw, h]
  change { (Act.inc .REEF_TIME 0 1).run m with bkw := { m.bkw with stopping := [] } } = _
  rw [← h]
  rfl

/-- Settles O32: the step on an empty queue runs the tick. -/
theorem idleStep : Obligations.IdleStep := by
  refine ⟨fun s h => ⟨_, step_of_pending_nil h, h, rfl⟩, fun s h hstop => ⟨_, step_of_pending_nil h, h, ?_, ?_⟩⟩
  · rw [tick_run_of_none_stopping hstop]
    exact Mach.get_reg_self ..
  · rw [tick_run_of_none_stopping hstop]
    exact (within_inc (K := places [.REEF_TIME] []) (by decide)).frame _ _ (by decide) _

end Sys2Proof.Machine
end

section
/-!
SUPPORT. What a field reads as behind a write or behind a program that leaves it, entry by entry, and frames one after another.
-/

namespace Sys2Proof.Machine

/-! ### Entries of a field -/

/-- A write of another field leaves a field. -/
theorem Mach.get_set_other {f g : Fld} (h : g ≠ f) (i j v : Nat) (m : Mach) : ((Act.set f i v).run m).get g j = m.get g j :=
  m.get_reg_ne f g i j v (.inl h)

/-- A write leaves the field's other entries. -/
theorem Mach.others_set (f : Fld) (i v : Nat) (m : Mach) : Mach.Others f i m ((Act.set f i v).run m) :=
  fun j h => m.get_reg_ne f f i j v (.inr h)

theorem Mach.others_inc (f : Fld) (i n : Nat) (m : Mach) : Mach.Others f i m ((Act.inc f i n).run m) :=
  m.others_set f i _

theorem Mach.get_inc (f : Fld) (i n : Nat) (m : Mach) : ((Act.inc f i n).run m).get f i = (m.get f i + n) % 2 ^ f.spec.width :=
  m.get_reg_self f i _

theorem Mach.get_inc_other {f g : Fld} (h : g ≠ f) (i j n : Nat) (m : Mach) : ((Act.inc f i n).run m).get g j = m.get g j :=
  Mach.get_set_other h ..

/-- What a write leaves each entry of each field with. -/
theorem Mach.get_set_ite (f g : Fld) (i j v : Nat) (m : Mach) :
    ((Act.set f i v).run m).get g j = if g = f ∧ j = i then v % 2 ^ f.spec.width else m.get g j :=
  m.get_reg f g i j v

theorem Mach.Others.trans {f : Fld} {i : Nat} {a b c : Mach} (h : Mach.Others f i a b) (g : Mach.Others f i b c) :
    Mach.Others f i a c :=
  fun j hj => (g j hj).trans (h j hj)

/-- A program that does not write a field leaves all its entries. -/
theorem Act.Within.others {K : Nat} {a : Act} (ha : a.Within K) {f : Fld} (hf : K.testBit f.ctorIdx = false)
    (hr : K.testBit 604 = false) (i : Nat) (m : Mach) : Mach.Others f i m (a.run m) :=
  fun j _ => ha.get f j m hf hr

theorem Mach.others_set_other {f g : Fld} (h : g ≠ f) (i j v : Nat) (m : Mach) : Mach.Others g i m ((Act.set f j v).run m) :=
  fun _ _ => Mach.get_set_other h ..

/-! ### Programs one after another -/

@[simp] theorem Act.run_some?_some {α : Type} (x : α) (f : α → Act) (m : Mach) : (Act.some? (some x) f).run m = (f x).run m := rfl

@[simp] theorem Act.run_some?_none {α : Type} (f : α → Act) (m : Mach) : (Act.some? none f).run m = m := rfl

/-- What a program emits last is the last that has left. -/
theorem getLast?_emit (o : Out) (m : Mach) : ((Act.emit o).run m).out.getLast? = some o := by
  simp

theorem Act.run_all_append (l k : List Act) (m : Mach) : (Act.all (l ++ k)).run m = (Act.all k).run ((Act.all l).run m) := by
  induction l generalizing m with
  | nil => rfl
  | cons a l ih =>
    cases l with
    | nil => cases k <;> rfl
    | cons b l => exact ih (a.run m)

theorem Act.run_each_nil {α : Type} (f : α → Act) (m : Mach) : (Act.each [] f).run m = m := rfl

theorem Act.run_each_cons {α : Type} (x : α) (l : List α) (f : α → Act) (m : Mach) :
    (Act.each (x :: l) f).run m = (Act.each l f).run ((f x).run m) :=
  Act.run_all_append [f x] (l.map f) m

/-- Writes of other fields leave a field. -/
theorem get_each_set_other {f : Fld} (n i : Nat) : ∀ (l : List (Fld × Nat)) (m : Mach), (∀ x ∈ l, x.1 ≠ f) →
    ((Act.each l fun x => .set x.1 n x.2).run m).get f i = m.get f i
  | [], _, _ => rfl
  | x :: l, m, h => by
    rw [Act.run_each_cons, get_each_set_other n i l _ fun y hy => h y (List.mem_cons_of_mem _ hy)]
    exact Mach.get_set_other (Ne.symm (h x (List.mem_cons_self ..))) ..

/-- Of writes of fields once each, every field reads as it was written. -/
theorem get_each_set {f : Fld} {v : Nat} (n : Nat) (hv : v < 2 ^ f.spec.width) (l : List (Fld × Nat)) (m : Mach)
    (hn : (l.map (·.1)).Nodup) (h : (f, v) ∈ l) : ((Act.each l fun x => .set x.1 n x.2).run m).get f n = v := by
  induction l generalizing m with
  | nil => exact absurd h List.not_mem_nil
  | cons x l ih =>
    obtain ⟨hx, hl⟩ := List.nodup_cons.mp hn
    rw [Act.run_each_cons]
    rcases List.mem_cons.mp h with h | h
    · rw [← h] at hx ⊢
      rw [get_each_set_other n n l _ fun y hy e => hx (List.mem_map.mpr ⟨y, hy, e⟩)]
      exact Mach.get_set f n v m hv
    · exact ih _ hl h

/-! ### Frames -/

theorem inside_refl (K : Nat) : inside K K = true := by
  simp [inside]

theorem foldr_bit_mem {α : Type} (g : α → Nat) (z : Nat) {x : α} : ∀ l : List α, x ∈ l →
    (l.foldr (fun x k => k ||| 1 <<< g x) z).testBit (g x) = true
  | y :: l, h => by
    rw [List.foldr_cons, Nat.testBit_or, Nat.one_shiftLeft, Nat.testBit_two_pow]
    rcases List.mem_cons.mp h with rfl | h
    · simp
    · rw [foldr_bit_mem g z l h, Bool.true_or]

/-- A field of a list is one of its places. -/
theorem places_mem {f : Fld} {fs : List Fld} (ps : List Part) (h : f ∈ fs) : (places fs ps).testBit f.ctorIdx = true :=
  foldr_bit_mem Fld.ctorIdx _ fs h

theorem Part.same_refl (p : Part) (m : Mach) : p.same m m := by
  cases p with
  | dram => exact fun _ => rfl
  | pages => exact fun _ => rfl
  | _ => rfl

theorem Part.same_trans {p : Part} {a b c : Mach} (h : p.same a b) (g : p.same b c) : p.same a c := by
  cases p with
  | dram => exact fun x => (g x).trans (h x)
  | pages => exact fun x => (g x).trans (h x)
  | _ => exact Eq.trans g h

theorem Mach.Frame.refl (fs : List Fld) (ps : List Part) (m : Mach) : Mach.Frame fs ps m m :=
  ⟨rfl, fun _ _ _ => rfl, fun p _ => p.same_refl m⟩

theorem Mach.Frame.trans {fs : List Fld} {ps : List Part} {a b c : Mach} (h : Mach.Frame fs ps a b) (g : Mach.Frame fs ps b c) :
    Mach.Frame fs ps a c :=
  ⟨g.1.trans h.1, fun f i hf => (g.2.1 f i hf).trans (h.2.1 f i hf), fun p hp => Part.same_trans (h.2.2 p hp) (g.2.2 p hp)⟩

/-- A write of a field leaves every part. -/
theorem Part.same_set (p : Part) (f : Fld) (i v : Nat) (m : Mach) : p.same m ((Act.set f i v).run m) := by
  cases p with
  | dram => exact fun _ => rfl
  | pages => exact fun _ => rfl
  | _ => rfl

/-- A field that is given the value it has changes nothing that can be read. -/
theorem Mach.frame_set_same {f : Fld} {i : Nat} {m : Mach} (hfits : m.get f i < 2 ^ f.spec.width) (fs : List Fld) (ps : List Part) :
    Mach.Frame fs ps m ((Act.set f i (m.get f i)).run m) := by
  refine ⟨rfl, fun g j _ => ?_, fun p _ => p.same_set ..⟩
  rw [Act.run_set, Mach.get_reg, Nat.mod_eq_of_lt hfits]
  split
  · next h => rw [h.1, h.2]
  · rfl

end Sys2Proof.Machine
end

section
/-!
PROOF. O2, accesses of setup space (R448, R469, R471, R472).
-/

namespace Sys2Proof.Machine

/-! ### Words that a write reaches -/

/-- An aligned 8-byte write that its path takes comes to the write of a word in its block. -/
theorem registerWrite_run {m : Mach} {p : Path} {a : Nat} {b : Blk} (v : Nat) (hreach : m.reaches p = true) (hserved : m.served = none)
    (ha : a % 8 = 0) (hkey : keySpan a = false) (hferry : ferryAperture a = false) (hb : blockAt a = some b) (hp : b ≠ .pilot) :
    (registerWrite p a 8 v).run m = (blockWrite b ⟨a, none, v % 2 ^ 64⟩).run m := by
  have hserves : m.serves a = true := by rw [Mach.serves, hserved]
  have hword : wordWrite p ⟨a, none, v % 2 ^ 64⟩ = blockWrite b ⟨a, none, v % 2 ^ 64⟩ := by
    simp only [wordWrite, hkey, hferry, hb, Bool.false_eq_true, if_false]
  simp only [registerWrite, wordOf, ha, and_self, if_true, Act.run_read, Act.some?, hreach, hserves, Bool.and_self,
    Act.when, hword]

theorem blockWrite_run_of_refused {m : Mach} {b : Blk} {w : WordWrite} (h : m.wordRefused b (m.puts w) = true) :
    (blockWrite b w).run m = (Act.seq (wordRefusal b (m.puts w)) (markWrite b ((w.addr - b.base) / 0x80) 1)).run m := by
  simp only [blockWrite, Act.run_read, h, if_true]

theorem blockWrite_run_of_taken {m : Mach} {b : Blk} {w : WordWrite} (h : m.wordRefused b (m.puts w) = false) :
    (blockWrite b w).run m = (Act.seq (markWrite b ((w.addr - b.base) / 0x80) 0) (wordApply b w.bytes (m.puts w))).run m := by
  simp only [blockWrite, Act.run_read, h, Bool.false_eq_true, if_false]

/-! ### The DIR word and the rates of the Tideline -/

theorem wordFields_dir (s : Sled) : wordFields s Blk.dir.base = [(.DIR_BISNP_TIMEOUT, 0, 0), (.DIR_WR_REFUSED, 0, 32)] := by
  cases s <;> decide

theorem wordFields_rates (s : Sled) : wordFields s (Blk.tdl.base + 8) = [(.TDL_RATE_DEV, 0, 0), (.TDL_RATE_ATL, 0, 8)] := by
  cases s <;> decide

theorem puts_dir (m : Mach) (v : Nat) :
    m.puts ⟨Blk.dir.base, none, v % 2 ^ 64⟩ = [(.DIR_BISNP_TIMEOUT, 0, v % 2 ^ 32)] := by
  have hput : m.puts ⟨Blk.dir.base, none, v % 2 ^ 64⟩ = [(.DIR_BISNP_TIMEOUT, 0, v % 2 ^ 64 / 2 ^ 0 % 2 ^ 32)] := by
    rw [Mach.puts, wordFields_dir]
    rfl
  have hv : v % 2 ^ 64 / 2 ^ 0 % 2 ^ 32 = v % 2 ^ 32 := by omega
  rw [hput, hv]

theorem puts_rates (m : Mach) (v : Nat) :
    m.puts ⟨Blk.tdl.base + 8, none, v % 2 ^ 64⟩ = [(.TDL_RATE_DEV, 0, v % 2 ^ 8), (.TDL_RATE_ATL, 0, v / 2 ^ 8 % 2 ^ 8)] := by
  have hput : m.puts ⟨Blk.tdl.base + 8, none, v % 2 ^ 64⟩ =
      [(.TDL_RATE_DEV, 0, v % 2 ^ 64 / 2 ^ 0 % 2 ^ 8), (.TDL_RATE_ATL, 0, v % 2 ^ 64 / 2 ^ 8 % 2 ^ 8)] := by
    rw [Mach.puts, wordFields_rates]
    rfl
  have hdev : v % 2 ^ 64 / 2 ^ 0 % 2 ^ 8 = v % 2 ^ 8 := by omega
  have hatl : v % 2 ^ 64 / 2 ^ 8 % 2 ^ 8 = v / 2 ^ 8 % 2 ^ 8 := by omega
  rw [hput, hdev, hatl]

/-- A DIR word is refused exactly for a timeout out of range (R200). -/
theorem wordRefused_dir (m : Mach) (v : Nat) : m.wordRefused .dir [(.DIR_BISNP_TIMEOUT, 0, v)] = outside v 10 100000 := by
  change (outside v 10 100000 || false) = _
  rw [Bool.or_false]

/-- The word of the rates is refused exactly for a rate out of range (R171). -/
theorem wordRefused_rates (m : Mach) (d a : Nat) :
    m.wordRefused .tdl [(.TDL_RATE_DEV, 0, d), (.TDL_RATE_ATL, 0, a)] = (outside d 1 80 || outside a 1 20) := by
  change (outside d 1 80 || (outside a 1 20 || false)) = _
  rw [Bool.or_false]

theorem outside_eq_false {v lo hi : Nat} (h : lo ≤ v) (h' : v ≤ hi) : outside v lo hi = false :=
  decide_eq_false (by omega)

/-! ### Reads over MCTP -/

/-- The read of one word: its effect and its value where it is mapped, 0x80 and a zero word where it is not. -/
def readOne (e off : Nat) : Act := .read fun m =>
  if mctpMapped off then
    .seq (wordReadEffect (.mctp e) off) (.emit (.mctp e 0 (Bits.leBytes 8 (m.wordRead (.mctp e) off))))
  else .emit (.mctp e 0x80 (Bits.leBytes 8 0))

theorem event_served (a : Att) (code arg n : Nat) (m : Mach) : ((event a code arg n).run m).served = m.served := by
  have hw := event_within a code arg n
  rw [Mach.served, Mach.served, Mach.ebbing, Mach.ebbing, hw.csw m rfl, hw.fw m rfl, hw.pow m rfl, hw.get .REEF_PSTATE 0 m rfl rfl]

theorem mctpRead_run_one {m : Mach} (e off : Nat) (hserved : m.served = none) :
    (mctpRead e [(off, 8)] 0 []).run m = (readOne e off).run m := by
  have hserves : m.serves off = true := by rw [Mach.serves, hserved]
  cases hmap : mctpMapped off <;> simp [mctpRead, readOne, Mach.readCode, hserves, hmap, firstCode]

/-- A read of one aligned word outside the aperture counts the access and reads the word. -/
theorem mctpSetupAccess_run_read {m : Mach} {off : Nat} (e : Nat) (hserved : m.served = none) (ha : off % 8 = 0)
    (hferry : ferryAperture off = false) :
    (mctpSetupAccess e false off 8 []).run m = (Act.seq (event .pilot 0xA1 0 1) (readOne e off)).run m := by
  have hlen : mctpLenOk 8 = true := by decide
  have hwords : mctpWords off 8 = [(off, 8)] := rfl
  have hone := mctpRead_run_one e off ((event_served .pilot 0xA1 0 1 m).trans hserved)
  simpa [mctpSetupAccess, hserved, hlen, ha, hferry, hwords] using hone

/-- Settles O2: each access comes to the write of one word, or to the read of one, which the rules above run. -/
theorem setupSpaceAccess : Obligations.SetupSpaceAccess := by
  refine ⟨?_, ?_, ?_, ?_, ?_, ?_⟩
  · intro s p v hreach hserved hlo hhi
    refine completes_as (b := .seq (.set .DIR_WR_REFUSED 0 0) (.set .DIR_BISNP_TIMEOUT 0 (v % 2 ^ 32)))
      (K := places [.DIR_BISNP_TIMEOUT, .DIR_WR_REFUSED] []) rfl ?_ ⟨within_set ?_, within_set ?_⟩ ?_ ⟨?_, ?_⟩
    · rw [registerWrite_run v hreach hserved rfl rfl rfl rfl (by decide), blockWrite_run_of_taken, puts_dir]
      · rfl
      · rw [puts_dir, wordRefused_dir, outside_eq_false hlo hhi]
    iterate 3 rfl
    · exact Mach.get_set .DIR_BISNP_TIMEOUT _ _ _ (Nat.mod_lt _ (Nat.two_pow_pos _))
    · rw [Act.run_seq, Mach.get_set_other (by decide), Mach.get_set _ _ _ _ (Nat.two_pow_pos _)]
  · intro s p v hreach hserved hv
    refine completes_as (b := .set .DIR_WR_REFUSED 0 1)
      (K := places [.DIR_WR_REFUSED] []) rfl ?_ (within_set ?_) ?_ ?_
    · rw [registerWrite_run v hreach hserved rfl rfl rfl rfl (by decide), blockWrite_run_of_refused]
      · rfl
      · rw [puts_dir, wordRefused_dir, outside, decide_eq_true hv]
    iterate 2 rfl
    · exact Mach.get_set .DIR_WR_REFUSED _ _ _ (by decide)
  · intro s p v hreach hserved hdlo hdhi halo hahi
    refine completes_as (b := .seq (.set .TDL_WR_REFUSED 0 0) (.seq (.set .TDL_RATE_DEV 0 (v % 2 ^ 8)) (.set .TDL_RATE_ATL 0 (v / 2 ^ 8 % 2 ^ 8))))
      (K := places [.TDL_RATE_DEV, .TDL_RATE_ATL, .TDL_WR_REFUSED] []) rfl ?_ ⟨within_set ?_, within_set ?_, within_set ?_⟩ ?_
      ⟨?_, ?_, ?_⟩
    · rw [registerWrite_run v hreach hserved rfl rfl rfl rfl (by decide), blockWrite_run_of_taken, puts_rates]
      · rfl
      · rw [puts_rates, wordRefused_rates, outside_eq_false hdlo hdhi, outside_eq_false halo hahi]
        rfl
    iterate 4 rfl
    · rw [Act.run_seq, Act.run_seq, Mach.get_set_other (by decide)]
      exact Mach.get_set .TDL_RATE_DEV _ _ _ (Nat.mod_lt _ (Nat.two_pow_pos _))
    · exact Mach.get_set .TDL_RATE_ATL _ _ _ (Nat.mod_lt _ (Nat.two_pow_pos _))
    · rw [Act.run_seq, Act.run_seq, Mach.get_set_other (by decide), Mach.get_set_other (by decide), 
       Mach.get_set _ _ _ _ (Nat.two_pow_pos _)]
  · intro s
    refine completes_of rfl setupLock_within (by rfl) ⟨?_, ?_⟩
    · exact Mach.get_set .SETUP_LOCK _ _ _ (by decide)
    · rw [setupLock, Act.run_seq, Mach.get_set_other (by decide), Mach.get_set _ _ _ _ (Nat.two_pow_pos _)]
  · intro s e off hserved ha hferry hmap
    have hrun (m : Mach) : (readOne e off).run m = (Act.seq (wordReadEffect (.mctp e) off)
        (.emit (.mctp e 0 (Bits.leBytes 8 (m.wordRead (.mctp e) off))))).run m := by
      simp only [readOne, hmap, if_true, Act.run_read]
    refine completes_as (b := .seq (event .pilot 0xA1 0 1) (.seq (wordReadEffect (.mctp e) off)
      (.emit (.mctp e 0 (Bits.leBytes 8 (((event .pilot 0xA1 0 1).run s.mach).wordRead (.mctp e) off))))))
      (K := places countFields [.out, .grain, .freeCtr]) rfl ?_
      ⟨(event_within _ _ _ _).mono ?_, (wordReadEffect_within _ _).mono ?_, within_emit ?_⟩ ?_ ?_
    · rw [mctpSetupAccess_run_read e hserved ha hferry, Act.run_seq, hrun]
      rfl
    iterate 4 rfl
    · rw [Act.run_seq, Act.run_seq, Act.run_emit, Prim.emit_out, (wordReadEffect_within _ _).out _ rfl, (event_within _ _ _ _).out _ rfl]
  · intro s e off hserved ha hferry hmap
    refine completes_as (b := .seq (event .pilot 0xA1 0 1) (.emit (.mctp e 0x80 (Bits.leBytes 8 0))))
      (K := places countFields [.out]) rfl ?_ ⟨(event_within _ _ _ _).mono ?_, within_emit ?_⟩ ?_ ?_
    · rw [mctpSetupAccess_run_read e hserved ha hferry, Act.run_seq, readOne, Act.run_read, hmap]
      rfl
    iterate 3 rfl
    · rw [Act.run_seq, Act.run_emit, Prim.emit_out, (event_within _ _ _ _).out _ rfl]

end Sys2Proof.Machine
end

section
/-!
PROOF. O3, writes of an atoll entry (R43 to R46, Table 2.5).
-/

namespace Sys2Proof.Machine

/-! ### What a write of an entry comes to -/

/-- The program that gives an entry's fields their values. -/
def putFields (n : Nat) (l : List (Fld × Nat)) : Act := .each (l.filter fun x => x.1 != .ATL_STATE) fun x => .set x.1 n x.2

theorem entryWrite_run_refused {m : Mach} {n : Nat} {l : List (Fld × Nat)} (hn : n < m.sled.atolls) (hc : m.entryCodes n l ≠ []) :
    (entryWrite n l).run m = (entryRefuse n (m.entryCodes n l)).run m := by
  simp [entryWrite, Nat.not_le.mpr hn, hc]

theorem entryWrite_run_admit {m : Mach} {n : Nat} {l : List (Fld × Nat)} (hn : n < m.sled.atolls) (hc : m.entryCodes n l = [])
    (hold : m.get .ATL_STATE n = atlBuilding) (hnew : (m.withFields n l).get .ATL_STATE n = atlLive) (hr : m.isRemote n = false) :
    (entryWrite n l).run m = (Act.seq (putFields n l) (becomeLive n)).run m := by
  simp [entryWrite, putFields, Nat.not_le.mpr hn, hc, hold, hnew, hr]

theorem entryWrite_run_retire {m : Mach} {n : Nat} {l : List (Fld × Nat)} (hn : n < m.sled.atolls) (hc : m.entryCodes n l = [])
    (hold : m.get .ATL_STATE n = atlLive) (hnew : (m.withFields n l).get .ATL_STATE n = atlRetiring) :
    (entryWrite n l).run m =
      (Act.all [putFields n l, .set .ATL_STATE n atlRetiring, .set .ATL_ERR n 0, retireStart n]).run m := by
  simp [entryWrite, putFields, Nat.not_le.mpr hn, hc, hold, hnew, atlLive, atlRetiring, atlBuilding]

theorem entryWrite_run_live {m : Mach} {n : Nat} {l : List (Fld × Nat)} (hn : n < m.sled.atolls) (hc : m.entryCodes n l = [])
    (hold : m.get .ATL_STATE n = atlLive) (hnew : (m.withFields n l).get .ATL_STATE n = atlLive) :
    (entryWrite n l).run m = (Act.all [putFields n l, .set .ATL_ERR n 0, liveEffects n m]).run m := by
  simp [entryWrite, putFields, Nat.not_le.mpr hn, hc, hold, hnew, atlLive, atlRetiring, atlBuilding]

/-- Between Free and Building an applied write only gives the fields their values (Table 2.3). -/
theorem entryWrite_run_idle {m : Mach} {n x : Nat} {l : List (Fld × Nat)} (hn : n < m.sled.atolls) (hc : m.entryCodes n l = [])
    (hold : m.get .ATL_STATE n ≠ atlLive) (hnew : (m.withFields n l).get .ATL_STATE n = x) (hx : x ≠ atlLive) :
    (entryWrite n l).run m = (Act.all [putFields n l, .set .ATL_STATE n x, .set .ATL_ERR n 0]).run m := by
  simp [entryWrite, putFields, Nat.not_le.mpr hn, hc, hold, hnew, hx]

/-! ### The state field alone -/

theorem withFields_state (m : Mach) (n x : Nat) (hx : x < 4) : (m.withFields n [(.ATL_STATE, x)]).get .ATL_STATE n = x :=
  Mach.get_set .ATL_STATE n x m hx

/-- The codes of a change of state alone: those of its admission, and those of Table 2.3. -/
theorem entryCodes_state (m : Mach) (n x : Nat) (hx : x < 4) (hlive : x ≠ atlLive) (hok : transitionOk (m.get .ATL_STATE n) x = true)
    (hviews : x = atlRetiring → m.atollViews n = [] ∧ m.closingViews n = []) : m.entryCodes n [(.ATL_STATE, x)] = [] := by
  simp only [Mach.entryCodes, withFields_state m n x hx]
  by_cases h : m.get .ATL_STATE n = x
  · rw [h] at hok
    simp [h, hlive, hok]
  · simpa [h, hlive, hok, Mach.liveOk] using fun _ => hviews

theorem putFields_state (n x : Nat) : putFields n [(.ATL_STATE, x)] = .skip := rfl

/-- What an entry's fields hold after the program that gives it a state and clears its code. -/
theorem get_state_err (n x : Nat) (m : Mach) (hx : x < 4) :
    (let t := (Act.seq (.set .ATL_STATE n x) (.set .ATL_ERR n 0)).run m
     t.get .ATL_STATE n = x ∧ t.get .ATL_ERR n = 0 ∧ Mach.Others .ATL_STATE n m t ∧ Mach.Others .ATL_ERR n m t) :=
  ⟨(Mach.get_set_other (by decide) ..).trans (Mach.get_set .ATL_STATE n x m hx), Mach.get_set .ATL_ERR n 0 _ (Nat.two_pow_pos _),
    (m.others_set .ATL_STATE n x).trans (Mach.others_set_other (by decide) _ _ _ _),
    (Mach.others_set_other (by decide) _ _ _ _).trans (Mach.others_set .ATL_ERR n 0 _)⟩

/-- A write of an idle entry's state gives it the state and clears its code (Table 2.3). -/
theorem completes_idle_state {c : Instr} {s : State} {n x : Nat} (e : exec c s = s.act (entryWrite n [(.ATL_STATE, x)])) (hx : x < 2)
    (hn : n < s.mach.sled.atolls) (hold : s.mach.get .ATL_STATE n ≠ atlLive) (hok : transitionOk (s.mach.get .ATL_STATE n) x = true) :
    Completes c s [.ATL_STATE, .ATL_ERR] [] fun t => t.get .ATL_STATE n = x ∧ t.get .ATL_ERR n = 0 ∧
      Mach.Others .ATL_STATE n s.mach t ∧ Mach.Others .ATL_ERR n s.mach t := by
  have hlive : x ≠ atlLive := by unfold atlLive; omega
  refine completes_as (b := .seq (.set .ATL_STATE n x) (.set .ATL_ERR n 0)) (K := places [.ATL_STATE, .ATL_ERR] []) e ?_
    ⟨within_set ?_, within_set ?_⟩ ?_ (get_state_err n x s.mach (by omega))
  · rw [entryWrite_run_idle hn (entryCodes_state s.mach n x (by omega) hlive hok ?_) hold (withFields_state s.mach n x (by omega)) hlive]
    · rfl
    · unfold atlRetiring; omega
  iterate 3 rfl

/-! ### Admission and retirement -/

/-- What follows an admission touches none of the fields that it sets. -/
theorem admitted_within (n : Nat) : (Act.all [recordKcv n, tallyAll, keysUpdate]).Within
    (places (tallyFields ++ [.ATL_TDL_STATE, .ATL_KEYS_ABSENT, .TDL_SLOT_STATE]) [.out, .grain, .keys, .host, .lhl]) :=
  ⟨(recordKcv_within n).mono (by rfl), tallyAll_within.mono (by rfl), keysUpdate_within.mono (by rfl)⟩

theorem becomeLive_run (n : Nat) (m : Mach) : (becomeLive n).run m = (Act.all [recordKcv n, tallyAll, keysUpdate]).run
    ((Act.set .ATL_BACKING n (m.reservation n)).run ((Act.set .ATL_ERR n 0).run ((Act.set .ATL_STATE n atlLive).run m))) := by
  rw [becomeLive, Act.run_read]
  iterate 3 rw [Act.run_all_cons]

theorem admitted_get (n j : Nat) (f : Fld) (m : Mach) (h : f = .ATL_STATE ∨ f = .ATL_ERR ∨ f = .ATL_BACKING) :
    ((Act.all [recordKcv n, tallyAll, keysUpdate]).run m).get f j = m.get f j := by
  refine (admitted_within n).get f j m ?_ (by rfl)
  rcases h with rfl | rfl | rfl <;> rfl

/-! ### Changes while Live, and retirement -/

theorem atlField_ne_state (f : AtlField) : atlField f ≠ .ATL_STATE := by
  cases f <;> decide

theorem atlField_ne_err (f : AtlField) : atlField f ≠ .ATL_ERR := by
  cases f <;> decide

theorem putFields_one {f : Fld} (h : f ≠ .ATL_STATE) (n v : Nat) : putFields n [(f, v)] = .set f n v := by
  simp [putFields, Act.each, Act.all, h]

/-- What a change starts leaves every field of the entry that a write can name, and its code. -/
theorem liveEffects_get (n : Nat) (b : Mach) (f : Fld) (h : f = .ATL_ERR ∨ ∃ a, f = atlField a) (i : Nat) (m : Mach) :
    ((liveEffects n b).run m).get f i = m.get f i := by
  refine (liveEffects_within n b).get f i m ?_ (by rfl)
  rcases h with rfl | ⟨a, rfl⟩
  · rfl
  · cases a <;> rfl

theorem atlKept_lt (sl : Sled) (f : Fld) (v : Nat) : atlKept sl f (v % 2 ^ f.spec.width) < 2 ^ f.spec.width := by
  have h := Nat.mod_lt v (Nat.two_pow_pos f.spec.width)
  unfold atlKept
  split
  · exact Nat.lt_of_le_of_lt (Nat.mod_le ..) h
  · exact h

/-- The start of a retirement leaves the state and the code that were just given. -/
theorem retireStart_get (n : Nat) (f : Fld) (h : f = .ATL_STATE ∨ f = .ATL_ERR) (i : Nat) (m : Mach) :
    ((retireStart n).run m).get f i = m.get f i := by
  refine (retireStart_within n).get f i m ?_ (by rfl)
  rcases h with rfl | rfl <;> rfl

/-- What a retirement gives up at its end: pages, maps, keys and pairs. -/
def givenUp (n : Nat) : Act := .read fun m =>
  .all [.each ((m.pages.filter fun p => m.inAtoll n p.1).map (·.1)) forgetPage, freeMaps n,
    .each (m.needs n) fun x => zeroSlot x.1 x.2.1,
    .prim (.keys fun k => { k with kcv := k.kcv.filter fun p => p.1 / 4 != n, reminder := k.reminder.erase n,
                                   autoWait := k.autoWait.filter (· != n) }),
    .prim (.arc fun a => { a with pairs := a.pairs.filter fun p => p.atoll != n })]

/-- The fields of an entry that is Free again, and what follows from it. -/
def cleared (n : Nat) : Act :=
  .all [.set .ATL_MIRROR n 0, .set .ATL_BACKING n 0, .set .ATL_KEYS_ABSENT n 0, .set .ATL_STATE n atlFree,
    tallyAll, keysUpdate, lhLog 0 0x0030 n 0]

theorem retireEnd_run (n : Nat) (m : Mach) : (retireEnd n).run m = (cleared n).run ((givenUp n).run m) := by
  rw [retireEnd, givenUp, cleared, Act.run_read, Act.run_read, ← Act.run_all_append]
  rfl

theorem givenUp_get_state (n i : Nat) (m : Mach) : ((givenUp n).run m).get .ATL_STATE i = m.get .ATL_STATE i := by
  have h : (givenUp n).Within (places (forgetFields ++ [.KEY_TRANSPORT_SET, .KEY_ZEROISED, .KEY_DATA_SET, .KEY_INT_SET, .KEY_SAK_SET])
      [.pages, .out, .lines, .grain, .keys, .host, .bkw, .lhl, .arc, .bql, .que]) := fun _ =>
    ⟨within_each fun pn => (forgetPage_within pn).mono (by rfl), (freeMaps_within n).mono (by rfl),
      within_each fun x => (zeroSlot_within _ _).mono (by rfl), within_keys (by rfl), within_arc (by rfl)⟩
  exact h.get _ _ m (by rfl) (by rfl)

theorem cleared_run (n : Nat) (m : Mach) : (cleared n).run m = (Act.all [tallyAll, keysUpdate, lhLog 0 0x0030 n 0]).run
    ((Act.set .ATL_STATE n atlFree).run ((Act.set .ATL_KEYS_ABSENT n 0).run ((Act.set .ATL_BACKING n 0).run
      ((Act.set .ATL_MIRROR n 0).run m)))) := by
  rw [cleared]
  iterate 4 rw [Act.run_all_cons]

theorem cleared_get (n j : Nat) (f : Fld) (m : Mach) (h : f = .ATL_STATE ∨ f = .ATL_BACKING ∨ f = .ATL_MIRROR) :
    ((Act.all [tallyAll, keysUpdate, lhLog 0 0x0030 n 0]).run m).get f j = m.get f j := by
  have hw : (Act.all [tallyAll, keysUpdate, lhLog 0 0x0030 n 0]).Within 
      (places (tallyFields ++ [.ATL_TDL_STATE, .ATL_KEYS_ABSENT, .TDL_SLOT_STATE]) [.out, .grain, .host, .lhl]) :=
    ⟨tallyAll_within.mono (by rfl), keysUpdate_within.mono (by rfl), (lhLog_within _ _ _ _ _).mono (by rfl)⟩
  refine hw.get f j m ?_ (by rfl)
  rcases h with rfl | rfl | rfl <;> rfl

/-! ### The word of attributes -/

theorem withFields_get_other {f : Fld} (n i : Nat) : ∀ (l : List (Fld × Nat)) (m : Mach), (∀ x ∈ l, x.1 ≠ f) →
    (m.withFields n l).get f i = m.get f i
  | [], _, _ => rfl
  | x :: l, m, h => (withFields_get_other n i l ((Act.set x.1 n x.2).run m) fun y hy => h y (List.mem_cons_of_mem _ hy)).trans
      (Mach.get_set_other (Ne.symm (h x (List.mem_cons_self ..))) ..)

/-- The writable fields of the word of attributes (Table 2.1), with what a write gives each. -/
theorem atlValues_attributes (sl : Sled) (v : Nat) : atlValues sl 8 v =
    [(.ATL_COH, Bits.field v 0 1), (.ATL_COMP, Bits.field v 1 1), (.ATL_PLACE, Bits.field v 2 2), (.ATL_SEAL, Bits.field v 4 2),
      (.ATL_OFFSHORE, Bits.field v 6 1), (.ATL_CONTRACT, Bits.field v 9 1), (.ATL_TYPE, Bits.field v 10 1),
      (.ATL_VISITOR_WT, Bits.field v 11 1), (.ATL_CHAN_SET, Bits.field v 16 16 % sl.pick 65536 256),
      (.ATL_LAGOON_QUOTA, Bits.field v 32 24)] := rfl

/-- A Building entry takes every value of its word of attributes but the reserved SEAL. -/
theorem entryCodes_attributes {m : Mach} {n v : Nat} (hold : m.get .ATL_STATE n = atlBuilding) (hseal : Bits.field v 4 2 ≠ 3) :
    m.entryCodes n (atlValues m.sled 8 v) = [] := by
  have hnew : (m.withFields n (atlValues m.sled 8 v)).get .ATL_STATE n = atlBuilding :=
    (withFields_get_other n n _ m (by rw [atlValues_attributes]; simp)).trans hold
  have hs : ((atlValues m.sled 8 v).any fun x => x.1 == .ATL_SEAL && x.2 == 3) = false := by
    simp [atlValues_attributes, hseal]
  simp [Mach.entryCodes, hold, hnew, hs, atlBuilding, atlLive, atlFree, atlRetiring, transitionOk]

theorem entryCodes_nil (m : Mach) (n : Nat) : m.entryCodes n [] = [] := by
  have hviews : ¬ (m.get .ATL_STATE n = atlLive ∧ m.get .ATL_STATE n = atlRetiring) := fun ⟨h, h'⟩ => by
    rw [h] at h'
    exact absurd h' (by decide)
  simp only [Mach.entryCodes, Mach.withFields, List.foldl_nil]
  simpa [transitionOk] using fun h h' => absurd ⟨h, h'⟩ hviews

theorem foldl_min_le (l : List Nat) (b : Nat) : l.foldl min b ≤ b := by
  induction l generalizing b with
  | nil => exact Nat.le_refl b
  | cons x l ih => exact Nat.le_trans (ih _) (Nat.min_le_left ..)

theorem attributes_completes {s : State} {n v : Nat} (hn : n < s.mach.sled.atolls) (hold : s.mach.get .ATL_STATE n = atlBuilding)
    (hseal : Bits.field v 4 2 ≠ 3) :
    Completes (.atollEntryWrite n 8 v) s [.ATL_COH, .ATL_COMP, .ATL_PLACE, .ATL_SEAL, .ATL_OFFSHORE, .ATL_CONTRACT, .ATL_TYPE,
        .ATL_VISITOR_WT, .ATL_CHAN_SET, .ATL_LAGOON_QUOTA, .ATL_ERR] [] fun t => t.get .ATL_ERR n = 0 ∧
      t.get .ATL_COH n = Bits.field v 0 1 ∧ t.get .ATL_COMP n = Bits.field v 1 1 ∧ t.get .ATL_PLACE n = Bits.field v 2 2 ∧
      t.get .ATL_SEAL n = Bits.field v 4 2 ∧ t.get .ATL_OFFSHORE n = Bits.field v 6 1 ∧ t.get .ATL_CONTRACT n = Bits.field v 9 1 ∧
      t.get .ATL_TYPE n = Bits.field v 10 1 ∧ t.get .ATL_VISITOR_WT n = Bits.field v 11 1 ∧
      t.get .ATL_CHAN_SET n = Bits.field v 16 16 % s.mach.sled.pick 65536 256 ∧ t.get .ATL_LAGOON_QUOTA n = Bits.field v 32 24 := by
  have hput : putFields n (atlValues s.mach.sled 8 v) = .each (atlValues s.mach.sled 8 v) fun x => .set x.1 n x.2 := rfl
  have hrun : (atollEntryWrite n 8 v).run s.mach = (Act.set .ATL_ERR n 0).run ((Act.set .ATL_STATE n atlBuilding).run
      ((putFields n (atlValues s.mach.sled 8 v)).run s.mach)) := by
    rw [atollEntryWrite, Act.run_read, Act.run_when,
      if_pos (by decide), entryWrite_run_idle hn (entryCodes_attributes hold hseal)
      (by rw [hold]; decide) ((withFields_get_other n n _ _ (by rw [atlValues_attributes]; simp)).trans hold) (by decide)]
    rfl
  have hw : (putFields n (atlValues s.mach.sled 8 v)).Within (places [.ATL_COH, .ATL_COMP, .ATL_PLACE, .ATL_SEAL, .ATL_OFFSHORE,
      .ATL_CONTRACT, .ATL_TYPE, .ATL_VISITOR_WT, .ATL_CHAN_SET, .ATL_LAGOON_QUOTA, .ATL_ERR] []) := by
    rw [hput]
    refine within_each_mem fun x hx => within_set (places_mem _ ?_)
    rw [atlValues_attributes] at hx
    simp only [List.mem_cons, List.not_mem_nil, or_false] at hx
    rcases hx with rfl | rfl | rfl | rfl | rfl | rfl | rfl | rfl | rfl | rfl <;> simp
  have hstate : ((putFields n (atlValues s.mach.sled 8 v)).run s.mach).get .ATL_STATE n = atlBuilding :=
    (hw.get _ _ _ (by rfl) (by rfl)).trans hold
  refine ⟨_, rfl, rfl, ?_, ?_⟩
  · change Mach.Frame _ _ s.mach ((atollEntryWrite n 8 v).run s.mach)
    rw [hrun]
    refine (hw.frame _ _ (inside_refl _) _).trans (Mach.Frame.trans ?_ ((within_set ?_).frame _ _ (inside_refl _) _))
    · rw [← hstate]
      exact Mach.frame_set_same (by rw [hstate]; decide) _ _
    · rfl
  · have hget {f : Fld} {x : Nat} (hx : x < 2 ^ f.spec.width) (hf : f ≠ .ATL_ERR ∧ f ≠ .ATL_STATE) (hmem : (f, x) ∈ atlValues s.mach.sled 8 v) :
        ((Act.set .ATL_ERR n 0).run ((Act.set .ATL_STATE n atlBuilding).run
          ((putFields n (atlValues s.mach.sled 8 v)).run s.mach))).get f n = x := by
      rw [Mach.get_set_other hf.1, Mach.get_set_other hf.2, hput]
      exact get_each_set n hx _ _ (by rw [atlValues_attributes]; simp) hmem
    have hw (lo w : Nat) : Bits.field v lo w < 2 ^ w := Nat.mod_lt _ (Nat.two_pow_pos w)
    change ((atollEntryWrite n 8 v).run s.mach).get _ n = _ ∧ _
    rw [hrun]
    refine ⟨Mach.get_set _ _ _ _ (Nat.two_pow_pos _), hget (hw ..) (by simp) ?_, hget (hw ..) (by simp) ?_, hget (hw ..) (by simp) ?_, hget (hw ..) (by simp) ?_,
     hget (hw ..) (by simp) ?_,  hget (hw ..) (by simp) ?_,  hget (hw ..) (by simp) ?_,  hget (hw ..) (by simp) ?_,
      hget (Nat.lt_of_le_of_lt (Nat.mod_le ..) (hw ..)) (by simp) ?_,  hget (hw ..) (by simp) ?_⟩
    all_goals rw [atlValues_attributes]; simp

/-- Settles O3: each write comes to one branch of the write of an entry. -/
theorem atollEntryCommands : Obligations.AtollEntryCommands := by
  refine ⟨?_, ?_, ?_, ?_, ?_, ?_, ?_, ?_⟩
  · intro s n hn hold
    exact completes_idle_state rfl (by decide) hn (by rw [hold]; decide) (by rw [hold]; rfl)
  · intro s n hn hold
    exact completes_idle_state rfl (by decide) hn (by rw [hold]; decide) (by rw [hold]; rfl)
  · intro s n hn hold hr hc
    refine completes_as (a := entryWrite n [(.ATL_STATE, atlLive)]) (b := becomeLive n) rfl ?_ (becomeLive_within n) (by rfl) ?_
    · rw [entryWrite_run_admit hn hc hold (withFields_state s.mach n atlLive (by decide)) hr, Act.run_seq, putFields_state, Act.run_skip]
    · simp only [becomeLive_run]
      refine ⟨?_, ?_, ?_, fun j hj => ?_, fun j hj => ?_, fun j hj => ?_⟩
      all_goals rw [admitted_get n _ _ _ (by simp)]; simp [Mach.get_set_ite, -Act.run_set, *]
      all_goals rfl
  · intro s n f v hn hold hc
    have hs := atlField_ne_state f
    refine completes_as (a := atollLiveChange n f v)
      (b := .all [.set (atlField f) n (atlKept s.mach.sled (atlField f) (v % 2 ^ (atlField f).spec.width)), .set .ATL_ERR n 0,
        liveEffects n s.mach]) rfl ?_
      ⟨within_set (places_mem _ ?_), within_set ?_, (liveEffects_within n _).mono ?_⟩ (inside_refl _) ⟨?_, ?_, fun j hj => ?_⟩
    · rw [atollLiveChange, Act.run_read, Act.run_when, hold, if_pos (beq_self_eq_true _), entryWrite_run_live hn hc hold, putFields_one hs]
      exact (Mach.get_set_other (Ne.symm hs) ..).trans hold
    · simp
    · cases f <;> rfl
    · cases f <;> rfl
    · rw [Act.run_all_cons, Act.run_all_cons, Act.run_all_one, liveEffects_get _ _ _ (.inr ⟨f, rfl⟩),
        Mach.get_set_other (atlField_ne_err f), Mach.get_set _ _ _ _ (atlKept_lt ..)]
    · rw [Act.run_all_cons, Act.run_all_cons, Act.run_all_one, liveEffects_get _ _ _ (.inl rfl)]
      exact Mach.get_set _ _ _ _ (Nat.two_pow_pos _)
    · rw [Act.run_all_cons, Act.run_all_cons, Act.run_all_one, liveEffects_get _ _ _ (.inr ⟨f, rfl⟩),
        Mach.get_set_other (atlField_ne_err f)]
      exact Mach.others_set _ _ _ _ j hj
  · intro s n hn hold hv hcl
    refine completes_as (a := entryWrite n [(.ATL_STATE, atlRetiring)])
      (b := .all [.set .ATL_STATE n atlRetiring, .set .ATL_ERR n 0, retireStart n]) rfl ?_
      ⟨within_set ?_, within_set ?_, (retireStart_within n).mono ?_⟩ (inside_refl _) ⟨?_, ?_, fun j hj => ?_, fun j hj => ?_⟩
    · rw [entryWrite_run_retire hn (entryCodes_state s.mach n atlRetiring (by decide) (by decide) (by rw [hold]; rfl) fun _ => ⟨hv, hcl⟩)
        hold (withFields_state s.mach n atlRetiring (by decide)), putFields_state, Act.run_all_cons, Act.run_skip]
    iterate 3 rfl
    all_goals
      rw [Act.run_all_cons, Act.run_all_cons, Act.run_all_one, retireStart_get _ _ (by simp)]
      simp [Mach.get_set_ite, -Act.run_set, *]
    all_goals rfl
  · intro s n hold
    refine completes_as (a := atollRetireComplete n) (b := retireEnd n) rfl ?_ (retireEnd_within n) (by rfl)
      ⟨?_, ?_, ?_, fun j hj => ?_⟩
    · rw [atollRetireComplete, Act.run_read, Act.run_when, hold, if_pos (beq_self_eq_true _)]
    all_goals
      rw [retireEnd_run, cleared_run, cleared_get _ _ _ _ (by simp)]
      simp [Mach.get_set_ite, -Act.run_set, givenUp_get_state, *]
    all_goals rfl
  · intro s n v hn hold hseal
    exact attributes_completes hn hold hseal
  · intro s n off v hn hc
    have hoff : atlFields off ≠ [] := fun h => hc (by rw [atlValues, h]; exact entryCodes_nil s.mach n)
    refine completes_as (a := atollEntryWrite n off v) (b := entryRefuse n (s.mach.entryCodes n (atlValues s.mach.sled off v))) rfl ?_
      (entryRefuse_within n _) (by rfl) ⟨?_, ?_⟩
    · rw [atollEntryWrite, Act.run_read, Act.run_when, if_pos (by simp [hoff]), entryWrite_run_refused hn hc]
    · exact Mach.get_set .ATL_ERR n _ _ (Nat.lt_succ_of_le (foldl_min_le _ _))
    · exact Mach.others_set _ _ _ _

end Sys2Proof.Machine
end

section
/-!
PROOF. O4, view slots and offers of capacity (R41, R42, R49).
-/

namespace Sys2Proof.Machine

/-! ### What a write of a slot comes to -/

theorem slotWrite_run_refused {m : Mach} {v : Nat} {l : List (Fld × Nat)} (hv : v < 4 * m.sled.atolls) (hc : m.slotCodes v l ≠ []) :
    (slotWrite v l).run m = (Act.set .VW_ERR v ((m.slotCodes v l).foldl min 0xFF)).run m := by
  simp [slotWrite, Nat.not_le.mpr hv, hc, -Act.run_set]

theorem slotWrite_run_close {m : Mach} {v : Nat} {l : List (Fld × Nat)} (hv : v < 4 * m.sled.atolls) (hc : m.slotCodes v l = [])
    (hold : m.flag .VW_VALID v = true) (hnew : (m.withFields v l).flag .VW_VALID v = false) :
    (slotWrite v l).run m = (viewClose v).run m := by
  simp [slotWrite, Nat.not_le.mpr hv, hc, hold, hnew]

theorem slotWrite_run_open {m : Mach} {v : Nat} {l : List (Fld × Nat)} (hv : v < 4 * m.sled.atolls) (hc : m.slotCodes v l = [])
    (hold : m.flag .VW_VALID v = false) (hnew : (m.withFields v l).flag .VW_VALID v = true) :
    (slotWrite v l).run m = (regionsChanged ((m.withFields v l).get .VW_LD v) ((m.withFields v l).get .VW_ATOLL v)).run
      ((Act.set .VW_ERR v 0).run ((Act.each l fun x => .set x.1 v x.2).run m)) := by
  simp [slotWrite, Nat.not_le.mpr hv, hc, hold, hnew, -Act.run_set]

/-- The fields that an opening names, with their values. -/
def openFields (ld n base : Nat) : List (Fld × Nat) :=
  [(.VW_LDBASE, base % 2 ^ 24), (.VW_LD, ld % 2 ^ 8), (.VW_ATOLL, n % 2 ^ 12), (.VW_VALID, 1)]

theorem regionsChanged_get (ld n : Nat) {f : Fld} (h : f ∈ [Fld.VW_VALID, .VW_LD, .VW_ATOLL, .VW_LDBASE, .VW_ERR]) (i : Nat) (m : Mach) :
    ((regionsChanged ld n).run m).get f i = m.get f i := by
  refine (regionsChanged_within ld n).get f i m ?_ (by rfl)
  revert f
  decide +kernel

/-! ### Closing -/

/-- The back-invalidates that a close puts behind those outstanding, in the order of the lines (R41). -/
theorem bisnps_each (h ld : Nat) (lines : List Nat) (m : Mach) :
    ((Act.each lines fun line => .all [.emit (.bisnp h ld line 0),
      .prim (.dir fun d => { d with bisnps := d.bisnps ++ [(h, ld, line, 0)] })]).run m).dir.bisnps =
        m.dir.bisnps ++ lines.map fun line => (h, ld, line, 0) := by
  induction lines generalizing m with
  | nil => simp [Act.run_each_nil]
  | cons x l ih => rw [Act.run_each_cons, ih]; simp

theorem viewClose_bisnps (v : Nat) (m : Mach) :
    ((viewClose v).run m).dir.bisnps = m.dir.bisnps ++ (if m.isShared (m.get .VW_ATOLL v) then
        (m.heldLines (m.get .VW_ATOLL v) (m.headOf (m.get .VW_LD v))).map fun line =>
          (m.headOf (m.get .VW_LD v), m.get .VW_LD v, line, 0) else []) := by
  rw [viewClose, Act.run_read]
  iterate 4 rw [Act.run_all_cons]
  rw [Act.run_all_one, Act.run_when]
  split
  · rw [bisnps_each]; rfl
  · simp [dropRanges]

theorem viewClose_fields (v : Nat) (m : Mach) :
    ((viewClose v).run m).get .VW_VALID v = 0 ∧ ((viewClose v).run m).get .VW_CLOSING v = 1 ∧ ((viewClose v).run m).get .VW_ERR v = 0 ∧
      Mach.Others .VW_VALID v m ((viewClose v).run m) ∧ Mach.Others .VW_CLOSING v m ((viewClose v).run m) ∧
      Mach.Others .VW_ERR v m ((viewClose v).run m) := by
  have hrest (lines : List Nat) (h ld : Nat) (c : Bool) (f : Fld) (i : Nat) (m : Mach) :
      ((Act.all [dropRanges v, .when c (.each lines fun line => .all [.emit (.bisnp h ld line 0),
        .prim (.dir fun d => { d with bisnps := d.bisnps ++ [(h, ld, line, 0)] })])]).run m).get f i = m.get f i := by
    have hw : (Act.all [dropRanges v, .when c (.each lines fun line => .all [.emit (.bisnp h ld line 0),
        .prim (.dir fun d => { d with bisnps := d.bisnps ++ [(h, ld, line, 0)] })])]).Within (places [] [.out, .dir, .fry]) :=
      ⟨(dropRanges_within v).mono (by rfl), within_when (within_each fun _ =>
        ⟨within_emit (by rfl), within_dir (by rfl)⟩)⟩
    exact Mach.get_congr (hw.regs m (by decide +kernel) (by rfl)) (Act.run_sled _ m) f i
  rw [viewClose, Act.run_read]
  iterate 3 rw [Act.run_all_cons]
  refine ⟨?_, ?_, ?_, fun j hj => ?_, fun j hj => ?_, fun j hj => ?_⟩
  all_goals rw [hrest]; simp [Mach.get_set_ite, -Act.run_set, *]
  all_goals decide

/-- What the end of a close gives up of an elastic view leaves the slots (R211). -/
theorem get_closing_of_givenUp (c : Bool) (pages : List Nat) (ld lo len n i : Nat) (m : Mach) :
    ((Act.when c (.all [.each pages forgetPage, cutExtents ld lo len, regionsChanged ld n])).run m).get .VW_CLOSING i =
      m.get .VW_CLOSING i := by
  have hw : (Act.when c (.all [.each pages forgetPage, cutExtents ld lo len, regionsChanged ld n])).Within
      (places (forgetFields ++ [.GRN_REVOKED]) [.pages, .out, .lines, .grain, .host, .bkw, .lhl, .arc, .bql, .que]) :=
    within_when ⟨within_each fun pn => (forgetPage_within pn).mono (by rfl), (cutExtents_within ..).mono (by rfl),
      (regionsChanged_within ld n).mono (by rfl)⟩
  exact hw.get _ _ m (by rfl) (by rfl)

/-- Settles O4: each command comes to one branch of the write of a slot, or to the offers of a heat period. -/
theorem viewCommands : Obligations.ViewCommands := by
  refine ⟨?_, ?_, ?_, ?_, ?_, ?_⟩
  · intro s v ld n base hv hold hc
    have hset (f : Fld) (x : Nat) (hx : x < 2 ^ f.spec.width) (hmem : (f, x) ∈ openFields ld n base) :
        ((Act.each (openFields ld n base) fun x => .set x.1 v x.2).run s.mach).get f v = x :=
      get_each_set v hx _ _ (by simp [openFields]) hmem
    have hnew : (s.mach.withFields v (openFields ld n base)).flag .VW_VALID v = true :=
      beq_iff_eq.mpr (Mach.get_set .VW_VALID v 1 _ (by decide))
    have hrun := slotWrite_run_open hv hc (by rw [Mach.flag, hold]; rfl) hnew
    have hreg := regionsChanged_within ((s.mach.withFields v (openFields ld n base)).get .VW_LD v)
      ((s.mach.withFields v (openFields ld n base)).get .VW_ATOLL v)
    refine completes_as (a := viewOpen v ld n base) (b := .seq (.each (openFields ld n base) fun x => .set x.1 v x.2)
      (.seq (.set .VW_ERR v 0) (regionsChanged _ _))) rfl hrun
      ⟨within_each_mem fun x hx => within_set (places_mem _ ?_), within_set ?_, hreg.mono ?_⟩ (inside_refl _) ?_
    · simp only [openFields, List.mem_cons, List.not_mem_nil, or_false] at hx
      rcases hx with rfl | rfl | rfl | rfl <;> simp
    · rfl
    · rfl
    · rw [Act.run_seq, Act.run_seq]
      refine ⟨?_, ?_, ?_, ?_, ?_, fun j hj => ?_, fun j hj => ?_, fun j hj => ?_, fun j hj => ?_, fun j hj => ?_⟩
      all_goals rw [regionsChanged_get _ _ (by simp)]
      case refine_1 => exact (Mach.get_set_other (by decide) ..).trans (hset _ _ (by decide) (by simp [openFields]))
      case refine_2 | refine_3 | refine_4 =>
        exact (Mach.get_set_other (by decide) ..).trans (hset _ _ (Nat.mod_lt _ (by decide)) (by simp [openFields]))
      case refine_5 => exact Mach.get_set _ _ _ _ (Nat.two_pow_pos _)
      all_goals simp [openFields, Act.run_each_cons, Act.run_each_nil, Mach.get_set_ite, -Act.run_set, hj]
  · intro s v ld n base hv hc
    refine completes_as (a := viewOpen v ld n base) (b := .set .VW_ERR v ((s.mach.slotCodes v (openFields ld n base)).foldl min 0xFF)) rfl
      (slotWrite_run_refused hv hc) (within_set ?_) (inside_refl _) ⟨?_, ?_⟩
    · rfl
    · exact Mach.get_reg_self _ .VW_ERR _ _
    · exact Mach.others_set _ _ _ _
  · intro s v hv hold hc
    have hnew : (s.mach.withFields v [(.VW_VALID, 0)]).flag .VW_VALID v = false :=
      congrArg (· == 1) (Mach.get_set .VW_VALID v 0 s.mach (by decide))
    obtain ⟨h1, h2, h3, h4, h5, h6⟩ := viewClose_fields v s.mach
    exact completes_as (a := viewCloseCmd v) rfl (slotWrite_run_close hv hc (by rw [Mach.flag, hold]; rfl) hnew) (viewClose_within v)
      (by rfl) ⟨h1, h2, h3, h4, h5, h6, viewClose_bisnps v s.mach⟩
  · intro s v hold hb
    refine completes_of (a := viewCloseComplete v) rfl (viewCloseComplete_within v) (by rfl) ?_
    have hif : (s.mach.flag .VW_CLOSING v && !(s.mach.dir.bisnps.any fun b => b.1 == s.mach.headOf (s.mach.get .VW_LD v) &&
        b.2.1 == s.mach.get .VW_LD v && s.mach.inAtoll (s.mach.get .VW_ATOLL v) (pageOfLine (visLine b.2.2.1)))) = true := by
      simp [Mach.flag, hold, hb]
    rw [viewCloseComplete, Act.run_read, Act.run_when, if_pos hif, Act.run_all_cons, Act.run_all_one]
    exact ⟨(get_closing_of_givenUp ..).trans (Mach.get_set _ _ _ _ (Nat.two_pow_pos _)),
      fun j hj => (get_closing_of_givenUp ..).trans (Mach.others_set _ _ _ _ j hj)⟩
  · intro s hen hlevel hper
    have hif : (s.mach.flag .GRN_ELASTIC_EN && s.mach.get .GRN_LEVEL == 0 &&
        s.mach.grain.lastHeatPeriod != s.mach.get .TIER_PERIOD_NOW + 1) = true := by
      simp [Mach.flag, hen, hlevel, hper]
    refine completes_of (a := addCapacityOffer) rfl addCapacityOffer_within (by rfl) ?_
    rw [addCapacityOffer, Act.run_read, Act.run_when, if_pos hif, Act.run_all_cons, Act.run_all_one,
      (within_each fun v => offerView_within v).grain _ (by rfl)]
    rfl
  · intro s hper
    refine completes_as (a := addCapacityOffer) (b := .skip) rfl ?_ within_skip (inside_refl _) rfl
    rw [addCapacityOffer, Act.run_read, Act.run_when, if_neg (by simp [hper]), Act.run_skip]

end Sys2Proof.Machine
end

section
/-!
SUPPORT. Counting an event changes nothing that a request is judged by: what the sled reads as behind it.
-/

namespace Sys2Proof.Machine

section
variable (a : Att) (code arg n : Nat) (m : Mach)

@[simp] theorem event_sled : ((event a code arg n).run m).sled = m.sled := Act.run_sled ..
@[simp] theorem event_host : ((event a code arg n).run m).host = m.host := (event_within a code arg n).host m (by rfl)
@[simp] theorem event_dir : ((event a code arg n).run m).dir = m.dir := (event_within a code arg n).dir m (by rfl)
@[simp] theorem event_lines : ((event a code arg n).run m).lines = m.lines := (event_within a code arg n).lines m (by rfl)
@[simp] theorem event_arc : ((event a code arg n).run m).arc = m.arc := (event_within a code arg n).arc m (by rfl)
@[simp] theorem event_bkw : ((event a code arg n).run m).bkw = m.bkw := (event_within a code arg n).bkw m (by rfl)
@[simp] theorem event_bql : ((event a code arg n).run m).bql = m.bql := (event_within a code arg n).bql m (by rfl)
@[simp] theorem event_out : ((event a code arg n).run m).out = m.out := (event_within a code arg n).out m (by rfl)
@[simp] theorem event_pages : ((event a code arg n).run m).pages = m.pages :=
  (event_within a code arg n).pages m (by rfl) (by rfl)
@[simp] theorem event_page (pn : Nat) : ((event a code arg n).run m).page pn = m.page pn := by
  rw [Mach.page, Mach.page, event_pages]

theorem event_get {f : Fld} (h : f ≠ .SND_K_VALUE ∧ f ≠ .SND_SUM) (i : Nat) : ((event a code arg n).run m).get f i = m.get f i := by
  refine (event_within a code arg n).get f i m (outside_bit (L := places countFields []) (by rfl) ?_) (by rfl)
  refine places_bit _ _ _ (fun g hg e => ?_) (fun _ hp => absurd hp List.not_mem_nil)
  have hfg := Fld.eq_of_ctorIdx e
  simp [countFields] at hg
  rcases hg with rfl | rfl
  · exact h.1 hfg.symm
  · exact h.2 hfg.symm

theorem event_idxs {f : Fld} (h : (f ≠ .SND_K_VALUE ∧ f ≠ .SND_SUM)) : ((event a code arg n).run m).idxs f = m.idxs f := by
  refine (event_within a code arg n).idxs f m (outside_bit (L := places countFields []) (by rfl) ?_) (by rfl)
  refine places_bit _ _ _ (fun g hg e => ?_) (fun _ hp => absurd hp List.not_mem_nil)
  have hfg := Fld.eq_of_ctorIdx e
  simp [countFields] at hg
  rcases hg with rfl | rfl
  · exact h.1 hfg.symm
  · exact h.2 hfg.symm

@[simp] theorem event_isBell : ((event a code arg n).run m).isBell = m.isBell := by
  funext x
  simp [Mach.isBell, Mach.flag, event_get]

@[simp] theorem event_isShared : ((event a code arg n).run m).isShared = m.isShared := by
  funext x
  simp [Mach.isShared, Mach.flag, event_get]

@[simp] theorem event_isElastic : ((event a code arg n).run m).isElastic = m.isElastic := by
  funext x
  simp [Mach.isElastic, Mach.isRemote, Mach.flag, event_get]

@[simp] theorem event_headOf : ((event a code arg n).run m).headOf = m.headOf := by
  funext ld
  simp [Mach.headOf, event_get]

@[simp] theorem event_visitHome : ((event a code arg n).run m).visitHome = m.visitHome := by
  funext x
  simp [Mach.visitHome, Mach.flag, event_get]

@[simp] theorem event_ideFlag : ((event a code arg n).run m).ideFlag = m.ideFlag := by
  funext ld
  simp [Mach.ideFlag, Mach.flag, event_get]

@[simp] theorem event_readKind : ((event a code arg n).run m).readKind = m.readKind := by
  funext x ms
  cases ms <;> simp [Mach.readKind]

@[simp] theorem event_now : ((event a code arg n).run m).now = m.now := by
  simp [Mach.now, event_get]

theorem event_ldViews : ((event a code arg n).run m).ldViews = m.ldViews := by
  funext ld
  simp [Mach.ldViews, Mach.flag, event_get, event_idxs]

theorem event_inView : ((event a code arg n).run m).inView = m.inView := by
  funext v dpa
  have hget {f : Fld} (h : f ≠ .SND_K_VALUE ∧ f ≠ .SND_SUM) := event_get a code arg n m h
  rw [Mach.inView, Mach.inView, Mach.viewBase, Mach.viewBase, Mach.viewBytes, Mach.viewBytes, event_isBell,
    hget (f := .VW_LDBASE) (by decide), hget (f := .VW_ATOLL) (by decide), hget (f := .ATL_SIZE) (by decide)]

theorem event_viewers : ((event a code arg n).run m).viewers = m.viewers := by
  funext x
  simp [Mach.viewers, Mach.atollViews, Mach.flag, event_get, event_idxs]

theorem event_atollOf : ((event a code arg n).run m).atollOf = m.atollOf := by
  have hget {f : Fld} (h : f ≠ .SND_K_VALUE ∧ f ≠ .SND_SUM) := event_get a code arg n m h
  have hin : ((event a code arg n).run m).inAtoll = m.inAtoll := by
    funext x pn
    rw [Mach.inAtoll, Mach.inAtoll, Mach.atollPage, Mach.atollPage, Mach.atollPages, Mach.atollPages, hget (f := .ATL_BASE) (by decide),
      hget (f := .ATL_SIZE) (by decide)]
  have hall : ((event a code arg n).run m).atolls = m.atolls := by
    simp only [Mach.atolls, event_idxs a code arg n m (f := .ATL_STATE) (by decide), hget (f := .ATL_STATE) (by decide)]
  funext pn
  simp only [Mach.atollOf, hall, hin, hget (f := .ATL_STATE) (by decide)]

@[simp] theorem event_decode : ((event a code arg n).run m).decode = m.decode := by
  have hget {f : Fld} (h : f ≠ .SND_K_VALUE ∧ f ≠ .SND_SUM) : @Mach.get ((event a code arg n).run m) f = @Mach.get m f :=
    funext fun i => event_get a code arg n m h i
  funext ld dpa
  unfold Mach.decode Mach.accepted Mach.viewBase
  rw [event_ldViews, event_inView, event_isElastic, event_isShared, event_headOf, event_host, hget (f := .VW_ATOLL) (by decide),
    hget (f := .HBR_HEAD_FLIT) (by decide), hget (f := .ATL_BASE) (by decide), hget (f := .VW_LDBASE) (by decide)]

@[simp] theorem event_holds : ((event a code arg n).run m).holds = m.holds := by
  funext x line h
  unfold Mach.holds Mach.dirEnt Mach.entHeads
  rw [event_dir, event_isShared, event_viewers, event_headOf]

end

/-- A request that a head presents, out of Fatal, is counted and runs. -/
theorem accept_run {m : Mach} {ld : Nat} {cxl : Bool} (a : Act) (hup : m.ldUp ld cxl = true) (hf : m.fatal = false) :
    (accept ld cxl a).run m = a.run ((event (.host (m.headOf ld / 4)) 0x2A (m.headOf ld % 4) 1).run m) := by
  simp [accept, hup, hf]

end Sys2Proof.Machine
end

section
/-!
PROOF. O5, accesses of heads (R37, R54, R57, R61, R62, R190, R195, R212, R213).
-/

namespace Sys2Proof.Machine

/-- An accepted request is counted at its head's port group (Table 19.2). -/
def accepted (m : Mach) (ld : Nat) : Act := event (.host (m.headOf ld / 4)) 0x2A (m.headOf ld % 4) 1

/-! ### Accesses that reach a home -/

theorem hostRead_run_home {m : Mach} {ld dpa : Nat} {x : Mapped} (tag sop : Nat) (ms : MetaState) (hup : m.ldUp ld true = true)
    (hf : m.fatal = false) (hd : m.decode ld dpa = some x) (hb : m.isBell x.atoll = false) (hv : m.visitHome x.atoll = none) :
    (hostRead ld dpa tag sop ms).run m = (Act.seq (accepted m ld) (request (.head ld tag) (m.readKind x.atoll ms) (x.gdpa / 64)
      fun r => { r with sop := sop, flags := m.ideFlag ld })).run m := by
  rw [hostRead, accept_run _ hup hf]
  simp only [Act.run_seq, Act.run_read, accepted, event_decode, hd, event_isBell, hb, event_visitHome, hv, event_readKind, event_ideFlag,
    Bool.false_eq_true, if_false]

theorem hostWrite_run_home {m : Mach} {ld dpa : Nat} {x : Mapped} (tag sop : Nat) (ms : MetaState) (data : Line) (mask : Nat)
    (hup : m.ldUp ld true = true) (hf : m.fatal = false) (hd : m.decode ld dpa = some x) (hb : m.isBell x.atoll = false)
    (hv : m.visitHome x.atoll = none) :
    (hostWrite ld dpa tag sop ms data mask).run m = (Act.seq (accepted m ld)
      (if m.holds x.atoll (x.gdpa / 64) (m.headOf ld) then holderWrite x.atoll ld tag (x.gdpa / 64) sop ms data mask
       else request (.head ld tag) (if mask = fullMask then .wrLine else .wrPtl) (x.gdpa / 64)
         fun r => { r with data := some data, mask := mask, sop := sop, flags := m.ideFlag ld })).run m := by
  rw [hostWrite, accept_run _ hup hf]
  simp only [Act.run_seq, Act.run_read, accepted, event_decode, hd, event_isBell, hb, event_visitHome, hv, event_holds, event_headOf,
    event_ideFlag, Bool.false_eq_true, if_false]

theorem pcieAtomicop_run_home {m : Mach} {ld off a b c w : Nat} {op : PcieAtomic} {x : Mapped} (tag : Nat)
    (hup : m.ldUp ld false = true) (hf : m.fatal = false) (hop : pcieOp op = some (c, w)) (hlg : m.get .HBR_LD_ALIAS_LOG2 ld ≠ 0)
    (hoff : off < 2 ^ m.get .HBR_LD_ALIAS_LOG2 ld) (hd : m.decode ld (m.get .HBR_LD_ALIAS_BASE ld * 2 ^ 21 + off) = some x)
    (hb : m.isBell x.atoll = false) (hv : m.visitHome x.atoll = none) (hat : atomOk c (off % 64) = true) :
    (pcieAtomicop ld off tag op a b).run m = (Act.seq (accepted m ld) (request (.head ld tag) .atom (x.gdpa / 64) fun r =>
      { r with op := c, off := off % 64, a := a % 2 ^ (8 * w), b := b % 2 ^ (8 * w), sop := 5, flags := m.ideFlag ld })).run m := by
  have hget {f : Fld} (h : f ≠ .SND_K_VALUE ∧ f ≠ .SND_SUM) := event_get (.host (m.headOf ld / 4)) 0x2A (m.headOf ld % 4) 1 m h
  have hwin : ¬ (m.get .HBR_LD_ALIAS_LOG2 ld = 0 ∨ 2 ^ m.get .HBR_LD_ALIAS_LOG2 ld ≤ off) := by omega
  rw [pcieAtomicop, accept_run _ hup hf]
  simp [-Nat.reducePow, accepted, hop, hget, hwin, hd, hb, hv, hat, Option.filter_some]

/-- What a request of a head starts stays within the places of a line request. -/
theorem accepted_seq_within {a : Act} (m : Mach) (ld : Nat) {K : Nat} (ha : a.Within K) (fs : List Fld)
    (h : inside K (places (lineFields ++ fs) [.pages, .out, .freeCtr, .lines, .dir, .host, .bkw, .lhl, .arc, .bql, .snd, .fry]) = true)
    (he : inside (places countFields []) (places (lineFields ++ fs) [.pages, .out, .freeCtr, .lines, .dir, .host, .bkw, .lhl, .arc,
      .bql, .snd, .fry]) = true) :
    (Act.seq (accepted m ld) a).Within
      (places (lineFields ++ fs) [.pages, .out, .freeCtr, .lines, .dir, .host, .bkw, .lhl, .arc, .bql, .snd, .fry]) :=
  ⟨(event_within _ _ _ _).mono (inside_trans (by rfl) he), ha.mono h⟩

/-! ### Accesses that are answered -/

/-- An unmapped access is counted at its LD, raises its source, is sampled, and is answered (R37). -/
def answeredUnmapped (m : Mach) (ld sop flags : Nat) (o : Out) : Act :=
  .all [accepted m ld, unmapped ld, sample ld sop 7 0 0 flags m.now, .emit o]

theorem hostRead_run_unmapped {m : Mach} {ld dpa : Nat} (tag sop : Nat) (ms : MetaState) (hup : m.ldUp ld true = true)
    (hf : m.fatal = false) (hd : m.decode ld dpa = none) :
    (hostRead ld dpa tag sop ms).run m = (answeredUnmapped m ld sop (m.ideFlag ld + 8) (.readData ld tag none 0)).run m := by
  rw [hostRead, accept_run _ hup hf, answeredUnmapped, Act.run_all_cons]
  simp only [Act.run_read, accepted, event_decode, hd, event_ideFlag, event_now]

theorem hostWrite_run_unmapped {m : Mach} {ld dpa : Nat} (tag sop : Nat) (ms : MetaState) (data : Line) (mask : Nat)
    (hup : m.ldUp ld true = true) (hf : m.fatal = false) (hd : m.decode ld dpa = none) :
    (hostWrite ld dpa tag sop ms data mask).run m = (answeredUnmapped m ld sop (m.ideFlag ld) (.writeCmp ld tag)).run m := by
  rw [hostWrite, accept_run _ hup hf, answeredUnmapped, Act.run_all_cons]
  simp only [Act.run_read, accepted, event_decode, hd, event_ideFlag, event_now]

theorem answeredUnmapped_within (m : Mach) (ld sop flags : Nat) (o : Out) : (answeredUnmapped m ld sop flags o).Within
    (places (lineFields ++ [.HBR_LD_UNMAPPED]) [.pages, .out, .freeCtr, .lines, .dir, .host, .bkw, .lhl, .arc, .bql, .snd, .fry]) :=
  ⟨(event_within _ _ _ _).mono (by rfl), (unmapped_within ld).mono (by rfl),
    (sample_within _ _ _ _ _ _ _).mono (by rfl), within_emit (by rfl)⟩

theorem answeredUnmapped_end (m : Mach) (ld sop flags : Nat) (o : Out) :
    ((answeredUnmapped m ld sop flags o).run m).out.getLast? = some o ∧
    ((answeredUnmapped m ld sop flags o).run m).get .HBR_LD_UNMAPPED ld = (m.get .HBR_LD_UNMAPPED ld + 1) % 2 ^ 48 ∧
    Mach.Others .HBR_LD_UNMAPPED ld m ((answeredUnmapped m ld sop flags o).run m) := by
  have hrest (id j : Nat) (m' : Mach) : ((Act.all [raise id 0 0, sample ld sop 7 0 0 flags m.now, .emit o]).run m').get
      .HBR_LD_UNMAPPED j = m'.get .HBR_LD_UNMAPPED j := by
    have hw : (Act.all [raise id 0 0, sample ld sop 7 0 0 flags m.now, .emit o]).Within
        (places lineFields [.out, .freeCtr, .lines, .host, .bkw, .lhl, .snd]) :=
      ⟨(raise_within _ _ _).mono (by rfl), (sample_within _ _ _ _ _ _ _).mono (by rfl), within_emit (by rfl)⟩
    exact hw.get _ _ _ (by rfl) (by rfl)
  have hrun : (answeredUnmapped m ld sop flags o).run m = (Act.all [raise (srcId 0x02 (((accepted m ld).run m).headOf ld) 2) 0 0,
      sample ld sop 7 0 0 flags m.now, .emit o]).run ((Act.inc .HBR_LD_UNMAPPED ld 1).run ((accepted m ld).run m)) := by
    rw [answeredUnmapped, Act.run_all_cons, Act.run_all_cons, unmapped, Act.run_read, Act.run_seq, ← Act.run_all_cons]
  have hacc (j : Nat) : ((accepted m ld).run m).get .HBR_LD_UNMAPPED j = m.get .HBR_LD_UNMAPPED j :=
    event_get _ _ _ _ m (by decide) j
  refine ⟨by rw [hrun]; exact getLast?_emit o _, ?_, fun j hj => ?_⟩
  · rw [hrun, hrest, Mach.get_inc, hacc]
    rfl
  · rw [hrun, hrest, Mach.others_inc _ _ _ _ j hj, hacc]

/-! ### Write-backs, clean evictions and flits -/

theorem headWriteBack_run_home {m : Mach} {ld dpa mask : Nat} {x : Mapped} (tag : Nat) (ms : MetaState) (data : Line)
    (hup : m.ldUp ld true = true) (hf : m.fatal = false) (hd : m.decode ld dpa = some x) (hb : m.isBell x.atoll = false)
    (hv : m.visitHome x.atoll = none) (hh : m.holds x.atoll (x.gdpa / 64) (m.headOf ld) = true) (hm : mask < fullMask) :
    (headWriteBack ld dpa tag ms data mask).run m =
      (Act.seq (accepted m ld) (holderWrite x.atoll ld tag (x.gdpa / 64) 3 ms data mask)).run m := by
  have hrun := hostWrite_run_home tag 3 ms data mask hup hf hd hb hv
  rw [if_pos hh] at hrun
  rw [← hrun, headWriteBack]
  simp [hd, hv, hh, Nat.ne_of_lt hm]

theorem memClnEvct_getLast? {m : Mach} {ld : Nat} (dpa tag : Nat) (hup : m.ldUp ld true = true) (hf : m.fatal = false) :
    ((memClnEvct ld dpa tag).run m).out.getLast? = some (.writeCmp ld tag) := by
  rw [memClnEvct, accept_run _ hup hf, Act.run_read]
  split <;> rw [Act.run_all_cons, Act.run_all_cons, Act.run_all_one, getLast?_emit]

/-- A flit that finds room is taken: the occupancy is what is open and what it brings (R53, R213). -/
theorem flitSlot_run {m : Mach} {h units : Nat} (reqs : Nat) (hw : m.get .HBR_HEAD_WIDTH h ≠ 0) (hc : m.csw.withheld = false)
    (hr : (m.openReqs h).length + units ≤ m.ingressRoom h) :
    (flitSlot h units reqs false true).run m = (Act.seq (.set .HBR_HEAD_OCCUPANCY h ((m.openReqs h).length + units))
      (event (.host (h / 4)) (if reqs ≠ 0 then 0x20 else 0x22) (h % 4) 1)).run m := by
  by_cases hq : reqs = 0 <;> simp [flitSlot, hw, hc, Nat.not_lt.mpr hr, hq, -Act.run_set]

/-- Settles O5: each access comes to the request that it starts at the home, or to its answer. -/
theorem hostAccesses : Obligations.HostAccesses := by
  refine ⟨?_, ?_, ?_, ?_, ?_, ?_, ?_, ?_, ?_, ?_⟩
  · intro s ld dpa tag ms x hup hf hd hb hv
    exact completes_as (a := hostRead ld dpa tag 0 ms) rfl (hostRead_run_home tag 0 ms hup hf hd hb hv)
      (accepted_seq_within _ _ (request_within _ _ _ _) _ (by rfl) (by rfl)) (inside_refl _) (Act.run_seq (accepted s.mach ld) _ _)
  · intro s ld dpa tag ms x hup hf hd hb hv
    exact completes_as (a := hostRead ld dpa tag 1 ms) rfl (hostRead_run_home tag 1 ms hup hf hd hb hv)
      (accepted_seq_within _ _ (request_within _ _ _ _) _ (by rfl) (by rfl)) (inside_refl _) (Act.run_seq (accepted s.mach ld) _ _)
  · intro s ld dpa tag ms hup hf hd
    exact completes_as (a := hostRead ld dpa tag 0 ms) rfl (hostRead_run_unmapped tag 0 ms hup hf hd) (answeredUnmapped_within ..)
      (inside_refl _) (answeredUnmapped_end ..)
  · intro s ld dpa tag ms data x hup hf hd hb hv hh
    have hrun := hostWrite_run_home tag 2 ms data fullMask hup hf hd hb hv
    rw [hh, if_neg Bool.false_ne_true, if_pos rfl] at hrun
    exact completes_as (a := hostWrite ld dpa tag 2 ms data fullMask) rfl hrun
      (accepted_seq_within _ _ (request_within _ _ _ _) _ (by rfl) (by rfl)) (inside_refl _) (Act.run_seq (accepted s.mach ld) _ _)
  · intro s ld dpa tag ms data mask x hup hf hd hb hv hh hm
    have hrun := hostWrite_run_home tag 3 ms data mask hup hf hd hb hv
    rw [hh, if_neg Bool.false_ne_true, if_neg (Nat.ne_of_lt hm)] at hrun
    have hmod : mask % 2 ^ 64 = mask := Nat.mod_eq_of_lt (Nat.lt_trans hm (by decide))
    exact completes_as (a := hostWrite ld dpa tag 3 ms data (mask % 2 ^ 64)) rfl 
      ((congrArg (fun k => (hostWrite ld dpa tag 3 ms data k).run s.mach) hmod).trans hrun)
      (accepted_seq_within _ _ (request_within _ _ _ _) _ (by rfl) (by rfl)) (inside_refl _) (Act.run_seq (accepted s.mach ld) _ _)
  · intro s ld dpa tag ms data hup hf hd
    exact completes_as (a := hostWrite ld dpa tag 2 ms data fullMask) rfl (hostWrite_run_unmapped tag 2 ms data fullMask hup hf hd)
      (answeredUnmapped_within ..) (by rfl) (answeredUnmapped_end ..)
  · intro s ld dpa tag ms data mask x hup hf hd hb hv hh hm
    have hmod : mask % 2 ^ 64 = mask := Nat.mod_eq_of_lt (Nat.lt_trans hm (by decide))
    have hrun := headWriteBack_run_home tag ms data hup hf hd hb hv hh hm
    exact completes_as (a := headWriteBack ld dpa tag ms data (mask % 2 ^ 64)) rfl
      ((congrArg (fun k => (headWriteBack ld dpa tag ms data k).run s.mach) hmod).trans hrun)
      (accepted_seq_within _ _ (holderWrite_within _ _ _ _ _ _ _ _) _ (by rfl) (by rfl)) (inside_refl _) (Act.run_seq (accepted s.mach ld) _ _)
  · intro s ld dpa tag hup hf
    exact completes_of (a := memClnEvct ld dpa tag) rfl (memClnEvct_within ld dpa tag) (by rfl) (memClnEvct_getLast? dpa tag hup hf)
  · intro s ld off tag a b c w op x hup hf hop hlg hoff hd hb hv hat
    exact completes_as (a := pcieAtomicop ld off tag op a b) rfl (pcieAtomicop_run_home tag hup hf hop hlg hoff hd hb hv hat)
      (accepted_seq_within _ _ (request_within _ _ _ _) _ (by rfl) (by rfl)) (inside_refl _) (Act.run_seq (accepted s.mach ld) _ _)
  · intro s h units reqs hw hc hr
    refine completes_as (a := flitSlot h units reqs false true) rfl (flitSlot_run reqs hw hc hr)
      ⟨within_set ?_, (event_within _ _ _ _).mono ?_⟩ (inside_refl _) ⟨?_, fun j hj => ?_⟩
    · rfl
    · rfl
    · exact (event_get _ _ _ _ _ (by decide) _).trans (Mach.get_reg_self _ .HBR_HEAD_OCCUPANCY _ _)
    · exact (event_get _ _ _ _ _ (by decide) _).trans (Mach.others_set _ _ _ _ j hj)

end Sys2Proof.Machine
end

section
/-!
PROOF. O6, a read that the Lagoon answers (R57, R63).
-/

namespace Sys2Proof.Machine

/-- Nothing is open on the home's side: no transaction, request, pair or directory entry, and the Lagoon holds the line whole. -/
structure Mach.Quiet (m : Mach) (line : Nat) (l : LagLine) : Prop where
  txns : m.lines.txns = []
  waits : m.lines.waits = []
  pairs : m.arc.pairs = []
  ents : m.dir.ents = []
  suspect : m.dir.suspect = []
  hit : m.lagHit line = some l

/-- What `Quiet` speaks of lies in three parts. -/
theorem Mach.Quiet.congr {m t : Mach} {line : Nat} {l : LagLine} (h : m.Quiet line l) (hl : t.lines.txns = m.lines.txns)
    (hw : t.lines.waits = m.lines.waits) (hg : t.lines.lagoon = m.lines.lagoon) (ha : t.arc = m.arc) (hd : t.dir = m.dir) :
    t.Quiet line l :=
  ⟨hl.trans h.txns, hw.trans h.waits, ha ▸ h.pairs, hd ▸ h.ents, hd ▸ h.suspect, by rw [Mach.lagHit, hg]; exact h.hit⟩

theorem Mach.lagHit_spec {m : Mach} {line : Nat} {l : LagLine} (h : m.lagHit line = some l) :
    m.lines.lagoon.find? line = some l ∧ l.mask = fullMask := by
  simpa [Mach.lagHit, Option.filter_eq_some_iff] using h

/-- What a read that the Lagoon answers leaves: the answer last, the line with its value, and nothing open. -/
structure Mach.Served (ld tag line : Nat) (v : LineVal) (m t : Mach) : Prop where
  out : t.out.getLast? = some (.readData ld tag v 0)
  cached : t.cached line = some v
  accs : t.lines.accs = m.lines.accs
  txns : t.lines.txns = []
  waits : t.lines.waits = []

/-! ### The steps of a read -/

/-- A use of the line moves it in its set, and leaves its value and what is not the Lagoon. -/
theorem useLine_run {m : Mach} {line : Nat} {l : LagLine} (h : m.lagHit line = some l) :
    ∃ ls : LineSt, (useLine line).run m = { m with lines := ls } ∧ ls.lagoon.find? line = some { l with lru := m.lines.useCtr } ∧
      ls.txns = m.lines.txns ∧ ls.waits = m.lines.waits ∧ ls.accs = m.lines.accs := by
  obtain ⟨hfind, -⟩ := Mach.lagHit_spec h
  refine ⟨{ m.lines with useCtr := m.lines.useCtr + 1, lagoon := m.lines.lagoon.put line { l with lru := m.lines.useCtr } },
    by rw [useLine, Act.run_read, hfind]; rfl, SMap.find?_put_self .., rfl, rfl, rfl⟩

theorem handoverTry_run_of_no_pair {m : Mach} (h : m.arc.pairs = []) : handoverTry.run m = m := by
  rw [handoverTry, Act.run_read, h]
  rfl

theorem closeTxn_run {m : Mach} (line : Nat) (h : m.arc.pairs = []) : (closeTxn line).run m =
    (dirStats line).run { m with lines := { m.lines with txns := m.lines.txns.filter fun x => x.req.line != line } } := by
  rw [closeTxn, Act.run_all_cons, Act.run_all_cons, Act.run_all_one, handoverTry_run_of_no_pair]
  · rfl
  · rw [(dirStats_within line).arc _ (by rfl)]
    exact h

/-- A read with no grant from the Lagoon: the line is used, the answer goes out, the transaction closes. -/
theorem deliver_served {m : Mach} {r : Req} {l : LagLine} {ld tag : Nat} (n : Nat) (hq : m.Quiet r.line l) (hsrc : r.src = .head ld tag)
    (hkind : r.kind = .rdCur) : Mach.Served ld tag r.line l.val m ((deliver n r l.val 0).run m) := by
  obtain ⟨hfind, hmask⟩ := Mach.lagHit_spec hq.hit
  have hfill : (fill n r l.val).run m = (useLine r.line).run m := by
    simp only [fill, Act.run_read, hsrc, hq.hit, Option.isSome_some, if_true]
  have hgrant (a : Mach) : (recordGrant r 0).run a = a := by
    simp only [recordGrant, Act.run_read, Mach.asHolder, hsrc, Act.run_skip]
  have hans (a : Mach) : (answer r l.val 0).run a = (Act.emit (.readData ld tag l.val 0)).run
      ((sample ld r.sop r.tier r.line ((a.atollOf (pageOfLine r.line)).getD 0)
        (r.flags + (if l.val.isNone then 8 else 0)) r.start).run a) := by
    simp [answer, hsrc, hkind, ReqOp.isWrite]
  have hrun : (deliver n r l.val 0).run m = (closeTxn r.line).run ((answer r l.val 0).run ((useLine r.line).run m)) := by
    rw [deliver, Act.run_read]
    simp only [Act.run_all_cons, Act.run_all_one, Act.run_when, hsrc, Agent.isPeer, hgrant, hfill]
    rfl
  obtain ⟨ls, huse, hline, htxns, hwaits, haccs⟩ := useLine_run hq.hit
  have hlines (op tier line n flags start : Nat) (a : Mach) : ((sample ld op tier line n flags start).run a).lines = a.lines :=
    (sample_within ld op tier line n flags start).lines a (by rfl)
  have harc (op tier line n flags start : Nat) (a : Mach) : ((sample ld op tier line n flags start).run a).arc = a.arc :=
    (sample_within ld op tier line n flags start).arc a (by rfl)
  have hpairs : ((answer r l.val 0).run ((useLine r.line).run m)).arc.pairs = [] := by
    rw [hans, huse, Act.run_emit, Prim.emit_arc, harc]
    exact hq.pairs
  rw [hrun, closeTxn_run _ hpairs, hans, huse]
  have hd := dirStats_within r.line
  constructor
  · rw [hd.out _ (by rfl)]
    exact getLast?_emit _ _
  · rw [Mach.cached, Mach.lagHit, hd.lines _ (by rfl), Act.run_emit, Prim.emit_lines, hlines]
    simp [hline, hmask, Option.filter_some]
  · rw [hd.lines _ (by rfl), Act.run_emit, Prim.emit_lines, hlines]
    exact haccs
  · rw [hd.lines _ (by rfl), Act.run_emit, Prim.emit_lines, hlines]
    simp [htxns, hq.txns]
  · rw [hd.lines _ (by rfl), Act.run_emit, Prim.emit_lines, hlines]
    exact hwaits.trans hq.waits

/-- The machine with an id drawn. -/
def Mach.drewId (m : Mach) : Mach := { m with lines := { m.lines with nextId := m.lines.nextId + 1 } }

theorem newId_run (f : Nat → Act) (m : Mach) : (Act.newId f).run m = (f m.newId).run m.drewId := rfl

theorem Mach.Quiet.drewId {m : Mach} {line : Nat} {l : LagLine} (h : m.Quiet line l) : m.drewId.Quiet line l :=
  h.congr rfl rfl rfl rfl rfl

theorem Mach.Served.of_drewId {m t : Mach} {ld tag line : Nat} {v : LineVal} (h : Mach.Served ld tag line v m.drewId t) :
    Mach.Served ld tag line v m t :=
  ⟨h.out, h.cached, h.accs, h.txns, h.waits⟩

theorem serve_served {m : Mach} {r : Req} {l : LagLine} {ld tag : Nat} (n : Nat) (hq : m.Quiet r.line l) (hsrc : r.src = .head ld tag)
    (hkind : r.kind = .rdCur) : Mach.Served ld tag r.line l.val m ((serve n r l.val).run m) := by
  have hg (a : Mach) : a.grantOf n r = 0 := by simp [Mach.grantOf, hkind]
  rw [serve, newId_run, Act.run_read, hg]
  exact (deliver_served n hq.drewId hsrc hkind).of_drewId

/-- With no entry and no suspect set Table 8.3 serves a current read, here from the Lagoon. -/
theorem advance_served {m : Mach} {r : Req} {l : LagLine} {ld tag : Nat} (n : Nat) (hq : m.Quiet r.line l) (hsrc : r.src = .head ld tag)
    (hkind : r.kind = .rdCur) : Mach.Served ld tag r.line l.val m ((advance n r).run m) := by
  have hent : m.drewId.dirEnt r.line = none := by rw [Mach.dirEnt, hq.drewId.ents]; rfl
  have hplan : m.drewId.plan n r = .serve := by
    simp only [Mach.plan, hent, hq.drewId.suspect, List.contains_nil, Bool.false_and, Bool.false_eq_true, if_false]
  have hhome : m.drewId.atHome r.line = some l.val := by simp only [Mach.atHome, Mach.cached, hq.drewId.hit]
  have hfin : (finish n r).run m.drewId = (serve n r l.val).run m.drewId := by
    simp only [finish, Act.run_read, hkind, hent, hhome]
  rw [advance, newId_run, Act.run_read, hplan, hfin]
  exact (serve_served n hq.drewId hsrc hkind).of_drewId

/-- The access is counted and touches its page; neither changes what a read is served from. -/
theorem begin_served {m : Mach} {r : Req} {l : LagLine} {ld tag n : Nat} (hq : m.Quiet r.line l) (hsrc : r.src = .head ld tag)
    (hkind : r.kind = .rdCur) (hatoll : m.atollOf (pageOfLine r.line) = some n) (hheld : m.homeHeld (m.homeOfLine r.line) = false)
    (hiso : m.bkw.isolated = []) (hfence : m.get .ARC_ATL_FENCED n = 0) (hkeys : m.keysAbsent n = false) :
    Mach.Served ld tag r.line l.val m ((begin r).run m) := by
  have htxn : m.txnOf r.line = none := by rw [Mach.txnOf, hq.txns]; rfl
  have hrun : (begin r).run m = (advance n { r with tier := m.tierTag r }).run ((Act.all [touch n (pageOfLine r.line),
      eventAt (m.homeOfLine r.line) 0x01 0 1, eventAt (m.homeOfLine r.line) 0x02 0 1]).run m) := by
    simp [begin, hatoll, hheld, Mach.homeDead, hiso, Mach.flag, hfence, hkeys, htxn, hq.pairs, Mach.needsEntry, hkind, hq.hit]
  have hw : (Act.all [touch n (pageOfLine r.line), eventAt (m.homeOfLine r.line) 0x01 0 1,
      eventAt (m.homeOfLine r.line) 0x02 0 1]).Within (places countFields [.pages]) :=
    ⟨(touch_within _ _).mono (by rfl), (eventAt_within _ _ _ _).mono (by rfl),
      (eventAt_within _ _ _ _).mono (by rfl)⟩
  have hl := hw.lines m (by rfl)
  have hserved := advance_served (r := { r with tier := m.tierTag r }) n
    (hq.congr (congrArg (·.txns) hl) (congrArg (·.waits) hl) (congrArg (·.lagoon) hl) (hw.arc m (by rfl))
      (hw.dir m (by rfl))) hsrc hkind
  rw [hrun]
  exact ⟨hserved.out, hserved.cached, hserved.accs.trans (congrArg (·.accs) hl), hserved.txns, hserved.waits⟩

theorem wake_run_of_no_wait {m : Mach} (line : Nat) (h : m.lines.waits = []) : (wake line).run m = m := by
  have hnext : m.nextWait line = none := by simp [Mach.nextWait, h]
  rw [wake, Act.run_read, h, wakeN, Act.run_read, hnext, Act.run_skip]

/-- A current read of a head, as its home takes it up. -/
def currentRead (id ld tag line start flags : Nat) : Req :=
  { id := id, src := .head ld tag, kind := .rdCur, line := line, start := start, sop := 0, flags := flags }

/-- Settles O6: the read is accepted, finds nothing in its way, and is served from the Lagoon. -/
theorem lagoonReadHit : Obligations.LagoonReadHit := by
  intro s ld dpa tag ms x l hup hf hd hb hv hsh hatoll hheld hiso hfence hseal htxns hwaits hpairs hents hsuspect hhit
  have hkind : s.mach.readKind x.atoll ms = .rdCur := by cases ms <;> simp [Mach.readKind, hsh]
  have hq : s.mach.Quiet (x.gdpa / 64) l := ⟨htxns, hwaits, hpairs, hents, hsuspect, hhit⟩
  have hkeys : s.mach.keysAbsent x.atoll = false := by rw [Mach.keysAbsent, hseal, Bool.false_and]
  let m := ((accepted s.mach ld).run s.mach).drewId
  have hget {f : Fld} (h : f ≠ .SND_K_VALUE ∧ f ≠ .SND_SUM) (i : Nat) : m.get f i = s.mach.get f i := event_get _ _ _ _ _ h i
  have hsled : m.sled = s.mach.sled := event_sled ..
  have hqm : m.Quiet (x.gdpa / 64) l := by
    refine Mach.Quiet.drewId (hq.congr ?_ ?_ ?_ (event_arc ..) (event_dir ..)) <;> rw [accepted, event_lines]
  have hserved := begin_served (m := m) (n := x.atoll) 
    (r := currentRead ((accepted s.mach ld).run s.mach).newId ld tag (x.gdpa / 64) m.now (s.mach.ideFlag ld)) hqm rfl rfl
    ((congrFun (event_atollOf ..) _).trans hatoll)
    (by rw [Mach.homeHeld, Mach.flag, hget (by decide), Mach.homeOfLine, hsled]; exact hheld) ((congrArg (·.isolated) (event_bkw ..)).trans hiso)
    ((hget (by decide) _).trans hfence)
    (by rw [Mach.keysAbsent, Mach.isSealed, Mach.isRemote, Mach.flag, Mach.flag, hget (by decide), hget (by decide), hget (by decide)]; exact hkeys)
  refine ⟨_, State.act_next s (hostRead ld dpa tag 0 ms), ?_⟩
  have hrun : (hostRead ld dpa tag 0 ms).run s.mach = 
      (begin (currentRead ((accepted s.mach ld).run s.mach).newId ld tag (x.gdpa / 64) m.now (s.mach.ideFlag ld))).run m := by
    rw [hostRead_run_home tag 0 ms hup hf hd hb hv, hkind, Act.run_seq, request, newId_run, Act.run_read, Act.run_all_cons, Act.run_all_one]
    exact wake_run_of_no_wait _ hserved.waits
  rw [hrun]
  exact ⟨hserved.out, hserved.cached, hserved.accs.trans (congrArg (·.accs) (event_lines ..)), hserved.txns⟩

end Sys2Proof.Machine
end

section
/-!
PROOF. O7, what returns from DRAM, write-backs, requests that waited, and stripes (R57, R60, R62, R64, R107, R220).
-/

namespace Sys2Proof.Machine

/-- An access whose grains have come leaves the list. -/
def endAccess (acc : Nat) : Act := .prim (.lines fun l => { l with accs := l.accs.filter fun x => x.id != acc })

/-- What the return of a line is given on to: the access leaves, the line goes on, and what waits on the line is woken. -/
def returnLine (acc n : Nat) (a : Access) (e : Ecc) (c : PoisonCause) (k : LineVal → Act) : Act :=
  .all [endAccess acc, lineReturned n a.line a.ga e c k, wake a.line]

theorem returnLine_within (acc n : Nat) (a : Access) (e : Ecc) (c : PoisonCause) {k : LineVal → Act} {K : Nat}
    (hk : ∀ v, (k v).Within K) (hK : inside K (places (lineFields ++ [.DRM_C_CE, .DRM_C_UE, .DRM_D_CE, .DRM_D_UE])
      [.dram, .pages, .out, .freeCtr, .lines, .dir, .host, .bkw, .lhl, .arc, .bql, .snd, .fry, .chan]) = true) :
    (returnLine acc n a e c k).Within (places (lineFields ++ [.DRM_C_CE, .DRM_C_UE, .DRM_D_CE, .DRM_D_UE])
      [.dram, .pages, .out, .freeCtr, .lines, .dir, .host, .bkw, .lhl, .arc, .bql, .snd, .fry, .chan]) :=
  ⟨within_lines (by rfl), lineReturned_within n a.line a.ga e c k (fun v => (hk v).mono hK) (by rfl),
    (wake_within _).mono (by rfl)⟩

theorem returnLine_run (acc n : Nat) (a : Access) (e : Ecc) (c : PoisonCause) (k : LineVal → Act) (m : Mach) :
    (returnLine acc n a e c k).run m = (wake a.line).run ((lineReturned n a.line a.ga e c k).run ((endAccess acc).run m)) := by
  rw [returnLine, Act.run_all_cons, Act.run_all_cons, Act.run_all_one]

theorem dramDataReturn_run {m : Mach} {acc n : Nat} {a : Access} {tx : Txn} (e : Ecc)
    (hacc : (m.lines.accs.find? fun a => a.id == acc && a.issued && a.kind == .fill) = some a) (htx : m.txnOf a.line = some tx)
    (hph : tx.phase = .mem) (hn : m.atollOf (pageOfLine a.line) = some n) (hc : m.cached a.line = none)
    (ht : (m.page (pageOfLine a.line)).rcd.tier ≠ .offshore) :
    (dramDataReturn acc e).run m = (returnLine acc n a e tx.req.src.readCause (filled n tx)).run m := by
  have hmem : (m.txnOf a.line).filter (fun t => t.phase == .mem) = some tx := by rw [htx, Option.filter_some, hph]; rfl
  simp only [dramDataReturn, Act.run_read, hacc, hmem, hn, hc, if_neg ht, returnLine, endAccess]

theorem partialMerge_run {m : Mach} {acc n : Nat} {a : Access} (e : Ecc)
    (hacc : (m.lines.accs.find? fun a => a.id == acc && a.issued && a.kind == .merge) = some a)
    (hn : m.atollOf (pageOfLine a.line) = some n) (htx : m.txnOf a.line = none) :
    (partialMerge acc e).run m = (returnLine acc n a e .hostWrite (merged a.line)).run m := by
  simp only [partialMerge, Act.run_read, hacc, hn, htx, Option.filter_none, returnLine, endAccess, Act.run_all_cons, Act.run_all_one,
    Act.run_some?_some, Act.run_some?_none]

/-- Only an issued access can return. -/
theorem not_issued_find? {l : List Access} {acc : Nat} (h : ∀ a ∈ l, a.id = acc → a.issued = false) (k : AccKind) :
    (l.find? fun a => a.id == acc && a.issued && a.kind == k) = none := by
  rw [List.find?_eq_none]
  intro a ha hp
  simp only [Bool.and_eq_true, beq_iff_eq] at hp
  exact Bool.false_ne_true ((h a ha hp.1.1).symm.trans hp.1.2)

/-! ### Write-backs -/

theorem event_tierOf (a : Att) (code arg k : Nat) (m : Mach) (n pn : Nat) :
    ((event a code arg k).run m).tierOf n pn = m.tierOf n pn := by
  have hpin : ((event a code arg k).run m).pinTier = m.pinTier := by
    funext n r
    simp [Mach.pinTier, event_get]
  rw [Mach.tierOf, Mach.tierOf, event_page, hpin]

theorem dropWb_lines (e : WbEnt) (m : Mach) : ((dropWb e).run m).lines = { m.lines with wb := m.lines.wb.erase e } := rfl

/-- A value that its size code gives, of a page with no extent, is counted and leaves the buffer. -/
theorem writeBack_run_zero {m : Mach} {line n : Nat} {e : WbEnt} {v : Line}
    (he : (m.lines.wb.find? fun e => e.line == line) = some e) (hval : e.val = some v)
    (hn : m.atollOf (pageOfLine line) = some n) (hkeys : m.keysAbsent n = false) (halloc : (m.page (pageOfLine line)).rcd.alloc = 0)
    (hbusy : (m.page (pageOfLine line)).rcd.busy = false) (hpush : (m.page (pageOfLine line)).rcd.pushPending = false)
    (hsize : (m.page (pageOfLine line)).rcd.size.getD (idxOfLine line) 0 = 0) (htier : m.tierOf n (pageOfLine line) = .deep)
    (hv : v = 0) : (writeBack line).run m = (Act.seq (eventAt (homeIndex m.sled (pageOfLine line)) 0x0A 0 1) (dropWb e)).run m := by
  have hevent : ((eventAt (homeIndex m.sled (pageOfLine line)) 0x0A 0 1).run m).tierOf n (pageOfLine line) = .deep ∧
      ((eventAt (homeIndex m.sled (pageOfLine line)) 0x0A 0 1).run m).page (pageOfLine line) = m.page (pageOfLine line) := by
    rw [eventAt, Act.run_read, event_tierOf, event_page]
    exact ⟨htier, rfl⟩
  obtain ⟨ht, hp⟩ := hevent
  have hoff : (m.page (pageOfLine line)).rcd.tier ≠ .offshore := by
    intro h
    simp only [Mach.tierOf, h, reduceCtorEq, false_and, and_false, if_false] at htier
  have hlock : ((m.page (pageOfLine line)).rcd.lock || (m.page (pageOfLine line)).rcd.reseal ||
      (m.page (pageOfLine line)).rcd.recallPending) = false := by
    revert hbusy
    simp +contextual [PageRec.busy]
  have hkeep (a : Mach) (h : a.page (pageOfLine line) = m.page (pageOfLine line)) :
      a.keepsCode n (pageOfLine line) (idxOfLine line) v = true := by
    simp only [Mach.keepsCode, h, hsize, hv, BEq.rfl]
  rw [writeBack, Act.run_read]
  simp only [he, hn, hkeys, halloc, hlock, if_neg hoff, hpush, hval, Act.run_all_cons, Act.run_all_one, Act.run_when, Bool.false_eq_true,
    ne_eq, not_true_eq_false, false_and, if_false]
  rw [storeValue, Act.run_read, Act.run_seq, hp, if_pos ⟨ht, hkeep _ hp⟩, if_pos halloc]

theorem writeBack_run_keysAbsent {m : Mach} {line n : Nat} {e : WbEnt}
    (he : (m.lines.wb.find? fun e => e.line == line) = some e) (hn : m.atollOf (pageOfLine line) = some n)
    (hkeys : m.keysAbsent n = true) : (writeBack line).run m = (Act.seq (dropWb e) (.inc .GRN_DROPPED 0 1)).run m := by
  simp only [writeBack, Act.run_read, he, hn, hkeys, if_true, Act.run_all_cons, Act.run_all_one, Act.run_seq]

/-! ### A host's wait -/

/-- A current read of a head that is given up is sampled and answered with poison. -/
theorem answerDead_run_head {r : Req} {ld tag : Nat} (m : Mach) (hsrc : r.src = .head ld tag) (hkind : r.kind = .rdCur) :
    (answerDead r).run m = (Act.seq (sample ld r.sop r.tier r.line ((m.atollOf (pageOfLine r.line)).getD 0) (r.flags + 8) r.start)
      (.emit (.readData ld tag none 0))).run m := by
  simp [answerDead, answer, hsrc, hkind, ReqOp.isWrite]

/-- The first of a list that has a property is the first that has a narrower one, where it has that. -/
theorem find?_of_imp {α : Type} {l : List α} {x : α} {p q : α → Bool} (h : l.find? p = some x) (hq : q x = true)
    (himp : ∀ y, q y = true → p y = true) : l.find? q = some x := by
  obtain ⟨-, as, bs, rfl, has⟩ := List.find?_eq_some_iff_append.mp h
  refine List.find?_eq_some_iff_append.mpr ⟨hq, as, bs, rfl, fun a ha => ?_⟩
  have hp := has a ha
  rw [Bool.not_eq_true'] at hp ⊢
  exact Bool.eq_false_iff.mpr fun hqa => Bool.eq_false_iff.mp hp (himp a hqa)

theorem patienceExpire_run_read {m : Mach} {id ld tag : Nat} {w : Waiting}
    (hw : (m.lines.waits.find? fun w => w.req.id == id) = some w) (hwhy : w.why = .lock ∨ w.why = .recall ∨ w.why = .held)
    (hsrc : w.req.src = .head ld tag) (hkind : w.req.kind = .rdCur) :
    (patienceExpire id).run m = (Act.all [sample ld w.req.sop w.req.tier w.req.line ((m.atollOf (pageOfLine w.req.line)).getD 0)
      (w.req.flags + 8) w.req.start, .emit (.readData ld tag none 0),
      .prim (.lines fun l => { l with waits := l.waits.filter (· != w) })]).run m := by
  have hwhy' : (w.why == .lock || w.why == .recall || w.why == .held) = true := by
    rcases hwhy with h | h | h <;> rw [h] <;> rfl
  have hid : w.req.id = id := by simpa using List.find?_some hw
  rw [patienceExpire, Act.run_read]
  dsimp only
  rw [find?_of_imp hw (by simp only [hid, hsrc, hwhy', BEq.rfl, Bool.and_self])
    (by intro y hy; simp only [Bool.and_eq_true] at hy; exact hy.1.1)]
  simp only [hkind, Act.run_all_cons, Act.run_all_one, answerDead_run_head m hsrc hkind, Act.run_seq, ReqOp.isWrite,
    Bool.false_eq_true, if_false]

/-! ### Stripes -/

/-- The home with the most headroom, the first of them. -/
def Mach.stripeGiver (m : Mach) : Nat :=
  (List.range m.sled.homes).foldl (fun g h => if m.headroom g < m.headroom h then h else g) 0

/-- The stripe `st` moves from the home `g` to the home `r`: its name, and `n` plots of each. -/
def moveStripe (m : Mach) (g r st n : Nat) : Act :=
  .all [.prim (.grain fun x => { x with stripes := x.stripes.set st (st % m.sled.homes) r }),
    .set .GRN_FREE g (m.get .GRN_FREE g - n), .set .GRN_TOTAL g (m.get .GRN_TOTAL g - n),
    .set .GRN_STRIPES g (m.get .GRN_STRIPES g - 1), .inc .GRN_FREE r n, .inc .GRN_TOTAL r n, .inc .GRN_STRIPES r 1]

theorem moveStripe_within (m : Mach) (g r st n : Nat) : (moveStripe m g r st n).Within
    (places (tallyFields ++ [.GRN_FREE, .GRN_TOTAL, .GRN_STRIPES]) [.out, .grain, .host, .lhl]) :=
  ⟨within_grain (by rfl), within_set (by rfl), within_set (by rfl), within_set (by rfl),
    within_inc (by rfl), within_inc (by rfl), within_inc (by rfl)⟩

theorem stripeTransfer_run {m : Mach} {r st : Nat}
    (hr : ((List.range m.sled.homes).find? fun h => m.headroom h < m.watermark (m.get .GRN_WM_MID_BP) h) = some r)
    (hne : m.stripeGiver ≠ r) (hmost : m.watermark (m.get .GRN_WM_HIGH_BP) m.stripeGiver < m.headroom m.stripeGiver)
    (hst : findFrom (fun x => m.stripeOwner x == m.stripeGiver && (List.range 512).all fun j => m.plotWord (x * 512 + j) == 0)
      m.grain.stripeCount 0 = some st) :
    stripeTransfer.run m = (Act.all [moveStripe m m.stripeGiver r st 8192, tallyUpdate m.stripeGiver, tallyUpdate r]).run m := by
  rw [Mach.stripeGiver] at *
  rw [stripeTransfer, Act.run_read]
  simp only [hr, hst, bne_iff_ne.mpr hne, hmost, decide_true, Bool.and_self, Act.run_when, if_true, moveStripe, Act.run_all_cons,
    Act.run_all_one]

/-- What a count leaves each entry of each field with. -/
theorem Mach.get_inc_ite (f g : Fld) (i j n : Nat) (m : Mach) :
    ((Act.inc f i n).run m).get g j = if g = f ∧ j = i then (m.get f i + n) % 2 ^ f.spec.width else m.get g j :=
  Mach.get_set_ite ..

/-- What a stripe that moves leaves of each count of plots: the giver's field less, the other's more. -/
theorem moveStripe_get {m : Mach} {g r : Nat} (h : g ≠ r) (st n : Nat) :
    ((moveStripe m g r st n).run m).get .GRN_TOTAL r = (m.get .GRN_TOTAL r + n) % 2 ^ 40 ∧
    ((moveStripe m g r st n).run m).get .GRN_FREE r = (m.get .GRN_FREE r + n) % 2 ^ 40 ∧
    ((moveStripe m g r st n).run m).get .GRN_STRIPES r = (m.get .GRN_STRIPES r + 1) % 2 ^ 32 ∧
    ((moveStripe m g r st n).run m).get .GRN_TOTAL g = (m.get .GRN_TOTAL g - n) % 2 ^ 40 ∧
    ((moveStripe m g r st n).run m).get .GRN_FREE g = (m.get .GRN_FREE g - n) % 2 ^ 40 ∧
    ((moveStripe m g r st n).run m).get .GRN_STRIPES g = (m.get .GRN_STRIPES g - 1) % 2 ^ 32 := by
  have hwT : Fld.GRN_TOTAL.spec.width = 40 := rfl
  have hwF : Fld.GRN_FREE.spec.width = 40 := rfl
  have hwS : Fld.GRN_STRIPES.spec.width = 32 := rfl
  have hg (f : Fld) (i : Nat) : ((Act.prim (.grain fun x => { x with stripes := x.stripes.set st (st % m.sled.homes) r })).run m).get f i
    = m.get f i := rfl
  simp only [moveStripe, Act.run_all_cons, Act.run_all_one, Mach.get_inc_ite, Mach.get_set_ite, reduceCtorEq, h, h.symm, false_and,
    and_false, and_self, if_true, if_false, hg, hwT, hwF, hwS]

/-- Settles O7: a return is given on, a write-back and a wait end as they stand, and a stripe moves with its plots. -/
theorem lineReturns : Obligations.LineReturns := by
  refine ⟨?_, ?_, ?_, ?_, ?_, ?_, ?_, ?_, ?_⟩
  · intro s acc e a tx n hacc htx hph hn hc ht
    have hrun := dramDataReturn_run e hacc htx hph hn hc ht
    exact completes_as rfl hrun (returnLine_within acc n a e _ (filled_within n tx) (by rfl)) (inside_refl _)
      (returnLine_run ..)
  · intro s acc e h
    refine ⟨completes_as (a := dramDataReturn acc e) (b := .skip) rfl ?_ (within_skip (K := 0)) (by rfl) rfl,
      completes_as (a := partialMerge acc e) (b := .skip) rfl ?_ (within_skip (K := 0)) (by rfl) rfl⟩
    · rw [dramDataReturn, Act.run_read, not_issued_find? h]
    · rw [partialMerge, Act.run_read, not_issued_find? h]
  · intro s pn h
    refine completes_of (a := lockedRequestResume pn) rfl (lockedRequestResume_within pn) (by rfl) ?_
    rw [lockedRequestResume, Act.run_read, Act.run_when, h, if_pos (by decide), resumePage, Act.run_read]
  · intro s pn h
    refine completes_as (a := lockedRequestResume pn) (b := .skip) rfl ?_ (within_skip (K := 0)) (by rfl) rfl
    rw [lockedRequestResume, Act.run_read, Act.run_when, h, if_neg (by decide), Act.run_skip]
  · intro s acc e a n hacc hn htx
    have hrun := partialMerge_run e hacc hn htx
    exact completes_as rfl hrun (returnLine_within acc n a e _ (merged_within a.line) (by rfl)) (inside_refl _)
      (returnLine_run ..)
  · intro s line n e v he hval hn hkeys halloc hbusy hpush hsize htier hv
    have hrun := writeBack_run_zero he hval hn hkeys halloc hbusy hpush hsize htier hv
    refine completes_as rfl hrun (K := places countFields [.lines]) ⟨(eventAt_within _ _ _ _).mono (by rfl),
      (dropWb_within e).mono (by rfl)⟩ (inside_refl _) ?_
    rw [Act.run_seq, dropWb_lines, (eventAt_within _ _ _ _).lines _ (by rfl)]
  · intro s line n e he hn hkeys
    have hrun := writeBack_run_keysAbsent he hn hkeys
    exact completes_as rfl hrun (K := places [.GRN_DROPPED] [.lines]) ⟨(dropWb_within e).mono (by rfl), within_inc (by rfl)⟩
      (inside_refl _) ⟨rfl, Mach.get_inc ..⟩
  · intro s id ld tag w hw hwhy hsrc hkind
    have hrun := patienceExpire_run_read hw hwhy hsrc hkind
    refine completes_as rfl hrun (K := places (countFields ++ [.FRY_ERR, .FRY_M_ERR, .SND_S_HELD, .SND_S_LOST])
      [.out, .freeCtr, .lines, .dir, .bql, .snd, .fry]) ⟨(sample_within _ _ _ _ _ _ _).mono (by rfl), within_emit (by rfl),
        within_lines (by rfl)⟩ (inside_refl _) ⟨?_, ?_⟩
    · rw [Act.run_all_cons, Act.run_all_cons, Act.run_all_one]
      exact getLast?_emit _ _
    · rw [Act.run_all_cons, Act.run_all_cons, Act.run_all_one, ← (sample_within ld w.req.sop w.req.tier w.req.line
        ((s.mach.atollOf (pageOfLine w.req.line)).getD 0) (w.req.flags + 8) w.req.start).lines s.mach (by rfl)]
      rfl
  · intro s r st hr h
    obtain ⟨hne, hmost, hst⟩ := h
    have hrun := stripeTransfer_run hr hne hmost hst
    have htally (h : Nat) : (tallyUpdate h).Within (places tallyFields [.out, .grain, .host, .lhl]) :=
      (tallyUpdate_within h).mono (by rfl)
    have hw : (Act.all [moveStripe s.mach s.mach.stripeGiver r st 8192, tallyUpdate s.mach.stripeGiver, tallyUpdate r]).Within
        (places (tallyFields ++ [.GRN_FREE, .GRN_TOTAL, .GRN_STRIPES]) [.out, .grain, .host, .lhl]) :=
      ⟨moveStripe_within _ _ _ _ _, (htally _).mono (by rfl), (htally _).mono (by rfl)⟩
    refine completes_as rfl hrun hw (inside_refl _) ?_
    have hkeep {f : Fld} (hf : (places tallyFields [.out, .grain, .host, .lhl]).testBit f.ctorIdx = false) (i : Nat) :
        ((Act.all [moveStripe s.mach s.mach.stripeGiver r st 8192, tallyUpdate s.mach.stripeGiver, tallyUpdate r]).run s.mach).get f i =
          ((moveStripe s.mach s.mach.stripeGiver r st 8192).run s.mach).get f i := by
      rw [Act.run_all_cons, Act.run_all_cons, Act.run_all_one, (htally r).get _ _ _ hf (by rfl),
        (htally _).get _ _ _ hf (by rfl)]
    have hmove := moveStripe_get (m := s.mach) (g := s.mach.stripeGiver) hne st 8192
    rw [← hkeep (by rfl), ← hkeep (by rfl), ← hkeep (by rfl), ← hkeep (by rfl),
      ← hkeep (by rfl), ← hkeep (by rfl)] at hmove
    exact hmove

end Sys2Proof.Machine
end

section
/-!
PROOF. O8, the Dredger's moves (R99 to R109, Tables 5.1 to 5.3).
-/

namespace Sys2Proof.Machine

/-! ### What a page reads as -/

theorem Mach.page_put_self (pn : Nat) (p : PageSt) (m : Mach) : ((Prim.page pn p).apply m).page pn = p := by
  rw [Mach.page, Prim.page_pages, SMap.find?_set_self]

theorem Mach.page_put_other {pn q : Nat} (h : q ≠ pn) (p : PageSt) (m : Mach) : ((Prim.page pn p).apply m).page q = m.page q := by
  rw [Mach.page, Prim.page_pages, SMap.find?_set_ne _ _ _ _ _ h, Mach.page]

theorem Act.Within.page {K : Nat} {a : Act} (ha : a.Within K) (h1 : K.testBit 601 = false) (h2 : K.testBit 605 = false) (m : Mach)
    (pn : Nat) : (a.run m).page pn = m.page pn := by
  rw [Mach.page, ha.pages m h1 h2, Mach.page]

theorem rcd_page_self (pn : Nat) (f : PageRec → PageRec) (m : Mach) : (((Act.rcd pn f).run m).page pn).rcd = f (m.page pn).rcd := by
  rw [Act.rcd, Act.run_read, Act.run_prim, Mach.page_put_self]
  rfl

theorem rcd_page_other {pn q : Nat} (h : q ≠ pn) (f : PageRec → PageRec) (m : Mach) : ((Act.rcd pn f).run m).page q = m.page q := by
  rw [Act.rcd, Act.run_read, Act.run_prim, Mach.page_put_other h]

theorem writeExtent_rcd (n pn ga : Nat) (r : PageRec) (nx : Bool) (ls : List LineVal) (m : Mach) :
    (((writeExtent n pn ga r nx ls).run m).page pn).rcd = { r with base := if r.alloc = 0 then 0 else ga } := by
  rw [writeExtent, Act.run_read, Act.run_all_cons, Act.run_all_cons, Act.run_all_cons, Act.run_all_one, putPage, Act.run_read,
    Act.run_prim, Mach.page_put_self]
  rfl

theorem inc_page (f : Fld) (i n pn : Nat) (m : Mach) : ((Act.inc f i n).run m).page pn = m.page pn := rfl

/-! ### A move that commits -/

/-- The counted end of a move leaves every page. -/
theorem moved_page (h pn kind q : Nat) (m : Mach) : ((moved h pn kind).run m).page q = m.page q :=
  (moved_within h pn kind).page (by rfl) (by rfl) m q

theorem moved_get_moves (h pn kind : Nat) (m : Mach) : ((moved h pn kind).run m).get .GRN_MOVES h = (m.get .GRN_MOVES h + 1) % 2 ^ 32 := by
  have htail : (Act.all [tallyUpdate h, eventAt h 0x09 kind 1, eventAt h 0x09 4 1, tagOp 70 kind (pn * 64) 0 0 [2, 3, 4, 5, 6]]).Within
      (places (tallyFields ++ countFields ++ [.SND_T_LOST]) [.out, .freeCtr, .grain, .host, .lhl, .snd]) :=
    ⟨(tallyUpdate_within h).mono (by rfl), (eventAt_within _ _ _ _).mono (by rfl),
      (eventAt_within _ _ _ _).mono (by rfl), (tagOp_within _ _ _ _ _ _).mono (by rfl)⟩
  rw [moved, Act.run_all_cons, htail.get _ _ _ (by rfl) (by rfl), Mach.get_inc]
  rfl

theorem movePlots_page (h p n src dst q : Nat) (m : Mach) : ((movePlots h p n src dst).run m).page q = m.page q :=
  (movePlots_within h p n src dst).page (by rfl) (by rfl) m q

theorem movePlots_moves (h p n src dst i : Nat) (m : Mach) : ((movePlots h p n src dst).run m).get .GRN_MOVES i = m.get .GRN_MOVES i :=
  (movePlots_within h p n src dst).get _ _ _ (by rfl) (by rfl)

theorem chargeExtent_page (ga n master : Nat) (w : Bool) (q : Nat) (m : Mach) : ((chargeExtent ga n master w).run m).page q = m.page q :=
  (chargeExtent_within ga n master w).page (by rfl) (by rfl) m q

theorem retireExtent_page (h ga n q : Nat) (m : Mach) : ((retireExtent h ga n).run m).page q = m.page q :=
  (retireExtent_within h ga n).page (by rfl) (by rfl) m q

/-! ### Trim and relocation -/

/-- A Deep page's record with the plots that its grains need. -/
def PageRec.trimmed (r : PageRec) : PageRec := { r with alloc := needPlots r, base := if needPlots r = 0 then 0 else r.base }

/-- A trim with slack cuts the record, frees the trailing plots and counts a move. -/
theorem trim_post {m : Mach} {pn : Nat} (ht : (m.page pn).rcd.tier = .deep) (hl : (m.page pn).rcd.lock = false)
    (hn : needPlots (m.page pn).rcd < (m.page pn).rcd.alloc) :
    (((trim pn).run m).page pn).rcd = (m.page pn).rcd.trimmed ∧ (∀ q, q ≠ pn → ((trim pn).run m).page q = m.page q) ∧
    ((trim pn).run m).get .GRN_MOVES (homeIndex m.sled pn) = (m.get .GRN_MOVES (homeIndex m.sled pn) + 1) % 2 ^ 32 := by
  have hrcd (f : PageRec → PageRec) (i : Nat) (a : Mach) : ((Act.rcd pn f).run a).get .GRN_MOVES i = a.get .GRN_MOVES i := rfl
  rw [trim, Act.run_read, Act.run_when, ht, hl, if_pos (by rw [decide_eq_true hn]; rfl)]
  simp only [Act.run_all_cons, Act.run_all_one, moved_page, moved_get_moves, movePlots_page, movePlots_moves, hrcd]
  exact ⟨rcd_page_self .., fun q hq => rcd_page_other hq .., trivial⟩

/-- A page whose extent lies on a live channel has it at the new plots, of the plots that it needs; no other page changes. -/
theorem relocateTo_page {m : Mach} {pn : Nat} (p : Nat) (hdead : m.pageDead pn = false) :
    (((relocateTo pn p).run m).page pn).rcd = { (m.page pn).rcd with base := 16 * p, alloc := needPlots (m.page pn).rcd } ∧
    ∀ q, q ≠ pn → ((relocateTo pn p).run m).page q = m.page q := by
  have hpoke (a : Nat) (bs : List Byte) (a' : Mach) (q : Nat) : ((Act.prim (.poke a bs)).run a').page q = a'.page q := rfl
  rw [relocateTo, Act.run_read, hdead, if_neg (by decide)]
  simp only [Act.run_all_cons, Act.run_all_one]
  refine ⟨?_, fun q hq => ?_⟩
  · rw [moved_page, retireExtent_page, rcd_page_self, hpoke, chargeExtent_page, chargeExtent_page, movePlots_page]
  · rw [moved_page, retireExtent_page, rcd_page_other hq, hpoke, chargeExtent_page, chargeExtent_page, movePlots_page]

theorem moveMapBlock_page (n pn ch : Nat) (tag : Bool) (q : Nat) (m : Mach) : ((moveMapBlock n pn ch tag).run m).page q = m.page q := 
  (moveMapBlock_within n pn ch tag).page (by rfl) (by rfl) m q

theorem relocation_run {m : Mach} {pn n p ch : Nat} (hn : m.atollOf pn = some n) (hd : m.dredgeable n = true)
    (hb : (m.page pn).rcd.busy = false) (hch : ch ∈ m.chanSet n) (ha : (m.page pn).rcd.alloc ≠ 0) (hneed : needPlots (m.page pn).rcd ≠ 0)
    (hp : m.placeExtent (homeIndex m.sled pn) (needPlots (m.page pn).rcd) 0 [ch] = some p) :
    (relocation pn ch).run m =
      (Act.all [relocateTo pn p, moveMapBlock n pn ch false, moveMapBlock n pn ch true]).run m := by
  have hc : (m.chanSet n).contains ch = true := List.contains_iff_mem.mpr hch
  rw [relocation, Act.run_read, hn]
  simp only [hd, hb, hc, Act.run_when, Bool.not_false, Bool.and_self, if_true, if_neg ha, if_neg hneed, hp, Act.run_seq, Act.run_all_cons,
    Act.run_all_one]

/-! ### Sinks and lifts -/

/-- The codes of a page that sinks, by R82. -/
def Mach.sinkCodes (m : Mach) (n pn : Nat) : List Nat := codesFor (m.flag .ATL_COMP n) (m.storedPage n pn)

/-- The plots of a page that sinks. -/
def Mach.sinkPlots (m : Mach) (n pn : Nat) : Nat := Bits.ceilDiv (grainTotal (m.sinkCodes n pn)) 16

/-- The record of a page that has sunk to the plot p. -/
def PageRec.sunk (r : PageRec) (p plots : Nat) (codes : List Nat) : PageRec :=
  { r with base := 16 * p, alloc := plots, tier := .deep, size := codes, epoch := nextEpoch r.epoch }

/-- The record of a page that has been lifted to the plot p. -/
def PageRec.lifted (r : PageRec) (p : Nat) (codes : List Nat) : PageRec :=
  { r with base := 16 * p, alloc := 16, tier := .shallows, size := codes, epoch := nextEpoch r.epoch }

/-- The page's grains at the plot p, and the old plots on their way (Table 5.1). -/
def sinkInto (m : Mach) (n pn p : Nat) : Act :=
  .all [poisonLines n pn (m.badLines n pn) .mediaManagement 1, movePlots (homeIndex m.sled pn) p (m.sinkPlots n pn) 0 1,
    chargeExtent (m.page pn).rcd.base (m.page pn).rcd.alloc 70 false, chargeExtent (16 * p) (m.sinkPlots n pn) 70 true,
    writeExtent n pn (16 * p) ((m.page pn).rcd.sunk p (m.sinkPlots n pn) (m.sinkCodes n pn)) (m.useNext n pn) (m.storedPage n pn),
    retireExtent (homeIndex m.sled pn) (m.page pn).rcd.base (m.page pn).rcd.alloc]

theorem sinkInto_within (m : Mach) (n pn p : Nat) : (sinkInto m n pn p).Within (places (plotFields ++ countFields ++ [.RGL_M_LINES])
    [.dram, .pages, .out, .lines, .grain, .host, .bkw, .lhl, .rgl]) :=
  ⟨(poisonLines_within _ _ _ _ _).mono (by rfl), (movePlots_within _ _ _ _ _).mono (by rfl),
    (chargeExtent_within _ _ _ _).mono (by rfl), (chargeExtent_within _ _ _ _).mono (by rfl),
    (writeExtent_within _ _ _ _ _ _).mono (by rfl), (retireExtent_within _ _ _).mono (by rfl)⟩

theorem sinkInto_rcd {m : Mach} {n pn : Nat} (p : Nat) (h : m.sinkPlots n pn ≠ 0) :
    (((sinkInto m n pn p).run m).page pn).rcd = (m.page pn).rcd.sunk p (m.sinkPlots n pn) (m.sinkCodes n pn) := by
  simp only [sinkInto, Act.run_all_cons, Act.run_all_one, retireExtent_page, writeExtent_rcd, PageRec.sunk, if_neg h]

theorem sinkCmd_run {m : Mach} {n pn p : Nat} (hn : m.atollOf pn = some n) (hd : m.dredgeable n = true)
    (hb : (m.page pn).rcd.busy = false) (hdue : m.sinkDue n pn = true) (hwb : m.wbHolds pn = false) (hdead : m.pageDead pn = false)
    (hep : m.epochEnd n pn = false) (hneed : m.sinkPlots n pn ≠ 0)
    (hp : m.placeExtent (homeIndex m.sled pn) (m.sinkPlots n pn) (m.pageK n pn) (m.chanSet n) = some p) :
    (sinkCmd pn).run m = (moved (homeIndex m.sled pn) pn 0).run ((Act.inc .TIER_SINKS 0 1).run ((sinkInto m n pn p).run m)) := by
  rw [Mach.sinkPlots, Mach.sinkCodes] at hneed hp
  simp only [sinkCmd, Act.run_read, hn, Act.run_some?_some, Act.run_when, hd, hb, hdue, Bool.not_false, Bool.and_self, if_true, sink, hwb,
    hdead, hep, Bool.or_self, Bool.false_eq_true, if_false, if_neg hneed, hp, sinkInto, Mach.sinkPlots, Mach.sinkCodes, PageRec.sunk, Act.run_all_cons,
    Act.run_all_one]

theorem liftInto_rcd (n pn p : Nat) (m : Mach) : (((liftInto n pn p none).run m).page pn).rcd =
    (m.page pn).rcd.lifted p (liftCodes (m.page pn).rcd.size (m.badLines n pn) none) := by
  rw [liftInto, Act.run_read]
  simp only [Act.run_all_cons, Act.run_all_one, retireExtent_page, writeExtent_rcd]
  rfl

/-- The lift of a page no longer waits. -/
def liftDone (pn : Nat) : Act := .prim (.grain fun g => { g with liftWaits := g.liftWaits.filter fun x => x.1 != pn })

theorem liftCmd_run_heat {m : Mach} {n pn p : Nat} (hn : m.atollOf pn = some n) (hdue : m.liftDue n pn .heat = true)
    (hdead : m.pageDead pn = false) (hep : m.epochEnd n pn = false)
    (hp : m.placeExtent (homeIndex m.sled pn) 16 (m.pageK n pn) (m.chanSet n) = some p) :
    (liftCmd pn .heat).run m = (moved (homeIndex m.sled pn) pn 1).run ((Act.inc .TIER_LIFTS_HEAT 0 1).run
      ((liftDone pn).run ((liftInto n pn p none).run m))) := by
  simp only [liftCmd, Act.run_read, hn, Act.run_some?_some, Act.run_when, hdue, if_true, lift, hdead, hep, Bool.false_eq_true, if_false,
    hp, Act.run_all_cons, Act.run_all_one, liftDone]
  rfl

/-! ### Compaction and the sweep -/

theorem compaction_run {m : Mach} {h b pn n p : Nat} (hdue : m.compactDue h = true) (hb : fewest (m.compactable h) = some b)
    (hpages : m.blockPages b = [pn]) (hn : m.atollOf pn = some n) (hd : m.dredgeable n = true) (hbusy : (m.page pn).rcd.busy = false)
    (hneed : needPlots (m.page pn).rcd ≠ 0)
    (hp : ((m.chanSet n).filterMap fun c => (m.partBlocks h c).findSome? fun b' =>
      if b' = b then none else (windowIn (m.plotWord b') (needPlots (m.page pn).rcd)).map (b' * 16 + ·)).head? = some p) :
    (compaction h).run m = (relocateTo pn p).run m := by
  rw [compaction, Act.run_read]
  simp only [hdue, if_true, hb, hpages, Act.run_each_cons, Act.run_each_nil, Act.run_read, hn, hd, hbusy, hneed, hp, Act.run_when,
    Bool.not_false, Bool.and_self, ne_eq, not_false_eq_true, decide_true, Act.run_some?_some]

theorem sweepVisit_run {m : Mach} {h : Nat} (hen : m.get .GRN_SWEEP_EN = 1) (hh : h < m.sled.homes) : ∃ a : Act,
    a.Within (places (plotFields ++ countFields) [.dram, .pages, .out, .lines, .grain, .host, .bkw, .lhl]) ∧
    (sweepVisit h).run m = (Act.inc .GRN_SWEEP_PASSES 0 1).run (a.run m) := by
  have hflag : m.flag .GRN_SWEEP_EN = true := by rw [Mach.flag, hen]; rfl
  rw [sweepVisit, Act.run_read]
  simp only [hflag, hh, decide_true, Bool.and_self, Act.run_when, if_true]
  refine ⟨.seq _ _, ⟨?_, ?_⟩, by rw [Act.run_all_cons, Act.run_all_cons, Act.run_all_one, Act.run_seq]⟩
  · exact within_when ((raiseIslet_within _ _ _).mono (by rfl))
  · exact within_each fun b => within_each fun j => (sweepPlot_within h (16 * b + j)).mono (by rfl)

/-- Settles O8: each move commits at the plots it found, and counts itself. -/
theorem dredgerMoves : Obligations.DredgerMoves := by
  refine ⟨?_, ?_, ?_, ?_, ?_, ?_, ?_, ?_⟩
  · intro s pn ht hl hn
    exact completes_of (a := trim pn) rfl (trim_within pn) (by rfl) (trim_post ht hl hn)
  · intro s pn n p hn hd hb hdue hwb hdead hep h
    obtain ⟨hneed, hp⟩ := h
    refine completes_of (a := sinkCmd pn) rfl (sinkCmd_within pn) (by rfl) ?_
    rw [sinkCmd_run hn hd hb hdue hwb hdead hep hneed hp, moved_page, inc_page, sinkInto_rcd p hneed]
    refine ⟨rfl, rfl, rfl, ?_, ?_⟩
    · rw [(moved_within _ _ _).get _ _ _ (by rfl) (by rfl), Mach.get_inc, (sinkInto_within ..).get _ _ _ (by rfl) (by rfl)]
      rfl
    · rw [moved_get_moves, Mach.get_inc_other (by decide), (sinkInto_within ..).get _ _ _ (by rfl) (by rfl)]
  · intro s pn n p hn hdue hdead hep hp
    refine completes_of (a := liftCmd pn .heat) rfl (liftCmd_within pn .heat) (by rfl) ?_
    have hrun := liftCmd_run_heat hn hdue hdead hep hp
    rw [hrun, moved_page, inc_page]
    have hrcd := liftInto_rcd n pn p s.mach
    have hdone (a : Mach) : ((liftDone pn).run a).page pn = a.page pn := rfl
    have hget (f : Fld) (a : Mach) : ((liftDone pn).run a).get f = a.get f := rfl
    rw [hdone, hrcd]
    refine ⟨rfl, rfl, rfl, ?_, ?_⟩
    · rw [(moved_within _ _ _).get _ _ _ (by rfl) (by rfl), Mach.get_inc, hget,
        (liftInto_within _ _ _ _).get _ _ _ (by rfl) (by rfl)]
      rfl
    · rw [(moved_within _ _ _).get _ _ _ (by rfl) (by rfl), Mach.get_inc_other (by decide), hget, 
        (liftInto_within _ _ _ _).get _ _ _ (by rfl) (by rfl)]
  · intro s pn n w hn hw ht
    refine completes_as (a := liftBlockFound pn) (b := liftDone pn) rfl ?_ (within_grain (K := places [] [.grain]) (by rfl)) (inside_refl _) rfl
    rw [liftBlockFound, Act.run_read, hw, hn]
    simp only [ht, false_and, if_false, liftDone]
  · intro s pn n p ch hn hd hb hch ha hneed hdead hp
    refine completes_of (a := relocation pn ch) rfl (relocation_within pn ch) (by rfl) ?_
    rw [relocation_run hn hd hb hch ha hneed hp]
    simp only [Act.run_all_cons, Act.run_all_one, moveMapBlock_page]
    exact relocateTo_page p hdead
  · intro s
    refine completes_of (a := oldPlotsFree) rfl oldPlotsFree_within (by rfl) ?_
    rw [oldPlotsFree, Act.run_read, Act.run_all_cons, Act.run_all_one]
    rfl
  · intro s h b pn n p hdue hb hpages hn hd hbusy hneed hdead hp
    refine completes_of (a := compaction h) rfl (compaction_within h) (by rfl) ?_
    rw [compaction_run hdue hb hpages hn hd hbusy hneed hp]
    exact relocateTo_page p hdead
  · intro s h hen hh
    refine completes_of (a := sweepVisit h) rfl (sweepVisit_within h) (by rfl) ?_
    obtain ⟨a, hw, hrun⟩ := sweepVisit_run hen hh
    rw [hrun, Mach.get_inc, hw.get _ _ _ (by rfl) (by rfl)]
    rfl

end Sys2Proof.Machine
end

section
/-!
PROOF. O10, the key commands (R142 to R150, R155).
-/

namespace Sys2Proof.Machine

theorem keysUpdate_keys (m : Mach) : (keysUpdate.run m).keys = m.keys := keysUpdate_within.keys m (by rfl)

theorem slotKey_congr {a b : Mach} (h : b.keys = a.keys) (kind i : Nat) : b.slotKey kind i = a.slotKey kind i := by
  unfold Mach.slotKey
  rw [h]

/-- A slot holds the key that is put in it. -/
theorem putKey_slotKey (kind i : Nat) (k : List Byte) (m : Mach) : ((putKey kind i k).run m).slotKey kind i = some k := by
  rw [putKey, Act.run_seq, slotKey_congr ((slotBit_within kind i true).keys _ (by rfl))]
  match kind with
  | 0 => exact SMap.find?_put_self ..
  | 1 => exact SMap.find?_put_self ..
  | 2 => rfl
  | _ + 3 => exact SMap.find?_put_self ..

/-- A slot that held a key holds none, and is counted, once it is zeroised. -/
theorem zeroSlot_slotKey {kind i : Nat} {m : Mach} (h : (m.slotKey kind i).isSome = true) :
    ((zeroSlot kind i).run m).slotKey kind i = none ∧
    ((zeroSlot kind i).run m).get .KEY_ZEROISED = (m.get .KEY_ZEROISED + 1) % 2 ^ 32 := by
  have hinc (a : Mach) : ((Act.inc .KEY_ZEROISED 0 1).run a).keys = a.keys := rfl
  rw [zeroSlot, Act.run_read, Act.run_when, if_pos h, Act.run_all_cons, Act.run_all_cons, Act.run_all_one]
  constructor
  · rw [slotKey_congr (hinc _), slotKey_congr ((slotBit_within kind i false).keys _ (by rfl))]
    match kind with
    | 0 => exact SMap.find?_erase_self ..
    | 1 => exact SMap.find?_erase_self ..
    | 2 => rfl
    | _ + 3 => exact SMap.find?_erase_self ..
  · rw [Mach.get_inc, (slotBit_within kind i false).get _ _ _ (by rfl) (by rfl)]
    rfl

/-! ### What each message comes to -/

theorem keySet_run {m : Mach} {ss : Session} {kind index : Nat} {k : List Byte} (h : keySetStatus m ss kind index k = 0) :
    (keySet ss kind index k).run m = (Act.all [putKey kind index k, keysUpdate, .emit (.keyRsp ss.id 0x81 0 (kcvOf k))]).run m := by
  rw [keySet, Act.run_read]
  simp only [h, BEq.rfl, Act.run_all_cons, Act.run_all_one, Act.run_when, if_true, keyAnswer, bne_self_eq_false, Bool.false_eq_true,
    if_false]

theorem keySet_run_refused {m : Mach} {ss : Session} {kind index : Nat} {k : List Byte} (h : keySetStatus m ss kind index k ≠ 0) :
    (keySet ss kind index k).run m = (Act.seq (.inc .KEY_SPDM_REFUSED 0 1)
      (.emit (.keyRsp ss.id 0x81 (keySetStatus m ss kind index k) (List.replicate 8 0)))).run m := by
  rw [keySet, Act.run_read]
  simp only [beq_false_of_ne h, Act.run_all_cons, Act.run_all_one, Act.run_when, Bool.false_eq_true, if_false, keyAnswer,
    bne_iff_ne.mpr h, if_true, if_neg h, Act.run_seq]

theorem keyZero_run {m : Mach} {ss : Session} {kind index : Nat} (h : keyZeroStatus m ss kind index = 0) :
    (keyZero ss kind index).run m =
      (Act.all [zeroSlot kind index, keysUpdate, .emit (.keyRsp ss.id 0x82 0 (List.replicate 8 0))]).run m := by
  rw [keyZero, Act.run_read]
  simp only [h, BEq.rfl, Act.run_all_cons, Act.run_all_one, Act.run_when, if_true, keyAnswer, bne_self_eq_false, Bool.false_eq_true,
    if_false]

theorem keyStatus_run {m : Mach} {ss : Session} {kind index : Nat} {k : List Byte} (h : keyRangeStatus m ss kind index = 0)
    (hk : m.slotKey kind index = some k) :
    (keyStatus ss kind index).run m = (Act.emit (.keyRsp ss.id 0x83 0 (kcvOf k))).run m := by
  rw [keyStatus, Act.run_read]
  simp only [h, hk, if_true, keyAnswer, Act.run_all_cons, Act.run_all_one, Act.run_when, bne_self_eq_false, Bool.false_eq_true, if_false]

/-- Settles O10: each key message is its status, its slot and its answer. -/
theorem keyCommands : Obligations.KeyCommands := by
  refine ⟨?_, ?_, ?_, ?_, ?_, ?_⟩
  · intro s ss kind index k h
    refine completes_as (a := keySet ss kind index k) rfl (keySet_run h) (K := places [.ATL_TDL_STATE, .ATL_KEYS_ABSENT,
      .KEY_TRANSPORT_SET, .KEY_DATA_SET, .KEY_INT_SET, .KEY_SAK_SET, .TDL_SLOT_STATE] [.out, .keys]) ⟨(putKey_within kind index k).mono (by rfl),
        keysUpdate_within.mono (by rfl), within_emit (by rfl)⟩ (inside_refl _) ⟨?_, ?_⟩
    · rw [Act.run_all_cons, Act.run_all_cons, Act.run_all_one, Act.run_emit, slotKey_congr (Prim.emit_keys ..),
        slotKey_congr (keysUpdate_keys _), putKey_slotKey]
    · rw [Act.run_all_cons, Act.run_all_cons, Act.run_all_one, Act.run_emit, Prim.emit_out, keysUpdate_within.out _ (by rfl),
        (putKey_within kind index k).out _ (by rfl)]
  · intro s ss kind index k h
    refine completes_as (a := keySet ss kind index k) rfl (keySet_run_refused h) (K := places [.KEY_SPDM_REFUSED] [.out])
      ⟨within_inc (by rfl), within_emit (by rfl)⟩ (inside_refl _) ⟨Mach.get_inc .., ?_⟩
    rw [Act.run_seq, Act.run_emit, Prim.emit_out]
    rfl
  · intro s ss kind index h hk
    obtain ⟨hnone, hcount⟩ := zeroSlot_slotKey hk
    refine completes_as (a := keyZero ss kind index) rfl (keyZero_run h) (K := places [.ATL_TDL_STATE, .ATL_KEYS_ABSENT,
      .KEY_TRANSPORT_SET, .KEY_ZEROISED, .KEY_DATA_SET, .KEY_INT_SET, .KEY_SAK_SET, .TDL_SLOT_STATE] [.out, .keys])
      ⟨(zeroSlot_within kind index).mono (by rfl), keysUpdate_within.mono (by rfl), within_emit (by rfl)⟩
      (inside_refl _) ⟨?_, ?_, ?_⟩ <;> rw [Act.run_all_cons, Act.run_all_cons, Act.run_all_one]
    · rw [Act.run_emit, slotKey_congr (Prim.emit_keys ..), slotKey_congr (keysUpdate_keys _), hnone]
    · rw [Act.run_emit, Mach.get_congr (Prim.emit_regs _ _) rfl, keysUpdate_within.get _ _ _ (by rfl) (by rfl), hcount]
    · rw [Act.run_emit, Prim.emit_out, keysUpdate_within.out _ (by rfl), (zeroSlot_within kind index).out _ (by rfl)]
  · intro s ss kind index k h hk
    exact completes_as (a := keyStatus ss kind index) rfl (keyStatus_run h hk) (within_emit (K := places [] [.out]) (by rfl))
      (inside_refl _) rfl
  · intro s off size h
    refine completes_as (a := keyMaterialWrite off size) (b := .inc .KEY_PLAIN_WRITES 0 ((off + size - 1) / 8 - off / 8 + 1)) rfl ?_
      (within_inc (K := places [.KEY_PLAIN_WRITES] []) (by rfl)) (inside_refl _) (Mach.get_inc ..)
    rw [keyMaterialWrite, Act.run_when, if_pos (decide_eq_true h)]
  · intro s line n hn hend hwb
    refine completes_of (a := reseal line) rfl (reseal_within line) (by rfl) ?_
    rw [reseal, Act.run_read, hn, Act.run_some?_some, Act.run_when, hend, hwb, if_pos (by decide)]

end Sys2Proof.Machine
end

section
/-!
PROOF. O11, the Tideline (R157 to R171, Tables 7.11 to 7.14).
-/

namespace Sys2Proof.Machine

theorem tdlUpdate_get {f : Fld} (h : f ≠ .ATL_TDL_STATE ∧ f ≠ .TDL_SLOT_STATE) (i : Nat) (m : Mach) :
    (tdlUpdate.run m).get f i = m.get f i :=
  (tdlUpdate_within.frame [.ATL_TDL_STATE, .TDL_SLOT_STATE] [] (by rfl) m).2.1 f i (by simp [h])

theorem get_keys (k : KeySt → KeySt) (f : Fld) (i : Nat) (m : Mach) : ((Act.prim (.keys k)).run m).get f i = m.get f i := rfl

/-! ### Starts -/

/-- What a start gives the fields of its slot. -/
theorem rotStart_get (slot n : Nat) (auto : Bool) (m : Mach) :
    ((rotStart slot n auto).run m).get .TDL_SLOT_ATOLL slot = n % 2 ^ 12 ∧
    ((rotStart slot n auto).run m).get .TDL_SLOT_AUTO slot = Bits.ofBool auto ∧
    ((rotStart slot n auto).run m).get .TDL_SLOT_ERR slot = 0 ∧ ((rotStart slot n auto).run m).get .TDL_SLOT_LINE slot = 0 ∧
    ((rotStart slot n auto).run m).get .TDL_SLOT_WINDOW slot = 0 ∧
    ((rotStart slot n auto).run m).get .TDL_SLOT_PAGES slot = m.atollPages n % 2 ^ 34 ∧
    ((rotStart slot n auto).run m).get .ATL_TDL_PAGE n = 0 := by
  rw [rotStart, Act.run_read]
  simp only [Act.run_all_cons, Act.run_all_one, tdlUpdate_get, get_keys, Mach.get_set_ite, reduceCtorEq, false_and, and_self, if_true,
    if_false, ne_eq, not_false_eq_true]
  refine ⟨rfl, ?_, Nat.zero_mod _, Nat.zero_mod _, Nat.zero_mod _, rfl, Nat.zero_mod _⟩
  cases auto <;> rfl

theorem tdlSlotStart_run {m : Mach} {slot n : Nat} (hs : slot < 8) (h : m.rotErr (some slot) n = 0) :
    (tdlSlotStart slot n).run m = (rotStart slot n false).run m := by
  rw [tdlSlotStart, Act.run_read, Act.run_when, if_pos (decide_eq_true hs), if_pos h]

theorem tdlSlotStart_run_refused {m : Mach} {slot n : Nat} (hs : slot < 8) (h : m.rotErr (some slot) n ≠ 0) :
    (tdlSlotStart slot n).run m = (Act.set .TDL_SLOT_ERR slot (m.rotErr (some slot) n)).run m := by
  rw [tdlSlotStart, Act.run_read, Act.run_when, if_pos (decide_eq_true hs), if_neg h]

/-- The codes of a refused start fit their field. -/
theorem rotErr_lt (m : Mach) (slot : Option Nat) (n : Nat) : m.rotErr slot n < 2 ^ Fld.TDL_SLOT_ERR.spec.width := by
  rw [Mach.rotErr]
  split_ifs <;> decide

theorem rotationAutoStart_run {m : Mach} {slot n : Nat} (hdue : m.autoDue n = true) (hnext : m.nextReady n = true)
    (hfree : m.freeRot = some slot) (herr : m.rotErr (some slot) n = 0) :
    (rotationAutoStart n).run m = (rotStart slot n true).run m := by
  rw [rotationAutoStart, Act.run_read]
  simp only [Act.run_when, hdue, hnext, hfree, herr, if_true, Bool.not_true, Bool.false_eq_true, if_false, BEq.rfl]

theorem rotationAutoStart_run_wait {m : Mach} {n : Nat} (hdue : m.autoDue n = true) (hnext : m.nextReady n = true)
    (hfree : m.freeRot = none) : (rotationAutoStart n).run m =
      (Act.prim (.keys fun k => { k with autoWait := k.autoWait.filter (· != n) ++ [n] })).run m := by
  rw [rotationAutoStart, Act.run_read]
  simp only [Act.run_when, hdue, hnext, hfree, if_true, Bool.not_true, Bool.false_eq_true, if_false]

theorem nextKeyReminder_run {m : Mach} {n t : Nat} (hdue : m.autoDue n = true) (hnext : m.nextReady n = false)
    (hrem : m.keys.reminder.find? n = some t) : (nextKeyReminder n).run m = (needNextKey n).run m := by
  rw [nextKeyReminder, Act.run_read, Act.run_when, hdue, hnext, hrem, if_pos (by rfl)]

theorem needNextKey_keys (n : Nat) (m : Mach) : ((needNextKey n).run m).keys =
    { m.keys with reminder := m.keys.reminder.put n (m.now + 600000000000) } := by
  rw [needNextKey, Act.run_read, Act.run_all_cons, Act.run_all_cons, Act.run_all_one, Act.run_prim, Prim.keys_keys,
    (evViewers_within _ _ _ _).keys _ (by rfl), (lhLog_within _ _ _ _ _).keys _ (by rfl)]

/-! ### The walk -/

theorem tidelinePageRotate_run {m : Mach} {slot r : Nat} (hruns : m.tdlRuns slot = true)
    (hoff : ((tdlAdvance slot).run m).offered slot = some r) (ht : (((tdlAdvance slot).run m).page
      (((tdlAdvance slot).run m).atollPage (((tdlAdvance slot).run m).get .TDL_SLOT_ATOLL slot) + r)).rcd.tier ≠ .offshore) :
    (tidelinePageRotate slot).run m = (Act.read fun m =>
      if (m.page (m.atollPage (m.get .TDL_SLOT_ATOLL slot) + r)).rcd.busy ||
        m.pageDead (m.atollPage (m.get .TDL_SLOT_ATOLL slot) + r) then tdlPass slot r
      else rotatePage slot (m.get .TDL_SLOT_ATOLL slot) (m.atollPage (m.get .TDL_SLOT_ATOLL slot) + r)).run ((tdlAdvance slot).run m) := by
  rw [tidelinePageRotate, Act.run_read, Act.run_when, if_pos hruns, Act.run_seq, Act.run_read, hoff, Act.run_some?_some, Act.run_when,
    if_pos (bne_iff_ne.mpr ht), Act.run_read]

theorem imageRewrite_run {m a : Mach} {slot r : Nat} (hruns : m.tdlRuns slot = true) (ha : a = (tdlAdvance slot).run m)
    (hoff : a.offered slot = some r) (ht : (a.page (a.atollPage (a.get .TDL_SLOT_ATOLL slot) + r)).rcd.tier = .offshore)
    (hb : (a.page (a.atollPage (a.get .TDL_SLOT_ATOLL slot) + r)).rcd.busy = false) :
    (imageRewrite slot).run m = (getImage (a.atollPage (a.get .TDL_SLOT_ATOLL slot) + r) .rewriteGet 0).run
      ((Act.rcd (a.atollPage (a.get .TDL_SLOT_ATOLL slot) + r) fun x => { x with pushPending := true }).run a) := by
  subst ha
  rw [imageRewrite, Act.run_read, Act.run_when, if_pos hruns, Act.run_seq, Act.run_read, hoff, Act.run_some?_some, Act.run_when,
    if_pos (beq_iff_eq.mpr ht), hb, if_neg (by decide), Act.run_all_cons, Act.run_all_one]

theorem tdlAdvance_page (slot q : Nat) (m : Mach) : ((tdlAdvance slot).run m).page q = m.page q :=
  (tdlAdvance_within slot).page (by rfl) (by rfl) m q

theorem getImage_page (pn : Nat) (k : JobKind) (slot q : Nat) (m : Mach) : ((getImage pn k slot).run m).page q = m.page q :=
  (getImage_within pn k slot).page (by rfl) (by rfl) m q

/-! ### The end -/

theorem rotationFinish_keyCur {m : Mach} {slot n : Nat} (hruns : m.tdlRuns slot = true) (hn : m.get .TDL_SLOT_ATOLL slot = n)
    (hend : ((tdlAdvance slot).run m).get .TDL_SLOT_LINE slot = m.get .TDL_SLOT_PAGES slot) (i : Nat) :
    ((rotationFinish slot).run m).get .ATL_KEY_CUR i = if i = n then m.get .ATL_KEY_NEXT n % 2 ^ 13 else m.get .ATL_KEY_CUR i := by
  have hadv {f : Fld} (h : f ≠ .ATL_TDL_PAGE ∧ f ≠ .TDL_SLOT_LINE ∧ f ≠ .TDL_SLOT_WINDOW) (i : Nat) :
      ((tdlAdvance slot).run m).get f i = m.get f i :=
    ((tdlAdvance_within slot).frame [.ATL_TDL_PAGE, .TDL_SLOT_LINE, .TDL_SLOT_WINDOW] [] (by rfl) m).2.1 f i (by simp [h])
  have hzero (k j : Nat) (a : Mach) : ((zeroSlot k j).run a).get .ATL_KEY_CUR i = a.get .ATL_KEY_CUR i :=
    (zeroSlot_within k j).get _ _ _ (by rfl) (by rfl)
  have hlog (c d e g : Nat) (a : Mach) : ((lhLog c d e g).run a).get .ATL_KEY_CUR i = a.get .ATL_KEY_CUR i :=
    (lhLog_within c d e g _).get _ _ _ (by rfl) (by rfl)
  have hupd (a : Mach) : (keysUpdate.run a).get .ATL_KEY_CUR i = a.get .ATL_KEY_CUR i :=
    keysUpdate_within.get _ _ _ (by rfl) (by rfl)
  have hkcv (k : Nat) (b : Bool) (a : Mach) : ((kcvAdvance k b).run a).get .ATL_KEY_CUR i = a.get .ATL_KEY_CUR i := rfl
  have hwhen (c : Bool) (b : Act) (hb : ∀ a : Mach, (b.run a).get .ATL_KEY_CUR i = a.get .ATL_KEY_CUR i) (a : Mach) :
      ((Act.when c b).run a).get .ATL_KEY_CUR i = a.get .ATL_KEY_CUR i := by
    rw [Act.run_when]
    split
    · exact hb a
    · rfl
  rw [rotationFinish, Act.run_read, Act.run_when, if_pos hruns, Act.run_seq, Act.run_read]
  simp only [Act.run_when, hend, hadv, hn, BEq.rfl, if_true, ne_eq, reduceCtorEq, not_false_eq_true, and_self]
  simp only [Act.run_all_cons, Act.run_all_one, hupd, Mach.get_set_ite, get_keys, hlog, hwhen _ _ (hzero 1 _), hzero, hkcv, reduceCtorEq,
    false_and, if_false]
  rw [hwhen _ _ fun a => Mach.get_set_other (by decide) .., Mach.get_set_ite, Mach.get_set_other (by decide), hadv (by decide)]
  simp only [true_and]
  rfl

/-- Settles O11: each command of the Tideline as its step of Tables 7.11 to 7.13. -/
theorem keyRotation : Obligations.KeyRotation := by
  refine ⟨?_, ?_, ?_, ?_, ?_, ?_, ?_, ?_, ?_, ?_, ?_⟩
  · intro s slot n hs h
    exact completes_as (a := tdlSlotStart slot n) rfl (tdlSlotStart_run hs h) (rotStart_within slot n false) (by rfl)
      (rotStart_get ..)
  · intro s slot n hs h
    exact completes_as (a := tdlSlotStart slot n) rfl (tdlSlotStart_run_refused hs h)
      (within_set (K := places [.TDL_SLOT_ERR] []) (by rfl)) (inside_refl _)
      ⟨Mach.get_set _ _ _ _ (rotErr_lt ..), Mach.others_set _ _ _ _⟩
  · intro s slot n hdue hnext hfree herr
    refine completes_of (a := rotationAutoStart n) rfl (rotationAutoStart_within n) (by rfl) ?_
    obtain ⟨hatoll, hauto, he, -, -, hpages, -⟩ := rotStart_get slot n true s.mach
    rw [rotationAutoStart_run hdue hnext hfree herr]
    exact ⟨hatoll, hauto, he, hpages⟩
  · intro s n hdue hnext hfree
    exact completes_as (a := rotationAutoStart n) rfl (rotationAutoStart_run_wait hdue hnext hfree)
      (within_keys (K := places [] [.keys]) (by rfl)) (inside_refl _) rfl
  · intro s n t hdue hnext hrem
    refine completes_of (a := nextKeyReminder n) rfl (nextKeyReminder_within n) (by rfl) ?_
    rw [nextKeyReminder_run hdue hnext hrem]
    exact needNextKey_keys ..
  · intro s slot v hs
    refine completes_as (a := tdlSlotPause (some slot) v) (b := .seq (.set .TDL_SLOT_PAUSE slot (Bits.ofBool v)) tdlUpdate) rfl ?_
      (K := places [.ATL_TDL_STATE, .TDL_SLOT_PAUSE, .TDL_SLOT_STATE] []) ⟨within_set (by rfl), tdlUpdate_within.mono
        (by rfl)⟩ (inside_refl _) ?_
    · simp only [tdlSlotPause, Act.run_seq, Act.run_when, decide_eq_true hs, if_true]
    · rw [Act.run_seq, tdlUpdate_get (by decide)]
      exact Mach.get_set _ _ _ _ (by cases v <;> decide)
  · intro s v
    refine completes_as (a := tdlSlotPause none v) (b := .seq (.set .TDL_EN 0 (Bits.ofBool v)) tdlUpdate) rfl ?_
      (K := places [.ATL_TDL_STATE, .TDL_EN, .TDL_SLOT_STATE] []) ⟨within_set (by rfl), tdlUpdate_within.mono
        (by rfl)⟩ (inside_refl _) ?_
    · simp only [tdlSlotPause]
    · rw [Act.run_seq, tdlUpdate_get (by decide)]
      exact Mach.get_set _ _ _ _ (by cases v <;> decide)
  · intro s slot r m hruns hm hoff ht hb hdead
    refine completes_of (a := tidelinePageRotate slot) rfl (tidelinePageRotate_within slot) (by rfl) ?_
    subst hm
    rw [tidelinePageRotate_run hruns hoff ht, Act.run_read, hb, hdead, if_neg (by decide)]
  · intro s slot r m hruns hm hoff ht hb
    subst hm
    have hrun : (tidelinePageRotate slot).run s.mach = (Act.seq (tdlAdvance slot) (tdlPass slot r)).run s.mach := by
      rw [tidelinePageRotate_run hruns hoff ht, Act.run_read, hb, Bool.true_or, if_pos rfl, Act.run_seq]
    refine completes_as rfl hrun (K := places [.ATL_TDL_PAGE, .TDL_SLOT_LINE, .TDL_SLOT_WINDOW, .TDL_SLOT_PASSES] [.keys])
      ⟨(tdlAdvance_within slot).mono (by rfl), (tdlPass_within slot r).mono (by rfl)⟩ (inside_refl _) ?_
    rw [Act.run_seq, tdlPass, Act.run_read, Act.run_all_cons, Act.run_all_one, get_keys, Mach.get_inc,
      (tdlAdvance_within slot).get _ _ _ (by rfl) (by rfl)]
    rfl
  · intro s slot r m hruns hm hoff ht hb
    refine completes_of (a := imageRewrite slot) rfl (imageRewrite_within slot) (by rfl) ?_
    rw [imageRewrite_run hruns hm hoff ht hb, getImage_page, rcd_page_self]
    refine ⟨rfl, fun q hq => ?_⟩
    rw [getImage_page, rcd_page_other hq, hm, tdlAdvance_page]
  · intro s slot n hruns hn hend
    refine completes_of (a := rotationFinish slot) rfl (rotationFinish_within slot) (by rfl) ?_
    rw [rotationFinish_keyCur hruns hn hend, if_pos rfl]
    exact ⟨rfl, fun j hj => by rw [rotationFinish_keyCur hruns hn hend, if_neg hj]⟩

end Sys2Proof.Machine
end

section
/-!
PROOF. O12, requests of visitors at the home (R182, R185, R194, R266).
-/

namespace Sys2Proof.Machine

/-! ### A message that reaches this sled -/

theorem fromPeer_run {m : Mach} {x : Msg} (a : Act) (h : m.hears x.src) (hb : bodyOk x = true) : (fromPeer x a).run m = a.run m := by
  obtain ⟨hsled, hlink, hself⟩ := h
  rw [fromPeer, Act.run_read, Act.run_when, hsled, hlink, bne_iff_ne.mpr hself, if_pos (by decide), if_pos hb]

theorem fromPeer_run_badBody {m : Mach} {x : Msg} (a : Act) (h : m.hears x.src) (hb : bodyOk x = false) :
    (fromPeer x a).run m = (protoErr (.peer x.src)).run m := by
  obtain ⟨hsled, hlink, hself⟩ := h
  rw [fromPeer, Act.run_read, Act.run_when, hsled, hlink, bne_iff_ne.mpr hself, if_pos (by decide), hb, if_neg (by decide)]

theorem homeReq_run {m : Mach} {x : Msg} (k : ReqOp) (f : Req → Req) (h : x.home = m.self) :
    (homeReq x k f).run m = (request (.peer x.src x.txid) k x.line fun r => { f r with ag := x.agent }).run m := by
  rw [homeReq, Act.run_read, Act.run_when, if_pos (beq_iff_eq.mpr h)]

theorem homeReq_run_other {m : Mach} {x : Msg} (k : ReqOp) (f : Req → Req) (h : x.home ≠ m.self) :
    (homeReq x k f).run m = m := by
  rw [homeReq, Act.run_read, Act.run_when, if_neg (by simpa using h)]

/-- A request of a peer for a line homed here is the home's request. -/
theorem completes_homeReq {c : Instr} {s : State} {x : Msg} {code : Nat} {k : ReqOp} {f : Req → Req}
    (e : exec c s = s.act (fromPeer { x with code := code } (homeReq x k f))) (h : s.mach.hears x.src)
    (hb : bodyOk { x with code := code } = true) (hhome : x.home = s.mach.self) :
    Completes c s (lineFields ++ [.DIR_PROTO_ERR]) [.pages, .out, .freeCtr, .lines, .dir, .host, .bkw, .lhl, .arc, .bql, .snd, .fry]
      fun t => t = (request (.peer x.src x.txid) k x.line fun r => { f r with ag := x.agent }).run s.mach :=
  completes_of e (fromPeer_within _ _ ((homeReq_within x k f).mono (by rfl)) (by rfl)) (inside_refl _)
    ((fromPeer_run (x := { x with code := code }) _ h hb).trans (homeReq_run k f hhome))

/-- The line that a full write brings. -/
def msgWhole (x : Msg) (r : Req) : Req := { r with data := msgVal x }

/-- The bytes that a partial write brings, under its mask. -/
def msgPart (x : Msg) (r : Req) : Req :=
  { r with data := some (lineOf (x.body.take 64)), mask := Bits.leNat ((x.body.drop 64).take 8) }

/-! ### Protocol errors -/

theorem protoErr_get (hd : Holder) (m : Mach) : ((protoErr hd).run m).get .DIR_PROTO_ERR = (m.get .DIR_PROTO_ERR + 1) % 2 ^ 32 := by
  have hraise (id k d : Nat) (a : Mach) : ((raise id k d).run a).get .DIR_PROTO_ERR = a.get .DIR_PROTO_ERR :=
    (raise_within id k d).get _ _ _ (by rfl) (by rfl)
  have hinc : ((Act.inc .DIR_PROTO_ERR 0 1).run m).get .DIR_PROTO_ERR = (m.get .DIR_PROTO_ERR + 1) % 2 ^ 32 := Mach.get_inc ..
  rw [protoErr, Act.run_read, Act.run_all_cons, Act.run_all_one]
  cases hd with
  | head h => rw [hraise, hinc]
  | peer p =>
    dsimp only
    cases m.linkTo p with
    | none => exact hinc
    | some l => rw [Act.run_some?_some, hraise, hinc]

/-- A coherence message with a body of another length is a protocol error, whatever it asks for. -/
theorem completes_badBody {c : Instr} {s : State} {x : Msg} {a : Act} (e : exec c s = s.act (fromPeer x a)) (h : s.mach.hears x.src)
    (hb : bodyOk x = false) : Completes c s (detectFields ++ [.DIR_PROTO_ERR]) [.out, .lhl, .host, .bkw, .lines] fun t =>
      t.get .DIR_PROTO_ERR = (s.mach.get .DIR_PROTO_ERR + 1) % 2 ^ 32 :=
  completes_as e (fromPeer_run_badBody a h hb) (protoErr_within _) (by rfl) (protoErr_get ..)

/-! ### Atomics -/

theorem send_out (r : Nat) (x : Msg) (m : Mach) : ((send r x).run m).out = m.out ++ [.msg r x] := by
  rw [send, Act.run_read, Act.run_all_cons, Act.run_all_one, Act.run_when]
  split <;> rfl

theorem free_run (f : BitVec 64 → Act) (m : Mach) :
    (Act.free f).run m = (f (Config.freeValue m.freeCtr)).run (Prim.draw.apply m) := by
  rw [Act.free, Act.run_read, Act.run_seq, Act.run_prim]

/-- The answer to an atomic that is not performed, with a status that the manual does not give. -/
def atomRefused (x : Msg) (m : Mach) : Act := .free fun v =>
  send x.src { m.mkMsg mCmpErr x.txid m.self x.line with rqs := x.rqs, agent := x.agent, opst := v.toNat % 256 }

/-- The atomic that a message asks for. -/
def msgAtomic (x : Msg) (r : Req) : Req :=
  let off := ((x.body.getD 32 0).toNat) % 64
  { r with op := x.opst, off := off, a := Bits.leNat (x.body.take 16), b := Bits.leNat ((x.body.drop 16).take 16) }

theorem homeAtom_run {m : Mach} {x : Msg} (h : atomOk x.opst (((x.body.getD 32 0).toNat) % 64) = true) :
    (homeAtom x).run m = (homeReq x .atom (msgAtomic x)).run m := by
  rw [homeAtom, Act.run_read]
  exact congrArg (Act.run · m) (if_pos h)

theorem homeAtom_run_refused {m : Mach} {x : Msg} (h : atomOk x.opst (((x.body.getD 32 0).toNat) % 64) = false)
    (hhome : x.home = m.self) : (homeAtom x).run m = (atomRefused x m).run m := by
  rw [homeAtom, Act.run_read]
  dsimp only
  rw [h, if_neg (by decide), Act.run_when, if_pos (beq_iff_eq.mpr hhome), atomRefused]

theorem atomRefused_out (x : Msg) (m a : Mach) : ∃ v, v < 256 ∧ ((atomRefused x m).run a).out = a.out ++
    [.msg x.src { m.mkMsg mCmpErr x.txid m.self x.line with rqs := x.rqs, agent := x.agent, opst := v }] := by
  rw [atomRefused, free_run, send_out, Prim.draw_out]
  exact ⟨_, Nat.mod_lt _ (by decide), rfl⟩

/-- Settles O12: each request of a peer, a wrong body, and another home's. -/
theorem peerRequests : Obligations.PeerRequests := by
  refine ⟨?_, ?_, ?_, ?_, ?_, ?_, ?_, ?_, ?_⟩
  · exact fun s x h hb hhome => completes_homeReq (f := id) rfl h hb hhome
  · exact fun s x h hb hhome => completes_homeReq (f := id) rfl h hb hhome
  · exact fun s x h hb hhome => completes_homeReq (f := id) rfl h hb hhome
  · exact fun s x h hb hhome => completes_homeReq (f := msgWhole x) rfl h hb hhome
  · intro s x h hb hhome
    have hlen : x.body.length = 72 := by simpa [bodyOk, mWrPtl, mWrLine, mWb, mWbKeep, mSnpData, mFwdData, mData] using hb
    have hmask : (x.body.drop 64).take 8 = x.body.drop 64 := List.take_of_length_le (by rw [List.length_drop, hlen])
    have hdone := completes_homeReq (c := .wrPtl x) (k := .wrPtl) (f := msgPart x) rfl h hb hhome
    simp only [msgPart, hmask] at hdone
    exact hdone
  · intro s x off h hb hhome hoff hok
    subst hoff
    refine completes_of (a := fromPeer { x with code := mAtom } (homeAtom x)) rfl
      (fromPeer_within _ _ ((homeAtom_within x).mono (by rfl)) (by rfl)) (inside_refl _) ?_
    rw [fromPeer_run (x := { x with code := mAtom }) _ h hb, homeAtom_run hok, homeReq_run _ _ hhome]
    rfl
  · intro s x off h hb hhome hoff hok
    subst hoff
    refine completes_as (a := fromPeer { x with code := mAtom } (homeAtom x)) (b := atomRefused x s.mach) rfl ?_
      (within_free (K := places [] [.out, .freeCtr, .bql]) (by rfl) fun v => (send_within _ _).mono (by rfl))
      (inside_refl _) (atomRefused_out ..)
    rw [fromPeer_run (x := { x with code := mAtom }) _ h hb, homeAtom_run_refused hok hhome]
  · intro s x i hi h hb
    simp only [List.mem_cons, List.not_mem_nil, or_false] at hi
    rcases hi with rfl | rfl | rfl | rfl | rfl | rfl
    · exact completes_badBody rfl h (hb _ (.inl rfl))
    · exact completes_badBody rfl h (hb _ (.inr (.inl rfl)))
    · exact completes_badBody rfl h (hb _ (.inr (.inr (.inl rfl))))
    · exact completes_badBody rfl h (hb _ (.inr (.inr (.inr (.inl rfl)))))
    · exact completes_badBody rfl h (hb _ (.inr (.inr (.inr (.inr (.inl rfl))))))
    · exact completes_badBody rfl h (hb _ (.inr (.inr (.inr (.inr (.inr rfl))))))
  · intro s x h hb hhome
    refine completes_as (a := fromPeer { x with code := mRdShd } (homeReq x .rdShd id)) (b := .skip) rfl ?_ (within_skip (K := 0))
      (by rfl) rfl
    rw [fromPeer_run (x := { x with code := mRdShd }) _ h hb, homeReq_run_other _ _ hhome, Act.run_skip]

end Sys2Proof.Machine
end

section
/-!
PROOF. O13, snoops at a visitor and their answers at the home (R182 to R188, R193, Tables 8.4 and 8.5).
-/

namespace Sys2Proof.Machine

/-! ### What a visitor's entry reads as -/

/-- An entry that holds nothing reads as a free one; what is not idle reads as it was written. -/
theorem setVis_vis (k : Nat) (e : VisEnt) (m : Mach) :
    ((setVis k e).run m).vis k = e ∨
      (((setVis k e).run m).vis k = {} ∧ e.state = 0 ∧ e.trans = none ∧ e.waits = []) := by
  rw [setVis]
  split
  · next h => exact .inr ⟨by rw [Act.run_prim, Mach.vis]; exact congrArg (Option.getD · {}) (SMap.find?_erase_self m.dir.vis k), h.1, h.2.1, h.2.2.1⟩
  · exact .inl (by rw [Act.run_prim, Mach.vis]; exact congrArg (Option.getD · {}) (SMap.find?_put_self m.dir.vis k e))

theorem setVis_state (k : Nat) (e : VisEnt) (m : Mach) : (((setVis k e).run m).vis k).state = e.state := by
  rcases setVis_vis k e m with h | ⟨h, hs, -, -⟩
  · rw [h]
  · rw [h, hs]

theorem setVis_trans (k : Nat) (e : VisEnt) (m : Mach) : (((setVis k e).run m).vis k).trans = e.trans := by
  rcases setVis_vis k e m with h | ⟨h, -, ht, -⟩
  · rw [h]
  · rw [h, ht]

/-- An entry in transition is not free. -/
theorem setVis_vis_of_trans {k : Nat} {e : VisEnt} {tr : VTrans} (h : e.trans = some tr) (m : Mach) :
    ((setVis k e).run m).vis k = e := by
  rcases setVis_vis k e m with h' | ⟨-, -, ht, -⟩
  · exact h'
  · rw [h] at ht
    exact absurd ht (by simp)

theorem setVis_out (k : Nat) (e : VisEnt) (m : Mach) : ((setVis k e).run m).out = m.out := (setVis_within k e).out m (by rfl)

theorem send_vis (r : Nat) (x : Msg) (m : Mach) (k : Nat) : ((send r x).run m).vis k = m.vis k := by
  rw [Mach.vis, (send_within r x).dir m (by rfl), Mach.vis]

/-! ### A settled line -/

/-- A visitor's line with nothing in its way: no transition, no head, no unacknowledged write. -/
structure Mach.Settled (m : Mach) (k : Nat) : Prop where
  keepReqs : (m.vis k).keepReqs = []
  await : (m.vis k).await = []
  trans : (m.vis k).trans = none
  heads : (m.vis k).heads = []

/-- A settled line answers a snoop at once. -/
theorem visSnoop_run {m : Mach} {k : Nat} (h : m.Settled k) (x : Msg) : (visSnoop k x false).run m = (visStable k x).run m := by
  rw [visSnoop, Act.run_read]
  simp only [h.keepReqs, h.await, h.trans, h.heads, List.isEmpty_nil, List.map_nil, List.filter_nil, ite_self, Bool.not_true,
    Bool.true_or, Bool.false_eq_true, if_true, if_false]

/-- The answer to a snoop: its code, the state that is kept, and the line with `SNP_DATA` only. -/
def snoopAnswer (m : Mach) (k : Nat) (x : Msg) (code after : Nat) (dirty : Bool) : Msg :=
  { m.visMsg k code x.txid (m.vis k).val (code == mSnpData) with rqs := x.rqs, agent := x.agent, after := after, dirty := dirty }

/-- The line that goes to the requester of a forward. -/
def forwarded (m : Mach) (k : Nat) (x : Msg) (g after : Nat) : Msg :=
  { m.visMsg k mFwdData x.txid (m.vis k).val true with rqs := x.rqs, agent := x.agent, grant := g, after := after }

/-- The entry of a line that has been forwarded. -/
def VisEnt.forward (e : VisEnt) (x : Msg) (g after : Nat) : VisEnt :=
  { e with trans := some .fA, after := after, before := e.state, fwdTo := x.rqs, txid := x.txid, heads := if g = 1 then e.heads else [] }

theorem visStable_run_absent {m : Mach} {k : Nat} (x : Msg) (h : (m.vis k).state = 0) :
    (visStable k x).run m = (send x.src (snoopAnswer m k x mAckI 0 false)).run m := by
  rw [visStable, Act.run_read]
  simp only [h, if_true]
  rfl

theorem visStable_run_inv {m : Mach} {k : Nat} {x : Msg} (h : (m.vis k).state ≠ 0) (hc : x.code = mSnpInv) :
    (visStable k x).run m = (send x.src (if (m.vis k).state ≤ 2 then snoopAnswer m k x mAckI 0 false
      else snoopAnswer m k x mSnpData 0 true)).run ((setVis k { m.vis k with state := 0, heads := [] }).run m) := by
  rw [visStable, Act.run_read]
  simp only [h, hc, if_true, if_false, Act.run_all_cons, Act.run_all_one]
  split
  · rfl
  · next hs => simp only [snoopAnswer, BEq.rfl, Bool.true_and, decide_eq_true (show 3 ≤ (m.vis k).state by omega)]

theorem visStable_run_shd {m : Mach} {k : Nat} {x : Msg} (h : (m.vis k).state ≠ 0) (hc : x.code = mSnpShd) :
    (visStable k x).run m = (send x.src (if (m.vis k).state ≤ 2 then snoopAnswer m k x mAckS 1 false
      else snoopAnswer m k x mSnpData 1 true)).run ((setVis k { m.vis k with state := 1 }).run m) := by
  have hne : ¬ (mSnpShd = mSnpInv) := by decide
  rw [visStable, Act.run_read]
  simp only [h, hc, hne, if_true, if_false, Act.run_all_cons, Act.run_all_one]
  split
  · rfl
  · next hs => simp only [snoopAnswer, BEq.rfl, Bool.true_and, decide_eq_true (show 3 ≤ (m.vis k).state by omega)]

theorem visStable_run_resolve {m : Mach} {k : Nat} {x : Msg} (h : (m.vis k).state ≠ 0) (hc : x.code = mSnpResolve) :
    (visStable k x).run m = (send x.src (snoopAnswer m k x mSnpData 1 (decide (3 ≤ (m.vis k).state)))).run
      ((setVis k { m.vis k with state := 1 }).run m) := by
  have hi : ¬ (mSnpResolve = mSnpInv) := by decide
  have hs : ¬ (mSnpResolve = mSnpShd) := by decide
  rw [visStable, Act.run_read]
  simp only [h, hc, hi, hs, if_true, if_false, Act.run_all_cons, Act.run_all_one, snoopAnswer, BEq.rfl, Bool.true_and]

theorem visStable_run_fwdShd {m : Mach} {k : Nat} {x : Msg} (h : 1 < (m.vis k).state) (hc : x.code = mFwdShd) :
    (visStable k x).run m = (send x.rqs (forwarded m k x 1 (if (m.vis k).state = 2 then 1 else 4))).run
      ((setVis k ((m.vis k).forward x 1 (if (m.vis k).state = 2 then 1 else 4))).run m) := by
  have hi : ¬ (mFwdShd = mSnpInv) := by decide
  have hs : ¬ (mFwdShd = mSnpShd) := by decide
  have hr : ¬ (mFwdShd = mSnpResolve) := by decide
  rw [visStable, Act.run_read]
  simp only [Nat.ne_of_gt (Nat.lt_of_succ_lt h), Nat.ne_of_gt h, hc, hi, hs, hr, if_true, if_false, Act.run_all_cons, Act.run_all_one, forwarded, VisEnt.forward]

theorem visStable_run_fwdOwn {m : Mach} {k : Nat} {x : Msg} (h : 1 < (m.vis k).state) (hc : x.code = mFwdOwn) :
    (visStable k x).run m = (send x.rqs (forwarded m k x x.grant 0)).run ((setVis k ((m.vis k).forward x x.grant 0)).run m) := by
  have hi : ¬ (mFwdOwn = mSnpInv) := by decide
  have hs : ¬ (mFwdOwn = mSnpShd) := by decide
  have hr : ¬ (mFwdOwn = mSnpResolve) := by decide
  have hf : ¬ (mFwdOwn = mFwdShd) := by decide
  rw [visStable, Act.run_read]
  simp only [Nat.ne_of_gt (Nat.lt_of_succ_lt h), Nat.ne_of_gt h, hc, hi, hs, hr, hf, if_true, if_false, Act.run_all_cons, Act.run_all_one, forwarded, VisEnt.forward]

/-! ### Snoops as commands -/

theorem Completes.imp {c : Instr} {s : State} {fs : List Fld} {ps : List Part} {p q : Mach → Prop} (h : Completes c s fs ps p)
    (hpq : ∀ t, p t → q t) : Completes c s fs ps q := by
  obtain ⟨t, he, hpend, hframe, hp⟩ := h
  exact ⟨t, he, hpend, hframe, hpq _ hp⟩

/-- A snoop of a settled line that writes its entry and sends one message. -/
theorem completes_snooped {c : Instr} {s : State} {y z : Msg} {r : Nat} {e : VisEnt} 
    (he : exec c s = s.act (fromPeer y (snooped y))) (hset : s.mach.Settled (visKey y.src y.line)) (h : s.mach.hears y.src)
    (hb : bodyOk y = true)
    (hrun : (visStable (visKey y.src y.line) y).run s.mach = (send r z).run ((setVis (visKey y.src y.line) e).run s.mach)) :
    Completes c s [] [.out, .dir, .bql] fun t =>
      t.vis (visKey y.src y.line) = ((setVis (visKey y.src y.line) e).run s.mach).vis (visKey y.src y.line) ∧
      t.out = s.mach.out ++ [.msg r z] := by
  refine completes_as (b := .seq (setVis (visKey y.src y.line) e) (send r z)) he ?_ (K := places [] [.out, .dir, .bql])
    ⟨(setVis_within _ _).mono (by rfl), (send_within _ _).mono (by rfl)⟩ (inside_refl _) ⟨?_, ?_⟩
  · rw [fromPeer_run _ h hb, snooped, visSnoop_run hset, hrun, Act.run_seq]
  · rw [Act.run_seq, send_vis]
  · rw [Act.run_seq, send_out, setVis_out]

/-- The same, of the state that is kept. -/
theorem completes_snooped_state {c : Instr} {s : State} {y z : Msg} {r : Nat} {e : VisEnt}
    (he : exec c s = s.act (fromPeer y (snooped y))) (hset : s.mach.Settled (visKey y.src y.line)) (h : s.mach.hears y.src)
    (hb : bodyOk y = true)
    (hrun : (visStable (visKey y.src y.line) y).run s.mach = (send r z).run ((setVis (visKey y.src y.line) e).run s.mach)) :
    Completes c s [] [.out, .dir, .bql] fun t => (t.vis (visKey y.src y.line)).state = e.state ∧ t.out = s.mach.out ++ [.msg r z] :=
  (completes_snooped he hset h hb hrun).imp fun _ ⟨hv, ho⟩ => ⟨by rw [hv, setVis_state], ho⟩

/-- A snoop of a line that is not held is answered, and nothing else. -/
theorem completes_snooped_absent {c : Instr} {s : State} {y : Msg} (he : exec c s = s.act (fromPeer y (snooped y)))
    (hset : s.mach.Settled (visKey y.src y.line)) (h : s.mach.hears y.src) (hb : bodyOk y = true)
    (hst : (s.mach.vis (visKey y.src y.line)).state = 0) :
    Completes c s [] [.out, .dir, .bql] fun t => (t.vis (visKey y.src y.line)).state = 0 ∧
      t.out = s.mach.out ++ [.msg y.src (snoopAnswer s.mach (visKey y.src y.line) y mAckI 0 false)] := by
  refine completes_as (b := send y.src (snoopAnswer s.mach (visKey y.src y.line) y mAckI 0 false)) he ?_ (send_within _ _)
    (by rfl) ⟨?_, send_out ..⟩
  · rw [fromPeer_run _ h hb, snooped, visSnoop_run hset, visStable_run_absent y hst]
  · rw [send_vis, hst]

/-! ### Answers at the home -/

/-- What lets an awaited answer of a visitor count. -/
structure Mach.Awaits (m : Mach) (line : Nat) (p : Nat) (t : Txn) : Prop where
  txn : m.txnOf line = some t
  phase : t.phase = .col
  await : t.await.contains (.peer p) = true
  owner : t.lost ≠ 1
  requester : t.lost ≠ 2

theorem visitorAnswer_run {m : Mach} {p line after : Nat} {isWb : Bool} {t : Txn} (h : m.Awaits line p t)
    (hwb : (isWb && !t.wbTaken.contains p) = false) : (visitorAnswer p line after isWb).run m = (collect line (.peer p)
      (fun e => if after = 0 then e.remove (.peer p) else { e with state := 1 }) t).run m := by
  rw [visitorAnswer, Act.run_read]
  simp only [h.txn, h.phase, h.await, h.owner, h.requester, hwb, Bool.not_true, Bool.false_eq_true, or_self, if_false]

theorem visitorAnswer_run_early {m : Mach} {p line after : Nat} {t : Txn} (h : m.Awaits line p t) (hwb : t.wbTaken.contains p = false) :
    (visitorAnswer p line after true).run m = (openTxn { t with ackEarly := p :: t.ackEarly.filter (· != p) }).run m := by
  rw [visitorAnswer, Act.run_read]
  simp only [h.txn, h.phase, h.await, h.owner, h.requester, hwb, Bool.not_true, Bool.not_false, Bool.and_self, Bool.false_eq_true, or_self,
    if_true, if_false]

/-- The transaction of a line is the one that is opened on it. -/
theorem openTxn_txnOf (t : Txn) (m : Mach) : ((openTxn t).run m).txnOf t.req.line = some t := by
  have hnone : (m.lines.txns.filter fun x => x.req.line != t.req.line).find? (fun x => x.req.line == t.req.line) = none := by
    rw [List.find?_eq_none]
    intro x hx
    simpa using (List.mem_filter.mp hx).2
  rw [openTxn, Act.run_prim, Mach.txnOf, Prim.lines_lines]
  simp only [List.find?_append, hnone, Option.none_or, List.find?_cons, BEq.rfl]

theorem txnOf_line {m : Mach} {line : Nat} {t : Txn} (h : m.txnOf line = some t) : t.req.line = line := by
  simpa using List.find?_some h

/-- An awaited answer is counted. -/
theorem completes_collect {c : Instr} {s : State} {y : Msg} {t : Txn} {after : Nat} {isWb : Bool}
    (he : exec c s = s.act (fromPeer y (visitorAnswer y.src y.line after isWb))) (h : s.mach.hears y.src) (hb : bodyOk y = true)
    (haw : s.mach.Awaits y.line y.src t) (hwb : (isWb && !t.wbTaken.contains y.src) = false) :
    Completes c s (lineFields ++ [.DIR_PROTO_ERR, .DIR_LOST_POISONED])
      [.pages, .out, .freeCtr, .lines, .dir, .host, .bkw, .lhl, .arc, .bql, .snd, .fry] fun a =>
      a = (collect y.line (.peer y.src) (fun e => if after = 0 then e.remove (.peer y.src) else { e with state := 1 }) t).run s.mach :=
  completes_as he ((fromPeer_run _ h hb).trans (visitorAnswer_run haw hwb)) (collect_within _ _ _ _) (by rfl) rfl

/-- Settles O13: Table 8.5 for a settled line, and Table 8.4 for an awaited answer. -/
theorem snoopsAndAnswers : Obligations.SnoopsAndAnswers := by
  refine ⟨?_, ?_, ?_, ?_, ?_, ?_, ?_, ?_, ?_, ?_, ?_, ?_, ?_, ?_, ?_, ?_, ?_⟩
  · rintro s x k e hb h rfl rfl hkeep haw htr hhd hst
    have hne : (s.mach.vis (visKey x.src x.line)).state ≠ 0 := by omega
    have hle : (s.mach.vis (visKey x.src x.line)).state ≤ 2 := by omega
    have hrun := visStable_run_inv (x := { x with code := mSnpInv }) hne rfl
    rw [if_pos hle] at hrun
    exact completes_snooped_state (c := .snpInv x) rfl ⟨hkeep, haw, htr, hhd⟩ h hb hrun
  · rintro s x k e hb h rfl rfl hkeep haw htr hhd hst
    have hne : (s.mach.vis (visKey x.src x.line)).state ≠ 0 := by omega
    have hrun := visStable_run_inv (x := { x with code := mSnpInv }) hne rfl
    rw [if_neg (Nat.not_le_of_gt hst)] at hrun
    exact completes_snooped_state (c := .snpInv x) rfl ⟨hkeep, haw, htr, hhd⟩ h hb hrun
  · rintro s x k e hb h rfl rfl hkeep haw htr hhd hst
    have hne : (s.mach.vis (visKey x.src x.line)).state ≠ 0 := by omega
    have hle : (s.mach.vis (visKey x.src x.line)).state ≤ 2 := by omega
    have hrun := visStable_run_shd (x := { x with code := mSnpShd }) hne rfl
    rw [if_pos hle] at hrun
    exact completes_snooped_state (c := .snpShd x) rfl ⟨hkeep, haw, htr, hhd⟩ h hb hrun
  · rintro s x k e hb h rfl rfl hkeep haw htr hhd hst
    have hne : (s.mach.vis (visKey x.src x.line)).state ≠ 0 := by omega
    have hrun := visStable_run_shd (x := { x with code := mSnpShd }) hne rfl
    rw [if_neg (Nat.not_le_of_gt hst)] at hrun
    exact completes_snooped_state (c := .snpShd x) rfl ⟨hkeep, haw, htr, hhd⟩ h hb hrun
  · rintro s x k e hb h rfl rfl hkeep haw htr hhd hst
    have hrun := visStable_run_resolve (x := { x with code := mSnpResolve }) hst rfl
    exact completes_snooped_state (c := .snpResolve x) rfl ⟨hkeep, haw, htr, hhd⟩ h hb hrun
  · rintro s x k e hb h rfl rfl hkeep haw htr hhd hst
    have hrun := visStable_run_fwdShd (m := s.mach) (k := visKey x.src x.line) (x := { x with code := mFwdShd }) (by omega) rfl
    rw [if_pos hst] at hrun
    refine (completes_snooped (c := .fwdShd x) rfl ⟨hkeep, haw, htr, hhd⟩ h hb hrun).imp fun t ⟨hv, ho⟩ => ?_
    rw [hv, setVis_vis_of_trans rfl]
    exact ⟨rfl, rfl, rfl, ho⟩
  · rintro s x k e hb h rfl rfl hkeep haw htr hhd hst
    have hrun := visStable_run_fwdShd (m := s.mach) (k := visKey x.src x.line) (x := { x with code := mFwdShd }) (by omega) rfl
    rw [if_neg (Nat.ne_of_gt hst)] at hrun
    refine (completes_snooped (c := .fwdShd x) rfl ⟨hkeep, haw, htr, hhd⟩ h hb hrun).imp fun t ⟨hv, ho⟩ => ?_
    rw [hv, setVis_vis_of_trans rfl]
    exact ⟨rfl, rfl, rfl, ho⟩
  · rintro s x k e hb h rfl rfl hkeep haw htr hhd hst
    have hrun := visStable_run_fwdOwn (m := s.mach) (k := visKey x.src x.line) (x := { x with code := mFwdOwn }) hst rfl
    refine (completes_snooped (c := .fwdOwn x) rfl ⟨hkeep, haw, htr, hhd⟩ h hb hrun).imp fun t ⟨hv, ho⟩ => ?_
    rw [hv, setVis_vis_of_trans rfl]
    exact ⟨rfl, rfl, rfl, ho⟩
  · rintro s x k e hb h rfl rfl hkeep haw htr hhd hst
    exact completes_snooped_absent (c := .snpInv x) (y := { x with code := mSnpInv }) rfl ⟨hkeep, haw, htr, hhd⟩ h hb hst
  · rintro s x k e hb h rfl rfl hkeep haw htr hhd hst
    exact completes_snooped_absent (c := .snpShd x) (y := { x with code := mSnpShd }) rfl ⟨hkeep, haw, htr, hhd⟩ h hb hst
  · rintro s x k e hb h rfl rfl hkeep haw htr hhd hst
    exact completes_snooped_absent (c := .fwdShd x) (y := { x with code := mFwdShd }) rfl ⟨hkeep, haw, htr, hhd⟩ h hb hst
  · rintro s x k e hb h rfl rfl hkeep haw htr hhd hst
    exact completes_snooped_absent (c := .fwdOwn x) (y := { x with code := mFwdOwn }) rfl ⟨hkeep, haw, htr, hhd⟩ h hb hst
  · rintro s x k e hb h rfl rfl hkeep haw htr hhd hst
    exact completes_snooped_absent (c := .snpResolve x) (y := { x with code := mSnpResolve }) rfl ⟨hkeep, haw, htr, hhd⟩ h hb hst
  · intro s x tx h hb htx hph haw ho hr
    exact completes_collect (c := .ackI x) (y := { x with code := mAckI }) (after := 0) (isWb := false) rfl h hb ⟨htx, hph, haw, ho, hr⟩ rfl
  · intro s x tx h hb htx hph haw ho hr
    exact completes_collect (c := .ackS x) (y := { x with code := mAckS }) (after := 1) (isWb := false) rfl h hb ⟨htx, hph, haw, ho, hr⟩ rfl
  · intro s x tx h hb htx hph haw ho hr hwb
    exact completes_collect (c := .ackWb x) (y := { x with code := mAckWb }) (after := 0) (isWb := true) rfl h hb ⟨htx, hph, haw, ho, hr⟩
      (by rw [hwb]; rfl)
  · intro s x tx h hb htx hph haw ho hr hwb
    have hrun := (fromPeer_run (x := { x with code := mAckWb }) _ h hb).trans
      (visitorAnswer_run_early (after := 0) ⟨htx, hph, haw, ho, hr⟩ hwb)
    refine completes_as (c := .ackWb x) rfl hrun (openTxn_within _) (by rfl) ?_
    rw [← txnOf_line htx]
    exact openTxn_txnOf ..

end Sys2Proof.Machine
end

section
/-!
PROOF. O14, grants, write-backs and evictions (R182, R184, R185, R187 to R189, R193, Tables 8.4 to 8.6).
-/

namespace Sys2Proof.Machine

/-! ### Grants at the visitor -/

/-- The line waits for a grant. -/
def VTrans.wants (tr : VTrans) : Prop := tr ∈ [VTrans.isD, .imD, .smD, .omD]

/-- The grant as the visitor takes it: the entry, its acknowledgement, and what waits. -/
def granted (m : Mach) (x : Msg) (v : LineVal) (after : Nat) : Act :=
  .all [setVis (visKey x.home x.line) { m.vis (visKey x.home x.line) with state := x.grant, trans := none, val := v },
    send x.home { m.visMsg (visKey x.home x.line) mGntAck x.txid none false with
      rqs := m.self, agent := x.agent, grant := x.grant, after := after },
    visWake (visKey x.home x.line)]

theorem visData_run {m : Mach} {x : Msg} {tr : VTrans} (hrem : m.remoteOf x = none) (hpush : x.push = false)
    (htr : (m.vis (visKey x.home x.line)).trans = some tr) (hwants : tr.wants) (htx : (m.vis (visKey x.home x.line)).txid = x.txid) :
    (visData x).run m = (granted m x (if x.code = mCmp then (m.vis (visKey x.home x.line)).val else msgVal x)
      (if x.code = mFwdData then x.after else 0)).run m := by
  have hd : (tr == .isD || tr == .imD || tr == .smD || tr == .omD) = true := by
    simpa [VTrans.wants, or_assoc] using hwants
  rw [visData, Act.run_read]
  simp only [hrem, hpush, htr, hd, htx, BEq.rfl, Bool.and_self, Bool.false_eq_true, if_true, if_false, granted]

/-- A grant that the open request of a line waits for. -/
theorem completes_granted {c : Instr} {s : State} {y : Msg} {tr : VTrans} (he : exec c s = s.act (fromPeer y (visData y)))
    (h : s.mach.hears y.src) (hb : bodyOk y = true) (hrem : s.mach.remoteOf y = none) (hpush : y.push = false)
    (htr : (s.mach.vis (visKey y.home y.line)).trans = some tr) (hwants : tr.wants)
    (htx : (s.mach.vis (visKey y.home y.line)).txid = y.txid) :
    Completes c s (detectFields ++ countFields ++ [.GRN_DROPPED, .DIR_PROTO_ERR, .FRY_ERR, .FRY_M_ERR, .SND_S_HELD, .SND_S_LOST])
      [.out, .freeCtr, .lines, .dir, .host, .bkw, .lhl, .bql, .snd, .fry] fun t =>
      t = (granted s.mach y (if y.code = mCmp then (s.mach.vis (visKey y.home y.line)).val else msgVal y)
        (if y.code = mFwdData then y.after else 0)).run s.mach :=
  completes_of he (fromPeer_within _ _ ((visData_within y).mono (by rfl)) (by rfl)) (inside_refl _)
    ((fromPeer_run _ h hb).trans (visData_run hrem hpush htr hwants htx))

/-- The entry of a line whose grant was refused: the state that its transition began from (Table 8.6). -/
def VisEnt.ungranted (e : VisEnt) (tr : VTrans) : VisEnt :=
  { e with trans := none, state := if tr = .smD then 1 else if tr = .omD then 4 else 0 }

theorem visCmpErr_run {m : Mach} {x : Msg} {tr : VTrans} (hrem : m.remoteOf x = none)
    (htr : (m.vis (visKey x.home x.line)).trans = some tr) (hwants : tr.wants) :
    (visCmpErr x).run m = (Act.seq (setVis (visKey x.home x.line) ((m.vis (visKey x.home x.line)).ungranted tr)) (visFail (visKey x.home x.line))).run m := by
  rw [visCmpErr, Act.run_read]
  simp only [hrem, htr, Act.run_seq]
  simp only [VTrans.wants, List.mem_cons, List.not_mem_nil, or_false] at hwants
  rcases hwants with rfl | rfl | rfl | rfl <;> rfl

/-! ### Acknowledgements at the home -/

theorem takeGntAck_run {m : Mach} {x : Msg} {tx : Txn} (htx : m.txnOf x.line = some tx) (hph : tx.phase = .gnt) :
    (takeGntAck x).run m = (Act.seq (closeTxn x.line) (wake x.line)).run m := by
  rw [takeGntAck, Act.run_read]
  simp only [htx, hph, Act.run_all_cons, Act.run_all_one, Act.run_seq]

theorem takeClnEvict_run {m : Mach} {hd : Holder} {line : Nat} {e : DirEnt} (htx : m.txnOf line = none)
    (he : m.dirEnt line = some e) : (takeClnEvict hd line).run m =
      (Act.all [setDir line (some (e.remove hd)), dirStats line, wake line]).run m := by
  rw [takeClnEvict, Act.run_read]
  simp only [htx, he, Act.run_all_cons, Act.run_all_one, Act.run_some?_some, Act.run_some?_none]

theorem visWbAck_run_keep {m : Mach} {x : Msg} {r : Req} {rest : List Req}
    (hk : (m.vis (visKey x.home x.line)).keepReqs = r :: rest) : (visWbAck x).run m =
      (Act.all [setVis (visKey x.home x.line) { m.vis (visKey x.home x.line) with keepReqs := rest, keeps := rest.length },
        answer { r with tier := 6 } (some 0) 0, visWake (visKey x.home x.line)]).run m := by
  rw [visWbAck, Act.run_read]
  simp only [hk]

theorem visWake_run_of_no_wait {m : Mach} {k : Nat} (h : (m.vis k).waits = []) : (visWake k).run m = m := by
  rw [visWake, Act.run_read]
  cases m.atollOf (visLine k / 64) with
  | none => rfl
  | some n =>
    simp only [h, List.length_nil, visWakeN, Act.run_read, Act.run_skip]

theorem setVis_waits (k : Nat) (e : VisEnt) (m : Mach) : (((setVis k e).run m).vis k).waits = e.waits := by
  rcases setVis_vis k e m with h | ⟨h, -, -, hw⟩
  · rw [h]
  · rw [h, hw]

/-- The end of an eviction frees the line, with nothing that waits. -/
theorem visWbAck_run_evicted {m : Mach} {x : Msg} (hk : (m.vis (visKey x.home x.line)).keepReqs = [])
    (htr : (m.vis (visKey x.home x.line)).trans = some .miA) (hw : (m.vis (visKey x.home x.line)).waits = []) :
    (visWbAck x).run m = (setVis (visKey x.home x.line) { m.vis (visKey x.home x.line) with state := 0, trans := none }).run m := by
  rw [visWbAck, Act.run_read]
  simp only [hk, htr, if_true, Act.run_all_cons, Act.run_all_one]
  exact visWake_run_of_no_wait ((setVis_waits ..).trans hw)

/-! ### Data at the home -/

/-- What the home sends for a forward that failed: a snoop in its place, awaited (Table 8.4). -/
def snoopInstead (m : Mach) (x : Msg) (t : Txn) : Act :=
  .all [.inc .DIR_FWD_FAILS (m.homeOfLine x.line) 1, openTxn { t with phase := .col, await := [.peer x.src] },
    send x.src (m.mkMsg (if t.req.kind = .rdOwn then mSnpInv else mSnpShd) m.newId m.self x.line)]

theorem snoopInstead_within (m : Mach) (x : Msg) (t : Txn) :
    (snoopInstead m x t).Within (places [.DIR_FWD_FAILS] [.out, .lines, .bql]) :=
  ⟨within_inc (by rfl), (openTxn_within _).mono (by rfl), (send_within _ _).mono (by rfl)⟩

theorem snoopInstead_post {x : Msg} {t : Txn} (ht : t.req.line = x.line) (m : Mach) :
    ((snoopInstead m x t).run m.drewId).get .DIR_FWD_FAILS (m.homeOfLine x.line) =
      (m.get .DIR_FWD_FAILS (m.homeOfLine x.line) + 1) % 2 ^ 48 ∧
    ((snoopInstead m x t).run m.drewId).txnOf x.line = some { t with phase := .col, await := [.peer x.src] } := by
  have hopen := openTxn_txnOf { t with phase := .col, await := [.peer x.src] }
    ((Act.inc .DIR_FWD_FAILS (m.homeOfLine x.line) 1).run m.drewId)
  rw [snoopInstead, Act.run_all_cons, Act.run_all_cons, Act.run_all_one]
  constructor
  · rw [(send_within _ _).get _ _ _ (by rfl) (by rfl), (openTxn_within _).get _ _ _ (by rfl)
      (by rfl), Mach.get_inc]
    rfl
  · rw [Mach.txnOf, (send_within _ _).lines _ (by rfl), ← Mach.txnOf, ← ht]
    exact hopen

/-- Drawing an id as a program. -/
theorem drewId_eq (m : Mach) : m.drewId = (Act.prim (.lines fun l => { l with nextId := l.nextId + 1 })).run m := rfl

theorem takeFwdFail_run {m : Mach} {x : Msg} {tx : Txn} (htx : m.txnOf x.line = some tx) (hph : tx.phase = .fwd) (ho : tx.owner = x.src) :
    (takeFwdFail x).run m = (snoopInstead m x tx).run m.drewId := by
  have htx' : m.drewId.txnOf x.line = some tx := htx
  rw [takeFwdFail, newId_run, Act.run_read, htx']
  dsimp only
  rw [if_pos ⟨hph, ho⟩]
  rfl

theorem takeWb_run {m : Mach} {x : Msg} {n : Nat} {e : DirEnt} (hn : m.atollOf (pageOfLine x.line) = some n)
    (he : m.dirEnt x.line = some e) (htx : m.txnOf x.line = none) : (takeWb x).run m =
      (Act.all [place n x.line (msgVal x) true fullMask (64 + ((m.linkTo x.src).getD 0) / 8),
        mirrorLine n x.line (msgVal x) fullMask, setDir x.line (some (e.remove (.peer x.src))),
        send x.src { m.mkMsg mWbAck x.txid m.self x.line with rqs := x.rqs, agent := x.agent },
        dirStats x.line]).run m := by
  rw [takeWb, Act.run_read]
  simp only [hn, he, htx, Act.run_all_cons, Act.run_all_one, Act.run_some?_some, Act.run_some?_none, takeData, Bool.false_eq_true, if_false]

theorem takeWbKeep_run {m : Mach} {x : Msg} {n : Nat} (hn : m.atollOf (pageOfLine x.line) = some n) (htx : m.txnOf x.line = none) :
    (takeWbKeep x).run m = (Act.all [toWb x.line (msgVal x) (64 + ((m.linkTo x.src).getD 0) / 8), mirrorLine n x.line (msgVal x) fullMask,
      send x.src { m.mkMsg mWbAck x.txid m.self x.line with rqs := x.rqs, agent := x.agent }]).run m := by
  rw [takeWbKeep, Act.run_read]
  simp only [hn, htx, Act.run_all_cons, Act.run_all_one, Act.run_some?_some, Act.run_some?_none, takeData, if_true]

theorem takeSnpData_run {m : Mach} {x : Msg} {n : Nat} {tx : Txn} (hn : m.atollOf (pageOfLine x.line) = some n)
    (htx : m.txnOf x.line = some tx) (hph : tx.phase = .col) (haw : tx.await.contains (.peer x.src) = true) (hl : tx.lost = 0)
    (hafter : x.after ≠ 2) : (takeSnpData x).run m =
      (Act.all [place n x.line (msgVal x) true fullMask (64 + ((m.linkTo x.src).getD 0) / 8),
        mirrorLine n x.line (msgVal x) fullMask,
        collect x.line (.peer x.src) (fun e => if x.after = 0 then e.remove (.peer x.src) else { e with state := 1 }) tx]).run m := by
  rw [takeSnpData, Act.run_read]
  simp only [hn, htx, hph, haw, hl, hafter, Act.run_all_cons, Act.run_all_one, takeData, decide_false, Bool.false_eq_true, if_false,
    true_and, Nat.zero_ne_one, (by decide : (0 : Nat) ≠ 2), or_self, if_true]

/-! ### Evictions by the visitor -/

theorem visHomeOf_visKey {home line : Nat} (h : line < 2 ^ 39) : visHomeOf (visKey home line) = home := by
  rw [visHomeOf, visKey]
  omega

/-- A line with no head is given up at once: nothing of this sled need answer first. -/
theorem visStep_run_evict {m : Mach} {n k : Nat} {r : Req} (htr : (m.vis k).trans = none) (haw : (m.vis k).await = [])
    (hhd : (m.vis k).heads = []) (hk : r.kind = .evict) : (visStep n k r).run m = (visEvict k).run m := by
  have hneed : m.visNeed n k r = [] := by
    simp only [Mach.visNeed, hk, hhd, List.map_nil, ite_self]
  rw [visStep, Act.run_read]
  simp only [hneed, htr, haw, hk, List.filter_nil, List.isEmpty_nil, Option.isSome_none, Bool.not_true, Bool.or_self, Bool.false_eq_true,
    if_true, if_false]

/-- The message and the entry of an eviction: `CLN_EVICT` of a clean line, `WB` with the line of a dirty one (Table 8.5). -/
def evicted (m : Mach) (k : Nat) : Act :=
  if (m.vis k).state ≤ 2 then .seq (setVis k { m.vis k with state := 0, heads := [] })
    (send (visHomeOf k) (m.visMsg k mClnEvict (m.newId + 1) none false))
  else .seq (setVis k { m.vis k with state := 0, heads := [], trans := some .miA, txid := (m.newId + 1) % 2 ^ 16 })
    (send (visHomeOf k) (m.visMsg k mWb (m.newId + 1) (m.vis k).val true))

/-- Drawing an id leaves the visitor's entries. -/
theorem drewId_vis (m : Mach) : m.drewId.vis = m.vis := rfl

theorem visitorEviction_run {m : Mach} {home line : Nat} (htr : (m.vis (visKey home line)).trans = none)
    (haw : (m.vis (visKey home line)).await = []) (hhd : (m.vis (visKey home line)).heads = [])
    (hst : (m.vis (visKey home line)).state ≠ 0) :
    (visitorEviction home line).run m = (evicted m (visKey home line)).run m.drewId.drewId := by
  have hvis : m.drewId.drewId.vis = m.vis := rfl
  have hcond : ((m.drewId.vis (visKey home line)).state != 0 && (m.drewId.vis (visKey home line)).trans.isNone &&
      (m.drewId.vis (visKey home line)).await.isEmpty) = true := by
    rw [drewId_vis, htr, haw, bne_iff_ne.mpr hst]
    rfl
  rw [visitorEviction, newId_run, Act.run_read, Act.run_when, if_pos hcond, visStep_run_evict (m := m.drewId) htr haw hhd rfl, visEvict, newId_run,
    Act.run_read, evicted]
  simp only [hvis]
  rcases hs : (m.vis (visKey home line)).state with _ | _ | _ | n
  · exact absurd hs hst
  · simp only [Act.run_all_cons, Act.run_all_one, if_pos (by decide : 0 + 1 ≤ 2), Act.run_seq]
    rfl
  · simp only [Act.run_all_cons, Act.run_all_one, if_pos (by decide : 0 + 1 + 1 ≤ 2), Act.run_seq]
    rfl
  · simp only [Act.run_all_cons, Act.run_all_one, if_neg (by omega : ¬ n + 1 + 1 + 1 ≤ 2), Act.run_seq]
    rfl

theorem setVis_send_post (k r : Nat) (e : VisEnt) (x : Msg) (m : Mach) :
    (((Act.seq (setVis k e) (send r x)).run m).vis k).state = e.state ∧
    (((Act.seq (setVis k e) (send r x)).run m).vis k).trans = e.trans ∧
    ((Act.seq (setVis k e) (send r x)).run m).out = m.out ++ [.msg r x] := by
  rw [Act.run_seq, send_vis, send_out, setVis_out]
  exact ⟨setVis_state .., setVis_trans .., rfl⟩

/-- An eviction draws two ids, writes the entry and sends one message. -/
theorem completes_evicted {s : State} {home line : Nat} (htr : (s.mach.vis (visKey home line)).trans = none)
    (haw : (s.mach.vis (visKey home line)).await = []) (hhd : (s.mach.vis (visKey home line)).heads = [])
    (hst : (s.mach.vis (visKey home line)).state ≠ 0) :
    Completes (.visitorEviction home line) s [] [.out, .lines, .dir, .bql]
      fun t => t = (evicted s.mach (visKey home line)).run s.mach.drewId.drewId := by
  have hids (m : Mach) : m.drewId.drewId =
      (Act.prim (.lines fun l => { l with nextId := l.nextId + 1 + 1 })).run m := rfl
  have hw : (evicted s.mach (visKey home line)).Within (places [] [.out, .lines, .dir, .bql]) := by
    rw [evicted]
    split
    · exact ⟨(setVis_within _ _).mono (by rfl), (send_within _ _).mono (by rfl)⟩
    · exact ⟨(setVis_within _ _).mono (by rfl), (send_within _ _).mono (by rfl)⟩
  have hrun := visitorEviction_run htr haw hhd hst
  rw [hids, ← Act.run_seq] at hrun
  exact completes_as (a := visitorEviction home line) rfl hrun ⟨within_lines (by rfl), hw⟩ (inside_refl _) 
    ((Act.run_seq _ _ _).trans (congrArg _ (hids _).symm))

/-- Settles O14: each message of Tables 8.4 to 8.6 that settles a line, and the visitor's evictions. -/
theorem grantsAndWriteBacks : Obligations.GrantsAndWriteBacks := by
  refine ⟨?_, ?_, ?_, ?_, ?_, ?_, ?_, ?_, ?_, ?_, ?_, ?_, ?_, ?_⟩
  · rintro s x k e tr h hb rfl rfl hrem hpush htr hwants htx
    exact completes_granted (c := .data x) (y := { x with code := mData }) rfl h hb hrem hpush htr hwants htx
  · rintro s x k e tr h hb rfl rfl hrem hpush htr hwants htx
    exact completes_granted (c := .fwdData x) (y := { x with code := mFwdData }) rfl h hb hrem hpush htr hwants htx
  · rintro s x k e tr h hb rfl rfl hrem hpush htr hwants htx
    exact completes_granted (c := .cmp x) (y := { x with code := mCmp }) rfl h hb hrem hpush htr hwants htx
  · rintro s x k e tr h hb rfl rfl hrem htr hwants
    have hrun := (fromPeer_run (x := { x with code := mCmpErr }) _ h hb).trans (visCmpErr_run hrem htr hwants)
    exact completes_of (c := .cmpErr x) rfl (fromPeer_within { x with code := mCmpErr } _ ((visCmpErr_within x).mono (by rfl))
      (by rfl)) (inside_refl _) hrun
  · intro s x tx h hb htx hph
    have hrun := (fromPeer_run (x := { x with code := mGntAck }) _ h hb).trans (takeGntAck_run htx hph)
    exact completes_of (c := .gntAck x) rfl (fromPeer_within { x with code := mGntAck } _ ((takeGntAck_within x).mono (by rfl))
      (by rfl)) (inside_refl _) hrun
  · intro s x e h hb htx he
    have hrun := (fromPeer_run (x := { x with code := mClnEvict }) _ h hb).trans (takeClnEvict_run (hd := .peer x.src) htx he)
    exact completes_of (c := .clnEvict x) rfl (fromPeer_within { x with code := mClnEvict } _
      ((takeClnEvict_within (.peer x.src) x.line).mono (by rfl)) (by rfl)) (inside_refl _) hrun
  · rintro s x k e r rest h hb rfl rfl hk
    have hrun := (fromPeer_run (x := { x with code := mWbAck }) _ h hb).trans (visWbAck_run_keep hk)
    exact completes_of (c := .wbAck x) rfl (fromPeer_within { x with code := mWbAck } _ ((visWbAck_within x).mono (by rfl))
      (by rfl)) (inside_refl _) hrun
  · rintro s x k e h hb rfl rfl hk htr hw
    have hrun := (fromPeer_run (x := { x with code := mWbAck }) _ h hb).trans (visWbAck_run_evicted hk htr hw)
    exact completes_as (c := .wbAck x) rfl hrun (setVis_within _ _) (by rfl) ⟨setVis_state .., setVis_trans ..⟩
  · intro s x tx h hb htx hph ho
    have hrun := (fromPeer_run (x := { x with code := mFwdFail }) _ h hb).trans (takeFwdFail_run htx hph ho)
    rw [drewId_eq, ← Act.run_seq] at hrun
    refine completes_as (c := .fwdFail x) rfl hrun (K := places [.DIR_FWD_FAILS] [.out, .lines, .bql]) ⟨within_lines (by rfl),
      snoopInstead_within ..⟩ (inside_refl _) ?_
    rw [Act.run_seq, ← drewId_eq]
    exact snoopInstead_post (txnOf_line htx) s.mach
  · intro s x n e h hb hn he htx
    have hrun := (fromPeer_run (x := { x with code := mWb }) _ h hb).trans (takeWb_run hn he htx)
    exact completes_as (c := .wb x) rfl hrun (K := places (lineFields ++ [.DIR_PROTO_ERR])
      [.pages, .out, .freeCtr, .lines, .dir, .host, .bkw, .lhl, .arc, .bql, .snd, .fry]) ⟨(place_within _ _ _ _ _ _).mono (by rfl),
        (mirrorLine_within _ _ _ _).mono (by rfl), (setDir_within _ _).mono (by rfl),
        (send_within _ _).mono (by rfl), (dirStats_within _).mono (by rfl)⟩ (inside_refl _) rfl
  · intro s x n h hb hn htx
    have hrun := (fromPeer_run (x := { x with code := mWbKeep }) _ h hb).trans (takeWbKeep_run hn htx)
    exact completes_as (c := .wbKeep x) rfl hrun (K := places (lineFields ++ [.DIR_PROTO_ERR])
      [.pages, .out, .freeCtr, .lines, .dir, .host, .bkw, .lhl, .arc, .bql, .snd, .fry]) ⟨(toWb_within _ _ _).mono (by rfl),
        (mirrorLine_within _ _ _ _).mono (by rfl), (send_within _ _).mono (by rfl)⟩ (inside_refl _) rfl
  · intro s x n tx h hb hn htx hph haw hl hafter
    have hrun := (fromPeer_run (x := { x with code := mSnpData }) _ h hb).trans (takeSnpData_run hn htx hph haw hl hafter)
    exact completes_of (c := .snpData x) rfl (fromPeer_within { x with code := mSnpData } _ ((takeSnpData_within x).mono (by rfl))
      (by rfl)) (inside_refl _) hrun
  · rintro s home line k e rfl rfl htr haw hhd hhome hline hst
    refine (completes_evicted htr haw hhd (by omega)).imp ?_
    rintro t rfl
    rw [evicted, if_pos (by omega), visHomeOf_visKey hline]
    obtain ⟨hs, ht, ho⟩ := setVis_send_post (visKey home line) home { s.mach.vis (visKey home line) with state := 0, heads := [] }
      (s.mach.visMsg (visKey home line) mClnEvict (s.mach.newId + 1) none false) s.mach.drewId.drewId
    exact ⟨hs, ht.trans htr, ho⟩
  · rintro s home line k e rfl rfl htr haw hhd hhome hline hst
    refine (completes_evicted htr haw hhd (by omega)).imp ?_
    rintro t rfl
    rw [evicted, if_neg (by omega), visHomeOf_visKey hline]
    exact setVis_send_post ..

end Sys2Proof.Machine
end

section
/-!
PROOF. O15, heads' answers to back-invalidate snoops (R177, R190 to R192).
-/

namespace Sys2Proof.Machine

/-- The oldest BISnp outstanding to a head for a line. -/
def Mach.oldest (m : Mach) (h line : Nat) : Option (Nat × Nat × Nat × Nat) :=
  m.dir.bisnps.find? fun b => b.1 == h && b.2.2.1 == line

/-- Another BISnp is outstanding to the head for the line once `b` is answered. -/
def Mach.more (m : Mach) (h line : Nat) (b : Nat × Nat × Nat × Nat) : Bool :=
  (m.dir.bisnps.erase b).any fun b => b.1 == h && b.2.2.1 == line

/-- The machine with the BISnp `b` answered. -/
def Mach.answered (m : Mach) (b : Nat × Nat × Nat × Nat) : Mach := { m with dir := { m.dir with bisnps := m.dir.bisnps.erase b } }

theorem clearBisnp_run {m : Mach} {h line : Nat} {b : Nat × Nat × Nat × Nat} (hb : m.oldest h line = some b) :
    (clearBisnp h line).run m = m.answered b := by
  rw [Mach.oldest] at hb
  rw [clearBisnp, Act.run_read, hb]
  rfl

/-! ### Protocol errors -/

theorem birsp_run_none {m : Mach} {h line : Nat} (s : Nat) (hb : m.oldest h line = none) :
    (birsp h line s).run m = (protoErr (.head h)).run m := by
  rw [Mach.oldest] at hb
  rw [birsp, Act.run_read, hb]

theorem birsp_run_notCur {m : Mach} {h line : Nat} {b : Nat × Nat × Nat × Nat} (hb : m.oldest h line = some b) (hk : b.2.2.2 ≠ 2) :
    (birsp h line 2).run m = (protoErr (.head h)).run m := by
  rw [Mach.oldest] at hb
  rw [birsp, Act.run_read, hb]
  exact congrArg (Act.run · m) (if_pos ⟨rfl, hk⟩)

/-- An answer that comes to a protocol error of its head counts one. -/
theorem completes_protoErr {c : Instr} {s : State} {a : Act} {h : Nat} (e : exec c s = s.act a)
    (hrun : a.run s.mach = (protoErr (.head h)).run s.mach) :
    Completes c s (detectFields ++ [.DIR_PROTO_ERR]) [.out, .host, .bkw, .lhl, .lines] fun t =>
      t.get .DIR_PROTO_ERR = (s.mach.get .DIR_PROTO_ERR + 1) % 2 ^ 32 :=
  completes_as e hrun (protoErr_within _) (by rfl) (protoErr_get ..)

/-! ### Answers with no open transaction -/

/-- What an answer leaves of the entry: 0 BIRspI, 1 BIRspS, 2 BIRspE. -/
def DirEnt.answered (e : DirEnt) (h s : Nat) : DirEnt := if s = 0 then e.remove (.head h) else if s = 1 then { e with state := 1 } else e

/-- The answer `s` fits the BISnp `b`: BIRspE answers BISnpCur only. -/
def Fits (s : Nat) (b : Nat × Nat × Nat × Nat) : Prop := s = 2 → b.2.2.2 = 2

theorem strongest_none {m : Mach} {line : Nat} (htx : m.txnOf line = none) (h : Nat) : m.strongest h line = 0 := by
  rw [Mach.strongest, htx]

/-- The answered BISnp leaves the list; what follows depends on whether it was the last. -/
theorem birsp_run_no_txn {m : Mach} {h line s : Nat} {b : Nat × Nat × Nat × Nat} (hb : m.oldest h line = some b) (hs : Fits s b)
    (htx : m.txnOf line = none) : (birsp h line s).run m =
      (if m.more h line b then Act.skip else if line < 2 ^ 39 then headAnswered h line s else visHeadAnswered h line s).run
        (m.answered b) := by
  have hclear := clearBisnp_run hb
  have htx' : (m.answered b).txnOf line = none := htx
  have hfits : ¬ (s = 2 ∧ b.2.2.2 ≠ 2) := fun ⟨h2, hn⟩ => hn (hs h2)
  rw [Mach.oldest] at hb
  rw [birsp, Act.run_read, hb]
  simp only [if_neg hfits, htx, strongest_none htx, Nat.max_zero, Act.run_all_cons, Act.run_all_one, hclear, Act.run_some?_none, Act.run_read,
    htx']
  rw [show ((m.answered b).dir.bisnps.any fun b => b.1 == h && b.2.2.1 == line) = m.more h line b from rfl]
  split <;> rfl

theorem headAnswered_run_no_txn {m : Mach} {h line : Nat} {e : DirEnt} (s : Nat) (htx : m.txnOf line = none) (he : m.dirEnt line = some e) :
    (headAnswered h line s).run m = (Act.seq (setDir line (some (e.answered h s))) (dirStats line)).run m := by
  rw [headAnswered, Act.run_read]
  simp only [htx, he]
  rfl

/-- While another is outstanding nothing else changes. -/
theorem completes_more {c : Instr} {s : State} {h line k : Nat} {b : Nat × Nat × Nat × Nat} (e : exec c s = s.act (birsp h line k))
    (hb : s.mach.oldest h line = some b) (hs : Fits k b) (hmore : s.mach.more h line b = true) (htx : s.mach.txnOf line = none) :
    Completes c s [] [.dir] fun t => t.dir = { s.mach.dir with bisnps := s.mach.dir.bisnps.erase b } := by
  refine completes_as (b := clearBisnp h line) e ?_ (clearBisnp_within h line) (by rfl) (by rw [clearBisnp_run hb]; rfl)
  rw [birsp_run_no_txn hb hs htx, hmore, if_pos rfl, clearBisnp_run hb, Act.run_skip]

/-- The last answer changes the home's entry. -/
theorem completes_last {c : Instr} {s : State} {h line k : Nat} {b : Nat × Nat × Nat × Nat} {ent : DirEnt} (e : exec c s = s.act (birsp h line k))
    (hline : line < 2 ^ 39) (hb : s.mach.oldest h line = some b) (hs : Fits k b) (hmore : s.mach.more h line b = false)
    (htx : s.mach.txnOf line = none) (hent : s.mach.dirEnt line = some ent) :
    Completes c s [.DIR_VALID, .DIR_COARSE, .DIR_OPEN, .DIR_SETQ, .DIR_LINEQ] [.dir] fun t =>
      t = (Act.all [clearBisnp h line, setDir line (some (ent.answered h k)), dirStats line]).run s.mach := by
  refine completes_as (b := .all [clearBisnp h line, setDir line (some (ent.answered h k)), dirStats line]) e ?_
    (K := places [.DIR_VALID, .DIR_COARSE, .DIR_OPEN, .DIR_SETQ, .DIR_LINEQ] [.dir]) ⟨(clearBisnp_within h line).mono (by rfl),
      (setDir_within _ _).mono (by rfl), (dirStats_within _).mono (by rfl)⟩ (inside_refl _) rfl
  rw [birsp_run_no_txn hb hs htx, hmore, if_neg (by decide), if_pos hline, headAnswered_run_no_txn (m := s.mach.answered b) k htx hent,
    Act.run_all_cons, clearBisnp_run hb, Act.run_seq, Act.run_all_cons, Act.run_all_one]

/-- The last answer at a visitor's line goes to the visitor. -/
theorem completes_visitor {c : Instr} {s : State} {h line k : Nat} {b : Nat × Nat × Nat × Nat} (e : exec c s = s.act (birsp h line k))
    (hline : 2 ^ 39 ≤ line) (hb : s.mach.oldest h line = some b) (hs : Fits k b) (hmore : s.mach.more h line b = false)
    (htx : s.mach.txnOf line = none) : Completes c s (lineFields ++ [.DIR_PROTO_ERR])
      [.pages, .out, .freeCtr, .lines, .dir, .host, .bkw, .lhl, .arc, .bql, .snd, .fry] fun t =>
      t = (Act.seq (clearBisnp h line) (visHeadAnswered h line k)).run s.mach := by
  refine completes_of e (birsp_within h line k) (by rfl) ?_
  rw [birsp_run_no_txn hb hs htx, hmore, if_neg (by decide), if_neg (Nat.not_lt_of_le hline), Act.run_seq, clearBisnp_run hb]

/-! ### Answers in an open transaction -/

theorem filter_noted (h best : Nat) (l : List (Nat × Nat)) :
    ((h, best) :: l.filter fun p => p.1 != h).filter (fun p => p.1 != h) = l.filter fun p => p.1 != h := by
  simp

/-- The last answer of a head with the strongest one that an open transaction has noted. -/
theorem completes_holder {c : Instr} {s : State} {h line k best : Nat} {b : Nat × Nat × Nat × Nat} {tx : Txn}
    (e : exec c s = s.act (birsp h line k)) (hline : line < 2 ^ 39) (hb : s.mach.oldest h line = some b) (hs : Fits k b)
    (hmore : s.mach.more h line b = false) (htx : s.mach.txnOf line = some tx)
    (hbest : best = max k (((tx.strong.find? fun p => p.1 == h).map (·.2)).getD 0)) :
    Completes c s (lineFields ++ [.DIR_PROTO_ERR]) [.pages, .out, .freeCtr, .lines, .dir, .host, .bkw, .lhl, .arc, .bql, .snd, .fry] fun t =>
      t = (Act.all [clearBisnp h line, openTxn { tx with strong := (h, best) :: tx.strong.filter fun p => p.1 != h },
        openTxn { tx with strong := tx.strong.filter fun p => p.1 != h }, headAnswered h line best]).run s.mach := by
  refine completes_of e (birsp_within h line k) (by rfl) ?_
  have hstrong : max k (s.mach.strongest h line) = best := by rw [Mach.strongest, htx, hbest]
  have hfits : ¬ (k = 2 ∧ b.2.2.2 ≠ 2) := fun ⟨h2, hn⟩ => hn (hs h2)
  have hclear := clearBisnp_run hb
  have hopen := openTxn_txnOf { tx with strong := (h, best) :: tx.strong.filter fun p => p.1 != h } (s.mach.answered b)
  rw [txnOf_line (t := { tx with strong := _ }) htx] at hopen
  have hdone : (((openTxn { tx with strong := (h, best) :: tx.strong.filter fun p => p.1 != h }).run (s.mach.answered b)).dir.bisnps.any
      fun b => b.1 == h && b.2.2.1 == line) = false := hmore
  rw [Mach.oldest] at hb
  rw [birsp, Act.run_read, hb]
  simp only [if_neg hfits, hstrong, htx, Act.run_all_cons, Act.run_all_one, hclear, Act.run_some?_some, Act.run_read, hdone, hopen,
    Bool.false_eq_true, if_false, if_pos hline, filter_noted]

/-- Settles O15: the errors, the oldest BISnp, the last answer in each of its places, BIConflict and the timeout. -/
theorem headAnswers : Obligations.HeadAnswers := by
  have h0 (b : Nat × Nat × Nat × Nat) : Fits 0 b := fun h => absurd h (by decide)
  have h1 (b : Nat × Nat × Nat × Nat) : Fits 1 b := fun h => absurd h (by decide)
  refine ⟨?_, ?_, ?_, ?_, ?_, ?_, ?_, ?_, ?_, ?_, ?_, ?_, ?_, ?_, ?_, ?_, ?_, ?_, ?_⟩
  · exact fun s h line _ hb => completes_protoErr (a := birsp h line 0) rfl (birsp_run_none 0 hb)
  · exact fun s h line _ hb => completes_protoErr (a := birsp h line 1) rfl (birsp_run_none 1 hb)
  · exact fun s h line _ hb => completes_protoErr (a := birsp h line 2) rfl (birsp_run_none 2 hb)
  · exact fun s h line b _ hb hk => completes_protoErr (a := birsp h line 2) rfl (birsp_run_notCur hb hk)
  · exact fun s h line b hb hmore htx => completes_more (k := 0) rfl hb (h0 b) hmore htx
  · exact fun s h line b e hline hb hmore htx he => completes_last (k := 0) rfl hline hb (h0 b) hmore htx he
  · exact fun s h line best b tx hline hb hmore htx hbest => completes_holder (k := 0) rfl hline hb (h0 b) hmore htx hbest
  · exact fun s h line b hb hmore htx => completes_more (k := 1) rfl hb (h1 b) hmore htx
  · exact fun s h line b e hline hb hmore htx he => completes_last (k := 1) rfl hline hb (h1 b) hmore htx he
  · exact fun s h line best b tx hline hb hmore htx hbest => completes_holder (k := 1) rfl hline hb (h1 b) hmore htx hbest
  · exact fun s h line b hb hk hmore htx => completes_more (k := 2) rfl hb (fun _ => hk) hmore htx
  · exact fun s h line b e hline hb hk hmore htx he => completes_last (k := 2) rfl hline hb (fun _ => hk) hmore htx he
  · exact fun s h line best b tx hline hb hk hmore htx hbest => completes_holder (k := 2) rfl hline hb (fun _ => hk) hmore htx hbest
  · exact fun s h line b hline hb hmore htx => completes_visitor (k := 0) rfl hline hb (h0 b) hmore htx
  · exact fun s h line b hline hb hmore htx => completes_visitor (k := 1) rfl hline hb (h1 b) hmore htx
  · exact fun s h line b hline hb hk hmore htx => completes_visitor (k := 2) rfl hline hb (fun _ => hk) hmore htx
  · intro s h line
    refine completes_of (a := biConflict h line) rfl (biConflict_within h line) (by rfl) ?_
    rw [biConflict, Act.run_all_cons, Act.run_all_one]
    exact ⟨Mach.get_inc .., rfl⟩
  · intro s h hany
    refine completes_of (a := bisnpTimeout h) rfl (bisnpTimeout_within h) (by rfl) ?_
    rw [bisnpTimeout, Act.run_read, Act.run_when, if_pos hany]
  · intro s h hany
    refine completes_as (a := bisnpTimeout h) (b := .skip) rfl ?_ (within_skip (K := 0)) (by rfl) rfl
    rw [bisnpTimeout, Act.run_read, Act.run_when, hany, if_neg (by decide), Act.run_skip]

end Sys2Proof.Machine
end

section
/-!
PROOF. O16, writes of the HBR block (R202, R208, R209, R213, R430).
-/

namespace Sys2Proof.Machine

/-! ### Refused and applied writes -/

/-- A field just set reads as the value that its bits hold. -/
theorem Mach.get_set_mod (f : Fld) (i v : Nat) (m : Mach) : ((Act.set f i v).run m).get f i = v % 2 ^ f.spec.width :=
  m.get_reg_self f i v

theorem hbrRefused_get (m : Mach) : (hbrRefused.run m).get .HBR_WR_REFUSED = 1 := Mach.get_set _ _ _ _ (by decide)

/-- A write that a rule refuses sets its flag alone. -/
theorem completes_hbrRefused {c : Instr} {s : State} {a : Act} (e : exec c s = s.act a) (hrun : a.run s.mach = hbrRefused.run s.mach) :
    Completes c s [.HBR_WR_REFUSED] [] fun t => t.get .HBR_WR_REFUSED = 1 :=
  completes_as e hrun hbrRefused_within (by rfl) (hbrRefused_get _)

/-- Behind a write that is applied its flag is clear. -/
theorem hbrDone_get {a : Act} {K : Nat} (ha : a.Within K) (h : K.testBit (Fld.ctorIdx .HBR_WR_REFUSED) = false)
    (hr : K.testBit 604 = false) (m : Mach) : ((hbrDone a).run m).get .HBR_WR_REFUSED = 0 := by
  rw [hbrDone, Act.run_seq, ha.get _ _ _ h hr, Mach.get_set_mod]
  exact Nat.zero_mod _

theorem hbrDone_run (a : Act) (m : Mach) : (hbrDone a).run m = a.run ((Act.set .HBR_WR_REFUSED 0 0).run m) := by
  rw [hbrDone, Act.run_seq]

theorem hbrDone_others {f : Fld} {i : Nat} {a : Act} {m : Mach} (hf : f ≠ .HBR_WR_REFUSED)
    (h : Mach.Others f i ((Act.set .HBR_WR_REFUSED 0 0).run m) (a.run ((Act.set .HBR_WR_REFUSED 0 0).run m))) :
    Mach.Others f i m ((hbrDone a).run m) := by
  rw [hbrDone_run]
  exact (Mach.others_set_other hf i 0 0 m).trans h

/-! ### Port groups -/

theorem hbrGrpBifurWrite_run {m : Mach} {g v : Nat} (hg : g < m.sled.groups) (hh : m.bifurHeld g = false) (hv : v < 3) :
    (hbrGrpBifurWrite g v).run m = (hbrDone (.set .HBR_GRP_BIFUR g v)).run m := by
  rw [hbrGrpBifurWrite, Act.run_read, Act.run_when, if_pos (decide_eq_true hg), hh, decide_eq_false (Nat.not_le_of_lt hv), if_neg (by decide)]

theorem hbrGrpBifurWrite_run_refused {m : Mach} {g v : Nat} (hg : g < m.sled.groups) (h : m.bifurHeld g = true ∨ 3 ≤ v) :
    (hbrGrpBifurWrite g v).run m = hbrRefused.run m := by
  rw [hbrGrpBifurWrite, Act.run_read, Act.run_when, if_pos (decide_eq_true hg), if_pos (by simpa using h)]

/-- What the units in common are counted from is not a field of the group. -/
theorem commonUnits_set {f : Fld} (h : f ≠ .HBR_HEAD_RESV) (i v g : Nat) (m : Mach) :
    ((Act.set f i v).run m).commonUnits g = m.commonUnits g := by
  have hheads : ((Act.set f i v).run m).groupHeads g = m.groupHeads g := rfl
  simp only [Mach.commonUnits, hheads, Mach.get_set_other (Ne.symm h)]

theorem commonUpdate_get (g : Nat) (m : Mach) :
    ((commonUpdate g).run m).get .HBR_GRP_COMMON g = ((commonUpdate g).run m).commonUnits g % 2 ^ 6 := by
  rw [commonUpdate, Act.run_read, commonUnits_set (by decide), Mach.get_set_mod]
  rfl

theorem commonUpdate_others (g : Nat) (m : Mach) : Mach.Others .HBR_GRP_COMMON g m ((commonUpdate g).run m) := by
  rw [commonUpdate, Act.run_read]
  exact Mach.others_set _ _ _ _

theorem commonUpdate_keeps {f : Fld} (h : f ≠ .HBR_GRP_COMMON) (g i : Nat) (m : Mach) : ((commonUpdate g).run m).get f i = m.get f i := by
  rw [commonUpdate, Act.run_read]
  exact Mach.get_set_other h ..

/-- The bifurcation written last takes effect when a group that was not enabled is. -/
def latchBifur (m : Mach) (g : Nat) : Act :=
  .when (!m.flag .HBR_GRP_EN g) (.prim (.host fun x => { x with bifur := x.bifur.set g 0 (m.get .HBR_GRP_BIFUR g) }))

theorem latchBifur_get (m : Mach) (g : Nat) (f : Fld) (i : Nat) (a : Mach) : ((latchBifur m g).run a).get f i = a.get f i := by
  rw [latchBifur, Act.run_when]
  split <;> rfl

theorem latchBifur_host (m : Mach) (g : Nat) (a : Mach) : ((latchBifur m g).run a).host =
    if m.get .HBR_GRP_EN g = 1 then a.host else { a.host with bifur := a.host.bifur.set g 0 (m.get .HBR_GRP_BIFUR g) } := by
  rw [latchBifur, Act.run_when, Mach.flag]
  by_cases h : m.get .HBR_GRP_EN g = 1
  · rw [if_pos h, h, if_neg (by decide)]
  · rw [if_neg h, if_pos (by simpa using h)]
    rfl

/-- An enable: the group enabled and powered, its bifurcation in effect, and its common units. -/
def enableGroup (m : Mach) (g : Nat) : Act :=
  .all [.set .HBR_GRP_EN g 1, .set .HBR_GRP_POWERED g 1, latchBifur m g, commonUpdate g]

theorem hbrGrpEnWrite_run_enable {m : Mach} {g : Nat} (hg : g < m.sled.groups) :
    (hbrGrpEnWrite g true).run m = (hbrDone (enableGroup m g)).run m := by
  rw [hbrGrpEnWrite, Act.run_read, Act.run_when, if_pos (decide_eq_true hg), if_pos rfl, enableGroup, latchBifur]

theorem enableGroup_within (m : Mach) (g : Nat) :
    (enableGroup m g).Within (places [.HBR_GRP_EN, .HBR_GRP_POWERED, .HBR_GRP_COMMON] [.host]) :=
  ⟨within_set (by rfl), within_set (by rfl), within_when (within_host (by rfl)),
    (commonUpdate_within g).mono (by rfl)⟩

theorem enableGroup_post (m : Mach) (g : Nat) (a : Mach) :
    ((enableGroup m g).run a).get .HBR_GRP_EN g = 1 ∧ ((enableGroup m g).run a).get .HBR_GRP_POWERED g = 1 ∧
    ((enableGroup m g).run a).host = (if m.get .HBR_GRP_EN g = 1 then a.host
      else { a.host with bifur := a.host.bifur.set g 0 (m.get .HBR_GRP_BIFUR g) }) ∧
    ((enableGroup m g).run a).get .HBR_GRP_COMMON g = ((enableGroup m g).run a).commonUnits g % 2 ^ 6 ∧
    Mach.Others .HBR_GRP_EN g a ((enableGroup m g).run a) ∧ Mach.Others .HBR_GRP_POWERED g a ((enableGroup m g).run a) ∧
    Mach.Others .HBR_GRP_COMMON g a ((enableGroup m g).run a) := by
  rw [enableGroup, Act.run_all_cons, Act.run_all_cons, Act.run_all_cons, Act.run_all_one]
  refine ⟨?_, ?_, ?_, commonUpdate_get .., fun j hj => ?_, fun j hj => ?_, fun j hj => ?_⟩
  · rw [commonUpdate_keeps (by decide), latchBifur_get, Mach.get_set_other (by decide), Mach.get_set_mod]
    rfl
  · rw [commonUpdate_keeps (by decide), latchBifur_get, Mach.get_set_mod]
    rfl
  · rw [(commonUpdate_within g).host _ (by rfl), latchBifur_host]
    rfl
  · rw [commonUpdate_keeps (by decide), latchBifur_get, Mach.get_set_other (by decide), Mach.others_set _ _ _ _ j hj]
  · rw [commonUpdate_keeps (by decide), latchBifur_get, Mach.others_set _ _ _ _ j hj, Mach.get_set_other (by decide)]
  · rw [commonUpdate_others g _ j hj, latchBifur_get, Mach.get_set_other (by decide), Mach.get_set_other (by decide)]

/-! ### Links that go down -/

/-- A program leaves every field of a list that is none of its places. -/
theorem Act.Within.get_of_mem {K : Nat} {a : Act} (ha : a.Within K) {l : List Fld} (hl : l.all (fun f => !K.testBit f.ctorIdx) = true)
    (hr : K.testBit 604 = false) {f : Fld} (hf : f ∈ l) (i : Nat) (m : Mach) : (a.run m).get f i = m.get f i :=
  ha.get f i m (by simpa using List.all_eq_true.mp hl f hf) hr

/-- Fields of a head that its link's end clears. -/
def linkFields : List Fld :=
  [.HBR_HEAD_WIDTH, .HBR_HEAD_RATE, .HBR_HEAD_FLIT, .HBR_HEAD_IDE, .HBR_HEAD_L0P, .HBR_HEAD_LTSSM, .HBR_HEAD_LDS, .HBR_HEAD_OCCUPANCY]

/-- Of writes of 0 to fields of one entry, what each entry of each field reads as. -/
theorem get_each_zero (f : Fld) (h j : Nat) (l : List Fld) (m : Mach) :
    ((Act.each l fun g => .set g h 0).run m).get f j = if f ∈ l ∧ j = h then 0 else m.get f j := by
  induction l generalizing m with
  | nil => simp [Act.run_each_nil]
  | cons g l ih =>
    rw [Act.run_each_cons, ih, Mach.get_set_ite, Nat.zero_mod]
    by_cases hj : j = h <;> by_cases hf : f = g <;> simp [hj, hf]

/-- The end of a link clears its head's fields and no other head's. -/
theorem linkGone_get {f : Fld} (hf : f ∈ linkFields) (h j : Nat) (m : Mach) :
    ((linkGone h).run m).get f j = if j = h then 0 else m.get f j := by
  have hpre (a : Mach) : ((loseHead h).run a).get f j = a.get f j := 
    (loseHead_within h).get_of_mem (by rfl) (by rfl) hf j a
  have horph (p : Nat → Bool) (a : Mach) : ((orphanReqs h p).run a).get f j = a.get f j := 
    (orphanReqs_within h p).get_of_mem (by rfl) (by rfl) hf j a
  have hreset (l : List Nat) (a : Mach) : ((Act.each l ldReset).run a).get f j = a.get f j :=
    (within_each ldReset_within).get_of_mem (by rfl) (by rfl) hf j a
  have hhost (g : HostSt → HostSt) (a : Mach) : ((Act.prim (.host g)).run a).get f j = a.get f j := rfl
  have hmgmt (b : Bool) (a : Mach) : ((Act.when b mgmtLinkDown).run a).get f j = a.get f j :=
    (within_when mgmtLinkDown_within).get_of_mem (by rfl) (by rfl) hf j a
  rw [linkGone, Act.run_read]
  simp only [Act.run_all_cons, Act.run_all_one, hmgmt, hhost, hreset, headDown]
  rw [show ([Fld.HBR_HEAD_WIDTH, .HBR_HEAD_RATE, .HBR_HEAD_FLIT, .HBR_HEAD_IDE, .HBR_HEAD_L0P, .HBR_HEAD_LTSSM, .HBR_HEAD_LDS,
    .HBR_HEAD_OCCUPANCY] : List Fld) = linkFields from rfl, get_each_zero, hpre, horph]
  simp only [hf, true_and]

theorem linkDown_width (h j : Nat) (m : Mach) :
    ((linkDown h).run m).get .HBR_HEAD_WIDTH j = if j = h then 0 else m.get .HBR_HEAD_WIDTH j := by
  rw [linkDown, Act.run_read, Act.run_when]
  by_cases hw : m.get .HBR_HEAD_WIDTH h = 0
  · rw [hw, if_neg (by decide)]
    split
    · next hj => rw [hj, hw]
    · rfl
  · rw [if_pos (bne_iff_ne.mpr hw)]
    exact linkGone_get (by decide) ..

theorem each_linkDown_width (j : Nat) (l : List Nat) (m : Mach) :
    ((Act.each l linkDown).run m).get .HBR_HEAD_WIDTH j = if j ∈ l then 0 else m.get .HBR_HEAD_WIDTH j := by
  induction l generalizing m with
  | nil => simp [Act.run_each_nil]
  | cons h l ih =>
    rw [Act.run_each_cons, ih, linkDown_width]
    by_cases hj : j = h <;> simp [hj]

/-- A disable: the links of the group down, and the group without enable and power. -/
def disableGroup (m : Mach) (g : Nat) : Act :=
  .all [.each (m.groupHeads g) linkDown, .set .HBR_GRP_EN g 0, .set .HBR_GRP_POWERED g 0]

theorem hbrGrpEnWrite_run_disable {m : Mach} {g : Nat} (hg : g < m.sled.groups) :
    (hbrGrpEnWrite g false).run m = (hbrDone (disableGroup m g)).run m := by
  rw [hbrGrpEnWrite, Act.run_read, Act.run_when, if_pos (decide_eq_true hg), if_neg (by decide), disableGroup]

theorem disableGroup_within (m : Mach) (g : Nat) : (disableGroup m g).Within (places (headGoneFields ++ [.HBR_GRP_EN, .HBR_GRP_POWERED])
    [.dram, .pages, .out, .freeCtr, .lines, .dir, .host, .bkw, .lhl, .arc, .bql, .snd, .que, .fry]) :=
  ⟨within_each fun h => (linkDown_within h).mono (by rfl), within_set (by rfl), within_set (by rfl)⟩

theorem disableGroup_post (m : Mach) (g : Nat) (a : Mach) : ((disableGroup m g).run a).get .HBR_GRP_EN g = 0 ∧
    ((disableGroup m g).run a).get .HBR_GRP_POWERED g = 0 ∧ ∀ h, h ∈ m.groupHeads g → ((disableGroup m g).run a).get .HBR_HEAD_WIDTH h = 0 := by
  rw [disableGroup, Act.run_all_cons, Act.run_all_cons, Act.run_all_one]
  refine ⟨?_, ?_, fun h hh => ?_⟩
  · rw [Mach.get_set_other (by decide), Mach.get_set_mod, Nat.zero_mod]
  · rw [Mach.get_set_mod, Nat.zero_mod]
  · rw [Mach.get_set_other (by decide), Mach.get_set_other (by decide), each_linkDown_width, if_pos hh]

/-! ### LDs and reserves -/

/-- The entry of an LD as it is written. -/
def ldEntry (n : Nat) (valid : Bool) (head ldid : Nat) : Act :=
  .all [.set .HBR_LD_VALID n (Bits.ofBool valid), .set .HBR_LD_HEAD n head, .set .HBR_LD_ID n ldid]

theorem ldEntry_within (n : Nat) (valid : Bool) (head ldid : Nat) :
    (ldEntry n valid head ldid).Within (places [.HBR_LD_VALID, .HBR_LD_HEAD, .HBR_LD_ID] []) :=
  ⟨within_set (by rfl), within_set (by rfl), within_set (by rfl)⟩

/-- A head and an LD-ID that a write names are in range, else it is refused. -/
theorem ldRefused_bounds {m : Mach} {n : Nat} {valid : Bool} {head ldid : Nat} (h : m.ldRefused n valid head ldid = false) :
    head < 2 ^ 6 ∧ ldid < 2 ^ 4 := by
  simp only [Mach.ldRefused, Bool.or_eq_false_iff, decide_eq_false_iff_not, not_or, Nat.not_le] at h
  obtain ⟨-, hhead, hid⟩ := h
  have hheads : m.sled.heads ≤ 64 := by cases m.sled <;> decide
  exact ⟨by omega, by omega⟩

theorem ldEntry_post {n head ldid : Nat} (valid : Bool) (hh : head < 2 ^ 6) (hi : ldid < 2 ^ 4) (m : Mach) :
    ((ldEntry n valid head ldid).run m).get .HBR_LD_VALID n = Bits.ofBool valid ∧
    ((ldEntry n valid head ldid).run m).get .HBR_LD_HEAD n = head ∧ ((ldEntry n valid head ldid).run m).get .HBR_LD_ID n = ldid ∧
    Mach.Others .HBR_LD_VALID n m ((ldEntry n valid head ldid).run m) ∧
    Mach.Others .HBR_LD_HEAD n m ((ldEntry n valid head ldid).run m) ∧
    Mach.Others .HBR_LD_ID n m ((ldEntry n valid head ldid).run m) := by
  rw [ldEntry, Act.run_all_cons, Act.run_all_cons, Act.run_all_one]
  refine ⟨?_, ?_, ?_, fun j hj => ?_, fun j hj => ?_, fun j hj => ?_⟩
  · rw [Mach.get_set_other (by decide), Mach.get_set_other (by decide), Mach.get_set_mod]
    cases valid <;> rfl
  · rw [Mach.get_set_other (by decide), Mach.get_set _ _ _ _ hh]
  · rw [Mach.get_set _ _ _ _ hi]
  · rw [Mach.get_set_other (by decide), Mach.get_set_other (by decide), Mach.others_set _ _ _ _ j hj]
  · rw [Mach.get_set_other (by decide), Mach.others_set _ _ _ _ j hj, Mach.get_set_other (by decide)]
  · rw [Mach.others_set _ _ _ _ j hj, Mach.get_set_other (by decide), Mach.get_set_other (by decide)]

theorem hbrLdWrite_run {m : Mach} {n : Nat} {valid : Bool} {head ldid : Nat} (hn : n < m.sled.lds)
    (h : m.ldRefused n valid head ldid = false) : (hbrLdWrite n valid head ldid).run m =
      (hbrDone (.seq (.when (m.flag .HBR_LD_VALID n && !valid) (ferryLdGone n)) (ldEntry n valid head ldid))).run m := by
  rw [hbrLdWrite, Act.run_read, Act.run_when, if_pos (decide_eq_true hn), h, if_neg (by decide), hbrDone_run, hbrDone_run, ldEntry,
    Act.run_all_cons, Act.run_seq]

theorem ferryReset_get {f : Fld} (hf : f ∈ ferryPage) (ld : Nat) (m : Mach) : ((ferryReset ld).run m).get f ld = 0 := by
  have hranges (a : Mach) : ((Act.prim (.fry fun x => { x with ranges := x.ranges.erase ld })).run a).get f ld = a.get f ld := rfl
  rw [ferryReset, Act.run_seq, hranges, get_each_zero, if_pos ⟨hf, rfl⟩]

theorem ferryLdGone_get {f : Fld} (hf : f ∈ ferryPage) (ld : Nat) (m : Mach) : ((ferryLdGone ld).run m).get f ld = 0 := by
  have hw : (Act.each ((List.range 8).filter fun s => m.get .FRY_M_TARGET s == ld) fun s =>
      .prim (.fry fun f => { f with ranges := f.ranges.erase (256 + s) })).Within (places [] [.fry]) :=
    within_each fun s => within_fry (by rfl)
  rw [ferryLdGone, Act.run_read, Act.run_seq, hw.get_of_mem (l := ferryPage) (by rfl) (by rfl) hf, ferryReset_get hf]

theorem hbrHeadResvWrite_run {m : Mach} {h v : Nat} (hh : h < m.sled.heads) (hv : v < 64) (hsum : m.reserveSum h v ≤ 32) :
    (hbrHeadResvWrite h v).run m = (hbrDone (.seq (.set .HBR_HEAD_RESV h v) (commonUpdate (h / 4)))).run m := by
  rw [hbrHeadResvWrite, Act.run_read]
  simp only [Nat.mod_eq_of_lt hv, Act.run_when, decide_eq_true hh, if_true, if_neg (Nat.not_lt_of_le hsum)]

theorem hbrHeadResvWrite_run_refused {m : Mach} {h v : Nat} (hh : h < m.sled.heads) (hv : v < 64) (hsum : 32 < m.reserveSum h v) :
    (hbrHeadResvWrite h v).run m = hbrRefused.run m := by
  rw [hbrHeadResvWrite, Act.run_read]
  simp only [Nat.mod_eq_of_lt hv, Act.run_when, decide_eq_true hh, if_true, if_pos hsum]

/-- Settles O16: each write is refused, or applied to the fields that it names. -/
theorem hostPortWrites : Obligations.HostPortWrites := by
  refine ⟨?_, ?_, ?_, ?_, ?_, ?_, ?_, ?_, ?_, ?_, ?_⟩
  · intro s g v hg hh hv
    have hrun := hbrGrpBifurWrite_run hg hh hv
    have hw : (Act.set .HBR_GRP_BIFUR g v).Within (places [.HBR_GRP_BIFUR] []) := within_set (by rfl)
    refine completes_as rfl hrun (K := places [.HBR_GRP_BIFUR, .HBR_WR_REFUSED] []) ⟨within_set (by rfl),
      within_set (by rfl)⟩ (inside_refl _) ⟨?_, hbrDone_get hw (by rfl) (by rfl) _,
        hbrDone_others (by decide) (Mach.others_set _ _ _ _)⟩
    rw [hbrDone_run]
    exact Mach.get_set _ _ _ _ (Nat.lt_trans hv (by decide))
  · exact fun s g v hg h => completes_hbrRefused rfl (hbrGrpBifurWrite_run_refused hg h)
  · intro s g hg
    have hrun := hbrGrpEnWrite_run_enable hg
    obtain ⟨hen, hpow, hhost, hcommon, hoen, hopow, hocommon⟩ :=
      enableGroup_post s.mach g ((Act.set .HBR_WR_REFUSED 0 0).run s.mach)
    refine completes_as rfl hrun (K := places [.HBR_GRP_EN, .HBR_GRP_POWERED, .HBR_GRP_COMMON, .HBR_WR_REFUSED] [.host])
      ⟨within_set (by rfl), (enableGroup_within _ _).mono (by rfl)⟩ (inside_refl _)
      ⟨hen, hpow, hbrDone_get (enableGroup_within _ _) (by rfl) (by rfl) _, hhost, hcommon,
        hbrDone_others (by decide) hoen, hbrDone_others (by decide) hopow, hbrDone_others (by decide) hocommon⟩
  · intro s g hg
    have hrun := hbrGrpEnWrite_run_disable hg
    obtain ⟨hen, hpow, hwidth⟩ := disableGroup_post s.mach g ((Act.set .HBR_WR_REFUSED 0 0).run s.mach)
    exact completes_as rfl hrun (K := places (headGoneFields ++ [.HBR_WR_REFUSED, .HBR_GRP_EN, .HBR_GRP_POWERED])
      [.dram, .pages, .out, .freeCtr, .lines, .dir, .host, .bkw, .lhl, .arc, .bql, .snd, .que, .fry])
      ⟨within_set (by rfl), (disableGroup_within _ _).mono (by rfl)⟩ (inside_refl _)
      ⟨hen, hpow, hbrDone_get (disableGroup_within _ _) (by rfl) (by rfl) _, hwidth⟩
  · intro s n valid head ldid hn h
    refine completes_hbrRefused (a := hbrLdWrite n valid head ldid) rfl ?_
    rw [hbrLdWrite, Act.run_read, Act.run_when, if_pos (decide_eq_true hn), if_pos h]
  · intro s n valid head ldid hn h hkeep
    have hrun := hbrLdWrite_run hn h
    obtain ⟨hh, hi⟩ := ldRefused_bounds h
    have hno : (s.mach.flag .HBR_LD_VALID n && !valid) = false := by
      rcases hkeep with rfl | h0
      · exact Bool.and_false _
      · rw [Mach.flag, h0]
        rfl
    rw [hno] at hrun
    have hskip (m : Mach) : (Act.seq (.when false (ferryLdGone n)) (ldEntry n valid head ldid)).run m = (ldEntry n valid head ldid).run m := rfl
    rw [hbrDone_run, hskip, ← hbrDone_run] at hrun
    obtain ⟨hv, hhd, hid, hov, hoh, hoi⟩ := ldEntry_post (n := n) valid hh hi ((Act.set .HBR_WR_REFUSED 0 0).run s.mach)
    exact completes_as rfl hrun (K := places [.HBR_LD_VALID, .HBR_LD_HEAD, .HBR_LD_ID, .HBR_WR_REFUSED] [])
      ⟨within_set (by rfl), (ldEntry_within _ _ _ _).mono (by rfl)⟩ (inside_refl _)
      ⟨hv, hhd, hid, hbrDone_get (ldEntry_within _ _ _ _) (by rfl) (by rfl) _, hbrDone_others (by decide) hov,
        hbrDone_others (by decide) hoh, hbrDone_others (by decide) hoi⟩
  · intro s n head ldid hn h hvalid
    have hrun := hbrLdWrite_run hn h
    obtain ⟨hh, hi⟩ := ldRefused_bounds h
    have hw : (Act.seq (.when (s.mach.flag .HBR_LD_VALID n && !false) (ferryLdGone n)) (ldEntry n false head ldid)).Within
        (places [.HBR_LD_VALID, .HBR_LD_HEAD, .HBR_LD_ID, .FRY_CURSOR, .FRY_PLACE, .FRY_PEER, .FRY_ERR, .FRY_WR_BYTES, .FRY_RD_BYTES,
          .FRY_REJECTS] [.fry]) :=
      ⟨within_when ((ferryLdGone_within n).mono (by rfl)), (ldEntry_within _ _ _ _).mono (by rfl)⟩
    have hyes : (s.mach.flag .HBR_LD_VALID n && !false) = true := by
      rw [Mach.flag, hvalid]
      rfl
    obtain ⟨hv, hhd, hid, hov, -, -⟩ := ldEntry_post (n := n) false hh hi
      ((ferryLdGone n).run ((Act.set .HBR_WR_REFUSED 0 0).run s.mach))
    have hbody (m : Mach) : (Act.seq (.when (s.mach.flag .HBR_LD_VALID n && !false) (ferryLdGone n)) (ldEntry n false head ldid)).run m =
        (ldEntry n false head ldid).run ((ferryLdGone n).run m) := by
      rw [Act.run_seq, Act.run_when, if_pos hyes]
    refine completes_as rfl hrun (K := places [.HBR_LD_VALID, .HBR_LD_HEAD, .HBR_LD_ID, .HBR_WR_REFUSED, .FRY_CURSOR, .FRY_PLACE,
        .FRY_PEER, .FRY_ERR, .FRY_WR_BYTES, .FRY_RD_BYTES, .FRY_REJECTS] [.fry])
      ⟨within_set (by rfl), hw.mono (by rfl)⟩ (inside_refl _)
      ⟨?_, ?_, ?_, hbrDone_get hw (by rfl) (by rfl) _, ?_, hbrDone_others (by decide) ?_⟩
    · rw [hbrDone_run, hbody]
      exact hv
    · rw [hbrDone_run, hbody]
      exact hhd
    · rw [hbrDone_run, hbody]
      exact hid
    · rw [hbrDone_run, hbody, (ldEntry_within _ _ _ _).get _ _ _ (by rfl) (by rfl), ferryLdGone_get (by decide)]
    · rw [hbody]
      intro j hj
      rw [hov j hj, (ferryLdGone_within n).get _ _ _ (by rfl) (by rfl)]
  · intro s h hbad
    refine completes_hbrRefused (a := hbrMgmtHeadWrite h) rfl ?_
    rw [hbrMgmtHeadWrite, Act.run_read, if_pos (by simpa using hbad)]
  · intro s h hl hb
    have hrun : (hbrMgmtHeadWrite h).run s.mach = (hbrDone (.set .HBR_MGMT_HEAD 0 h)).run s.mach := by
      rw [hbrMgmtHeadWrite, Act.run_read, hl, hb, if_neg (by decide)]
    have hw : (Act.set .HBR_MGMT_HEAD 0 h).Within (places [.HBR_MGMT_HEAD] []) := within_set (by rfl)
    refine completes_as rfl hrun (K := places [.HBR_MGMT_HEAD, .HBR_WR_REFUSED] []) ⟨within_set (by rfl),
      within_set (by rfl)⟩ (inside_refl _) ⟨?_, hbrDone_get hw (by rfl) (by rfl) _⟩
    rw [hbrDone_run, Mach.get_set_mod]
    rfl
  · exact fun s h v hh hv hsum => completes_hbrRefused rfl (hbrHeadResvWrite_run_refused hh hv hsum)
  · intro s h v hh hv hsum
    have hrun := hbrHeadResvWrite_run hh hv hsum
    have hw : (Act.seq (.set .HBR_HEAD_RESV h v) (commonUpdate (h / 4))).Within (places [.HBR_HEAD_RESV, .HBR_GRP_COMMON] []) :=
      ⟨within_set (by rfl), (commonUpdate_within _).mono (by rfl)⟩
    refine completes_as rfl hrun (K := places [.HBR_HEAD_RESV, .HBR_GRP_COMMON, .HBR_WR_REFUSED] []) ⟨within_set (by rfl),
      hw.mono (by rfl)⟩ (inside_refl _) ⟨?_, hbrDone_get hw (by rfl) (by rfl) _, ?_,
        hbrDone_others (by decide) fun j hj => ?_, hbrDone_others (by decide) fun j hj => ?_⟩
    · rw [hbrDone_run, Act.run_seq, commonUpdate_keeps (by decide)]
      exact Mach.get_set _ _ _ _ hv
    · rw [hbrDone_run, Act.run_seq]
      exact commonUpdate_get ..
    · rw [Act.run_seq, commonUpdate_keeps (by decide), Mach.others_set _ _ _ _ j hj]
    · rw [Act.run_seq, commonUpdate_others _ _ j hj, Mach.get_set_other (by decide)]

end Sys2Proof.Machine
end

section
/-!
PROOF. O17, links, resets and streams (R168, R205 to R207, R218, R219, R226).
-/

namespace Sys2Proof.Machine

/-! ### Programs that leave what is read -/

/-- Programs each of which leaves what `φ` reads leave it one after another. -/
theorem each_keeps {α β : Type} (φ : Mach → β) {f : α → Act} (l : List α) (h : ∀ x ∈ l, ∀ m : Mach, φ ((f x).run m) = φ m) (m : Mach) :
    φ ((Act.each l f).run m) = φ m := by
  induction l generalizing m with
  | nil => rfl
  | cons x l ih =>
    rw [Act.run_each_cons, ih fun y hy => h y (List.mem_cons_of_mem _ hy), h x (List.mem_cons_self ..)]

/-! ### A head settles -/

/-- The mode that a head has entered (Table 9.7). -/
def l0Status (h width rate fl : Nat) : Act :=
  .all [.set .HBR_HEAD_WIDTH h width, .set .HBR_HEAD_RATE h rate, .set .HBR_HEAD_FLIT h fl, .set .HBR_HEAD_L0P h width,
    .set .HBR_HEAD_LTSSM h ltL0]

theorem l0Status_within (h width rate fl : Nat) : (l0Status h width rate fl).Within
    (places [.HBR_HEAD_WIDTH, .HBR_HEAD_RATE, .HBR_HEAD_FLIT, .HBR_HEAD_L0P, .HBR_HEAD_LTSSM] []) :=
  ⟨within_set (by rfl), within_set (by rfl), within_set (by rfl), within_set (by rfl),
    within_set (by rfl)⟩

theorem headEnterL0_run {m : Mach} {h width rate flit fl : Nat}
    (hfl : fl = if m.get .HBR_HEAD_WIDTH h = 0 then flit else m.get .HBR_HEAD_FLIT h) (hmay : m.mayEnter h width rate fl = true) :
    (headEnterL0 h width rate flit).run m = (settled h).run
      ((Act.when (m.get .HBR_HEAD_WIDTH h == 0) (linkUp h fl)).run ((l0Status h width rate fl).run m)) := by
  have hfl' : (if (m.get .HBR_HEAD_WIDTH h != 0) = true then m.get .HBR_HEAD_FLIT h else flit) = fl := by
    rw [hfl]
    by_cases hw : m.get .HBR_HEAD_WIDTH h = 0
    · rw [if_neg (by simp [hw]), if_pos hw]
    · rw [if_pos (by simp [hw]), if_neg hw]
  have hdown : (!(m.get .HBR_HEAD_WIDTH h != 0)) = (m.get .HBR_HEAD_WIDTH h == 0) := by simp [bne]
  rw [headEnterL0, Act.run_read]
  dsimp only
  rw [hfl', hdown, Act.run_when, if_pos hmay]
  simp only [Act.run_all_cons, Act.run_all_one, l0Status]

/-- A mode that a head may enter fits the bits of its status. -/
theorem mayEnter_bounds {m : Mach} {h width rate fl : Nat} (hmay : m.mayEnter h width rate fl = true) :
    width < 2 ^ 5 ∧ rate < 2 ^ 3 ∧ fl < 2 ^ 2 := by
  simp only [Mach.mayEnter, Bool.and_eq_true, decide_eq_true_eq] at hmay
  obtain ⟨⟨⟨⟨⟨hw, -, -, hr, hf⟩, -⟩, -⟩, -⟩, -⟩ := hmay
  simp only [List.mem_cons, List.not_mem_nil, or_false] at hw
  exact ⟨by omega, by omega, by omega⟩

theorem l0Status_post {h width rate fl : Nat} (hw : width < 2 ^ 5) (hr : rate < 2 ^ 3) (hf : fl < 2 ^ 2) (m : Mach) :
    ((l0Status h width rate fl).run m).get .HBR_HEAD_WIDTH h = width ∧ ((l0Status h width rate fl).run m).get .HBR_HEAD_RATE h = rate ∧
    ((l0Status h width rate fl).run m).get .HBR_HEAD_FLIT h = fl ∧ ((l0Status h width rate fl).run m).get .HBR_HEAD_L0P h = width ∧
    ((l0Status h width rate fl).run m).get .HBR_HEAD_LTSSM h = ltL0 ∧
    Mach.Others .HBR_HEAD_WIDTH h m ((l0Status h width rate fl).run m) := by
  have hwidth : Fld.HBR_HEAD_WIDTH.spec.width = 5 := rfl
  have hrate : Fld.HBR_HEAD_RATE.spec.width = 3 := rfl
  have hflit : Fld.HBR_HEAD_FLIT.spec.width = 2 := rfl
  have hl0p : Fld.HBR_HEAD_L0P.spec.width = 5 := rfl
  simp only [l0Status, Act.run_all_cons, Act.run_all_one, Mach.get_set_ite, reduceCtorEq, false_and, and_self, if_true, if_false, hwidth,
    hrate, hflit, hl0p, Nat.mod_eq_of_lt hw, Nat.mod_eq_of_lt hr, Nat.mod_eq_of_lt hf, true_and]
  refine ⟨rfl, fun j hj => ?_⟩
  simp only [Mach.get_set_ite, reduceCtorEq, if_false, hj, and_false]

theorem l0Status_headLds (h width rate fl : Nat) (m : Mach) : ((l0Status h width rate fl).run m).headLds = m.headLds := by
  have hw := l0Status_within h width rate fl
  funext x
  simp only [Mach.headLds, hw.idxs .HBR_LD_VALID m (by rfl) (by rfl), Mach.flag, Mach.headOf,
    hw.get .HBR_LD_VALID _ m (by rfl) (by rfl), hw.get .HBR_LD_HEAD _ m (by rfl) (by rfl)]

theorem linkUp_lds (h fl : Nat) (m : Mach) : ((linkUp h fl).run m).get .HBR_HEAD_LDS h =
    ((if fl = 0 then 0 else (m.headLds h).length) + (if m.get .HBR_MGMT_HEAD = h then 1 else 0)) % 2 ^ 5 := by
  have hlen : ((if fl = 0 then [] else m.headLds h) ++ (if (m.get .HBR_MGMT_HEAD == h) = true then [ownMgmt] else [])).length =
      (if fl = 0 then 0 else (m.headLds h).length) + (if m.get .HBR_MGMT_HEAD = h then 1 else 0) := by
    rw [List.length_append]
    congr 1
    · split <;> rfl
    · by_cases hm : m.get .HBR_MGMT_HEAD = h <;> simp [hm]
  rw [linkUp, Act.run_read, Act.run_all_cons, Act.run_all_one, hlen, Mach.get_set_mod]
  rfl

theorem linkUp_others (h fl : Nat) (m : Mach) : Mach.Others .HBR_HEAD_LDS h m ((linkUp h fl).run m) := by
  rw [linkUp, Act.run_read, Act.run_all_cons, Act.run_all_one]
  exact fun j hj => Mach.others_set _ _ _ _ j hj

/-! ### Retraining -/

theorem headRetrain_run {m : Mach} {h : Nat} {c : RetrainCause} (hw : m.get .HBR_HEAD_WIDTH h ≠ 0)
    (hc : ∀ n, c ≠ .l0p n ∧ c ≠ .sledL0p n) :
    (headRetrain h c).run m = (Act.seq (.inc .HBR_HEAD_RETRAINS h 1) (.set .HBR_HEAD_LTSSM h ltRecovery)).run m := by
  rw [headRetrain, Act.run_read]
  simp only [Act.run_when, bne_iff_ne.mpr hw, if_true]
  cases c with
  | l0p n => exact absurd rfl (hc n).1
  | sledL0p n => exact absurd rfl (hc n).2
  | _ => rfl

theorem headRetrain_run_l0p {m : Mach} {h n : Nat} {c : RetrainCause} (h1 : 1 ≤ n) (hn : n ≤ m.get .HBR_HEAD_WIDTH h)
    (hc : c = .l0p n ∨ (c = .sledL0p n ∧ m.get .HBR_HEAD_L0P_AUTO h = 1)) :
    (headRetrain h c).run m = (Act.set .HBR_HEAD_L0P h n).run m := by
  have hw : m.get .HBR_HEAD_WIDTH h ≠ 0 := by omega
  rw [headRetrain, Act.run_read]
  rcases hc with rfl | ⟨rfl, ha⟩
  · simp only [Act.run_when, bne_iff_ne.mpr hw, if_true, decide_eq_true (show 1 ≤ n ∧ n ≤ m.get .HBR_HEAD_WIDTH h from ⟨h1, hn⟩)]
  · simp only [Act.run_when, bne_iff_ne.mpr hw, if_true, Mach.flag, ha, BEq.rfl,
      decide_eq_true (show 1 ≤ n ∧ n ≤ m.get .HBR_HEAD_WIDTH h from ⟨h1, hn⟩)]

theorem headRetrain_run_off {m : Mach} {h n : Nat} (ha : m.get .HBR_HEAD_L0P_AUTO h = 0) : (headRetrain h (.sledL0p n)).run m = m := by
  rw [headRetrain, Act.run_read, Act.run_when]
  simp only [Mach.flag, ha]
  split <;> rfl

/-! ### Links and LDs that go -/

theorem ownerDrain_host (owner : Nat) (m : Mach) : ((ownerDrain owner).run m).host = m.host :=
  (ownerDrain_within owner).host m (by rfl)

theorem mgmtLinkDown_host (m : Mach) : ∃ b, (mgmtLinkDown.run m).host = { m.host with
    mboxes := b, msixMasked := m.host.msixMasked.filter (·.1 != ownMgmt), msixPending := m.host.msixPending.filter (·.1 != ownMgmt) } := by
  rw [mgmtLinkDown, Act.run_all_cons, Act.run_all_cons, Act.run_all_one, Act.run_prim, Prim.host_host, ownerDrain_host]
  exact ⟨_, rfl⟩

theorem linkGone_ide (h : Nat) (m : Mach) : ((linkGone h).run m).host.ide.find? h = none := by
  have hmgmt (b : Bool) (a : Mach) : ((Act.when b mgmtLinkDown).run a).host.ide = a.host.ide := by
    obtain ⟨x, hx⟩ := mgmtLinkDown_host a
    rw [Act.run_when]
    split
    · rw [hx]
    · rfl
  rw [linkGone, Act.run_read]
  simp only [Act.run_all_cons, Act.run_all_one]
  rw [hmgmt, Act.run_prim, Prim.host_host]
  exact SMap.find?_erase_self ..

theorem ldReset_run (ld : Nat) (m : Mach) : (ldReset ld).run m = (Act.prim (.host fun h => { h with
    msixMasked := h.msixMasked.filter (·.1 != ld), msixPending := h.msixPending.filter (·.1 != ld) })).run
      ((ferryReset ld).run ((ownerDrain ld).run m)) := by
  rw [ldReset, Act.run_all_cons, Act.run_all_cons, Act.run_all_one]

/-- A reset of an LD ends with its page, its ranges and its vectors as at reset. -/
theorem ldReset_post (ld : Nat) (m : Mach) : (∀ f ∈ ferryPage, ((ldReset ld).run m).get f ld = 0) ∧
    ((ldReset ld).run m).fry.ranges.find? ld = none ∧ ∀ v, (ld, v) ∉ ((ldReset ld).run m).host.msixMasked := by
  have hhost (g : HostSt → HostSt) (f : Fld) (a : Mach) : ((Act.prim (.host g)).run a).get f ld = a.get f ld := rfl
  rw [ldReset_run]
  refine ⟨fun f hf => by rw [hhost, ferryReset_get hf], ?_, fun v hv => ?_⟩
  · rw [Act.run_prim, Prim.host_fry, ferryReset, Act.run_seq, Act.run_prim, Prim.fry_fry]
    exact SMap.find?_erase_self ..
  · rw [Act.run_prim, Prim.host_host] at hv
    exact absurd (List.mem_filter.mp hv).2 (by simp)

theorem flr_run {m : Mach} {ld : Nat} (hup : m.ldUp ld false = true) : ∃ a, (flr ld).run m = (ldReset ld).run a := by
  rw [flr, Act.run_read]
  simp only [Act.run_when, hup, if_true, Act.run_all_cons, Act.run_all_one]
  exact ⟨_, rfl⟩

/-! ### Queue pairs of an owner -/

/-- Draining begins at the queue pair named, and at no other. -/
theorem qpDrain_state {q j : Nat} (h : j ≠ q) (m : Mach) : ((qpDrain q).run m).get .QP_STATE j = m.get .QP_STATE j := by
  have htail (l : List Desc) : (Act.all [forget (.queue q) fetchTag 1, .each l abortDesc]).Within (places [] [.dir, .que]) :=
    ⟨(forget_within _ _ _).mono (by rfl), within_each fun d => (abortDesc_within d).mono (by rfl)⟩
  rw [qpDrain, Act.run_read, Act.run_all_cons, Act.run_all_cons, (htail _).get _ _ _ (by rfl) (by rfl),
    Mach.others_set _ _ _ _ j h, Mach.get_set_other (by decide)]

theorem ownerDrain_state {owner q : Nat} {m : Mach} (h : m.get .QP_OWNER q ≠ owner) :
    ((ownerDrain owner).run m).get .QP_STATE q = m.get .QP_STATE q := by
  rw [ownerDrain, Act.run_read]
  refine each_keeps (·.get .QP_STATE q) _ (fun x hx a => qpDrain_state (fun e => ?_) a) m
  have hx' := (List.mem_filter.mp hx).2
  rw [Bool.and_eq_true, beq_iff_eq] at hx'
  exact h (e ▸ hx'.1)

/-- An error of a queue pair is its own. -/
theorem qpFail_get {q j : Nat} (h : j ≠ q) (code : Nat) {f : Fld} (hf : f ∈ [Fld.QP_STATE, .QP_ERR]) (m : Mach) :
    ((qpFail q code).run m).get f j = m.get f j := by
  have htail : (Act.all [forget (.queue q) fetchTag 1, qpSignal q]).Within (places [] [.out, .dir, .host, .que]) :=
    ⟨(forget_within _ _ _).mono (by rfl), (qpSignal_within q).mono (by rfl)⟩
  rw [qpFail, Act.run_read, Act.run_when]
  split
  · rw [Act.run_all_cons, Act.run_all_cons, htail.get_of_mem (by rfl) (by rfl) hf, Mach.get_set_ite, Mach.get_set_ite,
      if_neg fun e => h e.2, if_neg fun e => h e.2]
  · rfl

theorem busMasterEnableClear_get {owner q : Nat} {m : Mach} (h : m.get .QP_OWNER q ≠ owner) {f : Fld} (hf : f ∈ [Fld.QP_STATE, .QP_ERR]) :
    ((busMasterEnableClear owner).run m).get f q = m.get f q := by
  rw [busMasterEnableClear, Act.run_read, Act.run_all_cons, Act.run_all_one]
  refine (each_keeps (·.get f q) _ (fun x hx a => qpFail_get (fun e => ?_) 5 hf a) _).trans rfl
  have hx' := (List.mem_filter.mp hx).2
  rw [beq_iff_eq] at hx'
  exact h (e ▸ hx')

theorem msixSend_bmeOff (owner vec : Nat) (m : Mach) : ((msixSend owner vec).run m).host.bmeOff = m.host.bmeOff := by
  rw [msixSend, Act.run_read]
  split
  · rfl
  · split <;> rfl

theorem qpFail_bmeOff (q code : Nat) (m : Mach) : ((qpFail q code).run m).host.bmeOff = m.host.bmeOff := by
  have hsignal (a : Mach) : ((qpSignal q).run a).host.bmeOff = a.host.bmeOff := by
    rw [qpSignal, Act.run_read, Act.run_when]
    split
    · rw [Act.run_all_cons, Act.run_all_one, msixSend_bmeOff]
      rfl
    · rfl
  rw [qpFail, Act.run_read, Act.run_when]
  split
  · simp only [Act.run_all_cons, Act.run_all_one, hsignal]
    rfl
  · rfl

theorem busMasterEnableClear_bmeOff (owner : Nat) (m : Mach) : owner ∈ ((busMasterEnableClear owner).run m).host.bmeOff := by
  rw [busMasterEnableClear, Act.run_read, Act.run_all_cons, Act.run_all_one,
    each_keeps (·.host.bmeOff) _ fun q _ a => qpFail_bmeOff q 5 a]
  exact List.mem_cons_self ..

/-! ### Vectors -/

/-- A vector that is no longer masked has its pending message sent, and is not masked again. -/
theorem msixSend_masked (owner vec : Nat) (m : Mach) : ((msixSend owner vec).run m).host.msixMasked = m.host.msixMasked := by
  rw [msixSend, Act.run_read]
  split
  · rfl
  · split <;> rfl

theorem msixVectorUnmask_masked (owner vec : Nat) (m : Mach) : ((msixVectorUnmask owner vec).run m).host.msixMasked =
    m.host.msixMasked.filter (· != (owner, vec)) := by
  rw [msixVectorUnmask, Act.run_read, Act.run_all_cons, Act.run_all_one, Act.run_when]
  split
  · rw [msixSend_masked]
    rfl
  · rfl

/-! ### Streams (R168) -/

theorem setIde_post (h bits : Nat) (active : Bool) (m : Mach) : ((setIde h bits active).run m).ideBits h = bits ∧
    ((setIde h bits active).run m).get .HBR_HEAD_IDE h = Bits.ofBool active ∧ ((setIde h bits active).run m).out = m.out ∧
    Mach.Others .HBR_HEAD_IDE h m ((setIde h bits active).run m) := by
  rw [setIde, Act.run_seq]
  refine ⟨SMap.find?_set_self .., Mach.get_set _ _ _ _ (by cases active <;> decide), rfl, fun j hj => ?_⟩
  rw [Mach.others_set _ _ _ _ j hj]
  rfl

/-- A message that sets the streams of a head and is acknowledged. -/
theorem completes_setIde {c : Instr} {s : State} {a : Act} {h bits : Nat} {active : Bool} {o : Out} (e : exec c s = s.act a)
    (hrun : a.run s.mach = (Act.seq (setIde h bits active) (.emit o)).run s.mach) :
    Completes c s [.HBR_HEAD_IDE] [.out, .host] fun t => t.ideBits h = bits ∧ t.get .HBR_HEAD_IDE h = Bits.ofBool active ∧
      t.out = s.mach.out ++ [o] ∧ Mach.Others .HBR_HEAD_IDE h s.mach t := by
  obtain ⟨hb, hi, ho, hoth⟩ := setIde_post h bits active s.mach
  refine completes_as e hrun (K := places [.HBR_HEAD_IDE] [.out, .host]) ⟨(setIde_within h bits active).mono (by rfl),
    within_emit (by rfl)⟩ (inside_refl _) ?_
  rw [Act.run_seq]
  exact ⟨hb, hi, by rw [Act.run_emit, Prim.emit_out, ho], hoth⟩

theorem ideKm_run_go {m : Mach} {h : Nat} (hw : m.get .HBR_HEAD_WIDTH h ≠ 0) (hb : Bits.bit (m.ideBits h) 0 = true) :
    (ideKm h (.setGo true)).run m = (Act.seq (setIde h (m.ideBits h) true) (.emit (.mgmtRsp 3 0x06 [h, 0]))).run m := by
  rw [ideKm, Act.run_read, Act.run_when, if_pos (bne_iff_ne.mpr hw)]
  simp only [hb, if_true]

theorem ideKm_run_noKey {m : Mach} {h : Nat} (hw : m.get .HBR_HEAD_WIDTH h ≠ 0) (hb : Bits.bit (m.ideBits h) 0 = false) :
    (ideKm h (.setGo true)).run m = (Act.emit (.mgmtRsp 3 0x06 [h, 4])).run m := by
  rw [ideKm, Act.run_read, Act.run_when, if_pos (bne_iff_ne.mpr hw)]
  simp only [hb, Bool.false_eq_true, if_true, if_false]

theorem ideKm_run_stop {m : Mach} {h : Nat} (hw : m.get .HBR_HEAD_WIDTH h ≠ 0) :
    (ideKm h (.setStop true)).run m = (Act.seq (setIde h (m.ideBits h) false) (.emit (.mgmtRsp 3 0x06 [h, 0]))).run m := by
  rw [ideKm, Act.run_read, Act.run_when, if_pos (bne_iff_ne.mpr hw)]
  simp only [if_true]

theorem ideKm_run_key {m : Mach} {h : Nat} (k : Bool) (hw : m.get .HBR_HEAD_WIDTH h ≠ 0) (hf : m.get .HBR_HEAD_FLIT h ≠ 0) :
    (ideKm h (.keyProg true k)).run m = (Act.seq (setIde h (withBit (withBit (m.ideBits h) 0 true) 1 k) (m.flag .HBR_HEAD_IDE h))
      (.emit (.mgmtRsp 3 0x03 [h, 0]))).run m := by
  rw [ideKm, Act.run_read, Act.run_when, if_pos (bne_iff_ne.mpr hw)]
  simp only [beq_false_of_ne hf, Bool.and_false, Bool.false_eq_true, if_true, if_false]

/-- A bit is the flag that it is read as. -/
theorem ofBool_flag {m : Mach} {f : Fld} {i : Nat} (h : m.get f i < 2) : Bits.ofBool (m.flag f i) = m.get f i := by
  have h01 : m.get f i = 0 ∨ m.get f i = 1 := by omega
  rcases h01 with h | h <;> rw [Mach.flag, h] <;> rfl

/-- Settles O17: links, resets, vectors and streams, each by what it comes to. -/
theorem linksAndResets : Obligations.LinksAndResets := by
  refine ⟨?_, ?_, ?_, ?_, ?_, ?_, ?_, ?_, ?_, ?_, ?_, ?_, ?_, ?_, ?_, ?_⟩
  · intro s h width rate flit fl hfl hmay
    obtain ⟨hbw, hbr, hbf⟩ := mayEnter_bounds hmay
    obtain ⟨hw, hr, hf, hl, ht, hothers⟩ := l0Status_post (h := h) hbw hbr hbf s.mach
    have hsettled {f : Fld} (hf : f ∈ linkFields) (j : Nat) (a : Mach) : ((settled h).run a).get f j = a.get f j :=
      (settled_within h).get_of_mem (by rfl) (by rfl) hf j a
    have hlink {f : Fld} (hf : f ∈ linkFields.erase .HBR_HEAD_LDS) (j : Nat) (a : Mach) :
        ((Act.when (s.mach.get .HBR_HEAD_WIDTH h == 0) (linkUp h fl)).run a).get f j = a.get f j :=
      (within_when (linkUp_within h fl)).get_of_mem (by rfl) (by rfl) hf j a
    have hmode (f : Fld) (hf : f ∈ [Fld.HBR_HEAD_LDS, .HBR_MGMT_HEAD]) (j : Nat) :
        ((l0Status h width rate fl).run s.mach).get f j = s.mach.get f j :=
      (l0Status_within h width rate fl).get_of_mem (by rfl) (by rfl) hf j _
    refine completes_of (a := headEnterL0 h width rate flit) rfl (headEnterL0_within h width rate flit) (by rfl) ?_
    rw [headEnterL0_run hfl hmay]
    refine ⟨?_, ?_, ?_, ?_, ?_, fun j hj => ?_, fun j hj => ?_, fun hup => ?_, fun hdown => ?_⟩
    · rw [hsettled (by decide), hlink (by decide), hw]
    · rw [hsettled (by decide), hlink (by decide), hr]
    · rw [hsettled (by decide), hlink (by decide), hf]
    · rw [hsettled (by decide), hlink (by decide), hl]
    · rw [hsettled (by decide), hlink (by decide), ht]
    · rw [hsettled (by decide), hlink (by decide), hothers j hj]
    · rw [hsettled (by decide), Act.run_when]
      split
      · rw [linkUp_others h fl _ j hj, hmode _ (by decide)]
      · exact hmode _ (by decide) j
    · rw [hsettled (by decide), Act.run_when, if_neg (by simpa using hup)]
      exact hmode _ (by decide) h
    · rw [hsettled (by decide), Act.run_when, if_pos (by simpa using hdown), linkUp_lds, l0Status_headLds, hmode _ (by decide)]
  · intro s h c hw hc
    have hrun := headRetrain_run hw hc
    refine completes_as (a := headRetrain h c) rfl hrun (K := places [.HBR_HEAD_LTSSM, .HBR_HEAD_RETRAINS] []) ⟨within_inc (by rfl),
      within_set (by rfl)⟩ (inside_refl _) ?_
    rw [Act.run_seq]
    refine ⟨?_, ?_, fun j hj => ?_, fun j hj => ?_⟩
    · rw [Mach.get_set_other (by decide), Mach.get_inc]
      rfl
    · exact Mach.get_set _ _ _ _ (by decide)
    · rw [Mach.get_set_other (by decide), Mach.others_inc _ _ _ _ j hj]
    · rw [Mach.others_set _ _ _ _ j hj, Mach.get_inc_other (by decide)]
  · intro s h n c h1 hn hc
    exact completes_as (a := headRetrain h c) rfl (headRetrain_run_l0p h1 hn hc) (within_set (K := places [.HBR_HEAD_L0P] []) (by rfl))
      (inside_refl _) ⟨Mach.get_set_mod .., Mach.others_set _ _ _ _⟩
  · intro s h n ha
    exact completes_as (a := headRetrain h (.sledL0p n)) (b := .skip) rfl (headRetrain_run_off ha) (within_skip (K := 0)) (by rfl) rfl
  · intro s h hw
    have hrun : (linkDown h).run s.mach = (linkGone h).run s.mach := by
      rw [linkDown, Act.run_read, Act.run_when, if_pos (bne_iff_ne.mpr hw)]
    have hget {f : Fld} (hf : f ∈ linkFields) : ((linkGone h).run s.mach).get f h = 0 := by rw [linkGone_get hf, if_pos rfl]
    have hother {f : Fld} (hf : f ∈ linkFields) : Mach.Others f h s.mach ((linkGone h).run s.mach) := fun j hj => by
      rw [linkGone_get hf, if_neg hj]
    exact completes_as rfl hrun (linkGone_within h) (by rfl) ⟨hget (by decide), hget (by decide), hget (by decide), hget (by decide),
      hget (by decide), hget (by decide), linkGone_ide .., hother (by decide), hother (by decide)⟩
  · intro s h hw
    refine completes_as (a := linkDown h) (b := .skip) rfl ?_ (within_skip (K := 0)) (by rfl) rfl
    rw [linkDown, Act.run_read, Act.run_when, hw, if_neg (by decide), Act.run_skip]
  · intro s ld i hi hup
    refine completes_of (a := flr ld) rfl (flr_within ld) (by rfl) ?_
    obtain ⟨a, ha⟩ := flr_run hup
    obtain ⟨hpage, hranges, hmask⟩ := ldReset_post ld a
    rw [ha]
    exact ⟨hpage _ (by decide), hpage _ (by decide), hpage _ (by decide), hpage _ (by decide), hpage _ (by decide), hpage _ (by decide),
      hranges, hmask⟩
  · intro s ld hup
    exact completes_of (a := flr ld) rfl (flr_within ld) (by rfl) (State.act_next s (flr ld))
  · intro s
    refine completes_of (a := mgmtLinkDown) rfl mgmtLinkDown_within (by rfl) ⟨fun v => ?_, fun q hq => ?_⟩
    · obtain ⟨b, hb⟩ := mgmtLinkDown_host s.mach
      rw [hb]
      exact ⟨fun hv => absurd (List.mem_filter.mp hv).2 (by simp), fun hv => absurd (List.mem_filter.mp hv).2 (by simp)⟩
    · rw [mgmtLinkDown, Act.run_all_cons, Act.run_all_cons, Act.run_all_one]
      exact (ownerDrain_state (m := (Act.mbox ownMgmt fun b => { b with bgDone := true }).run s.mach) hq).trans rfl
  · intro s owner vec
    refine completes_of (a := msixVectorUnmask owner vec) rfl (msixVectorUnmask_within owner vec) (by rfl) ?_
    rw [msixVectorUnmask_masked]
    refine ⟨fun hv => absurd (List.mem_filter.mp hv).2 (by simp), fun p hp => ⟨fun hv => (List.mem_filter.mp hv).1,
      fun hv => List.mem_filter.mpr ⟨hv, by simpa using hp⟩⟩, fun hpend => ?_⟩
    have hno : s.mach.host.msixPending.contains (owner, vec) = false := by simpa using hpend
    rw [msixVectorUnmask, Act.run_read, Act.run_all_cons, Act.run_all_one, hno, Act.run_when, if_neg (by decide)]
    rfl
  · intro s owner
    exact completes_of (a := busMasterEnableClear owner) rfl (busMasterEnableClear_within owner) (by rfl)
      ⟨busMasterEnableClear_bmeOff .., fun q hq => ⟨busMasterEnableClear_get hq (by decide), busMasterEnableClear_get hq (by decide)⟩⟩
  · intro s h hw hb
    exact (completes_setIde (c := .ideKm h (.setGo true)) rfl (ideKm_run_go hw hb)).imp fun t ⟨hbits, hi, ho, hoth⟩ => ⟨hi, hbits, ho, hoth⟩
  · intro s h hw hb
    exact completes_as (c := .ideKm h (.setGo true)) rfl (ideKm_run_noKey hw hb) (within_emit (K := places [] [.out]) (by rfl)) (inside_refl _) rfl
  · intro s h hw
    exact (completes_setIde (c := .ideKm h (.setStop true)) rfl (ideKm_run_stop hw)).imp fun t ⟨_, hi, ho, hoth⟩ => ⟨hi, ho, hoth⟩
  · intro s h k hw hf hi2
    exact (completes_setIde (c := .ideKm h (.keyProg true k)) rfl (ideKm_run_key k hw hf)).imp
      fun t ⟨hbits, hi, ho, _⟩ => ⟨hbits, hi.trans (ofBool_flag hi2), ho⟩
  · intro s h hw
    refine completes_as (a := ideKm h .query) (b := .emit (.mgmtRsp 3 0x01 [h, s.mach.headLanes h, s.mach.ideBits h])) rfl ?_
      (within_emit (K := places [] [.out]) (by rfl)) (inside_refl _) rfl
    rw [ideKm, Act.run_read, Act.run_when, if_pos (bne_iff_ne.mpr hw)]

end Sys2Proof.Machine
end

section
/-!
PROOF. O18, the general mailbox commands (R214, R215, R383).
-/

namespace Sys2Proof.Machine

/-! ### A mailbox that serves -/

/-- A mailbox that is ready and serves the opcode runs the command's program. -/
theorem mbCmd_run {m : Mach} {mb : Mbox} {op : Nat} (h : m.mbServes mb op) (a : Act) : (mbCmd mb op a).run m = a.run m := by
  obtain ⟨hready, hop⟩ := h
  rw [mbCmd, Act.run_read, Act.run_when, if_pos hready, if_pos hop]

/-- A mailbox that is not ready does nothing. -/
theorem mbCmd_run_unready {m : Mach} {mb : Mbox} (h : m.mbReady mb = false) (op : Nat) (a : Act) :
    (mbCmd mb op a).run m = m := by
  rw [mbCmd, Act.run_read, Act.run_when, if_neg (by simp [h])]

/-- A mailbox that is ready answers an opcode that it does not serve as Unsupported. -/
theorem mbCmd_run_unserved {m : Mach} {mb : Mbox} {op : Nat} (h : m.mbReady mb = true) (hop : (mbOps mb).contains op = false) (a : Act) :
    (mbCmd mb op a).run m = (mbAnswer mb op rcUnsupported []).run m := by
  rw [mbCmd, Act.run_read, Act.run_when, if_pos h, if_neg (by rw [hop]; decide)]

/-- An answer changes nothing but what has been emitted. -/
theorem mbAnswer_run (mb : Mbox) (op code : Nat) (pl : List Nat) (m : Mach) :
    (mbAnswer mb op code pl).run m = { m with out := m.out ++ [.mailbox mb op code pl] } := rfl

/-- A command that comes to one answer. -/
theorem completes_answer {c : Instr} {s : State} {a : Act} {mb : Mbox} {op code : Nat} {pl : List Nat} (e : exec c s = s.act a)
    (h : a.run s.mach = (mbAnswer mb op code pl).run s.mach) :
    Completes c s [] [.out] fun t => Mach.Answered mb op code pl s.mach t :=
  completes_as e h (K := places [] [.out]) (mbAnswer_within mb op code pl |>.mono (by rfl)) (inside_refl _) rfl

/-- A command that changes the state of the hosts and then answers. -/
theorem completes_hostAnswer {c : Instr} {s : State} {a b : Act} {mb : Mbox} {op code : Nat} {pl : List Nat} {post : Mach → Prop}
    (e : exec c s = s.act a) (h : a.run s.mach = (Act.seq b (mbAnswer mb op code pl)).run s.mach)
    (hb : b.Within (places [] [.host])) (hpost : post ((Act.seq b (mbAnswer mb op code pl)).run s.mach)) :
    Completes c s [] [.out, .host] fun t => Mach.Answered mb op code pl s.mach t ∧ post t := by
  refine completes_as e h (K := places [] [.out, .host])
    ⟨hb.mono (by rfl), mbAnswer_within mb op code pl |>.mono (by rfl)⟩ (inside_refl _) ⟨?_, hpost⟩
  show (b.run s.mach).out ++ _ = _
  rw [hb.out s.mach (by rfl)]

/-! ### Mailboxes and logs of the owners -/

theorem mbox_set_self (o : Nat) (f : MboxSt → MboxSt) (m : Mach) : ((Act.mbox o f).run m).mbox o = f (m.mbox o) :=
  SMap.find?_set_self ..

theorem mbox_set_other {o p : Nat} (h : p ≠ o) (f : MboxSt → MboxSt) (m : Mach) : ((Act.mbox o f).run m).mbox p = m.mbox p :=
  congrArg (fun x => Option.getD x ({} : MboxSt)) (SMap.find?_set_ne _ _ _ _ _ h)

/-- A command that changes its owner's mailbox and then answers. -/
theorem completes_mbox {c : Instr} {s : State} {a : Act} {mb : Mbox} {op code : Nat} {pl : List Nat} {f : MboxSt → MboxSt}
    (e : exec c s = s.act a) (h : a.run s.mach = (Act.seq (.mbox (mbOwner mb) f) (mbAnswer mb op code pl)).run s.mach) :
    Completes c s [] [.out, .host] fun t => Mach.Answered mb op code pl s.mach t ∧
      t.mbox (mbOwner mb) = f (s.mach.mbox (mbOwner mb)) ∧ (∀ o, o ≠ mbOwner mb → t.mbox o = s.mach.mbox o) ∧
      t.host.logs = s.mach.host.logs :=
  completes_hostAnswer e h ((Act.mbox_within _ _).mono (by rfl))
    ⟨mbox_set_self (mbOwner mb) f s.mach, fun _ ho => mbox_set_other ho f s.mach, rfl⟩

theorem evCode_lt (l : EvLog) : evCode l < 8 := by cases l <;> decide

theorem evCode_inj {l k : EvLog} (h : evCode l = evCode k) : l = k := by
  revert h
  cases l <;> cases k <;> decide

theorem logKey_inj {o p : Nat} {l k : EvLog} (h : logKey o l = logKey p k) : o = p ∧ l = k := by
  have hl := evCode_lt l
  have hk := evCode_lt k
  rw [logKey, logKey] at h
  exact ⟨by omega, evCode_inj (by omega)⟩

theorem evLog_set_self (o : Nat) (l : EvLog) (f : EvLogSt → EvLogSt) (m : Mach) :
    ((Act.evLog o l f).run m).evLog o l = f (m.evLog o l) :=
  SMap.find?_set_self ..

theorem evLog_set_other {o p : Nat} {l k : EvLog} (h : p ≠ o ∨ k ≠ l) (f : EvLogSt → EvLogSt) (m : Mach) :
    ((Act.evLog o l f).run m).evLog p k = m.evLog p k := by
  refine congrArg (fun x => Option.getD x ({} : EvLogSt)) (SMap.find?_set_ne _ _ _ _ _ fun e => ?_)
  obtain ⟨ho, hl⟩ := logKey_inj e
  exact h.elim (· ho) (· hl)

/-- Forget the records of a log but those that stay: the overflow ends when space is freed. -/
def keepRecs (rest : List EvRec) (e : EvLogSt) : EvLogSt := if rest.length < e.recs.length then { recs := rest } else e

theorem keepRecs_recs {rest : List EvRec} {e : EvLogSt} (h : rest.Sublist e.recs) : (keepRecs rest e).recs = rest := by
  rw [keepRecs]
  split
  · rfl
  · next hn => exact (h.eq_of_length_le (by omega)).symm

/-- Clearing a log that the mailbox keeps, once every handle given has a record. -/
theorem completes_clear {s : State} {mb : Mbox} {l : EvLog} {all_ : Bool} {hs : List Nat} {rest : List EvRec}
    (hserve : s.mach.mbServes mb 0x0101) (hlog : hasLog mb l = true)
    (hrest : rest = if all_ then [] else (s.mach.evLog (mbOwner mb) l).recs.filter fun r => !hs.contains r.handle)
    (hall : all_ = false → ∀ h ∈ hs, ∃ r, r ∈ (s.mach.evLog (mbOwner mb) l).recs ∧ r.handle = h) :
    Completes (.clearEventRecords mb l all_ hs) s [] [.out, .host] fun t =>
      Mach.Answered mb 0x0101 rcSuccess [] s.mach t ∧
      (t.evLog (mbOwner mb) l).recs = rest ∧ ∀ o l', (o ≠ mbOwner mb ∨ l' ≠ l) → t.evLog o l' = s.mach.evLog o l' := by
  have hsub : rest.Sublist (s.mach.evLog (mbOwner mb) l).recs := by
    rw [hrest]
    split
    · exact List.nil_sublist _
    · exact List.filter_sublist
  have hhave : (!all_ && !hs.all fun h => (s.mach.evLog (mbOwner mb) l).recs.any fun r => r.handle == h) = false := by
    cases all_ with
    | true => rfl
    | false =>
      have : (hs.all fun h => (s.mach.evLog (mbOwner mb) l).recs.any fun r => r.handle == h) = true :=
        List.all_eq_true.2 fun h hh => by
          obtain ⟨r, hr, e⟩ := hall rfl h hh
          exact List.any_eq_true.2 ⟨r, hr, by simp [e]⟩
      simp [this]
  have hrun : (clearEvents mb l all_ hs).run s.mach = (Act.seq (.evLog (mbOwner mb) l fun x =>
      if rest.length < (s.mach.evLog (mbOwner mb) l).recs.length then { recs := rest } else x) (mbAnswer mb 0x0101 rcSuccess [])).run s.mach := by
    rw [clearEvents, mbCmd_run hserve, Act.run_read]
    dsimp only
    rw [if_neg (by simp [hlog]), if_neg (by simp [hhave]), hrest]
  refine completes_hostAnswer rfl hrun ((Act.evLog_within _ _ _).mono (by rfl)) ⟨?_, fun o l' h => ?_⟩
  · exact (congrArg EvLogSt.recs (evLog_set_self ..)).trans (keepRecs_recs hsub)
  · exact evLog_set_other h _ _

/-! ### The Command Effects Log -/

/-- What the Command Effects Log says of the opcodes, whatever their effects are. -/
structure EffectsOf (ops : List Nat) (bs : List Byte) : Prop where
  length : bs.length = 4 * ops.length
  opcode : ∀ j < ops.length, (bs.drop (4 * j)).take 2 = Bits.leBytes 2 (ops.getD j 0)

theorem EffectsOf.nil : EffectsOf [] [] := ⟨rfl, by simp⟩

theorem EffectsOf.cons {os : List Nat} {bs : List Byte} (h : EffectsOf os bs) (o v : Nat) :
    EffectsOf (o :: os) (Bits.leBytes 2 o ++ Bits.leBytes 2 v ++ bs) where
  length := by simp [Bits.leBytes, h.length]; omega
  opcode
    | 0, _ => by simp [Bits.leBytes]
    | j + 1, hj => by
      have := h.opcode j (by simpa using hj)
      simpa [Bits.leBytes, Nat.mul_add] using this

theorem celBytes_run (ops : List Nat) (k : List Byte → Act) (m : Mach) :
    ∃ bs n, EffectsOf ops bs ∧ n.out = m.out ∧ (celBytes ops k).run m = (k bs).run n := by
  induction ops generalizing k m with
  | nil => exact ⟨[], m, .nil, rfl, rfl⟩
  | cons o os ih =>
    rw [celBytes, free_run]
    obtain ⟨bs, n, hbs, hn, hrun⟩ := ih (fun rest => k (Bits.leBytes 2 o ++
      Bits.leBytes 2 ((Config.freeValue m.freeCtr).toNat % 2 ^ 16) ++ rest)) (Prim.draw.apply m)
    exact ⟨_, n, hbs.cons .., hn.trans rfl, hrun⟩

theorem mbOps_lt (mb : Mbox) : ∀ o ∈ mbOps mb, o < 2 ^ 16 := by
  cases mb <;> simp [mbOps, mbOps.fmOps, opsBoth]

theorem leBytes_two {o : Nat} (h : o < 2 ^ 16) : (Bits.leBytes 2 o).map BitVec.toNat = [o % 256, o / 256] := by
  simp [Bits.leBytes]
  omega

/-- The opcode that an entry of the Command Effects Log begins with. -/
theorem EffectsOf.part {mb : Mbox} {bs : List Byte} (h : EffectsOf (mbOps mb) bs) {off len j : Nat} (hlen : off + len ≤ 4 * (mbOps mb).length)
    (hoff : off = 4 * j) (h2 : 2 ≤ len) :
    (((bs.drop off).take len).map BitVec.toNat).take 2 = [(mbOps mb).getD j 0 % 256, (mbOps mb).getD j 0 / 256] := by
  have hj : j < (mbOps mb).length := by omega
  rw [← List.map_take, List.take_take, Nat.min_eq_left h2, hoff, h.opcode j hj]
  refine leBytes_two (mbOps_lt mb _ ?_)
  rw [List.getD_eq_getElem _ _ hj]
  exact List.getElem_mem hj

/-- A log of effects is neither the Lighthouse log nor one that the mailbox does not keep. -/
theorem getLog_run_effects {m : Mach} {mb : Mbox} {l : LogId} {off len : Nat} (h : m.mbServes mb 0x0401) (hlh : l ≠ .lighthouse)
    (hother : l ≠ .other) (hoff : off + len ≤ 4 * (mbOps mb).length) (hlen : len ≤ 2 ^ 20) :
    (getLog mb l off len).run m =
      (celBytes (mbOps mb) fun bs => mbAnswer mb 0x0401 rcSuccess (((bs.drop off).take len).map (·.toNat))).run m := by
  rw [getLog, mbCmd_run h, Act.run_read]
  dsimp only
  rw [if_neg (by omega)]
  cases l with
  | cel => exact congrArg (Act.run · m) (if_neg (by omega))
  | effects => exact congrArg (Act.run · m) (if_neg (by omega))
  | lighthouse => exact absurd rfl hlh
  | other => exact absurd rfl hother

theorem completes_effects {s : State} {mb : Mbox} {l : LogId} {off len : Nat} (h : s.mach.mbServes mb 0x0401) (hlh : l ≠ .lighthouse)
    (hother : l ≠ .other) (hoff : off + len ≤ 4 * (mbOps mb).length) (hlen : len ≤ 2 ^ 20) :
    Completes (.getLog mb l off len) s [] [.out, .freeCtr] fun t =>
      ∃ pl, pl.length = len ∧ Mach.Answered mb 0x0401 rcSuccess pl s.mach t ∧
        ∀ j, off = 4 * j → 2 ≤ len → pl.take 2 = [(mbOps mb).getD j 0 % 256, (mbOps mb).getD j 0 / 256] := by
  refine completes_as rfl (getLog_run_effects h hlh hother hoff hlen) (K := places [] [.out, .freeCtr])
    (celBytes_within _ _ (fun _ => mbAnswer_within .. |>.mono (by rfl)) (by rfl)) (inside_refl _) ?_
  obtain ⟨bs, n, hbs, hn, hrun⟩ := celBytes_run (mbOps mb)
    (fun bs => mbAnswer mb 0x0401 rcSuccess (((bs.drop off).take len).map (·.toNat))) s.mach
  refine ⟨((bs.drop off).take len).map (·.toNat), ?_, ?_, fun j hj h2 => hbs.part hoff hj h2⟩
  · simp only [List.length_map, List.length_take, List.length_drop, hbs.length]
    omega
  · rw [hrun, Mach.Answered, mbAnswer_run, hn]

/-! ### The Lighthouse log -/

theorem getLog_run_lighthouse {m : Mach} {off len : Nat} (h : m.mbServes .mgmt 0x0401) :
    (getLog .mgmt .lighthouse off len).run m = (if off % 64 ≠ 0 ∨ len % 64 ≠ 0 ∨ 2 ^ 20 < len then mbAnswer .mgmt 0x0401 rcInvalidInput []
      else mbAnswer .mgmt 0x0401 rcSuccess ((m.lhBytes off len).map (·.toNat))).run m := by
  rw [getLog, mbCmd_run h, Act.run_read]
  dsimp only
  rw [if_neg (show ¬ Mbox.mgmt ≠ .mgmt from fun h => h rfl)]
  by_cases hlong : 2 ^ 20 < len
  · rw [if_pos hlong, if_pos (.inr (.inr hlong))]
  · rw [if_neg hlong]
    by_cases hround : off % 64 ≠ 0 ∨ len % 64 ≠ 0
    · rw [if_pos hround, if_pos (by omega)]
    · rw [if_neg hround, if_neg (by omega)]

theorem getLog_run_lighthouse_other {m : Mach} {mb : Mbox} {off len : Nat} (h : m.mbServes mb 0x0401) (hmb : mb ≠ .mgmt) (hlen : len ≤ 2 ^ 20) :
    (getLog mb .lighthouse off len).run m = (mbAnswer mb 0x0401 rcInvalidLog []).run m := by
  rw [getLog, mbCmd_run h, Act.run_read]
  dsimp only
  rw [if_neg (by omega), if_pos hmb]

/-! ### Event records, policies and features that a mailbox refuses or takes -/

theorem getEvents_run {m : Mach} {mb : Mbox} {l : EvLog} (h : m.mbServes mb 0x0100) :
    (getEvents mb l).run m = (if hasLog mb l then mbAnswer mb 0x0100 rcSuccess ([Bits.ofBool (m.evLog (mbOwner mb) l).overflow,
      (m.evLog (mbOwner mb) l).lost, (m.evLog (mbOwner mb) l).firstLost, (m.evLog (mbOwner mb) l).lastLost,
      (m.evLog (mbOwner mb) l).recs.length] ++ (m.evLog (mbOwner mb) l).recs.flatMap fun r =>
        [r.handle, r.time, r.kind.code, r.fields.length] ++ r.fields)
      else mbAnswer mb 0x0100 rcInvalidInput []).run m := by
  rw [getEvents, mbCmd_run h, Act.run_read]

theorem clearEvents_run_noLog {m : Mach} {mb : Mbox} {l : EvLog} (h : m.mbServes mb 0x0101) (hlog : hasLog mb l = false) (a : Bool)
    (hs : List Nat) : (clearEvents mb l a hs).run m = (mbAnswer mb 0x0101 rcInvalidInput []).run m := by
  rw [clearEvents, mbCmd_run h, Act.run_read]
  dsimp only
  rw [if_pos (by simp [hlog])]

theorem clearEvents_run_badHandle {m : Mach} {mb : Mbox} {l : EvLog} {hs : List Nat} {h : Nat} (hserve : m.mbServes mb 0x0101)
    (hlog : hasLog mb l = true) (hh : h ∈ hs) (hno : ∀ r ∈ (m.evLog (mbOwner mb) l).recs, r.handle ≠ h) :
    (clearEvents mb l false hs).run m = (mbAnswer mb 0x0101 rcInvalidHandle []).run m := by
  have hall : (hs.all fun h => (m.evLog (mbOwner mb) l).recs.any fun r => r.handle == h) = false :=
    List.all_eq_false.2 ⟨h, hh, by simpa using hno⟩
  rw [clearEvents, mbCmd_run hserve, Act.run_read]
  dsimp only
  rw [if_neg (by simp [hlog]), if_pos (by simp [hall])]

/-- A policy is more than a mailbox takes: too many words, or an interrupt other than MSI-X or none. -/
theorem policyBad_iff (pol : List Nat) : (decide (5 < pol.length) || pol.any fun p => decide (1 < p % 4)) = true ↔
    5 < pol.length ∨ ∃ p, p ∈ pol ∧ 1 < p % 4 := by
  simp

theorem setPolicy_run {m : Mach} {mb : Mbox} {pol : List Nat} (h : m.mbServes mb 0x0103) (hlen : pol.length ≤ 5)
    (hmode : ∀ p ∈ pol, p % 4 ≤ 1) : (setPolicy mb pol).run m =
      (Act.seq (.mbox (mbOwner mb) fun b => { b with policy := pol.map (· % 256) }) (mbAnswer mb 0x0103 rcSuccess [])).run m := by
  have hgood : ¬ (decide (5 < pol.length) || pol.any fun p => decide (1 < p % 4)) = true := by
    rw [policyBad_iff]
    rintro (hl | ⟨p, hp, hm⟩)
    · omega
    · exact absurd (hmode p hp) (by omega)
  rw [setPolicy, mbCmd_run h, if_neg hgood]

theorem setTimestamp_run {m : Mach} {mb : Mbox} (h : m.mbServes mb 0x0301) (t : Nat) : (setTimestamp mb t).run m =
    (Act.seq (.mbox (mbOwner mb) fun b => { b with tsSet := t % 2 ^ 64, tsAt := m.now }) (mbAnswer mb 0x0301 rcSuccess [])).run m := by
  rw [setTimestamp, mbCmd_run h, Act.run_read]

theorem setFeature_run_mgmt {m : Mach} {k : Nat} (h : m.mbServes .mgmt 0x0502) (hk : Config.features.contains k = true) (v : Nat) :
    (setFeature .mgmt k v).run m = (Act.seq (.prim (.host fun h => { h with features := h.features.put k v }))
      (mbAnswer .mgmt 0x0502 rcSuccess [])).run m := by
  exact (mbCmd_run h _).trans (congrArg (Act.run · m) (if_pos hk))

theorem feature_put_self (k v : Nat) (m : Mach) :
    ((Prim.host fun h => { h with features := h.features.put k v }).apply m).feature k = v :=
  congrArg (Option.getD · _) (SMap.find?_put_self ..)

theorem feature_put_other {k j : Nat} (h : j ≠ k) (v : Nat) (m : Mach) :
    ((Prim.host fun h => { h with features := h.features.put k v }).apply m).feature j = m.feature j :=
  congrArg (Option.getD · _) (SMap.find?_put_ne _ _ _ _ h)

/-- Settles O18: each program comes to the answer its command gives, after the one change that it makes, if any. -/
theorem mailboxGeneral : Obligations.MailboxGeneral := by
  unfold Obligations.MailboxGeneral
  refine ⟨?_, ?_, ?_, ?_, ?_, ?_, ?_, ?_, ?_, ?_, ?_, ?_, ?_, ?_, ?_, ?_, ?_, ?_, ?_, ?_, ?_, ?_, ?_, ?_, ?_, ?_, ?_⟩
  case refine_1 => exact fun s mb h => completes_answer rfl (mbCmd_run h _)
  case refine_2 =>
    rintro s mb _ h rfl
    exact completes_answer rfl (mbCmd_run h _)
  case refine_3 => exact fun s mb h => completes_answer rfl (mbCmd_run h _)
  case refine_4 => exact fun s mb h => completes_answer rfl (mbCmd_run h _)
  case refine_5 =>
    exact fun s mb t h => completes_mbox rfl (setTimestamp_run h t)
  case refine_6 =>
    rintro s mb l _ h hlog rfl
    exact completes_answer rfl ((getEvents_run h).trans (by rw [if_pos hlog]))
  case refine_7 => exact fun s mb l h hlog => completes_answer rfl ((getEvents_run h).trans (by rw [if_neg (by simp [hlog])]))
  case refine_8 => exact fun s mb l hs h hlog => completes_clear h hlog rfl nofun
  case refine_9 => exact fun s mb l hs h hlog hall => completes_clear h hlog rfl fun _ => hall
  case refine_10 => exact fun s mb l hs k h hlog hk hno => completes_answer rfl (clearEvents_run_badHandle h hlog hk hno)
  case refine_11 => exact fun s mb l a hs h hlog => completes_answer rfl (clearEvents_run_noLog h hlog a hs)
  case refine_12 => exact fun s mb h => completes_answer rfl (mbCmd_run h _)
  case refine_13 =>
    exact fun s mb pol h hlen hmode => (completes_mbox rfl (setPolicy_run h hlen hmode)).imp fun t ⟨hans, hself, hother, _⟩ =>
      ⟨hans, hself, hother⟩
  case refine_14 =>
    exact fun s mb pol h hbad => completes_answer rfl ((mbCmd_run h _).trans (by rw [if_pos ((policyBad_iff pol).2 hbad)]))
  case refine_15 => exact fun s mb h => completes_answer rfl (mbCmd_run h _)
  case refine_16 =>
    exact fun s off len h hoff hlen hlong => completes_answer rfl ((getLog_run_lighthouse h).trans (by rw [if_neg (by omega)]))
  case refine_17 => exact fun s off len h hbad => completes_answer rfl ((getLog_run_lighthouse h).trans (by rw [if_pos hbad]))
  case refine_18 => exact fun s mb off len h hmb hlen => completes_answer rfl (getLog_run_lighthouse_other h hmb hlen)
  case refine_19 => exact fun s mb l off len h hlh hother hoff hlen => completes_effects h hlh hother hoff hlen
  case refine_20 => exact fun s mb h => completes_answer rfl (mbCmd_run h _)
  case refine_21 => exact fun s mb k h hk => completes_answer rfl ((mbCmd_run h _).trans (by rw [Act.run_read, if_pos hk]))
  case refine_22 => exact fun s mb k h hk => completes_answer rfl ((mbCmd_run h _).trans (by rw [Act.run_read, if_neg (by rw [hk]; decide)]))
  case refine_23 =>
    exact fun s k v h hk => completes_hostAnswer rfl (setFeature_run_mgmt h hk v) (within_host (by rfl))
      ⟨feature_put_self k v s.mach, fun j hj => feature_put_other hj v s.mach⟩
  case refine_24 => exact fun s n k v h => completes_answer rfl (mbCmd_run h _)
  case refine_25 =>
    intro s mb op hready hop
    refine completes_answer (a := unsupportedOp mb op) rfl ?_
    rw [unsupportedOp, Act.run_read, Act.run_when, if_pos (by rw [hready, hop]; rfl)]
  case refine_26 => exact fun s h => completes_answer rfl (mbCmd_run_unserved h (by decide) _)
  case refine_27 =>
    exact fun s mb h => completes_as rfl (mbCmd_run_unready h ..) (b := .skip) (within_skip (K := 0)) (by rfl) rfl

end Sys2Proof.Machine
end

section
/-!
PROOF. O19, firmware and the configuration package (R438 to R441).
-/

namespace Sys2Proof.Machine

/-! ### Firmware commands -/

/-- While the firmware runs, the management mailbox runs a firmware command's program. -/
theorem fwCmd_run {m : Mach} {mb : Mbox} {op : Nat} (h : m.mbServes mb op) (hfw : m.fw.loader = false) (a : Act) :
    (fwCmd mb op a).run m = a.run m := by
  rw [fwCmd, Act.run_read, if_neg (by rw [hfw]; decide), mbCmd_run h]

/-- In the loader, a management mailbox that is ready runs it too. -/
theorem fwCmd_run_loader {m : Mach} (h : m.mbReady .mgmt = true) (hfw : m.fw.loader = true) (op : Nat) (a : Act) :
    (fwCmd .mgmt op a).run m = a.run m := by
  rw [Mach.mbReady, Bool.and_eq_true] at h
  rw [fwCmd, Act.run_read, if_pos hfw]
  exact (Act.run_when ..).trans (if_pos h.1)

theorem flag_eq_false {m : Mach} {f : Fld} {i : Nat} (h : m.get f i ≠ 1) : m.flag f i = false := by
  rw [Mach.flag]
  exact beq_eq_false_iff_ne.2 h

theorem flag_eq_true {m : Mach} {f : Fld} {i : Nat} (h : m.get f i = 1) : m.flag f i = true := by
  rw [Mach.flag, h]
  rfl

theorem slotOpen_image {m : Mach} {k : Nat} (h : k = 1 ∨ k = 2) : m.slotOpen k = true := by
  rcases h with rfl | rfl <;> simp [Mach.slotOpen]

theorem slotOpen_package (m : Mach) : m.slotOpen 3 = !m.flag .SETUP_LOCK := by simp [Mach.slotOpen]

theorem slotOpen_none {m : Mach} {k : Nat} (h : k = 0 ∨ 3 < k) : m.slotOpen k = false := by
  have h1 : k ≠ 1 := by omega
  have h2 : k ≠ 2 := by omega
  have h3 : k ≠ 3 := by omega
  simp [Mach.slotOpen, h1, h2, h3]

/-! ### Transfers -/

theorem transferFw_run_refused {m : Mach} {k : Nat} (h : m.mbServes .mgmt 0x0201) (hfw : m.fw.loader = false)
    (hk : m.slotOpen k = false ∨ k = m.fw.active) (i : FwImage) :
    (transferFw .mgmt k i).run m = (mbAnswer .mgmt 0x0201 rcInvalidSlot []).run m := by
  have hbad : (!m.slotOpen k || k == m.fw.active) = true := by
    rcases hk with hk | hk <;> simp [hk]
  rw [transferFw, fwCmd_run h hfw, Act.run_read, if_pos hbad]

/-- An image is put into a slot. -/
def putFwImage (k : Nat) (i : FwImage) : Act := .prim (.fw fun f => { f with slots := f.slots.put k { i with pkg := none } })

/-- A package is staged. -/
def stagePackage (i : FwImage) : Act := .prim (.fw fun f => { f with staged := some i })

theorem fwSlot_putFwImage_self (k : Nat) (i : FwImage) (m : Mach) : ((putFwImage k i).run m).fwSlot k = { i with pkg := none } :=
  congrArg (Option.getD · _) (SMap.find?_put_self ..)

theorem fwSlot_putFwImage_other {k j : Nat} (h : j ≠ k) (i : FwImage) (m : Mach) : ((putFwImage k i).run m).fwSlot j = m.fwSlot j :=
  congrArg (Option.getD · _) (SMap.find?_put_ne _ _ _ _ h)

theorem transferFw_run_image {m : Mach} {k : Nat} (h : m.mbServes .mgmt 0x0201) (hfw : m.fw.loader = false) (hk : k = 1 ∨ k = 2)
    (ha : k ≠ m.fw.active) (i : FwImage) :
    (transferFw .mgmt k i).run m = (Act.seq (putFwImage k i) (mbAnswer .mgmt 0x0201 rcSuccess [])).run m := by
  rw [transferFw, fwCmd_run h hfw, Act.run_read, if_neg (by simp [slotOpen_image hk, ha]), if_neg (by omega), putFwImage]

theorem transferFw_run_package {m : Mach} {i : FwImage} {p : ConfigPkg} (h : m.mbServes .mgmt 0x0201) (hfw : m.fw.loader = false)
    (hlock : m.get .SETUP_LOCK ≠ 1) (ha : m.fw.active ≠ 3) (hp : i.pkg = some p) (hbytes : p.bytes ≤ 65536) :
    (transferFw .mgmt 3 i).run m = (Act.seq (stagePackage i) (mbAnswer .mgmt 0x0201 rcSuccess [])).run m := by
  have hopen : (!m.slotOpen 3 || 3 == m.fw.active) = false := by
    simp [slotOpen_package, flag_eq_false hlock, Ne.symm ha]
  rw [transferFw, fwCmd_run h hfw, Act.run_read, if_neg (by rw [hopen]; decide), if_pos rfl, if_pos (by simp [hp, hbytes]), stagePackage]

/-- A command that changes the firmware's state and then answers. -/
theorem completes_fwAnswer {c : Instr} {s : State} {a b : Act} {mb : Mbox} {op code : Nat} {pl : List Nat} {post : Mach → Prop}
    (e : exec c s = s.act a) (h : a.run s.mach = (Act.seq b (mbAnswer mb op code pl)).run s.mach)
    (hb : b.Within (places [] [.fw])) (hpost : post ((Act.seq b (mbAnswer mb op code pl)).run s.mach)) :
    Completes c s [] [.out, .fw] fun t => Mach.Answered mb op code pl s.mach t ∧ post t := by
  refine completes_as e h (K := places [] [.out, .fw])
    ⟨hb.mono (by rfl), mbAnswer_within mb op code pl |>.mono (by rfl)⟩ (inside_refl _) ⟨?_, hpost⟩
  show (b.run s.mach).out ++ _ = _
  rw [hb.out s.mach (by rfl)]

theorem putFwImage_within (k : Nat) (i : FwImage) : (putFwImage k i).Within (places [] [.fw]) := within_fw (by rfl)

theorem stagePackage_within (i : FwImage) : (stagePackage i).Within (places [] [.fw]) := within_fw (by rfl)

/-! ### Activations -/

/-- An activation that is online and not held back comes to its slot's. -/
theorem activateFw_run {m : Mach} {k : Nat} {ok : Bool} (h : ∀ a, (fwCmd .mgmt 0x0202 a).run m = a.run m)
    (hbusy : m.activateBusy = false) (hopen : m.slotOpen k = true) :
    (activateFw .mgmt k true ok).run m = (if k = 3 then activateCfg .mgmt else activateImage .mgmt k ok).run m := by
  rw [activateFw, h, Act.run_read, if_neg (by decide), if_neg (by rw [hbusy]; decide), if_neg (by rw [hopen]; decide)]

theorem activateFw_run_image {m : Mach} {k : Nat} {ok : Bool} (h : ∀ a, (fwCmd .mgmt 0x0202 a).run m = a.run m)
    (hbusy : m.activateBusy = false) (hk : k = 1 ∨ k = 2) :
    (activateFw .mgmt k true ok).run m = (activateImage .mgmt k ok).run m := by
  rw [activateFw_run h hbusy (slotOpen_image hk), if_neg (by omega)]

theorem activateFw_run_package {m : Mach} {ok : Bool} (h : ∀ a, (fwCmd .mgmt 0x0202 a).run m = a.run m)
    (hbusy : m.activateBusy = false) (hlock : m.get .SETUP_LOCK ≠ 1) :
    (activateFw .mgmt 3 true ok).run m = (activateCfg .mgmt).run m := by
  rw [activateFw_run h hbusy (by rw [slotOpen_package, flag_eq_false hlock]; rfl), if_pos rfl]

theorem activateFw_run_closed {m : Mach} {k : Nat} {ok : Bool} (h : ∀ a, (fwCmd .mgmt 0x0202 a).run m = a.run m)
    (hbusy : m.activateBusy = false) (hopen : m.slotOpen k = false) :
    (activateFw .mgmt k true ok).run m = (mbAnswer .mgmt 0x0202 rcInvalidSlot []).run m := by
  rw [activateFw, h, Act.run_read, if_neg (by decide), if_neg (by rw [hbusy]; decide), if_pos (by rw [hopen]; rfl)]

theorem activateImage_run_bad {m : Mach} {k : Nat} {ok : Bool} (h : m.fwAccepts (m.fwSlot k) = false) :
    (activateImage .mgmt k ok).run m = (mbAnswer .mgmt 0x0202 rcFwVerify []).run m := by
  rw [activateImage, Act.run_read]
  dsimp only
  rw [if_pos (by rw [h]; rfl)]

theorem activateImage_run_failed {m : Mach} {k : Nat} (h : m.fwAccepts (m.fwSlot k) = true) :
    (activateImage .mgmt k false).run m = (mbAnswer .mgmt 0x0202 rcFwRolledBack []).run m := by
  rw [activateImage, Act.run_read]
  dsimp only
  rw [if_neg (by rw [h]; decide), if_pos (by rfl)]

/-- The image of a slot runs, and a start of it counts as no fallback. -/
def runImage (k : Nat) : Act :=
  .seq (.prim (.fw fun f => { f with active := k, selector := k - 1, loader := false })) (.set .ID_BOOT_FALLBACK 0 0)

/-- A start that waited in the loader goes on from step 4. -/
def leaveLoader (k : Nat) : Act := .all [.set .ID_BOOT_ERR 0 0, .set .ID_BOOT_SLOT 0 (k - 1), .set .ID_BOOT_STEP 0 4]

theorem activateImage_run {m : Mach} {k : Nat} (h : m.fwAccepts (m.fwSlot k) = true) :
    (activateImage .mgmt k true).run m = (Act.all [runImage k, .when m.fw.loader (leaveLoader k), mbAnswer .mgmt 0x0202 rcSuccess []]).run m := by
  rw [activateImage, Act.run_read]
  dsimp only
  rw [if_neg (by rw [h]; decide), if_neg (by decide)]
  rfl

theorem runImage_within (k : Nat) : (runImage k).Within (places [.ID_BOOT_FALLBACK] [.fw]) :=
  ⟨within_fw (by rfl), within_set (by rfl)⟩

theorem leaveLoader_within (k : Nat) : (leaveLoader k).Within (places [.ID_BOOT_ERR, .ID_BOOT_SLOT, .ID_BOOT_STEP] []) :=
  ⟨within_set (by rfl), within_set (by rfl), within_set (by rfl)⟩

theorem leaveLoader_get {k : Nat} (hk : k = 1 ∨ k = 2) (m : Mach) : ((leaveLoader k).run m).get .ID_BOOT_ERR = 0 ∧
    ((leaveLoader k).run m).get .ID_BOOT_SLOT = k - 1 ∧ ((leaveLoader k).run m).get .ID_BOOT_STEP = 4 := by
  simp only [leaveLoader, Act.run_all_cons, Act.run_all_one]
  refine ⟨?_, ?_, Mach.get_set _ _ _ _ (by decide)⟩
  · rw [Mach.get_set_other (by decide), Mach.get_set_other (by decide), Mach.get_set _ _ _ _ (by decide)]
  · rw [Mach.get_set_other (by decide), Mach.get_set _ _ _ _ (by rcases hk with rfl | rfl <;> decide)]

/-- An image that the ROM accepts runs, from the firmware. -/
theorem completes_activate {s : State} {k : Nat} (h : s.mach.mbServes .mgmt 0x0202) (hfw : s.mach.fw.loader = false)
    (hbusy : s.mach.activateBusy = false) (hk : k = 1 ∨ k = 2) (hgood : s.mach.fwAccepts (s.mach.fwSlot k) = true) :
    Completes (.activateFw .mgmt k true true) s [.ID_BOOT_FALLBACK] [.out, .fw] fun t =>
      Mach.Answered .mgmt 0x0202 rcSuccess [] s.mach t ∧
      t.fw = { s.mach.fw with active := k, selector := k - 1, loader := false } ∧ t.get .ID_BOOT_FALLBACK = 0 := by
  have hrun : (activateFw .mgmt k true true).run s.mach = (Act.seq (runImage k) (mbAnswer .mgmt 0x0202 rcSuccess [])).run s.mach := by
    rw [activateFw_run_image (fwCmd_run h hfw) hbusy hk, activateImage_run hgood, hfw]
    rfl
  exact completes_as rfl hrun (K := places [.ID_BOOT_FALLBACK] [.out, .fw])
    ⟨(runImage_within k).mono (by rfl), (mbAnswer_within ..).mono (by rfl)⟩ (inside_refl _)
    ⟨rfl, rfl, Mach.get_set .ID_BOOT_FALLBACK 0 0 ((Prim.fw fun f => { f with active := k, selector := k - 1, loader := false }).apply s.mach)
      (by decide)⟩

/-- An image that the ROM accepts runs, from the loader. -/
theorem completes_activate_loader {s : State} {k : Nat} (hfw : s.mach.fw.loader = true) (hready : s.mach.mbReady .mgmt = true)
    (hbusy : s.mach.activateBusy = false) (hk : k = 1 ∨ k = 2) (hgood : s.mach.fwAccepts (s.mach.fwSlot k) = true) :
    Completes (.activateFw .mgmt k true true) s [.ID_BOOT_FALLBACK, .ID_BOOT_ERR, .ID_BOOT_SLOT, .ID_BOOT_STEP] [.out, .fw] fun t =>
      Mach.Answered .mgmt 0x0202 rcSuccess [] s.mach t ∧ t.get .ID_BOOT_ERR = 0 ∧ t.get .ID_BOOT_SLOT = k - 1 ∧
      t.get .ID_BOOT_STEP = 4 ∧ t.fw.active = k ∧ t.fw.loader = false := by
  have hrun : (activateFw .mgmt k true true).run s.mach =
      (Act.all [runImage k, leaveLoader k, mbAnswer .mgmt 0x0202 rcSuccess []]).run s.mach := by
    rw [activateFw_run_image (fwCmd_run_loader hready hfw 0x0202) hbusy hk, activateImage_run hgood, hfw]
    rfl
  obtain ⟨herr, hslot, hstep⟩ := leaveLoader_get hk ((runImage k).run s.mach)
  exact completes_as rfl hrun (K := places [.ID_BOOT_FALLBACK, .ID_BOOT_ERR, .ID_BOOT_SLOT, .ID_BOOT_STEP] [.out, .fw])
    ⟨(runImage_within k).mono (by rfl), (leaveLoader_within k).mono (by rfl),
      (mbAnswer_within ..).mono (by rfl)⟩ (inside_refl _) ⟨rfl, herr, hslot, hstep, rfl, rfl⟩

/-! ### The role table -/

/-- The writes of one entry of the role table. -/
def roleEntry (r : Nat × Nat) (k : Nat) : Act :=
  .all [.set .ID_ROLE_DIGEST (2 * k) (r.1 % 2 ^ 64), .set .ID_ROLE_DIGEST (2 * k + 1) (r.1 / 2 ^ 64 % 2 ^ 64),
    .set .ID_ROLE_BITS k (r.2 % 8)]

/-- An entry of the role table holds what the roles say. -/
def RoleIn (roles : List (Nat × Nat)) (k : Nat) (m : Mach) : Prop :=
  m.get .ID_ROLE_BITS k = (roles.getD k (0, 0)).2 % 8 ∧
  m.get .ID_ROLE_DIGEST (2 * k) = (roles.getD k (0, 0)).1 % 2 ^ 64 ∧
  m.get .ID_ROLE_DIGEST (2 * k + 1) = (roles.getD k (0, 0)).1 / 2 ^ 64 % 2 ^ 64

/-- An entry holds what it should after its own writes, and after those of another entry if it did before. -/
theorem roleEntry_roleIn {roles : List (Nat × Nat)} {k j : Nat} {m : Mach} (h : j = k ∨ RoleIn roles j m) :
    RoleIn roles j ((roleEntry (roles.getD k (0, 0)) k).run m) := by
  have hbits : Fld.ID_ROLE_BITS.spec.width = 3 := rfl
  have hdigest : Fld.ID_ROLE_DIGEST.spec.width = 64 := rfl
  by_cases hj : j = k
  · subst hj
    simp [RoleIn, roleEntry, Act.run_all_cons, Act.run_all_one, -Act.run_set, Mach.get_set_ite, hbits, hdigest]
  · obtain ⟨hb, hlow, hhigh⟩ := h.resolve_left hj
    have heven : 2 * j ≠ 2 * k := by omega
    have hodd : 2 * j + 1 ≠ 2 * k + 1 := by omega
    have heo : 2 * j ≠ 2 * k + 1 := by omega
    have hoe : 2 * j + 1 ≠ 2 * k := by omega
    simp only [RoleIn, roleEntry, Act.run_all_cons, Act.run_all_one, Mach.get_set_ite, hj, heven, hodd, heo, hoe, and_false, if_false]
    simp [hb, hlow, hhigh]

theorem each_roleIn {roles : List (Nat × Nat)} {j : Nat} {l : List Nat} {m : Mach} (h : j ∈ l ∨ RoleIn roles j m) :
    RoleIn roles j ((Act.each l fun k => roleEntry (roles.getD k (0, 0)) k).run m) := by
  induction l generalizing m with
  | nil => exact h.resolve_left List.not_mem_nil
  | cons k l ih =>
    rw [Act.run_each_cons]
    rcases h with h | h
    · rcases List.mem_cons.1 h with h | h
      · exact ih (.inr (roleEntry_roleIn (.inl h)))
      · exact ih (.inl h)
    · exact ih (.inr (roleEntry_roleIn (.inr h)))

theorem rolesNow_roleIn (roles : List (Nat × Nat)) {k : Nat} (hk : k < 8) (m : Mach) : RoleIn roles k ((rolesNow roles).run m) :=
  each_roleIn (.inl (List.mem_range.2 hk))

/-! ### The configuration package -/

/-- The package is kept for the next power-on reset. -/
def keepCfg (p : ConfigPkg) : Act := .prim (.fw fun f => { f with cfg := some p, selector := p.selector % 2 })

theorem activateCfg_run {m : Mach} {p : ConfigPkg} (h : m.fw.staged.bind (·.pkg) = some p) (hcrc : p.crcOk = true) :
    (activateCfg .mgmt).run m = (Act.all [keepCfg p, rolesNow p.roles, mbAnswer .mgmt 0x0202 rcSuccess []]).run m := by
  rw [activateCfg, Act.run_read, h]
  dsimp only
  rw [if_neg (by rw [hcrc]; decide), keepCfg]

theorem activateCfg_run_bad {m : Mach} {p : ConfigPkg} (h : m.fw.staged.bind (·.pkg) = some p) (hcrc : p.crcOk = false) :
    (activateCfg .mgmt).run m = (mbAnswer .mgmt 0x0202 rcFwVerify []).run m := by
  rw [activateCfg, Act.run_read, h]
  dsimp only
  rw [if_pos (by rw [hcrc]; rfl)]

theorem activateCfg_run_none {m : Mach} (h : m.fw.staged.bind (·.pkg) = none) :
    (activateCfg .mgmt).run m = (mbAnswer .mgmt 0x0202 rcInvalidSlot []).run m := by
  rw [activateCfg, Act.run_read, h]

theorem completes_activateCfg {s : State} {ok : Bool} {p : ConfigPkg} (h : s.mach.mbServes .mgmt 0x0202) (hfw : s.mach.fw.loader = false)
    (hbusy : s.mach.activateBusy = false) (hlock : s.mach.get .SETUP_LOCK ≠ 1) (hp : s.mach.fw.staged.bind (·.pkg) = some p)
    (hcrc : p.crcOk = true) :
    Completes (.activateFw .mgmt 3 true ok) s [.ID_ROLE_DIGEST, .ID_ROLE_BITS] [.out, .fw] fun t =>
      Mach.Answered .mgmt 0x0202 rcSuccess [] s.mach t ∧
      t.fw = { s.mach.fw with cfg := some p, selector := p.selector % 2 } ∧ ∀ k, k < 8 → RoleIn p.roles k t := by
  have hrun := (activateFw_run_package (ok := ok) (fwCmd_run h hfw) hbusy hlock).trans (activateCfg_run hp hcrc)
  have hroles : (rolesNow p.roles).Within (places [.ID_ROLE_DIGEST, .ID_ROLE_BITS] []) := (rolesNow_within _).mono (by rfl)
  refine completes_as rfl hrun (K := places [.ID_ROLE_DIGEST, .ID_ROLE_BITS] [.out, .fw])
    ⟨within_fw (by rfl), hroles.mono (by rfl), (mbAnswer_within ..).mono (by rfl)⟩ (inside_refl _)
    ⟨?_, ?_, fun k hk => rolesNow_roleIn p.roles hk ((keepCfg p).run s.mach)⟩
  · exact congrArg (· ++ _) (hroles.out ((keepCfg p).run s.mach) (by rfl))
  · exact hroles.fw ((keepCfg p).run s.mach) (by rfl)

/-- Settles O19: each command's program, by whether the slot is open, the image accepted, the self-check passed and the package right. -/
theorem firmwareCommands : Obligations.FirmwareCommands := by
  unfold Obligations.FirmwareCommands
  refine ⟨?_, ?_, ?_, ?_, ?_, ?_, ?_, ?_, ?_, ?_, ?_, ?_, ?_, ?_, ?_⟩
  case refine_1 => exact fun s h hfw => completes_answer rfl (fwCmd_run h hfw _)
  case refine_2 =>
    intro s k i h hfw hk ha
    have hother : 3 - k ≠ k := by omega
    exact completes_fwAnswer rfl (transferFw_run_image h hfw hk ha i) (putFwImage_within k i)
      ⟨fwSlot_putFwImage_self k i s.mach, fwSlot_putFwImage_other hother i s.mach, rfl, rfl, rfl, rfl⟩
  case refine_3 =>
    exact fun s i p h hfw hlock ha hp hb => completes_fwAnswer rfl (transferFw_run_package h hfw hlock ha hp hb) (stagePackage_within i) rfl
  case refine_4 =>
    exact fun s i h hfw hlock =>
      completes_answer rfl (transferFw_run_refused h hfw (.inl (by rw [slotOpen_package, flag_eq_true hlock]; rfl)) i)
  case refine_5 =>
    rintro s k i h hfw (hk | hk)
    · exact completes_answer rfl (transferFw_run_refused h hfw (.inr hk) i)
    · exact completes_answer rfl (transferFw_run_refused h hfw (.inl (slotOpen_none hk)) i)
  case refine_6 =>
    exact fun s k ok h hfw => completes_answer rfl ((fwCmd_run h hfw _).trans (by rw [Act.run_read, if_pos (by rfl)]))
  case refine_7 =>
    exact fun s k ok h hfw hbusy =>
      completes_answer rfl ((fwCmd_run h hfw _).trans (by rw [Act.run_read, if_neg (by decide), if_pos hbusy]))
  case refine_8 =>
    exact fun s k ok h hfw hbusy hk hbad =>
      completes_answer rfl ((activateFw_run_image (fwCmd_run h hfw) hbusy hk).trans (activateImage_run_bad hbad))
  case refine_9 =>
    exact fun s k h hfw hbusy hk hgood =>
      completes_answer rfl ((activateFw_run_image (fwCmd_run h hfw) hbusy hk).trans (activateImage_run_failed hgood))
  case refine_10 => exact fun s k h hfw hbusy hk hgood => completes_activate h hfw hbusy hk hgood
  case refine_11 => exact fun s ok p h hfw hbusy hlock hp hcrc => completes_activateCfg h hfw hbusy hlock hp hcrc
  case refine_12 =>
    exact fun s ok p h hfw hbusy hlock hp hcrc =>
      completes_answer rfl ((activateFw_run_package (fwCmd_run h hfw) hbusy hlock).trans (activateCfg_run_bad hp hcrc))
  case refine_13 =>
    intro s ok h hfw hbusy hnone
    by_cases hlock : s.mach.get .SETUP_LOCK = 1
    · exact completes_answer rfl (activateFw_run_closed (fwCmd_run h hfw) hbusy (by rw [slotOpen_package, flag_eq_true hlock]; rfl))
    · exact completes_answer rfl ((activateFw_run_package (fwCmd_run h hfw) hbusy hlock).trans
        (activateCfg_run_none (hnone.resolve_left hlock)))
  case refine_14 => exact fun s k hfw hready hbusy hk hgood => completes_activate_loader hfw hready hbusy hk hgood
  case refine_15 =>
    intro s n k i hfw hready
    refine completes_answer (a := transferFw (.ld n) k i) rfl ?_
    rw [transferFw, fwCmd, Act.run_read, if_neg (by rw [hfw]; decide), mbCmd_run_unserved hready (by rfl)]

end Sys2Proof.Machine
end

section
/-!
PROOF. O20 and O21, the memory commands of an LD mailbox and the FM API (R118, R122, R207, R208, R211, R214, R216, R217, R435).
-/

namespace Sys2Proof.Machine

/-! ### Memory commands -/

/-- An LD mailbox that serves runs a memory command's program once memory is active. -/
theorem ldCmd_run {m : Mach} {n op : Nat} (h : m.mbServes (.ld n) op) (hmem : m.get .ID_MEM_ACTIVE = 1) (f : Nat → Act) :
    (ldCmd (.ld n) op f).run m = (f n).run m := by
  rw [ldCmd, mbCmd_run h, Act.run_read]
  exact congrArg (Act.run · m) (if_neg (by simp [flag_eq_true hmem]))

/-- Before memory is active it is Busy. -/
theorem ldCmd_run_busy {m : Mach} {n op : Nat} (h : m.mbServes (.ld n) op) (hop : 0x4000 ≤ op) (hmem : m.get .ID_MEM_ACTIVE ≠ 1)
    (f : Nat → Act) : (ldCmd (.ld n) op f).run m = (mbAnswer (.ld n) op rcBusy []).run m := by
  rw [ldCmd, mbCmd_run h, Act.run_read]
  exact congrArg (Act.run · m) (if_pos (by simp [flag_eq_false hmem, hop]))

section Memory

variable {m : Mach} {n dpa : Nat} (hmem : m.get .ID_MEM_ACTIVE = 1)

include hmem

theorem poisonList_run (h : m.mbServes (.ld n) 0x4300) (len : Nat) :
    (poisonList (.ld n) dpa len).run m = (mbAnswer (.ld n) 0x4300 rcSuccess ([Bits.ofBool (!m.host.poisonFull.isEmpty),
      (m.host.poisonFull.map (·.2)).foldl min ((m.host.poisonFull.map (·.2)).headD 0)]
      ++ m.dpasIn n dpa len m.poisonedLines)).run m := by
  rw [poisonList, ldCmd_run h hmem, Act.run_read]
  dsimp only
  rw [List.isEmpty_map]

theorem injectPoison_run_disabled (h : m.mbServes (.ld n) 0x4301) (hen : m.get .HBR_INJECT_EN ≠ 1) :
    (injectPoison (.ld n) dpa).run m = (mbAnswer (.ld n) 0x4301 rcUnsupported []).run m := by
  rw [injectPoison, ldCmd_run h hmem, Act.run_read, if_pos (by rw [flag_eq_false hen]; rfl)]

theorem injectPoison_run_unmapped (h : m.mbServes (.ld n) 0x4301) (hen : m.get .HBR_INJECT_EN = 1) (hline : m.mbLine n dpa = none) :
    (injectPoison (.ld n) dpa).run m = (mbAnswer (.ld n) 0x4301 rcInvalidAddress []).run m := by
  rw [injectPoison, ldCmd_run h hmem, Act.run_read, if_neg (by rw [flag_eq_true hen]; decide), hline, Option.filter_none]

theorem injectPoison_run {x : Mapped} (h : m.mbServes (.ld n) 0x4301) (hen : m.get .HBR_INJECT_EN = 1)
    (hline : m.mbLine n dpa = some x) (hhome : m.visitHome x.atoll = none) :
    (injectPoison (.ld n) dpa).run m = (Act.seq (markLines x.atoll (x.gdpa / 4096) [x.gdpa / 64 % 64] .inject)
      (mbAnswer (.ld n) 0x4301 rcSuccess [])).run m := by
  rw [injectPoison, ldCmd_run h hmem, Act.run_read, if_neg (by rw [flag_eq_true hen]; decide), hline,
    Option.filter_some_pos (by rw [hhome]; rfl)]

theorem clearPoison_run_unmapped (h : m.mbServes (.ld n) 0x4302) (hline : m.mbLine n dpa = none) (data : Line) :
    (clearPoison (.ld n) dpa data).run m = (mbAnswer (.ld n) 0x4302 rcInvalidAddress []).run m := by
  rw [clearPoison, ldCmd_run h hmem, Act.run_read, hline]

theorem clearPoison_run {x : Mapped} (h : m.mbServes (.ld n) 0x4302) (hline : m.mbLine n dpa = some x)
    (hhome : m.visitHome x.atoll = none) (data : Line) :
    (clearPoison (.ld n) dpa data).run m = (Act.seq (request .self .wrLine (x.gdpa / 64) fun r => { r with data := some data })
      (mbAnswer (.ld n) 0x4302 rcSuccess [])).run m := by
  rw [clearPoison, ldCmd_run h hmem, Act.run_read, hline]
  dsimp only
  rw [if_pos (by rw [hhome]; rfl)]

theorem scanCaps_run_refused {len : Nat} (h : m.mbServes (.ld n) 0x4303) (hbad : m.mbLine n dpa = none ∨ len = 0) :
    (scanCaps (.ld n) dpa len).run m = (mbAnswer (.ld n) 0x4303 rcInvalidAddress []).run m := by
  rw [scanCaps, ldCmd_run h hmem, Act.run_read, if_pos (by simpa using hbad)]

theorem scanCaps_run {len : Nat} {x : Mapped} (h : m.mbServes (.ld n) 0x4303) (hline : m.mbLine n dpa = some x) (hlen : len ≠ 0) :
    (scanCaps (.ld n) dpa len).run m = (answerFree (.ld n) 0x4303 [] 32).run m := by
  rw [scanCaps, ldCmd_run h hmem, Act.run_read, if_neg (by simp [hline, hlen])]

end Memory

/-- An answer that holds a free value of some bits. -/
theorem completes_answerFree {c : Instr} {s : State} {a : Act} {mb : Mbox} {op w : Nat} (e : exec c s = s.act a)
    (h : a.run s.mach = (answerFree mb op [] w).run s.mach) :
    Completes c s [] [.out, .freeCtr] fun t => ∃ v, v < 2 ^ w ∧ Mach.Answered mb op rcSuccess [v] s.mach t := by
  refine completes_as e h (K := places [] [.out, .freeCtr])
    (within_free (by rfl) fun _ => (mbAnswer_within ..).mono (by rfl)) (inside_refl _)
    ⟨(Config.freeValue s.mach.freeCtr).toNat % 2 ^ w, Nat.mod_lt _ (Nat.two_pow_pos w), ?_⟩
  rw [answerFree, free_run]
  rfl

/-- The scan's results as the mailbox keeps them. -/
def scanned (found : List Nat) (b : MboxSt) : MboxSt := { b with scan := found, bgOp := 0x4304, bgDone := true, bgCode := rcSuccess }

theorem scanMedia_run {m : Mach} {n : Nat} (h : m.mbServes (.ld n) 0x4304) (hmem : m.get .ID_MEM_ACTIVE = 1) (dpa len : Nat) :
    (scanMedia (.ld n) dpa len).run m = (Act.seq (.mbox n (scanned (m.dpasIn n dpa len (m.pages.flatMap fun p =>
        ((List.range 64).filter fun i => p.2.rcd.size.getD i 0 == 7).map fun i => p.1 * 64 + i))))
      (mbAnswer (.ld n) 0x4304 rcBackground [])).run m := by
  rw [scanMedia, ldCmd_run h hmem, Act.run_read]
  rfl

/-! ### Dynamic capacity -/

/-- The extents once the parts named are accepted: they stand in the place of the LD's open offers. -/
def acceptedExtents (n : Nat) (xs : List Range) (es : List Extent) : List Extent :=
  (es.filter fun e => e.ld != n || e.accepted) ++ xs.map fun x => ({ ld := n, base := x.base, len := x.len, accepted := true } : Extent)

/-- The parts named are accepted. -/
def acceptParts (n : Nat) (xs : List Range) : Act := .prim (.host fun h => { h with extents := acceptedExtents n xs h.extents })

theorem acceptParts_within (n : Nat) (xs : List Range) : (acceptParts n xs).Within (places [] [.host]) := within_host (by rfl)

theorem addResponse_run {m : Mach} {n : Nat} {xs : List Range} (h : m.mbServes (.ld n) 0x4802) (hmem : m.get .ID_MEM_ACTIVE = 1)
    (hin : xs.all (inOne (m.host.extents.filter fun e => e.ld == n && !e.accepted)) = true) (hdis : disjoint xs = true) :
    (addResponse (.ld n) xs).run m = (Act.seq (acceptParts n xs) (mbAnswer (.ld n) 0x4802 rcSuccess [])).run m := by
  rw [addResponse, ldCmd_run h hmem, Act.run_read]
  dsimp only
  rw [if_pos (by rw [hin, hdis]; rfl)]
  rfl

theorem ranges_refused {a b : Bool} (h : a = false ∨ b = false) : ¬ (a && b) = true := by
  rcases h with rfl | rfl <;> simp

theorem addResponse_run_refused {m : Mach} {n : Nat} {xs : List Range} (h : m.mbServes (.ld n) 0x4802) (hmem : m.get .ID_MEM_ACTIVE = 1)
    (hbad : xs.all (inOne (m.host.extents.filter fun e => e.ld == n && !e.accepted)) = false ∨ disjoint xs = false) :
    (addResponse (.ld n) xs).run m = (mbAnswer (.ld n) 0x4802 rcInvalidInput []).run m := by
  rw [addResponse, ldCmd_run h hmem, Act.run_read]
  dsimp only
  rw [if_neg (ranges_refused hbad)]

/-- The ranges of a release are unmapped and cut out. -/
def releaseAll (n : Nat) (xs : List Range) : Act :=
  .each xs fun x => .seq (releaseRange n x.base x.len) (cutExtents n x.base x.len)

theorem releaseDc_run {m : Mach} {n : Nat} {xs : List Range} (h : m.mbServes (.ld n) 0x4803) (hmem : m.get .ID_MEM_ACTIVE = 1)
    (hin : xs.all (inOne (m.host.extents.filter fun e => e.ld == n && e.accepted)) = true) (hdis : disjoint xs = true) :
    (releaseDc (.ld n) xs).run m = (Act.seq (releaseAll n xs) (mbAnswer (.ld n) 0x4803 rcSuccess [])).run m := by
  rw [releaseDc, ldCmd_run h hmem, Act.run_read]
  dsimp only
  rw [if_pos (by rw [hin, hdis]; rfl), Act.run_all_cons, Act.run_all_one, releaseAll, Act.run_seq]

theorem releaseDc_run_refused {m : Mach} {n : Nat} {xs : List Range} (h : m.mbServes (.ld n) 0x4803) (hmem : m.get .ID_MEM_ACTIVE = 1)
    (hbad : xs.all (inOne (m.host.extents.filter fun e => e.ld == n && e.accepted)) = false ∨ disjoint xs = false) :
    (releaseDc (.ld n) xs).run m = (mbAnswer (.ld n) 0x4803 rcInvalidInput []).run m := by
  rw [releaseDc, ldCmd_run h hmem, Act.run_read]
  dsimp only
  rw [if_neg (ranges_refused hbad)]

/-- Settles O20: each command answers from the state, or comes to the one program that its change names. -/
theorem mailboxMemory : Obligations.MailboxMemory := by
  unfold Obligations.MailboxMemory
  refine ⟨?_, ?_, ?_, ?_, ?_, ?_, ?_, ?_, ?_, ?_, ?_, ?_, ?_, ?_, ?_, ?_, ?_, ?_, ?_⟩
  case refine_1 => exact fun s n h hmem => completes_answer rfl (ldCmd_run h hmem _)
  case refine_2 => exact fun s n h hmem => completes_answer rfl (ldCmd_run_busy h (by decide) hmem _)
  case refine_3 => exact fun s n h hmem => completes_answer rfl (ldCmd_run h hmem _)
  case refine_4 => exact fun s n dpa len h hmem => completes_answer rfl (poisonList_run hmem h len)
  case refine_5 => exact fun s n dpa h hmem hen => completes_answer rfl (injectPoison_run_disabled hmem h hen)
  case refine_6 => exact fun s n dpa h hmem hen hline => completes_answer rfl (injectPoison_run_unmapped hmem h hen hline)
  case refine_7 =>
    exact fun s n dpa x h hmem hen hline hhome =>
      completes_of rfl (injectPoison_within (.ld n) dpa) (by rfl) (injectPoison_run hmem h hen hline hhome)
  case refine_8 => exact fun s n dpa data h hmem hline => completes_answer rfl (clearPoison_run_unmapped hmem h hline data)
  case refine_9 =>
    exact fun s n dpa data x h hmem hline hhome =>
      completes_of rfl (clearPoison_within (.ld n) dpa data) (by rfl) (clearPoison_run hmem h hline hhome data)
  case refine_10 => exact fun s n dpa len h hmem hbad => completes_answer rfl (scanCaps_run_refused hmem h hbad)
  case refine_11 => exact fun s n dpa len x h hmem hline hlen => completes_answerFree rfl (scanCaps_run hmem h hline hlen)
  case refine_12 =>
    refine fun s n dpa len h hmem => (completes_mbox rfl (scanMedia_run h hmem dpa len)).imp fun t ht => ?_
    obtain ⟨hans, hself, hother, -⟩ := ht
    rw [mbOwner] at hself hother
    rw [hself]
    exact ⟨hans, rfl, rfl, rfl, rfl, hother⟩
  case refine_13 => exact fun s n h hmem => completes_answer rfl (ldCmd_run h hmem _)
  case refine_14 => exact fun s n h hmem => completes_answer rfl (ldCmd_run h hmem _)
  case refine_15 => exact fun s n h hmem => completes_answer rfl (ldCmd_run h hmem _)
  case refine_16 =>
    exact fun s n xs h hmem hin hdis => completes_hostAnswer rfl (addResponse_run h hmem hin hdis) (acceptParts_within n xs) rfl
  case refine_17 => exact fun s n xs h hmem hbad => completes_answer rfl (addResponse_run_refused h hmem hbad)
  case refine_18 =>
    exact fun s n xs h hmem hin hdis =>
      completes_of rfl (releaseDc_within (.ld n) xs) (by rfl) (releaseDc_run h hmem hin hdis)
  case refine_19 => exact fun s n xs h hmem hbad => completes_answer rfl (releaseDc_run_refused h hmem hbad)

/-! ### The FM API: static capacity -/

theorem fmCmd_run {m : Mach} {op : Nat} (h : m.mbServes .fmapi op) (a : Act) : (fmCmd op a).run m = a.run m := by
  rw [fmCmd, mbCmd_run h]

/-- The LDs asked for that the sled has. -/
theorem filter_range_lt (n k first : Nat) :
    ((List.range n).filter fun j => first + j < k) = List.range (min n (k - first)) := by
  induction n with
  | zero => simp
  | succ n ih =>
    rw [List.range_succ, List.filter_append, ih]
    by_cases hn : first + n < k
    · rw [List.filter_cons_of_pos (by simpa using hn), List.filter_nil, Nat.min_eq_left (by omega), Nat.min_eq_left (by omega),
        List.range_succ]
    · rw [List.filter_cons_of_neg (by simpa using hn), List.filter_nil, List.append_nil, Nat.min_eq_right (by omega),
        Nat.min_eq_right (by omega)]

theorem fmLdAllocs_run {m : Mach} (h : m.mbServes .fmapi 0x5401) (first count : Nat) :
    (fmLdAllocs first count).run m = (mbAnswer .fmapi 0x5401 rcSuccess (m.sled.lds ::
      (List.range (min count (m.sled.lds - first))).map fun j => m.get .HBR_LD_CAP (first + j))).run m := by
  rw [fmLdAllocs, fmCmd_run h, Act.run_read, filter_range_lt, Nat.min_assoc, Nat.min_eq_right (Nat.sub_le m.sled.lds first)]

/-- The LDs and capacities that a setting names. -/
def namedCaps (first : Nat) (caps : List Nat) : List (Nat × Nat) := (List.range caps.length).map fun j => (first + j, caps.getD j 0)

theorem mem_namedCaps {first : Nat} {caps : List Nat} {p : Nat × Nat} :
    p ∈ namedCaps first caps ↔ ∃ j < caps.length, p = (first + j, caps.getD j 0) := by
  simp [namedCaps, eq_comm]

/-- Each LD named exists, and its capacity fits its views. -/
def capsFit (m : Mach) (first : Nat) (caps : List Nat) : Bool :=
  (namedCaps first caps).all fun p => decide (p.1 < m.sled.lds) && m.capFits p.1 p.2

theorem capsFit_iff {m : Mach} {first : Nat} {caps : List Nat} : capsFit m first caps = true ↔
    ∀ j, j < caps.length → first + j < m.sled.lds ∧ m.capFits (first + j) (caps.getD j 0) = true := by
  simp only [capsFit, List.all_eq_true, mem_namedCaps, Bool.and_eq_true, decide_eq_true_eq]
  exact ⟨fun h j hj => h _ ⟨j, hj, rfl⟩, fun h p ⟨j, hj, hp⟩ => hp ▸ h j hj⟩

theorem fmSetAllocs_run {m : Mach} {first : Nat} {caps : List Nat} (h : m.mbServes .fmapi 0x5402) :
    (fmSetAllocs first caps).run m = (if capsFit m first caps then
      Act.seq (.each (namedCaps first caps) fun p => .set .HBR_LD_CAP p.1 p.2) (mbAnswer .fmapi 0x5402 rcSuccess [])
      else mbAnswer .fmapi 0x5402 rcInvalidInput []).run m := by
  rw [fmSetAllocs, fmCmd_run h, Act.run_read]
  by_cases hfit : capsFit m first caps = true
  · rw [if_pos hfit]
    exact congrArg (Act.run · m) (if_pos hfit)
  · rw [if_neg hfit]
    exact congrArg (Act.run · m) (if_neg hfit)

/-- Entries of one field written one after another: one that no write names stands. -/
theorem get_each_entries_other {f : Fld} {i : Nat} (l : List (Nat × Nat)) (h : ∀ p ∈ l, p.1 ≠ i) (m : Mach) :
    ((Act.each l fun p => .set f p.1 p.2).run m).get f i = m.get f i :=
  each_keeps (fun m => m.get f i) l (fun p hp n => Mach.others_set f p.1 p.2 n i (Ne.symm (h p hp))) m

/-- One that the last of the writes that name it sets reads that value, when all that name it agree. -/
theorem get_each_entries {f : Fld} {i v : Nat} (hv : v < 2 ^ f.spec.width) (l : List (Nat × Nat)) (hmem : (i, v) ∈ l)
    (hall : ∀ p ∈ l, p.1 = i → p.2 = v) (m : Mach) : ((Act.each l fun p => .set f p.1 p.2).run m).get f i = v := by
  induction l generalizing m with
  | nil => exact absurd hmem List.not_mem_nil
  | cons p l ih =>
    rw [Act.run_each_cons]
    by_cases hl : (i, v) ∈ l
    · exact ih hl (fun q hq => hall q (List.mem_cons_of_mem _ hq)) _
    · have hp : p = (i, v) := ((List.mem_cons.1 hmem).resolve_right hl).symm
      rw [get_each_entries_other l (fun q hq he => hl ?_), hp, Mach.get_set _ _ _ _ hv]
      have := hall q (List.mem_cons_of_mem _ hq) he
      rwa [← he, ← this]

theorem capFits_lt {m : Mach} {n cap : Nat} (h : m.capFits n cap = true) : cap < 2 ^ 18 := by
  rw [Mach.capFits, Bool.and_eq_true, decide_eq_true_eq] at h
  have := h.1
  omega

theorem completes_setAllocs {s : State} {first : Nat} {caps : List Nat} (h : s.mach.mbServes .fmapi 0x5402)
    (hfit : ∀ j, j < caps.length → first + j < s.mach.sled.lds ∧ s.mach.capFits (first + j) (caps.getD j 0) = true) :
    Completes (.setLdAllocations first caps) s [.HBR_LD_CAP] [.out] fun t =>
      Mach.Answered .fmapi 0x5402 rcSuccess [] s.mach t ∧
      (∀ j, j < caps.length → t.get .HBR_LD_CAP (first + j) = caps.getD j 0) ∧
      ∀ n, n < first ∨ first + caps.length ≤ n → t.get .HBR_LD_CAP n = s.mach.get .HBR_LD_CAP n := by
  have hrun := (fmSetAllocs_run (first := first) (caps := caps) h).trans (congrArg (Act.run · s.mach) (if_pos (capsFit_iff.2 hfit)))
  have hcap : Fld.HBR_LD_CAP.spec.width = 18 := rfl
  have hset : (Act.each (namedCaps first caps) fun p => .set .HBR_LD_CAP p.1 p.2).Within (places [.HBR_LD_CAP] []) :=
    within_each fun _ => within_set (by rfl)
  refine completes_as rfl hrun (K := places [.HBR_LD_CAP] [.out])
    ⟨hset.mono (by rfl), (mbAnswer_within ..).mono (by rfl)⟩ (inside_refl _)
    ⟨congrArg (· ++ _) (hset.out s.mach (by rfl)), fun j hj => ?_, fun n hn => ?_⟩
  · refine get_each_entries (hcap ▸ capFits_lt (hfit j hj).2) _ (mem_namedCaps.2 ⟨j, hj, rfl⟩) (fun p hp he => ?_) s.mach
    obtain ⟨i, _, rfl⟩ := mem_namedCaps.1 hp
    have hij : i = j := by simpa using he
    rw [hij]
  · refine get_each_entries_other _ (fun p hp => ?_) s.mach
    obtain ⟨i, hi, rfl⟩ := mem_namedCaps.1 hp
    dsimp only
    omega

theorem fmSetAllocs_run_refused {m : Mach} {first j : Nat} {caps : List Nat} (h : m.mbServes .fmapi 0x5402) (hj : j < caps.length)
    (hbad : m.sled.lds ≤ first + j ∨ m.capFits (first + j) (caps.getD j 0) = false) :
    (fmSetAllocs first caps).run m = (mbAnswer .fmapi 0x5402 rcInvalidInput []).run m := by
  have hno : ¬ capsFit m first caps = true := fun hfit => by
    obtain ⟨hlt, hcap⟩ := capsFit_iff.1 hfit j hj
    rcases hbad with hbad | hbad
    · omega
    · exact absurd hcap (by rw [hbad]; decide)
  rw [fmSetAllocs_run h, if_neg hno]

/-! ### The FM API: releases -/

/-- The offer of an extent is withdrawn. -/
def withdraw (e : Extent) : Act := .prim (.host fun h => { h with extents := h.extents.filter (· != e) })

theorem withdraw_within (e : Extent) : (withdraw e).Within (places [] [.host]) := within_host (by rfl)

theorem fmRelease_run_none {m : Mach} {n : Nat} {x : Range} (h : m.mbServes .fmapi 0x5605)
    (hx : m.host.extents.find? (fun e => e.ld == n && e.base == x.base && e.len == x.len) = none) :
    (fmRelease n x).run m = (mbAnswer .fmapi 0x5605 rcInvalidInput []).run m := by
  rw [fmRelease, fmCmd_run h, Act.run_read, hx]

theorem fmRelease_run {m : Mach} {n : Nat} {x : Range} {e : Extent} (h : m.mbServes .fmapi 0x5605)
    (hx : m.host.extents.find? (fun e => e.ld == n && e.base == x.base && e.len == x.len) = some e) :
    (fmRelease n x).run m =
      (Act.seq (if e.accepted then requestRelease e else withdraw e) (mbAnswer .fmapi 0x5605 rcSuccess [])).run m := by
  rw [fmRelease, fmCmd_run h, Act.run_read, hx]
  rfl

/-- Settles O21: each command answers from the state, or comes to the one program that its change names. -/
theorem fabricManager : Obligations.FabricManager := by
  unfold Obligations.FabricManager
  refine ⟨?_, ?_, ?_, ?_, ?_, ?_, ?_, ?_, ?_, ?_, ?_, ?_, ?_, ?_, ?_, ?_, ?_, ?_⟩
  case refine_1 =>
    exact fun s k h hk => completes_answer rfl ((fmCmd_run h _).trans (by rw [Act.run_read, if_neg (by omega)]))
  case refine_2 => exact fun s k h hk => completes_answer rfl ((fmCmd_run h _).trans (by rw [Act.run_read, if_pos hk]))
  case refine_3 => exact fun s first count h => completes_answer rfl (fmLdAllocs_run h first count)
  case refine_4 => exact fun s first caps h hfit => completes_setAllocs h hfit
  case refine_5 => exact fun s first j caps h hj hbad => completes_answer rfl (fmSetAllocs_run_refused h hj hbad)
  case refine_6 => exact fun s h => completes_answer rfl (fmCmd_run h _)
  case refine_7 => exact fun s h => completes_answer rfl (fmCmd_run h _)
  case refine_8 => exact fun s h => completes_answer rfl (fmCmd_run h _)
  case refine_9 =>
    exact fun s k h hk => completes_answer rfl ((fmCmd_run h _).trans (by rw [Act.run_read, if_neg (by omega)]))
  case refine_10 => exact fun s k h hk => completes_answer rfl ((fmCmd_run h _).trans (by rw [Act.run_read, if_pos hk]))
  case refine_11 => exact fun s h => completes_answer rfl (fmCmd_run h _)
  case refine_12 =>
    exact fun s n h hn => completes_answer rfl ((fmCmd_run h _).trans (by rw [Act.run_read, if_pos (flag_eq_true hn)]))
  case refine_13 =>
    exact fun s n h hn => completes_answer rfl ((fmCmd_run h _).trans (by rw [Act.run_read, if_neg (by rw [flag_eq_false hn]; decide)]))
  case refine_14 =>
    exact fun s n h hn => completes_answer rfl ((fmCmd_run h _).trans (by rw [Act.run_read, if_pos (flag_eq_true hn)]))
  case refine_15 =>
    exact fun s n h hn => completes_answer rfl ((fmCmd_run h _).trans (by rw [Act.run_read, if_neg (by rw [flag_eq_false hn]; decide)]))
  case refine_16 => exact fun s n x h hx => completes_answer rfl (fmRelease_run_none h hx)
  case refine_17 =>
    exact fun s n x e h hx ha => completes_hostAnswer rfl ((fmRelease_run h hx).trans (by rw [if_neg (by rw [ha]; decide)]))
      (withdraw_within e) rfl
  case refine_18 =>
    exact fun s n x e h hx ha => completes_of rfl (fmRelease_within n x) (by rfl)
      ((fmRelease_run h hx).trans (by rw [if_pos ha]))

end Sys2Proof.Machine
end

section
/-!
PROOF. O22, queue pairs and bells (R223, R227 to R229, R246).
-/

namespace Sys2Proof.Machine

/-! ### Enable -/

/-- Writes of one entry of several fields leave the other entries. -/
theorem others_each_set {f : Fld} (n : Nat) (l : List (Fld × Nat)) (m : Mach) :
    Mach.Others f n m ((Act.each l fun x => .set x.1 n x.2).run m) := fun j hj =>
  each_keeps (fun m => m.get f j) l (fun x _ a => by
    rw [Mach.get_set_ite, if_neg fun e => hj e.2]) m

/-- What an enabled queue pair starts with (R223). -/
def enabledFields : List (Fld × Nat) :=
  [(.QP_EN, 1), (.QP_STATE, qpEnabled), (.QP_ERR, 0), (.QP_SQ_HEAD, 0), (.QP_SQ_TAIL, 0), (.QP_CQ_HEAD, 0), (.QP_CQ_TAIL, 0),
    (.QP_CQ_PHASE, 1), (.QP_WR_REFUSED, 0)]

/-- A queue pair is enabled: its fields start anew, and so do its messages. -/
def enabling (q : Nat) : Act := .seq (.each enabledFields fun x => .set x.1 q x.2)
  (.prim (.que fun x => { x with since := x.since.erase q, firstAt := x.firstAt.erase q }))

theorem qpEnable_run {m : Mach} {q : Nat} (hq : q < m.sled.qps) (hst : m.get .QP_STATE q = qpDisabled) (hok : m.enableOk q = true) :
    (qpEnable q).run m = (enabling q).run m := by
  rw [qpEnable, Act.run_read]
  dsimp only
  rw [Act.run_when, if_pos (decide_eq_true hq), hst, if_neg (by decide), if_pos (by rw [hok]; decide)]
  rfl

theorem enabling_get {q v : Nat} {f : Fld} (h : (f, v) ∈ enabledFields) (hv : v < 2 ^ f.spec.width) (m : Mach) :
    ((enabling q).run m).get f q = v :=
  get_each_set q hv enabledFields m (by decide) h

theorem enabling_others (f : Fld) (q : Nat) (m : Mach) : Mach.Others f q m ((enabling q).run m) :=
  others_each_set q enabledFields m

theorem enabling_within (q : Nat) : (enabling q).Within (places [.QP_EN, .QP_STATE, .QP_WR_REFUSED, .QP_ERR, .QP_SQ_TAIL,
    .QP_SQ_HEAD, .QP_CQ_TAIL, .QP_CQ_HEAD, .QP_CQ_PHASE] [.que]) := by
  refine ⟨within_each_mem fun x hx => within_set ?_, within_que (by rfl)⟩
  revert x
  decide +kernel

theorem completes_enable {s : State} {q : Nat} (hq : q < s.mach.sled.qps) (hst : s.mach.get .QP_STATE q = qpDisabled)
    (hok : s.mach.enableOk q = true) :
    Completes (.qpEnable q) s [.QP_EN, .QP_STATE, .QP_WR_REFUSED, .QP_ERR, .QP_SQ_TAIL, .QP_SQ_HEAD, .QP_CQ_TAIL, .QP_CQ_HEAD,
        .QP_CQ_PHASE] [.que] fun t =>
      t.get .QP_EN q = 1 ∧ t.get .QP_STATE q = qpEnabled ∧ t.get .QP_ERR q = 0 ∧ t.get .QP_SQ_HEAD q = 0 ∧
      t.get .QP_SQ_TAIL q = 0 ∧ t.get .QP_CQ_HEAD q = 0 ∧ t.get .QP_CQ_TAIL q = 0 ∧ t.get .QP_CQ_PHASE q = 1 ∧
      t.get .QP_WR_REFUSED q = 0 ∧ t.que.descs = s.mach.que.descs ∧ Mach.Others .QP_STATE q s.mach t ∧
      Mach.Others .QP_EN q s.mach t ∧ Mach.Others .QP_SQ_TAIL q s.mach t ∧ Mach.Others .QP_CQ_HEAD q s.mach t := by
  have hsets : (Act.each enabledFields fun x => .set x.1 q x.2).Within (places (enabledFields.map (·.1)) []) := by
    refine within_each_mem fun x hx => within_set ?_
    revert x
    decide +kernel
  have hdescs : ((Act.each enabledFields fun x => .set x.1 q x.2).run s.mach).que.descs = s.mach.que.descs :=
    congrArg QueSt.descs (hsets.que s.mach (by rfl))
  exact completes_as rfl (qpEnable_run hq hst hok) (enabling_within q) (inside_refl _)
    ⟨enabling_get (by decide) (by decide) _, enabling_get (by decide) (by decide) _, enabling_get (by decide) (by decide) _,
      enabling_get (by decide) (by decide) _, enabling_get (by decide) (by decide) _, enabling_get (by decide) (by decide) _,
      enabling_get (by decide) (by decide) _, enabling_get (by decide) (by decide) _, enabling_get (by decide) (by decide) _,
      hdescs, enabling_others _ q _, enabling_others _ q _, enabling_others _ q _, enabling_others _ q _⟩

theorem qpEnable_run_refused {m : Mach} {q : Nat} (hq : q < m.sled.qps) (hst : m.get .QP_STATE q ≠ qpEnabled)
    (hbad : m.get .QP_STATE q ≠ qpDisabled ∨ m.enableOk q = false) :
    (qpEnable q).run m = (Act.set .QP_WR_REFUSED q 1).run m := by
  rw [qpEnable, Act.run_read]
  dsimp only
  rw [Act.run_when, if_pos (decide_eq_true hq), if_neg hst, if_neg]
  rcases hbad with h | h <;> simp [h]

/-! ### Drain and disable -/

/-- Parts hold no field. -/
theorem parts_field (ps : List Part) (f : Fld) : (places [] ps).testBit f.ctorIdx = false :=
  places_bit _ _ _ nofun fun p _ e => absurd (e ▸ f.ctorIdx_lt600) (by have := p.bit_range.1; omega)

theorem Act.Within.get_of_parts {a : Act} {ps : List Part} (ha : a.Within (places [] ps)) (hr : (places [] ps).testBit 604 = false)
    {f : Fld} {i : Nat} {m : Mach} : (a.run m).get f i = m.get f i :=
  ha.get f i m (parts_field ps f) hr

/-- A drain stops what is in flight; what stands in its registers is its state alone. -/
theorem qpDrain_get (q : Nat) (f : Fld) (i : Nat) (m : Mach) : ((qpDrain q).run m).get f i =
    ((Act.set .QP_STATE q qpDraining).run ((Act.set .QP_EN q 0).run m)).get f i := by
  have htail (l : List Desc) : (Act.all [forget (.queue q) fetchTag 1, .each l abortDesc]).Within (places [] [.dir, .que]) :=
    ⟨(forget_within _ _ _).mono (by rfl), within_each fun d => (abortDesc_within d).mono (by rfl)⟩
  rw [qpDrain, Act.run_read, Act.run_all_cons, Act.run_all_cons, (htail _).get_of_parts (by rfl)]

theorem qpDisable_run {m : Mach} {q : Nat} (hq : q < m.sled.qps) (hst : m.get .QP_STATE q = qpEnabled ∨ m.get .QP_STATE q = qpError) :
    (qpDisable q).run m = (Act.seq (.set .QP_WR_REFUSED q 0) (qpDrain q)).run m := by
  have hruns : m.qpRuns q = true := by
    rcases hst with h | h <;> simp [Mach.qpRuns, h]
  rw [qpDisable, Act.run_read, Act.run_when, if_pos (decide_eq_true hq), Act.run_seq, Act.run_when, if_pos hruns, Act.run_seq]

theorem disabled_get (q : Nat) (f : Fld) (j : Nat) (m : Mach) : ((Act.seq (.set .QP_WR_REFUSED q 0) (qpDrain q)).run m).get f j =
    if f = .QP_STATE ∧ j = q then qpDraining else if f = .QP_EN ∧ j = q then 0
      else if f = .QP_WR_REFUSED ∧ j = q then 0 else m.get f j := by
  rw [Act.run_seq, qpDrain_get, Mach.get_set_ite, Mach.get_set_ite, Mach.get_set_ite]
  rfl

theorem qpDrained_run {m : Mach} {q : Nat} (hst : m.get .QP_STATE q = qpDraining) (hno : ∀ d, d ∈ m.que.descs → d.q ≠ q) :
    (qpDrained q).run m = (Act.set .QP_STATE q qpDisabled).run m := by
  have hany : (m.que.descs.any fun d => d.q == q) = false := by
    rw [List.any_eq_false]
    exact fun d hd => by simpa using hno d hd
  rw [qpDrained, Act.run_read, Act.run_when, if_pos (by rw [hst, hany]; rfl)]

/-! ### The control page -/

theorem qpControlPageWrite_run {m : Mach} {ld q value : Nat} (hq : q < m.sled.qps) (ho : m.get .QP_OWNER q = ld) (hld : ld < 256)
    (hctrl : m.get .QP_LD_CTRL q = 1) :
    (qpControlPageWrite ld q value).run m = (if value % 2 = 1 then qpEnable q else qpDisable q).run m := by
  have hbit : Bits.bit value 0 = decide (value % 2 = 1) := by
    rw [Bits.bit, pow_zero, Nat.div_one]
    rfl
  rw [qpControlPageWrite, Act.run_read, Act.run_when, if_pos (by simp [hq, ho, hld, flag_eq_true hctrl]), hbit]
  simp only [decide_eq_true_eq]

theorem qpControlPageWrite_run_ignored {m : Mach} {ld q : Nat} (h : m.get .QP_OWNER q ≠ ld ∨ m.get .QP_LD_CTRL q ≠ 1) (value : Nat) :
    (qpControlPageWrite ld q value).run m = m := by
  rw [qpControlPageWrite, Act.run_read, Act.run_when, if_neg]
  rcases h with h | h
  · simp [h]
  · simp [flag_eq_false h]

/-! ### Bells -/

/-- The half of a bell that a write moves: the field, the value, and how it counts. -/
def bellMove (f : Fld) (q v : Nat) : Act := .all [.set f q v, event (.queue (islandOf q)) 0x83 0 1]

theorem bellHalf_run_low {m : Mach} {owner q v : Nat} (hst : m.get .QP_STATE q = qpEnabled) (ho : m.get .QP_OWNER q = owner)
    (hv : v / 2 ^ 16 = 0) (hok : m.tailOk q (v % 2 ^ 16) = true) :
    (bellHalf owner q false v).run m = (bellMove .QP_SQ_TAIL q (v % 2 ^ 16 % m.sqSize q)).run m := by
  rw [bellHalf, Act.run_read]
  dsimp only
  rw [if_neg (by rw [hst, ho, hv]; simp), if_neg (by decide), if_pos hok, bellMove]

theorem bellHalf_run_high {m : Mach} {owner q v : Nat} (hst : m.get .QP_STATE q = qpEnabled) (ho : m.get .QP_OWNER q = owner)
    (hv : v / 2 ^ 16 = 0) (hok : m.cqHeadOk q (v % 2 ^ 16) = true) :
    (bellHalf owner q true v).run m = (bellMove .QP_CQ_HEAD q (v % 2 ^ 16 % m.cqSize q)).run m := by
  rw [bellHalf, Act.run_read]
  dsimp only
  rw [if_neg (by rw [hst, ho, hv]; simp), if_pos rfl, if_pos hok, bellMove]

theorem bellHalf_run_ignored {m : Mach} {owner q : Nat} (h : m.get .QP_STATE q ≠ qpEnabled ∨ m.get .QP_OWNER q ≠ owner) (high : Bool)
    (v : Nat) : (bellHalf owner q high v).run m = (bellIgnored q).run m := by
  rw [bellHalf, Act.run_read]
  dsimp only
  rw [if_pos]
  rcases h with h | h <;> simp [h]

/-- A bell with no byte enabled is untouched. -/
theorem bellWriteOne_run_none (owner q v : Nat) (m : Mach) : (bellWriteOne owner q v 0).run m = m := rfl

theorem bellWriteOne_run_low (owner q v : Nat) (m : Mach) :
    (bellWriteOne owner q v 15).run m = (bellHalf owner q false (v % 2 ^ 32)).run m := by
  show (bellHalf owner q false (Bits.field v 0 32)).run m = _
  rw [Bits.field, pow_zero, Nat.div_one]

theorem bellWriteOne_run_high (owner q v : Nat) (m : Mach) :
    (bellWriteOne owner q v 240).run m = (bellHalf owner q true (v / 2 ^ 32 % 2 ^ 32)).run m := rfl

theorem bellWriteOne_run_whole (owner q v : Nat) (m : Mach) : (bellWriteOne owner q v 255).run m =
    (Act.seq (bellHalf owner q false (v % 2 ^ 32)) (bellHalf owner q true (v / 2 ^ 32 % 2 ^ 32))).run m := by
  show (Act.seq (bellHalf owner q false (Bits.field v 0 32)) (bellHalf owner q true (v / 2 ^ 32 % 2 ^ 32))).run m = _
  rw [Bits.field, pow_zero, Nat.div_one]

/-- Byte enables of one bell of a line: those of the others are clear. -/
theorem field_enables_low : ∀ j < 8, ∀ i < 8, Bits.field (15 * 2 ^ (8 * j) % 2 ^ 64) (8 * i) 8 = if i = j then 15 else 0 := by decide

theorem field_enables_high : ∀ j < 8, ∀ i < 8, Bits.field (240 * 2 ^ (8 * j) % 2 ^ 64) (8 * i) 8 = if i = j then 240 else 0 := by decide

/-- Of programs of which one alone does something, that one runs. -/
theorem each_run_only {α : Type} {f : α → Act} {x : α} {l : List α} (hx : x ∈ l) (hn : l.Nodup)
    (h : ∀ y ∈ l, y ≠ x → ∀ m : Mach, (f y).run m = m) (m : Mach) : (Act.each l f).run m = (f x).run m := by
  induction l generalizing m with
  | nil => exact absurd hx List.not_mem_nil
  | cons y l ih =>
    obtain ⟨hy, hl⟩ := List.nodup_cons.1 hn
    rw [Act.run_each_cons]
    by_cases he : y = x
    · subst he
      exact each_keeps id l (fun z hz a => h z (List.mem_cons_of_mem _ hz) (fun e => hy (e ▸ hz)) a) _
    · rw [h y (List.mem_cons_self ..) he]
      exact ih ((List.mem_cons.1 hx).resolve_left (Ne.symm he)) hl (fun z hz => h z (List.mem_cons_of_mem _ hz)) m

theorem bellsOf_nodup (m : Mach) (off : Nat) : (m.bellsOf off).Nodup := by
  refine List.Nodup.filter _ (List.Nodup.map (fun i j h => ?_) List.nodup_range)
  have h : off / 64 * 8 + i = off / 64 * 8 + j := h
  omega

theorem mem_bellsOf {m : Mach} {off q : Nat} : q ∈ m.bellsOf off ↔ q / 8 = off / 64 ∧ q < m.sled.qps := by
  simp only [Mach.bellsOf, List.mem_filter, List.mem_map, List.mem_range, decide_eq_true_eq]
  constructor
  · rintro ⟨⟨j, hj, rfl⟩, hq⟩
    exact ⟨by omega, hq⟩
  · rintro ⟨h, hq⟩
    exact ⟨⟨q % 8, by omega, by omega⟩, hq⟩

/-- A write that enables bytes of one bell of a line writes that bell alone. -/
theorem bellLineWrite_run {m : Mach} {q off mask e : Nat} (hq : q < m.sled.qps) (hoff : q = off / 64 * 8 + q % 8)
    (hmask : ∀ i < 8, Bits.field mask (8 * i) 8 = if i = q % 8 then e else 0) (ld : Nat) (data : Line) :
    (bellLineWrite ld off data mask).run m = (bellWriteOne ld q (data.toNat / 2 ^ (64 * (q % 8)) % 2 ^ 64) e).run m := by
  rw [bellLineWrite, Act.run_read, each_run_only (mem_bellsOf.2 ⟨by omega, hq⟩) (bellsOf_nodup m off) fun y hy hne a => ?_]
  · rw [hmask _ (Nat.mod_lt _ (by decide)), if_pos rfl, Bits.field]
  · have hline := (mem_bellsOf.1 hy).1
    have hother : y % 8 ≠ q % 8 := by omega
    rw [hmask _ (Nat.mod_lt _ (by decide)), if_neg hother]
    exact bellWriteOne_run_none ..

/-- A write of a bell line that its LD presents is counted and reaches the line. -/
theorem execBellWrite_run {m : Mach} {ld dpa : Nat} {x : Mapped} (hd : m.decode ld dpa = some x) (hbell : m.isBell x.atoll = true)
    (hup : m.ldUp ld true = true) (hf : m.fatal = false) (data : Line) (mask : Nat) :
    (Act.read fun m => .some? ((m.decode ld dpa).filter fun x => m.isBell x.atoll) fun x =>
      accept ld true (bellLineWrite ld ((dpa - m.viewBase x.view) % 2 ^ 16) data (mask % 2 ^ 64))).run m =
    (Act.seq (accepted m ld) (bellLineWrite ld ((dpa - m.viewBase x.view) % 2 ^ 16) data (mask % 2 ^ 64))).run m := by
  rw [Act.run_read, hd, Option.filter_some_pos (p := fun x : Mapped => m.isBell x.atoll) hbell, Act.run_some?_some, accept_run _ hup hf, Act.run_seq, accepted]

/-- The value that a half of a bell carries, out of its line. -/
theorem half_low (d j : Nat) : (d / 2 ^ (64 * j) % 2 ^ 64 % 2 ^ 32) % 2 ^ 16 = d / 2 ^ (64 * j) % 2 ^ 16 ∧
    (d / 2 ^ (64 * j) % 2 ^ 64 % 2 ^ 32) / 2 ^ 16 = d / 2 ^ (64 * j + 16) % 2 ^ 16 := by
  rw [pow_add, ← Nat.div_div_eq_div_mul]
  generalize d / 2 ^ (64 * j) = x
  omega

theorem half_high (d j : Nat) : (d / 2 ^ (64 * j) % 2 ^ 64 / 2 ^ 32 % 2 ^ 32) % 2 ^ 16 = d / 2 ^ (64 * j + 32) % 2 ^ 16 ∧
    (d / 2 ^ (64 * j) % 2 ^ 64 / 2 ^ 32 % 2 ^ 32) / 2 ^ 16 = d / 2 ^ (64 * j + 48) % 2 ^ 16 := by
  rw [pow_add, pow_add, ← Nat.div_div_eq_div_mul, ← Nat.div_div_eq_div_mul]
  generalize d / 2 ^ (64 * j) = x
  omega

section Bell

variable {s : State} {ld dpa q : Nat} {x : Mapped} (hd : s.mach.decode ld dpa = some x) (hbell : s.mach.isBell x.atoll = true)
  (hup : s.mach.ldUp ld true = true) (hf : s.mach.fatal = false) (hoff : q = (dpa - s.mach.viewBase x.view) % 2 ^ 16 / 64 * 8 + q % 8)
  (hq : q < s.mach.sled.qps)

include hd hbell hup hf hoff hq

theorem bellWrite_run_low (data : Line) : (Act.read fun m => .some? ((m.decode ld dpa).filter fun x => m.isBell x.atoll) fun x =>
      accept ld true (bellLineWrite ld ((dpa - m.viewBase x.view) % 2 ^ 16) data (15 * 2 ^ (8 * (q % 8)) % 2 ^ 64))).run s.mach =
    (Act.seq (accepted s.mach ld) (bellHalf ld q false (data.toNat / 2 ^ (64 * (q % 8)) % 2 ^ 64 % 2 ^ 32))).run s.mach := by
  rw [execBellWrite_run hd hbell hup hf, Act.run_seq, Act.run_seq, bellLineWrite_run (by rwa [accepted, event_sled]) hoff
    (field_enables_low _ (Nat.mod_lt _ (by decide))), bellWriteOne_run_low]

theorem bellWrite_run_high (data : Line) : (Act.read fun m => .some? ((m.decode ld dpa).filter fun x => m.isBell x.atoll) fun x =>
      accept ld true (bellLineWrite ld ((dpa - m.viewBase x.view) % 2 ^ 16) data (240 * 2 ^ (8 * (q % 8)) % 2 ^ 64))).run s.mach =
    (Act.seq (accepted s.mach ld) (bellHalf ld q true (data.toNat / 2 ^ (64 * (q % 8)) % 2 ^ 64 / 2 ^ 32 % 2 ^ 32))).run s.mach := by
  rw [execBellWrite_run hd hbell hup hf, Act.run_seq, Act.run_seq, bellLineWrite_run (by rwa [accepted, event_sled]) hoff
    (field_enables_high _ (Nat.mod_lt _ (by decide))), bellWriteOne_run_high]

end Bell

theorem accepted_get {f : Fld} (h : f ≠ .SND_K_VALUE ∧ f ≠ .SND_SUM) (m a : Mach) (ld i : Nat) :
    ((accepted a ld).run m).get f i = m.get f i :=
  event_get _ _ _ _ _ h i

theorem accepted_tailOk (m a : Mach) (ld : Nat) : ((accepted a ld).run m).tailOk = m.tailOk := by
  funext q t
  simp only [Mach.tailOk, Mach.sqSize, accepted_get (f := .QP_SQ_TAIL) (by decide), accepted_get (f := .QP_SQ_LOG2) (by decide),
    accepted_get (f := .QP_SQ_HEAD) (by decide)]
  rfl

theorem accepted_cqHeadOk (m a : Mach) (ld : Nat) : ((accepted a ld).run m).cqHeadOk = m.cqHeadOk := by
  funext q t
  simp only [Mach.cqHeadOk, Mach.cqSize, accepted_get (f := .QP_CQ_HEAD) (by decide), accepted_get (f := .QP_CQ_LOG2) (by decide),
    accepted_get (f := .QP_CQ_TAIL) (by decide)]
  rfl

theorem bellMove_get {f g : Fld} (hg : g ≠ .SND_K_VALUE ∧ g ≠ .SND_SUM) (q v j : Nat) (m : Mach) :
    ((bellMove f q v).run m).get g j = if g = f ∧ j = q then v % 2 ^ f.spec.width else m.get g j := by
  rw [bellMove, Act.run_all_cons, Act.run_all_one, event_get _ _ _ _ _ hg, Mach.get_set_ite]

/-- A half of a bell writes no other queue pair's pointers. -/
theorem bellHalf_others {f : Fld} (hf : f ≠ .SND_K_VALUE ∧ f ≠ .SND_SUM) (owner q : Nat) (high : Bool) (v : Nat) (m : Mach) :
    Mach.Others f q m ((bellHalf owner q high v).run m) := by
  intro j hj
  have hign (a : Mach) : ((bellIgnored q).run a).get f j = a.get f j := by
    rw [bellIgnored, Mach.get_inc_ite, if_neg fun e => hj e.2]
  have hmove (g : Fld) (w : Nat) (a : Mach) :
      ((Act.all [.set g q w, event (.queue (islandOf q)) 0x83 0 1]).run a).get f j = a.get f j :=
    (bellMove_get hf q w j a).trans (if_neg fun e => hj e.2)
  rw [bellHalf, Act.run_read]
  dsimp only
  split
  · exact hign m
  · split <;> split
    · exact hmove ..
    · exact hign m
    · exact hmove ..
    · exact hign m

theorem qpMgmtBell_run {m : Mach} {q : Nat} (hq : q < m.sled.qps) (ho : m.get .QP_OWNER q = ownMgmt) (v : Nat) :
    (qpMgmtBell q (some v)).run m =
      (Act.seq (bellHalf ownMgmt q false (v % 2 ^ 32)) (bellHalf ownMgmt q true (v / 2 ^ 32 % 2 ^ 32))).run m := by
  rw [qpMgmtBell, Act.run_read]
  dsimp only
  rw [Act.run_when, if_pos (by simp [hq, ho]), bellWriteOne_run_whole]

theorem qpMgmtBell_run_ignored {m : Mach} {q : Nat} (ho : m.get .QP_OWNER q ≠ ownMgmt) (v : Nat) :
    (qpMgmtBell q (some v)).run m = m := by
  rw [qpMgmtBell, Act.run_read]
  dsimp only
  rw [Act.run_when, if_neg (by simp [ho])]

/-- Settles O22: the program of each write by the queue pair's state, owner and pointers; a bell line's write reaches one bell. -/
theorem queuePairsAndBells : Obligations.QueuePairsAndBells := by
  unfold Obligations.QueuePairsAndBells
  have haccepted (m : Mach) (ld : Nat) : (accepted m ld).Within (places countFields []) := (event_within _ _ _ _).mono (by rfl)
  have hevent (q : Nat) (K : Nat) (h : inside (places countFields []) K = true) : (event (.queue (islandOf q)) 0x83 0 1).Within K :=
    (event_within _ _ _ _).mono (inside_trans (by rfl) h)
  refine ⟨?_, ?_, ?_, ?_, ?_, ?_, ?_, ?_, ?_, ?_, ?_, ?_, ?_⟩
  case refine_1 => exact fun s q hq hst hok => completes_enable hq hst hok
  case refine_2 =>
    exact fun s q hq hst hbad => completes_as rfl (qpEnable_run_refused hq hst hbad) (K := places [.QP_WR_REFUSED] [])
      (within_set (by rfl)) (inside_refl _) ⟨Mach.get_set _ _ _ _ (by decide), Mach.others_set _ _ _ _⟩
  case refine_3 =>
    refine fun s q hq hst => completes_as rfl (qpDisable_run hq hst) (K := places [.QP_EN, .QP_STATE, .QP_WR_REFUSED] [.dir, .que])
      ⟨within_set (by rfl), (qpDrain_within q).mono (by rfl)⟩ (inside_refl _) ⟨?_, ?_, ?_, fun j hj => ?_, fun j hj => ?_⟩
    all_goals rw [disabled_get]
    all_goals simp [*]
  case refine_4 =>
    exact fun s q hst hno => completes_as rfl (qpDrained_run hst hno) (K := places [.QP_STATE] []) (within_set (by rfl))
      (inside_refl _) ⟨Mach.get_set _ _ _ _ (by decide), Mach.others_set _ _ _ _⟩
  case refine_5 =>
    intro s ld q value hq ho hld hctrl
    refine completes_of rfl (qpControlPageWrite_within ld q value) (by rfl) ?_
    rw [qpControlPageWrite_run hq ho hld hctrl]
    split <;> rfl
  case refine_6 =>
    exact fun s ld q value h => completes_as rfl (qpControlPageWrite_run_ignored h value) (b := .skip) (within_skip (K := 0))
      (by rfl) rfl
  case refine_7 =>
    intro s ld dpa q x data hd hbell hup hf hoff hq hst ho hhigh hok
    obtain ⟨hlow, htop⟩ := half_low data.toNat (q % 8)
    have hrun := (bellWrite_run_low hd hbell hup hf hoff hq data).trans (bellHalf_run_low
      ((accepted_get (by decide) s.mach s.mach ld q).trans hst) ((accepted_get (by decide) s.mach s.mach ld q).trans ho) (htop.trans hhigh)
      (by rw [accepted_tailOk, hlow]; exact hok))
    rw [hlow, Mach.sqSize, accepted_get (by decide)] at hrun
    refine completes_as (b := .seq (accepted s.mach ld) (bellMove .QP_SQ_TAIL q _)) rfl hrun (K := places (countFields ++ [.QP_SQ_TAIL]) [])
      ⟨(haccepted s.mach ld).mono (by rfl), within_set (by rfl), hevent q _ (by rfl)⟩ (inside_refl _)
      ⟨(bellMove_get (by decide) ..).trans (if_pos ⟨rfl, rfl⟩), fun j hj => ?_⟩
    exact (bellMove_get (by decide) ..).trans ((if_neg fun e => hj e.2).trans (accepted_get (by decide) ..))
  case refine_8 =>
    intro s ld dpa q x data hd hbell hup hf hoff hq hst ho hhigh hok
    obtain ⟨hlow, htop⟩ := half_high data.toNat (q % 8)
    have hrun := (bellWrite_run_high hd hbell hup hf hoff hq data).trans (bellHalf_run_high
      ((accepted_get (by decide) s.mach s.mach ld q).trans hst) ((accepted_get (by decide) s.mach s.mach ld q).trans ho) (htop.trans hhigh)
      (by rw [accepted_cqHeadOk, hlow]; exact hok))
    rw [hlow, Mach.cqSize, accepted_get (by decide)] at hrun
    refine completes_as (b := .seq (accepted s.mach ld) (bellMove .QP_CQ_HEAD q _)) rfl hrun (K := places (countFields ++ [.QP_CQ_HEAD]) [])
      ⟨(haccepted s.mach ld).mono (by rfl), within_set (by rfl), hevent q _ (by rfl)⟩ (inside_refl _)
      ⟨(bellMove_get (by decide) ..).trans (if_pos ⟨rfl, rfl⟩), fun j hj => ?_⟩
    exact (bellMove_get (by decide) ..).trans ((if_neg fun e => hj e.2).trans (accepted_get (by decide) ..))
  case refine_9 =>
    intro s ld dpa q x data hd hbell hup hf hoff hq hno
    have hno' : ((accepted s.mach ld).run s.mach).get .QP_STATE q ≠ qpEnabled ∨ ((accepted s.mach ld).run s.mach).get .QP_OWNER q ≠ ld := by
      rwa [accepted_get (by decide), accepted_get (by decide)]
    have hrun := (bellWrite_run_low hd hbell hup hf hoff hq data).trans (bellHalf_run_ignored hno' false _)
    refine completes_as (b := .seq (accepted s.mach ld) (bellIgnored q)) rfl hrun (K := places (countFields ++ [.QP_BELL_IGNORED]) [])
      ⟨(haccepted s.mach ld).mono (by rfl), within_inc (by rfl)⟩ (inside_refl _) ⟨?_, fun j hj => ?_⟩
    · rw [Act.run_seq, bellIgnored, Mach.get_inc, accepted_get (by decide)]
      rfl
    · exact (Mach.others_inc _ _ _ _ j hj).trans (accepted_get (by decide) ..)
  case refine_10 =>
    intro s ld dpa tag x hd hbell
    refine completes_as (b := hostRead ld dpa tag 0 .noop) rfl ?_ (hostRead_within ld dpa tag 0 .noop) (by rfl) rfl
    rw [Act.run_read, hd, Option.filter_some_pos (p := fun x : Mapped => s.mach.isBell x.atoll) hbell, Act.run_some?_some]
  case refine_11 =>
    intro s q v hq ho
    have hothers {f : Fld} (hf : f ≠ .SND_K_VALUE ∧ f ≠ .SND_SUM) : Mach.Others f q s.mach
        ((Act.seq (bellHalf ownMgmt q false (v % 2 ^ 32)) (bellHalf ownMgmt q true (v / 2 ^ 32 % 2 ^ 32))).run s.mach) :=
      (bellHalf_others hf ownMgmt q false _ s.mach).trans (bellHalf_others hf ownMgmt q true _ _)
    exact completes_as rfl (qpMgmtBell_run hq ho v) (K := places (countFields ++ [.QP_SQ_TAIL, .QP_CQ_HEAD, .QP_BELL_IGNORED]) [])
      ⟨(bellHalf_within _ _ _ _).mono (by rfl), (bellHalf_within _ _ _ _).mono (by rfl)⟩ (inside_refl _)
      ⟨rfl, hothers (by decide), hothers (by decide)⟩
  case refine_12 =>
    exact fun s q v ho => completes_as rfl (qpMgmtBell_run_ignored ho v) (b := .skip) (within_skip (K := 0)) (by rfl) rfl
  case refine_13 =>
    intro s q hq
    refine completes_as (a := qpMgmtBell q none) (b := .emit (.setupRead (0x200000 + 0x80 * q + 0x50)
        (if s.mach.get .QP_OWNER q = ownMgmt then s.mach.bellWord ownMgmt q else 0))) rfl ?_ (K := places [] [.out])
      (within_emit (by rfl)) (inside_refl _) rfl
    rw [qpMgmtBell, Act.run_read]
    simp only [hq, true_and]

end Sys2Proof.Machine
end

section
/-!
PROOF. O23, the flow of descriptors and completions (R225, R226, R237, R239, R240, R242, R243).
-/

namespace Sys2Proof.Machine

/-- What has been emitted stays: a program only adds to it. -/
theorem Act.run_out_append (a : Act) (m : Mach) : ∃ r, (a.run m).out = m.out ++ r := by
  induction a generalizing m with
  | skip => exact ⟨[], (List.append_nil _).symm⟩
  | prim p =>
    cases p with
    | emit o => exact ⟨[o], rfl⟩
    | _ => exact ⟨[], (List.append_nil _).symm⟩
  | seq a b iha ihb =>
    obtain ⟨r, hr⟩ := iha m
    obtain ⟨r', hr'⟩ := ihb (a.run m)
    exact ⟨r ++ r', by rw [Act.run_seq, hr', hr, List.append_assoc]⟩
  | read f ih => exact ih m m

/-! ### A queue pair's message and its errors -/

theorem msixSend_que (owner vec : Nat) (m : Mach) : ((msixSend owner vec).run m).que = m.que :=
  (msixSend_within owner vec).que m (by rfl)

theorem qpSignal_descs (q : Nat) (m : Mach) : ((qpSignal q).run m).que.descs = m.que.descs := by
  rw [qpSignal, Act.run_read, Act.run_when]
  split
  · rw [Act.run_all_cons, Act.run_all_one, msixSend_que]
    rfl
  · rfl

theorem qpWritten_descs (q : Nat) (irq : Bool) (m : Mach) : ((qpWritten q irq).run m).que.descs = m.que.descs := by
  rw [qpWritten, Act.run_read]
  dsimp only
  rw [Act.run_when]
  split
  · split
    · exact qpSignal_descs q m
    · rfl
  · rfl

theorem forget_que (a : Agent) (lo n : Nat) (m : Mach) : ((forget a lo n).run m).que = m.que :=
  (forget_within a lo n).que m (by rfl)

theorem forget_get (a : Agent) (lo n : Nat) (f : Fld) (i : Nat) (m : Mach) : ((forget a lo n).run m).get f i = m.get f i :=
  Act.Within.get_of_parts (ps := [.dir]) ((forget_within a lo n).mono (by rfl)) (by rfl)

theorem qpSignal_get (q : Nat) (f : Fld) (i : Nat) (m : Mach) : ((qpSignal q).run m).get f i = m.get f i :=
  Act.Within.get_of_parts (ps := [.out, .host, .que]) ((qpSignal_within q).mono (by rfl)) (by rfl)

theorem qpWritten_get (q : Nat) (irq : Bool) (f : Fld) (i : Nat) (m : Mach) : ((qpWritten q irq).run m).get f i = m.get f i :=
  Act.Within.get_of_parts (ps := [.out, .host, .que]) ((qpWritten_within q irq).mono (by rfl)) (by rfl)

/-- A queue pair that fails stops with its code. -/
theorem qpFail_run {m : Mach} {q : Nat} (hst : m.get .QP_STATE q = qpEnabled) (code : Nat) : (qpFail q code).run m =
    (qpSignal q).run ((forget (.queue q) fetchTag 1).run ((Act.set .QP_ERR q code).run ((Act.set .QP_STATE q qpError).run m))) := by
  rw [qpFail, Act.run_read, Act.run_when, if_pos (by rw [hst]; rfl)]
  simp only [Act.run_all_cons, Act.run_all_one]

theorem qpFail_descs (q code : Nat) (m : Mach) : ((qpFail q code).run m).que.descs = m.que.descs := by
  by_cases hst : m.get .QP_STATE q = qpEnabled
  · rw [qpFail_run hst, qpSignal_descs, forget_que]
    rfl
  · rw [qpFail, Act.run_read, Act.run_when, if_neg (by simpa using hst)]

theorem qpFail_error {m : Mach} {q : Nat} (hst : m.get .QP_STATE q = qpEnabled) {code : Nat} (hcode : code < 2 ^ 8) :
    ((qpFail q code).run m).get .QP_STATE q = qpError ∧ ((qpFail q code).run m).get .QP_ERR q = code := by
  rw [qpFail_run hst, qpSignal_get, forget_get, qpSignal_get, forget_get]
  exact ⟨(Mach.get_set_other (by decide) ..).trans (Mach.get_set _ _ _ _ (by decide)), Mach.get_set _ _ _ _ hcode⟩

theorem qpFail_others (q code : Nat) (m : Mach) : Mach.Others .QP_STATE q m ((qpFail q code).run m) :=
  fun _ hj => qpFail_get hj code (by decide) m

/-- What an error of a ring leaves (R240). -/
theorem completes_qpFail {c : Instr} {s : State} {a : Act} {q code : Nat} (e : exec c s = s.act a) (hrun : a.run s.mach = (qpFail q code).run s.mach)
    (hst : s.mach.get .QP_STATE q = qpEnabled) (hcode : code < 2 ^ 8) :
    Completes c s [.QP_STATE, .QP_ERR] [.out, .dir, .host, .que] fun t =>
      t.get .QP_STATE q = qpError ∧ t.get .QP_ERR q = code ∧ t.que.descs = s.mach.que.descs ∧ Mach.Others .QP_STATE q s.mach t := by
  obtain ⟨hstate, herr⟩ := qpFail_error hst hcode
  exact completes_as e hrun (qpFail_within q code) (by rfl) ⟨hstate, herr, qpFail_descs q code s.mach, qpFail_others q code s.mach⟩

/-! ### Counts -/

theorem qpCounts_get (q : Nat) (f : Fld) (j : Nat) (m : Mach) : ((qpCounts q).run m).get f j =
    if f = .QP_BUSY ∧ j = q then Bits.ofBool ((m.que.descs.filter fun d => d.q == q).length != 0) % 2 ^ 1
    else if f = .QP_INFLIGHT ∧ j = q then (m.que.descs.filter fun d => d.q == q).length % 2 ^ 9 else m.get f j := by
  rw [qpCounts, Act.run_read, Act.run_all_cons, Act.run_all_one, Mach.get_set_ite, Mach.get_set_ite]
  rfl

/-! ### Fetch -/

theorem mayFetch_enabled {m : Mach} {q : Nat} (h : m.mayFetch q = true) : m.get .QP_STATE q = qpEnabled := by
  simp only [Mach.mayFetch, Bool.and_eq_true, beq_iff_eq] at h
  obtain ⟨⟨⟨⟨⟨hst, _⟩, _⟩, _⟩, _⟩, _⟩ := h
  exact hst

/-- The descriptor that bytes at the submission head are. -/
def newDesc (m : Mach) (q : Nat) (bs : List Byte) : Desc :=
  { q := q, idx := m.get .QP_SQ_HEAD q, seq := m.que.nextSeq, raw := bs }

/-- A descriptor joins those in flight. -/
def joinFlight (d : Desc) : Act := .prim (.que fun x => { x with descs := x.descs ++ [d], nextSeq := x.nextSeq + 1 })

theorem fetched_run (q : Nat) (bs : List Byte) (m : Mach) : (fetched q bs).run m =
    (event (.queue (islandOf q)) 0x80 0 1).run ((qpCounts q).run ((Act.inc .QP_FETCHED q 1).run
      ((Act.set .QP_SQ_HEAD q ((m.get .QP_SQ_HEAD q + 1) % m.sqSize q)).run ((joinFlight (newDesc m q bs)).run m)))) := by
  rw [fetched, Act.run_read]
  dsimp only
  simp only [Act.run_all_cons, Act.run_all_one]
  rfl

theorem fetched_descs (q : Nat) (bs : List Byte) (m : Mach) : ((fetched q bs).run m).que.descs = m.que.descs ++ [newDesc m q bs] := by
  rw [fetched_run, (event_within _ _ _ _).que _ (by rfl), (qpCounts_within q).que _ (by rfl)]
  rfl

theorem fetched_get {f : Fld} (hf : f ≠ .SND_K_VALUE ∧ f ≠ .SND_SUM) (q j : Nat) (bs : List Byte) (m : Mach) :
    ((fetched q bs).run m).get f j =
      if f = .QP_BUSY ∧ j = q then 1
      else if f = .QP_INFLIGHT ∧ j = q then ((m.que.descs.filter fun d => d.q == q).length + 1) % 2 ^ 9
      else if f = .QP_FETCHED ∧ j = q then (m.get .QP_FETCHED q + 1) % 2 ^ 48
      else if f = .QP_SQ_HEAD ∧ j = q then (m.get .QP_SQ_HEAD q + 1) % m.sqSize q % 2 ^ 16
      else m.get f j := by
  have hlen : ((m.que.descs ++ [newDesc m q bs]).filter fun d => d.q == q).length = (m.que.descs.filter fun d => d.q == q).length + 1 := by
    rw [List.filter_append, List.length_append]
    simp [newDesc]
  have hbusy (n : Nat) : Bits.ofBool (n + 1 != 0) % 2 ^ 1 = 1 := by
    simp [Bits.ofBool]
  have hjoin (g : Fld) (i : Nat) : ((joinFlight (newDesc m q bs)).run m).get g i = m.get g i := rfl
  have hdescs : ((Act.inc .QP_FETCHED q 1).run ((Act.set .QP_SQ_HEAD q ((m.get .QP_SQ_HEAD q + 1) % m.sqSize q)).run
      ((joinFlight (newDesc m q bs)).run m))).que.descs = m.que.descs ++ [newDesc m q bs] := rfl
  have hfetched : ((Act.set .QP_SQ_HEAD q ((m.get .QP_SQ_HEAD q + 1) % m.sqSize q)).run
      ((joinFlight (newDesc m q bs)).run m)).get .QP_FETCHED q = m.get .QP_FETCHED q := (Mach.get_set_other (by decide) ..).trans (hjoin ..)
  rw [fetched_run, event_get _ _ _ _ _ hf, qpCounts_get, hdescs, hlen, hbusy, Mach.get_inc_ite, hfetched, Mach.get_set_ite, hjoin]
  rfl

theorem fetched_others (q : Nat) (bs : List Byte) (m : Mach) : Mach.Others .QP_SQ_HEAD q m ((fetched q bs).run m) := fun j hj => by
  rw [fetched_get (by decide)]
  simp [hj]

theorem descriptorFetch_run_host {m : Mach} {q : Nat} {host : HostRead} (h : m.mayFetch q = true) (hhost : m.get .QP_SQ_HOST q = 1) :
    (descriptorFetch q host).run m = (match m.hostBytes (m.get .QP_OWNER q) 64 host with
      | some bs => fetched q bs
      | none => qpFail q 3).run m := by
  rw [descriptorFetch, Act.run_read]
  dsimp only
  rw [Act.run_when, if_pos h, if_pos (flag_eq_true hhost)] <;> rfl

theorem descriptorFetch_run_read {m : Mach} {q : Nat} {host : HostRead} {bs : List Byte} (h : m.mayFetch q = true)
    (hhost : m.get .QP_SQ_HOST q = 1) (hb : m.hostBytes (m.get .QP_OWNER q) 64 host = some bs) :
    (descriptorFetch q host).run m = (fetched q bs).run m := by
  rw [descriptorFetch_run_host h hhost, hb]

theorem descriptorFetch_run_failed {m : Mach} {q : Nat} {host : HostRead} (h : m.mayFetch q = true)
    (hhost : m.get .QP_SQ_HOST q = 1) (hb : m.hostBytes (m.get .QP_OWNER q) 64 host = none) :
    (descriptorFetch q host).run m = (qpFail q 3).run m := by
  rw [descriptorFetch_run_host h hhost, hb]

theorem descriptorFetch_run_unmapped {m : Mach} {q : Nat} {host : HostRead} (h : m.mayFetch q = true)
    (hhost : m.get .QP_SQ_HOST q ≠ 1) (hask : m.asked (.queue q) fetchTag 1 = [])
    (hl : m.ownerLine (m.get .QP_OWNER q) (m.get .QP_SQ_BASE q + 64 * m.get .QP_SQ_HEAD q) = none) :
    (descriptorFetch q host).run m = (qpFail q 2).run m := by
  rw [descriptorFetch, Act.run_read]
  dsimp only
  rw [Act.run_when, if_pos h, if_neg (by rw [flag_eq_false hhost]; decide), hask, if_pos (by rfl), hl]

theorem descriptorFetch_run_ask {m : Mach} {q l : Nat} {host : HostRead} (h : m.mayFetch q = true)
    (hhost : m.get .QP_SQ_HOST q ≠ 1) (hask : m.asked (.queue q) fetchTag 1 = [])
    (hl : m.ownerLine (m.get .QP_OWNER q) (m.get .QP_SQ_BASE q + 64 * m.get .QP_SQ_HEAD q) = some l) :
    (descriptorFetch q host).run m = (Act.seq (ask (.queue q) fetchTag l .rdCur id) (fetchTake q)).run m := by
  rw [descriptorFetch, Act.run_read]
  dsimp only
  rw [Act.run_when, if_pos h, if_neg (by rw [flag_eq_false hhost]; decide), hask, if_pos (by rfl), hl]

theorem descriptorFetch_run_answered {m : Mach} {q : Nat} {host : HostRead} {r : RemReq} {rs : List RemReq} (h : m.mayFetch q = true)
    (hhost : m.get .QP_SQ_HOST q ≠ 1) (hask : m.asked (.queue q) fetchTag 1 = r :: rs) :
    (descriptorFetch q host).run m = (fetchTake q).run m := by
  rw [descriptorFetch, Act.run_read]
  dsimp only
  rw [Act.run_when, if_pos h, if_neg (by rw [flag_eq_false hhost]; decide), hask, if_neg (by simp)]

theorem fetchTake_run_line {m : Mach} {q : Nat} {r : RemReq} {rs : List RemReq} {l : Line} (hask : m.asked (.queue q) fetchTag 1 = r :: rs)
    (hdone : r.done = true) (hval : r.val = some l) :
    (fetchTake q).run m = (Act.seq (forget (.queue q) fetchTag 1) (fetched q (lineBytes l))).run m := by
  rw [fetchTake, Act.run_read, hask]
  dsimp only
  rw [Act.run_when, if_pos hdone, hval]

theorem fetchTake_run_poison {m : Mach} {q : Nat} {r : RemReq} {rs : List RemReq} (hask : m.asked (.queue q) fetchTag 1 = r :: rs)
    (hdone : r.done = true) (hval : r.val = none) :
    (fetchTake q).run m = (Act.seq (forget (.queue q) fetchTag 1) (qpFail q 1)).run m := by
  rw [fetchTake, Act.run_read, hask]
  dsimp only
  rw [Act.run_when, if_pos hdone, hval]

/-! ### Completions -/

theorem descAt_q {m : Mach} {q idx : Nat} {d : Desc} (h : m.descAt q idx = some d) : d.q = q := by
  have := List.find?_some h
  simp only [Bool.and_eq_true, beq_iff_eq] at this
  exact this.1

theorem dropDesc_descs (d : Desc) (m : Mach) : ((dropDesc d).run m).que.descs = m.que.descs.filter fun e => e.seq != d.seq := by
  rw [dropDesc, Act.run_all_cons, Act.run_all_cons, Act.run_all_one, (qpCounts_within d.q).que _ (by rfl), forgetDesc]
  show ((forget _ _ _).run m).que.descs.filter _ = _
  rw [forget_que]

theorem entryWritten_descs (d : Desc) (m : Mach) : ((entryWritten d).run m).que.descs = m.que.descs.filter fun e => e.seq != d.seq := by
  simp only [entryWritten, Act.run_all_cons, Act.run_all_one]
  rw [qpWritten_descs, (event_within _ _ _ _).que _ (by rfl)]
  exact dropDesc_descs d m

theorem entryWritten_completed (d : Desc) (m : Mach) :
    ((entryWritten d).run m).get .QP_COMPLETED d.q = (m.get .QP_COMPLETED d.q + 1) % 2 ^ 48 := by
  simp only [entryWritten, Act.run_all_cons, Act.run_all_one]
  rw [qpWritten_get, event_get _ _ _ _ _ (by decide), Mach.get_inc, (dropDesc_within d).get _ _ _ (by rfl) (by rfl)]
  rfl

theorem entryDiscarded_descs (d : Desc) (m : Mach) :
    ((entryDiscarded d).run m).que.descs = m.que.descs.filter fun e => e.seq != d.seq := by
  simp only [entryDiscarded, Act.run_all_cons, Act.run_all_one]
  rw [qpFail_descs]
  exact dropDesc_descs d m

theorem entryDiscarded_discarded (d : Desc) (m : Mach) :
    ((entryDiscarded d).run m).get .QP_COMPL_DISCARDED d.q = (m.get .QP_COMPL_DISCARDED d.q + 1) % 2 ^ 48 := by
  simp only [entryDiscarded, Act.run_all_cons, Act.run_all_one]
  rw [(qpFail_within d.q 4).get _ _ _ (by rfl) (by rfl), Mach.get_inc,
    (dropDesc_within d).get _ _ _ (by rfl) (by rfl)]
  rfl

theorem entryDiscarded_error {d : Desc} {m : Mach} (hst : m.get .QP_STATE d.q = qpEnabled) :
    ((entryDiscarded d).run m).get .QP_STATE d.q = qpError ∧ ((entryDiscarded d).run m).get .QP_ERR d.q = 4 := by
  simp only [entryDiscarded, Act.run_all_cons, Act.run_all_one]
  refine qpFail_error ?_ (by decide)
  rw [Mach.get_inc_other (by decide), (dropDesc_within d).get _ _ _ (by rfl) (by rfl), hst]

theorem cqAdvance_tail (q : Nat) (m : Mach) :
    ((cqAdvance q).run m).get .QP_CQ_TAIL q = (m.get .QP_CQ_TAIL q + 1) % m.cqSize q % 2 ^ 16 ∧
    Mach.Others .QP_CQ_TAIL q m ((cqAdvance q).run m) := by
  have hphase (c : Bool) (v j : Nat) (a : Mach) : ((Act.when c (.set .QP_CQ_PHASE q v)).run a).get .QP_CQ_TAIL j = a.get .QP_CQ_TAIL j := by
    rw [Act.run_when]
    split
    · exact Mach.get_set_other (by decide) ..
    · rfl
  rw [cqAdvance, Act.run_read]
  dsimp only
  rw [Act.run_all_cons, Act.run_all_one]
  exact ⟨(hphase ..).trans (Mach.get_set_mod ..), fun j hj => (hphase ..).trans (Mach.others_set _ _ _ _ j hj)⟩

theorem cqAdvance_phase (q : Nat) (m : Mach) : ((cqAdvance q).run m).get .QP_CQ_PHASE q =
    if (m.get .QP_CQ_TAIL q + 1) % m.cqSize q = 0 then (1 - m.get .QP_CQ_PHASE q) % 2 else m.get .QP_CQ_PHASE q := by
  rw [cqAdvance, Act.run_read]
  dsimp only
  rw [Act.run_all_cons, Act.run_all_one, Act.run_when]
  by_cases h : (m.get .QP_CQ_TAIL q + 1) % m.cqSize q = 0
  · rw [if_pos (by rw [h]; rfl), if_pos h, Mach.get_set_mod]
    rfl
  · rw [if_neg (by simpa using h), if_neg h, Mach.get_set_other (by decide)]

section Complete

variable {m : Mach} {q idx : Nat} {d : Desc} (hd : m.descAt q idx = some d) (hdone : d.done = true) (hphase : d.phase ≠ phaseEntry)

include hd hdone hphase

theorem descriptorComplete_run_host (hcq : m.get .QP_CQ_HOST q = 1) (ok : Bool) : (descriptorComplete q idx ok).run m =
    (if ok && m.hostReach (m.get .QP_OWNER q) then .all [.emit (.dmaWrite (m.get .QP_OWNER q)
        (m.get .QP_CQ_BASE q + 16 * m.get .QP_CQ_TAIL q) (m.entry d) false), cqAdvance q, entryWritten d]
      else entryDiscarded d).run m := by
  rw [descriptorComplete, Act.run_read, hd, Option.filter_some_pos hdone, Act.run_some?_some]
  dsimp only
  rw [if_neg hphase, if_pos (flag_eq_true hcq)]

theorem descriptorComplete_run_line {l : Nat} (hcq : m.get .QP_CQ_HOST q ≠ 1)
    (hl : m.ownerLine (m.get .QP_OWNER q) (m.get .QP_CQ_BASE q + 16 * m.get .QP_CQ_TAIL q) = some l) (ok : Bool) :
    (descriptorComplete q idx ok).run m = (Act.all [setDesc d.seq fun d => { d with phase := phaseEntry },
        askWrite (.queue q) (d.tag0 3) l
          (some (lineWith ((m.get .QP_CQ_BASE q + 16 * m.get .QP_CQ_TAIL q) % 64) (m.entry d)))
          (maskOf ((m.get .QP_CQ_BASE q + 16 * m.get .QP_CQ_TAIL q) % 64) 16) 0 0,
        cqAdvance q, entryTake d]).run m := by
  rw [descriptorComplete, Act.run_read, hd, Option.filter_some_pos hdone, Act.run_some?_some]
  dsimp only
  rw [if_neg hphase, if_neg (by rw [flag_eq_false hcq]; decide), hl]

end Complete

/-- An entry that host memory takes is written at the tail. -/
theorem completes_entry {s : State} {q idx : Nat} {d : Desc} (hd : s.mach.descAt q idx = some d) (hdone : d.done = true)
    (hphase : d.phase ≠ phaseEntry) (hcq : s.mach.get .QP_CQ_HOST q = 1) (hreach : s.mach.hostReach (s.mach.get .QP_OWNER q) = true) :
    Completes (.descriptorComplete q idx true) s (countFields ++ [.QP_BUSY, .QP_CQ_TAIL, .QP_CQ_PHASE, .QP_INFLIGHT, .QP_COMPLETED])
      [.out, .dir, .host, .que] fun t =>
      (∃ r, t.out = s.mach.out ++ .dmaWrite (s.mach.get .QP_OWNER q) (s.mach.get .QP_CQ_BASE q + 16 * s.mach.get .QP_CQ_TAIL q)
        (s.mach.entry d) false :: r) ∧
      t.get .QP_CQ_TAIL q = (s.mach.get .QP_CQ_TAIL q + 1) % s.mach.cqSize q % 2 ^ 16 ∧
      t.get .QP_CQ_PHASE q = (if (s.mach.get .QP_CQ_TAIL q + 1) % s.mach.cqSize q = 0 then (1 - s.mach.get .QP_CQ_PHASE q) % 2
        else s.mach.get .QP_CQ_PHASE q) ∧
      t.get .QP_COMPLETED q = (s.mach.get .QP_COMPLETED q + 1) % 2 ^ 48 ∧
      t.que.descs = s.mach.que.descs.filter (fun e => e.seq != d.seq) ∧ Mach.Others .QP_CQ_TAIL q s.mach t := by
  have hq := descAt_q hd
  have hrun := (descriptorComplete_run_host hd hdone hphase hcq true).trans (by rw [hreach, Bool.and_self, if_pos rfl])
  refine completes_as rfl hrun (K := places (countFields ++ [.QP_BUSY, .QP_CQ_TAIL, .QP_CQ_PHASE, .QP_INFLIGHT, .QP_COMPLETED])
      [.out, .dir, .host, .que]) ⟨within_emit (by rfl), (cqAdvance_within q).mono (by rfl),
        (entryWritten_within d).mono (by rfl)⟩ (inside_refl _) ?_
  simp only [Act.run_all_cons, Act.run_all_one]
  set o : Out := .dmaWrite (s.mach.get .QP_OWNER q) (s.mach.get .QP_CQ_BASE q + 16 * s.mach.get .QP_CQ_TAIL q) (s.mach.entry d) false
  obtain ⟨htail, hothers⟩ := cqAdvance_tail q ((Act.emit o).run s.mach)
  have hget {f : Fld} (hf : f ∈ [Fld.QP_CQ_TAIL, .QP_CQ_PHASE]) (j : Nat) (a : Mach) : ((entryWritten d).run a).get f j = a.get f j :=
    (entryWritten_within d).get_of_mem (by rfl) (by rfl) hf j a
  refine ⟨?_, (hget (by decide) ..).trans htail, (hget (by decide) ..).trans (cqAdvance_phase ..), ?_, ?_,
    fun j hj => (hget (by decide) ..).trans (hothers j hj)⟩
  · obtain ⟨r, hr⟩ := (entryWritten d).run_out_append ((cqAdvance q).run ((Act.emit o).run s.mach))
    refine ⟨r, ?_⟩
    rw [hr, (cqAdvance_within q).out _ (by rfl)]
    exact List.append_assoc s.mach.out [o] r
  · have := entryWritten_completed d ((cqAdvance q).run ((Act.emit o).run s.mach))
    rw [hq, (cqAdvance_within q).get _ _ _ (by rfl) (by rfl)] at this
    exact this
  · rw [entryWritten_descs, (cqAdvance_within q).que _ (by rfl)]
    rfl

/-- An entry that host memory does not take is discarded. -/
theorem completes_discard {s : State} {q idx : Nat} {ok : Bool} {d : Desc} (hd : s.mach.descAt q idx = some d) (hdone : d.done = true)
    (hphase : d.phase ≠ phaseEntry) (hcq : s.mach.get .QP_CQ_HOST q = 1) (hno : ok = false ∨ s.mach.hostReach (s.mach.get .QP_OWNER q) = false) :
    Completes (.descriptorComplete q idx ok) s [.QP_BUSY, .QP_STATE, .QP_ERR, .QP_INFLIGHT, .QP_COMPL_DISCARDED]
      [.out, .dir, .host, .que] fun t =>
      t.get .QP_COMPL_DISCARDED q = (s.mach.get .QP_COMPL_DISCARDED q + 1) % 2 ^ 48 ∧
      (s.mach.get .QP_STATE q = qpEnabled → t.get .QP_STATE q = qpError ∧ t.get .QP_ERR q = 4) ∧
      t.que.descs = s.mach.que.descs.filter (fun e => e.seq != d.seq) := by
  have hq := descAt_q hd
  have hrun := (descriptorComplete_run_host hd hdone hphase hcq ok).trans (by rw [if_neg (ranges_refused hno)])
  subst hq
  exact completes_as rfl hrun (entryDiscarded_within d) (by rfl)
    ⟨entryDiscarded_discarded d s.mach, fun hst => entryDiscarded_error hst, entryDiscarded_descs d s.mach⟩

/-! ### Coalesced interrupts -/

theorem irqCoalesceTimeout_run {m : Mach} {q : Nat} (husec : m.get .QP_IRQ_USEC q ≠ 0) (hsince : m.sinceMsg q ≠ 0)
    (hen : m.get .QP_IRQ_EN q = 1) (hbme : m.get .QP_OWNER q ∉ m.host.bmeOff)
    (hmask : (m.get .QP_OWNER q, m.get .QP_VECTOR q) ∉ m.host.msixMasked) :
    (irqCoalesceTimeout q).run m = (Act.seq (.prim (.que fun x => { x with since := x.since.erase q, firstAt := x.firstAt.erase q }))
      (.emit (.msix (m.get .QP_OWNER q) (m.get .QP_VECTOR q)))).run m := by
  rw [irqCoalesceTimeout, Act.run_read, Act.run_when, if_pos (by simp [husec, hsince]), qpSignal, Act.run_read, Act.run_when,
    if_pos (flag_eq_true hen), Act.run_all_cons, Act.run_all_one, msixSend, Act.run_read]
  simp [hbme, hmask]

/-- Settles O23: fetch by where the ring lies and what it returns, the entry by where its ring lies and whether it is taken. -/
theorem descriptorFlow : Obligations.DescriptorFlow := by
  unfold Obligations.DescriptorFlow
  refine ⟨?_, ?_, ?_, ?_, ?_, ?_, ?_, ?_, ?_, ?_, ?_, ?_, ?_⟩
  case refine_1 =>
    intro s q host bs h hhost hb
    refine completes_as rfl (descriptorFetch_run_read h hhost hb) (fetched_within q bs) (by rfl)
      ⟨fetched_descs q bs s.mach, ?_, ?_, ?_, ?_, fetched_others q bs s.mach⟩
    all_goals rw [fetched_get (by decide)]
    all_goals simp
  case refine_2 =>
    exact fun s q host h hhost hb => completes_qpFail rfl (descriptorFetch_run_failed h hhost hb) (mayFetch_enabled h) (by decide)
  case refine_3 =>
    exact fun s q host h hhost hask hl =>
      completes_qpFail rfl (descriptorFetch_run_unmapped h hhost hask hl) (mayFetch_enabled h) (by decide)
  case refine_4 =>
    exact fun s q l host h hhost hask hl =>
      completes_of rfl (descriptorFetch_within q host) (by rfl) (descriptorFetch_run_ask h hhost hask hl)
  case refine_5 =>
    intro s q host r rs l h hhost hask hdone hval
    have hrun := (descriptorFetch_run_answered (host := host) h hhost hask).trans (fetchTake_run_line hask hdone hval)
    have hnew : newDesc ((forget (.queue q) fetchTag 1).run s.mach) q (lineBytes l) = newDesc s.mach q (lineBytes l) := by
      rw [newDesc, forget_get, forget_que, newDesc]
    refine completes_as rfl hrun (K := places (countFields ++ [.QP_SQ_HEAD, .QP_FETCHED, .QP_INFLIGHT, .QP_BUSY]) [.dir, .que])
      ⟨(forget_within _ _ _).mono (by rfl), (fetched_within _ _).mono (by rfl)⟩ (inside_refl _) ⟨?_, ?_, fun j hj => ?_⟩
    · rw [Act.run_seq, fetched_descs, hnew, forget_que, newDesc]
    · rw [Act.run_seq, fetched_get (by decide), Mach.sqSize, forget_get, forget_get]
      simp [Mach.sqSize, forget_get]
    · exact (fetched_others q _ _ j hj).trans (forget_get ..)
  case refine_6 =>
    intro s q host r rs h hhost hask hdone hval
    have hrun := (descriptorFetch_run_answered (host := host) h hhost hask).trans (fetchTake_run_poison hask hdone hval)
    obtain ⟨hstate, herr⟩ := qpFail_error ((forget_get (.queue q) fetchTag 1 .QP_STATE q s.mach).trans (mayFetch_enabled h)) (code := 1) (by decide)
    refine completes_as rfl hrun (K := places [.QP_STATE, .QP_ERR] [.out, .dir, .host, .que])
      ⟨(forget_within _ _ _).mono (by rfl), (qpFail_within _ _).mono (by rfl)⟩ (inside_refl _) ⟨hstate, herr, ?_⟩
    rw [Act.run_seq, qpFail_descs, forget_que]
  case refine_7 => exact fun s q idx d hd hdone hphase hcq hreach => completes_entry hd hdone hphase hcq hreach
  case refine_8 => exact fun s q idx ok d hd hdone hphase hcq hno => completes_discard hd hdone hphase hcq hno
  case refine_9 =>
    exact fun s q idx l ok d hd hdone hphase hcq hl => completes_of rfl (descriptorComplete_within q idx ok) (by rfl)
      (descriptorComplete_run_line hd hdone hphase hcq hl ok)
  case refine_10 =>
    intro s k host d hd
    refine completes_of rfl (descriptorTurn_within k host) (by rfl) ?_
    rw [descriptorTurn, Act.run_read, hd, Act.run_some?_some]
  case refine_11 =>
    intro s k host hno
    refine completes_as (a := descriptorTurn k host) (b := .skip) rfl ?_ (within_skip (K := 0)) (by rfl) rfl
    have hnone : ([3, 2, 1, 0].findSome? fun p => s.mach.nextQp k p) = none := by
      simp [List.findSome?, hno]
    rw [descriptorTurn, Act.run_read, hnone, Act.run_some?_none, Act.run_skip]
  case refine_12 =>
    intro s q husec hsince hen hbme hmask
    refine completes_as rfl (irqCoalesceTimeout_run husec hsince hen hbme hmask) (K := places [] [.out, .que])
      ⟨within_que (by rfl), within_emit (by rfl)⟩ (inside_refl _) ⟨rfl, ?_⟩
    show ((s.mach.que.since.erase q).find? q).getD 0 = 0
    rw [SMap.find?_erase_self]
    rfl
  case refine_13 =>
    intro s q hsince
    refine completes_as (a := irqCoalesceTimeout q) (b := .skip) rfl ?_ (within_skip (K := 0)) (by rfl) rfl
    rw [irqCoalesceTimeout, Act.run_read, Act.run_when, if_neg (by simp [hsince]), Act.run_skip]

end Sys2Proof.Machine
end

section
/-!
PROOF. O24, descriptors that end in their first turn (R230, R231, R234, R235, R241), and how a descriptor in flight changes.
-/

namespace Sys2Proof.Machine

/-! ### A descriptor in flight as it changes -/

/-- From `a` to `b` the descriptor of the number `seq` has become `e`; every other stands as it did. -/
def Mach.Carries (seq : Nat) (e : Desc) (a b : Mach) : Prop :=
  b.descOf seq = some e ∧ ∀ n, n ≠ seq → b.descOf n = a.descOf n

section Carries

variable {seq : Nat} {e : Desc} {a b : Mach}

theorem Mach.Carries.refl (h : a.descOf seq = some e) : Mach.Carries seq e a a := ⟨h, fun _ _ => rfl⟩

/-- What leaves the descriptors in flight as they are keeps it. -/
theorem Mach.Carries.keep (h : Mach.Carries seq e a b) {c : Mach} (hc : c.que.descs = b.que.descs) : Mach.Carries seq e a c := by
  obtain ⟨hself, hother⟩ := h
  refine ⟨?_, fun n hn => ?_⟩
  · rw [Mach.descOf, hc, ← hself, Mach.descOf]
  · rw [Mach.descOf, hc, ← hother n hn, Mach.descOf]

theorem Mach.Carries.within (h : Mach.Carries seq e a b) {p : Act} {K : Nat} (hp : p.Within K) (hK : K.testBit 616 = false) :
    Mach.Carries seq e a (p.run b) :=
  h.keep (congrArg QueSt.descs (hp.que b hK))

theorem find?_map_self {l : List Desc} {f : Desc → Desc} (hf : ∀ d, (f d).seq = d.seq) (seq : Nat) :
    (l.map fun d => if d.seq = seq then f d else d).find? (fun d => d.seq == seq) = (l.find? fun d => d.seq == seq).map f := by
  induction l with
  | nil => rfl
  | cons d l ih =>
    by_cases hd : d.seq = seq
    · simp [hd, hf]
    · simp [hd, ih]

theorem find?_map_other {l : List Desc} {f : Desc → Desc} (hf : ∀ d, (f d).seq = d.seq) {seq n : Nat} (hn : n ≠ seq) :
    (l.map fun d => if d.seq = seq then f d else d).find? (fun d => d.seq == n) = l.find? fun d => d.seq == n := by
  induction l with
  | nil => rfl
  | cons d l ih =>
    by_cases hd : d.seq = seq
    · have hdn : ¬ d.seq = n := fun h => hn (h.symm.trans hd)
      simp only [List.map_cons, if_pos hd, List.find?_cons, hf, beq_eq_false_iff_ne.2 hdn, ih]
    · simp only [List.map_cons, if_neg hd, List.find?_cons, ih]

theorem Mach.Carries.setDesc (h : Mach.Carries seq e a b) {f : Desc → Desc} (hf : ∀ d, (f d).seq = d.seq) :
    Mach.Carries seq (f e) a ((setDesc seq f).run b) := by
  obtain ⟨hself, hother⟩ := h
  refine ⟨?_, fun n hn => ?_⟩
  · refine (find?_map_self hf seq).trans ?_
    rw [Mach.descOf] at hself
    rw [hself, Option.map_some]
  · exact (find?_map_other hf hn).trans (hother n hn)

/-- A descriptor with a failure noted: the first stands. -/
def noteFail (st det : Nat) (d : Desc) : Desc := if d.status = 0 then { d with status := st, detail := det } else d

theorem noteFail_seq (st det : Nat) (d : Desc) : (noteFail st det d).seq = d.seq := by
  rw [noteFail]
  split <;> rfl

theorem noteFail_of_none {d : Desc} (h : d.status = 0) (st det : Nat) : noteFail st det d = { d with status := st, detail := det } :=
  if_pos h

theorem Mach.Carries.fail (h : Mach.Carries seq e a b) (st det : Nat) :
    Mach.Carries seq (noteFail st det e) a ((failDesc seq st det).run b) :=
  h.setDesc (noteFail_seq st det)

/-- A descriptor whose last access is made. -/
def finished (d : Desc) : Desc := { d with done := true, phase := 0 }

/-- What follows the end of a descriptor leaves those in flight. -/
theorem finishDesc_tail_within (x : Option Desc) (m : Mach) : (Act.some? x fun d => .seq (forgetDesc d)
    (tagOp (66 + islandOf d.q) d.op ((m.ownerLine (m.get .QP_OWNER d.q) d.dst).getD 0)
      ((m.ownerAtoll (m.get .QP_OWNER d.q) d.dst).getD 0) 0 [1, 6])).Within (places [.SND_T_LOST] [.freeCtr, .dir, .snd]) := by
  cases x with
  | none => exact within_skip
  | some d => exact ⟨(forgetDesc_within d).mono (by rfl), (tagOp_within _ _ _ _ _ _).mono (by rfl)⟩

theorem Mach.Carries.finish (h : Mach.Carries seq e a b) :
    Mach.Carries seq (finished e) a ((finishDesc seq).run b) := by
  rw [finishDesc, Act.run_read, Act.run_seq]
  exact (h.setDesc (f := finished) fun _ => rfl).within (finishDesc_tail_within _ b) (by rfl)

theorem Mach.Carries.failEnd (h : Mach.Carries seq e a b) (st det : Nat) :
    Mach.Carries seq (finished (noteFail st det e)) a ((failEnd seq st det).run b) := by
  rw [Sys2Proof.Machine.failEnd, Act.run_seq]
  exact (h.fail st det).finish

end Carries

/-- A descriptor that is done with a status has ended with it. -/
theorem Mach.Carries.ended {d e : Desc} {a b : Mach} (h : Mach.Carries d.seq e a b) (hdone : e.done = true) {st : Nat} (hst : e.status = st)
    (hd : e.q = d.q ∧ e.idx = d.idx ∧ e.raw = d.raw) : Mach.Ended d st a b :=
  ⟨⟨e, h.1, hdone, hst, hd⟩, h.2⟩

/-! ### Starting a descriptor -/

/-- A descriptor that has started. -/
def started (d : Desc) : Desc := { d with started := true }

theorem started_of {d : Desc} (h : d.started = true) : started d = d := by
  cases d
  cases h
  rfl

theorem begun_within (d : Desc) : d.begun.Within (places [] [.que]) := by
  rw [Desc.begun]
  split
  · exact within_skip
  · exact (setDesc_within _ _).mono (by rfl)

theorem begun_carries {m : Mach} {d : Desc} (h : m.descOf d.seq = some d) : Mach.Carries d.seq (started d) m (d.begun.run m) := by
  rw [Desc.begun]
  split
  · next hs =>
    rw [started_of hs]
    exact .refl h
  · exact (Mach.Carries.refl h).setDesc fun _ => rfl

theorem opTurn_run {m : Mach} {q idx : Nat} {d : Desc} {mine : Desc → Bool} (h : m.Turn q idx d) (hmine : mine d = true) (host : HostRead) :
    (opTurn q idx mine host).run m = (runDesc d host).run m := by
  obtain ⟨hat, _, hrun⟩ := h
  rw [opTurn, Act.run_read, hat, Option.filter_some_pos (p := fun d => mine d && m.runnable d) (by rw [hmine, hrun]; rfl),
    Act.run_some?_some]

/-- A descriptor that has started, or that passes its checks, takes its turn. -/
theorem runDesc_run {m : Mach} {d : Desc} (h : d.started = true ∨ m.startStatus d = 0) (host : HostRead) :
    (runDesc d host).run m = (Act.seq d.begun (turnDesc d host)).run m := by
  rw [runDesc, Act.run_read, Desc.begun]
  by_cases hs : d.started = true
  · rw [if_pos hs, if_pos hs, Act.run_seq, Act.run_skip]
  · rw [if_neg hs, if_neg hs, if_neg (not_not.2 (h.resolve_left hs))]

/-- One that fails a check ends with its status. -/
theorem runDesc_run_refused {m : Mach} {d : Desc} (hs : d.started = false) (h : m.startStatus d ≠ 0) (host : HostRead) :
    (runDesc d host).run m = (Act.seq d.begun (failEnd d.seq (m.startStatus d) 0)).run m := by
  rw [runDesc, Act.run_read, Desc.begun, hs, if_neg (by decide), if_pos h, if_neg (by decide)]

/-- A turn that comes to a program on the descriptor as it has started. -/
theorem opTurn_run_turn {m : Mach} {q idx : Nat} {d : Desc} {mine : Desc → Bool} (h : m.Turn q idx d) (hmine : mine d = true)
    (hok : d.started = true ∨ m.startStatus d = 0) {host : HostRead} {p : Act} (hp : turnDesc d host = p) :
    (opTurn q idx mine host).run m = (Act.seq d.begun p).run m := by
  rw [opTurn_run h hmine, runDesc_run hok, hp]

theorem completes_startFail {c : Instr} {s : State} {q idx : Nat} {d : Desc} {mine : Desc → Bool} {host : HostRead}
    (e : exec c s = s.act (opTurn q idx mine host)) (h : s.mach.Turn q idx d) (hmine : mine d = true) (hs : d.started = false)
    (hst : d.status = 0) {st : Nat} (hbad : s.mach.startStatus d = st) (hne : st ≠ 0) :
    Completes c s [.SND_T_LOST] [.freeCtr, .dir, .snd, .que] fun t => Mach.Ended d st s.mach t := by
  subst hbad
  have hrun := (opTurn_run h hmine host).trans (runDesc_run_refused hs hne host)
  refine completes_as e hrun (K := places [.SND_T_LOST] [.freeCtr, .dir, .snd, .que])
    ⟨(begun_within d).mono (by rfl), (failEnd_within _ _ _).mono (by rfl)⟩ (inside_refl _) ?_
  rw [Act.run_seq]
  refine ((begun_carries h.2.1).failEnd _ 0).ended rfl ?_ ?_
  · rw [noteFail_of_none (d := started d) hst, finished]
  · rw [noteFail_of_none (d := started d) hst]
    exact ⟨rfl, rfl, rfl⟩

/-- A descriptor of an opcode that fails a check. -/
theorem completes_opFail {c : Instr} {s : State} {q idx k : Nat} {d : Desc} {host : HostRead} (h : s.mach.Turn q idx d) (hop : d.op = k)
    (hs : d.started = false) (hst : d.status = 0) (hne : s.mach.startStatus d ≠ 0)
    (e : exec c s = s.act (opTurn q idx (fun d => d.op == k) host)) :
    Completes c s [.SND_T_LOST] [.freeCtr, .dir, .snd, .que] fun t => Mach.Ended d (s.mach.startStatus d) s.mach t :=
  completes_startFail e h (beq_iff_eq.2 hop) hs hst rfl hne

/-- An operation that ends in its turn, with the status as it stands. -/
theorem completes_finish {c : Instr} {s : State} {q idx k : Nat} {d : Desc} {host : HostRead} (h : s.mach.Turn q idx d) (hop : d.op = k)
    (hok : d.started = true ∨ s.mach.startStatus d = 0) (hp : turnDesc d host = finishDesc d.seq)
    (e : exec c s = s.act (opTurn q idx (fun d => d.op == k) host)) :
    Completes c s [.SND_T_LOST] [.freeCtr, .dir, .snd, .que] fun t => Mach.Ended d d.status s.mach t := by
  refine completes_as e (opTurn_run_turn (mine := fun d => d.op == k) h (beq_iff_eq.2 hop) hok hp) (K := places [.SND_T_LOST] [.freeCtr, .dir, .snd, .que])
    ⟨(begun_within d).mono (by rfl), (finishDesc_within _).mono (by rfl)⟩ (inside_refl _) ?_
  rw [Act.run_seq]
  exact (begun_carries h.2.1).finish.ended rfl rfl ⟨rfl, rfl, rfl⟩

theorem turnDesc_of_nop {d : Desc} (h : d.op = 0) (host : HostRead) : turnDesc d host = finishDesc d.seq := by
  rw [turnDesc, h]
  rfl

theorem turnDesc_of_fence {d : Desc} (h : d.op = 1) (host : HostRead) : turnDesc d host = finishDesc d.seq := by
  rw [turnDesc, h]
  rfl

theorem startStatus_of_unknown (m : Mach) {d : Desc} (h : opKnown d.op = false) : m.startStatus d = stOpcode := by
  rw [Mach.startStatus, h]
  rfl

/-- Settles O24: NOP and FENCE come to their end; a check that fails comes to the end with its status, whatever the opcode. -/
theorem descriptorStarts : Obligations.DescriptorStarts := by
  unfold Obligations.DescriptorStarts
  refine ⟨?_, ?_, ?_, ?_, ?_, ?_, ?_, ?_, ?_, ?_, ?_, ?_, ?_, ?_, ?_, ?_, ?_, ?_, ?_⟩
  case refine_1 => exact fun s q idx d h hop hok => completes_finish h hop hok (turnDesc_of_nop hop _) rfl
  case refine_2 => exact fun s q idx d h hop hok => completes_finish h hop hok (turnDesc_of_fence hop _) rfl
  case refine_3 =>
    exact fun s q idx d h hop hs hst =>
      completes_startFail rfl h (by rw [hop]; rfl) hs hst (startStatus_of_unknown s.mach hop) (by decide)
  case refine_4 => exact fun s q idx d h hop hs hst hne => completes_opFail h hop hs hst hne rfl
  case refine_5 => exact fun s q idx d h hop hs hst hne => completes_opFail h hop hs hst hne rfl
  case refine_6 => exact fun s q idx host d h hop hs hst hne => completes_opFail h hop hs hst hne rfl
  case refine_7 => exact fun s q idx d h hop hs hst hne => completes_opFail h hop hs hst hne rfl
  case refine_8 => exact fun s q idx d h hop hs hst hne => completes_opFail h hop hs hst hne rfl
  case refine_9 => exact fun s q idx host d h hop hs hst hne => completes_opFail h hop hs hst hne rfl
  case refine_10 => exact fun s q idx d h hop hs hst hne => completes_opFail h hop hs hst hne rfl
  case refine_11 => exact fun s q idx d h hop hs hst hne => completes_opFail h hop hs hst hne rfl
  case refine_12 => exact fun s q idx d h hop hs hst hne => completes_opFail h hop hs hst hne rfl
  case refine_13 => exact fun s q idx d h hop hs hst hne => completes_opFail h hop hs hst hne rfl
  case refine_14 => exact fun s q idx d h hop hs hst hne => completes_opFail h hop hs hst hne rfl
  case refine_15 => exact fun s q idx d h hop hs hst hne => completes_opFail h hop hs hst hne rfl
  case refine_16 => exact fun s q idx host d h hop hs hst hne => completes_opFail h hop hs hst hne rfl
  case refine_17 => exact fun s q idx d h hop hs hst hne => completes_opFail h hop hs hst hne rfl
  case refine_18 => exact fun s q idx d h hop hs hst hne => completes_opFail h hop hs hst hne rfl
  case refine_19 => exact fun s q idx d h hop hs hst hne => completes_opFail h hop hs hst hne rfl

end Sys2Proof.Machine
end

section
/-!
PROOF. O25, data, atomic, rotation and record descriptors (R232 to R236, R238).
-/

namespace Sys2Proof.Machine

/-! ### The program of each opcode -/

theorem turnDesc_of_data {d : Desc} (h : d.op = 0x10 ∨ d.op = 0x11 ∨ d.op = 0x12 ∨ d.op = 0x13) (host : HostRead) :
    turnDesc d host = dataStep d.seq host := by
  rcases h with h | h | h | h <;> (rw [turnDesc, h]; rfl)

theorem turnDesc_of_atomic {d : Desc} (h : d.op = 0x30) (host : HostRead) : turnDesc d host = atomicStep d host := by
  rw [turnDesc, h]
  rfl

theorem turnDesc_of_rotate {d : Desc} (h : d.op = 0x40) (host : HostRead) : turnDesc d host = rotateStep d := by
  rw [turnDesc, h]
  rfl

theorem turnDesc_of_drain {d : Desc} (h : d.op = 0x50) (host : HostRead) : turnDesc d host = drainStep d := by
  rw [turnDesc, h]
  rfl

theorem turnDesc_of_summary {d : Desc} (h : d.op = 0x51) (hmode : d.num 32 1 = 0) (host : HostRead) : turnDesc d host = summaryStep d := by
  rw [turnDesc, h]
  exact if_pos hmode

theorem turnDesc_of_records {d : Desc} (h : d.op = 0x51) (hmode : d.num 32 1 ≠ 0) (host : HostRead) : turnDesc d host = recordsStep d := by
  rw [turnDesc, h]
  exact if_neg hmode

/-- A descriptor of an opcode takes its step: the sled is as the step leaves it. -/
theorem completes_step {c : Instr} {s : State} {q idx : Nat} {d : Desc} {mine : Desc → Bool} {host : HostRead} {p : Act} {K : Nat}
    {fs : List Fld} {ps : List Part} (h : s.mach.Turn q idx d) (hmine : mine d = true)
    (hok : d.started = true ∨ s.mach.startStatus d = 0) (hp : turnDesc d host = p) (hw : p.Within K)
    (hq : inside (places [] [.que]) (places fs ps) = true) (hK : inside K (places fs ps) = true)
    (e : exec c s = s.act (opTurn q idx mine host)) :
    Completes c s fs ps fun t => t = (Act.seq d.begun p).run s.mach :=
  completes_as e (opTurn_run_turn h hmine hok hp) (K := places fs ps) ⟨(begun_within d).mono hq, hw.mono hK⟩ (inside_refl _) rfl

/-- A descriptor whose step comes to a program that ends it with a status. -/
theorem completes_end {c : Instr} {s : State} {q idx st : Nat} {d e : Desc} {mine : Desc → Bool} {host : HostRead} {p b : Act}
    {fs : List Fld} {ps : List Part} (h : s.mach.Turn q idx d) (hmine : mine d = true)
    (hok : d.started = true ∨ s.mach.startStatus d = 0) (hp : turnDesc d host = p)
    (hb : p.run (d.begun.run s.mach) = b.run (d.begun.run s.mach)) (hq : inside (places [] [.que]) (places fs ps) = true)
    (hw : b.Within (places fs ps)) (hc : Mach.Carries d.seq (finished e) s.mach (b.run (d.begun.run s.mach))) (hst : e.status = st)
    (hd : e.q = d.q ∧ e.idx = d.idx ∧ e.raw = d.raw) (heq : exec c s = s.act (opTurn q idx mine host)) :
    Completes c s fs ps fun t => Mach.Ended d st s.mach t :=
  completes_as heq ((opTurn_run_turn h hmine hok hp).trans (b := (Act.seq d.begun p).run s.mach) (c := (Act.seq d.begun b).run s.mach) hb)
    (K := places fs ps) ⟨(begun_within d).mono hq, hw⟩ (inside_refl _) (hc.ended rfl hst hd)

/-- One that ends with a failure. -/
theorem completes_failEnd {c : Instr} {s : State} {q idx st : Nat} (det : Nat) {d : Desc} {mine : Desc → Bool} {host : HostRead} {p : Act}
    (h : s.mach.Turn q idx d) (hmine : mine d = true) (hok : d.started = true ∨ s.mach.startStatus d = 0)
    (hp : turnDesc d host = p) (hst : d.status = 0) (hb : p.run (d.begun.run s.mach) = (failEnd d.seq st det).run (d.begun.run s.mach))
    (heq : exec c s = s.act (opTurn q idx mine host)) :
    Completes c s [.SND_T_LOST] [.freeCtr, .dir, .snd, .que] fun t => Mach.Ended d st s.mach t := by
  have hnote := noteFail_of_none (d := started d) hst st det
  exact completes_end h hmine hok hp hb (by rfl) ((failEnd_within _ _ _).mono (by rfl))
    ((begun_carries h.2.1).failEnd st det) (by rw [hnote]) (by rw [hnote]; exact ⟨rfl, rfl, rfl⟩) heq

/-- What a descriptor that has begun leaves: all but the descriptors in flight. -/
theorem begun_eq (d : Desc) (m : Mach) : ∃ x, d.begun.run m = { m with que := x } := by
  rw [Desc.begun]
  split
  · exact ⟨m.que, rfl⟩
  · exact ⟨_, rfl⟩

theorem Mach.Carries.trans {seq : Nat} {d e : Desc} {a b c : Mach} (h : Mach.Carries seq d a b) (g : Mach.Carries seq e b c) :
    Mach.Carries seq e a c :=
  ⟨g.1, fun n hn => (g.2 n hn).trans (h.2 n hn)⟩

/-! ### A data operation whose destination is unmapped -/

theorem piecesOf_zero (addr : Nat) : piecesOf addr 0 = [] := by
  simp [piecesOf, pieces]

/-- A range that is not empty begins at its first byte. -/
theorem piecesOf_pos (addr : Nat) {n : Nat} (h : 0 < n) : ∃ p ps, piecesOf addr n = p :: ps ∧ p.at_ = 0 := by
  rw [piecesOf, pieces, if_neg (by omega)]
  exact ⟨_, _, rfl, rfl⟩

/-- Nothing of a range whose first line is unmapped is mapped. -/
theorem mapped_of_unmapped {m : Mach} {owner addr n : Nat} (hn : 0 < n) (h : m.ownerLine owner addr = none) :
    m.mapped owner addr n = ([], 0) := by
  obtain ⟨p, ps, hps, hat⟩ := piecesOf_pos addr hn
  have hline : m.ownerLine owner (addr + p.at_) = none := by rw [hat, Nat.add_zero, h]
  simp [Mach.mapped, hps, hline]

theorem mapped_zero (m : Mach) (owner addr : Nat) : (m.mapped owner addr 0).1 = [] := by
  simp [Mach.mapped, piecesOf_zero]

/-- The stop of a chunk whose destination is unmapped from its first byte. -/
def unmappedStop : Option (Nat × Nat × Nat) := some (0, stUnmapped, 1)

section Unmapped

variable {m : Mach} {e : Desc} (he : m.descOf e.seq = some e) (hphase : e.phase = 0) (hop : e.op = 0x11 ∨ e.op = 0x12) (hpos : e.pos = 0)
  (hhost : e.dstHost = false) (hlen : 0 < e.len) (hasks : m.descAsks e 2 = [])
  (hmap : m.ownerLine (m.get .QP_OWNER e.q) e.dst = none)

theorem readsSrc_of_fill (hop : e.op = 0x11 ∨ e.op = 0x12) : e.readsSrc = false := by
  rcases hop with h | h <;> rw [Desc.readsSrc, h] <;> rfl

theorem chunk_pos (hlen : 0 < e.len) (hpos : e.pos = 0) : 0 < e.chunk := by
  rw [Desc.chunk, hpos]
  omega

include hop hpos hhost hlen hmap in
theorem chunkStop_of_unmapped : m.chunkStop e = unmappedStop := by
  have hchunk := chunk_pos hlen hpos
  rw [Mach.chunkStop, readsSrc_of_fill hop, hhost, hpos, Nat.add_zero, Nat.add_zero, mapped_of_unmapped hchunk hmap]
  simp [nearer, stopAt, hchunk, unmappedStop]

/-- The descriptor as its chunk begins, with its stop. -/
def stopping (d : Desc) : Desc := { d with stop := unmappedStop, phase := 1 }

/-- The descriptor in the writes of its chunk. -/
def writing (d : Desc) : Desc := { d with phase := 2 }

/-- A chunk that stops at its start. -/
def stopChunk (e : Desc) : Act := .all [setDesc e.seq stopping, setDesc e.seq writing, chunkEnd (writing (stopping e)) 0 unmappedStop true]

theorem writeChunk_run_nil {e : Desc} (hhost : e.dstHost = false) (m : Mach) : (writeChunk e []).run m = m := by
  rw [writeChunk, Act.run_read, hhost, if_neg (by decide), List.length_nil, mapped_zero]
  rfl

theorem writesTake_run_stopped {m : Mach} {d : Desc} (hstop : d.stop = unmappedStop) (hasks : m.descAsks d 2 = []) :
    (writesTake d none).run m = (chunkEnd d 0 unmappedStop true).run m := by
  rw [writesTake, Act.run_read, hasks, hstop]
  rfl

include he hhost hasks in
theorem startWrites_run_stopped (bs : List (Option Byte)) : (startWrites e.seq bs).run ((setDesc e.seq stopping).run m) =
    (chunkEnd (writing (stopping e)) 0 unmappedStop true).run ((setDesc e.seq writing).run ((setDesc e.seq stopping).run m)) := by
  have h1 := (Mach.Carries.refl he).setDesc (f := stopping) fun _ => rfl
  have h2 := h1.setDesc (f := writing) fun _ => rfl
  rw [startWrites, Act.run_read, h1.1, Act.run_some?_some, Act.run_all_cons, Act.run_all_cons, Act.run_all_one]
  have hcut : (stopping e).stop = some (0, stUnmapped, 1) := rfl
  rw [hcut]
  dsimp only
  rw [List.take_zero, writeChunk_run_nil (e := stopping e) hhost, Act.run_read]
  exact (congrArg (fun x => (Act.some? x fun d => writesTake d none).run _) h2.1).trans (writesTake_run_stopped rfl hasks)

include he hphase hop hpos hhost hlen hasks hmap in
theorem dataStep_run_unmapped (host : HostRead) : (dataStep e.seq host).run m = (stopChunk e).run m := by
  rw [dataStep, Act.run_read, he, Act.run_some?_some, hphase]
  dsimp only
  rw [chunkStop_of_unmapped hop hpos hhost hlen hmap, readsSrc_of_fill hop, if_neg (by decide)]
  exact startWrites_run_stopped he hhost hasks _

end Unmapped

/-- A descriptor at the end of a chunk. -/
def chunkDone (pos : Nat) (d : Desc) : Desc := { d with pos := pos, result := pos, phase := 0, stop := none }

/-- A chunk that a failure stops ends the descriptor with it. -/
theorem Mach.Carries.chunkEnd {a b : Mach} {d e : Desc} (h : Mach.Carries d.seq e a b) (done : Nat) (f : Nat × Nat × Nat) :
    Mach.Carries d.seq (finished (chunkDone (d.pos + done) (noteFail f.2.1 f.2.2 e))) a
      ((Sys2Proof.Machine.chunkEnd d done (some f) true).run b) := by
  rw [Sys2Proof.Machine.chunkEnd, Act.run_read]
  dsimp only
  rw [Bool.true_or, if_pos rfl]
  simp only [Act.run_all_cons, Act.run_all_one, Act.run_some?_some]
  exact ((((h.within (event_within _ _ _ _) (by rfl)).fail f.2.1 f.2.2).within (forgetDesc_within d) (by rfl)).setDesc
    (f := chunkDone (d.pos + done)) fun _ => rfl).finish

theorem stopChunk_within (e : Desc) : (stopChunk e).Within (places (countFields ++ [.SND_T_LOST]) [.freeCtr, .dir, .snd, .que]) :=
  ⟨(setDesc_within _ _).mono (by rfl), (setDesc_within _ _).mono (by rfl), (chunkEnd_within _ _ _ _).mono (by rfl)⟩

theorem completes_unmapped {c : Instr} {s : State} {q idx : Nat} {d : Desc} {mine : Desc → Bool} (h : s.mach.Turn q idx d)
    (hmine : mine d = true) (hop : d.op = 0x11 ∨ d.op = 0x12) (hok : d.started = true ∨ s.mach.startStatus d = 0) (hphase : d.phase = 0)
    (hpos : d.pos = 0) (hst : d.status = 0) (hhost : d.dstHost = false) (hlen : 0 < d.len) (hasks : s.mach.descAsks d 2 = [])
    (hmap : s.mach.ownerLine (s.mach.get .QP_OWNER q) d.dst = none) (heq : exec c s = s.act (opTurn q idx mine .failed)) :
    Completes c s (countFields ++ [.SND_T_LOST]) [.freeCtr, .dir, .snd, .que] fun t => Mach.Ended d stUnmapped s.mach t := by
  have hcarry := begun_carries h.2.1
  have hnote := noteFail_of_none (d := writing (stopping (started d))) hst stUnmapped 1
  obtain ⟨x, hx⟩ := begun_eq d s.mach
  rw [← descAt_q h.1] at hmap
  have hrun := dataStep_run_unmapped (m := d.begun.run s.mach) (e := started d) hcarry.1 hphase hop hpos hhost hlen
    (by rw [hx]; exact hasks) (by rw [hx]; exact hmap) .failed
  refine completes_end h hmine hok (turnDesc_of_data (by omega) _) hrun (by rfl) (stopChunk_within _)
    (((hcarry.setDesc (f := stopping) fun _ => rfl).setDesc (f := writing) fun _ => rfl).chunkEnd (d := writing (stopping (started d))) 0
      (0, stUnmapped, 1)) ?_ ?_ heq
  · rw [hnote]
    rfl
  · rw [hnote]
    exact ⟨rfl, rfl, rfl⟩

/-! ### Lists of atomics and rotations -/

theorem atomicStep_run_failed {m : Mach} {d : Desc} {host : HostRead} (hphase : d.phase = 0) (hsrc : d.srcHost = true)
    (hb : m.hostBytes (m.get .QP_OWNER d.q) (64 * d.len) host = none) :
    (atomicStep d host).run m = (failEnd d.seq stDma d.pos).run m := by
  rw [atomicStep, Act.run_read, hphase, hsrc]
  dsimp only
  rw [hb]
  rfl

theorem rotateStep_run_unmapped {m : Mach} {d : Desc} (hphase : d.phase = 0) (hn : m.ownerAtoll (m.get .QP_OWNER d.q) d.dst = none) :
    (rotateStep d).run m = (failEnd d.seq stUnmapped 1).run m := by
  rw [rotateStep, Act.run_read, hphase, hn]

theorem rotateStep_run_refused {m : Mach} {d : Desc} {n : Nat} (hphase : d.phase = 0) (hn : m.ownerAtoll (m.get .QP_OWNER d.q) d.dst = some n)
    (hbad : m.rotErr m.freeRot n ≠ 0) : (rotateStep d).run m = (failEnd d.seq stRotate (m.rotErr m.freeRot n)).run m := by
  rw [rotateStep, Act.run_read, hphase, hn]
  exact congrArg (Act.run · m) (if_pos hbad)

/-! ### Streams to host memory -/

/-- A descriptor whose stream is written. -/
def streaming (result : Nat) (d : Desc) : Desc := { d with phase := 2, result := result, stop := none }

/-- A stream that goes whole to host memory. -/
def streamOut (o : Nat) (e : Desc) (bs : List Byte) (result : Nat) : Act :=
  .all [setDesc e.seq (streaming result), .when (!bs.isEmpty) (.emit (.dmaWrite o e.dst bs false)),
    event (.queue (islandOf e.q)) 0x82 0 ((bs.length + 63) / 64), finishDesc e.seq]

theorem outTake_run {m : Mach} {e : Desc} (hasks : m.descAsks e 2 = []) (hstop : e.stop = none) : (outTake e).run m = (finishDesc e.seq).run m := by
  rw [outTake, Act.run_read, hasks, hstop]
  rfl

section Stream

variable {m : Mach} {e : Desc} (he : m.descOf e.seq = some e) (hhost : e.dstHost = true) (hasks : m.descAsks e 2 = [])

include he in
theorem streamed_carries (bs : List Byte) (result : Nat) :
    Mach.Carries e.seq (streaming result e) m ((event (.queue (islandOf e.q)) 0x82 0 ((bs.length + 63) / 64)).run
      ((Act.when (!bs.isEmpty) (.emit (.dmaWrite (m.get .QP_OWNER e.q) e.dst bs false))).run ((setDesc e.seq (streaming result)).run m))) :=
  (((Mach.Carries.refl he).setDesc (f := streaming result) fun _ => rfl).within (p := .when (!bs.isEmpty) _) (K := places [] [.out])
    (within_when (within_emit (by rfl))) (by rfl)).within (event_within _ _ _ _) (by rfl)

include he hhost hasks in
theorem outWrite_run_host (bs : List Byte) (result : Nat) :
    (outWrite e bs result none).run m = (streamOut (m.get .QP_OWNER e.q) e bs result).run m := by
  have hcarry := streamed_carries he bs result
  rw [outWrite, Act.run_read, hhost]
  dsimp only
  rw [if_pos rfl, streamOut]
  simp only [Act.run_all_cons, Act.run_all_one]
  rw [Act.run_read]
  refine (congrArg (fun x => (Act.some? x outTake).run _) hcarry.1).trans (outTake_run ?_ rfl)
  have hdir (c : Bool) (o : Out) (a : Mach) : ((Act.when c (.emit o)).run a).dir = a.dir := by
    rw [Act.run_when]
    split <;> rfl
  rw [Mach.descAsks, Mach.asked, event_dir, hdir]
  exact hasks

include he in
theorem streamOut_carries (bs : List Byte) (result : Nat) :
    Mach.Carries e.seq (finished (streaming result e)) m ((streamOut (m.get .QP_OWNER e.q) e bs result).run m) := by
  simp only [streamOut, Act.run_all_cons, Act.run_all_one]
  exact (streamed_carries he bs result).finish

end Stream

theorem streamOut_within (o : Nat) (e : Desc) (bs : List Byte) (result : Nat) :
    (streamOut o e bs result).Within (places (countFields ++ [.SND_T_LOST]) [.out, .freeCtr, .dir, .snd, .que]) :=
  ⟨(setDesc_within _ _).mono (by rfl), within_when (within_emit (by rfl)),
    (event_within _ _ _ _).mono (by rfl), (finishDesc_within _).mono (by rfl)⟩

theorem streamOut_nil_within (o : Nat) (e : Desc) (result : Nat) :
    (streamOut o e [] result).Within (places (countFields ++ [.SND_T_LOST]) [.freeCtr, .dir, .snd, .que]) :=
  ⟨(setDesc_within _ _).mono (by rfl), within_skip, (event_within _ _ _ _).mono (by rfl),
    (finishDesc_within _).mono (by rfl)⟩

/-- Nothing staged is drained in one step. -/
theorem drainStep_run_empty {m : Mach} {e : Desc} (hphase : e.phase = 0) (hhost : e.dstHost = true)
    (hnone : m.stagedFor (m.get .QP_OWNER e.q) = []) : (drainStep e).run m = (outWrite e [] 0 none).run m := by
  rw [drainStep, Act.run_read, if_neg (not_not.2 hphase), hnone]
  have hroom : m.outRoom e 0 = 0 := by
    rw [Mach.outRoom, hhost, if_pos rfl]
    exact ite_self 0
  show (outWrite e [] 0 (e.outStop 0 (m.outRoom e 0))).run m = _
  rw [hroom]
  rfl

theorem leBytes_length (n x : Nat) : (Bits.leBytes n x).length = n := by
  induction n generalizing x with
  | zero => rfl
  | succ n ih => rw [Bits.leBytes, List.length_cons, ih]

theorem summary_length (m : Mach) (n : Nat) : (m.summary n).length = 64 := by
  simp only [Mach.summary, List.flatMap_cons, List.flatMap_nil, List.length_append, leBytes_length, List.length_nil]

/-- A summary that host memory takes is written whole. -/
theorem summaryStep_run_host {m : Mach} {e : Desc} {n : Nat} (hphase : e.phase = 0) (hhost : e.dstHost = true)
    (hreach : m.hostReach (m.get .QP_OWNER e.q) = true) (hn : m.ownerAtoll (m.get .QP_OWNER e.q) e.src = some n) :
    (summaryStep e).run m = (outWrite e (m.summary n) 64 none).run m := by
  have hroom : m.outRoom e 64 = 64 := by
    rw [Mach.outRoom, hhost, if_pos rfl, hreach, if_pos rfl]
  have htake : (m.summary n).take 64 = m.summary n := List.take_of_length_le (le_of_eq (summary_length m n))
  rw [summaryStep, Act.run_read, if_neg (not_not.2 hphase), hn]
  dsimp only
  rw [hroom, htake]
  rfl

theorem summaryStep_run_unmapped {m : Mach} {d : Desc} (hphase : d.phase = 0) (hn : m.ownerAtoll (m.get .QP_OWNER d.q) d.src = none) :
    (summaryStep d).run m = (failEnd d.seq stUnmapped 0).run m := by
  rw [summaryStep, Act.run_read, if_neg (not_not.2 hphase), hn]

theorem streamOut_out {o : Nat} {e : Desc} {bs : List Byte} (hbs : bs ≠ []) (result : Nat) (m : Mach) :
    ((streamOut o e bs result).run m).out = m.out ++ [.dmaWrite o e.dst bs false] := by
  simp only [streamOut, Act.run_all_cons, Act.run_all_one]
  rw [(finishDesc_within _).out _ (by rfl), event_out, Act.run_when, if_pos (by simpa using hbs)]
  rfl

/-- Settles O25: each step through its opcode; an end through the program that its step comes to. -/
theorem dataDescriptors : Obligations.DataDescriptors := by
  unfold Obligations.DataDescriptors
  refine ⟨?_, ?_, ?_, ?_, ?_, ?_, ?_, ?_, ?_, ?_, ?_, ?_, ?_, ?_, ?_, ?_, ?_⟩
  case refine_1 =>
    exact fun s q idx host d h hop hok => completes_step (mine := fun d => d.op == 0x10) h (beq_iff_eq.2 hop) hok
      (turnDesc_of_data (.inl hop) host) (dataStep_within d.seq host) (by rfl) (by rfl) rfl
  case refine_2 =>
    exact fun s q idx d h hop hok => completes_step (mine := fun d => d.op == 0x11) h (beq_iff_eq.2 hop) hok
      (turnDesc_of_data (.inr (.inl hop)) .failed) (dataStep_within d.seq .failed) (by rfl) (by rfl) rfl
  case refine_3 =>
    exact fun s q idx d h hop hok => completes_step (mine := fun d => d.op == 0x12) h (beq_iff_eq.2 hop) hok
      (turnDesc_of_data (.inr (.inr (.inl hop))) .failed) (dataStep_within d.seq .failed) (by rfl) (by rfl) rfl
  case refine_4 =>
    exact fun s q idx host d h hop hok => completes_step (mine := fun d => d.op == 0x13) h (beq_iff_eq.2 hop) hok
      (turnDesc_of_data (.inr (.inr (.inr hop))) host) (dataStep_within d.seq host) (by rfl) (by rfl) rfl
  case refine_5 =>
    exact fun s q idx d h hop hok hphase hpos hst hhost hlen hasks hmap =>
      completes_unmapped (mine := fun d => d.op == 0x11) h (beq_iff_eq.2 hop) (.inl hop) hok hphase hpos hst hhost hlen hasks hmap rfl
  case refine_6 =>
    exact fun s q idx d h hop hok hphase hpos hst hhost hlen hasks hmap =>
      completes_unmapped (mine := fun d => d.op == 0x12) h (beq_iff_eq.2 hop) (.inr hop) hok hphase hpos hst hhost hlen hasks hmap rfl
  case refine_7 =>
    exact fun s q idx host d h hop hok => completes_step (mine := fun d => d.op == 0x30) h (beq_iff_eq.2 hop) hok
      (turnDesc_of_atomic hop host) (atomicStep_within d host) (by rfl) (by rfl) rfl
  case refine_8 =>
    intro s q idx host d h hop hok hphase hst hsrc hb
    obtain ⟨x, hx⟩ := begun_eq d s.mach
    rw [← descAt_q h.1] at hb
    exact completes_failEnd d.pos (mine := fun d => d.op == 0x30) h (beq_iff_eq.2 hop) hok (turnDesc_of_atomic hop host) hst
      (atomicStep_run_failed hphase hsrc (by rw [hx]; exact hb)) rfl
  case refine_9 =>
    exact fun s q idx d h hop hok => completes_step (mine := fun d => d.op == 0x40) h (beq_iff_eq.2 hop) hok
      (turnDesc_of_rotate hop .failed) (rotateStep_within d) (by rfl) (by rfl) rfl
  case refine_10 =>
    intro s q idx d h hop hok hphase hst hn
    obtain ⟨x, hx⟩ := begun_eq d s.mach
    rw [← descAt_q h.1] at hn
    exact completes_failEnd 1 (mine := fun d => d.op == 0x40) h (beq_iff_eq.2 hop) hok (turnDesc_of_rotate hop .failed) hst
      (rotateStep_run_unmapped hphase (by rw [hx]; exact hn)) rfl
  case refine_11 =>
    intro s q idx n d h hop hok hphase hst hn hbad
    obtain ⟨x, hx⟩ := begun_eq d s.mach
    rw [← descAt_q h.1] at hn
    exact completes_failEnd _ (mine := fun d => d.op == 0x40) h (beq_iff_eq.2 hop) hok (turnDesc_of_rotate hop .failed) hst
      (rotateStep_run_refused hphase (n := n) (by rw [hx]; exact hn) (by rw [hx]; exact hbad)) rfl
  case refine_12 =>
    exact fun s q idx d h hop hok => completes_step (mine := fun d => d.op == 0x50) h (beq_iff_eq.2 hop) hok
      (turnDesc_of_drain hop .failed) (drainStep_within d) (by rfl) (by rfl) rfl
  case refine_13 =>
    intro s q idx d h hop hok hphase hst hhost hasks hnone
    obtain ⟨x, hx⟩ := begun_eq d s.mach
    have hcarry := begun_carries h.2.1
    rw [← descAt_q h.1] at hnone
    have hrun := (drainStep_run_empty (m := d.begun.run s.mach) hphase hhost (by rw [hx]; exact hnone)).trans
      (outWrite_run_host (e := started d) hcarry.1 hhost (by rw [hx]; exact hasks) [] 0)
    exact completes_end (mine := fun d => d.op == 0x50) h (beq_iff_eq.2 hop) hok (turnDesc_of_drain hop .failed) hrun (by rfl)
      (streamOut_nil_within _ _ _) (hcarry.trans (streamOut_carries (e := started d) hcarry.1 [] 0)) hst ⟨rfl, rfl, rfl⟩ rfl
  case refine_14 =>
    exact fun s q idx d h hop hmode hok => completes_step (mine := fun d => d.op == 0x51 && d.num 32 1 == 0) h (by rw [hop, hmode]; rfl) hok
      (turnDesc_of_summary hop hmode .failed) (summaryStep_within d) (by rfl) (by rfl) rfl
  case refine_15 =>
    intro s q idx d h hop hmode hok hphase hst hn
    obtain ⟨x, hx⟩ := begun_eq d s.mach
    rw [← descAt_q h.1] at hn
    exact completes_failEnd 0 (mine := fun d => d.op == 0x51 && d.num 32 1 == 0) h (by rw [hop, hmode]; rfl) hok
      (turnDesc_of_summary hop hmode .failed) hst (summaryStep_run_unmapped hphase (by rw [hx]; exact hn)) rfl
  case refine_16 =>
    intro s q idx n d h hop hmode hok hphase hst hhost hasks hreach hn
    obtain ⟨x, hx⟩ := begun_eq d s.mach
    have hcarry := begun_carries h.2.1
    obtain rfl := descAt_q h.1
    have hrun := (summaryStep_run_host (m := d.begun.run s.mach) (n := n) hphase hhost (by rw [hx]; exact hreach) (by rw [hx]; exact hn)).trans
      (outWrite_run_host (e := started d) hcarry.1 hhost (by rw [hx]; exact hasks) _ 64)
    have hne : (d.begun.run s.mach).summary n ≠ [] := by
      intro hnil
      have hlen := summary_length (d.begun.run s.mach) n
      rw [hnil] at hlen
      cases hlen
    have hw : (Act.seq d.begun (streamOut ((d.begun.run s.mach).get .QP_OWNER d.q) (started d) ((d.begun.run s.mach).summary n) 64)).Within
        (places (countFields ++ [.SND_T_LOST]) [.out, .freeCtr, .dir, .snd, .que]) :=
      ⟨(begun_within d).mono (by rfl), streamOut_within _ _ _ _⟩
    have hturn := opTurn_run_turn (mine := fun d => d.op == 0x51 && d.num 32 1 == 0) h (by rw [hop, hmode]; rfl) hok
      (turnDesc_of_summary hop hmode .failed)
    rw [Act.run_seq, hrun, ← Act.run_seq] at hturn
    refine completes_as rfl hturn hw (inside_refl _)
      ⟨(hcarry.trans (streamOut_carries (e := started d) hcarry.1 _ 64)).ended rfl hst ⟨rfl, rfl, rfl⟩, ?_⟩
    rw [Act.run_seq, streamOut_out hne, hx]
    rfl
  case refine_17 =>
    exact fun s q idx d h hop hmode hok => completes_step (mine := fun d => d.op == 0x51 && d.num 32 1 != 0) h (by rw [hop, hmode]; rfl) hok
      (turnDesc_of_records hop (by rw [hmode]; decide) .failed) (recordsStep_within d) (by rfl) (by rfl) rfl

end Sys2Proof.Machine
end

section
/-!
PROOF. O26, page descriptors (R138, R139, R235).
-/

namespace Sys2Proof.Machine

theorem turnDesc_of_page {d : Desc} (h : opPages d.op = true) (host : HostRead) : turnDesc d host = pageStep d := by
  have hop : d.op ∈ [0x20, 0x21, 0x22, 0x23, 0x24, 0x25, 0x41] := by
    rw [opPages] at h
    exact List.contains_iff_mem.1 h
  simp only [List.mem_cons, List.not_mem_nil, or_false] at hop
  rcases hop with h | h | h | h | h | h | h <;> (rw [turnDesc, h]; rfl)

/-! ### One turn of the loop -/

section Loop

variable {m : Mach} {e : Desc} (he : m.descOf e.seq = some e)

include he

theorem pageLoop_run_end (h : e.len ≤ e.pos) (k : Nat) : (pageLoop e.seq (k + 1)).run m = (finishDesc e.seq).run m := by
  rw [pageLoop, Act.run_read, he]
  dsimp only
  rw [if_pos h]

variable (hpos : e.pos < e.len) (hwait : e.waitRes = 0)

include hpos hwait

theorem pageLoop_run_ok {c : Nat} {a : Act} (h : m.pageTurn e = (.ok c, a)) (k : Nat) :
    (pageLoop e.seq (k + 1)).run m = (Act.all [a, nextPage e.seq c, pageLoop e.seq k]).run m := by
  rw [pageLoop, Act.run_read, he]
  dsimp only
  rw [if_neg (by omega), if_neg (not_not.2 hwait), h]

theorem pageLoop_run_fail {st : Nat} {a : Act} (h : m.pageTurn e = (.fail st, a)) (k : Nat) :
    (pageLoop e.seq (k + 1)).run m = (Act.all [a, failPage e st, pageLoop e.seq k]).run m := by
  rw [pageLoop, Act.run_read, he]
  dsimp only
  rw [if_neg (by omega), if_neg (not_not.2 hwait), h]

end Loop

/-- A descriptor at its next page. -/
def paged (c : Nat) (d : Desc) : Desc := { d with pos := d.pos + 4096, result := d.result + c, waitRes := 0, phase := 0 }

/-- A page that leaves the descriptors in flight as they are. -/
def Act.LeavesQue (a : Act) : Prop := ∀ m : Mach, (a.run m).que = m.que

section OnePage

variable {m : Mach} {e : Desc} (he : m.descOf e.seq = some e) (hpos : e.pos = 0) (hlen : e.len = 4096) (hwait : e.waitRes = 0)

include he in
theorem nextPage_carries {a : Act} (ha : a.LeavesQue) (c : Nat) :
    Mach.Carries e.seq (paged c e) m ((nextPage e.seq c).run (a.run m)) :=
  ((Mach.Carries.refl he).keep (congrArg QueSt.descs (ha m))).setDesc (f := paged c) fun _ => rfl

include he hpos hlen hwait

theorem pageStep_run_ok {c : Nat} {a : Act} (ha : a.LeavesQue) (h : m.pageTurn e = (.ok c, a)) :
    (pageStep e).run m = (Act.all [a, nextPage e.seq c, finishDesc e.seq]).run m := by
  rw [pageStep, hlen, pageLoop_run_ok he (by omega) hwait h]
  simp only [Act.run_all_cons, Act.run_all_one]
  exact pageLoop_run_end (e := paged c e) (nextPage_carries he ha c).1 (show e.len ≤ e.pos + 4096 by omega) 0

theorem pageStep_run_fail {st : Nat} (hst : e.status = 0) (h : m.pageTurn e = (.fail st, .skip)) :
    (pageStep e).run m = (Act.all [failPage e st, finishDesc e.seq]).run m ∧
    Mach.Carries e.seq (paged (if e.op = 0x41 then 0 else 1) { e with status := st, detail := 0 }) m ((failPage e st).run m) := by
  have hcarry : Mach.Carries e.seq (paged (if e.op = 0x41 then 0 else 1) { e with status := st, detail := 0 }) m ((failPage e st).run m) := by
    have hnote := noteFail_of_none hst st 0
    rw [failPage, Act.run_seq, ← hnote]
    exact ((Mach.Carries.refl he).fail st 0).setDesc (f := paged _) fun _ => rfl
  refine ⟨?_, hcarry⟩
  rw [pageStep, hlen, pageLoop_run_fail he (by omega) hwait h]
  simp only [Act.run_all_cons, Act.run_all_one, Act.run_skip]
  exact pageLoop_run_end (e := paged (if e.op = 0x41 then 0 else 1) { e with status := st, detail := 0 }) hcarry.1
    (show e.len ≤ e.pos + 4096 by omega) 0

end OnePage

/-! ### Descriptors of one page -/

/-- A page descriptor of one page of this sled, which may take its turn. -/
structure OnePage (m : Mach) (q idx : Nat) (d : Desc) (l n : Nat) : Prop where
  turn : m.Turn q idx d
  ok : d.started = true ∨ m.startStatus d = 0
  pos : d.pos = 0
  len : d.len = 4096
  wait : d.waitRes = 0
  status : d.status = 0
  line : m.ownerLine (m.get .QP_OWNER q) d.dst = some l
  atoll : m.atollOf (pageOfLine l) = some n
  home : m.isRemote n = false

/-- The descriptor as it stands at its page, in its turn. -/
structure AtPage (m : Mach) (e : Desc) (l n : Nat) : Prop where
  line : m.ownerLine (m.get .QP_OWNER e.q) (e.dst + e.pos) = some l
  atoll : m.atollOf (pageOfLine l) = some n
  home : m.isRemote n = false

theorem OnePage.atPage {m : Mach} {q idx : Nat} {d : Desc} {l n : Nat} (h : OnePage m q idx d l n) :
    AtPage (d.begun.run m) (started d) l n := by
  obtain ⟨x, hx⟩ := begun_eq d m
  obtain rfl := descAt_q h.turn.1
  rw [hx]
  have hpos : (started d).dst + (started d).pos = d.dst := congrArg (d.dst + ·) h.pos
  exact ⟨by rw [hpos]; exact h.line, h.atoll, h.home⟩

/-- One whose page is done ends with success; the pages are as its own program leaves them. -/
theorem OnePage.completes_ok {c : Instr} {s : State} {q idx l n cnt : Nat} {d : Desc} {mine : Desc → Bool} {a : Act} {ps : List Part}
    (h : OnePage s.mach q idx d l n) (hmine : mine d = true) (hop : opPages d.op = true)
    (ha : a.Within (places [.SND_T_LOST] ps)) (hleaves : a.LeavesQue)
    (hps : inside (places [.SND_T_LOST] [.freeCtr, .dir, .snd, .que]) (places [.SND_T_LOST] ps) = true)
    (hturn : (d.begun.run s.mach).pageTurn (started d) = (.ok cnt, a)) (heq : exec c s = s.act (opTurn q idx mine .failed)) :
    Completes c s [.SND_T_LOST] ps fun t => Mach.Ended d 0 s.mach t ∧ ∀ p, t.page p = (a.run (d.begun.run s.mach)).page p := by
  have hcarry := begun_carries h.turn.2.1
  have hrun : (pageStep d).run (d.begun.run s.mach) = _ := pageStep_run_ok (e := started d) hcarry.1 h.pos h.len h.wait hleaves hturn
  have hdesc := opTurn_run_turn h.turn hmine h.ok (turnDesc_of_page hop .failed)
  rw [Act.run_seq, hrun, ← Act.run_seq] at hdesc
  have htail : (Act.all [nextPage (started d).seq cnt, finishDesc (started d).seq]).Within (places [.SND_T_LOST] [.freeCtr, .dir, .snd, .que]) :=
    ⟨(nextPage_within _ _).mono (by rfl), (finishDesc_within _).mono (by rfl)⟩
  refine completes_as heq hdesc (K := places [.SND_T_LOST] ps)
    ⟨(begun_within d).mono (inside_trans (by rfl) hps), ha, htail.mono hps⟩ (inside_refl _) ⟨?_, fun p => ?_⟩
  · rw [Act.run_seq]
    simp only [Act.run_all_cons, Act.run_all_one]
    exact (hcarry.trans (nextPage_carries (e := started d) hcarry.1 hleaves cnt).finish).ended rfl h.status ⟨rfl, rfl, rfl⟩
  · rw [Act.run_seq, Act.run_all_cons]
    exact htail.page (by rfl) (by rfl) _ p

/-- One whose page fails ends with the status of the failure. -/
theorem OnePage.completes_fail {c : Instr} {s : State} {q idx l n st : Nat} {d : Desc} {mine : Desc → Bool} (h : OnePage s.mach q idx d l n)
    (hmine : mine d = true) (hop : opPages d.op = true) (hturn : (d.begun.run s.mach).pageTurn (started d) = (.fail st, .skip))
    (heq : exec c s = s.act (opTurn q idx mine .failed)) :
    Completes c s [.SND_T_LOST] [.freeCtr, .dir, .snd, .que] fun t => Mach.Ended d st s.mach t := by
  have hcarry := begun_carries h.turn.2.1
  obtain ⟨hrun, hfail⟩ := pageStep_run_fail (e := started d) hcarry.1 h.pos h.len h.wait h.status hturn
  exact completes_end h.turn hmine h.ok (turnDesc_of_page hop .failed) (b := .all [failPage (started d) st, finishDesc (started d).seq]) hrun
    (by rfl) ⟨(failPage_within _ _).mono (by rfl), (finishDesc_within _).mono (by rfl)⟩
    (hcarry.trans hfail.finish) rfl ⟨rfl, rfl, rfl⟩ heq

/-- One that leaves its page ends with success. -/
theorem OnePage.completes_left {c : Instr} {s : State} {q idx l n cnt : Nat} {d : Desc} {mine : Desc → Bool} (h : OnePage s.mach q idx d l n)
    (hmine : mine d = true) (hop : opPages d.op = true) (hturn : (d.begun.run s.mach).pageTurn (started d) = (.ok cnt, .skip))
    (heq : exec c s = s.act (opTurn q idx mine .failed)) :
    Completes c s [.SND_T_LOST] [.freeCtr, .dir, .snd, .que] fun t => Mach.Ended d 0 s.mach t :=
  (h.completes_ok hmine hop within_skip (fun _ => rfl) (by rfl) hturn heq).imp fun _ ht => ht.1

/-- One that changes its page's record ends with success. -/
theorem OnePage.completes_rcd {c : Instr} {s : State} {q idx l n cnt : Nat} {d : Desc} {mine : Desc → Bool} {a : Act} {f : PageRec → PageRec}
    (h : OnePage s.mach q idx d l n) (hmine : mine d = true) (hop : opPages d.op = true)
    (hturn : (d.begun.run s.mach).pageTurn (started d) = (.ok cnt, a)) (hrcd : a = .rcd (pageOfLine l) f ∨ a = .seq .skip (.rcd (pageOfLine l) f))
    (heq : exec c s = s.act (opTurn q idx mine .failed)) :
    Completes c s [.SND_T_LOST] [.pages, .freeCtr, .dir, .snd, .que] fun t => Mach.Ended d 0 s.mach t ∧
      (t.page (pageOfLine l)).rcd = f (s.mach.page (pageOfLine l)).rcd ∧ ∀ p, p ≠ pageOfLine l → t.page p = s.mach.page p := by
  obtain ⟨x, hx⟩ := begun_eq d s.mach
  have hrun (m : Mach) : a.run m = (Act.rcd (pageOfLine l) f).run m := by
    rcases hrcd with rfl | rfl <;> rfl
  have hw : a.Within (places [.SND_T_LOST] [.pages, .freeCtr, .dir, .snd, .que]) := by
    rcases hrcd with rfl | rfl
    · exact within_rcd (by rfl)
    · exact ⟨within_skip, within_rcd (by rfl)⟩
  refine (h.completes_ok hmine hop hw (fun m => by rw [hrun]; rfl) (by rfl) hturn heq).imp fun t ht => ?_
  obtain ⟨hend, hpage⟩ := ht
  refine ⟨hend, ?_, fun p hp => ?_⟩
  · rw [hpage, hrun, rcd_page_self, hx]
    rfl
  · rw [hpage, hrun, rcd_page_other hp, hx]
    rfl

/-! ### What comes of the page -/

/-- What the opcode of a descriptor does to a page of this sled (Table 6.4). -/
def pageOp (m : Mach) (e : Desc) (n pn : Nat) : PageEnd × Act :=
  match e.op with
  | 0x20 => m.moveTierPage n pn (e.num 32 1)
  | 0x21 => m.pinPage n pn (e.num 32 1)
  | 0x22 => (.ok 0, .rcd pn fun r => { r with pin := false })
  | 0x23 => (.ok 0, .rcd pn fun r => { r with count := e.num 32 2, stamp := m.get .TIER_PERIOD_NOW % 64 })
  | 0x24 => m.pushPage n pn
  | 0x25 => m.recallPage n pn
  | _ => m.syncPage n pn (e.phase == 1)

theorem AtPage.pageTurn {m : Mach} {e : Desc} {l n : Nat} (h : AtPage m e l n) : m.pageTurn e = pageOp m e n (pageOfLine l) := by
  rw [Mach.pageTurn, h.line]
  dsimp only
  rw [h.atoll]
  dsimp only
  rw [h.home, if_neg (by decide)]
  rfl

section Ops

variable (m : Mach) {e : Desc} (n pn : Nat)

theorem pageOp_of_move (h : e.op = 0x20) : pageOp m e n pn = m.moveTierPage n pn (e.num 32 1) := by
  rw [pageOp, h]
  rfl

theorem pageOp_of_pin (h : e.op = 0x21) : pageOp m e n pn = m.pinPage n pn (e.num 32 1) := by
  rw [pageOp, h]
  rfl

theorem pageOp_of_unpin (h : e.op = 0x22) : pageOp m e n pn = (.ok 0, .rcd pn fun r => { r with pin := false }) := by
  rw [pageOp, h]
  rfl

theorem pageOp_of_hint (h : e.op = 0x23) :
    pageOp m e n pn = (.ok 0, .rcd pn fun r => { r with count := e.num 32 2, stamp := m.get .TIER_PERIOD_NOW % 64 }) := by
  rw [pageOp, h]
  rfl

theorem pageOp_of_push (h : e.op = 0x24) : pageOp m e n pn = m.pushPage n pn := by
  rw [pageOp, h]
  rfl

theorem pageOp_of_recall (h : e.op = 0x25) : pageOp m e n pn = m.recallPage n pn := by
  rw [pageOp, h]
  rfl

theorem pageOp_of_sync (h : e.op = 0x41) : pageOp m e n pn = m.syncPage n pn (e.phase == 1) := by
  rw [pageOp, h]
  rfl

end Ops

theorem movePage_of_there {m : Mach} {n pn : Nat} {target : Tier} (h : (m.page pn).rcd.tier = target) :
    m.movePage n pn target = (.ok 0, .skip) := by
  rw [Mach.movePage]
  exact if_pos (.inl h)

theorem moveTierPage_of_pinned {m : Mach} {n pn : Nat} (h : m.pinned n (m.page pn).rcd = true) (b : Nat) :
    m.moveTierPage n pn b = (.fail stPinned, .skip) := by
  rw [Mach.moveTierPage, if_pos h]

theorem moveTierPage_of_there {m : Mach} {n pn b : Nat} (h : m.pinned n (m.page pn).rcd = false)
    (ht : (m.page pn).rcd.tier = tierOfByte b) : m.moveTierPage n pn b = (.ok 0, .skip) := by
  rw [Mach.moveTierPage, if_neg (by rw [h]; decide), movePage_of_there ht]

theorem pinPage_of_there {m : Mach} {n pn b : Nat} (h : m.get .ATL_PLACE n = 0) (ht : (m.page pn).rcd.tier = tierOfByte b) :
    m.pinPage n pn b = (.ok 0, .seq .skip (.rcd pn fun r => { r with pin := true, pinTier := b })) := by
  rw [Mach.pinPage, h, if_neg (by simp), movePage_of_there ht]

theorem pinPage_of_other {m : Mach} {n pn b : Nat} (h : m.get .ATL_PLACE n ≠ 0) (ht : m.pinTier n (m.page pn).rcd ≠ some (tierOfByte b)) :
    m.pinPage n pn b = (.fail stPinned, .skip) := by
  rw [Mach.pinPage]
  exact if_pos (by simp [h, ht])

theorem pushPage_of_forbidden {m : Mach} {n : Nat} (h : m.sled = .dx16 ∨ m.get .ATL_OFFSHORE n ≠ 1) (pn : Nat) :
    m.pushPage n pn = (.fail stForbidden, .skip) := by
  rw [Mach.pushPage]
  exact if_pos (h.imp id fun hn => by rw [flag_eq_false hn]; rfl)

theorem recallPage_of_here {m : Mach} {pn : Nat} (h : (m.page pn).rcd.tier ≠ .offshore) (n : Nat) : m.recallPage n pn = (.ok 0, .skip) := by
  rw [Mach.recallPage]
  exact if_pos h

theorem syncPage_of_unmirrored {m : Mach} {n : Nat} (h : m.get .ATL_MIRROR n = 0) (pn : Nat) (sent : Bool) :
    m.syncPage n pn sent = (.fail stNotMirrored, .skip) := by
  rw [Mach.syncPage, if_pos h]

theorem syncPage_of_down {m : Mach} {n : Nat} (h : m.get .ATL_MIRROR n ≠ 0) (hl : m.upLink (m.get .ATL_PARTNER n) = none) (pn : Nat)
    (sent : Bool) : m.syncPage n pn sent = (.fail stPeerDown, .skip) := by
  rw [Mach.syncPage, if_neg h, if_pos (by rw [hl]; rfl)]

/-- A page descriptor takes its range as far as it can. -/
theorem completes_pages {c : Instr} {s : State} {q idx k : Nat} {d : Desc} (h : s.mach.Turn q idx d) (hop : d.op = k) (hk : opPages k = true)
    (hok : d.started = true ∨ s.mach.startStatus d = 0) (e : exec c s = s.act (opTurn q idx (fun d => d.op == k) .failed)) :
    Completes c s (plotFields ++ countFields ++ [.GRN_MOVES, .GRN_MOVE_ABORTS, .TIER_SINKS, .TIER_LIFTS_GROWTH,
        .TIER_LIFTS_HEAT, .TDL_EPOCH_STOPS, .RGL_M_LINES, .SND_T_LOST])
      [.dram, .pages, .out, .freeCtr, .lines, .dir, .grain, .keys, .host, .bkw, .lhl, .arc, .bql, .snd, .que, .rgl] fun t =>
      t = (Act.seq d.begun (pageStep d)).run s.mach :=
  completes_step (mine := fun d => d.op == k) h (beq_iff_eq.2 hop) hok (turnDesc_of_page (hop ▸ hk) .failed) (pageStep_within d)
    (by rfl) (by rfl) e

/-- Settles O26: each opcode takes its range's pages; one page is done, left or refused as its own rule says. -/
theorem pageDescriptors : Obligations.PageDescriptors := by
  unfold Obligations.PageDescriptors
  have hbegun (m : Mach) (d : Desc) (f : Fld) (i : Nat) : (d.begun.run m).get f i = m.get f i := by
    obtain ⟨x, hx⟩ := begun_eq d m
    rw [hx]
    rfl
  refine ⟨?_, ?_, ?_, ?_, ?_, ?_, ?_, ?_, ?_, ?_, ?_, ?_, ?_, ?_, ?_, ?_, ?_⟩
  case refine_1 => exact fun s q idx d h hop hok => completes_pages h hop (by decide) hok rfl
  case refine_2 => exact fun s q idx d h hop hok => completes_pages h hop (by decide) hok rfl
  case refine_3 => exact fun s q idx d h hop hok => completes_pages h hop (by decide) hok rfl
  case refine_4 => exact fun s q idx d h hop hok => completes_pages h hop (by decide) hok rfl
  case refine_5 => exact fun s q idx d h hop hok => completes_pages h hop (by decide) hok rfl
  case refine_6 => exact fun s q idx d h hop hok => completes_pages h hop (by decide) hok rfl
  case refine_7 => exact fun s q idx d h hop hok => completes_pages h hop (by decide) hok rfl
  case refine_8 =>
    intro s q idx l n d h hop hok hpos hlen hwait hst hline hatoll hhome
    have hone : OnePage s.mach q idx d l n := ⟨h, hok, hpos, hlen, hwait, hst, hline, hatoll, hhome⟩
    exact hone.completes_rcd (mine := fun d => d.op == 0x22) (beq_iff_eq.2 hop) (hop ▸ by decide)
      (hone.atPage.pageTurn.trans (pageOp_of_unpin _ n _ hop)) (.inl rfl) rfl
  case refine_9 =>
    intro s q idx l n d h hop hok hpos hlen hwait hst hline hatoll hhome
    have hone : OnePage s.mach q idx d l n := ⟨h, hok, hpos, hlen, hwait, hst, hline, hatoll, hhome⟩
    have hturn := hone.atPage.pageTurn.trans (pageOp_of_hint _ n _ hop)
    rw [hbegun] at hturn
    exact hone.completes_rcd (mine := fun d => d.op == 0x23) (beq_iff_eq.2 hop) (hop ▸ by decide) hturn (.inl rfl) rfl
  case refine_10 =>
    intro s q idx l n d h hop hok hpos hlen hwait hst hline hatoll hhome hplace htier
    have hone : OnePage s.mach q idx d l n := ⟨h, hok, hpos, hlen, hwait, hst, hline, hatoll, hhome⟩
    obtain ⟨x, hx⟩ := begun_eq d s.mach
    exact hone.completes_rcd (mine := fun d => d.op == 0x21) (beq_iff_eq.2 hop) (hop ▸ by decide)
      ((hone.atPage.pageTurn.trans (pageOp_of_pin _ n _ hop)).trans (pinPage_of_there (by rw [hbegun]; exact hplace) (by rw [hx]; exact htier)))
      (.inr rfl) rfl
  case refine_11 =>
    intro s q idx l n d h hop hok hpos hlen hwait hst hline hatoll hhome hplace htier
    have hone : OnePage s.mach q idx d l n := ⟨h, hok, hpos, hlen, hwait, hst, hline, hatoll, hhome⟩
    obtain ⟨x, hx⟩ := begun_eq d s.mach
    exact hone.completes_fail (mine := fun d => d.op == 0x21) (beq_iff_eq.2 hop) (hop ▸ by decide)
      ((hone.atPage.pageTurn.trans (pageOp_of_pin _ n _ hop)).trans (pinPage_of_other (by rw [hbegun]; exact hplace) (by rw [hx]; exact htier))) rfl
  case refine_12 =>
    intro s q idx l n d h hop hok hpos hlen hwait hst hline hatoll hhome hpin
    have hone : OnePage s.mach q idx d l n := ⟨h, hok, hpos, hlen, hwait, hst, hline, hatoll, hhome⟩
    obtain ⟨x, hx⟩ := begun_eq d s.mach
    exact hone.completes_fail (mine := fun d => d.op == 0x20) (beq_iff_eq.2 hop) (hop ▸ by decide)
      ((hone.atPage.pageTurn.trans (pageOp_of_move _ n _ hop)).trans (moveTierPage_of_pinned (by rw [hx]; exact hpin) _)) rfl
  case refine_13 =>
    intro s q idx l n d h hop hok hpos hlen hwait hst hline hatoll hhome hpin htier
    have hone : OnePage s.mach q idx d l n := ⟨h, hok, hpos, hlen, hwait, hst, hline, hatoll, hhome⟩
    obtain ⟨x, hx⟩ := begun_eq d s.mach
    exact hone.completes_left (mine := fun d => d.op == 0x20) (beq_iff_eq.2 hop) (hop ▸ by decide)
      ((hone.atPage.pageTurn.trans (pageOp_of_move _ n _ hop)).trans
        (moveTierPage_of_there (by rw [hx]; exact hpin) (by rw [hx]; exact htier))) rfl
  case refine_14 =>
    intro s q idx l n d h hop hok hpos hlen hwait hst hline hatoll hhome hno
    have hone : OnePage s.mach q idx d l n := ⟨h, hok, hpos, hlen, hwait, hst, hline, hatoll, hhome⟩
    obtain ⟨x, hx⟩ := begun_eq d s.mach
    exact hone.completes_fail (mine := fun d => d.op == 0x24) (beq_iff_eq.2 hop) (hop ▸ by decide)
      ((hone.atPage.pageTurn.trans (pageOp_of_push _ n _ hop)).trans (pushPage_of_forbidden (by rw [hx]; exact hno) _)) rfl
  case refine_15 =>
    intro s q idx l n d h hop hok hpos hlen hwait hst hline hatoll hhome hhere
    have hone : OnePage s.mach q idx d l n := ⟨h, hok, hpos, hlen, hwait, hst, hline, hatoll, hhome⟩
    obtain ⟨x, hx⟩ := begun_eq d s.mach
    exact hone.completes_left (mine := fun d => d.op == 0x25) (beq_iff_eq.2 hop) (hop ▸ by decide)
      ((hone.atPage.pageTurn.trans (pageOp_of_recall _ n _ hop)).trans (recallPage_of_here (by rw [hx]; exact hhere) n)) rfl
  case refine_16 =>
    intro s q idx l n d h hop hok hpos hlen hwait hst hline hatoll hhome hno
    have hone : OnePage s.mach q idx d l n := ⟨h, hok, hpos, hlen, hwait, hst, hline, hatoll, hhome⟩
    exact hone.completes_fail (mine := fun d => d.op == 0x41) (beq_iff_eq.2 hop) (hop ▸ by decide)
      ((hone.atPage.pageTurn.trans (pageOp_of_sync _ n _ hop)).trans (syncPage_of_unmirrored (by rw [hbegun]; exact hno) _ _)) rfl
  case refine_17 =>
    intro s q idx l n d h hop hok hpos hlen hwait hst hline hatoll hhome hmir hdown
    have hone : OnePage s.mach q idx d l n := ⟨h, hok, hpos, hlen, hwait, hst, hline, hatoll, hhome⟩
    obtain ⟨x, hx⟩ := begun_eq d s.mach
    exact hone.completes_fail (mine := fun d => d.op == 0x41) (beq_iff_eq.2 hop) (hop ▸ by decide)
      ((hone.atPage.pageTurn.trans (pageOp_of_sync _ n _ hop)).trans
        (syncPage_of_down (by rw [hbegun]; exact hmir) (by rw [hx]; exact hdown) _ _)) rfl

end Sys2Proof.Machine
end

section
/-!
PROOF. O27, the Ferry port (R247 to R250, R252, R254, R256).
-/

namespace Sys2Proof.Machine

/-! ### What a counted request leaves of a port -/

section Event

variable (a : Att) (code arg n : Nat) (m : Mach)

theorem event_fry : ((event a code arg n).run m).fry = m.fry := (event_within a code arg n).fry m (by rfl)

theorem event_ferrySlot : ((event a code arg n).run m).ferrySlot = m.ferrySlot := by
  funext eid
  simp only [Mach.ferrySlot, Mach.flag, event_get a code arg n m (f := .FRY_M_VALID) (by decide),
    event_get a code arg n m (f := .FRY_M_EID) (by decide)]

theorem portFld_of_ld {k : Nat} (h : k < 256) (ld slot : Fld) : portFld k ld slot = (ld, k) := if_pos h

theorem portFld_of_slot (k : Nat) (ld slot : Fld) : portFld (256 + k) ld slot = (slot, k) := by
  rw [portFld, if_neg (by omega), Nat.add_sub_cancel_left]

theorem event_burstErr (k len : Nat) : ((event a code arg n).run m).burstErr k len = m.burstErr k len := by
  have hget {f : Fld} (h : f ≠ .SND_K_VALUE ∧ f ≠ .SND_SUM) := event_get a code arg n m h
  have hcur : ferryGet ((event a code arg n).run m) k .FRY_CURSOR .FRY_M_CURSOR = ferryGet m k .FRY_CURSOR .FRY_M_CURSOR := by
    rw [ferryGet, ferryGet, portFld]
    split
    · exact hget (f := .FRY_CURSOR) (by decide) _
    · exact hget (f := .FRY_M_CURSOR) (by decide) _
  have hserve : ((event a code arg n).run m).portServes k = m.portServes k := by
    rw [Mach.portServes, Mach.portServes, hget (by decide)]
  rw [Mach.burstErr, Mach.burstErr, hcur, hserve, event_fry]

theorem event_rangeAt {ld : Nat} (h : ld < 256) (c : Nat) : ((event a code arg n).run m).rangeAt ld c = m.rangeAt ld c := by
  have hget {f : Fld} (h : f ≠ .SND_K_VALUE ∧ f ≠ .SND_SUM) := event_get a code arg n m h
  have hview (v : Nat) : ((event a code arg n).run m).viewBase v = m.viewBase v := by
    rw [Mach.viewBase, Mach.viewBase, hget (by decide)]
  have hbytes (x : Nat) : ((event a code arg n).run m).viewBytes x = m.viewBytes x := by
    rw [Mach.viewBytes, Mach.viewBytes, event_isBell, hget (by decide)]
  rw [Mach.rangeAt, Mach.rangeAt, if_pos h, if_pos h, event_ldViews, event_inView]
  simp only [hget (f := .VW_ATOLL) (by decide), event_isBell, hview, hbytes]

end Event

/-! ### A burst that is taken -/

/-- A port's cursor and count go on by the bytes of a burst, which is noted. -/
def countOn (cur cnt : Fld) (i n : Nat) (p : Nat → FrySt → FrySt) : Act := .read fun m =>
  .all [.set cur i (m.get cur i + n), .inc cnt i n, .prim (.fry (p (m.get cur i)))]

theorem countOn_post {cur cnt : Fld} (h : cnt ≠ cur) (i n : Nat) (p : Nat → FrySt → FrySt) (m : Mach) :
    ((countOn cur cnt i n p).run m).get cur i = (m.get cur i + n) % 2 ^ cur.spec.width ∧
    ((countOn cur cnt i n p).run m).get cnt i = (m.get cnt i + n) % 2 ^ cnt.spec.width ∧
    Mach.Others cur i m ((countOn cur cnt i n p).run m) ∧ Mach.Others cnt i m ((countOn cur cnt i n p).run m) := by
  have hrun (f : Fld) (j : Nat) : ((countOn cur cnt i n p).run m).get f j =
      ((Act.inc cnt i n).run ((Act.set cur i (m.get cur i + n)).run m)).get f j := by
    simp only [countOn, Act.run_read, Act.run_all_cons, Act.run_all_one]
    rfl
  refine ⟨?_, ?_, fun j hj => ?_, fun j hj => ?_⟩ <;> rw [hrun]
  · rw [Mach.get_inc_other h.symm, Mach.get_set_mod]
  · rw [Mach.get_inc, Mach.get_set_other h]
  · rw [Mach.get_inc_other h.symm, Mach.others_set _ _ _ _ j hj]
  · rw [Mach.others_inc _ _ _ _ j hj, Mach.get_set_other h]

/-- The burst joins those whose lines are awaited. -/
def joinBurst (w : FerryPort) (write : Bool) (n lines c : Nat) (f : FrySt) : FrySt :=
  { f with bursts := f.bursts ++ [⟨w, f.nextId, write, n, c % 64, lines⟩], nextId := f.nextId + 1 }

theorem burstTake_of_write (w : FerryPort) {k : Nat} (h : k < 256) (n lines : Nat) :
    burstTake w k true n lines = countOn .FRY_CURSOR .FRY_WR_BYTES k n (joinBurst w true n lines) := by
  simp only [burstTake, ferryGet, ferrySet, portFld_of_ld h]
  rfl

theorem burstTake_of_read (w : FerryPort) {k : Nat} (h : k < 256) (n lines : Nat) :
    burstTake w k false n lines = countOn .FRY_CURSOR .FRY_RD_BYTES k n (joinBurst w false n lines) := by
  simp only [burstTake, ferryGet, ferrySet, portFld_of_ld h]
  rfl

theorem burstTake_of_slot (w : FerryPort) (k n lines : Nat) :
    burstTake w (256 + k) false n lines = countOn .FRY_M_CURSOR .FRY_M_RD_BYTES k n (joinBurst w false n lines) := by
  simp only [burstTake, ferryGet, ferrySet, portFld_of_slot]
  rfl

/-- The cursors and counts of ports. -/
def portCounts : List Fld :=
  [.FRY_CURSOR, .FRY_WR_BYTES, .FRY_RD_BYTES, .FRY_M_CURSOR, .FRY_M_WR_BYTES, .FRY_M_RD_BYTES]

/-- The parts that the lines of a burst may change. -/
def burstParts : List Part := [.pages, .out, .freeCtr, .lines, .dir, .host, .bkw, .lhl, .arc, .bql, .snd, .fry]

/-- A burst that is taken advances its cursor and its count, whatever its lines do. -/
theorem completes_taken {c : Instr} {s : State} {a pre rest : Act} {cur cnt : Fld} {i n : Nat} {p : Nat → FrySt → FrySt} {fs : List Fld}
    (e : exec c s = s.act a) (hrun : a.run s.mach = (Act.seq (countOn cur cnt i n p) rest).run (pre.run s.mach)) (hne : cnt ≠ cur)
    (hcur : cur ∈ portCounts) (hcnt : cnt ∈ portCounts) (hpre : pre.Within (places countFields []))
    (hrest : rest.Within (places (lineFields ++ [.TIER_HINT_DOWN]) burstParts)) (hfcur : cur ∈ fs) (hfcnt : cnt ∈ fs)
    (hfp : inside (places countFields []) (places fs burstParts) = true)
    (hfr : inside (places (lineFields ++ [.TIER_HINT_DOWN]) burstParts) (places fs burstParts) = true) :
    Completes c s fs burstParts fun t =>
      t.get cur i = (s.mach.get cur i + n) % 2 ^ cur.spec.width ∧ t.get cnt i = (s.mach.get cnt i + n) % 2 ^ cnt.spec.width ∧
      Mach.Others cur i s.mach t ∧ Mach.Others cnt i s.mach t := by
  have hkeep {f : Fld} (hf : f ∈ portCounts) (j : Nat) (m : Mach) : (rest.run m).get f j = m.get f j :=
    hrest.get_of_mem (l := portCounts) (by rfl) (by rfl) hf j m
  have hbefore {f : Fld} (hf : f ∈ portCounts) (j : Nat) : (pre.run s.mach).get f j = s.mach.get f j :=
    hpre.get_of_mem (l := portCounts) (by rfl) (by rfl) hf j s.mach
  have hfry : (places fs burstParts).testBit 617 = true := inside_bit hfr (by rfl)
  have hcountOn : (countOn cur cnt i n p).Within (places fs burstParts) :=
    fun _ => ⟨within_set (places_mem _ hfcur), within_inc (places_mem _ hfcnt), within_fry hfry⟩
  obtain ⟨h1, h2, h3, h4⟩ := countOn_post hne i n p (pre.run s.mach)
  refine completes_as (b := .seq pre (.seq (countOn cur cnt i n p) rest)) e hrun (K := places fs burstParts) ⟨hpre.mono hfp, hcountOn, hrest.mono hfr⟩ (inside_refl _) ?_
  simp only [Act.run_seq]
  refine ⟨?_, ?_, fun j hj => ?_, fun j hj => ?_⟩
  · rw [hkeep hcur, h1, hbefore hcur]
  · rw [hkeep hcnt, h2, hbefore hcnt]
  · rw [hkeep hcur, h3 j hj, hbefore hcur]
  · rw [hkeep hcnt, h4 j hj, hbefore hcnt]

/-! ### Bursts of an LD's page -/

section Page

variable {m : Mach} {n : Nat} (hn : n < 256)

include hn

theorem burst_run_write {bs : List (Byte × Bool)} (herr : m.burstErr n bs.length = none) (len : Nat) : (burst (.ld n) n (some bs) len).run m =
    (Act.seq (countOn .FRY_CURSOR .FRY_WR_BYTES n bs.length (joinBurst (.ld n) true bs.length (writePieces (m.get .FRY_CURSOR n) bs).length))
      (.seq (burstWrite (.ld n) n m.fry.nextId (m.get .FRY_CURSOR n) bs) (settle (.ld n)))).run m := by
  rw [burst, Act.run_read]
  dsimp only
  rw [herr, ferryGet, portFld_of_ld hn, burstTake_of_write _ hn]
  simp only [Act.run_all_cons, Act.run_all_one, Act.run_seq, Act.run_when, decide_eq_true_eq]
  rw [if_neg (by omega)]

theorem burst_run_read {len : Nat} (herr : m.burstErr n len = none) : (burst (.ld n) n none len).run m =
    (Act.seq (countOn .FRY_CURSOR .FRY_RD_BYTES n len (joinBurst (.ld n) false len (piecesOf (m.get .FRY_CURSOR n) len).length))
      (.seq (burstRead (.ld n) n m.fry.nextId (m.get .FRY_CURSOR n) len) (settle (.ld n)))).run m := by
  rw [burst, Act.run_read]
  dsimp only
  rw [herr, ferryGet, portFld_of_ld hn, burstTake_of_read _ hn]
  simp only [Act.run_all_cons, Act.run_all_one, Act.run_seq]

/-- A burst of an LD's page that is refused: its bit and its count. -/
theorem burst_run_refused {wr : Option (List (Byte × Bool))} {len e : Nat}
    (herr : m.burstErr n (match wr with | some bs => bs.length | none => len) = some e) :
    (burst (.ld n) n wr len).run m = (Act.seq (burstRefuse n e) (.when wr.isNone (portReply (.ld n) 1 []))).run m := by
  have hpage : decide (256 ≤ n) = false := decide_eq_false (by omega)
  cases wr with
  | none =>
    rw [burst, Act.run_read]
    dsimp only at herr ⊢
    rw [herr, hpage, Bool.or_false]
  | some bs =>
    rw [burst, Act.run_read]
    dsimp only at herr ⊢
    rw [herr, hpage, Bool.or_false]

theorem burstRefuse_post (e : Nat) (a : Mach) :
    ((burstRefuse n e).run a).get .FRY_REJECTS n = (a.get .FRY_REJECTS n + 1) % 2 ^ 32 ∧
    ((burstRefuse n e).run a).get .FRY_ERR n = withBit (a.get .FRY_ERR n) e true % 2 ^ 5 ∧
    Mach.Others .FRY_REJECTS n a ((burstRefuse n e).run a) ∧ Mach.Others .FRY_ERR n a ((burstRefuse n e).run a) := by
  have hrun : (burstRefuse n e).run a =
      (Act.inc .FRY_REJECTS n 1).run ((Act.set .FRY_ERR n (withBit (a.get .FRY_ERR n) e true)).run a) := by
    rw [burstRefuse, Act.run_seq, portErr, Act.run_read, portFld_of_ld hn, portFld_of_ld hn]
  rw [hrun]
  refine ⟨?_, ?_, fun j hj => ?_, fun j hj => ?_⟩
  · rw [Mach.get_inc, Mach.get_set_other (by decide)]
    rfl
  · rw [Mach.get_inc_other (by decide), Mach.get_set_mod]
    rfl
  · rw [Mach.others_inc _ _ _ _ j hj, Mach.get_set_other (by decide)]
  · rw [Mach.get_inc_other (by decide), Mach.others_set _ _ _ _ j hj]

theorem burstRefuse_page_within (e : Nat) : (burstRefuse n e).Within (places [.FRY_ERR, .FRY_REJECTS] []) := by
  have herr : portErr n e = .read fun m => .set .FRY_ERR n (withBit (m.get .FRY_ERR n) e true) := by
    rw [portErr, portFld_of_ld hn]
  rw [burstRefuse, herr, portFld_of_ld hn]
  exact ⟨fun _ => within_set (by rfl), within_inc (f := .FRY_REJECTS) (by rfl)⟩

end Page

theorem accepted_fry (m a : Mach) (ld : Nat) : ((accepted a ld).run m).fry = m.fry := event_fry ..

theorem accepted_within (m : Mach) (ld : Nat) : (accepted m ld).Within (places countFields []) :=
  (event_within _ _ _ _).mono (by rfl)

/-- A burst that is refused changes its port's error and count of rejects. -/
theorem completes_refused {c : Instr} {s : State} {a : Act} {n e : Nat} (hn : n < 256) (heq : exec c s = s.act a) {r : Act} {ps : List Part}
    (hrun : a.run s.mach = (Act.all [accepted s.mach n, burstRefuse n e, r]).run s.mach) (hr : r.Within (places [] ps)) (hno : (places [] ps).testBit 604 = false)
    (h1 : inside (places countFields []) (places (countFields ++ [.FRY_ERR, .FRY_REJECTS]) ps) = true)
    (h2 : inside (places [.FRY_ERR, .FRY_REJECTS] []) (places (countFields ++ [.FRY_ERR, .FRY_REJECTS]) ps) = true)
    (h3 : inside (places [] ps) (places (countFields ++ [.FRY_ERR, .FRY_REJECTS]) ps) = true) :
    Completes c s (countFields ++ [.FRY_ERR, .FRY_REJECTS]) ps fun t =>
      t.get .FRY_REJECTS n = (s.mach.get .FRY_REJECTS n + 1) % 2 ^ 32 ∧
      t.get .FRY_ERR n = withBit (s.mach.get .FRY_ERR n) e true % 2 ^ 5 ∧
      Mach.Others .FRY_REJECTS n s.mach t ∧ Mach.Others .FRY_ERR n s.mach t ∧
      t.out = (r.run ((burstRefuse n e).run ((accepted s.mach n).run s.mach))).out := by
  obtain ⟨hrej, herr, horej, hoerr⟩ := burstRefuse_post hn e ((accepted s.mach n).run s.mach)
  have hcount {f : Fld} (hf : f ≠ .SND_K_VALUE ∧ f ≠ .SND_SUM) (j : Nat) : ((accepted s.mach n).run s.mach).get f j = s.mach.get f j :=
    accepted_get hf s.mach s.mach n j
  refine completes_as heq hrun (K := places (countFields ++ [.FRY_ERR, .FRY_REJECTS]) ps)
    ⟨(accepted_within _ _).mono h1, (burstRefuse_page_within hn e).mono h2, hr.mono h3⟩ (inside_refl _) ?_
  simp only [Act.run_all_cons, Act.run_all_one]
  refine ⟨?_, ?_, fun j hj => ?_, fun j hj => ?_, trivial⟩ <;> rw [hr.get_of_parts hno]
  · rw [hrej, hcount (by decide)]
  · rw [herr, hcount (by decide)]
  · rw [horej j hj, hcount (by decide)]
  · rw [hoerr j hj, hcount (by decide)]

theorem ferryWriteBurst_run {data : List Byte} {en : List Bool} (h : burstSpan data en ≠ []) (w : FerryPort) (m : Mach) :
    (ferryWriteBurst w data en).run m = (ferryBurst w (some (burstSpan data en)) data.length).run m := by
  rw [ferryWriteBurst, Act.run_when, if_pos (by simpa using h)]

theorem ferryBurst_run_page {m : Mach} {n : Nat} (hup : m.ldUp n false = true) (hf : m.fatal = false) (wr : Option (List (Byte × Bool)))
    (len : Nat) : (ferryBurst (.ld n) wr len).run m = (burst (.ld n) n wr len).run ((accepted m n).run m) :=
  accept_run _ hup hf

/-! ### Over MCTP -/

theorem ferryBurst_run_mctp {m : Mach} {eid len : Nat} (hebb : m.ebbing = false) (wr : Option (List (Byte × Bool))) :
    (ferryBurst (.mctp eid) wr len).run m = ((if !mctpLenOk len then .emit (.mctp eid 0x83 [])
      else match m.ferrySlot eid with
        | none => .emit (.mctp eid 0x80 [])
        | some k => .seq (event .pilot 0xA2 0 1) (burst (.mctp eid) (256 + k) wr len) : Act)).run ((event .pilot 0xA1 0 1).run m) := by
  rw [ferryBurst, Act.run_read, Act.run_all_cons, Act.run_all_one, hebb, if_neg (by decide)] <;> rfl

theorem burst_run_slot {m : Mach} {eid k len : Nat} (herr : m.burstErr (256 + k) len = none) : (burst (.mctp eid) (256 + k) none len).run m =
    (Act.seq (countOn .FRY_M_CURSOR .FRY_M_RD_BYTES k len
        (joinBurst (.mctp eid) false len (piecesOf (m.get .FRY_M_CURSOR k) len).length))
      (.seq (burstRead (.mctp eid) (256 + k) m.fry.nextId (m.get .FRY_M_CURSOR k) len) (settle (.mctp eid)))).run m := by
  rw [burst, Act.run_read]
  dsimp only
  rw [herr, ferryGet, portFld_of_slot, burstTake_of_slot]
  simp only [Act.run_all_cons, Act.run_all_one, Act.run_seq]

/-! ### Cursors -/

theorem setCursor_of_page {n : Nat} (hn : n < 256) (v : Nat) : setCursor n v = .read fun m => .seq (.set .FRY_CURSOR n v)
    (.prim (.fry fun f => { f with ranges := match m.rangeAt n v with | some r => f.ranges.put n r | none => f.ranges.erase n })) := by
  rw [setCursor]
  refine congrArg Act.read (funext fun m => ?_)
  rw [ferrySet, portFld_of_ld hn, Mach.portOwner, if_pos hn] <;> rfl

theorem setCursor_of_slot (k v : Nat) : ∃ p : Mach → FrySt → FrySt, setCursor (256 + k) v = .read fun m =>
    .seq (.set .FRY_M_CURSOR k v) (.prim (.fry (p m))) := by
  simp only [setCursor, ferrySet, portFld_of_slot]
  exact ⟨_, rfl⟩

theorem setCursor_ranges {n : Nat} (hn : n < 256) (v : Nat) (m : Mach) : ((setCursor n v).run m).fry.ranges.find? n = m.rangeAt n v := by
  rw [setCursor_of_page hn, Act.run_read, Act.run_seq]
  cases h : m.rangeAt n v with
  | some r => exact SMap.find?_put_self ..
  | none => exact SMap.find?_erase_self ..

theorem setCursor_get {n : Nat} (hn : n < 256) (v : Nat) (m : Mach) : ((setCursor n v).run m).get .FRY_CURSOR n = v % 2 ^ 64 ∧
    Mach.Others .FRY_CURSOR n m ((setCursor n v).run m) := by
  rw [setCursor_of_page hn]
  exact ⟨Mach.get_set_mod .FRY_CURSOR n v m, Mach.others_set .FRY_CURSOR n v m⟩

theorem setCursor_bursts (k v : Nat) (m : Mach) : ((setCursor k v).run m).fry.bursts = m.fry.bursts := rfl

theorem setCursor_page_within {n : Nat} (hn : n < 256) (v : Nat) : (setCursor n v).Within (places [.FRY_CURSOR] [.fry]) := by
  rw [setCursor_of_page hn]
  exact fun _ => ⟨within_set (by rfl), within_fry (by rfl)⟩

theorem setCursor_slot_get (k v : Nat) (m : Mach) : ((setCursor (256 + k) v).run m).get .FRY_M_CURSOR k = v % 2 ^ 64 ∧
    Mach.Others .FRY_M_CURSOR k m ((setCursor (256 + k) v).run m) := by
  obtain ⟨p, hp⟩ := setCursor_of_slot k v
  rw [hp]
  exact ⟨Mach.get_set_mod .FRY_M_CURSOR k v m, Mach.others_set .FRY_M_CURSOR k v m⟩

theorem setCursor_slot_within (k v : Nat) : (setCursor (256 + k) v).Within (places [.FRY_M_CURSOR] [.fry]) := by
  obtain ⟨p, hp⟩ := setCursor_of_slot k v
  rw [hp]
  exact fun _ => ⟨within_set (by rfl), within_fry (by rfl)⟩

theorem ferryCursorWrite_run_page {m : Mach} {n : Nat} (hup : m.ldUp n false = true) (hf : m.fatal = false) (v size : Nat) :
    (ferryCursorWrite (.ld n) v size).run m =
      (Act.seq (accepted m n) (if size < 8 then .inc .FRY_REJECTS n 1 else setCursor n (v % 2 ^ 64))).run m := by
  rw [ferryCursorWrite, Act.run_read]
  exact accept_run _ hup hf

theorem ferryCursorWrite_run_slot {m : Mach} {eid k : Nat} (h : m.ferrySlot eid = some k) (v size : Nat) :
    (ferryCursorWrite (.mctp eid) v size).run m =
      (setCursor (256 + k) (Bits.setField (m.get .FRY_M_CURSOR k) 0 (8 * min size 8) v % 2 ^ 64)).run m := by
  rw [ferryCursorWrite, Act.run_read]
  dsimp only
  rw [h, Act.run_some?_some]

theorem responded_out (ld : Nat) (m : Mach) : ((responded ld).run m).out = m.out := (responded_within ld).out m (by rfl)

/-- An answer over MCTP to a burst that reaches no slot. -/
theorem completes_mctpRefused {s : State} {eid len code : Nat} (hrun : (ferryBurst (.mctp eid) none len).run s.mach =
      (Act.emit (.mctp eid code [])).run ((event .pilot 0xA1 0 1).run s.mach)) :
    Completes (.ferryReadBurst (.mctp eid) len) s countFields [.out] fun t => t.out = s.mach.out ++ [.mctp eid code []] := by
  refine completes_as (b := .seq (event .pilot 0xA1 0 1) (.emit (.mctp eid code []))) rfl hrun (K := places countFields [.out])
    ⟨(event_within _ _ _ _).mono (by rfl), within_emit (by rfl)⟩ (inside_refl _) ?_
  rw [Act.run_seq, Act.run_emit, Prim.emit_out, event_out]

theorem lines_within (w : FerryPort) {a : Act} (ha : a.Within (places (lineFields ++ [.TIER_HINT_DOWN]) burstParts)) :
    (Act.seq a (settle w)).Within (places (lineFields ++ [.TIER_HINT_DOWN]) burstParts) :=
  ⟨ha, (settle_within w).mono (by rfl)⟩

theorem burstRead_lines (w : FerryPort) (k id c n : Nat) : (burstRead w k id c n).Within (places (lineFields ++ [.TIER_HINT_DOWN]) burstParts) :=
  (burstRead_within _ _ _ _ _).mono (by rfl)

theorem completes_writeTaken {s : State} {n len : Nat} {data : List Byte} {en : List Bool} (hn : n < 256) (hup : s.mach.ldUp n false = true)
    (hf : s.mach.fatal = false) (hl : len = (burstSpan data en).length) (hlen : len ≠ 0) (herr : s.mach.burstErr n len = none) :
    Completes (.ferryWriteBurst (.ld n) data en) s (lineFields ++ [.TIER_HINT_DOWN, .FRY_CURSOR, .FRY_WR_BYTES])
      [.pages, .out, .freeCtr, .lines, .dir, .host, .bkw, .lhl, .arc, .bql, .snd, .fry] fun t =>
      t.get .FRY_CURSOR n = (s.mach.get .FRY_CURSOR n + len) % 2 ^ 64 ∧
      t.get .FRY_WR_BYTES n = (s.mach.get .FRY_WR_BYTES n + len) % 2 ^ 48 ∧
      Mach.Others .FRY_CURSOR n s.mach t ∧ Mach.Others .FRY_WR_BYTES n s.mach t := by
  subst hl
  have hne : burstSpan data en ≠ [] := fun h => hlen (by rw [h]; rfl)
  have hrun := ((ferryWriteBurst_run hne (.ld n) s.mach).trans (ferryBurst_run_page hup hf _ _)).trans
    (burst_run_write (m := (accepted s.mach n).run s.mach) hn ((event_burstErr _ _ _ _ s.mach n _).trans herr) data.length)
  exact completes_taken (pre := accepted s.mach n) (cur := .FRY_CURSOR) (cnt := .FRY_WR_BYTES) rfl hrun (by decide) (by decide) (by decide)
    (accepted_within _ _) (lines_within _ ((burstWrite_within _ _ _ _ _).mono (by rfl))) (by decide) (by decide)
    (by rfl) (by rfl)

theorem completes_writeRefused {s : State} {n e : Nat} {data : List Byte} {en : List Bool} (hn : n < 256) (hup : s.mach.ldUp n false = true)
    (hf : s.mach.fatal = false) (hne : burstSpan data en ≠ []) (herr : s.mach.burstErr n (burstSpan data en).length = some e) :
    Completes (.ferryWriteBurst (.ld n) data en) s (countFields ++ [.FRY_ERR, .FRY_REJECTS]) [] fun t =>
      t.get .FRY_REJECTS n = (s.mach.get .FRY_REJECTS n + 1) % 2 ^ 32 ∧
      t.get .FRY_ERR n = withBit (s.mach.get .FRY_ERR n) e true % 2 ^ 5 ∧
      Mach.Others .FRY_REJECTS n s.mach t ∧ Mach.Others .FRY_ERR n s.mach t := by
  have hrun := ((ferryWriteBurst_run hne (.ld n) s.mach).trans (ferryBurst_run_page hup hf _ _)).trans
    (burst_run_refused (m := (accepted s.mach n).run s.mach) hn ((event_burstErr _ _ _ _ s.mach n _).trans herr))
  refine (completes_refused hn rfl (r := .skip) (ps := []) hrun within_skip (by rfl) (by rfl) (by rfl)
    (by rfl)).imp fun t ht => ?_
  obtain ⟨hrej, hbit, horej, hoerr, -⟩ := ht
  exact ⟨hrej, hbit, horej, hoerr⟩

theorem completes_readTaken {s : State} {n len : Nat} (hn : n < 256) (hup : s.mach.ldUp n false = true) (hf : s.mach.fatal = false)
    (herr : s.mach.burstErr n len = none) :
    Completes (.ferryReadBurst (.ld n) len) s (lineFields ++ [.TIER_HINT_DOWN, .FRY_CURSOR, .FRY_RD_BYTES])
      [.pages, .out, .freeCtr, .lines, .dir, .host, .bkw, .lhl, .arc, .bql, .snd, .fry] fun t =>
      t.get .FRY_CURSOR n = (s.mach.get .FRY_CURSOR n + len) % 2 ^ 64 ∧
      t.get .FRY_RD_BYTES n = (s.mach.get .FRY_RD_BYTES n + len) % 2 ^ 48 ∧
      Mach.Others .FRY_CURSOR n s.mach t ∧ Mach.Others .FRY_RD_BYTES n s.mach t := by
  have hrun := (ferryBurst_run_page hup hf none len).trans
    (burst_run_read (m := (accepted s.mach n).run s.mach) hn ((event_burstErr _ _ _ _ s.mach n _).trans herr))
  exact completes_taken (pre := accepted s.mach n) (cur := .FRY_CURSOR) (cnt := .FRY_RD_BYTES) rfl hrun (by decide) (by decide) (by decide)
    (accepted_within _ _) (lines_within _ (burstRead_lines _ _ _ _ _)) (by decide) (by decide) (by rfl) (by rfl)

theorem completes_readRefused {s : State} {n len e : Nat} (hn : n < 256) (hup : s.mach.ldUp n false = true) (hf : s.mach.fatal = false)
    (herr : s.mach.burstErr n len = some e) :
    Completes (.ferryReadBurst (.ld n) len) s (countFields ++ [.FRY_ERR, .FRY_REJECTS]) [.out] fun t =>
      t.get .FRY_REJECTS n = (s.mach.get .FRY_REJECTS n + 1) % 2 ^ 32 ∧
      t.get .FRY_ERR n = withBit (s.mach.get .FRY_ERR n) e true % 2 ^ 5 ∧ t.out = s.mach.out ++ [.ferryData n 1 []] ∧
      Mach.Others .FRY_REJECTS n s.mach t ∧ Mach.Others .FRY_ERR n s.mach t := by
  have hrun := (ferryBurst_run_page hup hf none len).trans
    (burst_run_refused (m := (accepted s.mach n).run s.mach) hn ((event_burstErr _ _ _ _ s.mach n _).trans herr))
  refine (completes_refused hn rfl (r := portReply (.ld n) 1 []) (ps := [.out]) hrun (within_emit (by rfl)) (by rfl)
    (by rfl) (by rfl) (by rfl)).imp fun t ht => ?_
  obtain ⟨hrej, hbit, horej, hoerr, hout⟩ := ht
  refine ⟨hrej, hbit, hout.trans ?_, horej, hoerr⟩
  rw [portReply, Act.run_emit, Prim.emit_out, (burstRefuse_within n e).out _ (by rfl), accepted, event_out]

theorem completes_slotTaken {s : State} {eid len k : Nat} (hebb : s.mach.ebbing = false) (hlen : mctpLenOk len = true)
    (hslot : s.mach.ferrySlot eid = some k) (herr : s.mach.burstErr (256 + k) len = none) :
    Completes (.ferryReadBurst (.mctp eid) len) s (lineFields ++ [.TIER_HINT_DOWN, .FRY_M_CURSOR, .FRY_M_RD_BYTES])
      [.pages, .out, .freeCtr, .lines, .dir, .host, .bkw, .lhl, .arc, .bql, .snd, .fry] fun t =>
      t.get .FRY_M_CURSOR k = (s.mach.get .FRY_M_CURSOR k + len) % 2 ^ 64 ∧
      t.get .FRY_M_RD_BYTES k = (s.mach.get .FRY_M_RD_BYTES k + len) % 2 ^ 48 ∧ Mach.Others .FRY_M_CURSOR k s.mach t := by
  have hrun := (ferryBurst_run_mctp (len := len) hebb none).trans (by rw [hlen, if_neg (by decide), hslot, Act.run_seq,
    burst_run_slot (by rw [event_burstErr, event_burstErr, herr])])
  refine (completes_taken (pre := .seq (event .pilot 0xA1 0 1) (event .pilot 0xA2 0 1)) (cur := .FRY_M_CURSOR) (cnt := .FRY_M_RD_BYTES)
    rfl hrun (by decide) (by decide) (by decide) ⟨(event_within _ _ _ _).mono (by rfl), (event_within _ _ _ _).mono (by rfl)⟩
    (lines_within _ (burstRead_lines _ _ _ _ _)) (by decide) (by decide) (by rfl) (by rfl)).imp fun t ht => ?_
  obtain ⟨hcur, hcnt, hothers, -⟩ := ht
  exact ⟨hcur, hcnt, hothers⟩

theorem completes_cursorWrite {s : State} {n : Nat} (v : Nat) (hn : n < 256) (hup : s.mach.ldUp n false = true) (hf : s.mach.fatal = false) :
    Completes (.ferryCursorWrite (.ld n) v 8) s (countFields ++ [.FRY_CURSOR]) [.fry] fun t =>
      t.get .FRY_CURSOR n = v % 2 ^ 64 ∧ t.fry.ranges.find? n = s.mach.rangeAt n (v % 2 ^ 64) ∧
      t.fry.bursts = s.mach.fry.bursts ∧ Mach.Others .FRY_CURSOR n s.mach t := by
  obtain ⟨hself, hothers⟩ := setCursor_get hn (v % 2 ^ 64) ((accepted s.mach n).run s.mach)
  refine completes_as (b := .seq (accepted s.mach n) (setCursor n (v % 2 ^ 64))) rfl
    ((ferryCursorWrite_run_page hup hf v 8).trans (by rw [if_neg (by decide)])) (K := places (countFields ++ [.FRY_CURSOR]) [.fry])
    ⟨(accepted_within _ _).mono (by rfl), (setCursor_page_within hn _).mono (by rfl)⟩ (inside_refl _) ⟨?_, ?_, ?_, fun j hj => ?_⟩
  · rw [Act.run_seq, hself, Nat.mod_mod]
  · rw [Act.run_seq, setCursor_ranges hn]
    exact event_rangeAt _ _ _ _ _ hn _
  · rw [Act.run_seq, setCursor_bursts, accepted_fry]
  · exact (hothers j hj).trans (accepted_get (by decide) ..)

/-- Settles O27: a burst by whether it may be taken, a cursor's write by its size and port. -/
theorem ferryBursts : Obligations.FerryBursts := by
  unfold Obligations.FerryBursts
  refine ⟨?_, ?_, ?_, ?_, ?_, ?_, ?_, ?_, ?_, ?_, ?_, ?_, ?_⟩
  case refine_1 => exact fun s n len data en hn hup hf hl hlen herr => completes_writeTaken hn hup hf hl hlen herr
  case refine_2 => exact fun s n e data en hn hup hf hne herr => completes_writeRefused hn hup hf hne herr
  case refine_3 =>
    intro s w data en h
    refine completes_as (a := ferryWriteBurst w data en) (b := .skip) rfl ?_ (within_skip (K := 0)) (by rfl) rfl
    rw [ferryWriteBurst, Act.run_when, h, if_neg (by decide), Act.run_skip]
  case refine_4 => exact fun s n len hn hup hf herr => completes_readTaken hn hup hf herr
  case refine_5 => exact fun s n len e hn hup hf herr => completes_readRefused hn hup hf herr
  case refine_6 =>
    intro s eid len hebb hlen
    exact completes_mctpRefused ((ferryBurst_run_mctp hebb none).trans (by rw [hlen, if_pos (by decide)]))
  case refine_7 =>
    intro s eid len hebb hlen hslot
    exact completes_mctpRefused ((ferryBurst_run_mctp hebb none).trans (by rw [hlen, if_neg (by decide), hslot]))
  case refine_8 => exact fun s eid len k hebb hlen hslot herr => completes_slotTaken hebb hlen hslot herr
  case refine_9 => exact fun s n v hn hup hf => completes_cursorWrite v hn hup hf
  case refine_10 =>
    intro s n v size hup hf hsize
    refine completes_as (b := .seq (accepted s.mach n) (.inc .FRY_REJECTS n 1)) rfl
      ((ferryCursorWrite_run_page hup hf v size).trans (by rw [if_pos hsize])) (K := places (countFields ++ [.FRY_REJECTS]) [])
      ⟨(accepted_within _ _).mono (by rfl), within_inc (by rfl)⟩ (inside_refl _) ⟨?_, fun j hj => ?_⟩
    · rw [Act.run_seq, Mach.get_inc, accepted_get (by decide)]
      rfl
    · exact (Mach.others_inc _ _ _ _ j hj).trans (accepted_get (by decide) ..)
  case refine_11 =>
    intro s eid v size k hslot
    obtain ⟨hself, hothers⟩ := setCursor_slot_get k (Bits.setField (s.mach.get .FRY_M_CURSOR k) 0 (8 * min size 8) v % 2 ^ 64) s.mach
    exact completes_as rfl (ferryCursorWrite_run_slot hslot v size) (setCursor_slot_within k _) (inside_refl _)
      ⟨by rw [hself, Nat.mod_mod], hothers⟩
  case refine_12 =>
    intro s wr
    refine completes_of rfl (ferryMgmtAccess_within wr) (by rfl) ?_
    have hcount := Mach.get_inc .FRY_MGMT_IGNORED 0 1 s.mach
    cases wr with
    | true => exact ⟨hcount, (List.append_nil _).symm⟩
    | false => exact ⟨hcount, rfl⟩
  case refine_13 =>
    intro s ld tag hup hf
    have hrun : (ferryAtomicop ld tag).run s.mach = (Act.all [accepted s.mach ld, responded ld, .emit (.completion ld tag 1 [])]).run s.mach :=
      accept_run _ hup hf
    refine completes_as rfl hrun (K := places countFields [.out, .freeCtr]) ⟨(accepted_within _ _).mono (by rfl),
      (responded_within ld).mono (by rfl), within_emit (by rfl)⟩ (inside_refl _) ?_
    rw [Act.run_all_cons, Act.run_all_cons, Act.run_all_one, Act.run_emit, Prim.emit_out, responded_out, accepted, event_out]

end Sys2Proof.Machine
end

section
/-!
SUPPORT. Boesque links: what a link slot keeps, control and sequenced packets as they leave, rounds, a port's power, and the fields that a
flush and a lost link leave.
-/

namespace Sys2Proof.Machine

/-! ### What a link slot keeps -/

section Slot

variable (l : Nat) (f : BqlLink → BqlLink) (m : Mach)

@[simp] theorem blink_self : ((Act.blink l f).run m).blink l = f (m.blink l) := SMap.find?_set_self ..

theorem blink_other {j : Nat} (h : j ≠ l) : ((Act.blink l f).run m).blink j = m.blink j :=
  congrArg (fun x : Option BqlLink => x.getD {}) (SMap.find?_set_ne _ _ _ _ _ h)

@[simp] theorem blink_get (g : Fld) (i : Nat) : ((Act.blink l f).run m).get g i = m.get g i := rfl

@[simp] theorem blink_out : ((Act.blink l f).run m).out = m.out := rfl

@[simp] theorem blink_txq : ((Act.blink l f).run m).bql.txq = m.bql.txq := rfl

@[simp] theorem blink_phyMode (p : Nat) : ((Act.blink l f).run m).phyMode p = m.phyMode p := rfl

end Slot

theorem blink_within (l : Nat) (f : BqlLink → BqlLink) : (Act.blink l f).Within (places [] [.bql]) := within_bql (by rfl)

/-- A slot depends on the state of the links alone. -/
theorem blink_congr {a b : Mach} (h : a.bql = b.bql) (l : Nat) : a.blink l = b.blink l := by
  rw [Mach.blink, Mach.blink, h]

theorem phyMode_congr {a b : Mach} (h : a.bql = b.bql) (p : Nat) : a.phyMode p = b.phyMode p := by
  rw [Mach.phyMode, Mach.phyMode, h]

theorem Act.Within.blink {K : Nat} {a : Act} (ha : a.Within K) (h : K.testBit 614 = false) (m : Mach) (l : Nat) :
    (a.run m).blink l = m.blink l :=
  blink_congr (ha.bql m h) l

/-! ### Packets that leave -/

/-- A slot when an acknowledgement of `e` has left. -/
def ackNoted (e now : Nat) (b : BqlLink) : BqlLink := { b with landed := 0, ackAt := now, ackNo := some e }

theorem noteAck_run (l : Nat) (m : Mach) :
    (noteAck l).run m = (Act.blink l (ackNoted (m.get .BQL_L_RX_EXPECT l) m.now)).run m := rfl

section Ctl

variable (l kind : Nat) (fields : List Nat) (m : Mach)

/-- A control packet: it leaves, two events are counted, and its acknowledgement is noted. -/
theorem sendCtl_run : (sendCtl l kind fields).run m = (Act.blink l (ackNoted (m.get .BQL_L_RX_EXPECT l) m.now)).run
    ((event (.boesque (l / 8)) 0x60 7 1).run ((event (.boesque (l / 8)) 0x60 4 1).run
      ((Act.emit (.ctl l kind (m.get .BQL_L_RX_EXPECT l :: fields))).run m))) := by
  rw [sendCtl, Act.run_read, Act.run_all_cons, Act.run_all_cons, Act.run_all_cons, Act.run_all_one, noteAck_run, event_now, event_now,
    event_get _ _ _ _ _ (by decide), event_get _ _ _ _ _ (by decide)]
  rfl

theorem sendCtl_out : ((sendCtl l kind fields).run m).out = m.out ++ [.ctl l kind (m.get .BQL_L_RX_EXPECT l :: fields)] := by
  rw [sendCtl_run, blink_out, event_out, event_out, Act.run_emit, Prim.emit_out]

theorem sendCtl_blink : ((sendCtl l kind fields).run m).blink l = ackNoted (m.get .BQL_L_RX_EXPECT l) m.now (m.blink l) := by
  rw [sendCtl_run, blink_self]
  exact congrArg _ (blink_congr ((event_bql ..).trans (event_bql ..)) l)

theorem sendCtl_reneg : (((sendCtl l kind fields).run m).blink l).reneg = (m.blink l).reneg := by rw [sendCtl_blink, ackNoted]

theorem sendCtl_replay : (((sendCtl l kind fields).run m).blink l).replay = (m.blink l).replay := by rw [sendCtl_blink, ackNoted]

theorem sendCtl_blink_other {j : Nat} (h : j ≠ l) : ((sendCtl l kind fields).run m).blink j = m.blink j := by
  rw [sendCtl_run, blink_other _ _ _ h]
  exact blink_congr ((event_bql ..).trans (event_bql ..)) j

theorem sendCtl_phyMode (p : Nat) : ((sendCtl l kind fields).run m).phyMode p = m.phyMode p := by
  rw [sendCtl_run, blink_phyMode]
  exact phyMode_congr ((event_bql ..).trans (event_bql ..)) p

theorem sendCtl_get {f : Fld} (h : f ≠ .SND_K_VALUE ∧ f ≠ .SND_SUM) (i : Nat) : ((sendCtl l kind fields).run m).get f i = m.get f i := by
  rw [sendCtl_run, blink_get, event_get _ _ _ _ _ h, event_get _ _ _ _ _ h]
  rfl

theorem sendCtl_places : (sendCtl l kind fields).Within (places countFields [.out, .bql]) := (sendCtl_within _ _ _).mono (by rfl)

end Ctl

/-! ### Rounds -/

/-- A slot as a HELLO round begins with a nonce. -/
def roundBegun (nonce : Nat) (b : BqlLink) : BqlLink :=
  { b with nonce := nonce, gotEcho := false, sentEcho := false, refused := false, budget := none }

theorem newRound_run (l : Nat) (m : Mach) : ∃ v, v ≠ 0 ∧ (newRound l).run m = (Act.blink l (roundBegun v)).run (Prim.draw.apply m) :=
  ⟨1 + (Config.freeValue m.freeCtr).toNat % (2 ^ 32 - 1), by omega, free_run ..⟩

theorem newRound_get (l : Nat) (m : Mach) (f : Fld) (i : Nat) : ((newRound l).run m).get f i = m.get f i :=
  Act.Within.get_of_parts (ps := [.freeCtr, .bql]) ((newRound_within l).mono (by rfl)) (by rfl)

theorem newRound_phyMode (l : Nat) (m : Mach) (p : Nat) : ((newRound l).run m).phyMode p = m.phyMode p := by
  obtain ⟨v, -, h⟩ := newRound_run l m
  rw [h, blink_phyMode]
  rfl

theorem newRound_blink (l : Nat) (m : Mach) : ∃ v, v ≠ 0 ∧ ((newRound l).run m).blink l = roundBegun v (m.blink l) := by
  obtain ⟨v, hv, h⟩ := newRound_run l m
  exact ⟨v, hv, by rw [h, blink_self]; rfl⟩

/-! ### A port's power -/

/-- A disabled port loses its power with its last link. -/
def powerOff (p : Nat) : Act := .all [.set .BQL_P_POWERED p 0, .set .BQL_P_LANES p 0, .set .BQL_P_SETTLED p 0]

theorem portPower_run_on {p : Nat} {m : Mach} (h : m.get .BQL_P_EN p = 1) : (portPower p).run m = m := by
  rw [portPower, Act.run_read, Act.run_when, Mach.flag, h, if_neg (by simp)]

theorem portPower_run_linked {p r : Nat} {m : Mach} (hr : r < 8) (h : m.get .BQL_L_STATE (8 * p + r) ≠ blDown) :
    (portPower p).run m = m := by
  have hall : ((List.range 8).all fun r => m.get .BQL_L_STATE (8 * p + r) == blDown) = false :=
    List.all_eq_false.mpr ⟨r, List.mem_range.mpr hr, by simpa using h⟩
  rw [portPower, Act.run_read, Act.run_when, hall, Bool.and_false, if_neg (by decide)]

theorem portPower_run_off {p : Nat} {m : Mach} (hen : m.get .BQL_P_EN p ≠ 1) (h : ∀ r < 8, m.get .BQL_L_STATE (8 * p + r) = blDown) :
    (portPower p).run m = (powerOff p).run m := by
  have hall : ((List.range 8).all fun r => m.get .BQL_L_STATE (8 * p + r) == blDown) = true :=
    List.all_eq_true.mpr fun r hr => beq_iff_eq.mpr (h r (List.mem_range.mp hr))
  rw [portPower, Act.run_read, Act.run_when, hall, Mach.flag, beq_eq_false_iff_ne.mpr hen, if_pos (by decide), powerOff]

/-! ### Flush -/

/-- What a flush records of its link. -/
def flushMarks (l a n : Nat) : Act :=
  .all [.set .BQL_L_STATE l blFlushing, .set .BQL_L_LOST_FIRST l a, .set .BQL_L_LOST_END l n, .inc .BQL_L_FLUSHES l 1,
    .set .BQL_L_PEER_DLV_VALID l 0]

/-- What a flush does behind its record: the log, the buffers, the undelivered forwards and what the peer held. -/
def flushRest (m : Mach) (l : Nat) : Act :=
  .all [lhLog (linkSrc l 1) 0x0040 l (m.get .BQL_L_SESSION l + 2 ^ 32 * m.get .BQL_L_TX_ACKED l + 2 ^ 64 * m.get .BQL_L_TX_SEQ l +
      2 ^ 96 * m.get .BQL_L_RX_EXPECT l),
    .blink l fun b => { b with replay := [], cont := [], reqs := [], reneg := none, flushed := m.get .BQL_L_SESSION l, landed := 0,
                               nakOpen := false, later := false, landFull := false },
    .prim (.bql fun b => { b with txq := b.txq.filter fun x => x.1 != l % 8 }), replayUsed (l / 8),
    .each ((m.blink l).replay.flatMap (·.msgs) ++ (m.bql.txq.filter fun x => x.1 == l % 8).map (·.2)) fun x =>
      .when (x.code == mFwdData) (fwdUndelivered (visKey x.home x.line) x.txid),
    reclaimHome (l % 8), reclaimVisitor (l % 8), peerFlushed (l % 8)]

theorem flush_run (l : Nat) (m : Mach) :
    (flush l).run m = (flushRest m l).run ((flushMarks l (m.get .BQL_L_TX_ACKED l) (m.get .BQL_L_TX_SEQ l)).run m) := by
  rw [flush, Act.run_read, flushRest, flushMarks]
  simp only [Act.run_all_cons]
  rfl

/-- Fields of a link that stay as a flush has recorded them. -/
def flushedFields : List Fld :=
  [.BQL_L_STATE, .BQL_L_LOST_FIRST, .BQL_L_LOST_END, .BQL_L_FLUSHES, .BQL_L_PEER_DLV_VALID, .BQL_L_EN, .BQL_L_LOSSES, .BQL_L_PEER_IDENT]

theorem flushRest_get {f : Fld} (hf : f ∈ flushedFields) (m : Mach) (l i : Nat) (a : Mach) : ((flushRest m l).run a).get f i = a.get f i := by
  have hw : (flushRest m l).Within (places (lineFields ++ [.DIR_LOST_POISONED, .BQL_P_REPLAY_USED, .ARC_MEMBERS, .ARC_REL_PENDING])
      [.dram, .pages, .out, .freeCtr, .lines, .dir, .host, .bkw, .lhl, .arc, .bql, .snd, .que, .fry]) :=
    ⟨(lhLog_within _ _ _ _ _).mono (by rfl), within_bql (by rfl), within_bql (by rfl),
      (replayUsed_within _).mono (by rfl),
      within_each fun _ => within_when ((fwdUndelivered_within _ _).mono (by rfl)),
      (reclaimHome_within _).mono (by rfl), (reclaimVisitor_within _).mono (by rfl),
      (peerFlushed_within _).mono (by rfl)⟩
  exact hw.get_of_mem (l := flushedFields) (by rfl) (by rfl) hf i a

theorem flushMarks_get (l a n : Nat) (m : Mach) (i : Nat) :
    ((flushMarks l a n).run m).get .BQL_L_STATE i = (if i = l then blFlushing else m.get .BQL_L_STATE i) ∧
    ((flushMarks l a n).run m).get .BQL_L_FLUSHES i = (if i = l then (m.get .BQL_L_FLUSHES l + 1) % 2 ^ 32 else m.get .BQL_L_FLUSHES i) := by
  simp only [flushMarks, Act.run_all_cons, Act.run_all_one]
  constructor
  · rw [Mach.get_set_other (by decide), Mach.get_inc_other (by decide), Mach.get_set_other (by decide), Mach.get_set_other (by decide),
      Mach.get_set_ite]
    simp only [true_and]
    rfl
  · rw [Mach.get_set_other (by decide), Mach.get_inc_ite, Mach.get_set_other (by decide), Mach.get_set_other (by decide),
      Mach.get_set_other (by decide), Mach.get_set_other (by decide), Mach.get_set_other (by decide), Mach.get_set_other (by decide)]
    simp only [true_and]
    rfl

/-- A flush of the link `l` from `a` to `b`: it is in Flushing, and what was sent and not acknowledged is recorded. -/
structure Mach.Flushed (l : Nat) (a b : Mach) : Prop where
  state : b.get .BQL_L_STATE l = blFlushing
  flushes : b.get .BQL_L_FLUSHES l = (a.get .BQL_L_FLUSHES l + 1) % 2 ^ 32
  first : b.get .BQL_L_LOST_FIRST l = a.get .BQL_L_TX_ACKED l % 2 ^ 32
  last : b.get .BQL_L_LOST_END l = a.get .BQL_L_TX_SEQ l % 2 ^ 32
  unknown : b.get .BQL_L_PEER_DLV_VALID l = 0
  states : Mach.Others .BQL_L_STATE l a b
  counts : Mach.Others .BQL_L_FLUSHES l a b
  kept : ∀ f ∈ [Fld.BQL_L_EN, .BQL_L_LOSSES, .BQL_L_PEER_IDENT], ∀ i, b.get f i = a.get f i

theorem flush_flushed (l : Nat) (m : Mach) : Mach.Flushed l m ((flush l).run m) := by
  have hget {f : Fld} (hf : f ∈ flushedFields) (i : Nat) : ((flush l).run m).get f i =
      ((flushMarks l (m.get .BQL_L_TX_ACKED l) (m.get .BQL_L_TX_SEQ l)).run m).get f i := by
    rw [flush_run, flushRest_get hf]
  have hmarks := flushMarks_get l (m.get .BQL_L_TX_ACKED l) (m.get .BQL_L_TX_SEQ l) m
  refine ⟨?_, ?_, ?_, ?_, ?_, fun j hj => ?_, fun j hj => ?_, fun f hf i => ?_⟩
  · rw [hget (by decide), (hmarks _).1, if_pos rfl]
  · rw [hget (by decide), (hmarks _).2, if_pos rfl]
  · rw [hget (by decide)]
    simp [flushMarks, Mach.get_set_ite, Mach.get_inc_ite, -Act.run_set]
    rfl
  · rw [hget (by decide)]
    simp [flushMarks, Mach.get_set_ite, Mach.get_inc_ite, -Act.run_set]
    rfl
  · rw [hget (by decide)]
    simp [flushMarks, Mach.get_set_ite, -Act.run_set]
  · rw [hget (by decide), (hmarks _).1, if_neg hj]
  · rw [hget (by decide), (hmarks _).2, if_neg hj]
  · simp only [List.mem_cons, List.not_mem_nil, or_false] at hf
    rcases hf with rfl | rfl | rfl <;> rw [hget (by decide)] <;>
      simp [flushMarks, Mach.get_set_ite, Mach.get_inc_ite, -Act.run_set]

/-! ### A link that is lost -/

/-- What happens before a lost link is flushed, if it is: its count, Grace, a new round, its source, and the pairs that need the peer. -/
def lossMarks (l d : Nat) : Act :=
  .all [.inc .BQL_L_LOSSES l 1, .set .BQL_L_STATE l blGrace, .blink l fun b => { b with reneg := none }, newRound l,
    raise (linkSrc l 1) l d, pairsLost (l % 8)]

theorem lossMarks_get (l d : Nat) (m : Mach) (i : Nat) :
    ((lossMarks l d).run m).get .BQL_L_LOSSES i = (if i = l then (m.get .BQL_L_LOSSES l + 1) % 2 ^ 32 else m.get .BQL_L_LOSSES i) ∧
    ((lossMarks l d).run m).get .BQL_L_STATE i = (if i = l then blGrace else m.get .BQL_L_STATE i) := by
  have hpairs {f : Fld} (hf : f ∈ flushedFields) (a : Mach) : ((pairsLost (l % 8)).run a).get f i = a.get f i :=
    (pairsLost_within _).get_of_mem (l := flushedFields) (by rfl) (by rfl) hf i a
  have hraise {f : Fld} (hf : f ∈ flushedFields) (a : Mach) : ((raise (linkSrc l 1) l d).run a).get f i = a.get f i :=
    (raise_within _ _ _).get_of_mem (l := flushedFields) (by rfl) (by rfl) hf i a
  simp only [lossMarks, Act.run_all_cons, Act.run_all_one]
  constructor
  · rw [hpairs (by decide), hraise (by decide), newRound_get, blink_get, Mach.get_set_other (by decide), Mach.get_inc_ite]
    simp only [true_and]
    rfl
  · rw [hpairs (by decide), hraise (by decide), newRound_get, blink_get, Mach.get_set_ite, Mach.get_inc_other (by decide)]
    simp only [true_and]
    rfl

/-- A link in Up or Held that is lost from `a` to `b` is counted, and in Grace, or in Flushing when it is to be reset. -/
def Mach.LostLink (l : Nat) (a b : Mach) : Prop :=
  b.get .BQL_L_LOSSES l = (a.get .BQL_L_LOSSES l + 1) % 2 ^ 32 ∧ (b.get .BQL_L_STATE l = blGrace ∨ b.get .BQL_L_STATE l = blFlushing) ∧
  Mach.Others .BQL_L_LOSSES l a b ∧ Mach.Others .BQL_L_STATE l a b

/-- The data of the record of a lost link: its session and its numbers. -/
def Mach.lossData (m : Mach) (l : Nat) : Nat :=
  m.get .BQL_L_SESSION l + 2 ^ 32 * m.get .BQL_L_TX_ACKED l + 2 ^ 64 * m.get .BQL_L_TX_SEQ l + 2 ^ 96 * m.get .BQL_L_RX_EXPECT l

/-- A link whose source is to be reset is flushed at once. -/
def flushReset (l : Nat) : Act := .read fun m => .when (m.bkw.resetting.contains (linkSrc l 1))
  (.seq (.prim (.bkw fun b => { b with resetting := b.resetting.filter (· != linkSrc l 1) })) (flush l))

theorem declareLoss_run {l : Nat} {m : Mach} (h : m.get .BQL_L_STATE l = blUp ∨ m.get .BQL_L_STATE l = blHeld) :
    (declareLoss l).run m = (flushReset l).run ((lossMarks l (m.lossData l)).run m) := by
  rw [declareLoss, Act.run_read, Act.run_when, if_pos (by simpa using h), lossMarks, flushReset, Mach.lossData]
  simp only [Act.run_all_cons, Act.run_all_one]

theorem flushReset_get (l : Nat) (m : Mach) : (∀ i, ((flushReset l).run m).get .BQL_L_LOSSES i = m.get .BQL_L_LOSSES i) ∧
    Mach.Others .BQL_L_STATE l m ((flushReset l).run m) ∧
    (((flushReset l).run m).get .BQL_L_STATE l = m.get .BQL_L_STATE l ∨ ((flushReset l).run m).get .BQL_L_STATE l = blFlushing) := by
  rw [flushReset, Act.run_read, Act.run_when]
  split
  · rw [Act.run_seq]
    have hf := flush_flushed l ((Act.prim (.bkw fun b => { b with resetting := b.resetting.filter (· != linkSrc l 1) })).run m)
    exact ⟨fun i => hf.kept .BQL_L_LOSSES (by decide) i, hf.states, .inr hf.state⟩
  · exact ⟨fun _ => rfl, fun _ _ => rfl, .inl rfl⟩

theorem declareLoss_lost {l : Nat} {m : Mach} (h : m.get .BQL_L_STATE l = blUp ∨ m.get .BQL_L_STATE l = blHeld) :
    Mach.LostLink l m ((declareLoss l).run m) := by
  obtain ⟨hlosses, hstates, hstate⟩ := flushReset_get l ((lossMarks l (m.lossData l)).run m)
  have hmarks (i : Nat) := lossMarks_get l (m.lossData l) m i
  rw [declareLoss_run h]
  refine ⟨?_, ?_, fun j hj => ?_, fun j hj => ?_⟩
  · rw [hlosses, (hmarks l).1, if_pos rfl]
  · rw [(hmarks l).2, if_pos rfl] at hstate
    exact hstate
  · rw [hlosses, (hmarks j).1, if_neg hj]
  · rw [hstates j hj, (hmarks j).2, if_neg hj]

end Sys2Proof.Machine
end

section
/-!
PROOF. O28, Boesque ports and links (R258 to R260, R273, R278, R279, R281 to R283).
-/

namespace Sys2Proof.Machine

/-! ### Writes of the block -/

theorem bqlDone_run (a : Act) (m : Mach) : (bqlDone a).run m = a.run ((Act.set .BQL_WR_REFUSED 0 0).run m) := by
  rw [bqlDone, Act.run_seq]

/-- Behind a write that is applied its flag is clear. -/
theorem bqlDone_get {a : Act} {K : Nat} (ha : a.Within K) (h : K.testBit (Fld.ctorIdx .BQL_WR_REFUSED) = false)
    (hr : K.testBit 604 = false) (m : Mach) : ((bqlDone a).run m).get .BQL_WR_REFUSED 0 = 0 := by
  rw [bqlDone_run, ha.get _ _ _ h hr, Mach.get_set_mod]
  exact Nat.zero_mod _

theorem bqlDone_set_get {f : Fld} (hf : f ≠ .BQL_WR_REFUSED) (i v : Nat) (m : Mach) :
    ((bqlDone (.set f i v)).run m).get f i = v % 2 ^ f.spec.width ∧ ((bqlDone (.set f i v)).run m).get .BQL_WR_REFUSED 0 = 0 ∧
    Mach.Others f i m ((bqlDone (.set f i v)).run m) := by
  rw [bqlDone_run]
  refine ⟨Mach.get_set_mod .., ?_, fun j hj => ?_⟩
  · rw [Mach.get_set_other hf.symm, Mach.get_set_mod]
    exact Nat.zero_mod _
  · rw [Mach.others_set _ _ _ _ j hj, Mach.get_set_other hf]

/-! ### Ports -/

section Port

variable {m : Mach} {p : Nat} (hs : m.sled = .dx32) (hp : p < 2)

include hs hp

theorem portEnable_run_new (hen : m.get .BQL_P_EN p ≠ 1) : (portEnable p true).run m = (bqlDone (.all [.set .BQL_P_EN p 1,
    .prim (.bql fun b => { b with modes := b.modes.set p 0 (m.get .BQL_P_MODE p) }), .set .BQL_P_POWERED p 1, portSettle p])).run m := by
  rw [portEnable, Act.run_read, Act.run_when, hs, decide_eq_true hp, if_pos (by decide), if_pos rfl, bqlDone_run, bqlDone_run, Act.run_seq,
    Act.run_when, Mach.flag, beq_eq_false_iff_ne.mpr hen, if_pos (by decide), Act.run_all_cons]
  rfl

theorem portEnable_run_same (hen : m.get .BQL_P_EN p = 1) : (portEnable p true).run m = (bqlDone (.set .BQL_P_EN p 1)).run m := by
  rw [portEnable, Act.run_read, Act.run_when, hs, decide_eq_true hp, if_pos (by decide), if_pos rfl, bqlDone_run, bqlDone_run, Act.run_seq,
    Act.run_when, Mach.flag, hen, if_neg (by decide)]
  rfl

theorem portEnable_run_disable : (portEnable p false).run m = (bqlDone (.seq (.set .BQL_P_EN p 0) (portPower p))).run m := by
  rw [portEnable, Act.run_read, Act.run_when, hs, decide_eq_true hp, if_pos (by decide), if_neg (by decide)]
  rfl

theorem portEnable_run_down (h : ∀ r < 8, m.get .BQL_L_STATE (8 * p + r) = blDown) :
    (portEnable p false).run m = (bqlDone (.seq (.set .BQL_P_EN p 0) (powerOff p))).run m := by
  rw [portEnable_run_disable hs hp, bqlDone_run, bqlDone_run, Act.run_seq, Act.run_seq, portPower_run_off ?_ fun r hr => ?_]
  · rw [Mach.get_set_mod]
    decide
  · rw [Mach.get_set_other (by decide), Mach.get_set_other (by decide), h r hr]

theorem portEnable_run_linked {r : Nat} (hr : r < 8) (h : m.get .BQL_L_STATE (8 * p + r) ≠ blDown) :
    (portEnable p false).run m = (bqlDone (.set .BQL_P_EN p 0)).run m := by
  rw [portEnable_run_disable hs hp, bqlDone_run, bqlDone_run, Act.run_seq, portPower_run_linked hr ?_]
  rw [Mach.get_set_other (by decide), Mach.get_set_other (by decide)]
  exact h

end Port

/-- The rate that a port settles to with some lanes in a mode. -/
def laneRate (mode lanes : Nat) : Nat := if mode = 0 then (if lanes = 0xFF then 2 else 0) else if lanes % 16 = 15 then 1 else 0

theorem laneRate_lt (mode lanes : Nat) : laneRate mode lanes < 2 ^ 2 := by
  rw [laneRate]
  split <;> split <;> decide

theorem portRate_eq (m : Mach) (p : Nat) : m.portRate p = laneRate (m.phyMode p) (m.get .BQL_P_LANES p) := rfl

theorem portSettle_get (p : Nat) (m : Mach) : ((portSettle p).run m).get .BQL_P_SETTLED p = laneRate (m.phyMode p) (m.get .BQL_P_LANES p) := by
  rw [portSettle, Act.run_read, Mach.get_set _ _ _ _ (laneRate_lt _ _)]
  rfl

theorem portSettle_keeps {f : Fld} (h : f ≠ .BQL_P_SETTLED) (p i : Nat) (m : Mach) : ((portSettle p).run m).get f i = m.get f i := by
  rw [portSettle, Act.run_read, Mach.get_set_other h]

theorem portSettle_others (p : Nat) (m : Mach) : Mach.Others .BQL_P_SETTLED p m ((portSettle p).run m) := by
  exact fun j hj => Mach.others_set .BQL_P_SETTLED p (m.portRate p) m j hj

theorem portSettle_phyMode (p q : Nat) (m : Mach) : ((portSettle p).run m).phyMode q = m.phyMode q := rfl

theorem phyMode_set (p v : Nat) (m : Mach) : ((Act.prim (.bql fun b => { b with modes := b.modes.set p 0 v })).run m).phyMode p = v :=
  SMap.find?_set_self ..

theorem completes_portEnable {s : State} {p : Nat} (hs : s.mach.sled = .dx32) (hp : p < 2) (hen : s.mach.get .BQL_P_EN p ≠ 1) :
    Completes (.portEnable p true) s [.BQL_WR_REFUSED, .BQL_P_EN, .BQL_P_POWERED, .BQL_P_SETTLED] [.bql] fun t =>
      t.get .BQL_P_EN p = 1 ∧ t.get .BQL_P_POWERED p = 1 ∧ t.phyMode p = s.mach.get .BQL_P_MODE p ∧
      t.get .BQL_P_SETTLED p = t.portRate p ∧ t.get .BQL_WR_REFUSED 0 = 0 ∧
      Mach.Others .BQL_P_EN p s.mach t ∧ Mach.Others .BQL_P_POWERED p s.mach t ∧ Mach.Others .BQL_P_SETTLED p s.mach t := by
  refine completes_as rfl (portEnable_run_new hs hp hen) (K := places [.BQL_WR_REFUSED, .BQL_P_EN, .BQL_P_POWERED, .BQL_P_SETTLED] [.bql])
    ⟨within_set (by rfl), within_set (by rfl), within_bql (by rfl), within_set (by rfl),
      (portSettle_within p).mono (by rfl)⟩ (inside_refl _) ?_
  have hbql (f : BqlSt → BqlSt) (a : Mach) (g : Fld) (j : Nat) : ((Act.prim (.bql f)).run a).get g j = a.get g j := rfl
  simp only [bqlDone_run, Act.run_all_cons, Act.run_all_one]
  refine ⟨?_, ?_, ?_, ?_, ?_, fun j hj => ?_, fun j hj => ?_, fun j hj => ?_⟩
  · rw [portSettle_keeps (by decide), Mach.get_set_other (by decide), hbql, Mach.get_set_mod]
    rfl
  · rw [portSettle_keeps (by decide), Mach.get_set_mod]
    rfl
  · exact phyMode_set ..
  · rw [portSettle_get, portRate_eq, portSettle_keeps (by decide)]
    rfl
  · rw [portSettle_keeps (by decide), Mach.get_set_other (by decide), hbql, Mach.get_set_other (by decide), Mach.get_set_mod]
    rfl
  · rw [portSettle_keeps (by decide), Mach.get_set_other (by decide), hbql, Mach.others_set _ _ _ _ j hj, Mach.get_set_other (by decide)]
  · rw [portSettle_keeps (by decide), Mach.others_set _ _ _ _ j hj, hbql, Mach.get_set_other (by decide), Mach.get_set_other (by decide)]
  · rw [portSettle_others _ _ j hj, Mach.get_set_other (by decide), hbql, Mach.get_set_other (by decide), Mach.get_set_other (by decide)]

theorem completes_portDisable {s : State} {p : Nat} (hs : s.mach.sled = .dx32) (hp : p < 2)
    (h : ∀ r, r < 8 → s.mach.get .BQL_L_STATE (8 * p + r) = blDown) :
    Completes (.portEnable p false) s [.BQL_WR_REFUSED, .BQL_P_EN, .BQL_P_POWERED, .BQL_P_SETTLED, .BQL_P_LANES] [] fun t =>
      t.get .BQL_P_EN p = 0 ∧ t.get .BQL_P_POWERED p = 0 ∧ t.get .BQL_P_LANES p = 0 ∧ t.get .BQL_P_SETTLED p = 0 ∧
      Mach.Others .BQL_P_EN p s.mach t ∧ Mach.Others .BQL_P_POWERED p s.mach t := by
  refine completes_as rfl (portEnable_run_down hs hp h)
    (K := places [.BQL_WR_REFUSED, .BQL_P_EN, .BQL_P_POWERED, .BQL_P_SETTLED, .BQL_P_LANES] [])
    ⟨within_set (by rfl), within_set (by rfl), within_set (by rfl), within_set (by rfl),
      within_set (by rfl)⟩ (inside_refl _) ?_
  simp only [bqlDone_run, Act.run_seq, powerOff, Act.run_all_cons, Act.run_all_one]
  refine ⟨?_, ?_, ?_, ?_, fun j hj => ?_, fun j hj => ?_⟩
  · rw [Mach.get_set_other (by decide), Mach.get_set_other (by decide), Mach.get_set_other (by decide), Mach.get_set_mod, Nat.zero_mod]
  · rw [Mach.get_set_other (by decide), Mach.get_set_other (by decide), Mach.get_set_mod, Nat.zero_mod]
  · rw [Mach.get_set_other (by decide), Mach.get_set_mod, Nat.zero_mod]
  · rw [Mach.get_set_mod, Nat.zero_mod]
  · rw [Mach.get_set_other (by decide), Mach.get_set_other (by decide), Mach.get_set_other (by decide), Mach.others_set _ _ _ _ j hj,
      Mach.get_set_other (by decide)]
  · rw [Mach.get_set_other (by decide), Mach.get_set_other (by decide), Mach.others_set _ _ _ _ j hj, Mach.get_set_other (by decide),
      Mach.get_set_other (by decide)]

/-! ### Links that are enabled and disabled -/

section Link

variable {m : Mach} {l : Nat} (hs : m.sled = .dx32) (hl : l < 16)

include hs hl

/-- A link that is enabled: its enable, Hello from Down, and a round. -/
theorem linkEnable_run_new (hen : m.get .BQL_L_EN l ≠ 1) (hr : m.linkRefused l (m.get .BQL_L_REQ_BUDGET l) = false) :
    (linkEnable l true).run m = (bqlDone (.all [.set .BQL_L_EN l 1,
      .when (m.get .BQL_L_STATE l == blDown) (.set .BQL_L_STATE l blHello), newRound l])).run m := by
  rw [linkEnable, Act.run_read, Act.run_when, hs, decide_eq_true hl, if_pos (by decide), Mach.flag, beq_eq_false_iff_ne.mpr hen,
    if_neg (by decide), if_pos rfl, hr, if_neg (by decide)]

theorem linkEnable_run_refused (hen : m.get .BQL_L_EN l ≠ 1) (hr : m.linkRefused l (m.get .BQL_L_REQ_BUDGET l) = true) :
    (linkEnable l true).run m = bqlRefused.run m := by
  rw [linkEnable, Act.run_read, Act.run_when, hs, decide_eq_true hl, if_pos (by decide), Mach.flag, beq_eq_false_iff_ne.mpr hen,
    if_neg (by decide), if_pos rfl, if_pos hr]

theorem linkEnable_run_disable (hen : m.get .BQL_L_EN l = 1) : (linkEnable l false).run m = (bqlDone (.seq (.set .BQL_L_EN l 0)
    (if m.get .BQL_L_STATE l = blHello then .seq (.set .BQL_L_STATE l blDown) (portPower (l / 8))
     else if m.get .BQL_L_STATE l = blDown ∨ m.get .BQL_L_STATE l = blFlushing then .skip
     else flush l))).run m := by
  rw [linkEnable, Act.run_read, Act.run_when, hs, decide_eq_true hl, if_pos (by decide), Mach.flag, hen, if_neg (by decide),
    if_neg (by decide)]

theorem anTxWrite_run (v : Nat) : (anTxWrite l v).run m = (bqlDone (.set .BQL_L_AN_TX l v)).run m := by
  rw [anTxWrite, Act.run_read, Act.run_when, hs, decide_eq_true hl, if_pos (by decide)]

end Link

theorem completes_linkEnable {s : State} {l : Nat} (hs : s.mach.sled = .dx32) (hl : l < 16) (hen : s.mach.get .BQL_L_EN l ≠ 1)
    (hr : s.mach.linkRefused l (s.mach.get .BQL_L_REQ_BUDGET l) = false) :
    Completes (.linkEnable l true) s [.BQL_WR_REFUSED, .BQL_L_EN, .BQL_L_STATE] [.freeCtr, .bql] fun t =>
      t.get .BQL_L_EN l = 1 ∧ t.get .BQL_WR_REFUSED 0 = 0 ∧
      t.get .BQL_L_STATE l = (if s.mach.get .BQL_L_STATE l = blDown then blHello else s.mach.get .BQL_L_STATE l) ∧
      (t.blink l).nonce ≠ 0 ∧ (t.blink l).budget = none ∧ (t.blink l).replay = (s.mach.blink l).replay ∧
      Mach.Others .BQL_L_EN l s.mach t ∧ Mach.Others .BQL_L_STATE l s.mach t := by
  refine completes_as rfl (linkEnable_run_new hs hl hen hr) (K := places [.BQL_WR_REFUSED, .BQL_L_EN, .BQL_L_STATE] [.freeCtr, .bql])
    ⟨within_set (by rfl), within_set (by rfl), within_when (within_set (by rfl)),
      (newRound_within l).mono (by rfl)⟩ (inside_refl _) ?_
  have hhello (f : Fld) (j : Nat) (a : Mach) : ((Act.when (s.mach.get .BQL_L_STATE l == blDown) (.set .BQL_L_STATE l blHello)).run a).get f j =
      if f = .BQL_L_STATE ∧ j = l ∧ s.mach.get .BQL_L_STATE l = blDown then blHello else a.get f j := by
    rw [Act.run_when]
    by_cases h : s.mach.get .BQL_L_STATE l = blDown
    · rw [if_pos (beq_iff_eq.mpr h), Mach.get_set_ite]
      simp only [h, and_true]
      rfl
    · rw [if_neg (fun e => h (beq_iff_eq.mp e)), if_neg (fun ⟨_, _, e⟩ => h e)]
  have hslot : ((Act.when (s.mach.get .BQL_L_STATE l == blDown) (.set .BQL_L_STATE l blHello)).run
      ((Act.set .BQL_L_EN l 1).run ((Act.set .BQL_WR_REFUSED 0 0).run s.mach))).blink l = s.mach.blink l := by
    rw [Act.run_when]
    split <;> rfl
  simp only [bqlDone_run, Act.run_all_cons, Act.run_all_one]
  obtain ⟨v, hv, hb⟩ := newRound_blink l ((Act.when (s.mach.get .BQL_L_STATE l == blDown) (.set .BQL_L_STATE l blHello)).run
      ((Act.set .BQL_L_EN l 1).run ((Act.set .BQL_WR_REFUSED 0 0).run s.mach)))
  rw [hb, hslot]
  refine ⟨?_, ?_, ?_, hv, rfl, rfl, fun j hj => ?_, fun j hj => ?_⟩
  · rw [newRound_get, hhello, if_neg (by simp), Mach.get_set_mod]
    rfl
  · rw [newRound_get, hhello, if_neg (by simp), Mach.get_set_other (by decide), Mach.get_set_mod]
    rfl
  · rw [newRound_get, hhello, Mach.get_set_other (by decide), Mach.get_set_other (by decide)]
    simp only [true_and]
  · rw [newRound_get, hhello, if_neg (by simp), Mach.others_set _ _ _ _ j hj, Mach.get_set_other (by decide)]
  · rw [newRound_get, hhello, if_neg (by simp [hj]), Mach.get_set_other (by decide), Mach.get_set_other (by decide)]

theorem completes_linkDisable_hello {s : State} {l : Nat} (hs : s.mach.sled = .dx32) (hl : l < 16) (hen : s.mach.get .BQL_L_EN l = 1)
    (hst : s.mach.get .BQL_L_STATE l = blHello) :
    Completes (.linkEnable l false) s [.BQL_WR_REFUSED, .BQL_L_EN, .BQL_L_STATE, .BQL_P_POWERED, .BQL_P_SETTLED, .BQL_P_LANES] [] fun t =>
      t.get .BQL_L_EN l = 0 ∧ t.get .BQL_L_STATE l = blDown ∧ Mach.Others .BQL_L_EN l s.mach t ∧ Mach.Others .BQL_L_STATE l s.mach t ∧
      (s.mach.get .BQL_P_EN (l / 8) = 1 → t.get .BQL_P_POWERED (l / 8) = s.mach.get .BQL_P_POWERED (l / 8)) := by
  have hrun := (linkEnable_run_disable hs hl hen).trans (congrArg (fun a => (bqlDone (.seq (.set .BQL_L_EN l 0) a)).run s.mach) (if_pos hst))
  have hpower {f : Fld} (hf : f ∈ [Fld.BQL_L_EN, .BQL_L_STATE]) (j : Nat) (a : Mach) : ((portPower (l / 8)).run a).get f j = a.get f j :=
    (portPower_within _).get_of_mem (l := [.BQL_L_EN, .BQL_L_STATE]) (by rfl) (by rfl) hf j a
  refine completes_as rfl hrun
    (K := places [.BQL_WR_REFUSED, .BQL_L_EN, .BQL_L_STATE, .BQL_P_POWERED, .BQL_P_SETTLED, .BQL_P_LANES] [])
    ⟨within_set (by rfl), within_set (by rfl), within_set (by rfl),
      (portPower_within _).mono (by rfl)⟩ (inside_refl _) ?_
  simp only [bqlDone_run, Act.run_seq]
  refine ⟨?_, ?_, fun j hj => ?_, fun j hj => ?_, fun hp => ?_⟩
  · rw [hpower (by decide), Mach.get_set_other (by decide), Mach.get_set_mod, Nat.zero_mod]
  · rw [hpower (by decide), Mach.get_set_mod]
    rfl
  · rw [hpower (by decide), Mach.get_set_other (by decide), Mach.others_set _ _ _ _ j hj, Mach.get_set_other (by decide)]
  · rw [hpower (by decide), Mach.others_set _ _ _ _ j hj, Mach.get_set_other (by decide), Mach.get_set_other (by decide)]
  · rw [portPower_run_on (by rw [Mach.get_set_other (by decide), Mach.get_set_other (by decide), Mach.get_set_other (by decide), hp]),
      Mach.get_set_other (by decide), Mach.get_set_other (by decide), Mach.get_set_other (by decide)]

theorem completes_linkDisable_flush {s : State} {l : Nat} (hs : s.mach.sled = .dx32) (hl : l < 16) (hen : s.mach.get .BQL_L_EN l = 1)
    (hst : s.mach.get .BQL_L_STATE l = blUp ∨ s.mach.get .BQL_L_STATE l = blHeld ∨ s.mach.get .BQL_L_STATE l = blGrace) :
    Completes (.linkEnable l false) s (lineFields ++ [.DIR_LOST_POISONED, .BQL_WR_REFUSED, .BQL_L_EN, .BQL_P_REPLAY_USED, .BQL_L_STATE,
        .BQL_L_FLUSHES, .BQL_L_LOST_FIRST, .BQL_L_LOST_END, .BQL_L_PEER_DLV_VALID, .ARC_MEMBERS, .ARC_REL_PENDING])
      [.dram, .pages, .out, .freeCtr, .lines, .dir, .host, .bkw, .lhl, .arc, .bql, .snd, .que, .fry] fun t =>
      t.get .BQL_L_EN l = 0 ∧ t.get .BQL_L_STATE l = blFlushing ∧ t.get .BQL_L_FLUSHES l = (s.mach.get .BQL_L_FLUSHES l + 1) % 2 ^ 32 := by
  have hne : s.mach.get .BQL_L_STATE l ≠ blHello ∧ ¬ (s.mach.get .BQL_L_STATE l = blDown ∨ s.mach.get .BQL_L_STATE l = blFlushing) := by
    rcases hst with h | h | h <;> rw [h] <;> decide
  have hrun : (linkEnable l false).run s.mach = (bqlDone (.seq (.set .BQL_L_EN l 0) (flush l))).run s.mach := by
    rw [linkEnable_run_disable hs hl hen, if_neg hne.1, if_neg hne.2]
  have hw : (bqlDone (.seq (.set .BQL_L_EN l 0) (flush l))).Within (places (lineFields ++ [.DIR_LOST_POISONED, .BQL_WR_REFUSED, .BQL_L_EN,
      .BQL_P_REPLAY_USED, .BQL_L_STATE, .BQL_L_FLUSHES, .BQL_L_LOST_FIRST, .BQL_L_LOST_END, .BQL_L_PEER_DLV_VALID, .ARC_MEMBERS,
      .ARC_REL_PENDING]) [.dram, .pages, .out, .freeCtr, .lines, .dir, .host, .bkw, .lhl, .arc, .bql, .snd, .que, .fry]) :=
    ⟨within_set (by rfl), within_set (by rfl), (flush_within l).mono (by rfl)⟩
  refine completes_as rfl hrun hw (inside_refl _) ?_
  rw [bqlDone_run, Act.run_seq]
  have hf := flush_flushed l ((Act.set .BQL_L_EN l 0).run ((Act.set .BQL_WR_REFUSED 0 0).run s.mach))
  refine ⟨?_, hf.state, ?_⟩
  · rw [hf.kept _ (by decide), Mach.get_set_mod, Nat.zero_mod]
  · rw [hf.flushes, Mach.get_set_other (by decide), Mach.get_set_other (by decide)]

/-! ### Loss, grace and the end of a flush -/

/-- Parts that a lost link may change. -/
def lossParts : List Part := [.dram, .pages, .out, .freeCtr, .lines, .dir, .host, .bkw, .lhl, .arc, .bql, .snd, .que, .fry]

theorem declareLoss_run_skip {l : Nat} {m : Mach} (h1 : m.get .BQL_L_STATE l ≠ blUp) (h2 : m.get .BQL_L_STATE l ≠ blHeld) :
    (declareLoss l).run m = m := by
  rw [declareLoss, Act.run_read, Act.run_when, beq_eq_false_iff_ne.mpr h1, beq_eq_false_iff_ne.mpr h2, if_neg (by decide)]

theorem completes_graceExpiry {s : State} {l : Nat} (h : s.mach.get .BQL_L_STATE l = blGrace) :
    Completes (.graceExpiry l) s (lineFields ++ [.DIR_LOST_POISONED, .BQL_P_REPLAY_USED, .BQL_L_STATE, .BQL_L_FLUSHES, .BQL_L_LOST_FIRST,
        .BQL_L_LOST_END, .BQL_L_PEER_DLV_VALID, .ARC_MEMBERS, .ARC_REL_PENDING]) lossParts fun t => Mach.Flushed l s.mach t := by
  refine completes_as (a := graceExpiry l) (b := flush l) rfl ?_ (flush_within l) (by rfl) (flush_flushed l _)
  rw [graceExpiry, Act.run_read, Act.run_when, h, if_pos (by decide)]

theorem graceExpiry_run_skip {l : Nat} {m : Mach} (h : m.get .BQL_L_STATE l ≠ blGrace) : (graceExpiry l).run m = m := by
  rw [graceExpiry, Act.run_read, Act.run_when, beq_eq_false_iff_ne.mpr h, if_neg (by decide)]

theorem landingStall_run (l : Nat) (m : Mach) : (landingStall l).run m = if (m.blink l).landFull = true then (declareLoss l).run m else m := by
  rw [landingStall, Act.run_read, Act.run_when]

theorem completes_flushComplete {s : State} {l : Nat} (h : s.mach.get .BQL_L_STATE l = blFlushing) :
    Completes (.flushComplete l) s [.BQL_P_POWERED, .BQL_P_SETTLED, .BQL_P_LANES, .BQL_L_STATE] [.freeCtr, .bql] fun t =>
      t.get .BQL_L_STATE l = blDown ∧ Mach.Others .BQL_L_STATE l s.mach t ∧
      (s.mach.get .BQL_P_EN (l / 8) = 1 → ∀ p, t.get .BQL_P_POWERED p = s.mach.get .BQL_P_POWERED p ∧
        t.get .BQL_P_LANES p = s.mach.get .BQL_P_LANES p) ∧
      (s.mach.get .BQL_L_EN l = 1 → (t.blink l).nonce ≠ 0 ∧ (t.blink l).budget = none) := by
  have hrun : (flushComplete l).run s.mach = (Act.all [.set .BQL_L_STATE l blDown, .when (s.mach.flag .BQL_L_EN l) (newRound l),
      portPower (l / 8)]).run s.mach := by
    rw [flushComplete, Act.run_read, Act.run_when, h, if_pos (by decide)]
  have hround (a : Mach) (f : Fld) (j : Nat) : ((Act.when (s.mach.flag .BQL_L_EN l) (newRound l)).run a).get f j = a.get f j := by
    rw [Act.run_when]
    split
    · exact newRound_get ..
    · rfl
  have hpower (j : Nat) (a : Mach) : ((portPower (l / 8)).run a).get .BQL_L_STATE j = a.get .BQL_L_STATE j :=
    (portPower_within _).get _ _ _ (by rfl) (by rfl)
  refine completes_as rfl hrun (K := places [.BQL_P_POWERED, .BQL_P_SETTLED, .BQL_P_LANES, .BQL_L_STATE] [.freeCtr, .bql])
    ⟨within_set (by rfl), within_when ((newRound_within l).mono (by rfl)),
      (portPower_within _).mono (by rfl)⟩ (inside_refl _) ?_
  simp only [Act.run_all_cons, Act.run_all_one]
  refine ⟨?_, fun j hj => ?_, fun hp p => ?_, fun hen => ?_⟩
  · rw [hpower, hround, Mach.get_set_mod]
    rfl
  · rw [hpower, hround, Mach.others_set _ _ _ _ j hj]
  · rw [portPower_run_on (by rw [hround, Mach.get_set_other (by decide), hp]), hround, hround, Mach.get_set_other (by decide),
      Mach.get_set_other (by decide)]
    exact ⟨rfl, rfl⟩
  · rw [Mach.flag, hen, Act.run_when, if_pos (by decide), (portPower_within _).blink (by rfl)]
    obtain ⟨v, hv, hb⟩ := newRound_blink l ((Act.set .BQL_L_STATE l blDown).run s.mach)
    rw [hb]
    exact ⟨hv, rfl⟩

/-! ### Proposals -/

/-- What a port with PCS lock on some lanes proposes to a link. -/
def laneProposal (m : Mach) (p rate : Nat) (phy : Bool) (l : Nat) : Act :=
  .when (rate != 0 && rate != m.get .BQL_L_RATE l && (phy || decide (rate ≤ m.modeRate p)))
    (.seq (.blink l fun b => { b with reneg := some { id := ((m.blink l).renegId + 1) % 256, rate := rate, phy := phy },
                                      renegId := ((m.blink l).renegId + 1) % 256 })
      (sendReneg l { id := ((m.blink l).renegId + 1) % 256, rate := rate, phy := phy }))

theorem laneProposal_within (m : Mach) (p rate : Nat) (phy : Bool) (l : Nat) :
    (laneProposal m p rate phy l).Within (places countFields [.out, .bql]) :=
  within_when ⟨within_bql (by rfl), (sendReneg_within _ _).mono (by rfl)⟩

/-- The rate that lanes with PCS lock carry. -/
def lockRate (lanes : Nat) : Nat := if lanes % 256 = 0xFF then 2 else if lanes % 16 = 15 then 1 else 0

/-- The lanes of a port are recorded and its settled rate follows. -/
def lanesSettle (p lanes : Nat) : Act := .seq (.set .BQL_P_LANES p lanes) (portSettle p)

theorem portLaneChange_run {m : Mach} {p : Nat} (lanes : Nat) (hs : m.sled = .dx32) (hp : m.get .BQL_P_POWERED p = 1) :
    (portLaneChange p lanes).run m = (Act.seq (lanesSettle p lanes)
      (.each ((m.portLinks p).filter fun l => m.get .BQL_L_STATE l == blUp && (m.blink l).reneg.isNone)
        (laneProposal m p (lockRate lanes) (m.flag .BQL_P_DIRECT p && lockRate lanes != m.modeRate p)))).run m := by
  rw [portLaneChange, Act.run_read, Act.run_when, hs, Mach.flag, hp, if_pos (by decide), Act.run_seq, lanesSettle]
  rfl

theorem lanesSettle_within (p lanes : Nat) : (lanesSettle p lanes).Within (places [.BQL_P_SETTLED, .BQL_P_LANES] []) :=
  ⟨within_set (by rfl), (portSettle_within p).mono (by rfl)⟩

theorem lanesSettle_get (p lanes : Nat) (m : Mach) : ((lanesSettle p lanes).run m).get .BQL_P_LANES p = lanes % 2 ^ 8 ∧
    ((lanesSettle p lanes).run m).get .BQL_P_SETTLED p = laneRate (m.phyMode p) (lanes % 2 ^ 8) ∧
    Mach.Others .BQL_P_LANES p m ((lanesSettle p lanes).run m) ∧ Mach.Others .BQL_P_SETTLED p m ((lanesSettle p lanes).run m) := by
  rw [lanesSettle, Act.run_seq]
  refine ⟨?_, ?_, fun j hj => ?_, fun j hj => ?_⟩
  · rw [portSettle_keeps (by decide), Mach.get_set_mod]
    rfl
  · rw [portSettle_get, Mach.get_set_mod]
    rfl
  · rw [portSettle_keeps (by decide), Mach.others_set _ _ _ _ j hj]
  · rw [portSettle_others _ _ j hj, Mach.get_set_other (by decide)]

/-- Lanes of a port that change, whatever it proposes. -/
theorem completes_lanes {s : State} {p lanes : Nat} (hs : s.mach.sled = .dx32) (hp : s.mach.get .BQL_P_POWERED p = 1) :
    Completes (.portLaneChange p lanes) s (countFields ++ [.BQL_P_SETTLED, .BQL_P_LANES]) [.out, .bql] fun t =>
      (t.get .BQL_P_LANES p = lanes % 2 ^ 8 ∧ t.get .BQL_P_SETTLED p = laneRate (s.mach.phyMode p) (lanes % 2 ^ 8) ∧
        Mach.Others .BQL_P_LANES p s.mach t ∧ Mach.Others .BQL_P_SETTLED p s.mach t) ∧
      t = (Act.each ((s.mach.portLinks p).filter fun l => s.mach.get .BQL_L_STATE l == blUp && (s.mach.blink l).reneg.isNone)
        (laneProposal s.mach p (lockRate lanes) (s.mach.flag .BQL_P_DIRECT p && lockRate lanes != s.mach.modeRate p))).run
          ((lanesSettle p lanes).run s.mach) := by
  refine completes_as rfl (portLaneChange_run lanes hs hp) (K := places (countFields ++ [.BQL_P_SETTLED, .BQL_P_LANES]) [.out, .bql])
    ⟨(lanesSettle_within _ _).mono (by rfl), within_each fun _ => (laneProposal_within _ _ _ _ _).mono (by rfl)⟩
    (inside_refl _) ⟨?_, Act.run_seq ..⟩
  have hkeep {f : Fld} (hf : f ∈ [Fld.BQL_P_LANES, .BQL_P_SETTLED]) (ls : List Nat) (g : Nat → Act)
      (hg : ∀ l, (g l).Within (places countFields [.out, .bql])) (j : Nat) (a : Mach) : ((Act.each ls g).run a).get f j = a.get f j :=
    (within_each hg).get_of_mem (l := [.BQL_P_LANES, .BQL_P_SETTLED]) (by rfl) (by rfl) hf j a
  obtain ⟨h1, h2, h3, h4⟩ := lanesSettle_get p lanes s.mach
  rw [Act.run_seq]
  refine ⟨?_, ?_, fun j hj => ?_, fun j hj => ?_⟩ <;> rw [hkeep (by decide) _ _ (laneProposal_within _ _ _ _)]
  · exact h1
  · exact h2
  · exact h3 j hj
  · exact h4 j hj

theorem sendReneg_run (l : Nat) (q : Proposal) (m : Mach) :
    (sendReneg l q).run m = (sendCtl l 5 [q.id, q.rate, Bits.ofBool q.phy, m.get .ID_IDENT]).run m := rfl

/-- A proposal that stands on a link when it has been sent. -/
theorem sendReneg_noted {l : Nat} {f : BqlLink → BqlLink} (q : Proposal) (m : Mach) :
    ((sendReneg l q).run ((Act.blink l f).run m)).out = m.out ++ [.ctl l 5 [m.get .BQL_L_RX_EXPECT l, q.id, q.rate, Bits.ofBool q.phy,
      m.get .ID_IDENT]] ∧
    (((sendReneg l q).run ((Act.blink l f).run m)).blink l).reneg = (f (m.blink l)).reneg := by
  rw [sendReneg_run, sendCtl_out, sendCtl_blink, blink_self]
  exact ⟨rfl, rfl⟩

/-! ### A proposal that takes effect -/

section Apply

variable (l rate : Nat) (phy : Bool) (m : Mach)

theorem applyReneg_rate_run : (applyReneg l rate false).run m = (Act.set .BQL_L_RATE l rate).run m := rfl

/-- A change of the PHY: the link holds, the mode and the settled rate of its port change, and a round begins. -/
theorem applyReneg_phy_run : (applyReneg l rate true).run m = (newRound l).run ((portSettle (l / 8)).run
    ((Act.prim (.bql fun b => { b with modes := b.modes.set (l / 8) 0 (2 - rate) })).run ((Act.set .BQL_L_STATE l blHeld).run m))) := rfl

theorem applyReneg_state (i : Nat) : ((applyReneg l rate phy).run m).get .BQL_L_STATE i =
    if phy = true ∧ i = l then blHeld else m.get .BQL_L_STATE i := by
  cases phy with
  | false => rw [applyReneg_rate_run, Mach.get_set_other (by decide), if_neg (by simp)]
  | true =>
    rw [applyReneg_phy_run, newRound_get, portSettle_keeps (by decide)]
    refine (Mach.get_set_ite .BQL_L_STATE .BQL_L_STATE l i blHeld m).trans ?_
    simp only [true_and]
    rfl

theorem applyReneg_rate (i : Nat) : ((applyReneg l rate phy).run m).get .BQL_L_RATE i =
    if phy = false ∧ i = l then rate % 2 ^ 2 else m.get .BQL_L_RATE i := by
  cases phy with
  | false =>
    rw [applyReneg_rate_run, Mach.get_set_ite]
    simp only [true_and]
    rfl
  | true =>
    rw [applyReneg_phy_run, newRound_get, portSettle_keeps (by decide), if_neg (by simp)]
    exact Mach.get_set_other (f := .BQL_L_STATE) (by decide) l i blHeld m

theorem applyReneg_out : ((applyReneg l rate phy).run m).out = m.out := (applyReneg_within l rate phy).out m (by rfl)

theorem applyReneg_phyMode : ((applyReneg l rate true).run m).phyMode (l / 8) = 2 - rate := by
  rw [applyReneg_phy_run, newRound_phyMode, portSettle_phyMode, phyMode_set]

theorem applyReneg_slot : (((applyReneg l rate phy).run m).blink l).reneg = (m.blink l).reneg ∧
    (((applyReneg l rate phy).run m).blink l).replay = (m.blink l).replay := by
  cases phy with
  | false => exact ⟨rfl, rfl⟩
  | true =>
    rw [applyReneg_phy_run]
    obtain ⟨v, -, hb⟩ := newRound_blink l ((portSettle (l / 8)).run
      ((Act.prim (.bql fun b => { b with modes := b.modes.set (l / 8) 0 (2 - rate) })).run ((Act.set .BQL_L_STATE l blHeld).run m)))
    rw [hb]
    exact ⟨rfl, rfl⟩

theorem applyReneg_rate_within : (applyReneg l rate false).Within (places [.BQL_L_RATE] []) := within_set (by rfl)

theorem applyReneg_phy_within : (applyReneg l rate true).Within (places [.BQL_L_STATE, .BQL_P_SETTLED] [.freeCtr, .bql]) :=
  ⟨within_set (by rfl), within_bql (by rfl), (portSettle_within _).mono (by rfl),
    (newRound_within l).mono (by rfl)⟩

end Apply

theorem canRun_congr {a b : Mach} (hget : ∀ p, b.get .BQL_P_DIRECT p = a.get .BQL_P_DIRECT p ∧ b.get .BQL_P_LANES p = a.get .BQL_P_LANES p)
    (hmode : ∀ p, b.phyMode p = a.phyMode p) (l rate : Nat) (phy : Bool) : b.canRun l rate phy = a.canRun l rate phy := by
  obtain ⟨hdirect, hlanes⟩ := hget (l / 8)
  rw [Mach.canRun, Mach.canRun, Mach.flag, Mach.flag, Mach.modeRate, Mach.modeRate, hdirect, hlanes, hmode]

theorem canRun_ctl (l kind : Nat) (fields : List Nat) (f : BqlLink → BqlLink) (m : Mach) (rate : Nat) (phy : Bool) :
    ((sendCtl l kind fields).run ((Act.blink l f).run m)).canRun l rate phy = m.canRun l rate phy :=
  canRun_congr (fun _ => ⟨sendCtl_get _ _ _ _ (by decide) _, sendCtl_get _ _ _ _ (by decide) _⟩) (fun _ => sendCtl_phyMode ..) ..

/-- The answer to a proposal, as whether the port can run it is known. -/
def renegAnswer (l pid rate : Nat) (phy ok : Bool) : Act :=
  .seq (sendCtl l 6 [pid, if ok then 0 else 1]) (.when ok (applyReneg l rate phy))

theorem answerReneg_run (l pid rate : Nat) (phy : Bool) (m : Mach) :
    (answerReneg l pid rate phy).run m = (renegAnswer l pid rate phy (m.canRun l rate phy)).run m := rfl

section Reneg

variable {m : Mach} {l : Nat} (hs : m.sled = .dx32) (hen : m.get .BQL_L_EN l = 1) (pid rate ident : Nat) (phy : Bool)

include hs hen

theorem takeReneg_run_lost (hst : m.get .BQL_L_STATE l ≠ blUp) :
    (takeReneg l pid rate phy ident).run m = (Act.inc .BQL_L_RENEG_LOST l 1).run m := by
  rw [takeReneg, Act.run_read, Act.run_when, hs, Mach.flag, hen, if_pos (by decide), if_pos hst]

theorem takeReneg_run_answer (hst : m.get .BQL_L_STATE l = blUp) (hr : (m.blink l).reneg = none) :
    (takeReneg l pid rate phy ident).run m = (renegAnswer l pid rate phy (m.canRun l rate phy)).run m := by
  rw [takeReneg, Act.run_read, Act.run_when, hs, Mach.flag, hen, if_pos (by decide), if_neg (not_not_intro hst), hr]
  rfl

theorem takeReneg_run_stands {own : Proposal} (hst : m.get .BQL_L_STATE l = blUp) (hr : (m.blink l).reneg = some own)
    (hid : m.get .ID_IDENT < ident) : (takeReneg l pid rate phy ident).run m = m := by
  rw [takeReneg, Act.run_read, Act.run_when, hs, Mach.flag, hen, if_pos (by decide), if_neg (not_not_intro hst), hr]
  dsimp only
  rw [if_pos hid, Act.run_skip]

theorem takeReneg_run_withdraws {own : Proposal} (hst : m.get .BQL_L_STATE l = blUp) (hr : (m.blink l).reneg = some own)
    (hid : ident ≤ m.get .ID_IDENT) : (takeReneg l pid rate phy ident).run m = (Act.all [.blink l fun b => { b with reneg := none },
      sendCtl l 6 [own.id, 2], renegAnswer l pid rate phy (m.canRun l rate phy)]).run m := by
  rw [takeReneg, Act.run_read, Act.run_when, hs, Mach.flag, hen, if_pos (by decide), if_neg (not_not_intro hst), hr]
  dsimp only
  rw [if_neg (Nat.not_lt_of_le hid), Act.run_all_cons, Act.run_all_cons, Act.run_all_one, Act.run_all_cons, Act.run_all_cons, Act.run_all_one,
    answerReneg_run, canRun_ctl]

end Reneg

theorem renegAnswer_out (l pid rate : Nat) (phy ok : Bool) (m : Mach) : ((renegAnswer l pid rate phy ok).run m).out =
    m.out ++ [.ctl l 6 [m.get .BQL_L_RX_EXPECT l, pid, if ok then 0 else 1]] := by
  rw [renegAnswer, Act.run_seq, Act.run_when]
  split
  · rw [applyReneg_out, sendCtl_out]
  · exact sendCtl_out ..

theorem renegAnswer_get (l pid rate : Nat) (phy ok : Bool) (m : Mach) (i : Nat) :
    ((renegAnswer l pid rate phy ok).run m).get .BQL_L_STATE i = (if (ok && phy) = true ∧ i = l then blHeld else m.get .BQL_L_STATE i) ∧
    ((renegAnswer l pid rate phy ok).run m).get .BQL_L_RATE i =
      (if (ok && !phy) = true ∧ i = l then rate % 2 ^ 2 else m.get .BQL_L_RATE i) := by
  rw [renegAnswer, Act.run_seq, Act.run_when]
  cases ok with
  | false => exact ⟨sendCtl_get _ _ _ _ (by decide) _, sendCtl_get _ _ _ _ (by decide) _⟩
  | true =>
    rw [if_pos rfl, applyReneg_state, applyReneg_rate, sendCtl_get _ _ _ _ (by decide), sendCtl_get _ _ _ _ (by decide)]
    simp

theorem renegAnswer_slot (l pid rate : Nat) (phy ok : Bool) (m : Mach) :
    (((renegAnswer l pid rate phy ok).run m).blink l).reneg = (m.blink l).reneg ∧
    (((renegAnswer l pid rate phy ok).run m).blink l).replay = (m.blink l).replay := by
  cases ok with
  | false => exact ⟨sendCtl_reneg .., sendCtl_replay ..⟩
  | true =>
    obtain ⟨h1, h2⟩ := applyReneg_slot l rate phy ((sendCtl l 6 [pid, 0]).run m)
    exact ⟨h1.trans (sendCtl_reneg ..), h2.trans (sendCtl_replay ..)⟩

/-! ### Answers to this sled's proposals, and proposals sent again -/

/-- An answer that this sled's proposal gets. -/
theorem takeRenegAns_run {m : Mach} {l pid result : Nat} {q : Proposal} (hst : m.get .BQL_L_STATE l = blUp)
    (hq : (m.blink l).reneg = some q) (hid : q.id = pid) (hr : result ≠ 2) : (takeRenegAns l pid result).run m =
      (Act.seq (.blink l fun b => { b with reneg := none }) (.when (result == 0) (applyReneg l q.rate q.phy))).run m := by
  have hres : (q.id == pid && result != 2) = true := by rw [hid, beq_self_eq_true, Bool.true_and, bne_iff_ne]; exact hr
  rw [takeRenegAns, Act.run_read, Act.run_when, hst, if_pos (by decide), hq, Option.filter_some_pos (p := fun q : Proposal => q.id == pid && result != 2) hres,
    Act.run_some?_some]

theorem takeRenegAns_run_skip {m : Mach} {l pid result : Nat} (h : (∀ q, (m.blink l).reneg = some q → q.id ≠ pid) ∨ result = 2 ∨
    m.get .BQL_L_STATE l ≠ blUp) : (takeRenegAns l pid result).run m = m := by
  rw [takeRenegAns, Act.run_read, Act.run_when]
  split
  · next hst =>
    have hnone : (m.blink l).reneg.filter (fun q => q.id == pid && result != 2) = none := by
      rw [Option.filter_eq_none_iff]
      intro q hq
      rcases h with h | h | h
      · simp [h q hq]
      · simp [h]
      · exact absurd (beq_iff_eq.mp hst) h
    rw [hnone, Act.run_some?_none]
  · rfl

theorem renegRetry_run {m : Mach} {l : Nat} {q : Proposal} (hq : (m.blink l).reneg = some q) (h : q.again < 10) : (renegRetry l).run m =
    (Act.seq (.blink l fun b => { b with reneg := some { q with again := q.again + 1 } }) (sendReneg l q)).run m := by
  rw [renegRetry, Act.run_read, hq, Act.run_some?_some, if_pos h]

theorem renegRetry_run_given_up {m : Mach} {l : Nat} {q : Proposal} (hq : (m.blink l).reneg = some q) (h : 10 ≤ q.again) :
    (renegRetry l).run m = (Act.seq (.blink l fun b => { b with reneg := none }) (.inc .BQL_L_RENEG_LOST l 1)).run m := by
  rw [renegRetry, Act.run_read, hq, Act.run_some?_some, if_neg (Nat.not_lt_of_le h)]

/-! ### Proposals of peers -/

section Proposals

variable {s : State} {l : Nat} (hs : s.mach.sled = .dx32) (hen : s.mach.get .BQL_L_EN l = 1)

include hs hen

theorem completes_renegDeclined {pid rate ident : Nat} {phy : Bool} (hst : s.mach.get .BQL_L_STATE l = blUp)
    (hr : (s.mach.blink l).reneg = none) (hrun : s.mach.canRun l rate phy = false) :
    Completes (.reneg l pid rate phy ident) s countFields [.out, .bql] fun t =>
      t.out = s.mach.out ++ [.ctl l 6 [s.mach.get .BQL_L_RX_EXPECT l, pid, 1]] := by
  have h := takeReneg_run_answer hs hen pid rate ident phy hst hr
  rw [hrun] at h
  refine completes_as rfl h (K := places countFields [.out, .bql]) ⟨sendCtl_places _ _ _, within_skip⟩ (inside_refl _) ?_
  exact renegAnswer_out ..

theorem completes_renegRate {pid rate ident : Nat} (hst : s.mach.get .BQL_L_STATE l = blUp)
    (hr : (s.mach.blink l).reneg = none) (hrun : s.mach.canRun l rate false = true) :
    Completes (.reneg l pid rate false ident) s (countFields ++ [.BQL_L_RATE]) [.out, .bql] fun t =>
      t.out = s.mach.out ++ [.ctl l 6 [s.mach.get .BQL_L_RX_EXPECT l, pid, 0]] ∧ t.get .BQL_L_RATE l = rate % 2 ^ 2 ∧
      Mach.Others .BQL_L_RATE l s.mach t := by
  have h := takeReneg_run_answer hs hen pid rate ident false hst hr
  rw [hrun] at h
  refine completes_as rfl h (K := places (countFields ++ [.BQL_L_RATE]) [.out, .bql])
    ⟨(sendCtl_places _ _ _).mono (by rfl), (applyReneg_rate_within ..).mono (by rfl)⟩ (inside_refl _)
    ⟨renegAnswer_out .., ?_, fun j hj => ?_⟩
  · rw [(renegAnswer_get ..).2, if_pos ⟨rfl, rfl⟩]
  · rw [(renegAnswer_get ..).2, if_neg fun e => hj e.2]

theorem completes_renegPhy {pid rate ident : Nat} (hst : s.mach.get .BQL_L_STATE l = blUp)
    (hr : (s.mach.blink l).reneg = none) (hrun : s.mach.canRun l rate true = true) :
    Completes (.reneg l pid rate true ident) s (countFields ++ [.BQL_L_STATE, .BQL_P_SETTLED]) [.out, .freeCtr, .bql] fun t =>
      t.out = s.mach.out ++ [.ctl l 6 [s.mach.get .BQL_L_RX_EXPECT l, pid, 0]] ∧ t.get .BQL_L_STATE l = blHeld ∧
      t.phyMode (l / 8) = 2 - rate ∧ (t.blink l).replay = (s.mach.blink l).replay ∧ Mach.Others .BQL_L_STATE l s.mach t := by
  have h := takeReneg_run_answer hs hen pid rate ident true hst hr
  rw [hrun] at h
  refine completes_as rfl h (K := places (countFields ++ [.BQL_L_STATE, .BQL_P_SETTLED]) [.out, .freeCtr, .bql])
    ⟨(sendCtl_places _ _ _).mono (by rfl), (applyReneg_phy_within ..).mono (by rfl)⟩ (inside_refl _)
    ⟨renegAnswer_out .., ?_, ?_, (renegAnswer_slot ..).2, fun j hj => ?_⟩
  · rw [(renegAnswer_get ..).1, if_pos ⟨rfl, rfl⟩]
  · exact applyReneg_phyMode ..
  · rw [(renegAnswer_get ..).1, if_neg fun e => hj e.2]

theorem completes_renegCrossed {pid rate ident : Nat} {phy : Bool} {own : Proposal} (hst : s.mach.get .BQL_L_STATE l = blUp)
    (hr : (s.mach.blink l).reneg = some own) (hid : ident ≤ s.mach.get .ID_IDENT) :
    Completes (.reneg l pid rate phy ident) s (countFields ++ [.BQL_P_SETTLED, .BQL_L_STATE, .BQL_L_RATE]) [.out, .freeCtr, .bql] fun t =>
      t.out = s.mach.out ++ [.ctl l 6 [s.mach.get .BQL_L_RX_EXPECT l, own.id, 2],
        .ctl l 6 [s.mach.get .BQL_L_RX_EXPECT l, pid, if s.mach.canRun l rate phy then 0 else 1]] ∧
      (t.blink l).reneg = none ∧
      t.get .BQL_L_STATE l = (if s.mach.canRun l rate phy && phy then blHeld else blUp) ∧
      t.get .BQL_L_RATE l = (if s.mach.canRun l rate phy && !phy then rate % 2 ^ 2 else s.mach.get .BQL_L_RATE l) := by
  refine completes_as rfl (takeReneg_run_withdraws hs hen pid rate ident phy hst hr hid)
    (K := places (countFields ++ [.BQL_P_SETTLED, .BQL_L_STATE, .BQL_L_RATE]) [.out, .freeCtr, .bql])
    ⟨within_bql (by rfl), (sendCtl_places _ _ _).mono (by rfl), (sendCtl_places _ _ _).mono (by rfl),
      within_when ((applyReneg_within ..).mono (by rfl))⟩ (inside_refl _) ?_
  simp only [Act.run_all_cons, Act.run_all_one]
  refine ⟨?_, ?_, ?_, ?_⟩
  · rw [renegAnswer_out, sendCtl_out, sendCtl_get _ _ _ _ (by decide), blink_out, blink_get, List.append_assoc]
    rfl
  · rw [(renegAnswer_slot ..).1, sendCtl_reneg, blink_self]
  · rw [(renegAnswer_get ..).1, sendCtl_get _ _ _ _ (by decide), blink_get, hst]
    simp only [and_true]
  · rw [(renegAnswer_get ..).2, sendCtl_get _ _ _ _ (by decide), blink_get]
    simp only [and_true]

end Proposals

theorem completes_renegAccepted {s : State} {l pid : Nat} {q : Proposal} (hst : s.mach.get .BQL_L_STATE l = blUp)
    (hq : (s.mach.blink l).reneg = some q) (hid : q.id = pid) (hphy : q.phy = false) :
    Completes (.renegAns l pid 0) s [.BQL_L_RATE] [.bql] fun t =>
      t.get .BQL_L_RATE l = q.rate % 2 ^ 2 ∧ (t.blink l).reneg = none ∧ Mach.Others .BQL_L_RATE l s.mach t := by
  have h := takeRenegAns_run (result := 0) hst hq hid (by decide)
  rw [hphy] at h
  refine completes_as rfl h (K := places [.BQL_L_RATE] [.bql])
    ⟨within_bql (by rfl), (applyReneg_rate_within ..).mono (by rfl)⟩ (inside_refl _) ⟨?_, ?_, fun j hj => ?_⟩
  · exact (applyReneg_rate l q.rate false _ l).trans (if_pos ⟨rfl, rfl⟩)
  · refine (applyReneg_slot l q.rate false ((Act.blink l fun b => { b with reneg := none }).run s.mach)).1.trans ?_
    rw [blink_self]
  · exact (applyReneg_rate l q.rate false _ j).trans (if_neg fun e => hj e.2)

theorem completes_renegHolds {s : State} {l pid : Nat} {q : Proposal} (hst : s.mach.get .BQL_L_STATE l = blUp)
    (hq : (s.mach.blink l).reneg = some q) (hid : q.id = pid) (hphy : q.phy = true) :
    Completes (.renegAns l pid 0) s [.BQL_L_STATE, .BQL_P_SETTLED] [.freeCtr, .bql] fun t =>
      t.get .BQL_L_STATE l = blHeld ∧ t.phyMode (l / 8) = 2 - q.rate ∧ (t.blink l).reneg = none ∧ Mach.Others .BQL_L_STATE l s.mach t := by
  have h := takeRenegAns_run (result := 0) hst hq hid (by decide)
  rw [hphy] at h
  refine completes_as rfl h (K := places [.BQL_L_STATE, .BQL_P_SETTLED] [.freeCtr, .bql])
    ⟨within_bql (by rfl), (applyReneg_phy_within ..).mono (by rfl)⟩ (inside_refl _) ⟨?_, ?_, ?_, fun j hj => ?_⟩
  · exact (applyReneg_state l q.rate true _ l).trans (if_pos ⟨rfl, rfl⟩)
  · exact applyReneg_phyMode ..
  · refine (applyReneg_slot l q.rate true ((Act.blink l fun b => { b with reneg := none }).run s.mach)).1.trans ?_
    rw [blink_self]
  · exact (applyReneg_state l q.rate true _ j).trans (if_neg fun e => hj e.2)

/-- One link of a port that is Up and proposes the rate of the port's lanes. -/
theorem completes_lanesPropose {s : State} {p l lanes rate : Nat} {phy : Bool} (hs : s.mach.sled = .dx32)
    (hp : s.mach.get .BQL_P_POWERED p = 1) (hlinks : s.mach.portLinks p = [l]) (hst : s.mach.get .BQL_L_STATE l = blUp)
    (hr : (s.mach.blink l).reneg = none) (hrate : rate = lockRate lanes) (hne : rate ≠ 0) (hnew : rate ≠ s.mach.get .BQL_L_RATE l)
    (hphy : phy = (s.mach.flag .BQL_P_DIRECT p && rate != s.mach.modeRate p)) (hmode : phy = true ∨ rate ≤ s.mach.modeRate p) :
    Completes (.portLaneChange p lanes) s (countFields ++ [.BQL_P_SETTLED, .BQL_P_LANES]) [.out, .bql] fun t =>
      t.out = s.mach.out ++ [.ctl l 5 [s.mach.get .BQL_L_RX_EXPECT l, ((s.mach.blink l).renegId + 1) % 256, rate, Bits.ofBool phy,
        s.mach.get .ID_IDENT]] ∧
      (t.blink l).reneg = some { id := ((s.mach.blink l).renegId + 1) % 256, rate := rate, phy := phy } := by
  refine (completes_lanes (lanes := lanes) hs hp).imp fun t ⟨_, ht⟩ => ?_
  have hproposes : (rate != 0 && rate != s.mach.get .BQL_L_RATE l && (phy || decide (rate ≤ s.mach.modeRate p))) = true := by
    simp [hne, hnew, hmode]
  rw [← hrate, ← hphy, hlinks, List.filter_cons_of_pos (by rw [hst, hr]; rfl), List.filter_nil, Act.run_each_cons, Act.run_each_nil,
    laneProposal, Act.run_when, if_pos hproposes, Act.run_seq] at ht
  have hkeep {f : Fld} (hf : f ∈ [Fld.BQL_L_RX_EXPECT, .ID_IDENT]) (j : Nat) :
      ((lanesSettle p lanes).run s.mach).get f j = s.mach.get f j :=
    (lanesSettle_within p lanes).get_of_mem (l := [.BQL_L_RX_EXPECT, .ID_IDENT]) (by rfl) (by rfl) hf j _
  obtain ⟨hout, hslot⟩ := sendReneg_noted (l := l) (f := fun b => { b with
    reneg := some { id := ((s.mach.blink l).renegId + 1) % 256, rate := rate, phy := phy }, renegId := ((s.mach.blink l).renegId + 1) % 256 })
    { id := ((s.mach.blink l).renegId + 1) % 256, rate := rate, phy := phy } ((lanesSettle p lanes).run s.mach)
  rw [hkeep (by decide), hkeep (by decide), (lanesSettle_within p lanes).out _ (by rfl)] at hout
  rw [ht]
  exact ⟨hout, hslot⟩

/-- A frame without a field that reads at the end as it did. -/
theorem Completes.unchanged {c : Instr} {s : State} {f : Fld} {fs gs : List Fld} {ps : List Part} {post : Mach → Prop}
    (h : Completes c s fs ps post) (hsame : ∀ t, post t → ∀ i, t.get f i = s.mach.get f i) (hfs : ∀ g ∈ fs, g = f ∨ g ∈ gs) :
    Completes c s gs ps post := by
  obtain ⟨t, he, hpend, ⟨hsled, hget, hpart⟩, hp⟩ := h
  refine ⟨t, he, hpend, ⟨hsled, fun g i hg => ?_, hpart⟩, hp⟩
  by_cases hf : g = f
  · rw [hf, hsame _ hp]
  · exact hget g i fun hin => (hfs g hin).elim hf hg

theorem completes_portEnabled {s : State} {p : Nat} (hs : s.mach.sled = .dx32) (hp : p < 2) (hen : s.mach.get .BQL_P_EN p = 1) :
    Completes (.portEnable p true) s [.BQL_WR_REFUSED] [] fun t => t.get .BQL_WR_REFUSED 0 = 0 := by
  obtain ⟨hself, hrefused, hothers⟩ := bqlDone_set_get (f := .BQL_P_EN) (by decide) p 1 s.mach
  have h : Completes (.portEnable p true) s [.BQL_WR_REFUSED, .BQL_P_EN] [] fun t =>
      t.get .BQL_WR_REFUSED 0 = 0 ∧ ∀ i, t.get .BQL_P_EN i = s.mach.get .BQL_P_EN i := by
    refine completes_as rfl (portEnable_run_same hs hp hen) (K := places [.BQL_WR_REFUSED, .BQL_P_EN] [])
      ⟨within_set (by rfl), within_set (by rfl)⟩ (inside_refl _) ⟨hrefused, fun i => ?_⟩
    by_cases hi : i = p
    · rw [hi, hself, hen]
      rfl
    · exact hothers i hi
  exact (h.unchanged (gs := [.BQL_WR_REFUSED]) (fun t ht => ht.2) (by decide)).imp fun t ht => ht.1

/-- Settles O28: each command by what it finds of its port or link. -/
theorem portsAndLinks : Obligations.PortsAndLinks := by
  unfold Obligations.PortsAndLinks
  refine ⟨?_, ?_, ?_, ?_, ?_, ?_, ?_, ?_, ?_, ?_, ?_, ?_, ?_, ?_, ?_, ?_, ?_, ?_, ?_, ?_, ?_, ?_, ?_, ?_, ?_, ?_, ?_, ?_, ?_, ?_, ?_, ?_⟩
  case refine_1 => exact fun s p hs hp hen => completes_portEnable hs hp hen
  case refine_2 => exact fun s p hs hp hen => completes_portEnabled hs hp hen
  case refine_3 => exact fun s p hs hp h => completes_portDisable hs hp h
  case refine_4 =>
    intro s p r hs hp hr h
    obtain ⟨hself, -, hothers⟩ := bqlDone_set_get (f := .BQL_P_EN) (by decide) p 0 s.mach
    exact completes_as rfl (portEnable_run_linked hs hp hr h) (K := places [.BQL_WR_REFUSED, .BQL_P_EN] [])
      ⟨within_set (by rfl), within_set (by rfl)⟩ (inside_refl _) ⟨hself, hothers⟩
  case refine_5 => exact fun s l hs hl hen hr => completes_linkEnable hs hl hen hr
  case refine_6 =>
    exact fun s l hs hl hen hr => completes_as rfl (linkEnable_run_refused hs hl hen hr) bqlRefused_within (by rfl)
      (Mach.get_set _ _ _ _ (by decide))
  case refine_7 => exact fun s l hs hl hen hst => completes_linkDisable_hello hs hl hen hst
  case refine_8 =>
    intro s l hs hl hen hst
    have hne : s.mach.get .BQL_L_STATE l ≠ blHello := by
      rcases hst with h | h <;> rw [h] <;> decide
    have hrun := (linkEnable_run_disable hs hl hen).trans
      (congrArg (fun a => (bqlDone (.seq (.set .BQL_L_EN l 0) a)).run s.mach) ((if_neg hne).trans (if_pos hst)))
    obtain ⟨hself, -, hothers⟩ := bqlDone_set_get (f := .BQL_L_EN) (by decide) l 0 s.mach
    exact completes_as rfl hrun (K := places [.BQL_WR_REFUSED, .BQL_L_EN] [])
      ⟨within_set (by rfl), within_set (by rfl), within_skip⟩ (inside_refl _) ⟨hself, hothers⟩
  case refine_9 => exact fun s l hs hl hen hst => completes_linkDisable_flush hs hl hen hst
  case refine_10 =>
    exact fun s l v hs hl => completes_as rfl (anTxWrite_run hs hl v) (K := places [.BQL_WR_REFUSED, .BQL_L_AN_TX] [])
      ⟨within_set (by rfl), within_set (by rfl)⟩ (inside_refl _) (bqlDone_set_get (by decide) l v s.mach)
  case refine_11 =>
    exact fun s l h => completes_of rfl (linkLoss_within l) (by rfl) (declareLoss_lost h)
  case refine_12 =>
    exact fun s l h1 h2 => completes_as (a := linkLoss l) (b := .skip) rfl (declareLoss_run_skip h1 h2) (within_skip (K := 0))
      (by rfl) rfl
  case refine_13 =>
    intro s l hfull h
    obtain ⟨-, hst, -, -⟩ := declareLoss_lost h
    exact completes_as (a := landingStall l) (b := declareLoss l) rfl ((landingStall_run ..).trans (if_pos hfull)) (declareLoss_within l)
      (by rfl) ⟨rfl, hst⟩
  case refine_14 =>
    exact fun s l hfull => completes_as (a := landingStall l) (b := .skip) rfl
      ((landingStall_run ..).trans (if_neg (by rw [hfull]; decide))) (within_skip (K := 0)) (by rfl) rfl
  case refine_15 =>
    exact fun s l h => (completes_graceExpiry h).imp fun t ht =>
      ⟨ht.state, ht.flushes, ht.first, ht.last, ht.unknown, ht.states, ht.counts⟩
  case refine_16 =>
    exact fun s l h => completes_as (a := graceExpiry l) (b := .skip) rfl (graceExpiry_run_skip h) (within_skip (K := 0)) (by rfl) rfl
  case refine_17 => exact fun s l h => completes_flushComplete h
  case refine_18 =>
    intro s p lanes hs hp
    refine (completes_lanes hs hp).imp fun t ht => ?_
    obtain ⟨⟨hlanes, hsettled, holanes, hosettled⟩, ht⟩ := ht
    refine ⟨hlanes, hsettled, holanes, hosettled, fun hno => ?_⟩
    have hnone : (s.mach.portLinks p).filter (fun l => s.mach.get .BQL_L_STATE l == blUp && (s.mach.blink l).reneg.isNone) = [] :=
      List.filter_eq_nil_iff.mpr fun l hl => by simp [hno l hl]
    rw [ht, hnone, Act.run_each_nil, (lanesSettle_within p lanes).out _ (by rfl)]
  case refine_19 =>
    exact fun s p l lanes rate phy hs hp hlinks hst hr hrate hne hnew hphy hmode =>
      completes_lanesPropose hs hp hlinks hst hr hrate hne hnew hphy hmode
  case refine_20 =>
    exact fun s l pid rate ident phy hs hen hst => completes_as rfl (takeReneg_run_lost hs hen pid rate ident phy hst)
      (within_inc (K := places [.BQL_L_RENEG_LOST] []) (by rfl)) (inside_refl _) ⟨Mach.get_inc .., Mach.others_inc _ _ _ _⟩
  case refine_21 => exact fun s l pid rate ident phy hs hen hst hr hrun => completes_renegDeclined hs hen hst hr hrun
  case refine_22 => exact fun s l pid rate ident hs hen hst hr hrun => completes_renegRate hs hen hst hr hrun
  case refine_23 => exact fun s l pid rate ident hs hen hst hr hrun => completes_renegPhy hs hen hst hr hrun
  case refine_24 =>
    exact fun s l pid rate ident phy own hs hen hst hr hid => completes_as (b := .skip) rfl
      (takeReneg_run_stands hs hen pid rate ident phy hst hr hid) (within_skip (K := 0)) (by rfl) rfl
  case refine_25 => exact fun s l pid rate ident phy own hs hen hst hr hid => completes_renegCrossed hs hen hst hr hid
  case refine_26 => exact fun s l pid q hst hq hid hphy => completes_renegAccepted hst hq hid hphy
  case refine_27 => exact fun s l pid q hst hq hid hphy => completes_renegHolds hst hq hid hphy
  case refine_28 =>
    intro s l pid result q hst hq hid h0 h2
    have hrun := takeRenegAns_run hst hq hid h2
    rw [beq_eq_false_iff_ne.mpr h0] at hrun
    exact completes_as rfl hrun (K := places [] [.bql]) ⟨within_bql (by rfl), within_skip⟩ (inside_refl _) rfl
  case refine_29 =>
    exact fun s l pid result h => completes_as (b := .skip) rfl (takeRenegAns_run_skip h) (within_skip (K := 0)) (by rfl) rfl
  case refine_30 =>
    exact fun s l q hq hagain => completes_as rfl (renegRetry_run hq hagain) (K := places countFields [.out, .bql])
      ⟨within_bql (by rfl), (sendReneg_within _ _).mono (by rfl)⟩ (inside_refl _) (sendReneg_noted q s.mach)
  case refine_31 =>
    intro s l q hq hagain
    refine completes_as rfl (renegRetry_run_given_up hq hagain) (K := places [.BQL_L_RENEG_LOST] [.bql])
      ⟨within_bql (by rfl), within_inc (by rfl)⟩ (inside_refl _) ⟨Mach.get_inc .., ?_, Mach.others_inc _ _ _ _⟩
    exact congrArg BqlLink.reneg (blink_self l (fun b => { b with reneg := none }) s.mach)
  case refine_32 =>
    intro s l hr
    refine completes_as (a := renegRetry l) (b := .skip) rfl ?_ (within_skip (K := 0)) (by rfl) rfl
    rw [renegRetry, Act.run_read, hr]
    rfl

end Sys2Proof.Machine
end

section
/-!
SUPPORT. Sequenced packets as they leave and are freed: what they note at their link slot, and that a visitor's line that goes on leaves
every link slot.
-/

namespace Sys2Proof.Machine

/-! ### Programs that leave every link slot -/

/-- A program leaves what the link slots keep. -/
structure Act.KeepsLinks (a : Act) : Prop where
  links : ∀ m, (a.run m).bql.links = m.bql.links

theorem keepsLinks_within {K : Nat} {a : Act} (ha : a.Within K) (h : K.testBit 614 = false) : a.KeepsLinks :=
  ⟨fun m => congrArg BqlSt.links (ha.bql m h)⟩

theorem keepsLinks_seq {a b : Act} (ha : a.KeepsLinks) (hb : b.KeepsLinks) : (Act.seq a b).KeepsLinks :=
  ⟨fun m => (hb.links _).trans (ha.links m)⟩

theorem keepsLinks_read {f : Mach → Act} (h : ∀ m, (f m).KeepsLinks) : (Act.read f).KeepsLinks := ⟨fun m => (h m).links m⟩

theorem keepsLinks_all {l : List Act} (h : ∀ a ∈ l, a.KeepsLinks) : (Act.all l).KeepsLinks := by
  induction l with
  | nil => exact ⟨fun _ => rfl⟩
  | cons a l ih =>
    cases l with
    | nil => exact h a (List.mem_cons_self ..)
    | cons b l => exact keepsLinks_seq (h a (List.mem_cons_self ..)) (ih fun c hc => h c (List.mem_cons_of_mem _ hc))

theorem keepsLinks_pair {a b : Act} (ha : a.KeepsLinks) (hb : b.KeepsLinks) : (Act.all [a, b]).KeepsLinks := keepsLinks_seq ha hb

theorem keepsLinks_each {α : Type} {l : List α} {f : α → Act} (h : ∀ x, (f x).KeepsLinks) : (Act.each l f).KeepsLinks :=
  keepsLinks_all fun a ha => by
    obtain ⟨x, -, rfl⟩ := List.mem_map.mp ha
    exact h x

theorem keepsLinks_when {c : Bool} {a : Act} (h : a.KeepsLinks) : (Act.when c a).KeepsLinks := by
  cases c with
  | false => exact ⟨fun _ => rfl⟩
  | true => exact h

theorem keepsLinks_newId {f : Nat → Act} (h : ∀ t, (f t).KeepsLinks) : (Act.newId f).KeepsLinks := ⟨fun m => (h _).links m.drewId⟩

theorem keepsLinks_send (r : Nat) (x : Msg) : (send r x).KeepsLinks :=
  keepsLinks_read fun _ => keepsLinks_pair ⟨fun _ => rfl⟩ (keepsLinks_when ⟨fun _ => rfl⟩)

theorem Act.KeepsLinks.blink {a : Act} (h : a.KeepsLinks) (m : Mach) (l : Nat) : (a.run m).blink l = m.blink l := by
  rw [Mach.blink, Mach.blink, h.links m]

/-! ### A visitor's line that goes on -/

theorem setVis_keepsLinks (k : Nat) (e : VisEnt) : (setVis k e).KeepsLinks := ⟨fun _ => rfl⟩

theorem answer_keepsLinks (r : Req) (v : LineVal) (g : Nat) : (answer r v g).KeepsLinks := by
  refine keepsLinks_read fun m => ?_
  split
  · refine keepsLinks_pair (keepsLinks_within (sample_within _ _ _ _ _ _ _) (by rfl)) ?_
    split
    · split <;> exact ⟨fun _ => rfl⟩
    · exact ⟨fun _ => rfl⟩
  · dsimp only
    split
    · exact keepsLinks_send ..
    · split <;> exact keepsLinks_send ..
  · exact ⟨fun _ => rfl⟩
  · exact keepsLinks_within (noteAnswer_within _ _ _ _) (by rfl)

theorem visAsk_keepsLinks (k code : Nat) (tr : VTrans) (r : Req) : (visAsk k code tr r).KeepsLinks :=
  keepsLinks_newId fun _ => keepsLinks_read fun _ => keepsLinks_pair (setVis_keepsLinks ..) (keepsLinks_send ..)

theorem visSnoopHeads_keepsLinks (n k : Nat) (hs : List Nat) (kind : Nat) : (visSnoopHeads n k hs kind).KeepsLinks :=
  keepsLinks_each fun _ => keepsLinks_read fun _ => keepsLinks_each fun _ => keepsLinks_pair ⟨fun _ => rfl⟩ ⟨fun _ => rfl⟩

theorem visServe_keepsLinks (n k : Nat) (r : Req) : (visServe n k r).KeepsLinks :=
  keepsLinks_read fun _ => keepsLinks_pair (setVis_keepsLinks ..) (answer_keepsLinks ..)

theorem visWrite_keepsLinks (n k : Nat) (r : Req) : (visWrite n k r).KeepsLinks := by
  refine keepsLinks_newId fun t => keepsLinks_read fun m => ?_
  dsimp only
  split
  · exact keepsLinks_pair ⟨fun _ => rfl⟩ (answer_keepsLinks ..)
  · split
    · exact keepsLinks_pair (setVis_keepsLinks ..) (keepsLinks_send ..)
    · exact keepsLinks_pair (setVis_keepsLinks ..) (answer_keepsLinks ..)

theorem visEvict_keepsLinks (k : Nat) : (visEvict k).KeepsLinks := by
  refine keepsLinks_newId fun t => keepsLinks_read fun m => ?_
  dsimp only
  split
  · exact ⟨fun _ => rfl⟩
  all_goals exact keepsLinks_pair (setVis_keepsLinks ..) (keepsLinks_send ..)

theorem visStep_keepsLinks (n k : Nat) (r : Req) : (visStep n k r).KeepsLinks := by
  have hsnoop (hs : List Nat) (kind : Nat) (e : VisEnt) : (Act.seq (setVis k e) (visSnoopHeads n k hs kind)).KeepsLinks :=
    keepsLinks_seq (setVis_keepsLinks ..) (visSnoopHeads_keepsLinks ..)
  refine keepsLinks_read fun m => ?_
  dsimp only
  split
  · exact setVis_keepsLinks ..
  · split
    iterate 2
      · split
        · exact visAsk_keepsLinks ..
        · split
          · exact keepsLinks_seq (setVis_keepsLinks ..) (visServe_keepsLinks ..)
          · exact hsnoop ..
    · split
      · exact visEvict_keepsLinks ..
      · exact hsnoop ..
    · split
      · exact visAsk_keepsLinks ..
      · split
        · refine keepsLinks_seq (setVis_keepsLinks ..) ?_
          split
          · exact visServe_keepsLinks ..
          · exact visWrite_keepsLinks ..
        · exact hsnoop ..

theorem visWakeN_keepsLinks (n k f : Nat) : (visWakeN n k f).KeepsLinks := by
  induction f with
  | zero => exact ⟨fun _ => rfl⟩
  | succ f ih =>
    refine keepsLinks_read fun m => ?_
    dsimp only
    split
    · exact ⟨fun _ => rfl⟩
    · split
      · exact ⟨fun _ => rfl⟩
      · exact keepsLinks_seq (setVis_keepsLinks ..) (keepsLinks_seq (visStep_keepsLinks ..) ih)

theorem visWake_keepsLinks (k : Nat) : (visWake k).KeepsLinks := by
  refine keepsLinks_read fun m => ?_
  split
  · exact ⟨fun _ => rfl⟩
  · exact visWakeN_keepsLinks ..

theorem fwdAcked_keepsLinks (k : Nat) : (fwdAcked k).KeepsLinks :=
  keepsLinks_read fun _ => keepsLinks_when (keepsLinks_pair (setVis_keepsLinks ..) (visWake_keepsLinks k))

/-! ### Packets that are freed -/

/-- Packets of a slot before a number are freed. -/
def freed (n : Nat) (b : BqlLink) : BqlLink := { b with replay := b.replay.filter fun k => !seqBefore k.seq n }

/-- The owners of forwards that freed packets held take their states. -/
def forwardsAcked (l n : Nat) (m : Mach) : Act :=
  .each (((m.blink l).replay.filter fun k => seqBefore k.seq n).flatMap (·.msgs)) fun x =>
    .when (x.code == mFwdData) (fwdAcked (visKey x.home x.line))

theorem freeTo_run (l n : Nat) (m : Mach) : (freeTo l n).run m = (forwardsAcked l n m).run ((replayUsed (l / 8)).run
    ((Act.set .BQL_L_TX_ACKED l n).run ((Act.blink l (freed n)).run m))) := by
  rw [freeTo, Act.run_read]
  simp only [Act.run_all_cons, Act.run_all_one]
  rfl

theorem forwardsAcked_keepsLinks (l n : Nat) (m : Mach) : (forwardsAcked l n m).KeepsLinks :=
  keepsLinks_each fun _ => keepsLinks_when (fwdAcked_keepsLinks _)

theorem forwardsAcked_within (l n : Nat) (m : Mach) : (forwardsAcked l n m).Within
    (places (countFields ++ [.GRN_DROPPED, .FRY_ERR, .FRY_M_ERR, .SND_S_HELD, .SND_S_LOST]) [.out, .freeCtr, .lines, .dir, .bql, .snd, .fry]) :=
  within_each fun _ => within_when ((fwdAcked_within _).mono (by rfl))

theorem freeTo_blink (l n j : Nat) (m : Mach) : ((freeTo l n).run m).blink j = ((Act.blink l (freed n)).run m).blink j := by
  rw [freeTo_run, (forwardsAcked_keepsLinks l n m).blink]
  rfl

theorem freeTo_acked (l n i : Nat) (m : Mach) :
    ((freeTo l n).run m).get .BQL_L_TX_ACKED i = if i = l then n % 2 ^ 32 else m.get .BQL_L_TX_ACKED i := by
  rw [freeTo_run, (forwardsAcked_within l n m).get _ _ _ (by rfl) (by rfl),
    (replayUsed_within _).get _ _ _ (by rfl) (by rfl), Mach.get_set_ite, blink_get]
  simp only [true_and]
  rfl

/-- No packet of the slot holds a forward, so none is acknowledged with it. -/
theorem freeTo_run_plain {l : Nat} {m : Mach} (n : Nat) (h : ∀ j ∈ (m.blink l).replay, ∀ x ∈ j.msgs, x.code ≠ mFwdData) :
    (freeTo l n).run m = (Act.all [.blink l (freed n), .set .BQL_L_TX_ACKED l n, replayUsed (l / 8)]).run m := by
  have hskip (xs : List Msg) (hxs : ∀ x ∈ xs, x.code ≠ mFwdData) (a : Mach) :
      (Act.each xs fun x => .when (x.code == mFwdData) (fwdAcked (visKey x.home x.line))).run a = a := by
    refine each_keeps id xs (fun x hx b => ?_) a
    rw [Act.run_when, beq_eq_false_iff_ne.mpr (hxs x hx), if_neg (by decide)]
  rw [freeTo_run, forwardsAcked, hskip]
  · rfl
  · intro x hx
    obtain ⟨k, hk, hxk⟩ := List.mem_flatMap.mp hx
    exact h k (List.mem_of_mem_filter hk) x hxk

/-! ### Sequenced packets -/

section Pkt

variable (l : Nat) (retx : Bool) (k : Pkt) (m : Mach)

theorem sendPkt_run : (sendPkt l retx k).run m = (Act.when retx (.inc .BQL_L_REPLAYS l 1)).run
    ((event (.boesque (l / 8)) 0x63 0 k.units).run ((event (.boesque (l / 8)) (if retx then 0x62 else 0x60) 7 1).run
      ((event (.boesque (l / 8)) (if retx then 0x62 else 0x60) k.cls 1).run ((noteAck l).run
        ((Act.emit (.packet l k.seq k.cls k.prio (m.get .BQL_L_RX_EXPECT l) retx k.msgs)).run m))))) := by
  rw [sendPkt, Act.run_read]
  simp only [Act.run_all_cons, Act.run_all_one]

theorem resent_counts : (Act.when retx (.inc .BQL_L_REPLAYS l 1)).Within (places [.BQL_L_REPLAYS] []) :=
  within_when (within_inc (by rfl))

theorem sendPkt_out : ((sendPkt l retx k).run m).out = m.out ++ [.packet l k.seq k.cls k.prio (m.get .BQL_L_RX_EXPECT l) retx k.msgs] := by
  rw [sendPkt_run, (resent_counts l retx).out _ (by rfl), event_out, event_out, event_out]
  rfl

theorem sendPkt_bql : ((sendPkt l retx k).run m).bql =
    ((Act.blink l (ackNoted (m.get .BQL_L_RX_EXPECT l) m.now)).run m).bql := by
  rw [sendPkt_run, (resent_counts l retx).bql _ (by rfl), event_bql, event_bql, event_bql]
  rfl

theorem sendPkt_replay (j : Nat) : (((sendPkt l retx k).run m).blink j).replay = (m.blink j).replay := by
  rw [blink_congr (sendPkt_bql l retx k m)]
  by_cases h : j = l
  · rw [h, blink_self, ackNoted]
  · rw [blink_other _ _ _ h]

theorem sendPkt_blink_other {j : Nat} (h : j ≠ l) : ((sendPkt l retx k).run m).blink j = m.blink j := by
  rw [blink_congr (sendPkt_bql l retx k m), blink_other _ _ _ h]

theorem sendPkt_get {f : Fld} (h : f ≠ .SND_K_VALUE ∧ f ≠ .SND_SUM) (hf : f ≠ .BQL_L_REPLAYS) (i : Nat) :
    ((sendPkt l retx k).run m).get f i = m.get f i := by
  have hcount (a : Mach) : ((Act.when retx (.inc .BQL_L_REPLAYS l 1)).run a).get f i = a.get f i := by
    rw [Act.run_when]
    split
    · exact Mach.get_inc_other hf ..
    · rfl
  rw [sendPkt_run, hcount, event_get _ _ _ _ _ h, event_get _ _ _ _ _ h, event_get _ _ _ _ _ h]
  rfl

theorem sendPkt_replays (i : Nat) : ((sendPkt l true k).run m).get .BQL_L_REPLAYS i =
    if i = l then (m.get .BQL_L_REPLAYS l + 1) % 2 ^ 48 else m.get .BQL_L_REPLAYS i := by
  have hsent (j : Nat) (a : Mach) : ((event (.boesque (l / 8)) 0x63 0 k.units).run ((event (.boesque (l / 8)) 0x62 7 1).run
      ((event (.boesque (l / 8)) 0x62 k.cls 1).run a))).get .BQL_L_REPLAYS j = a.get .BQL_L_REPLAYS j := by
    rw [event_get _ _ _ _ _ (by decide), event_get _ _ _ _ _ (by decide), event_get _ _ _ _ _ (by decide)]
  rw [sendPkt_run, Act.run_when, if_pos rfl, Mach.get_inc_ite]
  simp only [if_true, hsent, true_and]
  rfl

/-- The first sending of a packet counts none of those sent again. -/
theorem sendPkt_first_within : (sendPkt l false k).Within (places countFields [.out, .bql]) :=
  fun _ => ⟨within_emit (by rfl), (noteAck_within _).mono (by rfl), (event_within _ _ _ _).mono (by rfl),
    (event_within _ _ _ _).mono (by rfl), (event_within _ _ _ _).mono (by rfl), within_skip⟩

end Pkt

/-! ### Packets that are sent again -/

/-- Packets sent again, in order. -/
def resend (l : Nat) (ks : List Pkt) : Act := .each ks (sendPkt l true)

theorem replay_run (l : Nat) (m : Mach) : (replay l).run m = (resend l (m.blink l).replay).run m := rfl

theorem resend_within (l : Nat) (ks : List Pkt) : (resend l ks).Within (places (countFields ++ [.BQL_L_REPLAYS]) [.out, .bql]) :=
  within_each fun _ => (sendPkt_within _ _ _).mono (by rfl)

theorem resend_cons (l : Nat) (k : Pkt) (ks : List Pkt) (m : Mach) :
    (resend l (k :: ks)).run m = (resend l ks).run ((sendPkt l true k).run m) := Act.run_each_cons ..

theorem resend_out (l : Nat) (ks : List Pkt) (m : Mach) : ((resend l ks).run m).out =
    m.out ++ ks.map fun j => .packet l j.seq j.cls j.prio (m.get .BQL_L_RX_EXPECT l) true j.msgs := by
  induction ks generalizing m with
  | nil => exact (List.append_nil _).symm
  | cons k ks ih =>
    rw [resend_cons, ih, sendPkt_out, sendPkt_get _ _ _ _ (by decide) (by decide), List.append_assoc]
    rfl

theorem resend_replay (l j : Nat) (ks : List Pkt) (m : Mach) : (((resend l ks).run m).blink j).replay = (m.blink j).replay :=
  each_keeps (fun a => (a.blink j).replay) ks (fun k _ a => sendPkt_replay l true k a j) m

theorem resend_blink_other {l j : Nat} (h : j ≠ l) (ks : List Pkt) (m : Mach) : ((resend l ks).run m).blink j = m.blink j :=
  each_keeps (fun a => a.blink j) ks (fun k _ a => sendPkt_blink_other l true k a h) m

theorem resend_get {f : Fld} (h : f ≠ .SND_K_VALUE ∧ f ≠ .SND_SUM) (hf : f ≠ .BQL_L_REPLAYS) (l i : Nat) (ks : List Pkt) (m : Mach) :
    ((resend l ks).run m).get f i = m.get f i :=
  each_keeps (fun a => a.get f i) ks (fun k _ a => sendPkt_get l true k a h hf i) m

theorem resend_others (l : Nat) (ks : List Pkt) (m : Mach) : Mach.Others .BQL_L_REPLAYS l m ((resend l ks).run m) :=
  fun j hj => each_keeps (fun a => a.get .BQL_L_REPLAYS j) ks (fun k _ a => (sendPkt_replays l k a j).trans (if_neg hj)) m

theorem resend_count (l : Nat) (k : Pkt) (ks : List Pkt) (m : Mach) : ((resend l (k :: ks)).run m).get .BQL_L_REPLAYS l =
    (m.get .BQL_L_REPLAYS l + (k :: ks).length) % 2 ^ 48 := by
  induction ks generalizing k m with
  | nil => exact (sendPkt_replays l k m l).trans (if_pos rfl)
  | cons k' ks ih =>
    rw [resend_cons, ih, sendPkt_replays, if_pos rfl, Nat.mod_add_mod, List.length_cons, List.length_cons, List.length_cons, Nat.add_assoc,
      Nat.add_comm 1]

end Sys2Proof.Machine
end

section
/-!
PROOF. O29, packets, landing and repair (R258, R262, R264, R271 to R276, R278).
-/

namespace Sys2Proof.Machine

/-! ### A packet that is sent -/

/-- A packet that is kept for replay, with the bytes of its class that go on and its requests in flight. -/
def keptPkt (k : Pkt) (left : Nat) (reqs : List (Nat × Nat)) (b : BqlLink) : BqlLink :=
  { b with replay := b.replay ++ [k], cont := b.cont.set k.cls 0 left, reqs := b.reqs ++ reqs }

/-- Messages of a packet leave those that the harbour holds. -/
def unqueue (r : Nat) (xs : List Msg) (s : BqlSt) : BqlSt := { s with txq := xs.foldl (fun t x => t.erase (r, x)) s.txq }

theorem unqueue_blink (r : Nat) (xs : List Msg) (m : Mach) (j : Nat) :
    ((Act.prim (.bql (unqueue r xs))).run m).blink j = m.blink j := rfl

theorem keptPkt_replay (k : Pkt) (left : Nat) (reqs : List (Nat × Nat)) (b : BqlLink) :
    (keptPkt k left reqs b).replay = b.replay ++ [k] := rfl

/-- A packet leaves: its messages from the queue, the packet into the replay buffer, its number taken, and its first sending. -/
def sendNew (l : Nat) (k : Pkt) (left : Nat) (reqs : List (Nat × Nat)) : Act :=
  .all [.prim (.bql (unqueue (l % 8) k.msgs)), .blink l (keptPkt k left reqs), .inc .BQL_L_TX_SEQ l 1, replayUsed (l / 8), sendPkt l false k]

theorem sendNew_within (l : Nat) (k : Pkt) (left : Nat) (reqs : List (Nat × Nat)) :
    (sendNew l k left reqs).Within (places (countFields ++ [.BQL_P_REPLAY_USED, .BQL_L_TX_SEQ]) [.out, .bql]) :=
  ⟨within_bql (by rfl), within_bql (by rfl), within_inc (by rfl),
    (replayUsed_within _).mono (by rfl), (sendPkt_first_within _ _).mono (by rfl)⟩

theorem replayUnits_congr {a b : Mach} {j : Nat} (h : (a.blink j).replay = (b.blink j).replay) : a.replayUnits j = b.replayUnits j := by
  rw [Mach.replayUnits, Mach.replayUnits, h]

theorem replayUsed_get (p : Nat) (m : Mach) : ((replayUsed p).run m).get .BQL_P_REPLAY_USED p =
    ((List.range 8).map fun r => m.replayUnits (8 * p + r)).sum % 2 ^ 17 := Mach.get_set_mod .BQL_P_REPLAY_USED p _ m

theorem replayUsed_others (p : Nat) (m : Mach) : Mach.Others .BQL_P_REPLAY_USED p m ((replayUsed p).run m) :=
  fun j hj => Mach.others_set .BQL_P_REPLAY_USED p _ m j hj

theorem replayUsed_keeps {f : Fld} (h : f ≠ .BQL_P_REPLAY_USED) (p i : Nat) (m : Mach) : ((replayUsed p).run m).get f i = m.get f i :=
  Mach.get_set_other h p i _ m

/-- What a packet that is sent leaves of its link. -/
theorem sendNew_post (l : Nat) (k : Pkt) (left : Nat) (reqs : List (Nat × Nat)) (m : Mach) (t : Mach) (ht : t = (sendNew l k left reqs).run m) :
    t.get .BQL_L_TX_SEQ l = (m.get .BQL_L_TX_SEQ l + 1) % 2 ^ 32 ∧
    t.out = m.out ++ [.packet l k.seq k.cls k.prio (m.get .BQL_L_RX_EXPECT l) false k.msgs] ∧
    (t.blink l).replay = (m.blink l).replay ++ [k] ∧
    t.get .BQL_P_REPLAY_USED (l / 8) = ((List.range 8).map fun r => t.replayUnits (8 * (l / 8) + r)).sum % 2 ^ 17 ∧
    t.bql.txq = k.msgs.foldl (fun x y => x.erase (l % 8, y)) m.bql.txq ∧
    (∀ j, j ≠ l → t.blink j = m.blink j) ∧
    Mach.Others .BQL_L_TX_SEQ l m t ∧ Mach.Others .BQL_P_REPLAY_USED (l / 8) m t := by
  have hbql (f : BqlSt → BqlSt) (a : Mach) (g : Fld) (j : Nat) : ((Act.prim (.bql f)).run a).get g j = a.get g j := rfl
  have hinc (a : Mach) (j : Nat) : ((replayUsed (l / 8)).run ((Act.inc .BQL_L_TX_SEQ l 1).run a)).blink j = a.blink j := by
    rw [(replayUsed_within _).blink (by rfl),
      (within_inc (K := places [.BQL_L_TX_SEQ] []) (by rfl)).blink (by rfl)]
  simp only [sendNew, Act.run_all_cons, Act.run_all_one] at ht
  subst ht
  refine ⟨?_, ?_, ?_, ?_, ?_, fun j hj => ?_, fun j hj => ?_, fun j hj => ?_⟩
  · rw [sendPkt_get _ _ _ _ (by decide) (by decide), replayUsed_keeps (by decide), Mach.get_inc, blink_get, hbql]
    rfl
  · rw [sendPkt_out, replayUsed_keeps (by decide), Mach.get_inc_other (by decide), blink_get, hbql, (replayUsed_within _).out _ (by rfl),
      (within_inc (K := places [.BQL_L_TX_SEQ] []) (by rfl)).out _ (by rfl), blink_out]
    rfl
  · rw [sendPkt_replay, hinc, blink_self, keptPkt_replay, unqueue_blink]
  · rw [sendPkt_get _ _ _ _ (by decide) (by decide), replayUsed_get]
    refine congrArg (fun x : List Nat => x.sum % 2 ^ 17) (List.map_congr_left fun r _ => ?_)
    refine replayUnits_congr ?_
    rw [sendPkt_replay, (replayUsed_within _).blink (by rfl)]
  · rw [sendPkt_bql, blink_txq, (replayUsed_within _).bql _ (by rfl),
      (within_inc (K := places [.BQL_L_TX_SEQ] []) (by rfl)).bql _ (by rfl), blink_txq]
    rfl
  · rw [sendPkt_blink_other _ _ _ _ hj]
    rw [hinc, blink_other _ _ _ hj, unqueue_blink]
  · rw [sendPkt_get _ _ _ _ (by decide) (by decide), replayUsed_keeps (by decide), Mach.others_inc _ _ _ _ j hj, blink_get, hbql]
  · rw [sendPkt_get _ _ _ _ (by decide) (by decide), replayUsed_others _ _ j hj, Mach.get_inc_other (by decide), blink_get, hbql]

/-- What a packet that is sent leaves of a message that began in it, in bytes. -/
def leftOf (mtu carry rest : Nat) : Nat := if mtu < carry then carry - mtu else rest

/-- Requests that begin in a packet of a class. -/
def reqsOf (cls : Nat) (xs : List Msg) : List (Nat × Nat) := if cls = 0 then xs.map fun y => (y.txid, msgBytes y) else []

/-- Bytes of requests that a slot's budget leaves. -/
def BqlLink.reqRoom (b : BqlLink) : Nat := ((b.budget.map fun u => 4096 * u - (b.reqs.map (·.2)).sum)).getD 0

theorem reqRoom_eq (b : BqlLink) :
    (match b.budget with | some u => 4096 * u - (b.reqs.map (·.2)).sum | none => 0) = b.reqRoom := by
  rw [BqlLink.reqRoom]
  cases b.budget <;> rfl

/-- The packet of a class that leaves next, with what is left of its last message. -/
def nextPkt (m : Mach) (l cls prio : Nat) (q : List Msg × Nat) : Pkt :=
  { seq := m.get .BQL_L_TX_SEQ l, cls := cls, prio := prio % 4,
    len := min (1024 * 2 ^ m.get .BQL_L_MTU l) (((m.blink l).cont.find? cls).getD 0 + (q.1.map msgBytes).sum), msgs := q.1 }

/-- The messages that a packet of a class takes. -/
def nextMsgs (m : Mach) (l cls n : Nat) : List Msg × Nat :=
  packMsgs n (1024 * 2 ^ m.get .BQL_L_MTU l - ((m.blink l).cont.find? cls).getD 0) (if cls = 0 then (m.blink l).reqRoom else 2 ^ 64)
    ((m.bql.txq.filter fun x => x.1 == l % 8 && msgClass x.2.code == cls).map (·.2))

theorem packetSend_run (l cls prio n : Nat) (m : Mach) : (packetSend l cls prio n).run m =
    (Act.when (m.sled == .dx32 && m.get .BQL_L_STATE l == blUp && decide (cls < 4) &&
        decide (0 < (nextPkt m l cls prio (nextMsgs m l cls n)).len) && m.replayRoom l (nextPkt m l cls prio (nextMsgs m l cls n)).units)
      (sendNew l (nextPkt m l cls prio (nextMsgs m l cls n))
        (leftOf (1024 * 2 ^ m.get .BQL_L_MTU l) (((m.blink l).cont.find? cls).getD 0) (nextMsgs m l cls n).2)
        (reqsOf cls (nextMsgs m l cls n).1))).run m := by
  rw [nextMsgs, ← reqRoom_eq]
  rfl

/-- A request that no budget has been learned for begins in no packet. -/
theorem packMsgs_no_budget (n room : Nat) (xs : List Msg) : packMsgs n room 0 xs = ([], 0) := by
  cases n with
  | zero => rfl
  | succ n =>
    cases xs with
    | nil => rfl
    | cons x xs =>
      have hpos : 0 < msgBytes x := by
        rw [msgBytes]
        omega
      rw [packMsgs]
      exact if_pos (.inl hpos)

theorem packetSend_run_no_budget {l : Nat} {m : Mach} (prio n : Nat) (hb : (m.blink l).budget = none)
    (hc : ((m.blink l).cont.find? 0).getD 0 = 0) : (packetSend l 0 prio n).run m = m := by
  have hroom : (m.blink l).reqRoom = 0 := by rw [BqlLink.reqRoom, hb]; rfl
  have hlen : (nextPkt m l 0 prio (nextMsgs m l 0 n)).len = 0 := by
    rw [nextMsgs, if_pos rfl, hroom, packMsgs_no_budget, nextPkt, hc]
    exact Nat.min_zero _
  rw [packetSend_run, Act.run_when, hlen, decide_eq_false (Nat.lt_irrefl 0), Bool.and_false, Bool.false_and, if_neg (by decide)]

theorem completes_packetSend {s : State} {l cls prio n mtu carry budget : Nat} {queue : List Msg} {q : List Msg × Nat} {k : Pkt}
    (hs : s.mach.sled = .dx32) (hst : s.mach.get .BQL_L_STATE l = blUp) (hcls : cls < 4) (hmtu : mtu = 1024 * 2 ^ s.mach.get .BQL_L_MTU l)
    (hcarry : carry = ((s.mach.blink l).cont.find? cls).getD 0) (hbudget : budget = if cls = 0 then (s.mach.blink l).reqRoom else 2 ^ 64)
    (hqueue : queue = (s.mach.bql.txq.filter fun x => x.1 == l % 8 && msgClass x.2.code == cls).map (·.2))
    (hq : q = packMsgs n (mtu - carry) budget queue)
    (hk : k = { seq := s.mach.get .BQL_L_TX_SEQ l, cls := cls, prio := prio % 4, len := min mtu (carry + (q.1.map msgBytes).sum), msgs := q.1 })
    (hlen : 0 < k.len) (hroom : s.mach.replayRoom l k.units = true) :
    Completes (.packetSend l cls prio n) s (countFields ++ [.BQL_P_REPLAY_USED, .BQL_L_TX_SEQ]) [.out, .bql] fun t =>
      t.get .BQL_L_TX_SEQ l = (s.mach.get .BQL_L_TX_SEQ l + 1) % 2 ^ 32 ∧
      t.out = s.mach.out ++ [.packet l k.seq cls k.prio (s.mach.get .BQL_L_RX_EXPECT l) false k.msgs] ∧
      (t.blink l).replay = (s.mach.blink l).replay ++ [k] ∧
      t.get .BQL_P_REPLAY_USED (l / 8) = ((List.range 8).map fun r => t.replayUnits (8 * (l / 8) + r)).sum % 2 ^ 17 ∧
      t.bql.txq = q.1.foldl (fun x y => x.erase (l % 8, y)) s.mach.bql.txq ∧
      (∀ j, j ≠ l → t.blink j = s.mach.blink j) ∧
      Mach.Others .BQL_L_TX_SEQ l s.mach t ∧ Mach.Others .BQL_P_REPLAY_USED (l / 8) s.mach t := by
  have hmsgs : nextMsgs s.mach l cls n = q := by rw [hq, hmtu, hcarry, hbudget, hqueue, nextMsgs]
  have hpkt : nextPkt s.mach l cls prio q = k := by rw [hk, hmtu, hcarry, nextPkt]
  have hrun := packetSend_run l cls prio n s.mach
  rw [hmsgs, hpkt, hs, hst, decide_eq_true hcls, decide_eq_true hlen, hroom] at hrun
  have hkcls : k.cls = cls := by rw [hk]
  have hkmsgs : k.msgs = q.1 := by rw [hk]
  refine completes_as rfl hrun (within_when (sendNew_within ..)) (inside_refl _) ?_
  obtain ⟨h1, h2, h3, h4, h5, h6, h7, h8⟩ := sendNew_post l k _ _ s.mach _ rfl
  rw [hkcls] at h2
  rw [hkmsgs] at h5
  exact ⟨h1, h2, h3, h4, h5, h6, h7, h8⟩

/-! ### Frames -/

/-- What a frame that has passed every check does on its link. -/
def frameTaken (m : Mach) (p l : Nat) (f : Sys2Proof.Frame) : Act :=
  .all [.when f.ackv (onLive l (acked l f.ack)),
    if f.cls = 4 then .seq (event (.boesque p) 0x61 4 1) (event (.boesque p) 0x61 7 1)
    else .when (m.get .BQL_L_STATE l == blUp) (landing l f)]

/-- What a frame does that its link's address names. -/
def frameOnLink (m : Mach) (p l : Nat) (f : Sys2Proof.Frame) : Act :=
  if !f.icvOk ∨ (m.keys.sak.find? (2 * l + f.an % 2)).isNone then .inc .BQL_P_ICV_DROPS p 1
  else if f.ethertype ≠ m.get .BQL_ETHERTYPE then .skip
  else if m.badHeader l f then .inc .BQL_L_BAD_HDR l 1
  else frameTaken m p l f

/-- What a frame does at a port that receives. -/
def frameAtPort (m : Mach) (p : Nat) (f : Sys2Proof.Frame) : Act :=
  if f.pause ∨ !f.fcsOk then .inc .BQL_P_FCS_DROPS p 1
  else if f.dstMac ≠ m.get .BQL_P_MAC p then .skip
  else match (m.portLinks p).find? fun l => m.get .BQL_L_PEER_MAC l == f.srcMac with
    | none => .skip
    | some l => frameOnLink m p l f

theorem frameReceive_run_read (m : Mach) (p : Nat) (f : Sys2Proof.Frame) : (frameReceive p f).run m =
    (Act.when (m.sled == .dx32 && m.flag .BQL_P_POWERED p && !m.portDead p) (frameAtPort m p f)).run m := rfl

section Frame

variable {m : Mach} {p : Nat} {f : Sys2Proof.Frame}

theorem frameReceive_run (hs : m.sled = .dx32) (hp : m.get .BQL_P_POWERED p = 1) (hd : m.portDead p = false) :
    (frameReceive p f).run m = (frameAtPort m p f).run m := by
  rw [frameReceive_run_read, Act.run_when, hs, Mach.flag, hp, hd, if_pos (by decide)]

theorem frameAtPort_drop (h : f.pause = true ∨ f.fcsOk = false) : frameAtPort m p f = .inc .BQL_P_FCS_DROPS p 1 := by
  rw [frameAtPort, if_pos (h.imp_right fun h => by rw [h]; rfl)]

theorem frameAtPort_foreign (h1 : f.pause = false) (h2 : f.fcsOk = true) (h : f.dstMac ≠ m.get .BQL_P_MAC p ∨
    (∀ l, l ∈ m.portLinks p → m.get .BQL_L_PEER_MAC l ≠ f.srcMac)) : frameAtPort m p f = .skip := by
  rw [frameAtPort, if_neg (by simp [h1, h2])]
  by_cases hmac : f.dstMac = m.get .BQL_P_MAC p
  · rw [if_neg (not_not_intro hmac)]
    have hnone : ((m.portLinks p).find? fun l => m.get .BQL_L_PEER_MAC l == f.srcMac) = none :=
      List.find?_eq_none.mpr fun l hl => by simpa using h.resolve_left (not_not_intro hmac) l hl
    rw [hnone]
  · rw [if_pos hmac]

theorem frameAtPort_link {l : Nat} (h1 : f.pause = false) (h2 : f.fcsOk = true) (hmac : f.dstMac = m.get .BQL_P_MAC p)
    (hl : (m.portLinks p).find? (fun k => m.get .BQL_L_PEER_MAC k == f.srcMac) = some l) : frameAtPort m p f = frameOnLink m p l f := by
  rw [frameAtPort, if_neg (by simp [h1, h2]), if_neg (not_not_intro hmac), hl]

theorem frameOnLink_icv {l : Nat} (h : f.icvOk = false ∨ m.keys.sak.find? (2 * l + f.an % 2) = none) :
    frameOnLink m p l f = .inc .BQL_P_ICV_DROPS p 1 := by
  rw [frameOnLink, if_pos]
  rcases h with h | h
  · exact .inl (by rw [h]; rfl)
  · exact .inr (by rw [h]; rfl)

section Verified

variable {l : Nat} (hicv : f.icvOk = true) (hsa : (m.keys.sak.find? (2 * l + f.an % 2)).isSome = true)

include hicv hsa

theorem frameOnLink_verified : frameOnLink m p l f = if f.ethertype ≠ m.get .BQL_ETHERTYPE then .skip
    else if m.badHeader l f then .inc .BQL_L_BAD_HDR l 1 else frameTaken m p l f := by
  rw [frameOnLink, if_neg]
  rintro (h | h)
  · rw [hicv] at h
    exact absurd h (by decide)
  · rw [Option.isNone_iff_eq_none] at h
    rw [h] at hsa
    exact absurd hsa (by decide)

theorem frameOnLink_ethertype (h : f.ethertype ≠ m.get .BQL_ETHERTYPE 0) : frameOnLink m p l f = .skip :=
  (frameOnLink_verified hicv hsa).trans (if_pos h)

theorem frameOnLink_badHeader (h : f.ethertype = m.get .BQL_ETHERTYPE 0) (hb : m.badHeader l f = true) :
    frameOnLink m p l f = .inc .BQL_L_BAD_HDR l 1 :=
  (frameOnLink_verified hicv hsa).trans ((if_neg (not_not_intro h)).trans (if_pos hb))

theorem frameOnLink_taken (h : f.ethertype = m.get .BQL_ETHERTYPE 0) (hb : m.badHeader l f = false) :
    frameOnLink m p l f = frameTaken m p l f :=
  (frameOnLink_verified hicv hsa).trans ((if_neg (not_not_intro h)).trans (if_neg (by rw [hb]; decide)))

end Verified

theorem frameReceive_run_passes {l : Nat} (h : m.Passes p l f) : (frameReceive p f).run m = (frameTaken m p l f).run m := by
  obtain ⟨hs, hp, hd, h1, h2, hmac, hl, hicv, hsa, het, hb⟩ := h
  rw [frameReceive_run hs hp hd, frameAtPort_link h1 h2 hmac hl, frameOnLink_taken hicv hsa het hb]

/-- A frame of a sequenced class without an acknowledgement is a packet, on a link that is Up. -/
theorem frameReceive_run_packet {l : Nat} (h : m.Passes p l f) (hc : f.cls ≠ 4) (ha : f.ackv = false) (hst : m.get .BQL_L_STATE l = blUp) :
    (frameReceive p f).run m = (landing l f).run m := by
  rw [frameReceive_run_passes h, frameTaken, ha, if_neg hc, hst]
  rfl

theorem frameReceive_run_idle {l : Nat} (h : m.Passes p l f) (hc : f.cls ≠ 4) (ha : f.ackv = false) (hst : m.get .BQL_L_STATE l ≠ blUp) :
    (frameReceive p f).run m = m := by
  rw [frameReceive_run_passes h, frameTaken, ha, if_neg hc, beq_eq_false_iff_ne.mpr hst]
  rfl

theorem frameReceive_run_control {l : Nat} (h : m.Passes p l f) (hc : f.cls = 4) : (frameReceive p f).run m =
    (Act.seq (.when f.ackv (takeAck l f.ack)) (.seq (event (.boesque p) 0x61 4 1) (event (.boesque p) 0x61 7 1))).run m := by
  rw [frameReceive_run_passes h, frameTaken, if_pos hc]
  rfl

end Frame

/-! ### Landing -/

theorem landing_run_land {m : Mach} {l : Nat} {f : Sys2Proof.Frame} (he : f.seq = m.get .BQL_L_RX_EXPECT l) (hf : f.fits = true) :
    (landing l f).run m = (land l f).run m := by
  rw [landing, Act.run_read]
  dsimp only
  rw [if_pos he, if_pos hf]

/-- A packet that does not fit: the link notes it, and its port and this sled count and report it. -/
def landingFull (l : Nat) : Act :=
  .all [.blink l fun x => { x with landFull := true, nakOpen := true }, .inc .BQL_P_LAND_NAKS (l / 8) 1,
    raise (srcId 0x04 (16 + l / 8) 0) 0 0, sendNak l 1]

theorem landing_run_full {m : Mach} {l : Nat} {f : Sys2Proof.Frame} (he : f.seq = m.get .BQL_L_RX_EXPECT l) (hf : f.fits = false)
    (hl : (m.blink l).landFull = false) : (landing l f).run m = (landingFull l).run m := by
  rw [landing, Act.run_read]
  dsimp only
  rw [if_pos he, if_neg (by rw [hf]; decide), if_neg (by rw [hl]; decide), landingFull]

theorem landing_run_full_again {m : Mach} {l : Nat} {f : Sys2Proof.Frame} (he : f.seq = m.get .BQL_L_RX_EXPECT l) (hf : f.fits = false)
    (hl : (m.blink l).landFull = true) : (landing l f).run m = m := by
  rw [landing, Act.run_read]
  dsimp only
  rw [if_pos he, if_neg (by rw [hf]; decide), if_pos hl, Act.run_skip]

theorem landing_run_gap {m : Mach} {l : Nat} {f : Sys2Proof.Frame} (hb : seqBefore (m.get .BQL_L_RX_EXPECT l) f.seq = true)
    (he : f.seq ≠ m.get .BQL_L_RX_EXPECT l) : (landing l f).run m = (Act.seq (.when (!(m.blink l).nakOpen) (sendNak l 0))
      (.blink l fun x => { x with later := (m.blink l).nakOpen, nakOpen := true })).run m := by
  rw [landing, Act.run_read]
  dsimp only
  rw [if_neg he, if_pos hb]

theorem landing_run_duplicate {m : Mach} {l : Nat} {f : Sys2Proof.Frame} (hb : seqBefore (m.get .BQL_L_RX_EXPECT l) f.seq = false)
    (he : f.seq ≠ m.get .BQL_L_RX_EXPECT l) : (landing l f).run m = (Act.seq (.inc .BQL_L_DUPLICATES l 1)
      (.when (!((m.blink l).ackNo == some (m.get .BQL_L_RX_EXPECT l) && decide (m.now ≤ (m.blink l).ackAt + 1000)))
        (sendCtl l 2 []))).run m := by
  rw [landing, Act.run_read]
  dsimp only
  rw [if_neg he, if_neg (by rw [hb]; decide)]
  rfl

/-- What landing a packet does once its number is taken. -/
def landRest (m : Mach) (l : Nat) (f : Sys2Proof.Frame) : Act :=
  .all [.blink l fun b => { b with landed := b.landed + 1, nakOpen := false, later := false, landFull := false, prio := f.prio },
    event (.boesque (l / 8)) 0x61 f.cls 1, event (.boesque (l / 8)) 0x61 7 1,
    .each f.msgs fun x =>
      let y := { x with src := l % 8 }
      if msgClass y.code ≠ f.cls then protoErr (.peer (l % 8)) else .seq (endReq y) (takeMsg y),
    .read fun m' => .when (m'.get .BQL_L_STATE l == blUp && decide (m.get .BQL_ACK_COUNT ≤ (m'.blink l).landed)) (sendCtl l 2 [])]

theorem land_run (l : Nat) (f : Sys2Proof.Frame) (m : Mach) :
    (land l f).run m = (landRest m l f).run ((Act.inc .BQL_L_RX_EXPECT l 1).run m) := rfl

theorem landRest_get (m : Mach) (l i : Nat) (f : Sys2Proof.Frame) (a : Mach) :
    ((landRest m l f).run a).get .BQL_L_RX_EXPECT i = a.get .BQL_L_RX_EXPECT i := by
  have hmsgs (b : Mach) : ((Act.each f.msgs fun x =>
      let y := { x with src := l % 8 }
      if msgClass y.code ≠ f.cls then protoErr (.peer (l % 8)) else .seq (endReq y) (takeMsg y)).run b).get .BQL_L_RX_EXPECT i =
        b.get .BQL_L_RX_EXPECT i := by
    refine each_keeps (fun c => c.get .BQL_L_RX_EXPECT i) f.msgs (fun x _ c => ?_) b
    dsimp only
    split
    · exact (protoErr_within _).get _ _ _ (by rfl) (by rfl)
    · rw [Act.run_seq, (takeMsg_within _).get _ _ _ (by rfl) (by rfl)]
      exact (endReq_within _).get _ _ _ (by rfl) (by rfl)
  have hack (b : Mach) : ((Act.read fun m' => .when (m'.get .BQL_L_STATE l == blUp && decide (m.get .BQL_ACK_COUNT ≤ (m'.blink l).landed))
      (sendCtl l 2 [])).run b).get .BQL_L_RX_EXPECT i = b.get .BQL_L_RX_EXPECT i := by
    rw [Act.run_read, Act.run_when]
    split
    · exact sendCtl_get _ _ _ _ (by decide) _
    · rfl
  simp only [landRest, Act.run_all_cons, Act.run_all_one]
  rw [hack, hmsgs, event_get _ _ _ _ _ (by decide), event_get _ _ _ _ _ (by decide), blink_get]

theorem land_get (l i : Nat) (f : Sys2Proof.Frame) (m : Mach) : ((land l f).run m).get .BQL_L_RX_EXPECT i =
    if i = l then (m.get .BQL_L_RX_EXPECT l + 1) % 2 ^ 32 else m.get .BQL_L_RX_EXPECT i := by
  rw [land_run, landRest_get, Mach.get_inc_ite]
  simp only [true_and]
  rfl

/-! ### NAKs that leave -/

section Nak

variable (l reason : Nat) (m : Mach)

theorem sendNak_run : (sendNak l reason).run m = (sendCtl l 3 [m.get .BQL_L_RX_EXPECT l, reason]).run ((Act.inc .BQL_L_NAKS_SENT l 1).run m) := rfl

theorem sendNak_out : ((sendNak l reason).run m).out =
    m.out ++ [.ctl l 3 [m.get .BQL_L_RX_EXPECT l, m.get .BQL_L_RX_EXPECT l, reason]] := by
  rw [sendNak_run, sendCtl_out, Mach.get_inc_other (by decide)]
  rfl

theorem sendNak_count : ((sendNak l reason).run m).get .BQL_L_NAKS_SENT l = (m.get .BQL_L_NAKS_SENT l + 1) % 2 ^ 32 := by
  rw [sendNak_run, sendCtl_get _ _ _ _ (by decide), Mach.get_inc]
  rfl

theorem sendNak_blink : ((sendNak l reason).run m).blink l = ackNoted (m.get .BQL_L_RX_EXPECT l) m.now (m.blink l) := by
  rw [sendNak_run, sendCtl_blink, Mach.get_inc_other (by decide), Mach.now, Mach.get_inc_other (by decide),
    (within_inc (K := places [.BQL_L_NAKS_SENT] []) (by rfl)).blink (by rfl)]
  rfl

theorem sendNak_places : (sendNak l reason).Within (places (countFields ++ [.BQL_L_NAKS_SENT]) [.out, .bql]) :=
  (sendNak_within l reason).mono (by rfl)

end Nak

theorem landingFull_within (l : Nat) : (landingFull l).Within
    (places (detectFields ++ countFields ++ [.BQL_P_LAND_NAKS, .BQL_L_NAKS_SENT]) [.out, .lines, .host, .bkw, .lhl, .bql]) :=
  ⟨within_bql (by rfl), within_inc (by rfl), (raise_within _ _ _).mono (by rfl),
    (sendNak_places l 1).mono (by rfl)⟩

theorem landingFull_post (l : Nat) (m : Mach) :
    ((landingFull l).run m).get .BQL_P_LAND_NAKS (l / 8) = (m.get .BQL_P_LAND_NAKS (l / 8) + 1) % 2 ^ 32 ∧
    ((landingFull l).run m).get .BQL_L_NAKS_SENT l = (m.get .BQL_L_NAKS_SENT l + 1) % 2 ^ 32 ∧
    (((landingFull l).run m).blink l).landFull = true ∧
    ∃ o, ((landingFull l).run m).out = m.out ++ o ++ [.ctl l 3 [m.get .BQL_L_RX_EXPECT l, m.get .BQL_L_RX_EXPECT l, 1]] := by
  have hraise {f : Fld} (hf : f ∈ [Fld.BQL_P_LAND_NAKS, .BQL_L_NAKS_SENT, .BQL_L_RX_EXPECT]) (j : Nat) (a : Mach) :
      ((raise (srcId 0x04 (16 + l / 8) 0) 0 0).run a).get f j = a.get f j :=
    (raise_within _ _ _).get_of_mem (l := [.BQL_P_LAND_NAKS, .BQL_L_NAKS_SENT, .BQL_L_RX_EXPECT]) (by rfl) (by rfl) hf j a
  have hnak (a : Mach) (j : Nat) : ((sendNak l 1).run a).get .BQL_P_LAND_NAKS j = a.get .BQL_P_LAND_NAKS j :=
    (sendNak_places l 1).get _ _ _ (by rfl) (by rfl)
  simp only [landingFull, Act.run_all_cons, Act.run_all_one]
  refine ⟨?_, ?_, ?_, ?_⟩
  · rw [hnak, hraise (by decide), Mach.get_inc, blink_get]
    rfl
  · rw [sendNak_count, hraise (by decide), Mach.get_inc_other (by decide), blink_get]
  · rw [sendNak_blink, (raise_within _ _ _).blink (by rfl),
      (within_inc (K := places [.BQL_P_LAND_NAKS] []) (by rfl)).blink (by rfl), blink_self]
    rfl
  · obtain ⟨o, ho⟩ := Act.run_out_append (raise (srcId 0x04 (16 + l / 8) 0) 0 0) ((Act.inc .BQL_P_LAND_NAKS (l / 8) 1).run
      ((Act.blink l fun x => { x with landFull := true, nakOpen := true }).run m))
    refine ⟨o, ?_⟩
    rw [sendNak_out, hraise (by decide), Mach.get_inc_other (by decide), blink_get, ho]
    rfl

/-! ### Control packets that a live link takes -/

section Live

variable {m : Mach} {l : Nat} (hs : m.sled = .dx32) (hen : m.get .BQL_L_EN l = 1)
  (hst : m.get .BQL_L_STATE l = blUp ∨ m.get .BQL_L_STATE l = blHeld)

include hs hen hst

theorem onLive_run (a : Act) : (onLive l a).run m = a.run m := by
  have hlive : (m.get .BQL_L_STATE l == blUp || m.get .BQL_L_STATE l == blHeld) = true := by simpa using hst
  rw [onLive, Act.run_read, Act.run_when, hs, Mach.flag, hen, hlive, if_pos (by decide)]

theorem takeAck_run {n : Nat} (ha : seqBefore (m.get .BQL_L_TX_ACKED l) n = true)
    (hn : seqBefore n (m.get .BQL_L_TX_SEQ l) = true ∨ n = m.get .BQL_L_TX_SEQ l) : (takeAck l n).run m = (freeTo l n).run m := by
  rw [takeAck, onLive_run hs hen hst, acked, Act.run_read, Act.run_when, ha, if_pos (by simpa using hn)]

/-- What a NAK does once it has been counted. -/
theorem takeNak_run (n : Nat) : (takeNak l n).run m = (Act.seq (.inc .BQL_L_NAKS_RECV l 1)
    (if !seqBefore n (m.get .BQL_L_TX_SEQ l) then protoErr (.peer (l % 8))
     else if seqBefore n (m.get .BQL_L_TX_ACKED l) then .skip
     else .seq (freeTo l n) (.when (m.get .BQL_L_STATE l == blUp) (replay l)))).run m := by
  rw [takeNak, onLive_run hs hen hst, Act.run_read]

theorem takeNak_run_unsent {n : Nat} (hn : seqBefore n (m.get .BQL_L_TX_SEQ l) = false) :
    (takeNak l n).run m = (Act.seq (.inc .BQL_L_NAKS_RECV l 1) (protoErr (.peer (l % 8)))).run m := by
  rw [takeNak_run hs hen hst, hn]
  rfl

theorem takeNak_run_freed {n : Nat} (hn : seqBefore n (m.get .BQL_L_TX_SEQ l) = true) (ha : seqBefore n (m.get .BQL_L_TX_ACKED l) = true) :
    (takeNak l n).run m = (Act.inc .BQL_L_NAKS_RECV l 1).run m := by
  rw [takeNak_run hs hen hst, hn, ha]
  rfl

theorem takeNak_run_frees {n : Nat} (hn : seqBefore n (m.get .BQL_L_TX_SEQ l) = true) (ha : seqBefore n (m.get .BQL_L_TX_ACKED l) = false) :
    (takeNak l n).run m = (Act.all [.inc .BQL_L_NAKS_RECV l 1, freeTo l n, .when (m.get .BQL_L_STATE l == blUp) (replay l)]).run m := by
  rw [takeNak_run hs hen hst, hn, ha]
  rfl

end Live

theorem takeAck_run_skip {m : Mach} {l n : Nat} (h : seqBefore (m.get .BQL_L_TX_ACKED l) n = false ∨
    (seqBefore n (m.get .BQL_L_TX_SEQ l) = false ∧ n ≠ m.get .BQL_L_TX_SEQ l)) : (takeAck l n).run m = m := by
  have hcond : (seqBefore (m.get .BQL_L_TX_ACKED l) n && (seqBefore n (m.get .BQL_L_TX_SEQ l) || n == m.get .BQL_L_TX_SEQ l)) = false := by
    rcases h with h | ⟨h1, h2⟩
    · rw [h, Bool.false_and]
    · rw [h1, beq_eq_false_iff_ne.mpr h2, Bool.or_self, Bool.and_false]
  rw [takeAck, onLive, Act.run_read, Act.run_when]
  split
  · rw [acked, Act.run_read, Act.run_when, hcond, if_neg (by decide)]
  · rfl

theorem completes_ackTaken {c : Instr} {s : State} {l n : Nat} (e : exec c s = s.act (takeAck l n)) (hs : s.mach.sled = .dx32)
    (hen : s.mach.get .BQL_L_EN l = 1) (hst : s.mach.get .BQL_L_STATE l = blUp ∨ s.mach.get .BQL_L_STATE l = blHeld)
    (ha : seqBefore (s.mach.get .BQL_L_TX_ACKED l) n = true)
    (hn : seqBefore n (s.mach.get .BQL_L_TX_SEQ l) = true ∨ n = s.mach.get .BQL_L_TX_SEQ l) :
    Completes c s (countFields ++ [.GRN_DROPPED, .FRY_ERR, .FRY_M_ERR, .BQL_P_REPLAY_USED, .BQL_L_TX_ACKED, .SND_S_HELD, .SND_S_LOST])
      [.out, .freeCtr, .lines, .dir, .bql, .snd, .fry] fun t =>
      t.get .BQL_L_TX_ACKED l = n % 2 ^ 32 ∧ (t.blink l).replay = (s.mach.blink l).replay.filter (fun k => !seqBefore k.seq n) ∧
      Mach.Others .BQL_L_TX_ACKED l s.mach t ∧ (∀ j, j ≠ l → t.blink j = s.mach.blink j) := by
  refine completes_as e (takeAck_run hs hen hst ha hn) (freeTo_within l n) (by rfl) ⟨?_, ?_, fun j hj => ?_, fun j hj => ?_⟩
  · rw [freeTo_acked, if_pos rfl]
  · rw [freeTo_blink, blink_self, freed]
  · rw [freeTo_acked, if_neg hj]
  · rw [freeTo_blink, blink_other _ _ _ hj]

/-- A NAK that frees packets of no forward and has the rest sent again. -/
theorem completes_nakReplay {s : State} {l n reason : Nat} {k : Pkt} {ks : List Pkt} (hs : s.mach.sled = .dx32)
    (hen : s.mach.get .BQL_L_EN l = 1) (hst : s.mach.get .BQL_L_STATE l = blUp) (hn : seqBefore n (s.mach.get .BQL_L_TX_SEQ l) = true)
    (ha : seqBefore n (s.mach.get .BQL_L_TX_ACKED l) = false)
    (hks : (s.mach.blink l).replay.filter (fun k => !seqBefore k.seq n) = k :: ks)
    (hplain : ∀ j, j ∈ (s.mach.blink l).replay → ∀ x, x ∈ j.msgs → x.code ≠ mFwdData) :
    Completes (.nak l n reason) s (countFields ++ [.BQL_P_REPLAY_USED, .BQL_L_TX_ACKED, .BQL_L_REPLAYS, .BQL_L_NAKS_RECV]) [.out, .bql] fun t =>
      t.get .BQL_L_NAKS_RECV l = (s.mach.get .BQL_L_NAKS_RECV l + 1) % 2 ^ 32 ∧ t.get .BQL_L_TX_ACKED l = n % 2 ^ 32 ∧
      t.out = s.mach.out ++ (k :: ks).map (fun j => .packet l j.seq j.cls j.prio (s.mach.get .BQL_L_RX_EXPECT l) true j.msgs) ∧
      t.get .BQL_L_REPLAYS l = (s.mach.get .BQL_L_REPLAYS l + (k :: ks).length) % 2 ^ 48 ∧ (t.blink l).replay = k :: ks := by
  have hinc (a : Mach) (j : Nat) : ((Act.inc .BQL_L_NAKS_RECV l 1).run a).blink j = a.blink j :=
    (within_inc (K := places [.BQL_L_NAKS_RECV] []) (by rfl)).blink (by rfl) a j
  have hset (a : Mach) (j : Nat) : ((replayUsed (l / 8)).run ((Act.set .BQL_L_TX_ACKED l n).run a)).blink j = a.blink j := by
    rw [(replayUsed_within _).blink (by rfl),
      (within_set (K := places [.BQL_L_TX_ACKED] []) (by rfl)).blink (by rfl)]
  have hslot : ((replayUsed (l / 8)).run ((Act.set .BQL_L_TX_ACKED l n).run ((Act.blink l (freed n)).run
      ((Act.inc .BQL_L_NAKS_RECV l 1).run s.mach)))).blink l = freed n (s.mach.blink l) := by
    rw [hset, blink_self, hinc]
  have hrun : (takeNak l n).run s.mach = (Act.all [.inc .BQL_L_NAKS_RECV l 1, .blink l (freed n), .set .BQL_L_TX_ACKED l n,
      replayUsed (l / 8), resend l (k :: ks)]).run s.mach := by
    rw [takeNak_run_frees hs hen (.inl hst) hn ha, hst]
    simp only [Act.run_all_cons, Act.run_all_one]
    rw [freeTo_run_plain n (by rw [hinc]; exact hplain), Act.run_when, if_pos (by decide), replay_run]
    simp only [Act.run_all_cons, Act.run_all_one]
    rw [hslot, freed, hks]
  refine completes_as rfl hrun (K := places (countFields ++ [.BQL_P_REPLAY_USED, .BQL_L_TX_ACKED, .BQL_L_REPLAYS, .BQL_L_NAKS_RECV]) [.out, .bql])
    ⟨within_inc (by rfl), within_bql (by rfl), within_set (by rfl),
      (replayUsed_within _).mono (by rfl), (resend_within _ _).mono (by rfl)⟩ (inside_refl _) ?_
  simp only [Act.run_all_cons, Act.run_all_one]
  refine ⟨?_, ?_, ?_, ?_, ?_⟩
  · rw [resend_get (by decide) (by decide), replayUsed_keeps (by decide), Mach.get_set_other (by decide), blink_get, Mach.get_inc]
    rfl
  · rw [resend_get (by decide) (by decide), replayUsed_keeps (by decide), Mach.get_set_mod]
    rfl
  · rw [resend_out, replayUsed_keeps (by decide), Mach.get_set_other (by decide), blink_get, Mach.get_inc_other (by decide),
      (replayUsed_within _).out _ (by rfl)]
    rfl
  · rw [resend_count, replayUsed_keeps (by decide), Mach.get_set_other (by decide), blink_get, Mach.get_inc_other (by decide)]
  · rw [resend_replay, hslot, freed, hks]

theorem completes_nakHeld {s : State} {l n reason : Nat} (hs : s.mach.sled = .dx32)
    (hen : s.mach.get .BQL_L_EN l = 1) (hst : s.mach.get .BQL_L_STATE l = blHeld) (hn : seqBefore n (s.mach.get .BQL_L_TX_SEQ l) = true)
    (ha : seqBefore n (s.mach.get .BQL_L_TX_ACKED l) = false) :
    Completes (.nak l n reason) s (countFields ++ [.GRN_DROPPED, .FRY_ERR, .FRY_M_ERR, .BQL_P_REPLAY_USED, .BQL_L_TX_ACKED,
        .BQL_L_NAKS_RECV, .SND_S_HELD, .SND_S_LOST]) [.out, .freeCtr, .lines, .dir, .bql, .snd, .fry] fun t =>
      t.get .BQL_L_NAKS_RECV l = (s.mach.get .BQL_L_NAKS_RECV l + 1) % 2 ^ 32 ∧ t.get .BQL_L_TX_ACKED l = n % 2 ^ 32 ∧
      (t.blink l).replay = (s.mach.blink l).replay.filter (fun k => !seqBefore k.seq n) := by
  have hrun : (takeNak l n).run s.mach = (Act.seq (.inc .BQL_L_NAKS_RECV l 1) (freeTo l n)).run s.mach := by
    rw [takeNak_run_frees hs hen (.inr hst) hn ha, hst]
    rfl
  refine completes_as rfl hrun (K := places (countFields ++ [.GRN_DROPPED, .FRY_ERR, .FRY_M_ERR, .BQL_P_REPLAY_USED, .BQL_L_TX_ACKED,
        .BQL_L_NAKS_RECV, .SND_S_HELD, .SND_S_LOST]) [.out, .freeCtr, .lines, .dir, .bql, .snd, .fry])
    ⟨within_inc (by rfl), (freeTo_within l n).mono (by rfl)⟩ (inside_refl _) ?_
  rw [Act.run_seq]
  refine ⟨?_, ?_, ?_⟩
  · rw [(freeTo_within l n).get _ _ _ (by rfl) (by rfl), Mach.get_inc]
    rfl
  · rw [freeTo_acked, if_pos rfl]
  · rw [freeTo_blink, blink_self, (within_inc (K := places [.BQL_L_NAKS_RECV] []) (by rfl)).blink (by rfl), freed]

/-! ### Timers -/

section Timer

variable {m : Mach} {l : Nat}

theorem keepaliveTimer_run (hst : m.get .BQL_L_STATE l = blUp) : (keepaliveTimer l).run m = (sendCtl l 4 []).run m := by
  rw [keepaliveTimer, Act.run_read, Act.run_when, hst, if_pos (by decide)]

theorem keepaliveTimer_run_skip (hst : m.get .BQL_L_STATE l ≠ blUp) : (keepaliveTimer l).run m = m := by
  rw [keepaliveTimer, Act.run_read, Act.run_when, beq_eq_false_iff_ne.mpr hst, if_neg (by decide)]

theorem ackTimer_run (hst : m.get .BQL_L_STATE l = blUp) (hl : (m.blink l).landed ≠ 0) : (ackTimer l).run m = (sendCtl l 2 []).run m := by
  rw [ackTimer, Act.run_read, Act.run_when, hst, decide_eq_true (Nat.pos_of_ne_zero hl), if_pos (by decide)]

theorem ackTimer_run_skip (h : m.get .BQL_L_STATE l ≠ blUp ∨ (m.blink l).landed = 0) : (ackTimer l).run m = m := by
  have hcond : (m.get .BQL_L_STATE l == blUp && decide (0 < (m.blink l).landed)) = false := by
    rcases h with h | h
    · rw [beq_eq_false_iff_ne.mpr h, Bool.false_and]
    · rw [h, decide_eq_false (Nat.lt_irrefl 0), Bool.and_false]
  rw [ackTimer, Act.run_read, Act.run_when, hcond, if_neg (by decide)]

theorem nakRepeat_run_full (hst : m.get .BQL_L_STATE l = blUp) (hf : (m.blink l).landFull = true) :
    (nakRepeat l).run m = (sendNak l 1).run m := by
  rw [nakRepeat, Act.run_read]
  dsimp only
  rw [Act.run_when, hst, if_pos (by decide), if_pos hf]

theorem nakRepeat_run_gap (hst : m.get .BQL_L_STATE l = blUp) (hf : (m.blink l).landFull = false) (ho : (m.blink l).nakOpen = true)
    (hl : (m.blink l).later = true) :
    (nakRepeat l).run m = (Act.seq (sendNak l 0) (.blink l fun x => { x with later := false })).run m := by
  rw [nakRepeat, Act.run_read]
  dsimp only
  rw [Act.run_when, hst, if_pos (by decide), if_neg (by rw [hf]; decide), ho, hl, Act.run_when, if_pos (by decide)]

theorem nakRepeat_run_skip (h : m.get .BQL_L_STATE l ≠ blUp ∨ ((m.blink l).landFull = false ∧
    ((m.blink l).later = false ∨ (m.blink l).nakOpen = false))) : (nakRepeat l).run m = m := by
  rw [nakRepeat, Act.run_read]
  dsimp only
  rw [Act.run_when]
  split
  · next hst =>
    obtain ⟨hf, hl⟩ := h.resolve_left (not_not_intro (beq_iff_eq.mp hst))
    have hcond : ((m.blink l).nakOpen && (m.blink l).later) = false := by
      rcases hl with hl | hl <;> rw [hl]
      · exact Bool.and_false _
      · exact Bool.false_and _
    rw [if_neg (by rw [hf]; decide), Act.run_when, hcond, if_neg (by decide)]
  · rfl

theorem replayTimeout_run (hst : m.get .BQL_L_STATE l = blUp) (hr : (m.blink l).replay ≠ []) : (replayTimeout l).run m =
    (Act.seq (.inc .BQL_L_TIMEOUTS l 1) (resend l (m.blink l).replay)).run m := by
  have hne : (m.blink l).replay.isEmpty = false := by rw [List.isEmpty_eq_false_iff]; exact hr
  rw [replayTimeout, Act.run_read, Act.run_when, hst, hne, if_pos (by decide), Act.run_seq, Act.run_seq, replay_run,
    (within_inc (K := places [.BQL_L_TIMEOUTS] []) (by rfl)).blink (by rfl)]

theorem replayTimeout_run_skip (h : m.get .BQL_L_STATE l ≠ blUp ∨ (m.blink l).replay = []) : (replayTimeout l).run m = m := by
  have hcond : (m.get .BQL_L_STATE l == blUp && !(m.blink l).replay.isEmpty) = false := by
    rcases h with h | h
    · rw [beq_eq_false_iff_ne.mpr h, Bool.false_and]
    · rw [h]
      exact Bool.and_false _
  rw [replayTimeout, Act.run_read, Act.run_when, hcond, if_neg (by decide)]

end Timer

/-- The timer of packets that no acknowledgement has freed. -/
theorem completes_replayTimeout {s : State} {l : Nat} (hst : s.mach.get .BQL_L_STATE l = blUp) (hr : (s.mach.blink l).replay ≠ []) :
    Completes (.replayTimeout l) s (countFields ++ [.BQL_L_REPLAYS, .BQL_L_TIMEOUTS]) [.out, .bql] fun t =>
      t.get .BQL_L_TIMEOUTS l = (s.mach.get .BQL_L_TIMEOUTS l + 1) % 2 ^ 32 ∧
      t.get .BQL_L_REPLAYS l = (s.mach.get .BQL_L_REPLAYS l + (s.mach.blink l).replay.length) % 2 ^ 48 ∧
      t.out = s.mach.out ++ (s.mach.blink l).replay.map (fun j =>
        .packet l j.seq j.cls j.prio (s.mach.get .BQL_L_RX_EXPECT l) true j.msgs) ∧
      (t.blink l).replay = (s.mach.blink l).replay ∧ Mach.Others .BQL_L_TIMEOUTS l s.mach t ∧ Mach.Others .BQL_L_REPLAYS l s.mach t := by
  obtain ⟨k, ks, hks⟩ := List.exists_cons_of_ne_nil hr
  refine completes_as rfl (replayTimeout_run hst hr) (K := places (countFields ++ [.BQL_L_REPLAYS, .BQL_L_TIMEOUTS]) [.out, .bql])
    ⟨within_inc (by rfl), (resend_within _ _).mono (by rfl)⟩ (inside_refl _) ?_
  rw [Act.run_seq]
  refine ⟨?_, ?_, ?_, ?_, fun j hj => ?_, fun j hj => ?_⟩
  · rw [resend_get (by decide) (by decide), Mach.get_inc]
    rfl
  · rw [hks, resend_count, Mach.get_inc_other (by decide)]
  · rw [resend_out, Mach.get_inc_other (by decide)]
    rfl
  · rw [resend_replay, (within_inc (K := places [.BQL_L_TIMEOUTS] []) (by rfl)).blink (by rfl)]
  · rw [resend_get (by decide) (by decide), Mach.others_inc _ _ _ _ j hj]
  · rw [resend_others _ _ _ j hj, Mach.get_inc_other (by decide)]

/-! ### Frames that are dropped, and packets that do not land -/

theorem completes_frameIdle {s : State} {p : Nat} {f : Sys2Proof.Frame} (h : (frameReceive p f).run s.mach = s.mach) :
    Completes (.frameReceive p f) s [] [] fun t => t = s.mach :=
  completes_as (a := frameReceive p f) (b := .skip) rfl h (within_skip (K := 0)) (by rfl) rfl

/-- A frame that one counter alone counts. -/
theorem completes_frameCounted {s : State} {p i : Nat} {f : Sys2Proof.Frame} {g : Fld} 
    (h : (frameReceive p f).run s.mach = (Act.inc g i 1).run s.mach) :
    Completes (.frameReceive p f) s [g] [] fun t => t.get g i = (s.mach.get g i + 1) % 2 ^ g.spec.width ∧ Mach.Others g i s.mach t :=
  completes_as (a := frameReceive p f) rfl h (within_inc (K := places [g] []) (places_mem _ (List.mem_cons_self ..))) (inside_refl _)
    ⟨Mach.get_inc .., Mach.others_inc _ _ _ _⟩

section Packet

variable {s : State} {p l : Nat} {f : Sys2Proof.Frame} (h : s.mach.Passes p l f) (hc : f.cls ≠ 4) (ha : f.ackv = false)
  (hst : s.mach.get .BQL_L_STATE l = blUp)

include h hc ha hst

theorem completes_landFull (he : f.seq = s.mach.get .BQL_L_RX_EXPECT l) (hf : f.fits = false) (hl : (s.mach.blink l).landFull = false) :
    Completes (.frameReceive p f) s (detectFields ++ countFields ++ [.BQL_P_LAND_NAKS, .BQL_L_NAKS_SENT])
      [.out, .lines, .host, .bkw, .lhl, .bql] fun t =>
      t.get .BQL_P_LAND_NAKS (l / 8) = (s.mach.get .BQL_P_LAND_NAKS (l / 8) + 1) % 2 ^ 32 ∧
      t.get .BQL_L_NAKS_SENT l = (s.mach.get .BQL_L_NAKS_SENT l + 1) % 2 ^ 32 ∧ (t.blink l).landFull = true ∧
      (∃ o, t.out = s.mach.out ++ o ++ [.ctl l 3 [s.mach.get .BQL_L_RX_EXPECT l, s.mach.get .BQL_L_RX_EXPECT l, 1]]) :=
  completes_as rfl ((frameReceive_run_packet h hc ha hst).trans (landing_run_full he hf hl)) (landingFull_within l) (inside_refl _)
    (landingFull_post l s.mach)

theorem completes_gap (hb : seqBefore (s.mach.get .BQL_L_RX_EXPECT l) f.seq = true) (he : f.seq ≠ s.mach.get .BQL_L_RX_EXPECT l)
    (ho : (s.mach.blink l).nakOpen = false) :
    Completes (.frameReceive p f) s (countFields ++ [.BQL_L_NAKS_SENT]) [.out, .bql] fun t =>
      t.get .BQL_L_NAKS_SENT l = (s.mach.get .BQL_L_NAKS_SENT l + 1) % 2 ^ 32 ∧
      t.out = s.mach.out ++ [.ctl l 3 [s.mach.get .BQL_L_RX_EXPECT l, s.mach.get .BQL_L_RX_EXPECT l, 0]] ∧ (t.blink l).nakOpen = true ∧
      (t.blink l).later = false := by
  have hrun := (frameReceive_run_packet h hc ha hst).trans (landing_run_gap hb he)
  rw [ho] at hrun
  refine completes_as rfl hrun (K := places (countFields ++ [.BQL_L_NAKS_SENT]) [.out, .bql])
    ⟨within_when ((sendNak_places l 0).mono (by rfl)), within_bql (by rfl)⟩ (inside_refl _) ?_
  rw [Act.run_seq, Act.run_when, if_pos (by decide), blink_get, sendNak_count, blink_out, sendNak_out, blink_self]
  exact ⟨rfl, rfl, rfl, rfl⟩

theorem completes_gapAgain (hb : seqBefore (s.mach.get .BQL_L_RX_EXPECT l) f.seq = true) (he : f.seq ≠ s.mach.get .BQL_L_RX_EXPECT l)
    (ho : (s.mach.blink l).nakOpen = true) :
    Completes (.frameReceive p f) s [] [.bql] fun t => (t.blink l).later = true ∧ ∀ j, j ≠ l → t.blink j = s.mach.blink j := by
  have hrun := (frameReceive_run_packet h hc ha hst).trans (landing_run_gap hb he)
  rw [ho] at hrun
  refine completes_as rfl hrun (K := places [] [.bql]) ⟨within_skip, within_bql (by rfl)⟩ (inside_refl _) ?_
  rw [Act.run_seq]
  refine ⟨?_, fun j hj => ?_⟩
  · rw [blink_self]
  · rw [blink_other _ _ _ hj]
    rfl

theorem completes_duplicate (hb : seqBefore (s.mach.get .BQL_L_RX_EXPECT l) f.seq = false) (he : f.seq ≠ s.mach.get .BQL_L_RX_EXPECT l)
    (hack : (s.mach.blink l).ackNo ≠ some (s.mach.get .BQL_L_RX_EXPECT l) ∨ (s.mach.blink l).ackAt + 1000 < s.mach.now) :
    Completes (.frameReceive p f) s (countFields ++ [.BQL_L_DUPLICATES]) [.out, .bql] fun t =>
      t.get .BQL_L_DUPLICATES l = (s.mach.get .BQL_L_DUPLICATES l + 1) % 2 ^ 32 ∧
      t.out = s.mach.out ++ [.ctl l 2 [s.mach.get .BQL_L_RX_EXPECT l]] ∧ Mach.Others .BQL_L_DUPLICATES l s.mach t := by
  have hrun := (frameReceive_run_packet h hc ha hst).trans (landing_run_duplicate hb he)
  have hcond : ((s.mach.blink l).ackNo == some (s.mach.get .BQL_L_RX_EXPECT l) && decide (s.mach.now ≤ (s.mach.blink l).ackAt + 1000)) = false := by
    rcases hack with hack | hack
    · rw [beq_eq_false_iff_ne.mpr hack, Bool.false_and]
    · rw [decide_eq_false (Nat.not_le_of_lt hack), Bool.and_false]
  rw [hcond] at hrun
  refine completes_as rfl hrun (K := places (countFields ++ [.BQL_L_DUPLICATES]) [.out, .bql])
    ⟨within_inc (by rfl), within_when ((sendCtl_places _ _ _).mono (by rfl))⟩ (inside_refl _) ?_
  rw [Act.run_seq, Act.run_when, if_pos (by decide)]
  refine ⟨?_, ?_, fun j hj => ?_⟩
  · rw [sendCtl_get _ _ _ _ (by decide), Mach.get_inc]
    rfl
  · rw [sendCtl_out, Mach.get_inc_other (by decide)]
    rfl
  · rw [sendCtl_get _ _ _ _ (by decide), Mach.others_inc _ _ _ _ j hj]

theorem completes_duplicateAcked (hb : seqBefore (s.mach.get .BQL_L_RX_EXPECT l) f.seq = false) (he : f.seq ≠ s.mach.get .BQL_L_RX_EXPECT l)
    (hno : (s.mach.blink l).ackNo = some (s.mach.get .BQL_L_RX_EXPECT l)) (hat : s.mach.now ≤ (s.mach.blink l).ackAt + 1000) :
    Completes (.frameReceive p f) s [.BQL_L_DUPLICATES] [] fun t =>
      t.get .BQL_L_DUPLICATES l = (s.mach.get .BQL_L_DUPLICATES l + 1) % 2 ^ 32 ∧ Mach.Others .BQL_L_DUPLICATES l s.mach t := by
  have hrun := (frameReceive_run_packet h hc ha hst).trans (landing_run_duplicate hb he)
  rw [hno, beq_self_eq_true, decide_eq_true hat] at hrun
  exact completes_frameCounted hrun

end Packet

/-- A control frame that acknowledges: the packets before its number are freed. -/
theorem completes_controlAck {s : State} {p l : Nat} {f : Sys2Proof.Frame} (h : s.mach.Passes p l f) (hc : f.cls = 4) (ha : f.ackv = true) :
    Completes (.frameReceive p f) s (countFields ++ [.GRN_DROPPED, .FRY_ERR, .FRY_M_ERR, .BQL_P_REPLAY_USED, .BQL_L_TX_ACKED,
        .SND_S_HELD, .SND_S_LOST]) [.out, .freeCtr, .lines, .dir, .bql, .snd, .fry] fun t =>
      t.get .BQL_L_TX_ACKED l = ((takeAck l f.ack).run s.mach).get .BQL_L_TX_ACKED l ∧ t.bql = ((takeAck l f.ack).run s.mach).bql := by
  have hrun := frameReceive_run_control h hc
  rw [ha] at hrun
  refine completes_as rfl hrun (K := places (countFields ++ [.GRN_DROPPED, .FRY_ERR, .FRY_M_ERR, .BQL_P_REPLAY_USED, .BQL_L_TX_ACKED,
      .SND_S_HELD, .SND_S_LOST]) [.out, .freeCtr, .lines, .dir, .bql, .snd, .fry])
    ⟨within_when ((takeAck_within _ _).mono (by rfl)), (event_within _ _ _ _).mono (by rfl),
      (event_within _ _ _ _).mono (by rfl)⟩ (inside_refl _) ?_
  rw [Act.run_seq, Act.run_seq, Act.run_when, if_pos rfl, event_bql, event_bql, event_get _ _ _ _ _ (by decide),
    event_get _ _ _ _ _ (by decide)]
  exact ⟨rfl, rfl⟩

theorem completes_nakUnsent {s : State} {l n reason : Nat} (hs : s.mach.sled = .dx32) (hen : s.mach.get .BQL_L_EN l = 1)
    (hst : s.mach.get .BQL_L_STATE l = blUp ∨ s.mach.get .BQL_L_STATE l = blHeld) (hn : seqBefore n (s.mach.get .BQL_L_TX_SEQ l) = false) :
    Completes (.nak l n reason) s (detectFields ++ [.DIR_PROTO_ERR, .BQL_L_NAKS_RECV]) [.out, .lines, .host, .bkw, .lhl] fun t =>
      t.get .BQL_L_NAKS_RECV l = (s.mach.get .BQL_L_NAKS_RECV l + 1) % 2 ^ 32 ∧
      t.get .DIR_PROTO_ERR 0 = (s.mach.get .DIR_PROTO_ERR 0 + 1) % 2 ^ 32 ∧ Mach.Others .BQL_L_NAKS_RECV l s.mach t := by
  have hproto (i : Nat) (a : Mach) : ((protoErr (.peer (l % 8))).run a).get .BQL_L_NAKS_RECV i = a.get .BQL_L_NAKS_RECV i :=
    (protoErr_within _).get _ _ _ (by rfl) (by rfl)
  refine completes_as rfl (takeNak_run_unsent hs hen hst hn)
    (K := places (detectFields ++ [.DIR_PROTO_ERR, .BQL_L_NAKS_RECV]) [.out, .lines, .host, .bkw, .lhl])
    ⟨within_inc (by rfl), (protoErr_within _).mono (by rfl)⟩ (inside_refl _) ?_
  rw [Act.run_seq]
  refine ⟨?_, ?_, fun j hj => ?_⟩
  · rw [hproto, Mach.get_inc]
    rfl
  · rw [protoErr_get, Mach.get_inc_other (by decide)]
  · rw [hproto, Mach.others_inc _ _ _ _ j hj]

/-- Settles O29: a packet that is sent, a frame by the checks that it passes, an acknowledgement or NAK by its number, and the timers. -/
theorem packetsAndReplay : Obligations.PacketsAndReplay := by
  unfold Obligations.PacketsAndReplay
  refine ⟨?_, ?_, ?_, ?_, ?_, ?_, ?_, ?_, ?_, ?_, ?_, ?_, ?_, ?_, ?_, ?_, ?_, ?_, ?_, ?_, ?_, ?_, ?_, ?_, ?_, ?_, ?_, ?_, ?_, ?_, ?_, ?_⟩
  case refine_1 =>
    exact fun s l cls prio n mtu carry budget queue q k hs hst hcls hmtu hcarry hbudget hqueue hq hk hlen hroom =>
      completes_packetSend hs hst hcls hmtu hcarry hbudget hqueue hq hk hlen hroom
  case refine_2 =>
    exact fun s l prio n hb hc => completes_as (a := packetSend l 0 prio n) (b := .skip) rfl (packetSend_run_no_budget prio n hb hc)
      (within_skip (K := 0)) (by rfl) rfl
  case refine_3 =>
    exact fun s p f hs hp hd h => completes_frameCounted ((frameReceive_run hs hp hd).trans (by rw [frameAtPort_drop h]))
  case refine_4 =>
    intro s p f h1 h2 h
    refine completes_frameIdle ?_
    rw [frameReceive_run_read, frameAtPort_foreign h1 h2 h, Act.run_when, Act.run_skip, ite_self]
  case refine_5 =>
    exact fun s p l f hs hp hd h1 h2 hmac hl h => completes_frameCounted
      ((frameReceive_run hs hp hd).trans (by rw [frameAtPort_link h1 h2 hmac hl, frameOnLink_icv h]))
  case refine_6 =>
    exact fun s p l f hs hp hd h1 h2 hmac hl hicv hsa het => completes_frameIdle
      ((frameReceive_run hs hp hd).trans (by rw [frameAtPort_link h1 h2 hmac hl, frameOnLink_ethertype hicv hsa het, Act.run_skip]))
  case refine_7 =>
    exact fun s p l f hs hp hd h1 h2 hmac hl hicv hsa het hb => completes_frameCounted
      ((frameReceive_run hs hp hd).trans (by rw [frameAtPort_link h1 h2 hmac hl, frameOnLink_badHeader hicv hsa het hb]))
  case refine_8 =>
    intro s p l f h hc ha
    have hrun := frameReceive_run_control h hc
    rw [ha] at hrun
    exact completes_as rfl hrun (K := places countFields [])
      ⟨within_skip, (event_within _ _ _ _).mono (by rfl), (event_within _ _ _ _).mono (by rfl)⟩ (inside_refl _) trivial
  case refine_9 => exact fun s p l f h hc ha hst => completes_frameIdle (frameReceive_run_idle h hc ha hst)
  case refine_10 =>
    exact fun s p l f h hc ha hst he hf => completes_as rfl ((frameReceive_run_packet h hc ha hst).trans (landing_run_land he hf))
      (land_within l f) (by rfl) ⟨rfl, (land_get l l f _).trans (if_pos rfl), fun j hj => (land_get l j f _).trans (if_neg hj)⟩
  case refine_11 => exact fun s p l f h hc ha hst he hf hl => completes_landFull h hc ha hst he hf hl
  case refine_12 =>
    exact fun s p l f h hc ha hst he hf hl => completes_frameIdle
      ((frameReceive_run_packet h hc ha hst).trans (landing_run_full_again he hf hl))
  case refine_13 => exact fun s p l f h hc ha hst hb he ho => completes_gap h hc ha hst hb he ho
  case refine_14 => exact fun s p l f h hc ha hst hb he ho => completes_gapAgain h hc ha hst hb he ho
  case refine_15 => exact fun s p l f h hc ha hst hb he hack => completes_duplicate h hc ha hst hb he hack
  case refine_16 => exact fun s p l f h hc ha hst hb he hno hat => completes_duplicateAcked h hc ha hst hb he hno hat
  case refine_17 => exact fun s p l f h hc ha => completes_controlAck h hc ha
  case refine_18 =>
    rintro s l n c (rfl | rfl) hs hen hst ha hn
    · exact completes_ackTaken rfl hs hen hst ha hn
    · exact completes_ackTaken rfl hs hen hst ha hn
  case refine_19 =>
    exact fun s l n h =>
      ⟨completes_as (a := takeAck l n) (b := .skip) rfl (takeAck_run_skip h) (within_skip (K := 0)) (by rfl) rfl,
        completes_as (a := takeAck l n) (b := .skip) rfl (takeAck_run_skip h) (within_skip (K := 0)) (by rfl) rfl⟩
  case refine_20 => exact fun s l n reason hs hen hst hn => completes_nakUnsent hs hen hst hn
  case refine_21 =>
    exact fun s l n reason hs hen hst hn ha => completes_as rfl (takeNak_run_freed hs hen hst hn ha)
      (within_inc (K := places [.BQL_L_NAKS_RECV] []) (by rfl)) (inside_refl _) ⟨Mach.get_inc .., Mach.others_inc _ _ _ _⟩
  case refine_22 => exact fun s l n reason k ks hs hen hst hn ha hks hplain => completes_nakReplay hs hen hst hn ha hks hplain
  case refine_23 => exact fun s l n reason hs hen hst hn ha => completes_nakHeld hs hen hst hn ha
  case refine_24 =>
    exact fun s l hst => completes_as rfl (keepaliveTimer_run hst) (sendCtl_places _ _ _) (inside_refl _) (sendCtl_out ..)
  case refine_25 =>
    exact fun s l hst => completes_as (a := keepaliveTimer l) (b := .skip) rfl (keepaliveTimer_run_skip hst) (within_skip (K := 0))
      (by rfl) rfl
  case refine_26 =>
    exact fun s l hst hl => completes_as rfl (ackTimer_run hst hl) (sendCtl_places _ _ _) (inside_refl _)
      ⟨sendCtl_out .., congrArg BqlLink.landed (sendCtl_blink l 2 [] s.mach)⟩
  case refine_27 =>
    exact fun s l h => completes_as (a := ackTimer l) (b := .skip) rfl (ackTimer_run_skip h) (within_skip (K := 0)) (by rfl) rfl
  case refine_28 =>
    exact fun s l hst hf => completes_as rfl (nakRepeat_run_full hst hf) (sendNak_places l 1) (inside_refl _)
      ⟨sendNak_count .., sendNak_out ..⟩
  case refine_29 =>
    intro s l hst hf ho hl
    refine completes_as rfl (nakRepeat_run_gap hst hf ho hl) (K := places (countFields ++ [.BQL_L_NAKS_SENT]) [.out, .bql])
      ⟨(sendNak_places l 0).mono (by rfl), within_bql (by rfl)⟩ (inside_refl _) ?_
    rw [Act.run_seq, blink_get, sendNak_count, blink_self, blink_out, sendNak_out]
    exact ⟨rfl, rfl, rfl⟩
  case refine_30 =>
    exact fun s l h => completes_as (a := nakRepeat l) (b := .skip) rfl (nakRepeat_run_skip h) (within_skip (K := 0)) (by rfl) rfl
  case refine_31 => exact fun s l hst hr => completes_replayTimeout hst hr
  case refine_32 =>
    exact fun s l h => completes_as (a := replayTimeout l) (b := .skip) rfl (replayTimeout_run_skip h) (within_skip (K := 0))
      (by rfl) rfl

end Sys2Proof.Machine
end

section
/-!
PROOF. O30, the HELLO exchange (R269, R270, R279, R280).
-/

namespace Sys2Proof.Machine

/-! ### The log behind an event -/

/-- The log once an event has reached it, or waits while it is being cleared. -/
def LhlSt.noted (l : LhlSt) (clearing : Bool) (e : LhEvent) : LhlSt :=
  if clearing then (if l.queue.length < 256 then { l with queue := l.queue ++ [e] } else { l with dropped := l.dropped + 1 })
  else match l.recs.getLast? with
    | some r =>
      if r.repeats? e then { l with recs := mapLast (·.again e) l.recs }
      else if l.recs.length < lhSlots then { l with recs := l.recs ++ [e.toRec] } else l
    | none => { l with recs := l.recs ++ [e.toRec] }

theorem lhAppend_lhl (r : LhRec) (m : Mach) : ((lhAppend r).run m).lhl = { m.lhl with recs := m.lhl.recs ++ [r] } := by
  have hfull (c : Bool) : (Act.when c (.set .LHL_FULL 0 1)).Within (places [.LHL_FULL] []) := within_when (within_set (by rfl))
  rw [lhAppend, Act.run_read, Act.run_all_cons, Act.run_all_cons, Act.run_all_one, (hfull _).lhl _ (by rfl)]
  rfl

theorem lhEvent_lhl (e : LhEvent) (m : Mach) : ((lhEvent e).run m).lhl = m.lhl.noted (m.flag .LHL_CLEARING) e := by
  rw [lhEvent, Act.run_read, LhlSt.noted]
  split
  · split <;> rfl
  · rw [lhTake, Act.run_read]
    cases m.lhl.recs.getLast? with
    | none => exact lhAppend_lhl ..
    | some r =>
      dsimp only
      split
      · rfl
      · split
        · exact lhAppend_lhl ..
        · rfl

/-- What an event leaves of the log depends on the log, the time and whether it is being cleared. -/
theorem lhLog_lhl_congr {a b : Mach} (hl : a.lhl = b.lhl) (hnow : a.now = b.now) (hc : a.get .LHL_CLEARING 0 = b.get .LHL_CLEARING 0)
    (source code key data : Nat) : ((lhLog source code key data).run a).lhl = ((lhLog source code key data).run b).lhl := by
  rw [lhLog, Act.run_read, Act.run_read, lhEvent_lhl, lhEvent_lhl, hl, hnow, Mach.flag, Mach.flag, hc]

/-! ### Exchanges that leave every link slot -/

theorem svcSend_keepsLinks (peer code line arg : Nat) (body : List Byte) : (svcSend peer code line arg body).KeepsLinks :=
  keepsLinks_newId fun _ => keepsLinks_read fun _ => keepsLinks_pair ⟨fun _ => rfl⟩ (keepsLinks_send ..)

theorem sendJoin_keepsLinks (r : Nat) : (sendJoin r).KeepsLinks :=
  keepsLinks_read fun _ => keepsLinks_when (svcSend_keepsLinks ..)

theorem pairUp_keepsLinks (r : Nat) : (pairUp r).KeepsLinks :=
  keepsLinks_read fun _ => keepsLinks_each fun _ => keepsLinks_read fun _ => svcSend_keepsLinks ..

theorem returned_keepsLinks (key : Nat × Nat) : (returned key).KeepsLinks :=
  keepsLinks_within (returned_within key) (by rfl)

/-! ### The settled mode -/

/-- Fields of a link that a session settles. -/
def sessionFields : List Fld :=
  [.BQL_L_STATE, .BQL_L_SESSION, .BQL_L_VERSION, .BQL_L_MTU, .BQL_L_RATE, .BQL_L_FEATURES, .BQL_L_TX_SEQ, .BQL_L_TX_ACKED,
   .BQL_L_RX_EXPECT, .BQL_L_PEER_DLV, .BQL_L_PEER_DLV_VALID, .BQL_L_FLUSHES]

/-- A slot that has learned its budget. -/
def budgeted (n : Nat) (b : BqlLink) : BqlLink := { b with budget := some n }

theorem settleMode_run (l : Nat) (h : Hello) (m : Mach) : (settleMode l h).run m = (Act.blink l (budgeted h.reqBudget)).run
    ((Act.set .BQL_L_FEATURES l (h.features &&& ownFeatures)).run ((Act.set .BQL_L_RATE l (min h.rateMax (m.modeRate (l / 8)))).run
      ((Act.set .BQL_L_MTU l (min h.mtuMax 2)).run ((Act.set .BQL_L_VERSION l (min h.verMax 1)).run m)))) := rfl

/-- Fields that the settled mode is. -/
def modeFields : List Fld := [.BQL_L_VERSION, .BQL_L_MTU, .BQL_L_RATE, .BQL_L_FEATURES]

theorem settleMode_keeps {f : Fld} (hf : f ∉ modeFields) (l i : Nat) (h : Hello) (m : Mach) : ((settleMode l h).run m).get f i = m.get f i := by
  simp only [modeFields, List.mem_cons, List.not_mem_nil, or_false, not_or] at hf
  obtain ⟨h1, h2, h3, h4⟩ := hf
  rw [settleMode_run, blink_get, Mach.get_set_other h4, Mach.get_set_other h3, Mach.get_set_other h2, Mach.get_set_other h1]

theorem modeRate_le (m : Mach) (p : Nat) : m.modeRate p ≤ 2 := Nat.sub_le ..

/-- The fields of the mode that a HELLO settles, from a sled `a`. -/
def Mach.ModeSettled (l : Nat) (h : Hello) (a b : Mach) : Prop :=
  b.get .BQL_L_VERSION l = min h.verMax 1 ∧ b.get .BQL_L_MTU l = min h.mtuMax 2 ∧
  b.get .BQL_L_RATE l = min h.rateMax (a.modeRate (l / 8)) ∧ b.get .BQL_L_FEATURES l = h.features &&& 0xF

theorem settleMode_settled (l : Nat) (h : Hello) (m : Mach) : Mach.ModeSettled l h m ((settleMode l h).run m) := by
  have hver : min h.verMax 1 < 2 ^ 8 := Nat.lt_of_le_of_lt (Nat.min_le_right ..) (by decide)
  have hmtu : min h.mtuMax 2 < 2 ^ 2 := Nat.lt_of_le_of_lt (Nat.min_le_right ..) (by decide)
  have hrate : min h.rateMax (m.modeRate (l / 8)) < 2 ^ 2 :=
    Nat.lt_of_le_of_lt ((Nat.min_le_right ..).trans (modeRate_le ..)) (by decide)
  have hfeat : h.features &&& ownFeatures < 2 ^ 16 := Nat.lt_of_le_of_lt Nat.and_le_right (by decide)
  rw [settleMode_run]
  refine ⟨?_, ?_, ?_, ?_⟩ <;> rw [blink_get]
  · rw [Mach.get_set_other (by decide), Mach.get_set_other (by decide), Mach.get_set_other (by decide), Mach.get_set _ _ _ _ hver]
  · rw [Mach.get_set_other (by decide), Mach.get_set_other (by decide), Mach.get_set _ _ _ _ hmtu]
  · rw [Mach.get_set_other (by decide), Mach.get_set _ _ _ _ hrate]
  · exact Mach.get_set _ _ _ _ hfeat

theorem settleMode_blink (l : Nat) (h : Hello) (m : Mach) : ((settleMode l h).run m).blink l = budgeted h.reqBudget (m.blink l) := by
  rw [settleMode_run, blink_self]
  rfl

/-! ### A new session -/

/-- A slot as a session begins. -/
def sessionBegun (b : BqlLink) : BqlLink :=
  { b with flushed := 0, landed := 0, ackNo := none, nakOpen := false, later := false, landFull := false, cont := [], reqs := [] }

/-- The session's number, its numbers of packets, and Up. -/
def beginSession (l ses : Nat) : Act :=
  .all [.set .BQL_L_SESSION l ses, .set .BQL_L_TX_SEQ l 0, .set .BQL_L_TX_ACKED l 0, .set .BQL_L_RX_EXPECT l 0,
    .blink l sessionBegun, .set .BQL_L_STATE l blUp]

theorem newSession_run (l : Nat) (h : Hello) (m : Mach) : (newSession l h).run m = (sendJoin (l % 8)).run ((returned (0x04, l)).run
    ((beginSession l (if m.get .ID_IDENT < h.ident then (m.blink l).nonce else h.nonce)).run ((peerDelivered l h).run
      ((settleMode l h).run m)))) := by
  rw [newSession, Act.run_read, beginSession]
  simp only [Act.run_all_cons, Act.run_all_one]
  rfl

theorem peerDelivered_run (l : Nat) (h : Hello) (m : Mach) : (peerDelivered l h).run m =
    if (m.blink l).flushed ≠ 0 ∧ h.oldSession = (m.blink l).flushed then
      (lhLog (linkSrc l 1) 0x0041 l ((m.blink l).flushed + 2 ^ 32 * h.oldExpect + 2 ^ 64 * m.get .BQL_L_LOST_END l)).run
        ((Act.set .BQL_L_PEER_DLV_VALID l 1).run ((Act.set .BQL_L_PEER_DLV l h.oldExpect).run m))
    else m := by
  rw [peerDelivered, Act.run_read, Act.run_when]
  refine if_congr ?_ rfl rfl
  rw [Bool.and_eq_true, bne_iff_ne, beq_iff_eq]

theorem peerDelivered_get (l : Nat) (h : Hello) (m : Mach) :
    ((m.blink l).flushed ≠ 0 → h.oldSession = (m.blink l).flushed →
      ((peerDelivered l h).run m).get .BQL_L_PEER_DLV l = h.oldExpect % 2 ^ 32 ∧
      ((peerDelivered l h).run m).get .BQL_L_PEER_DLV_VALID l = 1) ∧
    ((m.blink l).flushed = 0 ∨ h.oldSession ≠ (m.blink l).flushed →
      ((peerDelivered l h).run m).get .BQL_L_PEER_DLV l = m.get .BQL_L_PEER_DLV l ∧
      ((peerDelivered l h).run m).get .BQL_L_PEER_DLV_VALID l = m.get .BQL_L_PEER_DLV_VALID l) := by
  rw [peerDelivered_run]
  refine ⟨fun h1 h2 => ?_, fun hno => ?_⟩
  · rw [if_pos ⟨h1, h2⟩, (lhLog_within _ _ _ _ _).get _ _ _ (by rfl) (by rfl), Mach.get_set_other (by decide),
      Mach.get_set_mod, (lhLog_within _ _ _ _ _).get _ _ _ (by rfl) (by rfl), Mach.get_set_mod]
    exact ⟨rfl, rfl⟩
  · rw [if_neg fun ⟨h1, h2⟩ => hno.elim h1 fun e => e h2]
    exact ⟨rfl, rfl⟩

theorem beginSession_get (l ses : Nat) (m : Mach) :
    (∀ i, ((beginSession l ses).run m).get .BQL_L_STATE i = if i = l then blUp else m.get .BQL_L_STATE i) ∧
    (∀ i, ((beginSession l ses).run m).get .BQL_L_SESSION i = if i = l then ses % 2 ^ 32 else m.get .BQL_L_SESSION i) ∧
    (∀ i, ((beginSession l ses).run m).get .BQL_L_RX_EXPECT i = if i = l then 0 else m.get .BQL_L_RX_EXPECT i) ∧
    ((beginSession l ses).run m).get .BQL_L_TX_SEQ l = 0 ∧ ((beginSession l ses).run m).get .BQL_L_TX_ACKED l = 0 := by
  simp only [beginSession, Act.run_all_cons, Act.run_all_one]
  refine ⟨fun i => ?_, fun i => ?_, fun i => ?_, ?_, ?_⟩
  · rw [Mach.get_set_ite, blink_get, Mach.get_set_other (by decide), Mach.get_set_other (by decide), Mach.get_set_other (by decide),
      Mach.get_set_other (by decide)]
    simp only [true_and]
    rfl
  · rw [Mach.get_set_other (by decide), blink_get, Mach.get_set_other (by decide), Mach.get_set_other (by decide),
      Mach.get_set_other (by decide), Mach.get_set_ite]
    simp only [true_and]
    rfl
  · rw [Mach.get_set_other (by decide), blink_get, Mach.get_set_ite, Mach.get_set_other (by decide), Mach.get_set_other (by decide),
      Mach.get_set_other (by decide), Nat.zero_mod]
    simp only [true_and]
  · rw [Mach.get_set_other (by decide), blink_get, Mach.get_set_other (by decide), Mach.get_set_other (by decide), Mach.get_set_mod,
      Nat.zero_mod]
  · rw [Mach.get_set_other (by decide), blink_get, Mach.get_set_other (by decide), Mach.get_set_mod, Nat.zero_mod]

theorem beginSession_blink (l ses : Nat) (m : Mach) : ((beginSession l ses).run m).blink l = sessionBegun (m.blink l) := by
  have hset (f : Fld) (v : Nat) (a : Mach) : ((Act.set f l v).run a).blink l = a.blink l := rfl
  simp only [beginSession, Act.run_all_cons, Act.run_all_one]
  rw [hset, blink_self, hset, hset, hset, hset]

theorem beginSession_within (l ses : Nat) : (beginSession l ses).Within
    (places [.BQL_L_STATE, .BQL_L_SESSION, .BQL_L_TX_SEQ, .BQL_L_TX_ACKED, .BQL_L_RX_EXPECT] [.bql]) :=
  ⟨within_set (by rfl), within_set (by rfl), within_set (by rfl), within_set (by rfl),
    within_bql (by rfl), within_set (by rfl)⟩

/-- A new session on the link `l`, from a sled `a` to `b` (R270). -/
structure Mach.NewSession (l : Nat) (h : Hello) (a b : Mach) : Prop where
  states : ∀ i, b.get .BQL_L_STATE i = if i = l then blUp else a.get .BQL_L_STATE i
  sessions : ∀ i, b.get .BQL_L_SESSION i =
    if i = l then (if a.get .ID_IDENT < h.ident then (a.blink l).nonce else h.nonce) % 2 ^ 32 else a.get .BQL_L_SESSION i
  expects : ∀ i, b.get .BQL_L_RX_EXPECT i = if i = l then 0 else a.get .BQL_L_RX_EXPECT i
  next : b.get .BQL_L_TX_SEQ l = 0
  acked : b.get .BQL_L_TX_ACKED l = 0
  mode : Mach.ModeSettled l h a b
  budget : (b.blink l).budget = some h.reqBudget
  delivered : (a.blink l).flushed ≠ 0 → h.oldSession = (a.blink l).flushed →
    b.get .BQL_L_PEER_DLV l = h.oldExpect % 2 ^ 32 ∧ b.get .BQL_L_PEER_DLV_VALID l = 1
  undelivered : (a.blink l).flushed = 0 ∨ h.oldSession ≠ (a.blink l).flushed →
    b.get .BQL_L_PEER_DLV l = a.get .BQL_L_PEER_DLV l ∧ b.get .BQL_L_PEER_DLV_VALID l = a.get .BQL_L_PEER_DLV_VALID l

theorem newSession_begun (l : Nat) (h : Hello) (m : Mach) : Mach.NewSession l h m ((newSession l h).run m) := by
  have hjoin {f : Fld} (hf : f ∈ sessionFields) (i : Nat) (a : Mach) :
      ((sendJoin (l % 8)).run ((returned (0x04, l)).run a)).get f i = a.get f i := by
    rw [(sendJoin_within _).get_of_mem (l := sessionFields) (by rfl) (by rfl) hf,
      (returned_within _).get_of_mem (l := sessionFields) (by rfl) (by rfl) hf]
  have hmode {f : Fld} (hf : f ∈ modeFields) (ses i : Nat) (a : Mach) :
      ((beginSession l ses).run ((peerDelivered l h).run a)).get f i = a.get f i := by
    rw [(beginSession_within _ _).get_of_mem (l := modeFields) (by rfl) (by rfl) hf,
      (peerDelivered_within _ _).get_of_mem (l := modeFields) (by rfl) (by rfl) hf]
  have hdlv {f : Fld} (hf : f ∈ [Fld.BQL_L_STATE, .BQL_L_SESSION, .BQL_L_RX_EXPECT]) (i : Nat) :
      ((peerDelivered l h).run ((settleMode l h).run m)).get f i = m.get f i := by
    rw [(peerDelivered_within _ _).get_of_mem (l := [.BQL_L_STATE, .BQL_L_SESSION, .BQL_L_RX_EXPECT]) (by rfl) (by rfl) hf]
    refine settleMode_keeps ?_ ..
    simp only [List.mem_cons, List.not_mem_nil, or_false] at hf
    rcases hf with rfl | rfl | rfl <;> decide
  have hbegin {f : Fld} (hf : f ∈ [Fld.BQL_L_PEER_DLV, .BQL_L_PEER_DLV_VALID]) (ses i : Nat) (a : Mach) :
      ((beginSession l ses).run a).get f i = a.get f i :=
    (beginSession_within _ _).get_of_mem (l := [.BQL_L_PEER_DLV, .BQL_L_PEER_DLV_VALID]) (by rfl) (by rfl) hf i a
  obtain ⟨hstate, hses, hexp, hseq, hack⟩ := beginSession_get l (if m.get .ID_IDENT < h.ident then (m.blink l).nonce else h.nonce)
    ((peerDelivered l h).run ((settleMode l h).run m))
  obtain ⟨hver, hmtu, hrate, hfeat⟩ := settleMode_settled l h m
  obtain ⟨hyes, hno⟩ := peerDelivered_get l h ((settleMode l h).run m)
  have hflushed : (((settleMode l h).run m).blink l).flushed = (m.blink l).flushed := by rw [settleMode_blink, budgeted]
  rw [newSession_run]
  refine ⟨fun i => ?_, fun i => ?_, fun i => ?_, ?_, ?_, ⟨?_, ?_, ?_, ?_⟩, ?_, fun h1 h2 => ?_, fun h1 => ?_⟩
  · rw [hjoin (by decide), hstate, hdlv (by decide)]
  · rw [hjoin (by decide), hses, hdlv (by decide)]
  · rw [hjoin (by decide), hexp, hdlv (by decide)]
  · rw [hjoin (by decide), hseq]
  · rw [hjoin (by decide), hack]
  · rw [hjoin (by decide), hmode (by decide), hver]
  · rw [hjoin (by decide), hmode (by decide), hmtu]
  · rw [hjoin (by decide), hmode (by decide), hrate]
  · rw [hjoin (by decide), hmode (by decide), hfeat]
  · rw [(sendJoin_keepsLinks _).blink, (returned_keepsLinks _).blink]
    rw [beginSession_blink, (peerDelivered_within _ _).blink (by rfl), settleMode_blink]
    rfl
  · rw [hjoin (by decide), hjoin (by decide), hbegin (by decide), hbegin (by decide)]
    exact hyes (hflushed ▸ h1) (hflushed ▸ h2)
  · rw [hjoin (by decide), hjoin (by decide), hbegin (by decide), hbegin (by decide), (hno (hflushed ▸ h1)).1, (hno (hflushed ▸ h1)).2,
      settleMode_keeps (by decide), settleMode_keeps (by decide)]
    exact ⟨rfl, rfl⟩

/-! ### A session that goes on -/

theorem resumeSession_run (l : Nat) (h : Hello) (m : Mach) : (resumeSession l h).run m = (pairUp (l % 8)).run ((returned (0x04, l)).run
    ((replay l).run ((Act.set .BQL_L_STATE l blUp).run ((freeTo l h.oldExpect).run ((settleMode l h).run m))))) := by
  rw [resumeSession]
  simp only [Act.run_all_cons, Act.run_all_one]

/-- A session that goes on at the link `l`, from a sled `a` to `b` (R270). -/
structure Mach.Resumed (l : Nat) (h : Hello) (a b : Mach) : Prop where
  states : ∀ i, b.get .BQL_L_STATE i = if i = l then blUp else a.get .BQL_L_STATE i
  acked : b.get .BQL_L_TX_ACKED l = h.oldExpect % 2 ^ 32
  replay : (b.blink l).replay = (a.blink l).replay.filter fun k => !seqBefore k.seq h.oldExpect
  mtu : b.get .BQL_L_MTU l = min h.mtuMax 2
  budget : (b.blink l).budget = some h.reqBudget
  flushes : b.get .BQL_L_FLUSHES l = a.get .BQL_L_FLUSHES l
  sent : ∀ k, k ∈ (b.blink l).replay → .packet l k.seq k.cls k.prio (a.get .BQL_L_RX_EXPECT l) true k.msgs ∈ b.out

theorem resend_budget (l : Nat) (ks : List Pkt) (m : Mach) : (((resend l ks).run m).blink l).budget = (m.blink l).budget :=
  each_keeps (fun a => (a.blink l).budget) ks (fun k _ a => by
    rw [blink_congr (sendPkt_bql l true k a), blink_self, ackNoted]) m

theorem resumeSession_resumed (l : Nat) (h : Hello) (m : Mach) : Mach.Resumed l h m ((resumeSession l h).run m) := by
  have hend {f : Fld} (hf : f ∈ sessionFields) (i : Nat) (a : Mach) :
      ((pairUp (l % 8)).run ((returned (0x04, l)).run a)).get f i = a.get f i := by
    rw [(pairUp_within _).get_of_mem (l := sessionFields) (by rfl) (by rfl) hf,
      (returned_within _).get_of_mem (l := sessionFields) (by rfl) (by rfl) hf]
  have hslot (a : Mach) : ((pairUp (l % 8)).run ((returned (0x04, l)).run a)).blink l = a.blink l := by
    rw [(pairUp_keepsLinks _).blink, (returned_keepsLinks _).blink]
  have hset (a : Mach) : ((Act.set .BQL_L_STATE l blUp).run a).blink l = a.blink l := rfl
  have hfree {f : Fld} (hf : f ∈ [Fld.BQL_L_STATE, .BQL_L_MTU, .BQL_L_FLUSHES, .BQL_L_RX_EXPECT]) (i : Nat) (a : Mach) :
      ((freeTo l h.oldExpect).run a).get f i = a.get f i :=
    (freeTo_within _ _).get_of_mem (l := [.BQL_L_STATE, .BQL_L_MTU, .BQL_L_FLUSHES, .BQL_L_RX_EXPECT]) (by rfl) (by rfl) hf i a
  have hfreed : ((freeTo l h.oldExpect).run ((settleMode l h).run m)).blink l = freed h.oldExpect (budgeted h.reqBudget (m.blink l)) := by
    rw [freeTo_blink, blink_self, settleMode_blink]
  obtain ⟨-, hmtu, -, -⟩ := settleMode_settled l h m
  have hreplay : ((((pairUp (l % 8)).run ((returned (0x04, l)).run ((replay l).run ((Act.set .BQL_L_STATE l blUp).run
      ((freeTo l h.oldExpect).run ((settleMode l h).run m))))))).blink l).replay =
      (m.blink l).replay.filter fun k => !seqBefore k.seq h.oldExpect := by
    rw [hslot, replay_run, resend_replay, hset, hfreed, freed, budgeted]
  rw [resumeSession_run]
  refine ⟨fun i => ?_, ?_, hreplay, ?_, ?_, ?_, fun k hk => ?_⟩
  · rw [hend (by decide), replay_run, resend_get (by decide) (by decide), Mach.get_set_ite, hfree (by decide), settleMode_keeps (by decide)]
    simp only [true_and]
    rfl
  · rw [hend (by decide), replay_run, resend_get (by decide) (by decide), Mach.get_set_other (by decide), freeTo_acked, if_pos rfl]
  · rw [hend (by decide), replay_run, resend_get (by decide) (by decide), Mach.get_set_other (by decide), hfree (by decide), hmtu]
  · rw [hslot, replay_run, resend_budget, hset, hfreed]
    rfl
  · rw [hend (by decide), replay_run, resend_get (by decide) (by decide), Mach.get_set_other (by decide), hfree (by decide),
      settleMode_keeps (by decide)]
  · rw [hreplay] at hk
    obtain ⟨r1, h1⟩ := Act.run_out_append (returned (0x04, l)) ((replay l).run ((Act.set .BQL_L_STATE l blUp).run
      ((freeTo l h.oldExpect).run ((settleMode l h).run m))))
    obtain ⟨r2, h2⟩ := Act.run_out_append (pairUp (l % 8)) ((returned (0x04, l)).run ((replay l).run ((Act.set .BQL_L_STATE l blUp).run
      ((freeTo l h.oldExpect).run ((settleMode l h).run m)))))
    rw [h2, h1, replay_run, resend_out, hset, hfreed, Mach.get_set_other (by decide), hfree (by decide), settleMode_keeps (by decide)]
    exact List.mem_append_left _ (List.mem_append_left _ (List.mem_append_right _ (List.mem_map.mpr ⟨k, hk, rfl⟩)))

/-! ### The exchange as it completes -/

section Done

variable {m : Mach} {l : Nat} {h : Hello} (hp : (m.blink l).peer = some h)

include hp

theorem helloDone_run : (helloDone l).run m = (Act.when ((m.blink l).gotEcho && (m.blink l).sentEcho)
    (if m.get .BQL_L_STATE l = blGrace ∨ m.get .BQL_L_STATE l = blHeld then
      (if h.oldSession = m.get .BQL_L_SESSION l then resumeSession l h else flush l)
     else .when (m.get .BQL_L_STATE l == blHello || m.get .BQL_L_STATE l == blDown) (newSession l h))).run m := by
  rw [helloDone, Act.run_read]
  dsimp only
  rw [hp, Act.run_some?_some]

theorem helloDone_run_open (hopen : ((m.blink l).gotEcho && (m.blink l).sentEcho) = false) : (helloDone l).run m = m := by
  rw [helloDone_run hp, hopen]
  rfl

variable (hg : (m.blink l).gotEcho = true) (he : (m.blink l).sentEcho = true)

include hg he

theorem helloDone_run_new (hst : m.get .BQL_L_STATE l = blHello ∨ m.get .BQL_L_STATE l = blDown) :
    (helloDone l).run m = (newSession l h).run m := by
  rw [helloDone_run hp, hg, he]
  rcases hst with hst | hst <;> rw [hst] <;> rfl

theorem helloDone_run_resume (hst : m.get .BQL_L_STATE l = blGrace ∨ m.get .BQL_L_STATE l = blHeld)
    (hses : h.oldSession = m.get .BQL_L_SESSION l) : (helloDone l).run m = (resumeSession l h).run m := by
  rw [helloDone_run hp, hg, he, if_pos hst, if_pos hses]
  rfl

theorem helloDone_run_flush (hst : m.get .BQL_L_STATE l = blGrace ∨ m.get .BQL_L_STATE l = blHeld)
    (hses : h.oldSession ≠ m.get .BQL_L_SESSION l) : (helloDone l).run m = (flush l).run m := by
  rw [helloDone_run hp, hg, he, if_pos hst, if_neg hses]
  rfl

end Done

/-! ### A HELLO that arrives -/

/-- A slot that has taken a HELLO into the exchange; `same` says that it is of the peer's round. -/
def greeted (h : Hello) (same : Bool) (b : BqlLink) : BqlLink :=
  { b with peer := some h, gotEcho := h.echo == b.nonce && b.nonce != 0, sentEcho := b.sentEcho && same }

/-- The HELLO is of the round that the peer's last one was of. -/
def Mach.sameRound (m : Mach) (l : Nat) (h : Hello) : Bool := (m.blink l).peer.map (·.nonce) == some h.nonce

/-- What a HELLO does at a link that receives, by what it finds there. -/
def helloTaken (m : Mach) (l : Nat) (h : Hello) : Act :=
  match m.helloRefusal l h with
  | some why =>
    .all [.inc .BQL_L_HELLO_REFUSED l 1, .when (!(m.blink l).refused) (lhLog 0 0x0042 l why), .blink l fun x => { x with refused := true }]
  | none =>
    if m.get .BQL_L_STATE l = blUp then .seq (.blink l fun x => { x with peer := some h }) (flush l)
    else .seq (.blink l (greeted h (m.sameRound l h))) (.when (m.get .BQL_L_STATE l != blFlushing) (helloDone l))

theorem hello_run_read (l : Nat) (h : Hello) (m : Mach) : (hello l h).run m =
    (Act.when (m.sled == .dx32 && m.flag .BQL_L_EN l && m.flag .BQL_P_POWERED (l / 8) && !m.portDead (l / 8))
      (.seq (.set .BQL_L_PEER_IDENT l h.ident) (helloTaken m l h))).run m := rfl

theorem hello_run_deaf {m : Mach} {l : Nat} (h : Hello)
    (hno : m.sled ≠ .dx32 ∨ m.get .BQL_L_EN l ≠ 1 ∨ m.get .BQL_P_POWERED (l / 8) ≠ 1) : (hello l h).run m = m := by
  have hcond : (m.sled == .dx32 && m.flag .BQL_L_EN l && m.flag .BQL_P_POWERED (l / 8) && !m.portDead (l / 8)) = false := by
    rcases hno with hno | hno | hno
    · rw [beq_eq_false_iff_ne.mpr hno, Bool.false_and, Bool.false_and, Bool.false_and]
    · rw [Mach.flag, beq_eq_false_iff_ne.mpr hno, Bool.and_false, Bool.false_and, Bool.false_and]
    · rw [Mach.flag, Mach.flag, beq_eq_false_iff_ne.mpr hno, Bool.and_false, Bool.false_and]
  rw [hello_run_read, Act.run_when, hcond, if_neg (by decide)]

theorem hello_run_heard {m : Mach} {l : Nat} (h : Hello) (hs : m.sled = .dx32) (hen : m.get .BQL_L_EN l = 1)
    (hp : m.get .BQL_P_POWERED (l / 8) = 1) (hd : m.portDead (l / 8) = false) :
    (hello l h).run m = (helloTaken m l h).run ((Act.set .BQL_L_PEER_IDENT l h.ident).run m) := by
  rw [hello_run_read, Act.run_when, hs, Mach.flag, Mach.flag, hen, hp, hd, if_pos (by decide), Act.run_seq]

section Greets

variable {m : Mach} {l : Nat} {h : Hello} (hg : m.Greets l h)

include hg

theorem hello_run_up (hst : m.get .BQL_L_STATE l = blUp) : (hello l h).run m =
    (Act.all [.set .BQL_L_PEER_IDENT l h.ident, .blink l fun x => { x with peer := some h }, flush l]).run m := by
  obtain ⟨hs, hen, hp, hd, hr⟩ := hg
  rw [hello_run_heard h hs hen hp hd, helloTaken, hr]
  dsimp only
  rw [if_pos hst, Act.run_seq, Act.run_all_cons, Act.run_all_cons, Act.run_all_one]

theorem hello_run_greeted (hst : m.get .BQL_L_STATE l ≠ blUp) : (hello l h).run m =
    (Act.all [.set .BQL_L_PEER_IDENT l h.ident, .blink l (greeted h (m.sameRound l h)),
      .when (m.get .BQL_L_STATE l != blFlushing) (helloDone l)]).run m := by
  obtain ⟨hs, hen, hp, hd, hr⟩ := hg
  rw [hello_run_heard h hs hen hp hd, helloTaken, hr]
  dsimp only
  rw [if_neg hst, Act.run_seq, Act.run_all_cons, Act.run_all_cons, Act.run_all_one]

end Greets

theorem sameRound_iff (m : Mach) (l : Nat) (h : Hello) : m.sameRound l h = true ↔ (m.blink l).peer.map (·.nonce) = some h.nonce :=
  beq_iff_eq

theorem greeted_gotEcho (h : Hello) (same : Bool) (b : BqlLink) : (greeted h same b).gotEcho = true ↔ h.echo = b.nonce ∧ b.nonce ≠ 0 := by
  rw [greeted, Bool.and_eq_true, beq_iff_eq, bne_iff_ne]

theorem greeted_sentEcho (h : Hello) (m : Mach) (l : Nat) : (greeted h (m.sameRound l h) (m.blink l)).sentEcho = true ↔
    (m.blink l).sentEcho = true ∧ (m.blink l).peer.map (·.nonce) = some h.nonce := by
  rw [greeted, Bool.and_eq_true, sameRound_iff]

/-- A HELLO that is taken completes the exchange exactly as `Completing` says. -/
theorem completing_iff (h : Hello) (m : Mach) (l : Nat) : m.Completing l h ↔
    (greeted h (m.sameRound l h) (m.blink l)).gotEcho = true ∧ (greeted h (m.sameRound l h) (m.blink l)).sentEcho = true := by
  rw [greeted_gotEcho, greeted_sentEcho, Mach.Completing]
  exact ⟨fun ⟨h1, h2, h3, h4⟩ => ⟨⟨h1, h2⟩, h3, h4⟩, fun ⟨⟨h1, h2⟩, h3, h4⟩ => ⟨h1, h2, h3, h4⟩⟩

/-- The sled when a HELLO has been taken into the exchange of the link `l`. -/
def Mach.greets (m : Mach) (l : Nat) (h : Hello) : Mach :=
  (Act.blink l (greeted h (m.sameRound l h))).run ((Act.set .BQL_L_PEER_IDENT l h.ident).run m)

theorem greets_get {f : Fld} (hf : f ≠ .BQL_L_PEER_IDENT) (m : Mach) (l : Nat) (h : Hello) (i : Nat) : (m.greets l h).get f i = m.get f i := by
  rw [Mach.greets, blink_get, Mach.get_set_other hf]

theorem greets_blink (m : Mach) (l : Nat) (h : Hello) : (m.greets l h).blink l = greeted h (m.sameRound l h) (m.blink l) := by
  rw [Mach.greets, blink_self]
  rfl

theorem greets_modeRate (m : Mach) (l : Nat) (h : Hello) (p : Nat) : (m.greets l h).modeRate p = m.modeRate p := rfl

theorem greets_ident (m : Mach) (l : Nat) (h : Hello) : (m.greets l h).get .BQL_L_PEER_IDENT l = h.ident % 2 ^ 64 := by
  rw [Mach.greets, blink_get, Mach.get_set_mod]
  rfl

/-! ### What a HELLO comes to -/

theorem completes_helloRefused {s : State} {l why : Nat} {h : Hello} (hs : s.mach.sled = .dx32) (hen : s.mach.get .BQL_L_EN l = 1)
    (hp : s.mach.get .BQL_P_POWERED (l / 8) = 1) (hd : s.mach.portDead (l / 8) = false) (hr : s.mach.helloRefusal l h = some why) :
    Completes (.hello l h) s (recordFields ++ [.BQL_L_PEER_IDENT, .BQL_L_HELLO_REFUSED]) [.lhl, .bql] fun t =>
      t.get .BQL_L_HELLO_REFUSED l = (s.mach.get .BQL_L_HELLO_REFUSED l + 1) % 2 ^ 16 ∧ (t.blink l).refused = true ∧
      t.get .BQL_L_PEER_IDENT l = h.ident % 2 ^ 64 ∧
      ((s.mach.blink l).refused = true → t.lhl = s.mach.lhl ∧ t.get .LHL_COUNT 0 = s.mach.get .LHL_COUNT 0) ∧
      ((s.mach.blink l).refused = false → t.lhl = ((lhLog 0 0x0042 l why).run s.mach).lhl) ∧
      Mach.Others .BQL_L_HELLO_REFUSED l s.mach t := by
  have hrun : (hello l h).run s.mach = (Act.all [.set .BQL_L_PEER_IDENT l h.ident, .inc .BQL_L_HELLO_REFUSED l 1,
      .when (!(s.mach.blink l).refused) (lhLog 0 0x0042 l why), .blink l fun x => { x with refused := true }]).run s.mach := by
    rw [hello_run_heard h hs hen hp hd, helloTaken, hr, Act.run_all_cons _ _ [_, _]]
  have hlog (a : Mach) {f : Fld} (hf : f ∈ [Fld.BQL_L_HELLO_REFUSED, .BQL_L_PEER_IDENT]) (j : Nat) :
      ((Act.when (!(s.mach.blink l).refused) (lhLog 0 0x0042 l why)).run a).get f j = a.get f j :=
    (within_when (lhLog_within _ _ _ _ _)).get_of_mem (l := [.BQL_L_HELLO_REFUSED, .BQL_L_PEER_IDENT]) (by rfl)
      (by rfl) hf j a
  refine completes_as rfl hrun (K := places (recordFields ++ [.BQL_L_PEER_IDENT, .BQL_L_HELLO_REFUSED]) [.lhl, .bql])
    ⟨within_set (by rfl), within_inc (by rfl), within_when ((lhLog_within _ _ _ _ _).mono (by rfl)),
      within_bql (by rfl)⟩ (inside_refl _) ?_
  simp only [Act.run_all_cons, Act.run_all_one]
  refine ⟨?_, ?_, ?_, fun hw => ⟨?_, ?_⟩, fun hw => ?_, fun j hj => ?_⟩
  · rw [blink_get, hlog _ (by decide), Mach.get_inc, Mach.get_set_other (by decide)]
    rfl
  · rw [blink_self]
  · rw [blink_get, hlog _ (by decide), Mach.get_inc_other (by decide), Mach.get_set_mod]
    rfl
  · rw [hw]
    rfl
  · rw [hw, blink_get, Act.run_when, if_neg (by decide), Mach.get_inc_other (by decide), Mach.get_set_other (by decide)]
  · rw [hw, Act.run_when, if_pos (by decide), (blink_within l _).lhl _ (by rfl)]
    refine lhLog_lhl_congr (b := s.mach) ?_ ?_ ?_ _ _ _ _
    · rfl
    · rw [Mach.now, Mach.get_inc_other (by decide), Mach.get_set_other (by decide), Mach.now]
    · rw [Mach.get_inc_other (by decide), Mach.get_set_other (by decide)]
  · rw [blink_get, hlog _ (by decide), Mach.others_inc _ _ _ _ j hj, Mach.get_set_other (by decide)]

section Exchange

variable {s : State} {l : Nat} {h : Hello} (hg : s.mach.Greets l h)

include hg

theorem completes_helloKept (hst : s.mach.get .BQL_L_STATE l ≠ blUp)
    (hopen : ¬s.mach.Completing l h ∨ s.mach.get .BQL_L_STATE l = blFlushing) :
    Completes (.hello l h) s [.BQL_L_PEER_IDENT] [.bql] fun t =>
      (t.blink l).peer = some h ∧ (t.blink l).replay = (s.mach.blink l).replay ∧ t.get .BQL_L_PEER_IDENT l = h.ident % 2 ^ 64 ∧
      ((t.blink l).gotEcho = true ↔ h.echo = (s.mach.blink l).nonce ∧ (s.mach.blink l).nonce ≠ 0) ∧
      ((t.blink l).sentEcho = true ↔ (s.mach.blink l).sentEcho = true ∧ (s.mach.blink l).peer.map (·.nonce) = some h.nonce) := by
  have hdone : (Act.when (s.mach.get .BQL_L_STATE l != blFlushing) (helloDone l)).run (s.mach.greets l h) = s.mach.greets l h := by
    rw [Act.run_when]
    rcases hopen with hopen | hopen
    · rw [helloDone_run_open (by rw [greets_blink, greeted]) ?_, ite_self]
      rw [completing_iff] at hopen
      rw [greets_blink, Bool.eq_false_iff, Ne, Bool.and_eq_true]
      exact hopen
    · rw [hopen, if_neg (by decide)]
  have hrun : (hello l h).run s.mach = (Act.seq (.set .BQL_L_PEER_IDENT l h.ident) (.blink l (greeted h (s.mach.sameRound l h)))).run s.mach := by
    rw [hello_run_greeted hg hst, Act.run_all_cons, Act.run_all_cons, Act.run_all_one, Act.run_seq]
    exact hdone
  refine completes_as rfl hrun (K := places [.BQL_L_PEER_IDENT] [.bql]) ⟨within_set (by rfl), within_bql (by rfl)⟩
    (inside_refl _) ?_
  change ((s.mach.greets l h).blink l).peer = _ ∧ ((s.mach.greets l h).blink l).replay = _ ∧ (s.mach.greets l h).get .BQL_L_PEER_IDENT l = _ ∧
    (((s.mach.greets l h).blink l).gotEcho = true ↔ _) ∧ (((s.mach.greets l h).blink l).sentEcho = true ↔ _)
  rw [greets_blink]
  exact ⟨rfl, rfl, greets_ident .., greeted_gotEcho .., greeted_sentEcho ..⟩

/-- A HELLO that completes the exchange goes on as the exchange does. -/
theorem hello_run_completing (hst : s.mach.get .BQL_L_STATE l ≠ blUp) (hst' : s.mach.get .BQL_L_STATE l ≠ blFlushing) :
    (hello l h).run s.mach = (helloDone l).run (s.mach.greets l h) := by
  rw [hello_run_greeted hg hst, Act.run_all_cons, Act.run_all_cons, Act.run_all_one, Act.run_when, bne_iff_ne.mpr hst', if_pos rfl]
  rfl

variable (hc : s.mach.Completing l h)

include hc

theorem completes_helloNew (hst : s.mach.get .BQL_L_STATE l = blHello ∨ s.mach.get .BQL_L_STATE l = blDown) :
    Completes (.hello l h) s (recordFields ++ [.BQL_L_STATE, .BQL_L_PEER_IDENT, .BQL_L_SESSION, .BQL_L_VERSION, .BQL_L_MTU, .BQL_L_RATE,
        .BQL_L_FEATURES, .BQL_L_TX_SEQ, .BQL_L_TX_ACKED, .BQL_L_RX_EXPECT, .BQL_L_PEER_DLV, .BQL_L_PEER_DLV_VALID])
      [.out, .lines, .bkw, .lhl, .arc, .bql] fun t => Mach.NewSession l h (s.mach.greets l h) t := by
  have hne : s.mach.get .BQL_L_STATE l ≠ blUp ∧ s.mach.get .BQL_L_STATE l ≠ blFlushing := by
    rcases hst with hst | hst <;> rw [hst] <;> decide
  obtain ⟨hgot, hsent⟩ := (completing_iff h s.mach l).mp hc
  have hrun : (hello l h).run s.mach = (Act.all [.set .BQL_L_PEER_IDENT l h.ident, .blink l (greeted h (s.mach.sameRound l h)),
      newSession l h]).run s.mach := by
    rw [hello_run_completing hg hne.1 hne.2, helloDone_run_new (h := h) (by rw [greets_blink]; rfl) (by rw [greets_blink, hgot])
      (by rw [greets_blink, hsent]) (by rw [greets_get (by decide)]; exact hst), Mach.greets, Act.run_all_cons, Act.run_all_cons,
      Act.run_all_one]
  have hw : (Act.all [.set .BQL_L_PEER_IDENT l h.ident, .blink l (greeted h (s.mach.sameRound l h)), newSession l h]).Within
      (places (recordFields ++ [.BQL_L_STATE, .BQL_L_PEER_IDENT, .BQL_L_SESSION, .BQL_L_VERSION, .BQL_L_MTU, .BQL_L_RATE,
        .BQL_L_FEATURES, .BQL_L_TX_SEQ, .BQL_L_TX_ACKED, .BQL_L_RX_EXPECT, .BQL_L_PEER_DLV, .BQL_L_PEER_DLV_VALID])
      [.out, .lines, .bkw, .lhl, .arc, .bql]) :=
    ⟨within_set (by rfl), within_bql (by rfl), (newSession_within _ _).mono (by rfl)⟩
  refine completes_as rfl hrun hw (inside_refl _) ?_
  rw [Act.run_all_cons, Act.run_all_cons, Act.run_all_one]
  exact newSession_begun l h (s.mach.greets l h)

theorem completes_helloResumed (hst : s.mach.get .BQL_L_STATE l = blGrace ∨ s.mach.get .BQL_L_STATE l = blHeld)
    (hses : h.oldSession = s.mach.get .BQL_L_SESSION l) :
    Completes (.hello l h) s (recordFields ++ countFields ++ [.GRN_DROPPED, .FRY_ERR, .FRY_M_ERR, .BQL_P_REPLAY_USED, .BQL_L_STATE,
        .BQL_L_PEER_IDENT, .BQL_L_VERSION, .BQL_L_MTU, .BQL_L_RATE, .BQL_L_FEATURES, .BQL_L_TX_ACKED, .BQL_L_REPLAYS, .SND_S_HELD,
        .SND_S_LOST]) [.out, .freeCtr, .lines, .dir, .bkw, .lhl, .arc, .bql, .snd, .fry] fun t =>
      Mach.Resumed l h (s.mach.greets l h) t := by
  have hne : s.mach.get .BQL_L_STATE l ≠ blUp ∧ s.mach.get .BQL_L_STATE l ≠ blFlushing := by
    rcases hst with hst | hst <;> rw [hst] <;> decide
  obtain ⟨hgot, hsent⟩ := (completing_iff h s.mach l).mp hc
  have hrun : (hello l h).run s.mach = (Act.all [.set .BQL_L_PEER_IDENT l h.ident, .blink l (greeted h (s.mach.sameRound l h)),
      resumeSession l h]).run s.mach := by
    rw [hello_run_completing hg hne.1 hne.2, helloDone_run_resume (h := h) (by rw [greets_blink]; rfl) (by rw [greets_blink, hgot])
      (by rw [greets_blink, hsent]) (by rw [greets_get (by decide)]; exact hst) (by rw [greets_get (by decide)]; exact hses), Mach.greets,
      Act.run_all_cons, Act.run_all_cons, Act.run_all_one]
  have hw : (Act.all [.set .BQL_L_PEER_IDENT l h.ident, .blink l (greeted h (s.mach.sameRound l h)), resumeSession l h]).Within
      (places (recordFields ++ countFields ++ [.GRN_DROPPED, .FRY_ERR, .FRY_M_ERR, .BQL_P_REPLAY_USED, .BQL_L_STATE,
        .BQL_L_PEER_IDENT, .BQL_L_VERSION, .BQL_L_MTU, .BQL_L_RATE, .BQL_L_FEATURES, .BQL_L_TX_ACKED, .BQL_L_REPLAYS, .SND_S_HELD,
        .SND_S_LOST]) [.out, .freeCtr, .lines, .dir, .bkw, .lhl, .arc, .bql, .snd, .fry]) :=
    ⟨within_set (by rfl), within_bql (by rfl), (resumeSession_within _ _).mono (by rfl)⟩
  refine completes_as rfl hrun hw (inside_refl _) ?_
  rw [Act.run_all_cons, Act.run_all_cons, Act.run_all_one]
  exact resumeSession_resumed l h (s.mach.greets l h)

end Exchange

/-- A HELLO that flushes its link: one while Up, or one that names another session in Grace or Held. -/
theorem completes_helloFlushed {s : State} {l : Nat} {h : Hello} (f : BqlLink → BqlLink)
    (hrun : (hello l h).run s.mach = (Act.all [.set .BQL_L_PEER_IDENT l h.ident, .blink l f, flush l]).run s.mach) :
    Completes (.hello l h) s (lineFields ++ [.DIR_LOST_POISONED, .BQL_P_REPLAY_USED, .BQL_L_STATE, .BQL_L_PEER_IDENT, .BQL_L_FLUSHES,
        .BQL_L_LOST_FIRST, .BQL_L_LOST_END, .BQL_L_PEER_DLV_VALID, .ARC_MEMBERS, .ARC_REL_PENDING]) lossParts fun t =>
      t.get .BQL_L_STATE l = blFlushing ∧ t.get .BQL_L_FLUSHES l = (s.mach.get .BQL_L_FLUSHES l + 1) % 2 ^ 32 ∧
      t.get .BQL_L_LOST_FIRST l = s.mach.get .BQL_L_TX_ACKED l % 2 ^ 32 ∧ t.get .BQL_L_LOST_END l = s.mach.get .BQL_L_TX_SEQ l % 2 ^ 32 ∧
      t.get .BQL_L_PEER_DLV_VALID l = 0 ∧ t.get .BQL_L_PEER_IDENT l = h.ident % 2 ^ 64 ∧ Mach.Others .BQL_L_STATE l s.mach t := by
  have hw : (Act.all [.set .BQL_L_PEER_IDENT l h.ident, .blink l f, flush l]).Within (places (lineFields ++ [.DIR_LOST_POISONED,
      .BQL_P_REPLAY_USED, .BQL_L_STATE, .BQL_L_PEER_IDENT, .BQL_L_FLUSHES, .BQL_L_LOST_FIRST, .BQL_L_LOST_END, .BQL_L_PEER_DLV_VALID,
      .ARC_MEMBERS, .ARC_REL_PENDING]) lossParts) :=
    ⟨within_set (by rfl), within_bql (by rfl), (flush_within _).mono (by rfl)⟩
  refine completes_as rfl hrun hw (inside_refl _) ?_
  rw [Act.run_all_cons, Act.run_all_cons, Act.run_all_one]
  have hf := flush_flushed l ((Act.blink l f).run ((Act.set .BQL_L_PEER_IDENT l h.ident).run s.mach))
  refine ⟨hf.state, ?_, ?_, ?_, hf.unknown, ?_, fun j hj => ?_⟩
  · rw [hf.flushes, blink_get, Mach.get_set_other (by decide)]
  · rw [hf.first, blink_get, Mach.get_set_other (by decide)]
  · rw [hf.last, blink_get, Mach.get_set_other (by decide)]
  · rw [hf.kept _ (by decide), blink_get, Mach.get_set_mod]
    rfl
  · rw [hf.states j hj, blink_get, Mach.get_set_other (by decide)]

theorem hello_run_lost {s : State} {l : Nat} {h : Hello} (hg : s.mach.Greets l h) (hc : s.mach.Completing l h)
    (hses : h.oldSession ≠ s.mach.get .BQL_L_SESSION l) (hst : s.mach.get .BQL_L_STATE l = blGrace ∨ s.mach.get .BQL_L_STATE l = blHeld) :
    (hello l h).run s.mach = (Act.all [.set .BQL_L_PEER_IDENT l h.ident, .blink l (greeted h (s.mach.sameRound l h)), flush l]).run s.mach := by
  have hne : s.mach.get .BQL_L_STATE l ≠ blUp ∧ s.mach.get .BQL_L_STATE l ≠ blFlushing := by
    rcases hst with hst | hst <;> rw [hst] <;> decide
  obtain ⟨hgot, hsent⟩ := (completing_iff h s.mach l).mp hc
  rw [hello_run_completing hg hne.1 hne.2, helloDone_run_flush (h := h) (by rw [greets_blink]; rfl) (by rw [greets_blink, hgot])
    (by rw [greets_blink, hsent]) (by rw [greets_get (by decide)]; exact hst) (by rw [greets_get (by decide)]; exact hses),
    Mach.greets, Act.run_all_cons, Act.run_all_cons, Act.run_all_one]

/-! ### The timer -/

/-- A HELLO of this sled leaves, and the peer's nonce with it once it is known. -/
def helloSend (m : Mach) (l : Nat) : Act :=
  .all [.emit (.ctl l 1 (m.helloOf l)), event (.boesque (l / 8)) 0x60 4 1, event (.boesque (l / 8)) 0x60 7 1,
    .when (m.blink l).peer.isSome (.blink l fun b => { b with sentEcho := true })]

theorem helloSend_within (m : Mach) (l : Nat) : (helloSend m l).Within (places countFields [.out, .bql]) :=
  ⟨within_emit (by rfl), (event_within _ _ _ _).mono (by rfl), (event_within _ _ _ _).mono (by rfl),
    within_when (within_bql (by rfl))⟩

theorem helloTimer_run {m : Mach} {l : Nat} (hs : m.sled = .dx32) (hen : m.get .BQL_L_EN l = 1) (hp : m.get .BQL_P_POWERED (l / 8) = 1)
    (hst : m.get .BQL_L_STATE l ∈ [blDown, blHello, blHeld, blGrace]) :
    (helloTimer l).run m = (helloDone l).run ((helloSend m l).run m) := by
  have hin : [blDown, blHello, blHeld, blGrace].contains (m.get .BQL_L_STATE l) = true := List.contains_iff_mem.mpr hst
  rw [helloTimer, Act.run_read, Act.run_when, hs, Mach.flag, Mach.flag, hen, hp, hin, if_pos (by decide), helloSend]
  simp only [Act.run_all_cons, Act.run_all_one]

theorem helloTimer_run_skip {m : Mach} {l : Nat} (hst : m.get .BQL_L_STATE l = blUp ∨ m.get .BQL_L_STATE l = blFlushing) :
    (helloTimer l).run m = m := by
  have hout : [blDown, blHello, blHeld, blGrace].contains (m.get .BQL_L_STATE l) = false := by
    rcases hst with hst | hst <;> rw [hst] <;> rfl
  rw [helloTimer, Act.run_read, Act.run_when, hout, Bool.and_false, if_neg (by decide)]

section Send

variable (m : Mach) (l : Nat)

/-- A slot of which a HELLO has left. -/
def BqlLink.echoed (b : BqlLink) : BqlLink := { b with sentEcho := b.peer.isSome || b.sentEcho }

theorem helloSend_out : ((helloSend m l).run m).out = m.out ++ [.ctl l 1 (m.helloOf l)] := by
  have hslot (c : Bool) : (Act.when c (.blink l fun b => { b with sentEcho := true })).Within (places [] [.bql]) :=
    within_when (blink_within ..)
  simp only [helloSend, Act.run_all_cons, Act.run_all_one]
  rw [(hslot _).out _ (by rfl), event_out, event_out, Act.run_emit, Prim.emit_out]

theorem helloSend_get {f : Fld} (hf : f ≠ .SND_K_VALUE ∧ f ≠ .SND_SUM) (i : Nat) : ((helloSend m l).run m).get f i = m.get f i := by
  have hslot (c : Bool) (a : Mach) : ((Act.when c (.blink l fun b => { b with sentEcho := true })).run a).get f i = a.get f i := by
    rw [Act.run_when]
    split <;> rfl
  simp only [helloSend, Act.run_all_cons, Act.run_all_one]
  rw [hslot, event_get _ _ _ _ _ hf, event_get _ _ _ _ _ hf]
  rfl

theorem helloSend_counted (j : Nat) : ((event (.boesque (l / 8)) 0x60 7 1).run ((event (.boesque (l / 8)) 0x60 4 1).run
    ((Act.emit (.ctl l 1 (m.helloOf l))).run m))).blink j = m.blink j :=
  (blink_congr ((event_bql ..).trans (event_bql ..)) j).trans rfl

theorem helloSend_blink : ((helloSend m l).run m).blink l = (m.blink l).echoed := by
  simp only [helloSend, Act.run_all_cons, Act.run_all_one]
  rw [Act.run_when, BqlLink.echoed]
  by_cases hp : (m.blink l).peer.isSome = true
  · rw [if_pos hp, blink_self, helloSend_counted, hp, Bool.true_or]
  · have hno : (m.blink l).peer.isSome = false := by simpa using hp
    rw [if_neg hp, helloSend_counted, hno, Bool.false_or]

theorem helloSend_blink_other {j : Nat} (hj : j ≠ l) : ((helloSend m l).run m).blink j = m.blink j := by
  simp only [helloSend, Act.run_all_cons, Act.run_all_one]
  rw [Act.run_when]
  split
  · rw [blink_other _ _ _ hj, helloSend_counted]
  · rw [helloSend_counted]

end Send

section Timer

variable {s : State} {l : Nat} (hs : s.mach.sled = .dx32) (hen : s.mach.get .BQL_L_EN l = 1) (hp : s.mach.get .BQL_P_POWERED (l / 8) = 1)

include hs hen hp

theorem completes_helloTimerOpen (hst : s.mach.get .BQL_L_STATE l ∈ [blDown, blHello, blHeld, blGrace])
    (hopen : (s.mach.blink l).peer = none ∨ (s.mach.blink l).gotEcho = false) :
    Completes (.helloTimer l) s countFields [.out, .bql] fun t =>
      t.out = s.mach.out ++ [.ctl l 1 (s.mach.helloOf l)] ∧
      (t.blink l).sentEcho = ((s.mach.blink l).peer.isSome || (s.mach.blink l).sentEcho) ∧
      (t.blink l).nonce = (s.mach.blink l).nonce ∧ ∀ j, j ≠ l → t.blink j = s.mach.blink j := by
  have hblink := helloSend_blink s.mach l
  have hdone : (helloDone l).run ((helloSend s.mach l).run s.mach) = (helloSend s.mach l).run s.mach := by
    cases hpeer : (s.mach.blink l).peer with
    | none =>
      rw [helloDone, Act.run_read]
      dsimp only
      rw [hblink, BqlLink.echoed]
      dsimp only
      rw [hpeer, Act.run_some?_none]
    | some h =>
      have hgot : (s.mach.blink l).gotEcho = false := hopen.resolve_left (by rw [hpeer]; exact nofun)
      refine helloDone_run_open (h := h) (by rw [hblink]; exact hpeer) ?_
      rw [hblink, BqlLink.echoed]
      dsimp only
      rw [hgot, Bool.false_and]
  refine completes_as rfl ((helloTimer_run hs hen hp hst).trans hdone) (helloSend_within _ _) (inside_refl _)
    ⟨helloSend_out .., ?_, ?_, fun j hj => helloSend_blink_other _ _ hj⟩
  · rw [hblink, BqlLink.echoed]
  · rw [hblink, BqlLink.echoed]

variable {h : Hello} (hpeer : (s.mach.blink l).peer = some h) (hgot : (s.mach.blink l).gotEcho = true)

include hpeer hgot

omit hs hen hp in
/-- The timer's HELLO completes the exchange. -/
theorem helloSend_complete : (((helloSend s.mach l).run s.mach).blink l).peer = some h ∧
    (((helloSend s.mach l).run s.mach).blink l).gotEcho = true ∧ (((helloSend s.mach l).run s.mach).blink l).sentEcho = true := by
  rw [helloSend_blink, BqlLink.echoed]
  exact ⟨hpeer, hgot, by rw [hpeer]; rfl⟩

theorem completes_helloTimerNew (hst : s.mach.get .BQL_L_STATE l = blDown ∨ s.mach.get .BQL_L_STATE l = blHello) :
    Completes (.helloTimer l) s (recordFields ++ countFields ++ [.BQL_L_STATE, .BQL_L_SESSION, .BQL_L_VERSION, .BQL_L_MTU, .BQL_L_RATE,
        .BQL_L_FEATURES, .BQL_L_TX_SEQ, .BQL_L_TX_ACKED, .BQL_L_RX_EXPECT, .BQL_L_PEER_DLV, .BQL_L_PEER_DLV_VALID])
      [.out, .lines, .bkw, .lhl, .arc, .bql] fun t =>
      (∃ r, t.out = s.mach.out ++ .ctl l 1 (s.mach.helloOf l) :: r) ∧ t.get .BQL_L_STATE l = blUp ∧ t.get .BQL_L_SESSION l =
        (if s.mach.get .ID_IDENT < h.ident then (s.mach.blink l).nonce else h.nonce) % 2 ^ 32 ∧ t.get .BQL_L_TX_SEQ l = 0 ∧
      t.get .BQL_L_RX_EXPECT l = 0 ∧ (t.blink l).budget = some h.reqBudget := by
  have hin : s.mach.get .BQL_L_STATE l ∈ [blDown, blHello, blHeld, blGrace] := by
    rcases hst with hst | hst <;> rw [hst] <;> decide
  obtain ⟨h1, h2, h3⟩ := helloSend_complete hpeer hgot
  have hrun : (helloTimer l).run s.mach = (Act.seq (helloSend s.mach l) (newSession l h)).run s.mach := by
    rw [helloTimer_run hs hen hp hin, helloDone_run_new h1 h2 h3 (by rw [helloSend_get _ _ (by decide)]; exact hst.symm), Act.run_seq]
  have hw : (Act.seq (helloSend s.mach l) (newSession l h)).Within (places (recordFields ++ countFields ++ [.BQL_L_STATE, .BQL_L_SESSION,
      .BQL_L_VERSION, .BQL_L_MTU, .BQL_L_RATE, .BQL_L_FEATURES, .BQL_L_TX_SEQ, .BQL_L_TX_ACKED, .BQL_L_RX_EXPECT, .BQL_L_PEER_DLV,
      .BQL_L_PEER_DLV_VALID]) [.out, .lines, .bkw, .lhl, .arc, .bql]) :=
    ⟨(helloSend_within _ _).mono (by rfl), (newSession_within _ _).mono (by rfl)⟩
  refine completes_as rfl hrun hw (inside_refl _) ?_
  rw [Act.run_seq]
  have hnew := newSession_begun l h ((helloSend s.mach l).run s.mach)
  obtain ⟨r, hr⟩ := Act.run_out_append (newSession l h) ((helloSend s.mach l).run s.mach)
  refine ⟨⟨r, ?_⟩, ?_, ?_, hnew.next, ?_, hnew.budget⟩
  · rw [hr, helloSend_out, List.append_assoc]
    rfl
  · rw [hnew.states, if_pos rfl]
  · rw [hnew.sessions, if_pos rfl, helloSend_get _ _ (by decide), helloSend_blink, BqlLink.echoed]
  · rw [hnew.expects, if_pos rfl]

/-- What the timer's HELLO comes to in Grace or Held. -/
theorem completes_helloTimerLost (hst : s.mach.get .BQL_L_STATE l = blGrace ∨ s.mach.get .BQL_L_STATE l = blHeld) :
    Completes (.helloTimer l) s (lineFields ++ [.DIR_LOST_POISONED, .BQL_P_REPLAY_USED, .BQL_L_STATE, .BQL_L_VERSION, .BQL_L_MTU,
        .BQL_L_RATE, .BQL_L_FEATURES, .BQL_L_TX_ACKED, .BQL_L_REPLAYS, .BQL_L_FLUSHES, .BQL_L_LOST_FIRST, .BQL_L_LOST_END,
        .BQL_L_PEER_DLV_VALID, .ARC_MEMBERS, .ARC_REL_PENDING]) lossParts fun t =>
      (∃ r, t.out = s.mach.out ++ .ctl l 1 (s.mach.helloOf l) :: r) ∧
      t.get .BQL_L_STATE l = (if h.oldSession = s.mach.get .BQL_L_SESSION l then blUp else blFlushing) ∧
      t.get .BQL_L_FLUSHES l = (if h.oldSession = s.mach.get .BQL_L_SESSION l then s.mach.get .BQL_L_FLUSHES l
        else (s.mach.get .BQL_L_FLUSHES l + 1) % 2 ^ 32) := by
  have hin : s.mach.get .BQL_L_STATE l ∈ [blDown, blHello, blHeld, blGrace] := by
    rcases hst with hst | hst <;> rw [hst] <;> decide
  obtain ⟨h1, h2, h3⟩ := helloSend_complete hpeer hgot
  have hst' : ((helloSend s.mach l).run s.mach).get .BQL_L_STATE l = blGrace ∨ ((helloSend s.mach l).run s.mach).get .BQL_L_STATE l = blHeld := by
    rw [helloSend_get _ _ (by decide)]
    exact hst
  have hout (a : Act) : ∃ r, (a.run ((helloSend s.mach l).run s.mach)).out = s.mach.out ++ .ctl l 1 (s.mach.helloOf l) :: r := by
    obtain ⟨r, hr⟩ := Act.run_out_append a ((helloSend s.mach l).run s.mach)
    exact ⟨r, by rw [hr, helloSend_out, List.append_assoc]; rfl⟩
  have hw : (Act.seq (helloSend s.mach l) (if h.oldSession = s.mach.get .BQL_L_SESSION l then resumeSession l h else flush l)).Within
      (places (lineFields ++ [.DIR_LOST_POISONED, .BQL_P_REPLAY_USED, .BQL_L_STATE, .BQL_L_VERSION, .BQL_L_MTU,
        .BQL_L_RATE, .BQL_L_FEATURES, .BQL_L_TX_ACKED, .BQL_L_REPLAYS, .BQL_L_FLUSHES, .BQL_L_LOST_FIRST, .BQL_L_LOST_END,
        .BQL_L_PEER_DLV_VALID, .ARC_MEMBERS, .ARC_REL_PENDING]) lossParts) :=
    ⟨(helloSend_within _ _).mono (by rfl),
      within_ite ((resumeSession_within _ _).mono (by rfl)) ((flush_within _).mono (by rfl))⟩
  have hrun : (helloTimer l).run s.mach = (Act.seq (helloSend s.mach l)
      (if h.oldSession = s.mach.get .BQL_L_SESSION l then resumeSession l h else flush l)).run s.mach := by
    rw [helloTimer_run hs hen hp hin, Act.run_seq]
    by_cases hses : h.oldSession = s.mach.get .BQL_L_SESSION l
    · rw [if_pos hses, helloDone_run_resume h1 h2 h3 hst' (by rw [helloSend_get _ _ (by decide)]; exact hses)]
    · rw [if_neg hses, helloDone_run_flush h1 h2 h3 hst' (by rw [helloSend_get _ _ (by decide)]; exact hses)]
  refine completes_as rfl hrun hw (inside_refl _) ?_
  rw [Act.run_seq]
  refine ⟨hout _, ?_⟩
  by_cases hses : h.oldSession = s.mach.get .BQL_L_SESSION l
  · have hres := resumeSession_resumed l h ((helloSend s.mach l).run s.mach)
    rw [if_pos hses, if_pos hses, if_pos hses, hres.states, if_pos rfl, hres.flushes, helloSend_get _ _ (by decide)]
    exact ⟨rfl, rfl⟩
  · have hf := flush_flushed l ((helloSend s.mach l).run s.mach)
    rw [if_neg hses, if_neg hses, if_neg hses, hf.state, hf.flushes, helloSend_get _ _ (by decide)]
    exact ⟨rfl, rfl⟩

end Timer

/-- Settles O30: a HELLO by whether it is refused and what the exchange comes to, and the timer's likewise. -/
theorem helloExchange : Obligations.HelloExchange := by
  unfold Obligations.HelloExchange
  refine ⟨?_, ?_, ?_, ?_, ?_, ?_, ?_, ?_, ?_, ?_⟩
  case refine_1 => exact fun s l why h hs hen hp hd hr => completes_helloRefused hs hen hp hd hr
  case refine_2 => exact fun s l h hg hst hopen => completes_helloKept hg hst hopen
  case refine_3 =>
    intro s l h hg hc hst
    refine (completes_helloNew hg hc hst).imp fun t ht => ?_
    have hblink := greets_blink s.mach l h
    obtain ⟨hver, hmtu, hrate, hfeat⟩ := ht.mode
    have hnonce : ((s.mach.greets l h).blink l).nonce = (s.mach.blink l).nonce := by rw [hblink, greeted]
    have hflushed : ((s.mach.greets l h).blink l).flushed = (s.mach.blink l).flushed := by rw [hblink, greeted]
    refine ⟨?_, ?_, ht.next, ht.acked, ?_, hver, hmtu, ?_, hfeat, ht.budget, fun h1 h2 => ?_, fun h1 => ?_, fun j hj => ?_, fun j hj => ?_,
      fun j hj => ?_⟩
    · rw [ht.states, if_pos rfl]
    · rw [ht.sessions, if_pos rfl, greets_get (by decide), hnonce]
    · rw [ht.expects, if_pos rfl]
    · rw [hrate, greets_modeRate]
    · exact ht.delivered (hflushed ▸ h1) (hflushed ▸ h2)
    · obtain ⟨hd, hv⟩ := ht.undelivered (hflushed ▸ h1)
      rw [hd, hv, greets_get (by decide), greets_get (by decide)]
      exact ⟨rfl, rfl⟩
    · rw [ht.states, if_neg hj, greets_get (by decide)]
    · rw [ht.sessions, if_neg hj, greets_get (by decide)]
    · rw [ht.expects, if_neg hj, greets_get (by decide)]
  case refine_4 =>
    intro s l h hg hc hst hses
    refine (completes_helloResumed hg hc hst hses).imp fun t ht => ?_
    have hreplay : ((s.mach.greets l h).blink l).replay = (s.mach.blink l).replay := by rw [greets_blink, greeted]
    refine ⟨?_, ht.acked, ?_, ht.mtu, ht.budget, fun j hj => ?_, fun k hk => ?_⟩
    · rw [ht.states, if_pos rfl]
    · rw [ht.replay, hreplay]
    · rw [ht.states, if_neg hj, greets_get (by decide)]
    · rw [← greets_get (f := .BQL_L_RX_EXPECT) (by decide) s.mach l h]
      exact ht.sent k hk
  case refine_5 =>
    rintro s l h hg (hst | ⟨hc, hses, hst⟩)
    · exact completes_helloFlushed _ (hello_run_up hg hst)
    · exact completes_helloFlushed _ (hello_run_lost hg hc hses hst)
  case refine_6 =>
    exact fun s l h hno => completes_as (a := hello l h) (b := .skip) rfl (hello_run_deaf h hno) (within_skip (K := 0)) (by rfl) rfl
  case refine_7 => exact fun s l hs hen hp hst hopen => completes_helloTimerOpen hs hen hp hst hopen
  case refine_8 => exact fun s l h hs hen hp hst hpeer hgot => completes_helloTimerNew hs hen hp hpeer hgot hst
  case refine_9 => exact fun s l h hs hen hp hst hpeer hgot => completes_helloTimerLost hs hen hp hpeer hgot hst
  case refine_10 =>
    exact fun s l hst => completes_as (a := helloTimer l) (b := .skip) rfl (helloTimer_run_skip hst) (within_skip (K := 0))
      (by rfl) rfl

end Sys2Proof.Machine
end

section
/-!
PROOF. O31, members of an archipelago, held images, remote binds and their answers (R185, R266, R286 to R295, R301).
-/

namespace Sys2Proof.Machine

/-! ### A service message that reaches this sled -/

theorem svcFrom_run {m : Mach} {y : Msg} (a : Act) (h : m.hears y.src) (hb : svcBodyOk y = true) : (svcFrom y a).run m = a.run m := by
  obtain ⟨hsled, hlink, hself⟩ := h
  rw [svcFrom, Act.run_read, Act.run_when, hsled, hlink, bne_iff_ne.mpr hself, if_pos (by decide), if_pos hb]

theorem svcFrom_run_badBody {m : Mach} {y : Msg} (a : Act) (h : m.hears y.src) (hb : svcBodyOk y = false) :
    (svcFrom y a).run m = (protoErr (.peer y.src)).run m := by
  obtain ⟨hsled, hlink, hself⟩ := h
  rw [svcFrom, Act.run_read, Act.run_when, hsled, hlink, bne_iff_ne.mpr hself, if_pos (by decide), hb, if_neg (by decide)]

/-- The features that the link of a sender has settled cover what a service needs. -/
def Mach.featured (m : Mach) (r code : Nat) : Bool :=
  (m.upLink r).any fun l => (svcFeature code).all fun b => Bits.bit (m.get .BQL_L_FEATURES l) b

/-- A request is refused with a status before its service looks at it (R286, R287, R301). -/
def Mach.Refuses (m : Mach) (y : Msg) (status : Nat) : Prop :=
  (status = 5 ∧ (m.get .ARC_EN 0 ≠ 1 ∨ m.arc.left = true)) ∨
  (status = 4 ∧ m.get .ARC_EN 0 = 1 ∧ m.arc.left = false ∧ m.featured y.src y.code = false) ∨
  (status = 5 ∧ y.code ≠ mJoin ∧ Bits.bit (m.get .ARC_MEMBERS 0) y.src = false ∧ m.featured y.src y.code = true)

section Request

variable {m : Mach} {y : Msg} (a : Act)

/-- The order of the checks of a service request. -/
theorem svcIn_run (h : m.hears y.src) (hb : svcBodyOk y = true) : (svcIn y a).run m =
    (if !m.flag .ARC_EN || m.arc.left then svcReply y 5 []
     else if !m.featured y.src y.code then svcReply y 4 []
     else if y.code != mJoin && !Bits.bit (m.get .ARC_MEMBERS) y.src then svcReply y 5 [] else a).run m :=
  svcFrom_run _ h hb

theorem svcIn_run_serves (h : m.Serves y) : (svcIn y a).run m = a.run m := by
  obtain ⟨hears, hb, hen, hleft, hfeat, hmember⟩ := h
  have hfeat' : m.featured y.src y.code = true := hfeat
  have hin : (y.code != mJoin && !Bits.bit (m.get .ARC_MEMBERS) y.src) = false := by
    rcases hmember with hj | hbit
    · rw [hj, bne_self_eq_false, Bool.false_and]
    · rw [hbit, Bool.not_true, Bool.and_false]
  rw [svcIn_run a hears hb, Mach.flag, hen, hleft, if_neg (by decide), hfeat', if_neg (by decide), hin, if_neg (by decide)]

theorem svcIn_run_refuses {status : Nat} (h : m.hears y.src) (hb : svcBodyOk y = true) (hr : m.Refuses y status) :
    (svcIn y a).run m = (svcReply y status []).run m := by
  rw [svcIn_run a h hb]
  rcases hr with ⟨rfl, hoff⟩ | ⟨rfl, hen, hleft, hfeat⟩ | ⟨rfl, hj, hbit, hfeat⟩
  · have hc : (!m.flag .ARC_EN || m.arc.left) = true := by
      rcases hoff with hen | hleft
      · rw [Mach.flag, beq_false_of_ne hen, Bool.not_false, Bool.true_or]
      · rw [hleft, Bool.or_true]
    rw [if_pos hc]
  · rw [Mach.flag, hen, hleft, if_neg (by decide), hfeat, if_pos (by decide)]
  · rw [hfeat, bne_iff_ne.mpr hj, hbit, Bool.not_true, if_neg (by decide : ¬ false = true), Bool.not_false, Bool.and_true,
      if_pos rfl, ite_self]

end Request

/-! ### Answers -/

theorem send_txq (r : Nat) (x : Msg) (m : Mach) :
    ((send r x).run m).bql.txq = m.bql.txq ++ if m.linkHolds r then [(r, x)] else [] := by
  rw [send, Act.run_read, Act.run_all_cons, Act.run_all_one, Act.run_when]
  split
  · rfl
  · exact (List.append_nil _).symm

theorem svcReply_replied (y : Msg) (status : Nat) (body : List Byte) (m : Mach) :
    Mach.Replied y status body m ((svcReply y status body).run m) :=
  ⟨send_out .., send_txq ..⟩

/-- What an answer holds depends on the sled's number alone. -/
theorem svcAnswer_congr {a b : Mach} (h : b.get .ARC_SLED_ID 0 = a.get .ARC_SLED_ID 0) (y : Msg) (status : Nat) (body : List Byte) :
    b.svcAnswer y status body = a.svcAnswer y status body := by
  rw [Mach.svcAnswer, Mach.svcAnswer, Mach.mkMsg, Mach.mkMsg, Mach.self, Mach.self, h]

/-- A service request that ends in its answer alone. -/
theorem completes_svcReply {c : Instr} {s : State} {y : Msg} {a b : Act} {status : Nat} {body : List Byte} (e : exec c s = s.act (svcIn y b))
    (h : (svcIn y b).run s.mach = a.run s.mach) (ha : a.run s.mach = (svcReply y status body).run s.mach) :
    Completes c s [] [.out, .bql] fun t => Mach.Replied y status body s.mach t :=
  completes_as e (h.trans ha) (svcReply_within _ _ _) (by rfl) (svcReply_replied ..)

/-- The service requests of Table 13.2 and the code of each. -/
def svcRequests (x : Msg) : List (Instr × Nat) :=
  [(.join x, mJoin), (.leave x, mLeave), (.imgPut x, mImgPut), (.imgGet x, mImgGet), (.imgRelease x, mImgRelease),
    (.imgEvict x, mImgEvict), (.mirWr x, mMirWr), (.mirOwn x, mMirOwn), (.mirPage x, mMirPage), (.mirFetch x, mMirFetch),
    (.pair x, mPair), (.claim x, mClaim), (.heal x, mHeal), (.handover x, mHandover), (.rmtBind x, mRmtBind)]

theorem exec_svcRequest {x : Msg} {c : Instr} {code : Nat} (h : (c, code) ∈ svcRequests x) :
    ∃ a, ∀ s, exec c s = s.act (svcIn { x with code := code } a) := by
  simp only [svcRequests, List.mem_cons, List.not_mem_nil, Prod.mk.injEq, or_false] at h
  obtain ⟨rfl, rfl⟩ | ⟨rfl, rfl⟩ | ⟨rfl, rfl⟩ | ⟨rfl, rfl⟩ | ⟨rfl, rfl⟩ | ⟨rfl, rfl⟩ | ⟨rfl, rfl⟩ | ⟨rfl, rfl⟩ | ⟨rfl, rfl⟩ | ⟨rfl, rfl⟩ |
    ⟨rfl, rfl⟩ | ⟨rfl, rfl⟩ | ⟨rfl, rfl⟩ | ⟨rfl, rfl⟩ | ⟨rfl, rfl⟩ := h
  all_goals exact ⟨_, fun _ => rfl⟩

/-- The service messages: the requests, IMG_DATA and SVC_ACK. -/
theorem exec_svcMessage {x : Msg} {c : Instr} {code : Nat}
    (h : (c, code) ∈ svcRequests x ∨ (c, code) = (.imgData x, mImgData) ∨ (c, code) = (.svcAck x, mSvcAck)) :
    ∃ a, ∀ s, exec c s = s.act (svcFrom { x with code := code } a) := by
  rcases h with h | h | h
  · obtain ⟨a, ha⟩ := exec_svcRequest h
    exact ⟨_, ha⟩
  · obtain ⟨rfl, rfl⟩ := Prod.mk.injEq .. ▸ h
    exact ⟨_, fun _ => rfl⟩
  · obtain ⟨rfl, rfl⟩ := Prod.mk.injEq .. ▸ h
    exact ⟨_, fun _ => rfl⟩

theorem completes_svcBadBody {s : State} {x : Msg} {c : Instr} {code : Nat}
    (hc : (c, code) ∈ svcRequests x ∨ (c, code) = (.imgData x, mImgData) ∨ (c, code) = (.svcAck x, mSvcAck)) (h : s.mach.hears x.src)
    (hb : svcBodyOk { x with code := code } = false) :
    Completes c s (detectFields ++ [.DIR_PROTO_ERR]) [.out, .lines, .host, .bkw, .lhl] fun t =>
      t.get .DIR_PROTO_ERR 0 = (s.mach.get .DIR_PROTO_ERR 0 + 1) % 2 ^ 32 := by
  obtain ⟨a, ha⟩ := exec_svcMessage hc
  exact completes_as (ha s) (svcFrom_run_badBody (y := { x with code := code }) a h hb) (protoErr_within _) (by rfl)
    (protoErr_get ..)

theorem completes_svcRefused {s : State} {x : Msg} {c : Instr} {code status : Nat} (hc : (c, code) ∈ svcRequests x)
    (h : s.mach.hears x.src) (hb : svcBodyOk { x with code := code } = true) (hr : s.mach.Refuses { x with code := code } status) :
    Completes c s [] [.out, .bql] fun t => Mach.Replied { x with code := code } status [] s.mach t := by
  obtain ⟨a, ha⟩ := exec_svcRequest hc
  exact completes_svcReply (ha s) (svcIn_run_refuses (y := { x with code := code }) a h hb hr) rfl

/-! ### Leaving -/

/-- No leave of this sled goes on, and no member's LEAVE waits for its answer. -/
def Mach.Staying (m : Mach) : Prop := m.get .ARC_LEAVE 0 ≠ 1 ∧ m.arc.leaveAsked = []

theorem leaveCheck_run_staying {m : Mach} (h : m.Staying) : leaveCheck.run m = m := by
  obtain ⟨hleave, hasked⟩ := h
  have hflag : m.flag .ARC_LEAVE = false := beq_false_of_ne hleave
  rw [leaveCheck, Act.run_read, hasked, hflag, Bool.false_and, Act.run_all_cons, Act.run_all_cons, Act.run_all_one, List.filter_nil,
    Act.run_each_nil, Act.run_when, if_neg (by decide), Act.run_read, hflag, Bool.false_and, Bool.false_and, Bool.false_and, Act.run_when,
    if_neg (by decide)]

/-- A program leaves the images held. -/
structure Act.KeepsHeld (a : Act) : Prop where
  held : ∀ m, (a.run m).arc.held = m.arc.held

theorem keepsHeld_within {K : Nat} {a : Act} (ha : a.Within K) (h : K.testBit 613 = false) : a.KeepsHeld :=
  ⟨fun m => congrArg ArcSt.held (ha.arc m h)⟩

theorem keepsHeld_arc {f : ArcSt → ArcSt} (h : ∀ b, (f b).held = b.held) : (Act.prim (.arc f)).KeepsHeld := ⟨fun m => h m.arc⟩

theorem keepsHeld_read {f : Mach → Act} (h : ∀ m, (f m).KeepsHeld) : (Act.read f).KeepsHeld := ⟨fun m => (h m).held m⟩

theorem keepsHeld_newId {f : Nat → Act} (h : ∀ t, (f t).KeepsHeld) : (Act.newId f).KeepsHeld := ⟨fun m => (h _).held m.drewId⟩

theorem keepsHeld_nil : (Act.all []).KeepsHeld := ⟨fun _ => rfl⟩

theorem keepsHeld_cons {a : Act} {l : List Act} (ha : a.KeepsHeld) (hl : (Act.all l).KeepsHeld) : (Act.all (a :: l)).KeepsHeld := by
  cases l with
  | nil => exact ha
  | cons b l => exact ⟨fun m => (hl.held _).trans (ha.held m)⟩

theorem keepsHeld_each {α : Type} {l : List α} {f : α → Act} (h : ∀ x, (f x).KeepsHeld) : (Act.each l f).KeepsHeld :=
  ⟨each_keeps (fun b => b.arc.held) l fun x _ => (h x).held⟩

theorem keepsHeld_when {c : Bool} {a : Act} (h : a.KeepsHeld) : (Act.when c a).KeepsHeld := by
  cases c with
  | false => exact ⟨fun _ => rfl⟩
  | true => exact h

theorem send_keepsHeld (r : Nat) (x : Msg) : (send r x).KeepsHeld := keepsHeld_within (send_within r x) (by rfl)

theorem svcSend_keepsHeld (peer code line arg : Nat) (body : List Byte) : (svcSend peer code line arg body).KeepsHeld :=
  keepsHeld_newId fun _ => keepsHeld_read fun _ =>
    keepsHeld_cons (keepsHeld_arc fun _ => rfl) (keepsHeld_cons (send_keepsHeld ..) keepsHeld_nil)

theorem leaveCheck_keepsHeld : leaveCheck.KeepsHeld := by
  refine keepsHeld_read fun m => keepsHeld_cons ?_ (keepsHeld_cons ?_ (keepsHeld_cons ?_ keepsHeld_nil))
  · exact keepsHeld_each fun p => keepsHeld_cons (send_keepsHeld ..)
      (keepsHeld_cons (keepsHeld_within (dropMember_within p.1) (by rfl)) (keepsHeld_arc fun _ => rfl))
  · refine keepsHeld_when ?_
    split
    · exact keepsHeld_cons (keepsHeld_arc fun _ => rfl) (keepsHeld_each fun _ => svcSend_keepsHeld ..)
    · exact ⟨fun _ => rfl⟩
  · exact keepsHeld_read fun _ => keepsHeld_when ⟨fun _ => rfl⟩

theorem completes_leave {s : State} {x : Msg} (h : s.mach.Serves { x with code := mLeave }) : Completes (.leave x) s
    (detectFields ++ [.TDL_EPOCH_STOPS, .ARC_LEAVE, .ARC_MEMBERS]) [.pages, .out, .lines, .host, .bkw, .lhl, .arc, .bql] fun t =>
      t = (takeLeave { x with code := mLeave }).run s.mach :=
  completes_as rfl (svcIn_run_serves _ h) (takeLeave_within _) (by rfl) rfl

/-- What a LEAVE of a sled without pages here comes to. -/
def leaveAnswered (m : Mach) (p : Nat × Nat) : Act :=
  .all [send p.1 (m.mkMsg mSvcAck p.2 p.1 0), dropMember p.1,
    .prim (.arc fun a => { a with leaveAsked := a.leaveAsked.filter (· != p) })]

/-- A LEAVE is noted until it is answered. -/
def noteLeave (p : Nat × Nat) : Act := .prim (.arc fun a => { a with leaveAsked := a.leaveAsked ++ [p] })

theorem leaveCheck_run_answered {m : Mach} {p : Nat × Nat} (hp : m.arc.leaveAsked = [p]) (hpages : m.pagesAt p.1 = [])
    (hleave : m.get .ARC_LEAVE 0 ≠ 1) : leaveCheck.run m = (leaveAnswered m p).run m := by
  have hflag : m.flag .ARC_LEAVE = false := beq_false_of_ne hleave
  have hafter : ((leaveAnswered m p).run m).flag .ARC_LEAVE = false := by
    have hsend := (send_within p.1 (m.mkMsg mSvcAck p.2 p.1 0)).get .ARC_LEAVE 0 m (by rfl) (by rfl)
    have hdrop := (dropMember_within p.1).get .ARC_LEAVE 0 ((send p.1 (m.mkMsg mSvcAck p.2 p.1 0)).run m) (by rfl)
      (by rfl)
    refine beq_false_of_ne ?_
    rw [leaveAnswered, Act.run_all_cons, Act.run_all_cons, Act.run_all_one]
    exact ne_of_eq_of_ne (hdrop.trans hsend) hleave
  have hf : m.arc.leaveAsked.filter (fun p => (m.pagesAt p.1).isEmpty) = [p] := by
    rw [hp, List.filter_cons_of_pos (by rw [hpages]; rfl), List.filter_nil]
  rw [leaveCheck, Act.run_read, hf, hflag, Bool.false_and, Act.run_all_cons, Act.run_all_cons, Act.run_all_one, Act.run_when,
    if_neg (by decide), Act.run_each_cons, Act.run_each_nil, Act.run_read, ← leaveAnswered, hafter, Bool.false_and, Bool.false_and,
    Bool.false_and, Act.run_when, if_neg (by decide)]

theorem completes_leaveNow {s : State} {x : Msg} (h : s.mach.Serves { x with code := mLeave }) (hpages : s.mach.pagesAt x.src = [])
    (hasked : s.mach.arc.leaveAsked = []) (hleave : s.mach.get .ARC_LEAVE 0 ≠ 1) :
    Completes (.leave x) s [.ARC_MEMBERS] [.out, .arc, .bql] fun t =>
      t.out = s.mach.out ++ [.msg x.src (s.mach.mkMsg mSvcAck x.txid x.src 0)] ∧ t.arc.leaveAsked = [] ∧
      t.get .ARC_MEMBERS 0 = withBit (s.mach.get .ARC_MEMBERS 0) x.src false % 2 ^ 8 := by
  have hp : ((noteLeave (x.src, x.txid)).run s.mach).arc.leaveAsked = [(x.src, x.txid)] :=
    congrArg (· ++ [(x.src, x.txid)]) hasked
  have hrun : (takeLeave { x with code := mLeave }).run s.mach =
      (Act.seq (noteLeave (x.src, x.txid)) (leaveAnswered s.mach (x.src, x.txid))).run s.mach := by
    rw [takeLeave, Act.run_read]
    dsimp only
    rw [hpages, Act.run_all_cons, Act.run_all_cons, Act.run_all_one, Act.run_each_nil, Act.run_seq, ← noteLeave]
    exact leaveCheck_run_answered hp hpages hleave
  have hw : (Act.seq (noteLeave (x.src, x.txid)) (leaveAnswered s.mach (x.src, x.txid))).Within
      (places [.ARC_MEMBERS] [.out, .arc, .bql]) :=
    ⟨within_arc (by rfl), (send_within _ _).mono (by rfl), (dropMember_within _).mono (by rfl),
      within_arc (by rfl)⟩
  refine completes_as rfl ((svcIn_run_serves _ h).trans hrun) hw (inside_refl _) ?_
  rw [Act.run_seq, leaveAnswered, Act.run_all_cons, Act.run_all_cons, Act.run_all_one]
  refine ⟨?_, ?_, ?_⟩
  · exact ((dropMember_within x.src).out ((send x.src (s.mach.mkMsg mSvcAck x.txid x.src 0)).run
      ((noteLeave (x.src, x.txid)).run s.mach)) (by rfl)).trans (send_out ..)
  · have harc := ((dropMember_within x.src).arc ((send x.src (s.mach.mkMsg mSvcAck x.txid x.src 0)).run
      ((noteLeave (x.src, x.txid)).run s.mach)) (by rfl)).trans ((send_within _ _).arc _ (by rfl))
    refine (congrArg (fun b : ArcSt => b.leaveAsked.filter (· != (x.src, x.txid))) harc).trans ?_
    rw [hp, List.filter_cons_of_neg (by simp), List.filter_nil]
  · have hsend := (send_within x.src (s.mach.mkMsg mSvcAck x.txid x.src 0)).get .ARC_MEMBERS 0
      ((noteLeave (x.src, x.txid)).run s.mach) (by rfl) (by rfl)
    refine Eq.trans ?_ (congrArg (fun v => withBit v x.src false % 2 ^ 8) hsend)
    exact Mach.get_set_mod ..

/-! ### Held images -/

/-- A held image given up, but for the leave that may go on. -/
def dropHeld (m : Mach) (h : Held) : Act :=
  .all [movePlots (m.stripeHome (stripeOf h.ga)) (h.ga / 16) (h.img.bytes.length / 256) 1 0,
    .prim (.arc fun a => { a with held := a.held.filter (· != h) }), holdCounts, tallyUpdate (m.stripeHome (stripeOf h.ga))]

theorem freeHeld_run (h : Held) (m : Mach) : (freeHeld h).run m = leaveCheck.run ((dropHeld m h).run m) := by
  rw [freeHeld, Act.run_read, dropHeld]
  simp only [Act.run_all_cons, Act.run_all_one]

theorem dropHeld_held (h : Held) (m : Mach) : ((dropHeld m h).run m).arc.held = m.arc.held.filter (· != h) := by
  simp only [dropHeld, Act.run_all_cons, Act.run_all_one]
  rw [(tallyUpdate_within _).arc _ (by rfl), holdCounts_within.arc _ (by rfl)]
  exact congrArg (fun b : ArcSt => b.held.filter (· != h)) ((movePlots_within _ _ _ _ _).arc m (by rfl))

theorem dropHeld_leaveAsked (h : Held) (m : Mach) : ((dropHeld m h).run m).arc.leaveAsked = m.arc.leaveAsked := by
  simp only [dropHeld, Act.run_all_cons, Act.run_all_one]
  rw [(tallyUpdate_within _).arc _ (by rfl), holdCounts_within.arc _ (by rfl)]
  change ((movePlots (m.stripeHome (stripeOf h.ga)) (h.ga / 16) (h.img.bytes.length / 256) 1 0).run m).arc.leaveAsked = _
  rw [(movePlots_within _ _ _ _ _).arc _ (by rfl)]

theorem dropHeld_get (h : Held) {f : Fld} (hf : f ∉ plotFields ++ [.ARC_HOLD_USED, .ARC_HELD_IMAGES]) (i : Nat) (m : Mach) :
    ((dropHeld m h).run m).get f i = m.get f i := by
  have hw : (dropHeld m h).Within (places (plotFields ++ [.ARC_HOLD_USED, .ARC_HELD_IMAGES])
      [.out, .lines, .grain, .host, .bkw, .lhl, .arc]) :=
    ⟨(movePlots_within _ _ _ _ _).mono (by rfl), within_arc (by rfl), holdCounts_within.mono (by rfl),
      (tallyUpdate_within _).mono (by rfl)⟩
  obtain ⟨-, hget, -⟩ := hw.frame _ _ (inside_refl _) m
  exact hget f i hf

theorem holdCounts_images (m : Mach) : (holdCounts.run m).get .ARC_HELD_IMAGES 0 = m.arc.held.length % 2 ^ 48 := by
  rw [holdCounts, Act.run_read, Act.run_all_cons, Act.run_all_one, Mach.get_set_other (by decide), Mach.get_set_mod]
  rfl

theorem dropHeld_images (h : Held) (m : Mach) :
    ((dropHeld m h).run m).get .ARC_HELD_IMAGES 0 = (m.arc.held.filter (· != h)).length % 2 ^ 48 := by
  simp only [dropHeld, Act.run_all_cons, Act.run_all_one]
  rw [(tallyUpdate_within _).get _ _ _ (by rfl) (by rfl), holdCounts_images]
  exact congrArg (fun b : ArcSt => (b.held.filter (· != h)).length % 2 ^ 48)
    ((movePlots_within _ _ _ _ _).arc m (by rfl))

theorem freeHeld_held (h : Held) (m : Mach) : ((freeHeld h).run m).arc.held = m.arc.held.filter (· != h) := by
  rw [freeHeld_run, leaveCheck_keepsHeld.held, dropHeld_held]

theorem freeHeld_images (h : Held) (m : Mach) :
    ((freeHeld h).run m).get .ARC_HELD_IMAGES 0 = (m.arc.held.filter (· != h)).length % 2 ^ 48 := by
  rw [freeHeld_run, leaveCheck_within.get _ _ _ (by rfl) (by rfl), dropHeld_images]

/-- While the sled stays, an image given up leaves the members, and the sled stays. -/
theorem freeHeld_staying (h : Held) {m : Mach} (hm : m.Staying) :
    ((freeHeld h).run m).Staying ∧ ((freeHeld h).run m).get .ARC_MEMBERS 0 = m.get .ARC_MEMBERS 0 := by
  have hdrop : ((dropHeld m h).run m).Staying := by
    obtain ⟨hleave, hasked⟩ := hm
    exact ⟨ne_of_eq_of_ne (dropHeld_get h (by decide) 0 m) hleave, (dropHeld_leaveAsked h m).trans hasked⟩
  rw [freeHeld_run, leaveCheck_run_staying hdrop]
  exact ⟨hdrop, dropHeld_get h (by decide) 0 m⟩

/-- The image that a request brings. -/
def msgImage (x : Msg) : Image := Image.parse (x.body.take 64) (x.body.drop 64)

theorem takeImgPut_run_refused {m : Mach} {y : Msg}
    (h : m.get .GRN_LEVEL 0 ≠ 0 ∨ (msgImage y).bytes.length < 256 ∨ m.poolPlace (msgImage y) = none) :
    (takeImgPut y).run m = (svcReply y 1 []).run m := by
  have hnone : (if m.get .GRN_LEVEL 0 = 0 ∧ (msgImage y).bytes.length / 256 ≠ 0 then m.poolPlace (msgImage y) else none) = none := by
    rw [ite_eq_right_iff]
    rintro ⟨hl, hn⟩
    rcases h with h | h | h
    · exact absurd hl h
    · exact absurd (Nat.div_eq_of_lt h) hn
    · exact h
  rw [takeImgPut, Act.run_read]
  dsimp only
  rw [← msgImage, hnone]

/-- The record of a held image at the plot `p`. -/
def heldRec (y : Msg) (p : Nat) : PageRec :=
  { base := 16 * p, alloc := (msgImage y).bytes.length / 256, tier := .deep, size := (msgImage y).size, epoch := (msgImage y).epoch }

/-- Where an image goes before the answer does: plots, bytes, record pair, list and counts. -/
def holdImage (m : Mach) (y : Msg) (h p : Nat) : Act :=
  .all [movePlots h p ((msgImage y).bytes.length / 256) 0 1, .prim (.poke (256 * p) (msgImage y).bytes),
    chargeExtent (16 * p) ((msgImage y).bytes.length / 256) (m.masterOf (.peer y.src 0)) true,
    .prim (.poke (m.pairAddr p) (m.recordSealed (m.pairAddr p / 16) (heldRec y p) ++ y.body.take 64)),
    .prim (.arc fun a => { a with held := a.held ++ [{ ga := 16 * p, img := msgImage y, home := y.src }] }),
    holdCounts, tallyUpdate h, tagOp (64 + ((m.upLink y.src).getD 0) / 8) mImgPut (16 * p) 0 0 [1, 3, 5, 6]]

/-- The fields that a held image changes. -/
def holdFields : List Fld := plotFields ++ countFields ++ [.ARC_HOLD_USED, .ARC_HELD_IMAGES, .RGL_M_LINES, .SND_T_LOST]

theorem holdImage_within (m : Mach) (y : Msg) (h p : Nat) : (holdImage m y h p).Within
    (places holdFields [.dram, .out, .freeCtr, .lines, .grain, .host, .bkw, .lhl, .arc, .snd, .rgl]) :=
  ⟨(movePlots_within _ _ _ _ _).mono (by rfl), within_poke (by rfl),
    (chargeExtent_within _ _ _ _).mono (by rfl), within_poke (by rfl), within_arc (by rfl),
    holdCounts_within.mono (by rfl), (tallyUpdate_within _).mono (by rfl),
    (tagOp_within _ _ _ _ _ _).mono (by rfl)⟩

theorem takeImgPut_run_held {m : Mach} {y : Msg} {h p : Nat} (hl : m.get .GRN_LEVEL 0 = 0) (hn : 256 ≤ (msgImage y).bytes.length)
    (hp : m.poolPlace (msgImage y) = some (h, p)) :
    (takeImgPut y).run m = (Act.seq (holdImage m y h p) (svcReply y 0 (Bits.leBytes 8 (16 * p)))).run m := by
  have hsome : (if m.get .GRN_LEVEL 0 = 0 ∧ (msgImage y).bytes.length / 256 ≠ 0 then m.poolPlace (msgImage y) else none) = some (h, p) := by
    rw [if_pos ⟨hl, by omega⟩, hp]
  rw [takeImgPut, Act.run_read]
  dsimp only
  rw [← msgImage, hsome, Act.run_seq]
  exact Act.run_all_append [_, _, _, _, _, _, _, _] [_] m

theorem holdImage_held (m : Mach) (y : Msg) (h p : Nat) : ((holdImage m y h p).run m).arc.held =
    m.arc.held ++ [{ ga := 16 * p, img := msgImage y, home := y.src }] := by
  simp only [holdImage, Act.run_all_cons, Act.run_all_one]
  rw [(tagOp_within _ _ _ _ _ _).arc _ (by rfl), (tallyUpdate_within _).arc _ (by rfl),
    holdCounts_within.arc _ (by rfl)]
  refine congrArg (fun b : ArcSt => b.held ++ [{ ga := 16 * p, img := msgImage y, home := y.src }]) ?_
  exact ((chargeExtent_within _ _ _ _).arc _ (by rfl)).trans ((movePlots_within _ _ _ _ _).arc m (by rfl))

theorem holdImage_images (m : Mach) (y : Msg) (h p : Nat) :
    ((holdImage m y h p).run m).get .ARC_HELD_IMAGES 0 = ((holdImage m y h p).run m).arc.held.length % 2 ^ 48 := by
  simp only [holdImage, Act.run_all_cons, Act.run_all_one]
  rw [(tagOp_within _ _ _ _ _ _).get _ _ _ (by rfl) (by rfl), (tagOp_within _ _ _ _ _ _).arc _ (by rfl),
    (tallyUpdate_within _).get _ _ _ (by rfl) (by rfl), (tallyUpdate_within _).arc _ (by rfl),
    holdCounts_images, holdCounts_within.arc _ (by rfl)]

/-- An answer that leaves after a program that keeps the sled's number. -/
theorem svcReply_after {a : Act} {m : Mach} (hid : (a.run m).get .ARC_SLED_ID 0 = m.get .ARC_SLED_ID 0) (y : Msg) (status : Nat)
    (body : List Byte) : ∃ r, ((svcReply y status body).run (a.run m)).out = m.out ++ r ++ [.msg y.src (m.svcAnswer y status body)] := by
  obtain ⟨hout, -⟩ := svcReply_replied y status body (a.run m)
  obtain ⟨r, hr⟩ := Act.run_out_append a m
  exact ⟨r, by rw [hout, hr, svcAnswer_congr hid]⟩

section Images

variable {s : State} {x : Msg}

theorem completes_imgPutRefused (hs : s.mach.Serves { x with code := mImgPut })
    (h : s.mach.get .GRN_LEVEL 0 ≠ 0 ∨ (msgImage x).bytes.length < 256 ∨ s.mach.poolPlace (msgImage x) = none) :
    Completes (.imgPut x) s [] [.out, .bql] fun t => Mach.Replied { x with code := mImgPut } 1 [] s.mach t :=
  completes_svcReply rfl (svcIn_run_serves _ hs) (takeImgPut_run_refused (y := { x with code := mImgPut }) h)

theorem completes_imgPutHeld {h p : Nat} (hs : s.mach.Serves { x with code := mImgPut }) (hl : s.mach.get .GRN_LEVEL 0 = 0)
    (hn : 256 ≤ (msgImage x).bytes.length) (hp : s.mach.poolPlace (msgImage x) = some (h, p)) :
    Completes (.imgPut x) s (plotFields ++ countFields ++ [.ARC_HOLD_USED, .ARC_HELD_IMAGES, .RGL_M_LINES, .SND_T_LOST])
      [.dram, .out, .freeCtr, .lines, .grain, .host, .bkw, .lhl, .arc, .bql, .snd, .rgl] fun t =>
      t.arc.held = s.mach.arc.held ++ [{ ga := 16 * p, img := msgImage x, home := x.src }] ∧
      t.get .ARC_HELD_IMAGES 0 = (s.mach.arc.held.length + 1) % 2 ^ 48 ∧
      ∃ r, t.out = s.mach.out ++ r ++ [.msg x.src (s.mach.svcAnswer { x with code := mImgPut } 0 (Bits.leBytes 8 (16 * p)))] := by
  have hrun := takeImgPut_run_held (y := { x with code := mImgPut }) hl hn hp
  have hw : (Act.seq (holdImage s.mach { x with code := mImgPut } h p)
      (svcReply { x with code := mImgPut } 0 (Bits.leBytes 8 (16 * p)))).Within (places holdFields
      [.dram, .out, .freeCtr, .lines, .grain, .host, .bkw, .lhl, .arc, .bql, .snd, .rgl]) :=
    ⟨(holdImage_within _ _ _ _).mono (by rfl), (svcReply_within _ _ _).mono (by rfl)⟩
  refine completes_as rfl ((svcIn_run_serves _ hs).trans hrun) hw (inside_refl _) ?_
  have hheld := holdImage_held s.mach { x with code := mImgPut } h p
  rw [Act.run_seq]
  refine ⟨?_, ?_, svcReply_after ?_ _ _ _⟩
  · rw [(svcReply_within _ _ _).arc _ (by rfl), hheld]
    rfl
  · rw [(svcReply_within _ _ _).get _ _ _ (by rfl) (by rfl), holdImage_images, hheld, List.length_append]
    rfl
  · exact (holdImage_within _ _ _ _).get _ _ _ (by rfl) (by rfl)

theorem completes_imgGetNone (hs : s.mach.Serves { x with code := mImgGet }) (h : s.mach.heldOf { x with code := mImgGet } = none) :
    Completes (.imgGet x) s [] [.out, .bql] fun t => t.out = s.mach.out ++
      [.msg x.src { s.mach.mkMsg mImgData x.txid x.home x.line with rqs := x.rqs, agent := x.agent, opst := 2 }] := by
  have hrun : (takeImgGet { x with code := mImgGet }).run s.mach = (send x.src
      { s.mach.mkMsg mImgData x.txid x.home x.line with rqs := x.rqs, agent := x.agent, opst := 2 }).run s.mach := by
    rw [takeImgGet, Act.run_read]
    dsimp only
    rw [h]
  exact completes_as rfl ((svcIn_run_serves _ hs).trans hrun) (send_within _ _) (by rfl) (send_out ..)

theorem completes_imgGetHeld {h : Held} (hs : s.mach.Serves { x with code := mImgGet })
    (hh : s.mach.heldOf { x with code := mImgGet } = some h) :
    Completes (.imgGet x) s [] [.out, .bql] fun t => t.out = s.mach.out ++
      [.msg x.src { s.mach.mkMsg mImgData x.txid x.home x.line with
        rqs := x.rqs, agent := x.agent, body := Crypto.bytes h.img.header ++ Dram.read s.mach.dram (16 * h.ga) h.img.bytes.length }] := by
  have hrun : (takeImgGet { x with code := mImgGet }).run s.mach = (send x.src { s.mach.mkMsg mImgData x.txid x.home x.line with
      rqs := x.rqs, agent := x.agent,
      body := Crypto.bytes h.img.header ++ Dram.read s.mach.dram (16 * h.ga) h.img.bytes.length }).run s.mach := by
    rw [takeImgGet, Act.run_read]
    dsimp only
    rw [hh]
  exact completes_as rfl ((svcIn_run_serves _ hs).trans hrun) (send_within _ _) (by rfl) (send_out ..)

theorem completes_imgReleaseNone (hs : s.mach.Serves { x with code := mImgRelease })
    (h : s.mach.heldOf { x with code := mImgRelease } = none) :
    Completes (.imgRelease x) s [] [.out, .bql] fun t => Mach.Replied { x with code := mImgRelease } 2 [] s.mach t :=
  completes_svcReply rfl (svcIn_run_serves _ hs) (by rw [takeImgRelease, Act.run_read, h])

theorem completes_imgReleaseHeld {h : Held} (hs : s.mach.Serves { x with code := mImgRelease })
    (hh : s.mach.heldOf { x with code := mImgRelease } = some h) :
    Completes (.imgRelease x) s (plotFields ++ [.ARC_LEAVE, .ARC_MEMBERS, .ARC_HOLD_USED, .ARC_HELD_IMAGES])
      [.out, .lines, .grain, .host, .bkw, .lhl, .arc, .bql] fun t =>
      t.arc.held = s.mach.arc.held.filter (· != h) ∧ t.get .ARC_HELD_IMAGES 0 = t.arc.held.length % 2 ^ 48 ∧
      ∃ r, t.out = s.mach.out ++ r ++ [.msg x.src (s.mach.svcAnswer { x with code := mImgRelease } 0 [])] := by
  have hrun : (takeImgRelease { x with code := mImgRelease }).run s.mach =
      (Act.seq (freeHeld h) (svcReply { x with code := mImgRelease } 0 [])).run s.mach := by
    rw [takeImgRelease, Act.run_read, hh]
  have hw : (Act.seq (freeHeld h) (svcReply { x with code := mImgRelease } 0 [])).Within (places (plotFields ++ [.ARC_LEAVE, .ARC_MEMBERS,
      .ARC_HOLD_USED, .ARC_HELD_IMAGES]) [.out, .lines, .grain, .host, .bkw, .lhl, .arc, .bql]) :=
    ⟨(freeHeld_within _).mono (by rfl), (svcReply_within _ _ _).mono (by rfl)⟩
  refine completes_as rfl ((svcIn_run_serves _ hs).trans hrun) hw (inside_refl _) ?_
  have harc := (svcReply_within { x with code := mImgRelease } 0 []).arc ((freeHeld h).run s.mach) (by rfl)
  rw [Act.run_seq]
  refine ⟨?_, ?_, svcReply_after ?_ _ _ _⟩
  · rw [harc, freeHeld_held]
  · rw [harc, (svcReply_within _ _ _).get _ _ _ (by rfl) (by rfl), freeHeld_images, freeHeld_held]
  · exact (freeHeld_within _).get _ _ _ (by rfl) (by rfl)

theorem completes_imgEvictNone (hs : s.mach.Serves { x with code := mImgEvict })
    (h : ∀ p, p ∈ s.mach.pages → p.2.rcd.tier = .offshore → p.2.rcd.offPeer = x.src → p.2.offIsn ≠ Bits.leNat ((x.body.drop 8).take 8)) :
    Completes (.imgEvict x) s [] [.out, .bql] fun t => Mach.Replied { x with code := mImgEvict } 2 [] s.mach t := by
  refine completes_svcReply rfl (svcIn_run_serves _ hs) ?_
  rw [takeImgEvict, Act.run_read]
  dsimp only
  rw [List.find?_eq_none.mpr]
  intro p hp hq
  simp only [Bool.and_eq_true, beq_iff_eq] at hq
  obtain ⟨⟨⟨ht, ho⟩, hi⟩, -⟩ := hq
  exact h p hp ht ho hi

theorem completes_imgEvictFound {pn : Nat} {q : PageSt} (hs : s.mach.Serves { x with code := mImgEvict }) (hp : s.mach.pages = [(pn, q)])
    (ht : q.rcd.tier = .offshore) (ho : q.rcd.offPeer = x.src) (hi : q.offIsn = Bits.leNat ((x.body.drop 8).take 8))
    (hga : Bits.leNat (x.body.take 8) = gaByIsn ∨ Bits.leNat (x.body.take 8) = q.rcd.offExtent) :
    Completes (.imgEvict x) s (detectFields ++ [.TDL_EPOCH_STOPS]) [.pages, .out, .lines, .host, .bkw, .lhl, .arc, .bql] fun t =>
      t = (Act.seq (startRecall pn) (svcReply { x with code := mImgEvict } 0 [])).run s.mach := by
  have hrun : (takeImgEvict { x with code := mImgEvict }).run s.mach =
      (Act.seq (startRecall pn) (svcReply { x with code := mImgEvict } 0 [])).run s.mach := by
    rw [takeImgEvict, Act.run_read]
    dsimp only
    rw [hp, List.find?_cons_of_pos]
    rw [ht, ho, hi, beq_self_eq_true, beq_self_eq_true, beq_self_eq_true, Bool.true_and, Bool.true_and, Bool.true_and]
    rcases hga with hga | hga
    · rw [hga, beq_self_eq_true, Bool.true_or]
    · rw [hga, beq_self_eq_true, Bool.or_true]
  have hw : (Act.seq (startRecall pn) (svcReply { x with code := mImgEvict } 0 [])).Within (places (detectFields ++ [.TDL_EPOCH_STOPS])
      [.pages, .out, .lines, .host, .bkw, .lhl, .arc, .bql]) :=
    ⟨(startRecall_within _).mono (by rfl), (svcReply_within _ _ _).mono (by rfl)⟩
  exact completes_as rfl ((svcIn_run_serves _ hs).trans hrun) hw (inside_refl _) rfl

end Images

end Sys2Proof.Machine
end

section
/-!
PROOF. O31, joins, remote binds, images that come back and the answers to this sled's own requests (R287 to R295).
-/

namespace Sys2Proof.Machine

/-! ### Joining -/

/-- The images of a sled that joins again with another identity or number are given up. -/
def dropImages (m : Mach) (r ident gsn : Nat) : Act :=
  .when (ident != m.get .ARC_PEER_IDENT r || gsn != m.get .ARC_PEER_GSN r) (.each (m.arc.held.filter fun h => h.home == r) freeHeld)

/-- A release that was cut off goes out again. -/
def resendRelease (m : Mach) (r : Nat) (x : Release) : Act :=
  .seq (.prim (.arc fun a => { a with releases := a.releases.map fun y => if y = x then { y with sent := true } else y }))
    (send r { m.mkMsg mImgRelease x.txid m.self 0 with body := imgBody x.ga x.isn })

/-- A page at a sled that joins is lost with the sled's images, or recalled after a loss of the sled. -/
def rejoinPage (m : Mach) (r gsn pn : Nat) : Act :=
  if gsn != m.get .ARC_PEER_GSN r then .some? (m.atollOf pn) fun n => losePage n pn false
  else .when (m.arc.lostPeers.contains r) (startRecall pn)

/-- What a join does once the sender's identity and number are kept. -/
def rejoin (m : Mach) (r gsn : Nat) : Act :=
  .all [.each (m.pagesAt r) (rejoinPage m r gsn), .prim (.arc fun a => { a with lostPeers := a.lostPeers.filter (· != r) }),
    .each (m.arc.releases.filter fun x => x.peer == r) (resendRelease m r), pairUp r]

theorem joined_run (r ident gsn : Nat) (m : Mach) : (joined r ident gsn).run m =
    (rejoin m r gsn).run ((Act.set .ARC_PEER_GSN r gsn).run ((Act.set .ARC_PEER_IDENT r ident).run
      ((dropImages m r ident gsn).run ((Act.set .ARC_MEMBERS 0 (withBit (m.get .ARC_MEMBERS) r true)).run m)))) := by
  rw [joined, Act.run_read]
  dsimp only
  rw [Act.run_all_cons, Act.run_all_cons, Act.run_all_cons, Act.run_all_cons]
  rfl

theorem rejoin_within (m : Mach) (r gsn : Nat) :
    (rejoin m r gsn).Within (places lineFields [.pages, .out, .freeCtr, .lines, .dir, .host, .bkw, .lhl, .arc, .bql, .snd, .que, .fry]) := by
  refine within_all_cons (within_each fun pn => within_ite (within_some? fun n => (losePage_within n pn false).mono (by rfl))
    (within_when ((startRecall_within pn).mono (by rfl)))) (within_all_cons (within_arc (by rfl))
    (within_all_cons (within_each fun x => ⟨within_arc (by rfl), (send_within _ _).mono (by rfl)⟩)
      (within_all_one ((pairUp_within r).mono (by rfl)))))

theorem dropImages_within (m : Mach) (r ident gsn : Nat) :
    (dropImages m r ident gsn).Within (places (plotFields ++ [.ARC_LEAVE, .ARC_MEMBERS, .ARC_HOLD_USED, .ARC_HELD_IMAGES])
      [.out, .lines, .grain, .host, .bkw, .lhl, .arc, .bql]) :=
  within_when (within_each fun h => (freeHeld_within h).mono (by rfl))

theorem freeHeld_each_members (l : List Held) {m : Mach} (hm : m.Staying) :
    ((Act.each l freeHeld).run m).get .ARC_MEMBERS 0 = m.get .ARC_MEMBERS 0 := by
  induction l generalizing m with
  | nil => rfl
  | cons h l ih =>
    obtain ⟨hstay, hmem⟩ := freeHeld_staying h hm
    rw [Act.run_each_cons, ih hstay, hmem]

theorem dropImages_members (a : Mach) (r ident gsn : Nat) {m : Mach} (hm : m.Staying) :
    ((dropImages a r ident gsn).run m).get .ARC_MEMBERS 0 = m.get .ARC_MEMBERS 0 := by
  rw [dropImages, Act.run_when]
  split
  · exact freeHeld_each_members _ hm
  · rfl

section Joined

variable (r ident gsn : Nat) (m : Mach)

theorem joined_ident (j : Nat) : ((joined r ident gsn).run m).get .ARC_PEER_IDENT j =
    if j = r then ident % 2 ^ 64 else m.get .ARC_PEER_IDENT j := by
  rw [joined_run, (rejoin_within _ _ _).get _ _ _ (by rfl) (by rfl), Mach.get_set_other (by decide)]
  split
  case isTrue h => rw [h, Mach.get_set_mod]; rfl
  case isFalse h =>
    rw [Mach.others_set _ _ _ _ j h, (dropImages_within _ _ _ _).get _ _ _ (by rfl) (by rfl),
      Mach.get_set_other (by decide)]

theorem joined_gsn (j : Nat) : ((joined r ident gsn).run m).get .ARC_PEER_GSN j =
    if j = r then gsn % 2 ^ 64 else m.get .ARC_PEER_GSN j := by
  rw [joined_run, (rejoin_within _ _ _).get _ _ _ (by rfl) (by rfl)]
  split
  case isTrue h => rw [h, Mach.get_set_mod]; rfl
  case isFalse h =>
    rw [Mach.others_set _ _ _ _ j h, Mach.get_set_other (by decide),
      (dropImages_within _ _ _ _).get _ _ _ (by rfl) (by rfl), Mach.get_set_other (by decide)]

theorem joined_members (hm : m.Staying) :
    ((joined r ident gsn).run m).get .ARC_MEMBERS 0 = withBit (m.get .ARC_MEMBERS 0) r true % 2 ^ 8 := by
  have hstay : ((Act.set .ARC_MEMBERS 0 (withBit (m.get .ARC_MEMBERS) r true)).run m).Staying := by
    obtain ⟨hleave, hasked⟩ := hm
    exact ⟨ne_of_eq_of_ne (Mach.get_set_other (by decide) ..) hleave, hasked⟩
  rw [joined_run, (rejoin_within _ _ _).get _ _ _ (by rfl) (by rfl), Mach.get_set_other (by decide),
    Mach.get_set_other (by decide), dropImages_members _ _ _ _ hstay, Mach.get_set_mod]
  rfl

end Joined

theorem completes_join {s : State} {x : Msg} (hs : s.mach.Serves { x with code := mJoin }) :
    Completes (.join x) s (lineFields ++ tallyFields ++ [.GRN_FREE, .GRN_ALLOCATED, .GRN_META, .GRN_QUAR, .ARC_LEAVE, .ARC_MEMBERS,
        .ARC_HOLD_USED, .ARC_HELD_IMAGES, .ARC_EVAC_LEFT, .ARC_PEER_IDENT, .ARC_PEER_GSN, .DRM_D_LEFT])
      [.pages, .out, .freeCtr, .lines, .dir, .grain, .host, .bkw, .lhl, .arc, .bql, .snd, .que, .fry] fun t =>
      (∃ r, t.out = s.mach.out ++ .msg x.src (s.mach.svcAnswer { x with code := mJoin } 0 (s.mach.joinBody x.src)) :: r) ∧
      t.get .ARC_PEER_IDENT x.src = Bits.leNat (x.body.take 8) % 2 ^ 64 ∧
      t.get .ARC_PEER_GSN x.src = Bits.leNat ((x.body.drop 8).take 8) % 2 ^ 64 ∧
      (s.mach.get .ARC_LEAVE 0 ≠ 1 → s.mach.arc.leaveAsked = [] →
        t.get .ARC_MEMBERS 0 = withBit (s.mach.get .ARC_MEMBERS 0) x.src true % 2 ^ 8) ∧
      Mach.Others .ARC_PEER_IDENT x.src s.mach t ∧ Mach.Others .ARC_PEER_GSN x.src s.mach t := by
  refine completes_as rfl (svcIn_run_serves _ hs) (takeJoin_within _) (by rfl) ?_
  rw [takeJoin, Act.run_read, Act.run_seq]
  dsimp only
  have hw := svcReply_within { x with code := mJoin } 0 (s.mach.joinBody x.src)
  obtain ⟨hout, -⟩ := svcReply_replied { x with code := mJoin } 0 (s.mach.joinBody x.src) s.mach
  obtain ⟨r, hr⟩ := Act.run_out_append (joined x.src (Bits.leNat (x.body.take 8)) (Bits.leNat ((x.body.drop 8).take 8)))
    ((svcReply { x with code := mJoin } 0 (s.mach.joinBody x.src)).run s.mach)
  refine ⟨⟨r, ?_⟩, ?_, ?_, fun hleave hasked => ?_, fun j hj => ?_, fun j hj => ?_⟩
  · rw [hr, hout, List.append_assoc]
    rfl
  · rw [joined_ident, if_pos rfl]
  · rw [joined_gsn, if_pos rfl]
  · have hget := hw.get .ARC_LEAVE 0 s.mach (by rfl) (by rfl)
    have harc := hw.arc s.mach (by rfl)
    rw [joined_members _ _ _ _ ⟨ne_of_eq_of_ne hget hleave, (congrArg ArcSt.leaveAsked harc).trans hasked⟩,
      hw.get _ _ _ (by rfl) (by rfl)]
  · rw [joined_ident, if_neg hj, hw.get _ _ _ (by rfl) (by rfl)]
  · rw [joined_gsn, if_neg hj, hw.get _ _ _ (by rfl) (by rfl)]

/-! ### Remote binds -/

/-- The atoll that a bind may name: Live, Normal, and homed here. -/
def Mach.bindable (m : Mach) (line : Nat) : Option Nat :=
  (m.atollAt line).filter fun n => m.get .ATL_STATE n == atlLive && !m.isBell n && !m.isRemote n

/-- A bind of a visitor is noted once. -/
def noteBind (n r : Nat) : Act := .prim (.arc fun a => { a with binds := a.binds.filter (· != (n, r)) ++ [(n, r)] })

section Bind

variable {s : State} {x : Msg} (hs : s.mach.Serves { x with code := mRmtBind })

include hs

theorem completes_rmtBindNone (h : s.mach.bindable x.line = none) :
    Completes (.rmtBind x) s [] [.out, .bql] fun t => Mach.Replied { x with code := mRmtBind } 2 [] s.mach t := by
  refine completes_svcReply rfl (svcIn_run_serves _ hs) ?_
  rw [takeRmtBind, Act.run_read]
  dsimp only
  rw [← Mach.bindable, h]

theorem completes_rmtBindDual {n : Nat} (h : s.mach.bindable x.line = some n) (hmir : s.mach.get .ATL_MIRROR n = 2) :
    Completes (.rmtBind x) s [] [.out, .bql] fun t => Mach.Replied { x with code := mRmtBind } 4 [] s.mach t := by
  refine completes_svcReply rfl (svcIn_run_serves _ hs) ?_
  rw [takeRmtBind, Act.run_read]
  dsimp only
  rw [← Mach.bindable, h]
  dsimp only
  rw [if_pos hmir]

theorem completes_rmtBind {n : Nat} (h : s.mach.bindable x.line = some n) (hmir : s.mach.get .ATL_MIRROR n ≠ 2) :
    Completes (.rmtBind x) s [] [.out, .arc, .bql] fun t =>
      Mach.Replied { x with code := mRmtBind } 0 (Bits.leBytes 8 (s.mach.entryWords n).1 ++ Bits.leBytes 8 (s.mach.entryWords n).2) s.mach t ∧
      t.arc = { s.mach.arc with binds := s.mach.arc.binds.filter (· != (n, x.src)) ++ [(n, x.src)] } := by
  have hrun : (takeRmtBind { x with code := mRmtBind }).run s.mach = (Act.seq (noteBind n x.src) (svcReply { x with code := mRmtBind } 0
      (Bits.leBytes 8 (s.mach.entryWords n).1 ++ Bits.leBytes 8 (s.mach.entryWords n).2))).run s.mach := by
    rw [takeRmtBind, Act.run_read]
    dsimp only
    rw [← Mach.bindable, h]
    dsimp only
    rw [if_neg hmir, noteBind]
  have hw : (Act.seq (noteBind n x.src) (svcReply { x with code := mRmtBind } 0
      (Bits.leBytes 8 (s.mach.entryWords n).1 ++ Bits.leBytes 8 (s.mach.entryWords n).2))).Within (places [] [.out, .arc, .bql]) :=
    ⟨within_arc (by rfl), (svcReply_within _ _ _).mono (by rfl)⟩
  refine completes_as rfl ((svcIn_run_serves _ hs).trans hrun) hw (inside_refl _) ?_
  rw [Act.run_seq]
  exact ⟨svcReply_replied .., (svcReply_within _ _ _).arc _ (by rfl)⟩

end Bind

/-! ### Images that come back -/

/-- The job that IMG_DATA of a peer ends. -/
def Mach.jobOf (m : Mach) (x : Msg) : Option ImgJob := m.arc.jobs.find? fun j => j.peer == x.src && j.txid == x.txid

/-- An image is not what the record asks for: the holder has none, or its tag is another (R160). -/
def Mach.wrongImage (m : Mach) (x : Msg) (j : ImgJob) : Bool :=
  (x.opst == 2 || x.body.isEmpty) || m.imageTag (msgImage x) != (m.page j.pn).rcd.offTag

theorem takeImgData_run_none {m : Mach} {x : Msg} (h : m.jobOf x = none) : (takeImgData x).run m = m := by
  rw [takeImgData, Act.run_read]
  dsimp only
  rw [← Mach.jobOf, h, Act.run_some?_none]

section Returned

variable {m : Mach} {x : Msg} {j : ImgJob} {n : Nat} (hj : m.jobOf x = some j) (hn : m.atollOf j.pn = some n)

include hj hn

theorem takeImgData_run_wrong (hw : m.wrongImage x j = true) (hk : j.kind ≠ .remoteRead) :
    (takeImgData x).run m = (Act.seq (endJob j) (losePage n j.pn (!(x.opst == 2 || x.body.isEmpty)))).run m := by
  rw [takeImgData, Act.run_read]
  dsimp only
  rw [← Mach.jobOf, hj, Act.run_some?_some, hn, Act.run_some?_some, ← msgImage, ← Mach.wrongImage, if_pos hw, Act.run_all_cons,
    Act.run_all_cons, Act.run_all_one, Act.run_when, beq_false_of_ne hk, if_neg (by decide), Act.run_seq]

theorem takeImgData_run_recall (hw : m.wrongImage x j = false) (hk : j.kind = .recall) : (takeImgData x).run m =
    (recallInto n j.pn j (m.openImage n (m.useNext n j.pn) (msgImage x)) (msgImage x).size).run m := by
  rw [takeImgData, Act.run_read]
  dsimp only
  rw [← Mach.jobOf, hj, Act.run_some?_some, hn, Act.run_some?_some, ← msgImage, ← Mach.wrongImage, hw, if_neg (by decide), hk]

theorem takeImgData_run_remoteRead (hw : m.wrongImage x j = false) (hk : j.kind = .remoteRead) : (takeImgData x).run m =
    (remoteRead n j (m.openImage n (m.useNext n j.pn) (msgImage x))).run m := by
  rw [takeImgData, Act.run_read]
  dsimp only
  rw [← Mach.jobOf, hj, Act.run_some?_some, hn, Act.run_some?_some, ← msgImage, ← Mach.wrongImage, hw, if_neg (by decide), hk]

end Returned

/-- No job of a peer has the number of a message. -/
def Mach.Jobless (m : Mach) (x : Msg) : Prop := ∀ j, j ∈ m.arc.jobs → j.peer = x.src → j.txid ≠ x.txid

section Data

variable {s : State} {x : Msg} (h : s.mach.hears x.src) (hb : svcBodyOk { x with code := mImgData } = true)

include h hb

theorem imgData_run : (svcFrom { x with code := mImgData } (takeImgData { x with code := mImgData })).run s.mach =
    (takeImgData { x with code := mImgData }).run s.mach := svcFrom_run (y := { x with code := mImgData }) _ h hb

theorem completes_imgDataNone (hno : s.mach.Jobless x) : Completes (.imgData x) s [] [] fun t => t = s.mach := by
  have hjob : s.mach.jobOf { x with code := mImgData } = none := by
    refine List.find?_eq_none.mpr fun j hj hq => ?_
    simp only [Bool.and_eq_true, beq_iff_eq] at hq
    obtain ⟨hpeer, htxid⟩ := hq
    exact hno j hj hpeer htxid
  exact completes_as (b := .skip) rfl ((imgData_run h hb).trans (takeImgData_run_none hjob)) (within_skip (K := 0)) (by rfl) rfl

variable {j : ImgJob} {n : Nat} (hj : s.mach.jobOf { x with code := mImgData } = some j) (hn : s.mach.atollOf j.pn = some n)

include hj hn

theorem completes_imgDataTaken (hop : x.opst ≠ 2) (hbody : x.body ≠ [])
    (htag : s.mach.imageTag (msgImage x) = (s.mach.page j.pn).rcd.offTag) (hk : j.kind = .recall ∨ j.kind = .remoteRead) :
    Completes (.imgData x) s (lineFields ++ tallyFields ++ [.GRN_FREE, .GRN_ALLOCATED, .GRN_META, .GRN_QUAR, .TIER_RECALLS, .ARC_LEAVE,
        .ARC_MEMBERS, .ARC_REL_PENDING, .ARC_EVAC_LEFT, .RGL_M_LINES, .DRM_D_LEFT, .SND_T_LOST])
      [.dram, .pages, .out, .freeCtr, .lines, .dir, .grain, .host, .bkw, .lhl, .arc, .bql, .snd, .que, .fry, .rgl] fun t =>
      t = (if j.kind = .recall then recallInto n j.pn j (s.mach.openImage n (s.mach.useNext n j.pn) (msgImage x)) (msgImage x).size
        else remoteRead n j (s.mach.openImage n (s.mach.useNext n j.pn) (msgImage x))).run s.mach := by
  have hright : s.mach.wrongImage { x with code := mImgData } j = false := by
    have hempty : x.body.isEmpty = false := List.isEmpty_eq_false_iff.mpr hbody
    have htag' : s.mach.imageTag (msgImage { x with code := mImgData }) = (s.mach.page j.pn).rcd.offTag := htag
    rw [Mach.wrongImage, htag', bne_self_eq_false, Bool.or_false]
    exact Bool.or_eq_false_iff.mpr ⟨beq_false_of_ne hop, hempty⟩
  rcases hk with hk | hk
  · rw [if_pos hk]
    exact completes_as rfl ((imgData_run h hb).trans (takeImgData_run_recall hj hn hright hk)) (recallInto_within _ _ _ _ _)
      (by rfl) rfl
  · rw [if_neg (by rw [hk]; exact nofun)]
    exact completes_as rfl ((imgData_run h hb).trans (takeImgData_run_remoteRead hj hn hright hk)) (remoteRead_within _ _ _)
      (by rfl) rfl

theorem completes_imgDataWrong (hw : x.opst = 2 ∨ x.body = [] ∨ s.mach.imageTag (msgImage x) ≠ (s.mach.page j.pn).rcd.offTag)
    (hk : j.kind ≠ .remoteRead) : Completes (.imgData x) s lineFields
      [.pages, .out, .freeCtr, .lines, .dir, .host, .bkw, .lhl, .arc, .bql, .snd, .que, .fry] fun t =>
      t = (Act.seq (endJob j) (losePage n j.pn (decide (x.opst ≠ 2 ∧ x.body ≠ [])))).run s.mach := by
  have hwrong : s.mach.wrongImage { x with code := mImgData } j = true := by
    rw [Mach.wrongImage, Bool.or_eq_true, Bool.or_eq_true, beq_iff_eq, List.isEmpty_iff, bne_iff_ne]
    exact or_assoc.mpr hw
  have hmiss : (!(x.opst == 2 || x.body.isEmpty)) = decide (x.opst ≠ 2 ∧ x.body ≠ []) := by
    rw [Bool.eq_iff_iff, decide_eq_true_iff, Bool.not_eq_true', Bool.or_eq_false_iff, beq_eq_false_iff_ne, List.isEmpty_eq_false_iff]
  have hrun := (imgData_run h hb).trans (takeImgData_run_wrong hj hn hwrong hk)
  rw [← hmiss]
  have hin : (Act.seq (endJob j) (losePage n j.pn (!(x.opst == 2 || x.body.isEmpty)))).Within (places lineFields
      [.pages, .out, .freeCtr, .lines, .dir, .host, .bkw, .lhl, .arc, .bql, .snd, .que, .fry]) :=
    ⟨(endJob_within _).mono (by rfl), (losePage_within _ _ _).mono (by rfl)⟩
  exact completes_as rfl hrun hin (inside_refl _) rfl

end Data

/-! ### Answers to this sled's requests -/

/-- The push or rewrite that an answer of a peer ends. -/
def Mach.pushOf (m : Mach) (x : Msg) : Option ImgJob :=
  m.arc.jobs.find? fun j => j.peer == x.src && j.txid == x.txid && (j.kind == .push || j.kind == .rewritePut)

/-- The release that an answer of a peer ends. -/
def Mach.releaseOf (m : Mach) (x : Msg) : Option Release := m.arc.releases.find? fun r => r.peer == x.src && r.txid == x.txid

/-- The noted request that an answer of a peer ends. -/
def Mach.askedOf (m : Mach) (x : Msg) : Option SvcReq := m.arc.svc.find? fun s => s.peer == x.src && s.txid == x.txid

/-- The order in which an answer finds what it ends. -/
theorem takeSvcAck_run (x : Msg) (m : Mach) : (takeSvcAck x).run m =
    (match m.pushOf x with
      | some j => Act.some? (m.atollOf j.pn) fun n => if x.opst = 0 then commitPush n j (Bits.leNat (x.body.take 8)) else nextHolder n j
      | none => match m.releaseOf x with
        | some r => .all [.prim (.arc fun a => { a with releases := a.releases.filter (· != r) }),
            .set .ARC_REL_PENDING 0 (m.arc.releases.length - 1)]
        | none => match m.askedOf x with
          | some q => .seq (.prim (.arc fun a => { a with svc := a.svc.erase q })) (svcAnswered q x)
          | none => protoErr (.peer x.src)).run m := by
  rfl

theorem pushOf_none {m : Mach} {x : Msg} (h : m.Jobless x) : m.pushOf x = none := by
  refine List.find?_eq_none.mpr fun j hj hq => ?_
  simp only [Bool.and_eq_true, beq_iff_eq] at hq
  obtain ⟨⟨hpeer, htxid⟩, -⟩ := hq
  exact h j hj hpeer htxid

theorem releaseOf_none {m : Mach} {x : Msg} (h : ∀ r, r ∈ m.arc.releases → r.peer = x.src → r.txid ≠ x.txid) : m.releaseOf x = none := by
  refine List.find?_eq_none.mpr fun r hr hq => ?_
  simp only [Bool.and_eq_true, beq_iff_eq] at hq
  obtain ⟨hpeer, htxid⟩ := hq
  exact h r hr hpeer htxid

theorem askedOf_none {m : Mach} {x : Msg} (h : ∀ q, q ∈ m.arc.svc → q.peer = x.src → q.txid ≠ x.txid) : m.askedOf x = none := by
  refine List.find?_eq_none.mpr fun q hq hp => ?_
  simp only [Bool.and_eq_true, beq_iff_eq] at hp
  obtain ⟨hpeer, htxid⟩ := hp
  exact h q hq hpeer htxid

section Ack

variable {s : State} {x : Msg} (h : s.mach.hears x.src) (hb : svcBodyOk { x with code := mSvcAck } = true)

include h hb

theorem svcAck_run : (svcFrom { x with code := mSvcAck } (takeSvcAck { x with code := mSvcAck })).run s.mach =
    (takeSvcAck { x with code := mSvcAck }).run s.mach := svcFrom_run (y := { x with code := mSvcAck }) _ h hb

theorem completes_svcAckPush {j : ImgJob} {n : Nat} (hj : s.mach.pushOf { x with code := mSvcAck } = some j)
    (hn : s.mach.atollOf j.pn = some n) :
    Completes (.svcAck x) s (lineFields ++ tallyFields ++ [.ATL_TDL_PAGE, .TIER_PUSHES, .TDL_PAGES, .TDL_SLOT_LINE, .TDL_SLOT_WINDOW,
        .ARC_REL_PENDING, .SND_T_LOST])
      [.pages, .out, .freeCtr, .lines, .dir, .grain, .keys, .host, .bkw, .lhl, .arc, .bql, .snd, .que, .fry] fun t =>
      t = (if x.opst = 0 then commitPush n j (Bits.leNat (x.body.take 8)) else nextHolder n j).run s.mach := by
  have hrun := (svcAck_run h hb).trans (takeSvcAck_run ..)
  rw [hj] at hrun
  dsimp only at hrun
  rw [hn, Act.run_some?_some] at hrun
  exact completes_as rfl hrun (within_ite ((commitPush_within _ _ _).mono (inside_refl _)) ((nextHolder_within _ _).mono (by rfl)))
    (by rfl) rfl

variable (hjob : s.mach.Jobless x)

include hjob

theorem completes_svcAckRelease {r : Release} (hr : s.mach.releaseOf { x with code := mSvcAck } = some r) :
    Completes (.svcAck x) s [.ARC_REL_PENDING] [.arc] fun t =>
      t.arc = { s.mach.arc with releases := s.mach.arc.releases.filter (· != r) } ∧
      t.get .ARC_REL_PENDING 0 = (s.mach.arc.releases.length - 1) % 2 ^ 32 := by
  have hrun := (svcAck_run h hb).trans (takeSvcAck_run ..)
  rw [pushOf_none (x := { x with code := mSvcAck }) hjob] at hrun
  dsimp only at hrun
  rw [hr] at hrun
  have hw : (Act.all [.prim (.arc fun a => { a with releases := a.releases.filter (· != r) }),
      .set .ARC_REL_PENDING 0 (s.mach.arc.releases.length - 1)]).Within (places [.ARC_REL_PENDING] [.arc]) :=
    ⟨within_arc (by rfl), within_set (by rfl)⟩
  exact completes_as rfl hrun hw (inside_refl _) ⟨rfl, Mach.get_set_mod ..⟩

variable (hrel : ∀ r, r ∈ s.mach.arc.releases → r.peer = x.src → r.txid ≠ x.txid)

include hrel

theorem svcAck_run_asked : (svcFrom { x with code := mSvcAck } (takeSvcAck { x with code := mSvcAck })).run s.mach =
    (match s.mach.askedOf { x with code := mSvcAck } with
      | some q => Act.seq (.prim (.arc fun a => { a with svc := a.svc.erase q })) (svcAnswered q { x with code := mSvcAck })
      | none => protoErr (.peer x.src)).run s.mach := by
  rw [svcAck_run h hb, takeSvcAck_run, pushOf_none (x := { x with code := mSvcAck }) hjob]
  dsimp only
  rw [releaseOf_none (x := { x with code := mSvcAck }) hrel]

theorem completes_svcAckAsked {q : SvcReq} (hq : s.mach.askedOf { x with code := mSvcAck } = some q) :
    Completes (.svcAck x) s (lineFields ++ tallyFields ++ [.ATL_STATE, .ATL_MIRROR, .ATL_VISITOR_WT, .ATL_TDL_STATE,
        .ATL_PARTNER, .ATL_PARTNER_UP, .ATL_ERR, .ATL_KEYS_ABSENT, .ATL_BACKING, .GRN_FREE, .GRN_ALLOCATED, .GRN_META, .GRN_QUAR,
        .TDL_SLOT_STATE, .ARC_LEAVE, .ARC_MEMBERS, .ARC_HOLD_USED, .ARC_HELD_IMAGES,
        .ARC_REL_PENDING, .ARC_EVAC_LEFT, .ARC_PAIR_STATUS, .ARC_PEER_IDENT, .ARC_PEER_GSN, .ARC_ATL_HOME, .ARC_ATL_REMOTE,
        .ARC_ATL_COPY, .ARC_ATL_FENCED, .ARC_ATL_RESYNC, .DRM_D_LEFT])
      [.pages, .out, .freeCtr, .lines, .dir, .grain, .keys, .host, .bkw, .lhl, .arc, .bql, .snd, .que, .fry] fun t =>
      t = (Act.seq (.prim (.arc fun a => { a with svc := a.svc.erase q })) (svcAnswered q { x with code := mSvcAck })).run s.mach := by
  have hrun := svcAck_run_asked h hb hjob hrel
  rw [hq] at hrun
  have hw : (Act.seq (.prim (.arc fun a => { a with svc := a.svc.erase q })) (svcAnswered q { x with code := mSvcAck })).Within
      (places (lineFields ++ tallyFields ++ [.ATL_STATE, .ATL_MIRROR, .ATL_VISITOR_WT, .ATL_TDL_STATE,
        .ATL_PARTNER, .ATL_PARTNER_UP, .ATL_ERR, .ATL_KEYS_ABSENT, .ATL_BACKING, .GRN_FREE, .GRN_ALLOCATED, .GRN_META, .GRN_QUAR,
        .TDL_SLOT_STATE, .ARC_LEAVE, .ARC_MEMBERS, .ARC_HOLD_USED, .ARC_HELD_IMAGES,
        .ARC_REL_PENDING, .ARC_EVAC_LEFT, .ARC_PAIR_STATUS, .ARC_PEER_IDENT, .ARC_PEER_GSN, .ARC_ATL_HOME, .ARC_ATL_REMOTE,
        .ARC_ATL_COPY, .ARC_ATL_FENCED, .ARC_ATL_RESYNC, .DRM_D_LEFT])
      [.pages, .out, .freeCtr, .lines, .dir, .grain, .keys, .host, .bkw, .lhl, .arc, .bql, .snd, .que, .fry]) :=
    ⟨within_arc (by rfl), (svcAnswered_within _ _).mono (by rfl)⟩
  exact completes_as rfl hrun hw (inside_refl _) rfl

theorem completes_svcAckUnknown (hsvc : ∀ q, q ∈ s.mach.arc.svc → q.peer = x.src → q.txid ≠ x.txid) :
    Completes (.svcAck x) s (detectFields ++ [.DIR_PROTO_ERR]) [.out, .lines, .host, .bkw, .lhl] fun t =>
      t.get .DIR_PROTO_ERR 0 = (s.mach.get .DIR_PROTO_ERR 0 + 1) % 2 ^ 32 := by
  have hrun := svcAck_run_asked h hb hjob hrel
  rw [askedOf_none (x := { x with code := mSvcAck }) hsvc] at hrun
  exact completes_as rfl hrun (protoErr_within _) (by rfl) (protoErr_get ..)

end Ack

/-! ### The obligation -/

/-- Settles O31. -/
theorem membersAndImages : Obligations.MembersAndImages := by
  unfold Obligations.MembersAndImages
  refine ⟨?_, ?_, ?_, ?_, ?_, ?_, ?_, ?_, ?_, ?_, ?_, ?_, ?_, ?_, ?_, ?_, ?_, ?_, ?_, ?_, ?_, ?_, ?_⟩
  case refine_1 =>
    intro s x y c hc hy h hb
    generalize y.code = code at hc hy
    subst hy
    refine completes_svcBadBody ?_ h hb
    simp only [svcRequests, List.mem_cons, List.not_mem_nil, or_false] at hc ⊢
    tauto
  case refine_2 =>
    intro s x y c status hc hy h hb hr
    generalize hcode : y.code = code at hc hy hr
    subst hy
    exact completes_svcRefused hc h hb hr
  case refine_3 =>
    intro s x y hy hs
    subst hy
    exact completes_join hs
  case refine_4 =>
    intro s x y hy hs hpages hasked hleave
    subst hy
    exact completes_leaveNow hs hpages hasked hleave
  case refine_5 =>
    intro s x y hy hs
    subst hy
    exact completes_leave hs
  case refine_6 =>
    intro s x y img hy hs himg h
    subst hy himg
    exact completes_imgPutRefused hs h
  case refine_7 =>
    intro s x y img h p hy hs himg hl hn hp
    subst hy himg
    exact completes_imgPutHeld hs hl hn hp
  case refine_8 =>
    intro s x y hy hs h
    subst hy
    exact completes_imgGetNone hs h
  case refine_9 =>
    intro s x y h hy hs hh
    subst hy
    exact completes_imgGetHeld hs hh
  case refine_10 =>
    intro s x y hy hs h
    subst hy
    exact completes_imgReleaseNone hs h
  case refine_11 =>
    intro s x y h hy hs hh
    subst hy
    exact completes_imgReleaseHeld hs hh
  case refine_12 =>
    intro s x y hy hs h
    subst hy
    exact completes_imgEvictNone hs h
  case refine_13 =>
    intro s x y pn q hy hs hp ht ho hi hga
    subst hy
    exact completes_imgEvictFound hs hp ht ho hi hga
  case refine_14 =>
    intro s x y hy h hb hno
    subst hy
    exact completes_imgDataNone h hb hno
  case refine_15 =>
    intro s x y j n img hy h hb hj hn himg hop hbody htag hk
    subst hy himg
    exact completes_imgDataTaken h hb hj hn hop hbody htag hk
  case refine_16 =>
    intro s x y j n img hy h hb hj hn himg hw hk
    subst hy himg
    exact completes_imgDataWrong h hb hj hn hw hk
  case refine_17 =>
    intro s x y hy hs h
    subst hy
    exact completes_rmtBindNone hs h
  case refine_18 =>
    intro s x y n hy hs h hmir
    subst hy
    exact completes_rmtBindDual hs h hmir
  case refine_19 =>
    intro s x y n hy hs h hmir
    subst hy
    exact completes_rmtBind hs h hmir
  case refine_20 =>
    intro s x y j n hy h hb hj hn
    subst hy
    exact completes_svcAckPush h hb hj hn
  case refine_21 =>
    intro s x y r hy h hb hjob hr
    subst hy
    exact completes_svcAckRelease h hb hjob hr
  case refine_22 =>
    intro s x y q hy h hb hjob hrel hq
    subst hy
    exact completes_svcAckAsked h hb hjob hrel hq
  case refine_23 =>
    intro s x y hy h hb hjob hrel hsvc
    subst hy
    exact completes_svcAckUnknown h hb hjob hrel hsvc

end Sys2Proof.Machine
end
